-- ==== Sys2Proof/Word.lean ====
section
/-!
DEFINITION. The word types of the aperture and its plainest bit-field arithmetic (R5): a register is a 32-bit word,
a field is named by its lowest bit and its width.
-/

namespace Sys2Proof

/-- A 32-bit register of the aperture. -/
abbrev Word := BitVec 32

/-- One byte of a memory, of flash or of a wire transfer. -/
abbrev Byte := BitVec 8

/-- The bits `lo .. lo + w - 1` of a word as a number (R5). -/
def Word.field (x : Word) (lo w : Nat) : Nat := x.toNat / 2 ^ lo % 2 ^ w

/-- The word with the bits `lo .. lo + w - 1` replaced by the low `w` bits of `v` (R5). -/
def Word.withField (x : Word) (lo w v : Nat) : Word :=
  BitVec.ofNat 32 (x.toNat % 2 ^ lo + (v % 2 ^ w) * 2 ^ lo + x.toNat / 2 ^ (lo + w) * 2 ^ (lo + w))

/-- The number a `w`-bit two's-complement field holds. -/
def signed (w v : Nat) : Int :=
  if v % 2 ^ w < 2 ^ (w - 1) then ((v % 2 ^ w : Nat) : Int) else ((v % 2 ^ w : Nat) : Int) - (2 ^ w : Nat)

/-- The `w`-bit two's-complement field that holds the low bits of `i`. -/
def unsigned (w : Nat) (i : Int) : Nat := (i % (2 ^ w : Nat)).toNat

/-- Saturation of a number to the signed range of `w` bits. -/
def satSigned (w : Nat) (i : Int) : Int := max (-(2 ^ (w - 1) : Nat)) (min i ((2 ^ (w - 1) : Nat) - 1))

end Sys2Proof
end

