-- ==== Sys2Proof/Syntax.lean ====
section
/-!
DEFINITION. The commands the block takes: one constructor of Instr for each row of spec/opcode_table.json, with the
row's operands. A row is an access on a port, a word on a bus, an event on a pin or a timed event inside the block; an
operand is what the outside (the host die, the board, the bays' analog side) brings with it.
-/

namespace Sys2Proof

/-- The ports that reach registers (R314). -/
inductive Port where
  | rp   -- register port
  | mp   -- management port
  | dbg  -- debug port
deriving DecidableEq, Repr

/-- Who makes a register access: the port and, on the register port, the stamp OT_RP_CLASS (R12, R35). -/
structure Requester where
  port : Port
  stamp : BitVec 3
deriving DecidableEq, Repr

/-- A register-port request (R34, R35). `strobes` is OT_RP_WSTRB of a write; `wide` is the width of a read (64 bits). -/
structure RpReq where
  addr : BitVec 21
  data : BitVec 64
  strobes : BitVec 8
  wide : Bool
  stamp : BitVec 3
  tag : BitVec 4
deriving DecidableEq, Repr

/-- What holds a power-on reset (R48, R49). -/
inductive PorSource where
  | porstN | vddAon | vddA18
deriving DecidableEq, Repr

/-- A memory test failure (R386): memory of R384, 4 KiB page, and whether a checker failed. -/
structure MemFail where
  memory : Nat
  page : Nat
  checker : Bool
deriving DecidableEq, Repr

/-- What start-up reads from outside (R43, R51, R354, R386): idle levels of STG_IMON in mV, the SFDP parameter missing (none:
usable), the JEDEC identity of the flash, the memory tests that fail, and the levels of the straps OT_I3C_ADDR[1:0]. -/
structure StartInputs where
  imonMv : List Nat
  sfdpMissing : Option Nat
  jedec : Nat
  memFail : List MemFail
  straps : BitVec 2 := 0
deriving DecidableEq, Repr

/-- Why a core leaves service (R29, R30). -/
inductive CoreFault where
  | lockstep (pc : Nat)
  | watchdog
  | memUe (addr : Nat)
deriving DecidableEq, Repr

/-- How the management port is given its dynamic address (R51): SETDASA at a static address, or ENTDAA. -/
inductive DynAddrKind where
  | setdasa (static : BitVec 7)
  | entdaa
deriving DecidableEq, Repr

/-- A pilot notice (R125). -/
structure Notice where
  yard : BitVec 7
  kind : BitVec 4
  lead : BitVec 8
  context : BitVec 6
  opClass : BitVec 8
  estimate : BitVec 16
  tag : BitVec 15
deriving DecidableEq, Repr

/-- The kinds of phase failure (R64). -/
inductive FailKind where
  | openPhase | stuck | implausible
deriving DecidableEq, Repr

/-- The domain-control inputs that answer an output (R220, R222). -/
inductive DomSignal where
  | oscRdy | memRdy | logicRdy | isoAck
deriving DecidableEq, Repr

/-- What a PMBus poll reads from a device (R306, R308), raw words as the bus carries them; none: no answer. -/
structure PmbReading where
  answered : Bool
  pecErrors : Nat
  statusWord : BitVec 16
  voutMode : Byte
  vin : BitVec 16
  iin : BitVec 16
  vout : BitVec 16
  iout : BitVec 16
  temp : BitVec 16
  pout : BitVec 16
  pin : BitVec 16
deriving DecidableEq, Repr

/-- How a raw PMBus read ends (R309, R312). -/
inductive RawResult where
  | done | nack | pec
deriving DecidableEq, Repr

/-- The command windows (R322). -/
inductive Window where
  | cmd | cmk | cmu
deriving DecidableEq, Repr

/-- A command written to a slot of a window and committed (R322-R325). -/
structure Cmd where
  win : Window
  slot : Nat
  q : Requester
  flags : Byte
  tag : Word
  op0 : BitVec 64
  op1 : BitVec 64
  op2 : BitVec 64
  op3 : BitVec 64
  op4 : BitVec 64
  seq : Word
deriving DecidableEq, Repr

/-- A telemetry descriptor as host memory holds it (R339). -/
structure Descriptor where
  gen : BitVec 16
  valid : Bool
  irq : Bool
  length : Nat
  buffer : BitVec 64
  next : BitVec 64
deriving DecidableEq, Repr

/-- What the estimator gathered (R168, R181): of 2,048 conversions the sum of 16c; of a slice's u in 512 shadow pairs the sum, and
the sum of its products with the capture slice's u. -/
structure TurnSum where
  sum : Int := 0
  prod : Int := 0
deriving DecidableEq, Repr

/-- The commands of the block, one constructor for each row of the table. -/
inductive Instr where
  /-- POWER_ON_RESET (R48). Supply detectors or a low OT_PORST_N of 2 µs or more hold and then release a power-on reset, and start-up begins in boot ROM. Operands: src: which detector or pin; lowNs: length of the OT_PORST_N low pulse, ns; i: what start-up reads from outside. -/
  | powerOnReset (src : PorSource) (lowNs : Nat) (i : StartInputs)
  /-- AON_DETECTOR_TRIP (R49). A trip of the OT_VDD_AON detector clears the OT_THERMTRIP latch and THM_TRIP_SRC. -/
  | aonDetectorTrip
  /-- DEAD_SLOW_ENTRY (R361). At step 5 of start-up Oteus enters dead-slow service and sets STG_RAIL.ON on both rails. -/
  | deadSlowEntry
  /-- IMAGE_READ_END (R352). The firmware image read into instruction RAM completes. Operands: readErr: the flash read ended with an error. -/
  | imageReadEnd (readErr : Bool)
  /-- ROLL_CALL (R360). Once both rails show PG, each fitted bay is probed, fenced if silent or failure-listed, and delay-equalised. Operands: tRt: round trip of every bay not excepted, ps; exceptions: (bay, some t_rt) or (bay, none) for a silent bay. -/
  | rollCall (tRt : Nat) (exceptions : List (Nat × Option Nat))
  /-- WAY_ON_TRANSITION (R363). With image verified, PLL locked 10 ms and no fatal fault, Oteus switches clocks, loads coefficients and bundles, starts cores and the cap loop, and enters way-on. -/
  | wayOnTransition
  /-- LOG_SCAN (R396). After the image read Oteus scans the whole logbook to find the next slot, sector severities and ages. -/
  | logScan
  /-- PLL_LOCK (R25). The PLL achieves lock after REFCLK is present within limits. -/
  | pllLock
  /-- PLL_UNLOCK (R26). CLK_L differs from the backup oscillator by over 2 % for 4 µs, so Oteus switches to backup clocks, slows loops and orders host frequency down. Operands: diff: frequency difference, 0.01 %. -/
  | pllUnlock (diff : Nat)
  /-- PLL_RELOCK (R26). The PLL has held lock for 10 ms after a loss, and Oteus returns to way-on and logs PLL_RELOCK. -/
  | pllRelock
  /-- GLB_RESET_CONTROL_PLANE (R364). A keyed GLB_RESET write with KIND 1 starts a control-plane reset that restarts the helm pair from instruction RAM. Operands: q: who writes. -/
  | glbResetControlPlane (q : Requester)
  /-- CONTROL_PLANE_RESET_END (R319). The helm pair has restarted and restored the command windows from the journal, and ports stop answering RETRY and PENDING. -/
  | controlPlaneResetEnd
  /-- GLB_RESET_BLOCK (R364). A keyed MGMT write of GLB_RESET with KIND 2 takes all domains to D4 and restarts the block through dead-slow service. Operands: q: who writes; i: what the restart reads from outside. -/
  | glbResetBlock (q : Requester) (i : StartInputs)
  /-- HELM_PAIR_FAILURE (R29). A lockstep mismatch, watchdog expiry or uncorrectable memory error removes the helm pair and a service core takes over from the journal. Operands: cause: what was detected. -/
  | helmPairFailure (cause : CoreFault)
  /-- SERVICE_CORE_FAILURE (R30). A failed service core's work passes to the other service core within 50 µs and its staged telemetry is discarded. Operands: core: 0 SC0, 1 SC1. -/
  | serviceCoreFailure (core : Nat) (cause : CoreFault)
  /-- REGISTER_WRITE (R8). A write to a register with no row of its own sets the fields it may set and records refusals in PG_ERR. Operands: r: the register-port request. -/
  | registerWrite (r : RpReq)
  /-- MP_PRIVATE_WRITE (R320). An I3C private write carries a read or write request to the registers, or is NACKed or marked MALFORMED. Operands: bytes: the private write, first byte first. -/
  | mpPrivateWrite (bytes : List Byte)
  /-- MP_PRIVATE_READ (R320). An I3C private read returns the status byte and any data of the last management-port request. -/
  | mpPrivateRead
  /-- I3C_DYNAMIC_ADDRESS (R51). The management port accepts a dynamic address by SETDASA or ENTDAA. Operands: how: SETDASA, ENTDAA; addr: the address given. -/
  | i3cDynamicAddress (how : DynAddrKind) (addr : BitVec 7)
  /-- I3C_DISEC_ENEC (R321). The controller disables or re-enables target interrupts, which gates in-band interrupts. Operands: enable: true ENEC, false DISEC. -/
  | i3cDisecEnec (enable : Bool)
  /-- IBI_RAISE (R321). When IBI_PEND is non-zero and the port may interrupt, Oteus raises an in-band interrupt whose acknowledgement clears the pending bits. Operands: ack: the controller acknowledges. -/
  | ibiRaise (ack : Bool)
  /-- OT_ACCESS_UPDATE (R316). An Update-DR of the OT_ACCESS instruction starts a debug register access unless one is busy. Operands: dr: the data register of R316. -/
  | otAccessUpdate (dr : BitVec 90)
  /-- PRT_H2M_WRITE (R321). A KERN write of PRT_H2M sets IBI pending bit 4. Operands: idx: word of the 128-byte buffer, 0-31. -/
  | prtH2mWrite (q : Requester) (idx : Nat) (data : Word)
  /-- PG_UNLOCK (R419). A keyed PG_ACCESS write with OP 1 by KERN or MGMT unlocks expert access on the page. Operands: page: page offset divided by 0x1000. -/
  | pgUnlock (q : Requester) (page : Nat)
  /-- PG_LOCK (R419). A keyed PG_ACCESS write with OP 2 locks expert access on the page. Operands: page: page offset divided by 0x1000. -/
  | pgLock (q : Requester) (page : Nat)
  /-- XREC_UNLOCK (R420). A keyed GLB_XREC write with OP 1 unlocks one page of the YRD, BAY or coefficient store region. Operands: region: 0 YRD, 1 BAY, 2 coefficient store. -/
  | xrecUnlock (q : Requester) (region : Nat) (page : Nat)
  /-- XREC_LOCK (R420). A keyed GLB_XREC write with OP 2 locks one record-region page. Operands: region: 0 YRD, 1 BAY, 2 coefficient store. -/
  | xrecLock (q : Requester) (region : Nat) (page : Nat)
  /-- PILOT_NOTICE (R126). A START, END, PHASE or IDLE pilot notice is accepted, checked and entered in its yard's coalescer. Operands: n: the notice. -/
  | pilotNotice (n : Notice)
  /-- COLL_BEGIN (R129). A COLL_BEGIN notice registers a collective that opens at its effective time, or is discarded as a collective error. Operands: n: the notice; its kind field is taken as COLL_BEGIN. -/
  | collBegin (n : Notice)
  /-- COLL_END (R129). A COLL_END notice schedules the close of the matching open collective, or is discarded as a collective error. Operands: n: the notice; its kind field is taken as COLL_END. -/
  | collEnd (n : Notice)
  /-- HOLD_ACK (R256). A HOLD_ACK notice ends the below-minimum wait for its yard, or is discarded if no HOLD_REQ is outstanding. Operands: n: the notice; its kind field is taken as HOLD_ACK. -/
  | holdAck (n : Notice)
  /-- COLLECTIVE_OPEN (R129). A collective becomes open at the effective time of its COLL_BEGIN. Operands: k: entry of the collective table, 0-15. -/
  | collectiveOpen (k : Nat)
  /-- COLLECTIVE_CLOSE (R129). A collective closes at the effective time of its COLL_END. Operands: k: entry of the collective table, 0-15. -/
  | collectiveClose (k : Nat)
  /-- OWNERSHIP_CHANGE (R257). At the effective time of a START, PHASE, END or IDLE notice the private yard's owner context changes. Operands: yard: the yard whose oldest waiting notice takes effect. -/
  | ownershipChange (yard : Nat)
  /-- CAP_YOWN_WRITE (R257). A KERN write to a yard's CAP_YOWN byte sets its owner at once. Operands: j: register CAP_YOWNj, 0-31. -/
  | capYownWrite (q : Requester) (j : Nat) (data : Word)
  /-- GATHER_END (R130). A yard's gather ends, its inputs are formed and its inference becomes due, and the coalescer enters COOL. -/
  | gatherEnd (yard : Nat)
  /-- COOL_END (R130). A yard's COOL ends 1 µs after its last dispatch, forming inputs from a pending set or returning to IDLE. -/
  | coolEnd (yard : Nat)
  /-- INFERENCE_DISPATCH (R23). The DRE dispatches a due yard inference in acceptance order when engine time is free. -/
  | inferenceDispatch
  /-- FORECAST_COMPLETE (R146). An inference completes, and its forecast is dropped if late or without a governing notice, or its presets are computed. Operands: ue: a frame read found an uncorrectable error. -/
  | forecastComplete (ue : Bool)
  /-- PRESET_APPLY (R148). At a forecast's application time Oteus sends the floor, pre-bias and pre-raise, or holds them until the yard is running. -/
  | presetApply (yard : Nat)
  /-- PRESET_HORIZON (R149). At a later forecast's horizon each preset becomes the new value. -/
  | presetHorizon (yard : Nat)
  /-- PRESET_END (R148). The floor and pre-bias end at the horizon plus HOLD_AFTER and a removing PRESET word is sent. -/
  | presetEnd (yard : Nat)
  /-- PRERAISE_END (R148). The pre-raise ends RAISE_TIME after its SETPOINT word and a SETPOINT removing it is sent. -/
  | preraiseEnd (yard : Nat)
  /-- DRE_LOAD_GO (R142). A KERN or MGMT write of DRE_LOAD.GO starts fetching a bundle into the spare frame, or ends BUSY. Operands: src: 0 spare frame, 1 host memory, 2 flash. -/
  | dreLoadGo (q : Requester) (slot : Nat) (src : Nat)
  /-- BUNDLE_FETCH_DONE (R142). The bundle fetch ends and the bundle is checked and either committed to its slot or rejected with a logged result. Operands: hostBytes: what host memory returned (SRC 1); readErr: the source read failed. -/
  | bundleFetchDone (hostBytes : List Byte) (readErr : Bool)
  /-- DRE_CTRL_RUN_WRITE (R155). A write of DRE_CTRL.RUN stops or restarts the DRE, and stopping closes every open collective. -/
  | dreCtrlRunWrite (q : Requester) (run : Bool)
  /-- ACTIVITY_RECORD (R37). A yard's four activity beats arrive in order within one tick interval, or the record is discarded. Operands: beats: beat number and data, in arrival order. -/
  | activityRecord (yard : Nat) (beats : List (BitVec 2 × BitVec 128))
  /-- ACTIVITY_TICK (R37). At the host tick each complete record replaces the yard's previous one, and yards without one count a stale record. -/
  | activityTick
  /-- TB_STROBE (R38). A time-base strobe with OT_TB_VALID high reloads the system-time counter, logging TB_STEP on a large difference. Operands: time: OT_TB_TIME; valid: OT_TB_VALID at the strobe. -/
  | tbStrobe (time : BitVec 64) (valid : Bool)
  /-- TB_VALID_LOSS (R38). OT_TB_VALID goes low, so pending epochs are held, new ones refused, and TB_INVALID logged. -/
  | tbValidLoss
  /-- SPEED_ORDER_PLACE (R121). With no order in flight, Oteus places the next queued speed order by toggling OT_SO_REQ. -/
  | speedOrderPlace
  /-- SO_DONE (R39). A done pulse reports the ordered frequency in effect, ending the order and releasing any held voltage decrease or unknown state. -/
  | soDone (yard : Nat)
  /-- SO_TIMEOUT (R39). No done pulse 2 µs after an order raises SO_TIMEOUT and repeats the order once, then marks the frequency unknown. -/
  | soTimeout
  /-- VF_WAIT_EXPIRY (R120). A frequency raise held for the error check passes WAIT_MAX and Oteus sets VF_HOLD. -/
  | vfWaitExpiry (yard : Nat)
  /-- HOST_NOTICE_TAKEN (R40). The host takes the presented host notice with OT_HN_READY, and the next queued notice is presented. -/
  | hostNoticeTaken
  /-- CCP_EPOCH_MESSAGE (R252). A DEV_CAP, CTX_CAP or MODE epoch message is checked and stored as pending, or dropped with CCP_DROP. Operands: beats: data and OT_CCP_INRACK of each beat. -/
  | ccpEpochMessage (beats : List (BitVec 64 × Bool))
  /-- CCP_CANCEL (R252). A CANCEL message removes the pending epoch with its number, or is dropped. Operands: beats: data and OT_CCP_INRACK of each beat; the type field is taken as CANCEL. -/
  | ccpCancel (beats : List (BitVec 64 × Bool))
  /-- EPOCH_APPLY (R253). System time reaches a pending epoch and its value is written into the installation cap, context cap or mode. -/
  | epochApply
  /-- SUPERFRAME (R66). A segment superframe begins with SYNC, sharing words and the keep-alive read. -/
  | superframe (seg : Nat)
  /-- SYNC (R72). A bay decodes SYNC and restarts its cycle count, resuming from hold course if it had lost SYNC. Operands: the fields of the word as the bays receive it. -/
  | sync (seg : Nat) (sfn : BitVec 8) (shareCrc : BitVec 16) (crc : BitVec 4)
  /-- SYNC_LOST (R72). A bay misses SYNC at its expected cycle, sets SYNC_LOST and holds course after four misses. Operands: badCrc: a SYNC word came in its cycle and failed its CRC-4. -/
  | syncLost (bay : Nat) (badCrc : Bool)
  /-- SHARING_APPLY (R68). At cycle 81 of its count a bay applies the ten sharing words if their CRC-16 matches SYNC. Operands: words: the ten sharing words as received. -/
  | sharingApply (bay : Nat) (words : List Word)
  /-- TRIM (R57). Bays of the yard decode a TRIM word and apply the new trim one CLK_B later, or store it during all hands. Operands: the fields of the word as the bays receive it. -/
  | trim (seg : Nat) (yard : Nat) (trim : BitVec 12) (crc : BitVec 4)
  /-- SETPOINT (R73). Bays of the yard decode a SETPOINT word and begin slewing to the new VIDeff target. Operands: the fields of the word as the bays receive it. -/
  | setpoint (seg : Nat) (yard : Nat) (code : Nat) (slew : Nat) (crc : BitVec 4)
  /-- PRESET (R57). Bays of the yard decode a PRESET word and take the new window pre-bias. Operands: the fields of the word as the bays receive it. -/
  | preset (seg : Nat) (yard : Nat) (prebias : Nat) (crc : BitVec 4)
  /-- ADD (R60). A PHASE word with order ADD makes the named phases conduct, or cancels their shed. Operands: the fields of the PHASE word as the bay receives it. -/
  | add (seg : Nat) (slot : Nat) (ph1 : Bool) (ph0 : Bool) (crc : BitVec 4)
  /-- SHED_PREP (R60). A PHASE word with order SHED_PREP starts a 200 ns shed of the named phases. Operands: the fields of the PHASE word as the bay receives it. -/
  | shedPrep (seg : Nat) (slot : Nat) (ph1 : Bool) (ph0 : Bool) (crc : BitVec 4)
  /-- CANCEL (R60). A PHASE word with order CANCEL cancels the named phases' shed. Operands: the fields of the PHASE word as the bay receives it. -/
  | cancel (seg : Nat) (slot : Nat) (ph1 : Bool) (ph0 : Bool) (crc : BitVec 4)
  /-- CLEAR_TRIP (R63). A PHASE word with order CLEAR_TRIP makes a TRIPPED phase COLD. Operands: the fields of the PHASE word as the bay receives it. -/
  | clearTrip (seg : Nat) (slot : Nat) (ph1 : Bool) (ph0 : Bool) (crc : BitVec 4)
  /-- BAY_STATE_OFF (R59). A BAY_STATE OFF order puts the bay OFF or aborts a switch-in. Operands: the fields of the BAY_STATE word as the bay receives it. -/
  | bayStateOff (seg : Nat) (slot : Nat) (crc : BitVec 4)
  /-- BAY_STATE_READY (R59). A BAY_STATE READY order biases the bay to follow its set-point at zero current. Operands: the fields of the BAY_STATE word as the bay receives it. -/
  | bayStateReady (seg : Nat) (slot : Nat) (crc : BitVec 4)
  /-- BAY_STATE_RUN (R430). A BAY_STATE RUN order makes phase 0 or, if unavailable, phase 1 ACTIVE. Operands: the fields of the BAY_STATE word as the bay receives it. -/
  | bayStateRun (seg : Nat) (slot : Nat) (crc : BitVec 4)
  /-- BAY_STATE_HEAT (R278). A BAY_STATE HEAT order runs both phases as heaters at opposite currents. Operands: the fields of the BAY_STATE word as the bay receives it. -/
  | bayStateHeat (seg : Nat) (slot : Nat) (crc : BitVec 4)
  /-- BAY_STATE_FENCE (R59). A BAY_STATE FENCE order turns both phases off and refuses phase orders. Operands: the fields of the BAY_STATE word as the bay receives it. -/
  | bayStateFence (seg : Nat) (slot : Nat) (crc : BitVec 4)
  /-- BAY_STATE_RELEASE (R431). A BAY_STATE RELEASE order moves a fenced bay without failed phases to OFF. Operands: the fields of the BAY_STATE word as the bay receives it. -/
  | bayStateRelease (seg : Nat) (slot : Nat) (crc : BitVec 4)
  /-- REMOUNT_CONNECT (R76). A REMOUNT CONNECT word starts a remount's switch-in sequence to the chosen neighbour. Operands: side: false lower-index neighbour, true higher. -/
  | remountConnect (seg : Nat) (slot : Nat) (side : Bool) (crc : BitVec 4)
  /-- REMOUNT_DISCONNECT (R76). A REMOUNT DISCONNECT word takes the remount out of its yard's counts and starts the 5 µs disconnect. Operands: side: false lower-index neighbour, true higher. -/
  | remountDisconnect (seg : Nat) (slot : Nat) (side : Bool) (crc : BitVec 4)
  /-- REMOUNT_CONNECT_STEP (R76). A timed step of the switch-in biases, precharges, closes the switch, or brings the remount to RUN. Operands: ok: the condition of the step holds (input rail at step 1, precharge within 10 mV at step 3). -/
  | remountConnectStep (bay : Nat) (ok : Bool)
  /-- REMOUNT_DISCONNECT_STEP (R76). A timed step of a disconnect leaves the all-hands net, opens the switch, or frees the remount. -/
  | remountDisconnectStep (bay : Nat)
  /-- CFG_WR (R68). A CFG_WR word writes a bay register. Operands: the fields of the word as the bay receives it. -/
  | cfgWr (seg : Nat) (slot : Nat) (reg : Nat) (data : BitVec 12) (crc : BitVec 4)
  /-- CFG_RD (R68). A CFG_RD word makes the bay return a bay register in its event slot. Operands: the fields of the word as the bay receives it. -/
  | cfgRd (seg : Nat) (slot : Nat) (reg : Nat) (crc : BitVec 4)
  /-- CURRENT_REPORT (R70). The superframe's current reports and parity arrive and are checked, with three parity failures treated as IMPLAUSIBLE. Operands: reports: slot, the 16 report bits, the parity bit. -/
  | currentReport (seg : Nat) (sfn : BitVec 8) (reports : List (Nat × BitVec 16 × Bool))
  /-- EVENT (R71). Oteus receives a bay EVENT word and acts on trips, failures, protections and trip reports, or recovers via CFG_RD on a CRC error. Operands: word: the upstream word as received. -/
  | event (seg : Nat) (slot : Nat) (word : Word)
  /-- RD_RSP (R71). Oteus receives a CFG_RD response, which also counts as segment keep-alive. Operands: word: the upstream word as received. -/
  | rdRsp (seg : Nat) (slot : Nat) (word : Word)
  /-- FBB_SEGMENT (R72). A segment silent for four keep-alive superframes raises FBB_SEGMENT and freezes its yards' set-points. -/
  | fbbSegment (seg : Nat)
  /-- HOLD_REQ_TIMEOUT (R214). The below-minimum wait ends after 1 ms, and the yard is powered to D4 and fenced. -/
  | holdReqTimeout (yard : Nat)
  /-- TRIP_HOLD_END (R114). A yard's trip hold expires and its hold floor is released. -/
  | tripHoldEnd (yard : Nat)
  /-- AUTO_CLEAR_TRIP (R63). 100 µs after a TRIPPED report Oteus sends CLEAR_TRIP unless the phase has tripped three times in 1 s. Operands: ph: the phase. -/
  | autoClearTrip (bay : Nat) (ph : Bool)
  /-- PHASE_COUNT_DECISION (R113). At downstream cycle 56 Oteus decides each yard's phase count and sends adds or sheds. -/
  | phaseCountDecision (yard : Nat)
  /-- SHARING_JOB (R109). Tiller dispatches a bay's sharing job and computes its 2-bit deltas for the next superframe. Operands: lane: the lane that runs it; residueOk: every product passed its residue check. -/
  | sharingJob (bay : Nat) (lane : Nat) (residueOk : Bool)
  /-- SHARING_DEADLINE_MISS (R92). A sharing job that cannot complete by its deadline is dropped and its bay gets 0b00 deltas. -/
  | sharingDeadlineMiss (bay : Nat)
  /-- SUPERVISION_JOB (R192). Every 240 ns Tiller computes a yard's expected drops and Zpath and power accumulators. Operands: lane: the lane that runs it; residueOk: every product passed its residue check. -/
  | supervisionJob (yard : Nat) (lane : Nat) (residueOk : Bool)
  /-- DROOP_TRIP (R61). An anchor's droop comparator trips and asserts the yard's all-hands net, forcing every available phase on. Operands: bay: the anchor bay. -/
  | droopTrip (bay : Nat)
  /-- DROOP_CLEAR (R61). The comparator clears 5 mV above its trip level and the net deasserts when no comparator is tripped. Operands: bay: the anchor bay. -/
  | droopClear (bay : Nat)
  /-- ALL_HANDS_END (R61). A bay leaves all hands after 200 ns with the net deasserted, restoring phase states and applying stored words. -/
  | allHandsEnd (bay : Nat)
  /-- SHED_STOP (R60). A SHED_PREP phase stops switching 200 ns after its order and becomes WARM. Operands: ph: the phase. -/
  | shedStop (bay : Nat) (ph : Bool)
  /-- PHASE_COLD (R60). A WARM phase becomes COLD 10 µs after it stops. Operands: ph: the phase. -/
  | phaseCold (bay : Nat) (ph : Bool)
  /-- TRIPPED (R62). A phase limited for 16 consecutive cycles becomes TRIPPED. Operands: ph: the phase. -/
  | tripped (bay : Nat) (ph : Bool)
  /-- BAY_OVERLOAD (R62). A bay's 1 ms average above 3.0 A sets OVERLOAD. -/
  | bayOverload (bay : Nat)
  /-- INPUT_LOW (R62). An input rail below reference plus 0.25 V puts the bay in PROTECT. -/
  | inputLow (bay : Nat)
  /-- OUTPUT_HIGH (R62). Anchor sense above reference plus 100 mV for 50 ns puts the bay in PROTECT. -/
  | outputHigh (bay : Nat)
  /-- PROTECT_RETURN (R62). A bay returns from PROTECT 1 µs after its input or output condition recovers. -/
  | protectReturn (bay : Nat)
  /-- PHASE_FAILED (R64). A bay detects an OPEN, STUCK or IMPLAUSIBLE phase, declares it FAILED and turns it off. Operands: ph: the phase; kind: R64. -/
  | phaseFailed (bay : Nat) (ph : Bool) (kind : FailKind)
  /-- BAY_CTRL_FENCE (R78). A write of 1 to BAY_CTRL.ORDER fences the bay. -/
  | bayCtrlFence (q : Requester) (bay : Nat)
  /-- BAY_CTRL_RELEASE (R431). A write of 2 to BAY_CTRL.ORDER releases a fenced bay and returns it to service if its yard is running. -/
  | bayCtrlRelease (q : Requester) (bay : Nat)
  /-- BAY_CTRL_CLEAR_TRIP (R63). A write of 3 to BAY_CTRL.ORDER sends CLEAR_TRIP for every TRIPPED phase of the bay. -/
  | bayCtrlClearTrip (q : Requester) (bay : Nat)
  /-- BAY_REMOUNT_GO (R76). A write of BAY_REMOUNT.GO sends REMOUNT with the selected side and connect bit. Operands: the fields written. -/
  | bayRemountGo (q : Requester) (bay : Nat) (connect : Bool) (side : Bool)
  /-- BAY_DROOP_WRITE (R78). A write of BAY_DROOP.TH sends CFG_WR to the anchor's droop threshold register. -/
  | bayDroopWrite (q : Requester) (bay : Nat) (th : Nat)
  /-- YRD_DROOP_WRITE (R117). A write of YRD_DROOP.TH sends the threshold to every anchor bay of the yard. -/
  | yrdDroopWrite (q : Requester) (yard : Nat) (th : Nat)
  /-- YRD_VID_WRITE (R73). A write of YRD_VID.TARGET changes VIDeff and sends a SETPOINT word, or is refused. -/
  | yrdVidWrite (q : Requester) (yard : Nat) (code : Nat)
  /-- YRD_LOOP_WRITE (R89). A write of YRD_LOOP is judged for admission and held for the next sampling instant, or refused with ADMIT_REFUSED. -/
  | yrdLoopWrite (q : Requester) (yard : Nat) (data : Word)
  /-- SAMPLING_INSTANT (R83). At a yard's sampling instant Sextant books its sense points and Tiller applies mode changes, supervision and readiness checks. -/
  | samplingInstant (yard : Nat)
  /-- ERROR_QUEUED (R93). Corrected loop values arrive 25 ns after sampling and the error is queued for Tiller, or replaces an undispatched one. -/
  | errorQueued (yard : Nat)
  /-- LAW_JOB_DISPATCH (R81). A yard-law or hold job takes a free lane issue slot in dispatch order. Operands: lane: the lane with the free slot; waitNs: the lane wait of the job, ns. -/
  | lawJobDispatch (lane : Nat) (waitNs : Nat)
  /-- LAW_JOB_COMPLETE (R86). A law or hold job writes its trim and histories 32 CLK_T after dispatch, and a standard yard hands the trim to the bay bus. Operands: residueOk: products passed; ce, ue: a coefficient word read with a corrected, an uncorrectable error. -/
  | lawJobComplete (yard : Nat) (residueOk : Bool) (ce : Bool) (ue : Bool)
  /-- KEEL_HANDOVER (R94). At 75 ns after sampling a keel yard's completed trim is handed to the bay bus. -/
  | keelHandover (yard : Nat)
  /-- KEEL_MISS (R95). A keel job not dispatched by 55 ns becomes a hold period and counts KEEL_MISS. -/
  | keelMiss (yard : Nat)
  /-- CONVERSION_DONE (R166). A slice conversion resolves and is corrected, updating the channel value and window comparator. Operands: loop: the conversion is a booked loop sample. -/
  | conversionDone (cl : Nat) (slice : Nat) (ch : Nat) (code : BitVec 10) (loop : Bool)
  /-- WINDOW_CONFIG_WRITE (R172). A write to LO, HI, HYST or PERSIST returns the comparator to IN. Operands: cfg: false SXT_CH_WIN, true SXT_CH_WCFG. -/
  | windowConfigWrite (q : Requester) (cl : Nat) (ch : Nat) (cfg : Bool) (data : Word)
  /-- SCAN_WEIGHT_WRITE (R162). A write of a scan weight zeroes every credit of the cluster. -/
  | scanWeightWrite (q : Requester) (cl : Nat) (ch : Nat) (weight : Nat)
  /-- ESTIMATOR_TURN_END (R168). A slice's calibration turn ends, its coefficients update or the turn is rejected, and the next slice goes out. Operands: slice: the slice whose turn ends; gnd, ref: of its GND and its REF conversions, or of a capture slice and of the fifth slice in their shadow pairs; skew in 0.25 ps. -/
  | estimatorTurnEnd (cl : Nat) (slice : Nat) (gnd : TurnSum) (ref : TurnSum) (skew : Int)
  /-- TEMP_SUBSTITUTION (R171). Cluster and sensor temperatures differ by over 6 °C for 1 ms, so the sensor reading is used and SXT_TEMP raised. -/
  | tempSubstitution (cl : Nat)
  /-- SXT_URG_GO (R164). A write of SXT_URG.GO requests an urgent conversion, or ends BUSY or REFUSED. -/
  | sxtUrgGo (q : Requester) (cl : Nat) (ch : Nat)
  /-- URGENT_START (R164). An eligible slice is found, its scan conversion aborted and the urgent conversion started. Operands: waitCycles: CLK_B cycles since decode; restart: the aborted conversion is restarted. -/
  | urgentStart (cl : Nat) (slice : Nat) (waitCycles : Nat) (restart : Bool)
  /-- URGENT_DONE (R164). The urgent value is corrected and written to SXT_URG_RES. -/
  | urgentDone (cl : Nat) (code : BitVec 10)
  /-- URGENT_TIMEOUT (R165). An urgent request with no eligible slice after 1 µs ends TIMEOUT. -/
  | urgentTimeout (cl : Nat)
  /-- STREAM_GO (R174). A write of SXT_STR_CTRL.GO arms or starts a channel or capture stream, or refuses it. Operands: ctrl: the word written to SXT_STR_CTRL, taken with GO 1. -/
  | streamGo (q : Requester) (cl : Nat) (m : Nat) (ctrl : Word)
  /-- STREAM_STOP (R176). A write of SXT_STR_CTRL.STOP ends the stream ABORTED, or DONE with ABORT_LATE. Operands: codes: of a capture stream, the raw codes of its samples since its last burst. -/
  | streamStop (q : Requester) (cl : Nat) (m : Nat) (codes : List (BitVec 10))
  /-- STREAM_BURST_WRITTEN (R175). A stream burst becomes visible, updating WPTR and WRAPS and ending the stream DONE at COUNT. Operands: codes: of a capture stream, the raw codes of its samples since its last burst; err: the write to host memory is answered with an error (R337). -/
  | streamBurstWritten (cl : Nat) (m : Nat) (codes : List (BitVec 10)) (err : Bool)
  /-- STREAM_TRIGGER (R183). A trigger time, window event or TRIP report sets TRIGPOS and starts COUNT. Operands: sample: index of the first sample taken in the trigger cycle. -/
  | streamTrigger (cl : Nat) (sample : Nat)
  /-- SXT_MAINT_WRITE (R184). A KERN or MGMT write of SXT_MAINT requests a yard to enter or leave the maintenance state. Operands: j: register SXT_MAINTj. -/
  | sxtMaintWrite (q : Requester) (j : Nat) (data : Word)
  /-- SXT_CAL_ZERO (R185). A write of SXT_CAL.STEP 1 starts a system calibration with zero applied, or is refused BUSY. -/
  | sxtCalZero (q : Requester) (cl : Nat)
  /-- SXT_CAL_FULL_SCALE (R186). A write of SXT_CAL.STEP 2 measures each channel at full scale. -/
  | sxtCalFullScale (q : Requester) (cl : Nat)
  /-- SXT_CAL_ABORT (R186). A write of SXT_CAL.STEP 3 ends the calibration ABORTED with coefficients unchanged. -/
  | sxtCalAbort (q : Requester) (cl : Nat)
  /-- SYSCAL_CHANNEL_DONE (R186). A channel's 4,096 calibration conversions complete and the next channel is connected. Operands: mean: mean u of the channel over 4,096 conversions. -/
  | syscalChannelDone (cl : Nat) (mean : Int)
  /-- SYSCAL_RECORD_WRITTEN (R188). The calibration record write to flash completes and RESULT is set. -/
  | syscalRecordWritten (cl : Nat)
  /-- SYSCAL_TIMEOUT (R186). No STEP 2 within 10 s ends the calibration ABORTED. -/
  | syscalTimeout (cl : Nat)
  /-- FAR_SUSCLR_GO (R197). A write of FAR_SUSCLR.GO clears the named suspect points whose residuals have stayed in band. -/
  | farSusclrGo (q : Requester) (yard : Nat) (points : BitVec 4)
  /-- ZPATH_WINDOW (R200). Every 10 ms SC1 reads the accumulators and updates each point's path impedance and step detection. -/
  | zpathWindow (yard : Nat)
  /-- FAR_PLAN_PERIODIC (R208). A farrier plan starts every FAR_PERIOD.HOURS operating hours. -/
  | farPlanPeriodic
  /-- FAR_CTRL_GO (R208). A KERN or MGMT write of FAR_CTRL.GO starts a plan or ends BUSY. -/
  | farCtrlGo (q : Requester)
  /-- FAR_PLAN_COMPUTED (R209). The plan's floors, FMAX and substitutions are computed and the record write begins. -/
  | farPlanComputed
  /-- FAR_RECORD_COMMIT (R210). The farrier record write completes and raised floors, speed orders and substitutions are applied, or FAR_COMMIT_FAIL is logged. Operands: ok: the flash write completed. -/
  | farRecordCommit (ok : Bool)
  /-- LOSS_PROBE (R204). The farrier alternates a lightly loaded bay between RUN and HEAT to measure its loss. Operands: dissipationMw: the synchronously detected dissipation. -/
  | lossProbe (bay : Nat) (dissipationMw : Nat)
  /-- PWS_REQ_GO (R230). A write of PWS_REQ.GO places a domain state order under authority and rank rules. -/
  | pwsReqGo (q : Requester) (dom : Nat) (st : Nat)
  /-- DOMAIN_WAKE_PIN (R233). An enabled high OT_DOM_WAKE orders D0 for a stable domain in D1–D3 with no order in force. -/
  | domainWakePin (dom : Nat) (level : Bool)
  /-- WAKE_DRIVER_BIAS (R223). 2 µs after READY, the waking yard's bays receive RUN and the soft-start begins. -/
  | wakeDriverBias (dom : Nat)
  /-- WAKE_BIAS_SETTLE (R223). After the bias settle time a wake from D2 or D3 sends the D0 SETPOINT. -/
  | wakeBiasSettle (dom : Nat)
  /-- SLEW_END (R227). A yard's ramp reaches its target, ending a soft-start or power-down ramp step. -/
  | slewEnd (yard : Nat)
  /-- DOMAIN_READY_INPUT (R223). A synchronised ready or isolation acknowledge change advances the domain's wake or power-down step. -/
  | domainReadyInput (dom : Nat) (sig : DomSignal) (level : Bool)
  /-- PWS_WAKE_TIMEOUT (R224). A wake budget runs out, the order ends FAILED and the domain powers back down. -/
  | pwsWakeTimeout (dom : Nat)
  /-- PWS_ISO_TIMEOUT (R224). An isolation acknowledgement budget runs out during a power-down. -/
  | pwsIsoTimeout (dom : Nat)
  /-- PWS_SAVE_TIMEOUT (R224). A state-save budget runs out during a power-down. -/
  | pwsSaveTimeout (dom : Nat)
  /-- PWS_RDY_LOST (R232). A ready signal low, or ISO_ACK high in D0, for 3 CLK_B raises PWS_RDY_LOST. -/
  | pwsRdyLost (dom : Nat) (sig : DomSignal)
  /-- CAP_LOOP_BOUNDARY (R247). Every 100 µs the helm pair evaluates releases, thermal, context and device layers and mode changes. Operands: overrun: the computation does not finish within its period. -/
  | capLoopBoundary (overrun : Bool)
  /-- CURRENT_LAYER_EVAL (R244). Every 10 µs the yard-current and rail-current layers lower issue rates on excess. -/
  | currentLayerEval
  /-- CAP_JOB_BEGIN (R261). A KERN write of CAP_JOB with GO and END 0 opens a job for a context. -/
  | capJobBegin (q : Requester) (ctx : Nat) (tag : Nat)
  /-- CAP_JOB_END (R261). A KERN write of CAP_JOB with GO and END 1 closes the context's job. -/
  | capJobEnd (q : Requester) (ctx : Nat) (tag : Nat)
  /-- JOB_RECORD (R262). Within 2.5 ms of a job end Oteus writes its energy record to the stream. -/
  | jobRecord
  /-- ATTRIBUTION_INTERVAL_CLOSE (R259). A private yard's attribution interval closes and queues, merging if the queue is full. -/
  | attributionIntervalClose (yard : Nat)
  /-- ATTRIBUTION_RUN (R258). The energy model runs a queued interval in free DRE time. -/
  | attributionRun
  /-- SETTLEMENT (R260). SC0 settles a 1 ms period, crediting measured rail energy to contexts and CAP_UNATTR. -/
  | settlement
  /-- THERMAL_SCAN (R269). Every 100 µs all sensors are read, cross-checked and compared with warning, throttle and critical thresholds. Operands: temps: sensor and reading in 1/16 °C; a sensor not listed reads as before. -/
  | thermalScan (temps : List (Nat × BitVec 16))
  /-- COMPENSATION_UPDATE (R277). Every 100 µs the backup oscillator trim and short-circuit comparator thresholds are updated for temperature. Operands: diode: backup oscillator diode, 1/16 °C. -/
  | compensationUpdate (diode : Int)
  /-- THM_PROOF_GO (R282). A KERN or MGMT write of THM_PROOF.GO starts a sensor proof of a yard, or ends BUSY. -/
  | thmProofGo (q : Requester) (yard : Nat)
  /-- SENSOR_PROOF_AUTO (R282). Oteus starts automatic sensor proofs after power-on and hourly for suspect sensors. -/
  | sensorProofAuto (yard : Nat)
  /-- SENSOR_PROOF_END (R282). After THM_PROOF_CFG.TIME the proof judges each sensor's rise and clears or sets suspect marks. -/
  | sensorProofEnd
  /-- THM_PRECOND_GO (R280). A write of THM_PRECOND.GO starts warming a maintenance-state yard towards TARGET. -/
  | thmPrecondGo (q : Requester) (yard : Nat) (target : Nat)
  /-- THM_PRECOND_STOP (R280). A write of THM_PRECOND.STOP ends preconditioning. -/
  | thmPrecondStop (q : Requester)
  /-- WARMING_LEVEL_STEP (R280). Every 100 µs preconditioning or station warming steps the heating level, ending FAILED after 5 s. -/
  | warmingLevelStep
  /-- THM_COLD (R281). A bonded-array cold start not reaching target within COLD_MAX ends the wake FAILED. -/
  | thmCold (dom : Nat)
  /-- STG_RAIL_ON_SET (R295). Setting STG_RAIL.ON starts the rail through ON_DELAY and ON_RAMP. -/
  | stgRailOnSet (q : Requester) (rail : Nat)
  /-- STG_RAIL_ON_CLEAR (R296). Clearing STG_RAIL.ON stops the rail once all its domains are in D4. -/
  | stgRailOnClear (q : Requester) (rail : Nat)
  /-- RAIL_DELAY_END (R295). A rail's on or off delay expires and its ramp begins. -/
  | railDelayEnd (rail : Nat)
  /-- RAIL_RAMP_END (R295). A rail's ramp reaches its end and the rail enters ON, or OFF with STG_EN low. -/
  | railRampEnd (rail : Nat)
  /-- STG_VOUT_WRITE (R293). A write of STG_VOUT.CODE moves V_ref at the slew rate, or is refused for headroom. -/
  | stgVoutWrite (q : Requester) (rail : Nat) (code : Nat)
  /-- PG_SET (R294). A rail within ±3 % of V_ref for 100 µs in ON sets PG. -/
  | pgSet (rail : Nat)
  /-- STG_PG_LOST (R294). A rail outside ±8 % for 10 µs clears PG and raises STG_PG_LOST. -/
  | stgPgLost (rail : Nat)
  /-- BAL_UPDATE (R291). Every 10 µs each phase's balance trim moves towards the rail mean. -/
  | balUpdate
  /-- SHORT_CIRCUIT_TRIP (R298). A phase's IMON comparator trips and ends its pulse, latching the phase after 8 tripped pulses. -/
  | shortCircuitTrip (phase : Nat)
  /-- BRAKE_ENTER (R299). A rail above V_ref plus BRAKE.ON puts every phase high impedance. -/
  | brakeEnter (rail : Nat)
  /-- BRAKE_EXIT (R299). A rail below V_ref plus BRAKE.OFF ends braking. -/
  | brakeExit (rail : Nat)
  /-- OVERLOAD_EVAL (R300). A phase's windowed IMON average above STG_OVL.TH marks it overloaded and throttles the rail. -/
  | overloadEval (phase : Nat)
  /-- HICCUP (R300). Overload persisting 10 ms restarts the rail by hiccup, or makes it DEAD after three tries. -/
  | hiccup (rail : Nat)
  /-- HICCUP_RESTART (R300). After HICCUP_OFF the rail re-enters ON_RAMP without the delay. -/
  | hiccupRestart (rail : Nat)
  /-- STG_FLT (R303). A filtered low on STG_FLT_N sets FLT and declares non-responding phases FAILED. Operands: failed: phases whose IMON rose by less than 5 A in each of 3 consecutive pulses. -/
  | stgFlt (failed : BitVec 30)
  /-- STG_FLT_STUCK (R303). STG_FLT_N low for 10 ms with no phase declared raises STG_FLT_STUCK. -/
  | stgFltStuck
  /-- STG_PHCLR_WRITE (R298). A KERN or MGMT write of STG_PHCLR clears LATCHED and FAILED of the named phases. -/
  | stgPhclrWrite (q : Requester) (data : Word)
  /-- STG_IBUS (R304). The intermediate bus outside 10.8–15.0 V for 1 ms raises STG_IBUS. -/
  | stgIbus
  /-- STG_IBUS_UV (R304). The bus below 9.0 V for 10 µs takes both rails off. -/
  | stgIbusUv
  /-- IBUS_RECOVERY (R304). The bus above 10.0 V for 10 ms restarts rails that were ON. -/
  | ibusRecovery
  /-- PMBUS_SCAN (R307). SC1 scans PMBus addresses at reset and every 1 s, filling the device table. Operands: found: address, PMBUS_REVISION and CAPABILITY of each responding device. -/
  | pmbusScan (found : List (Nat × Byte × Byte))
  /-- PMB_SCAN_GO (R307). A KERN or MGMT write of PMB_SCAN.GO starts a scan now. -/
  | pmbScanGo (q : Requester)
  /-- PMBUS_POLL (R308). Oteus polls the bus converter and other devices, raising faults on reported conditions or mismatches. Operands: n: entry of the device table. -/
  | pmbusPoll (n : Nat) (r : PmbReading)
  /-- PMB_ALERT (R308). A falling OT_PMB_ALERT_N makes Oteus read the alert response address and the device's status. Operands: addr: device at the alert response address; status: its STATUS_WORD. -/
  | pmbAlert (addr : Nat) (status : BitVec 16)
  /-- PMB_RAW_GO (R309). A KERN or MGMT write of PMB_RAW.GO requests one raw PMBus read, or ends BUSY. -/
  | pmbRawGo (q : Requester) (word : Bool) (addr : Nat) (cmd : Byte)
  /-- PMB_RAW_DONE (R309). The raw PMBus read completes and PMB_RAW_RES is written. -/
  | pmbRawDone (res : RawResult) (data : BitVec 16)
  /-- NOP (R328). The NOP command completes DONE at start. Operands: c: the slot, its 64 bytes and the writer. -/
  | nop (c : Cmd)
  /-- ABORT (R330). The ABORT command stops or marks a target command in a window. Operands: c: the slot, its 64 bytes and the writer. -/
  | abort (c : Cmd)
  /-- SET_VID (R328). The SET_VID command writes a yard's target code and slew. Operands: c: the slot, its 64 bytes and the writer. -/
  | setVid (c : Cmd)
  /-- SET_LOOP (R328). The SET_LOOP command sets selected loop fields in one sampling instant, subject to admission. Operands: c: the slot, its 64 bytes and the writer. -/
  | setLoop (c : Cmd)
  /-- REMOUNT (R328). The REMOUNT command connects or disconnects a remount bay. Operands: c: the slot, its 64 bytes and the writer. -/
  | remount (c : Cmd)
  /-- DOMAIN_STATE (R328). The DOMAIN_STATE command orders a domain's power state. Operands: c: the slot, its 64 bytes and the writer. -/
  | domainState (c : Cmd)
  /-- MAINT (R328). The MAINT command puts a yard into or out of the maintenance state. Operands: c: the slot, its 64 bytes and the writer. -/
  | maint (c : Cmd)
  /-- SET_MODE (R328). The SET_MODE command writes the device mode. Operands: c: the slot, its 64 bytes and the writer. -/
  | setMode (c : Cmd)
  /-- SET_CAP (R328). The SET_CAP command sets a device or context cap. Operands: c: the slot, its 64 bytes and the writer. -/
  | setCap (c : Cmd)
  /-- JOB (R328). The JOB command begins or ends a job of a context. Operands: c: the slot, its 64 bytes and the writer. -/
  | job (c : Cmd)
  /-- BUNDLE_LOAD (R328). The BUNDLE_LOAD command loads a bundle into a DRE slot. Operands: c: the slot, its 64 bytes and the writer. -/
  | bundleLoad (c : Cmd)
  /-- CAPTURE (R328). The CAPTURE command starts an SS0 capture stream on a cluster pair. Operands: c: the slot, its 64 bytes and the writer. -/
  | capture (c : Cmd)
  /-- SYSCAL (R328). The SYSCAL command runs step 1 or step 2 of a system calibration. Operands: c: the slot, its 64 bytes and the writer. -/
  | syscal (c : Cmd)
  /-- FAR_PLAN (R328). The FAR_PLAN command starts a farrier plan. Operands: c: the slot, its 64 bytes and the writer. -/
  | farPlan (c : Cmd)
  /-- FAR_RECORD (R331). The FAR_RECORD command clears a derate or rebases a yard's farrier values. Operands: c: the slot, its 64 bytes and the writer. -/
  | farRecord (c : Cmd)
  /-- LOG_FREEZE (R328). The LOG_FREEZE command freezes or releases the logbook. Operands: c: the slot, its 64 bytes and the writer. -/
  | logFreeze (c : Cmd)
  /-- CMK_USLOT_WRITE (R323). A write of CMK_USLOT enables, disables or rebinds a CMU slot. Operands: n: CMU slot. -/
  | cmkUslotWrite (q : Requester) (n : Nat) (data : Word)
  /-- TDM_STREAM_GO (R338). A write of TDM_STR_CTRL.GO starts a telemetry stream at its head descriptor. Operands: t: stream. -/
  | tdmStreamGo (q : Requester) (t : Nat)
  /-- TDM_STREAM_STOP (R338). A write of TDM_STR_CTRL.STOP closes the buffer in use. Operands: t: stream. -/
  | tdmStreamStop (q : Requester) (t : Nat)
  /-- DESCRIPTOR_FETCH_DONE (R340). A descriptor read returns and the stream checks GEN and VALID, refetching or waiting. Operands: t: stream; d: what host memory returned; err: answered with an error. -/
  | descriptorFetchDone (t : Nat) (d : Descriptor) (err : Bool)
  /-- DESCRIPTOR_POLL (R340). A waiting stream rereads its descriptor every POLL µs. -/
  | descriptorPoll (t : Nat)
  /-- TDM_WRITE_RESPONSE (R339). A DMA write response arrives, setting REC_SENT or closing a buffer, or raising TDM_ERR on error. -/
  | tdmWriteResponse (t : Nat) (err : Bool)
  /-- DEVICE_SUMMARY (R338). At cap-loop boundaries stream 2 writes device and selected yard summaries. -/
  | deviceSummary
  /-- FLT_WIRE (R372). A unit's fault pair reads equal or disagrees with its event path and FLT_WIRE is raised. Operands: kind: 1 equal levels, 2 no code, 3 no pair. -/
  | fltWire (unit : Nat) (kind : Nat)
  /-- FLT_WIRE_CLEAR (R372). A pair in agreement for 1 ms clears the unit's FLT_WIRE bit. -/
  | fltWireClear (unit : Nat)
  /-- FLT_PEND_ACK (R377). A write of 1 to a FLT_PEND bit acknowledges that class and clears its FLT_ACT bits. -/
  | fltPendAck (q : Requester) (bits : BitVec 3)
  /-- FLT_RESUME (R382). A MGMT write of FLT_CTRL.RESUME ends holding course, or is ignored. -/
  | fltResume (q : Requester)
  /-- QUIET_PERIOD_EXPIRY (R382). The quiet-period timer expires and holding course ends with FLT_RECOVERY. -/
  | quietPeriodExpiry
  /-- FLT_INJ_SINGLE (R383). A FLT_INJ GO with MODE 0 arms a single-bit check error. -/
  | fltInjSingle (q : Requester) (mem : Nat)
  /-- FLT_INJ_DOUBLE (R383). A FLT_INJ GO with MODE 1 arms a double-bit check error. -/
  | fltInjDouble (q : Requester) (mem : Nat)
  /-- FLT_INJ_RAISE (R383). A FLT_INJ GO with MODE 2 makes a unit raise the given code. -/
  | fltInjRaise (q : Requester) (unit : Nat) (code : Nat)
  /-- FLT_INJ_BREAK (R383). A FLT_INJ GO with MODE 3 breaks a unit's pair for 1 µs. -/
  | fltInjBreak (q : Requester) (unit : Nat)
  /-- FLT_INJ_PIN_WRITE (R383). A write of FLT_INJ_PIN forces the OT_FLT pair levels. -/
  | fltInjPinWrite (q : Requester) (pin : Nat)
  /-- LOG_RECORD_PROGRAM (R390). A staged record's two flash programs complete and the next staged record is written. -/
  | logRecordProgram
  /-- LOG_TIME_SAVE (R391). Every 60 s Oteus writes a time-keeping slot and pending LOG_SUPPRESSED records. -/
  | logTimeSave
  /-- LOG_TOKEN_REFILL (R393). Every 62.5 ms each code's rate-limit bucket gains a token. -/
  | logTokenRefill
  /-- LOG_CTRL_FREEZE (R397). A KERN or MGMT write of LOG_CTRL.FREEZE 1 freezes the logbook once the current flash operation ends. -/
  | logCtrlFreeze (q : Requester)
  /-- LOG_CTRL_RELEASE (R397). A write of FREEZE 0 releases the freeze and writes the staged records. -/
  | logCtrlRelease (q : Requester)
  /-- LOG_FREEZE_EXPIRY (R397). FREEZE_MAX seconds pass and the freeze is released. -/
  | logFreezeExpiry
  /-- LOG_RD_GO (R398). A write of LOG_RD.GO reads one record into LOG_RD_DATA. -/
  | logRdGo (q : Requester) (idx : Nat)
  /-- LOG_ERASE_RANKED (R398). A keyed MGMT write of LOG_ERASE REGION 1 erases the ranked region. -/
  | logEraseRanked (q : Requester)
  /-- LOG_ERASE_ALL (R398). A keyed MGMT write of LOG_ERASE REGION 2 erases both logbook regions. -/
  | logEraseAll (q : Requester)
  /-- LOG_ERASE_DONE (R398). A logbook erase completes and LOG_ERASED is written. -/
  | logEraseDone
  /-- FLS_READ (R369). An FLS_CTRL GO with OP 0 reads flash bytes into FLS_BUF. -/
  | flsRead (q : Requester)
  /-- FLS_PROGRAM (R369). An FLS_CTRL GO with OP 1 programs a flash page if the region permits. -/
  | flsProgram (q : Requester)
  /-- FLS_ERASE (R369). An FLS_CTRL GO with OP 2 erases a 64 KiB sector if the region permits. -/
  | flsErase (q : Requester)
  /-- FLS_VERIFY (R366). An FLS_CTRL GO with OP 3 verifies the flash image. -/
  | flsVerify (q : Requester)
  /-- FLS_OP_DONE (R369). A flash operation ends and sets FLS_STATUS.RESULT and OP_DONE. Operands: err: the flash reports an error. -/
  | flsOpDone (err : Bool)
  /-- SEC_CONF_SET (R404). A SEC write setting a SEC_CONF bit makes a context confidential at once. -/
  | secConfSet (q : Requester) (ctx : Nat)
  /-- SEC_CONF_CLEAR (R404). A SEC write clearing a resident context's bit starts its scrub. -/
  | secConfClear (q : Requester) (ctx : Nat)
  /-- SCRUB (R410). The helm firmware scrubs a confidential context's yard, job and staging state after an ownership change, unmarking or job end. -/
  | scrub
  /-- TB_VALID_RETURN (R38). OT_TB_VALID rises again after a loss, so Oteus once more accepts epochs and lets held pending epochs fall due. -/
  | tbValidReturn
  /-- SO_ACK (R39). The host clock units toggle OT_SO_ACK to equal OT_SO_REQ, releasing the speed order's fields. -/
  | soAck
  /-- PHASE_FIRE (R290). On a CLK_S edge with the rail below its lower bound and the stagger elapsed, the controller fires the next phase in rotation with on-time T_on. -/
  | phaseFire (rail : Nat)
  /-- PULSE_END (R290). A fired phase's on-time expires and its high side turns off while the low side conducts until the next pulse. -/
  | pulseEnd (phase : Nat)
  /-- REGISTER_READ (R423). A register-port read with behaviour of its own latches the _HI half of a pair, counts hidden reads, or reports an uncorrectable capture-RAM error. Operands: r: the register-port request. -/
  | registerRead (r : RpReq)
deriving DecidableEq, Repr

end Sys2Proof
end

