-- ==== Sys2Proof/Decode.lean ====
section
/-!
DEFINITION. Reading a table word as a command. spec/opcode_table.json gives no row any bits: a command is an access on a
port, a word on a bus, an event on a pin or a timed event, not a word of one encoding. So no word spells a command.
-/

namespace Sys2Proof

/-- The command that `nbits` bits `w` spell by the table's bits: none, since no row of the table has bits. -/
def decodeTableWord (_nbits _w : Nat) : Option Instr := none

end Sys2Proof
end

