-- ==== Sys2Proof/Config.lean ====
section
/-!
DEFINITION. What an integration fixes (R2, R18, R19, R53, R54, R74, R75, R429: the reference configuration) and the
free values: constants without a body for what the spec leaves open.
-/

namespace Sys2Proof.Config

/-- BAY_COUNT of the reference configuration (R2). -/
def bayCount : Nat := 1280
/-- YARD_COUNT of the reference configuration (R2). -/
def yardCount : Nat := 96
/-- SXT_CLUSTERS of the reference configuration (R2). -/
def clusterCount : Nat := 26
/-- STG_PHASES of the reference configuration (R2). -/
def stagePhases : Nat := 30
/-- CONTEXTS (R53). -/
def contexts : Nat := 64
/-- Feaska segments: ceil(BAY_COUNT / 80) (R53, R65). -/
def segments : Nat := 16
/-- KEEL_MAX (R53). -/
def keelMax : Nat := 32

/-- The yard kinds (R19), coded as YRD_CFG.KIND (R79). -/
inductive Kind where
  | compute | fabric | array | link | memif
deriving DecidableEq, Repr

/-- Kind of a yard index (R18). -/
def kind (y : Nat) : Kind :=
  if y < 64 then .compute else if y < 66 then .fabric else if y < 82 then .array else if y < 90 then .link else .memif

/-- YRD_CFG.KIND (R79). -/
def kindCode (y : Nat) : Nat :=
  match kind y with
  | .compute => 0 | .fabric => 1 | .array => 2 | .link => 3 | .memif => 4

/-- A logic yard: compute or fabric (R239). -/
def isLogic (y : Nat) : Bool := y < 66

/-- A private yard: compute or bonded array (R257). -/
def isPrivate (y : Nat) : Bool := y < 64 || (66 ≤ y && y < 82)

/-- Rail of a yard: 0 PKG_A, 1 PKG_B (R17, R19). -/
def yardRail (y : Nat) : Nat := if y < 82 then 0 else 1

/-- Service bays of a yard (R19). -/
def serviceBays (y : Nat) : Nat :=
  match kind y with
  | .compute => 11 | .fabric => 32 | .array => 12 | .link => 12 | .memif => 16

/-- Minimum bay count: floor(3 × service bays / 4) (R19, R54). -/
def minBays (y : Nat) : Nat := 3 * serviceBays y / 4

/-- First service bay of a yard (R74). -/
def firstBay (y : Nat) : Nat :=
  if y < 64 then 12 * y
  else if y = 64 then 769
  else if y = 65 then 805
  else if y < 82 then 839 + 14 * (y - 66)
  else if y < 90 then 1061 + 14 * (y - 82)
  else 1174 + 18 * (y - 90)

/-- Remount bays on the boundary between yard y and yard y + 1: first index and count (R75). -/
def boundary (y : Nat) : Nat × Nat :=
  if y < 63 then (12 * y + 11, 1)
  else if y = 63 then (767, 2)
  else if y = 64 then (801, 4)
  else if y = 65 then (837, 2)
  else if y < 81 then (851 + 14 * (y - 66), 2)
  else if y = 81 then (0, 0)
  else if y < 89 then (1073 + 14 * (y - 82), 2)
  else if y = 89 then (1171, 3)
  else if y < 95 then (1190 + 18 * (y - 90), 2)
  else (0, 0)

/-- The yard a bay index belongs to as a service bay, if it is one (R74). -/
def serviceYard (b : Nat) : Option Nat :=
  if b < 767 then (if b % 12 < 11 then some (b / 12) else none)
  else if b < 769 then none
  else if b < 801 then some 64
  else if b < 805 then none
  else if b < 837 then some 65
  else if b < 839 then none
  else if b < 1061 then (if (b - 839) % 14 < 12 then some (66 + (b - 839) / 14) else none)
  else if b < 1171 then (if (b - 1061) % 14 < 12 then some (82 + (b - 1061) / 14) else none)
  else if b < 1174 then none
  else if b < 1280 then (if (b - 1174) % 18 < 16 then some (90 + (b - 1174) / 18) else none)
  else none

/-- The lower neighbour of a remount bay, if the bay is one (R75); the higher neighbour is one above. -/
def remountLow (b : Nat) : Option Nat :=
  if b < 767 then (if b % 12 = 11 then some (b / 12) else none)
  else if b < 769 then some 63
  else if b < 801 then none
  else if b < 805 then some 64
  else if b < 837 then none
  else if b < 839 then some 65
  else if b < 1061 then (if 12 ≤ (b - 839) % 14 then some (66 + (b - 839) / 14) else none)
  else if b < 1171 then (if 12 ≤ (b - 1061) % 14 then some (82 + (b - 1061) / 14) else none)
  else if b < 1174 then some 89
  else if b < 1280 then (if 16 ≤ (b - 1174) % 18 then some (90 + (b - 1174) / 18) else none)
  else none

/-- A bay slot is fitted: in the reference configuration exactly the service bays and the 128 remounts (R54, R74, R75). -/
def bayFitted (b : Nat) : Bool := (serviceYard b).isSome || (remountLow b).isSome

/-- BAY_CFG.ANCHOR of a bay: 0 none, 1-4 the sense point it anchors plus one (R429). -/
def anchorOf (b : Nat) : Nat :=
  match serviceYard b with
  | none => 0
  | some y =>
    let n := serviceBays y
    let k := b - firstBay y
    if k = 0 then 1 else if k = n / 4 then 2 else if k = 2 * n / 4 then 3 else if k = 3 * n / 4 then 4 else 0

/-- Sense points per yard, S (R55). -/
def sensePoints : Nat := 4

/-- The anchor bay of sense point p of yard y (R429). -/
def anchorBay (y p : Nat) : Nat := firstBay y + p * serviceBays y / sensePoints

/-- The thermal sensors mapped by THM_MAP in the reference host die: YARD_A, YARD_B (0x7F none) (R271). -/
def sensorMap (n : Nat) : Nat × Nat :=
  if n < 256 then
    let r := n / 16
    let c := n % 16
    let a := r / 2 * 8 + c / 2
    let b :=
      if (r = 7 ∨ r = 8) ∧ 1 ≤ c ∧ c ≤ 7 then 64
      else if (r = 7 ∨ r = 8) ∧ 8 ≤ c ∧ c ≤ 14 then 65
      else if r = 0 then 82 + c / 4
      else if r = 15 then 86 + c / 4
      else if c = 0 ∨ c = 15 then
        let m := if 1 ≤ r ∧ r ≤ 4 then 0 else if (r = 5 ∨ r = 6 ∨ r = 9 ∨ r = 10) then 1
                 else if 11 ≤ r ∧ r ≤ 14 then 2 else 3
        if m = 3 then 127 else if c = 0 then 90 + m else 93 + m
      else 127
    (a, b)
  else (66 + (n - 256) / 4, 127)

/-- SXT_COMP_CFG.TSENS of a cluster (R271): the lowest-indexed sensor mapped to yard 4k; TS120 for X24 and X25. -/
def tsens (n : Nat) : Nat :=
  if n < 24 then
    ((List.range 320).find? fun i => (sensorMap i).1 == 4 * n || (sensorMap i).2 == 4 * n).getD 120
  else 120

/-- The kinds of Sextant channel (R157, R158). -/
inductive ChKind where
  | die | imon | tmon | pkg | ibus | ref | vdda | temp | gnd | absent
deriving DecidableEq, Repr

/-- What channel ch of cluster n converts (R157). -/
def chKind (n ch : Nat) : ChKind :=
  if ch = 32 then .ref else if ch = 33 then .vdda else if ch = 34 then .temp else if ch = 35 then .gnd
  else if 36 ≤ ch then .absent
  else if n < 24 then (if ch < 16 then .die else .absent)
  else if ch < 15 then .imon
  else if ch < 30 then .tmon
  else if ch = 30 then .pkg
  else if n = 24 then .ibus else .absent

/-- A_nom of a channel (R158). -/
def aNom (n ch : Nat) : Nat :=
  match chKind n ch with
  | .pkg | .vdda => 30720
  | .absent => 0
  | _ => 15360

/-- The scan weight a channel resets to (R163). -/
def weightReset (n ch : Nat) : Nat :=
  match chKind n ch with
  | .die => 39 | .imon => 30 | .tmon => 2 | .ibus => 20 | .absent => 0
  | .pkg => if n = 24 then 100 else 120
  | _ => if n < 24 then 64 else 10

/-- Lanes of Tiller (R80, R106). -/
def lanes : Nat := 24

/-- Class, period, law slots and feedback mask of every yard as admission reads them, then the lanes, in the reference
configuration with the compute yards at period code p (R19, R82, R90). -/
def referenceLoops (n p : Nat) : List Nat :=
  ((List.range yardCount).flatMap fun y =>
    [if kind y = .array ∨ kind y = .memif then 1 else 0, if kind y = .compute then p else 0, 7, 15]) ++ [n]

/-! ### Free values: constants without a body -/

/-- The value of an open result: the first argument names the site (an assumption-log entry), the second is the model's
own counter State.free, so that each use is a value of its own. -/
opaque freeValue : Nat → Nat → Nat

/-- Whether an input pin that a command found low is low still: pin 0 STG_FLT_N, 1 OT_PMB_ALERT_N (R303, R308), at an elapsed time, half
nanoseconds. No row tells the pin's rise. -/
opaque pinLow : Nat → Nat → Bool

/-- The 96-bit device identity in the host fuses (R140, R425): fixed for a part, given by no rule. -/
opaque identity : BitVec 96

/-- The vendor keys held in boot ROM (R355): key slot to the public point (X, Y). -/
opaque vendorKey : Nat → Nat × Nat

/-- THM_OSC_COMP as boot ROM loads it (R277): entry j, a signed 16-bit value. -/
opaque oscComp : Nat → BitVec 16

/-- Rated maximum frequencies of the yards that are not logic yards, MHz (R426 gives 1,920 for logic yards only). -/
opaque ratedMhz : Nat → BitVec 16

/-- KEEL_WAIT of a configuration other than the reference one, ns (R433: the method is internal to Oteus). The argument
lists, yard by yard, what admission reads, then the number of lanes in service. -/
opaque keelWait : List Nat → Nat

/-- STD_WAIT of a configuration other than the reference one, ns (R433). -/
opaque stdWait : List Nat → Nat

/-- The sampling phase that Oteus's method gives a yard in a configuration, CLK_B cycles (R433): used where the assignment meets R88 and
R161. -/
opaque phase : List Nat → Nat → Nat

end Sys2Proof.Config
end

