-- ==== Sys2Proof/Machine/Operands.lean ====
section
/-!
DEFINITION. The forms operands take on the wires and in memory: the check codes of R428, little-endian bytes (R6), the
words of the Feaska bay bus (R67, R68, R71), rounding, and the arithmetic that several units share.
-/

namespace Sys2Proof.Machine

/-! ### Bits and bytes -/

/-- The `n` low bits of a number, most significant first. -/
def bitsOf : Nat → Nat → List Bool
  | 0, _ => []
  | n + 1, v => (v / 2 ^ n % 2 == 1) :: bitsOf n v

/-- A number as `n` little-endian bytes (R6). -/
def le : Nat → Nat → List Byte
  | 0, _ => []
  | n + 1, v => BitVec.ofNat 8 v :: le n (v / 256)

/-- The number that little-endian bytes hold (R6). -/
def ofLe : List Byte → Nat
  | [] => 0
  | b :: t => b.toNat + 256 * ofLe t

/-- A word of a CRC register after one more input bit, most significant bit first (R428). -/
def crcShift (w poly reg : Nat) (b : Bool) : Nat :=
  let top := reg / 2 ^ (w - 1) % 2
  let next := reg * 2 % 2 ^ w
  if (top == 1) != b then Nat.xor next poly else next

/-- CRC-4 over bits taken in the order given (R428). -/
def crc4 (bs : List Bool) : Nat := bs.foldl (crcShift 4 0x3) 0xF

/-- CRC-16 over bits taken in the order given (R428). -/
def crc16bits (bs : List Bool) : Nat := bs.foldl (crcShift 16 0x1021) 0xFFFF

/-- CRC-16 over bytes in ascending order, each most significant bit first (R428). -/
def crc16 (bytes : List Byte) : Nat := bytes.foldl (fun r b => (bitsOf 8 b.toNat).foldl (crcShift 16 0x1021) r) 0xFFFF

/-- One step of the reflected CRC-32. -/
def crc32Bit (r : Nat) : Nat := if r % 2 = 1 then Nat.xor (r / 2) 0xEDB88320 else r / 2

/-- The CRC-32 of IEEE 802.3 over bytes in ascending order (R428). -/
def crc32 (bytes : List Byte) : Nat :=
  Nat.xor (bytes.foldl (fun r b => (List.range 8).foldl (fun r _ => crc32Bit r) (Nat.xor r b.toNat)) 0xFFFFFFFF) 0xFFFFFFFF

/-! ### Words of the bay bus -/

/-- A downstream or upstream word of a type and the 24 bits [27:4], with its CRC-4 (R67, R71). -/
def fbbWord (type body : Nat) : Word :=
  let hi := type % 16 * 2 ^ 24 + body % 2 ^ 24
  BitVec.ofNat 32 (hi * 16 + crc4 (bitsOf 28 hi))

/-- The CRC-4 of a word is right (R67, R71). -/
def fbbOk (w : Word) : Bool := w.toNat % 16 == crc4 (bitsOf 28 (w.toNat / 16))

/-- TRIM (R67): yard, trim. -/
def trimWord (y : Nat) (t : Int) : Word := fbbWord 1 (y % 128 * 2 ^ 17 + unsigned 12 t * 2 ^ 5)
/-- SETPOINT (R67): yard, VIDeff target code, slew code. -/
def setpointWord (y code slew : Nat) : Word := fbbWord 2 (y % 128 * 2 ^ 17 + code % 1024 * 2 ^ 7 + slew % 16 * 2 ^ 3)
/-- PRESET (R67): yard, pre-bias. -/
def presetWord (y p : Nat) : Word := fbbWord 3 (y % 128 * 2 ^ 17 + p % 32 * 2 ^ 12)
/-- PHASE (R67): slot, phases, order 0 ADD, 1 SHED_PREP, 2 CANCEL, 3 CLEAR_TRIP. -/
def phaseWord (slot : Nat) (ph1 ph0 : Bool) (order : Nat) : Word :=
  fbbWord 4 (slot % 128 * 2 ^ 17 + ph1.toNat * 2 ^ 16 + ph0.toNat * 2 ^ 15 + order % 8 * 2 ^ 12)
/-- BAY_STATE (R67): slot, order 0 OFF, 1 READY, 2 RUN, 3 HEAT, 4 FENCE, 5 RELEASE. -/
def bayStateWord (slot order : Nat) : Word := fbbWord 5 (slot % 128 * 2 ^ 17 + order % 8 * 2 ^ 14)
/-- REMOUNT (R67): slot, side, 1 CONNECT or 0 DISCONNECT. -/
def remountWord (slot : Nat) (side connect : Bool) : Word :=
  fbbWord 6 (slot % 128 * 2 ^ 17 + side.toNat * 2 ^ 16 + connect.toNat * 2 ^ 15)
/-- CFG_WR (R67): slot, bay register, data. -/
def cfgWrWord (slot reg data : Nat) : Word := fbbWord 7 (slot % 128 * 2 ^ 17 + reg % 32 * 2 ^ 12 + data % 4096)
/-- CFG_RD (R67): slot, bay register. -/
def cfgRdWord (slot reg : Nat) : Word := fbbWord 8 (slot % 128 * 2 ^ 17 + reg % 32 * 2 ^ 12)
/-- SYNC (R67): superframe number, CRC-16 of the sharing words. -/
def syncWord (sfn crc : Nat) : Word := fbbWord 15 (sfn % 256 * 2 ^ 16 + crc % 65536)
/-- RD_RSP (R71): bay register, data. -/
def rdRspWord (reg data : Nat) : Word := fbbWord 2 (reg % 32 * 2 ^ 19 + data % 4096)
/-- EVENT (R71): event bits [27:20], bay state, phase states, fail kind. -/
def eventWord (ev st p1 p0 kind : Nat) : Word :=
  fbbWord 1 (ev % 256 * 2 ^ 16 + st % 8 * 2 ^ 13 + p1 % 8 * 2 ^ 10 + p0 % 8 * 2 ^ 7 + kind % 4 * 2 ^ 5)

/-- CRC-16 of the ten sharing words, each most significant bit first (R67). -/
def shareCrc (words : List Word) : Nat := crc16bits ((words.map fun w => bitsOf 32 w.toNat).flatten)

/-! ### Arithmetic -/

/-- Division of integers rounded to nearest, halves away from zero. -/
def roundDiv (a b : Int) : Int := if a < 0 then -((-a * 2 + b) / (2 * b)) else (a * 2 + b) / (2 * b)

/-- Division of numbers rounded up. -/
def ceilDiv (a b : Nat) : Nat := (a + b - 1) / b

/-- Right shift of a product after adding half of the last place kept: (x + 2^(n-1)) >> n. -/
def roundShift (x : Int) (n : Nat) : Int := (x + (2 ^ (n - 1) : Nat)) / (2 ^ n : Nat)

/-- Clamp of an integer. -/
def clampI (lo hi x : Int) : Int := max lo (min hi x)

/-- Bit k of a number. -/
def tb (x k : Nat) : Bool := x / 2 ^ k % 2 == 1

/-- The number with bit k set. -/
def setBit (x k : Nat) : Nat := if tb x k then x else x + 2 ^ k

/-- The number with bit k cleared. -/
def clearBit (x k : Nat) : Nat := if tb x k then x - 2 ^ k else x

/-- The bits of `x` that are not in `y`, over w bits. -/
def andNot (w x y : Nat) : Nat := Nat.land x (2 ^ w - 1 - y % 2 ^ w)

/-- How many of the bits 0..w-1 are set. -/
def popcount (w x : Nat) : Nat := ((List.range w).filter fun k => tb x k).length

/-- An element put into a sorted list, before those that do not come before it. -/
def insertBy {α : Type} (before : α → α → Bool) (a : α) : List α → List α
  | [] => [a]
  | b :: t => if before a b then a :: b :: t else b :: insertBy before a t

/-- A list in an order, elements that tie as they stood. -/
def sortBy {α : Type} (before : α → α → Bool) : List α → List α
  | [] => []
  | a :: t => insertBy before a (sortBy before t)

/-! ### Requester classes (R12-R14, R35, R314) -/

/-- A requester class; `barred` is a register-port request stamped MGMT or DBG, which R13 refuses. -/
inductive Cls where
  | mgmt | kern | user | sec | dbg | barred
deriving DecidableEq, Repr

/-- The class of a requester. -/
def clsOf (q : Requester) : Cls :=
  match q.port with
  | .mp => .mgmt
  | .dbg => .dbg
  | .rp => match q.stamp.toNat with | 1 => .kern | 3 => .sec | 4 | 5 => .barred | _ => .user

/-- CLASS of a recorded write (R417): the requester class coded as OT_RP_CLASS; a request without a valid stamp is USER (R12). -/
def classCode (q : Requester) : Nat :=
  match clsOf q with
  | .kern => 1
  | .user => 2
  | .sec => 3
  | .mgmt => 4
  | .dbg => 5
  | .barred => q.stamp.toNat

/-- RCLASS of an access (R378): the stamp carried, or the code of MGMT or DBG. -/
def rclassOf (q : Requester) : Nat :=
  match q.port with
  | .mp => 4
  | .dbg => 5
  | .rp => q.stamp.toNat

end Sys2Proof.Machine
end

