-- ==== Sys2Proof/Machine/Crypto.lean ====
section
/-!
DEFINITION. SHA-384 and ECDSA verification on P-384, which R141, R142, R355 and R366 name and FIPS 180-4 and FIPS 186-5
define (PRESUMED, assumption log 9): plain arithmetic on numbers.
-/

namespace Sys2Proof.Machine

/-! ### SHA-384 -/

/-- A 64-bit word of the hash. -/
abbrev W64 := BitVec 64

/-- The first 80 primes, of which 409 is the last. -/
def shaPrimes : List Nat := (List.range 408).map (· + 2) |>.filter fun p => (List.range 19).all fun d => p == d + 2 || p % (d + 2) != 0

/-- The largest number of 67 bits whose k-th power does not exceed x. -/
def rootFloor (k x : Nat) : Nat := (List.range 67).foldr (fun i r => if (r + 2 ^ i) ^ k ≤ x then r + 2 ^ i else r) 0

/-- The first 64 bits of the fractional part of a prime's k-th root. -/
def rootBits (k p : Nat) : W64 := BitVec.ofNat 64 (rootFloor k (p * 2 ^ (64 * k)))

/-- Round constants: cube roots of the first 80 primes. -/
def shaKs : List W64 := shaPrimes.map (rootBits 3)

/-- Initial hash value of SHA-384: square roots of the ninth to the sixteenth prime. -/
def shaInit : List W64 := ((shaPrimes.drop 8).take 8).map (rootBits 2)

/-- A word turned right by several amounts, the results and a last term added without carries. -/
def turned (x : W64) (turns : List Nat) (last : W64) : W64 := turns.foldl (fun acc n => acc ^^^ x.rotateRight n) last

/-- The next words of the message schedule: `w` holds the words so far, newest first. -/
def shaExtend : Nat → List W64 → List W64
  | 0, w => w
  | n + 1, w =>
    let old (k : Nat) : W64 := w.getD (k - 1) 0
    shaExtend n ((turned (old 2) [19, 61] (old 2 >>> 6) + old 7 + turned (old 15) [1, 8] (old 15 >>> 7) + old 16) :: w)

/-- One round on the eight working words, a word of the schedule and its constant added. -/
def shaRound (v : List W64) (add : W64) : List W64 :=
  match v with
  | [a, b, c, d, e, f, g, h] =>
    let step := add + h + (g ^^^ (e &&& (f ^^^ g))) + turned e [14, 18, 41] 0
    [step + ((a &&& b) ||| (c &&& (a ||| b))) + turned a [28, 34, 39] 0, a, b, c, d + step, e, f, g]
  | v => v

/-- A number from big-endian bytes. -/
def ofBe (l : List Byte) : Nat := l.foldl (fun a b => a * 256 + b.toNat) 0

/-- A number as n big-endian bytes. -/
def be (n v : Nat) : List Byte := (le n v).reverse

/-- One 128-byte block. -/
def shaBlock (h : List W64) (blk : List Byte) : List W64 :=
  let w := (List.range 16).map fun i => BitVec.ofNat 64 (ofBe ((blk.drop (8 * i)).take 8))
  let sched := (shaExtend 64 w.reverse).reverse
  let out := (shaKs.zipWith (· + ·) sched).foldl shaRound h
  h.zipWith (· + ·) out

/-- Blocks of a padded message. -/
def shaBlocks : Nat → List W64 → List Byte → List W64
  | 0, h, _ => h
  | n + 1, h, m => shaBlocks n (shaBlock h (m.take 128)) (m.drop 128)

/-- SHA-384 of bytes, as 48 bytes. -/
def sha384 (m : List Byte) : List Byte :=
  let pad := (128 - (m.length + 17) % 128) % 128
  let msg := m ++ [0x80] ++ List.replicate pad 0 ++ be 16 (8 * m.length)
  ((shaBlocks (msg.length / 128) shaInit msg).flatMap fun w => be 8 w.toNat).take 48

/-! ### P-384 -/

def p384P : Nat := 2 ^ 384 - 2 ^ 128 - 2 ^ 96 + 2 ^ 32 - 1
def p384N : Nat := 0xFFFFFFFFFFFFFFFFFFFFFFFFFFFFFFFFFFFFFFFFFFFFFFFFC7634D81F4372DDF581A0DB248B0A77AECEC196ACCC52973
def p384B : Nat := 0xB3312FA7E23EE7E4988E056BE3F82D19181D9C6EFE8141120314088F5013875AC656398D8A2ED19D2A85C8EDD3EC2AEF
def p384Gx : Nat := 0xAA87CA22BE8B05378EB1C71EF320AD746E1D3B628BA79B9859F741E082542A385502F25DBF55296C3A545E3872760AB7
def p384Gy : Nat := 0x3617DE4A96262C6F5D9E98BF9292DC29F8F41DBD289A147CE9DA3113B5F0B8C00A60B1CE1D7E819D7A431D7C90EA0E5F

/-- A power modulo m: square and multiply over the exponent's bits, most significant first. -/
def powMod (m x : Nat) (bits : List Bool) : Nat := bits.foldl (fun a b => let q := a * a % m; if b then q * x % m else q) 1

/-- The inverse modulo a prime m. -/
def invMod (m x : Nat) : Nat := powMod m x (bitsOf 384 (m - 2))

/-- A point: none is the point at infinity. -/
abbrev EcPoint := Option (Nat × Nat)

/-- Sum of two points. -/
def ecAdd (a b : EcPoint) : EcPoint :=
  match a, b with
  | none, q => q
  | q, none => q
  | some (x1, y1), some (x2, y2) =>
    let p := p384P
    if x1 = x2 ∧ (y1 + y2) % p = 0 then none
    else
      let l := if x1 = x2 then (3 * x1 * x1 + p - 3) * invMod p (2 * y1 % p) % p
               else (y2 + p - y1) * invMod p ((x2 + p - x1) % p) % p
      let x3 := (l * l + 2 * p - x1 - x2) % p
      some (x3, (l * (x1 + p - x3) + p - y1) % p)

/-- A multiple of a point. -/
def ecMul (k : Nat) (q : EcPoint) : EcPoint := (bitsOf 384 k).foldl (fun a b => let d := ecAdd a a; if b then ecAdd d q else d) none

/-- A public key is a point of the curve. -/
def onCurve (x y : Nat) : Bool :=
  x < p384P && y < p384P && y * y % p384P == (x * x * x + (p384P - 3) * x + p384B) % p384P

/-- ECDSA verification of a 48-byte digest under the public point (x, y) (R141, R355). -/
def ecdsaOk (x y : Nat) (digest : List Byte) (r t : Nat) : Bool :=
  if 1 ≤ r ∧ r < p384N ∧ 1 ≤ t ∧ t < p384N ∧ onCurve x y then
    let w := invMod p384N t
    let e := ofBe digest
    match ecAdd (ecMul (e * w % p384N) (some (p384Gx, p384Gy))) (ecMul (r * w % p384N) (some (x, y))) with
    | none => false
    | some (x1, _) => x1 % p384N == r
  else false

end Sys2Proof.Machine
end

