-- ==== Sys2Proof/Machine/Fields.lean ====
section
/-!
DEFINITION. The named fields of the aperture (the register tables of spec/03 to spec/17): for each register a namespace,
in it one field per row of its table, and `reg` for the whole word. An address is the register's offset in the aperture;
the BAY records stand at 0x20_0000 + 0x40 × b instead of R78's 0x03_0000 + 0x40 × b (DEDUCED, assumption log 4).
-/

namespace Sys2Proof.Machine

/-- A field of a register: the address of the word, its lowest bit and its width. -/
structure Fld where
  addr : Nat
  lo : Nat
  w : Nat
deriving DecidableEq, Repr

/-! ### R78 -/

namespace BAY_CFG
def reg (b : Nat) : Fld := ⟨0x200000 + 0x40 * b, 0, 32⟩
def YARD_HI (b : Nat) : Fld := ⟨0x200000 + 0x40 * b, 24, 7⟩
def YARD_LO (b : Nat) : Fld := ⟨0x200000 + 0x40 * b, 17, 7⟩
def SEGMENT (b : Nat) : Fld := ⟨0x200000 + 0x40 * b, 13, 4⟩
def SLOT (b : Nat) : Fld := ⟨0x200000 + 0x40 * b, 6, 7⟩
def ANCHOR (b : Nat) : Fld := ⟨0x200000 + 0x40 * b, 3, 3⟩
def RAIL (b : Nat) : Fld := ⟨0x200000 + 0x40 * b, 2, 1⟩
def REMOUNT (b : Nat) : Fld := ⟨0x200000 + 0x40 * b, 1, 1⟩
def FITTED (b : Nat) : Fld := ⟨0x200000 + 0x40 * b, 0, 1⟩
end BAY_CFG

namespace BAY_STATE
def reg (b : Nat) : Fld := ⟨0x200004 + 0x40 * b, 0, 32⟩
def FAIL_KIND (b : Nat) : Fld := ⟨0x200004 + 0x40 * b, 17, 2⟩
def ALL_HANDS (b : Nat) : Fld := ⟨0x200004 + 0x40 * b, 16, 1⟩
def YARD (b : Nat) : Fld := ⟨0x200004 + 0x40 * b, 9, 7⟩
def PH1_STATE (b : Nat) : Fld := ⟨0x200004 + 0x40 * b, 6, 3⟩
def PH0_STATE (b : Nat) : Fld := ⟨0x200004 + 0x40 * b, 3, 3⟩
def STATE (b : Nat) : Fld := ⟨0x200004 + 0x40 * b, 0, 3⟩
end BAY_STATE

namespace BAY_CTRL
def reg (b : Nat) : Fld := ⟨0x200008 + 0x40 * b, 0, 32⟩
def ORDER (b : Nat) : Fld := ⟨0x200008 + 0x40 * b, 0, 2⟩
end BAY_CTRL

namespace BAY_EVT
def reg (b : Nat) : Fld := ⟨0x20000c + 0x40 * b, 0, 32⟩
def EVT (b : Nat) : Fld := ⟨0x20000c + 0x40 * b, 0, 8⟩
end BAY_EVT

namespace BAY_IMON
def reg (b : Nat) : Fld := ⟨0x200010 + 0x40 * b, 0, 32⟩
def SFN (b : Nat) : Fld := ⟨0x200010 + 0x40 * b, 16, 8⟩
def PH1_I (b : Nat) : Fld := ⟨0x200010 + 0x40 * b, 8, 8⟩
def PH0_I (b : Nat) : Fld := ⟨0x200010 + 0x40 * b, 0, 8⟩
end BAY_IMON

namespace BAY_IAVG
def reg (b : Nat) : Fld := ⟨0x200014 + 0x40 * b, 0, 32⟩
def IAVG (b : Nat) : Fld := ⟨0x200014 + 0x40 * b, 0, 16⟩
end BAY_IAVG

namespace BAY_REF
def reg (b : Nat) : Fld := ⟨0x200018 + 0x40 * b, 0, 32⟩
def PREBIAS (b : Nat) : Fld := ⟨0x200018 + 0x40 * b, 22, 5⟩
def TRIM (b : Nat) : Fld := ⟨0x200018 + 0x40 * b, 10, 12⟩
def VID_NOW (b : Nat) : Fld := ⟨0x200018 + 0x40 * b, 0, 10⟩
end BAY_REF

namespace BAY_WEAR
def reg (b : Nat) : Fld := ⟨0x200020 + 0x40 * b, 0, 32⟩
def WORN (b : Nat) : Fld := ⟨0x200020 + 0x40 * b, 31, 1⟩
def CRITICAL (b : Nat) : Fld := ⟨0x200020 + 0x40 * b, 30, 1⟩
def LOSS (b : Nat) : Fld := ⟨0x200020 + 0x40 * b, 16, 8⟩
def OFS1 (b : Nat) : Fld := ⟨0x200020 + 0x40 * b, 8, 8⟩
def OFS0 (b : Nat) : Fld := ⟨0x200020 + 0x40 * b, 0, 8⟩
end BAY_WEAR

namespace BAY_HYST
def reg (b : Nat) : Fld := ⟨0x200028 + 0x40 * b, 0, 32⟩
def WIN (b : Nat) : Fld := ⟨0x200028 + 0x40 * b, 0, 4⟩
end BAY_HYST

namespace BAY_REMOUNT
def reg (b : Nat) : Fld := ⟨0x20002c + 0x40 * b, 0, 32⟩
def GO (b : Nat) : Fld := ⟨0x20002c + 0x40 * b, 2, 1⟩
def CONNECT (b : Nat) : Fld := ⟨0x20002c + 0x40 * b, 1, 1⟩
def SIDE (b : Nat) : Fld := ⟨0x20002c + 0x40 * b, 0, 1⟩
end BAY_REMOUNT

namespace BAY_DROOP
def reg (b : Nat) : Fld := ⟨0x200030 + 0x40 * b, 0, 32⟩
def TH (b : Nat) : Fld := ⟨0x200030 + 0x40 * b, 0, 6⟩
end BAY_DROOP

namespace BAY_SHARE
def reg (b : Nat) : Fld := ⟨0x200034 + 0x40 * b, 0, 32⟩
def PH1_OFS (b : Nat) : Fld := ⟨0x200034 + 0x40 * b, 8, 6⟩
def PH0_OFS (b : Nat) : Fld := ⟨0x200034 + 0x40 * b, 0, 6⟩
end BAY_SHARE

namespace BAY_CNT_TRIP
def TRIPS (b : Nat) : Fld := ⟨0x200038 + 0x40 * b, 0, 32⟩
end BAY_CNT_TRIP

namespace BAY_CNT_ERR
def reg (b : Nat) : Fld := ⟨0x20003c + 0x40 * b, 0, 32⟩
def PARITY (b : Nat) : Fld := ⟨0x20003c + 0x40 * b, 16, 16⟩
def BUS (b : Nat) : Fld := ⟨0x20003c + 0x40 * b, 0, 16⟩
end BAY_CNT_ERR

/-! ### R79 -/

namespace YRD_CFG
def reg (y : Nat) : Fld := ⟨0x20000 + 0x100 * y, 0, 32⟩
def SENSE_POINTS (y : Nat) : Fld := ⟨0x20000 + 0x100 * y, 17, 3⟩
def MIN_BAYS (y : Nat) : Fld := ⟨0x20000 + 0x100 * y, 11, 6⟩
def SERVICE_BAYS (y : Nat) : Fld := ⟨0x20000 + 0x100 * y, 5, 6⟩
def RAIL (y : Nat) : Fld := ⟨0x20000 + 0x100 * y, 4, 1⟩
def FITTED (y : Nat) : Fld := ⟨0x20000 + 0x100 * y, 3, 1⟩
def KIND (y : Nat) : Fld := ⟨0x20000 + 0x100 * y, 0, 3⟩
end YRD_CFG

namespace YRD_BAYS
def reg (y : Nat) : Fld := ⟨0x20004 + 0x100 * y, 0, 32⟩
def LAST_BAY (y : Nat) : Fld := ⟨0x20004 + 0x100 * y, 11, 11⟩
def FIRST_BAY (y : Nat) : Fld := ⟨0x20004 + 0x100 * y, 0, 11⟩
end YRD_BAYS

namespace YRD_SPARES
def reg (y : Nat) : Fld := ⟨0x20008 + 0x100 * y, 0, 32⟩
def HI_COUNT (y : Nat) : Fld := ⟨0x20008 + 0x100 * y, 25, 3⟩
def HI_FIRST (y : Nat) : Fld := ⟨0x20008 + 0x100 * y, 14, 11⟩
def LO_COUNT (y : Nat) : Fld := ⟨0x20008 + 0x100 * y, 11, 3⟩
def LO_FIRST (y : Nat) : Fld := ⟨0x20008 + 0x100 * y, 0, 11⟩
end YRD_SPARES

namespace YRD_STATUS
def reg (y : Nat) : Fld := ⟨0x2000c + 0x100 * y, 0, 32⟩
def BELOW_MIN (y : Nat) : Fld := ⟨0x2000c + 0x100 * y, 24, 1⟩
def YARD_FENCED (y : Nat) : Fld := ⟨0x2000c + 0x100 * y, 23, 1⟩
def ALL_HANDS (y : Nat) : Fld := ⟨0x2000c + 0x100 * y, 22, 1⟩
def ACTIVE_PHASES (y : Nat) : Fld := ⟨0x2000c + 0x100 * y, 15, 7⟩
def REMOUNTS_IN (y : Nat) : Fld := ⟨0x2000c + 0x100 * y, 12, 3⟩
def FENCED_BAYS (y : Nat) : Fld := ⟨0x2000c + 0x100 * y, 6, 6⟩
def RUN_BAYS (y : Nat) : Fld := ⟨0x2000c + 0x100 * y, 0, 6⟩
end YRD_STATUS

namespace YRD_SEGMENTS
def reg (y : Nat) : Fld := ⟨0x20010 + 0x100 * y, 0, 32⟩
def SEG (y : Nat) : Fld := ⟨0x20010 + 0x100 * y, 0, 16⟩
end YRD_SEGMENTS

namespace YRD_VID
def reg (y : Nat) : Fld := ⟨0x20040 + 0x100 * y, 0, 32⟩
def EFFECTIVE (y : Nat) : Fld := ⟨0x20040 + 0x100 * y, 16, 10⟩
def TARGET (y : Nat) : Fld := ⟨0x20040 + 0x100 * y, 0, 10⟩
end YRD_VID

namespace YRD_SLEW
def reg (y : Nat) : Fld := ⟨0x20044 + 0x100 * y, 0, 32⟩
def SLEW (y : Nat) : Fld := ⟨0x20044 + 0x100 * y, 0, 4⟩
end YRD_SLEW

namespace YRD_ILIM
def reg (y : Nat) : Fld := ⟨0x20048 + 0x100 * y, 0, 32⟩
def CURRENT (y : Nat) : Fld := ⟨0x20048 + 0x100 * y, 16, 16⟩
def LIMIT (y : Nat) : Fld := ⟨0x20048 + 0x100 * y, 0, 16⟩
end YRD_ILIM

namespace YRD_OFFSETS
def reg (y : Nat) : Fld := ⟨0x2004c + 0x100 * y, 0, 32⟩
def PREBIAS (y : Nat) : Fld := ⟨0x2004c + 0x100 * y, 16, 5⟩
def PRERAISE (y : Nat) : Fld := ⟨0x2004c + 0x100 * y, 8, 5⟩
def FLOOR_OFS (y : Nat) : Fld := ⟨0x2004c + 0x100 * y, 0, 6⟩
end YRD_OFFSETS

namespace YRD_CTRL
def reg (y : Nat) : Fld := ⟨0x20050 + 0x100 * y, 0, 32⟩
def AUTO_REMOUNT (y : Nat) : Fld := ⟨0x20050 + 0x100 * y, 0, 1⟩
end YRD_CTRL

namespace YRD_CNT_ALLHANDS
def COUNT (y : Nat) : Fld := ⟨0x200e0 + 0x100 * y, 0, 32⟩
end YRD_CNT_ALLHANDS

namespace YRD_CNT_BAYFAIL
def COUNT (y : Nat) : Fld := ⟨0x200e4 + 0x100 * y, 0, 32⟩
end YRD_CNT_BAYFAIL

namespace YRD_CNT_REMOUNT
def COUNT (y : Nat) : Fld := ⟨0x200e8 + 0x100 * y, 0, 32⟩
end YRD_CNT_REMOUNT

/-! ### R101 -/

namespace B0
def reg (y : Nat) (s : Nat) : Fld := ⟨0x40000 + 0x100 * y + 0x20 * s, 0, 32⟩
def B0 (y : Nat) (s : Nat) : Fld := ⟨0x40000 + 0x100 * y + 0x20 * s, 0, 24⟩
end B0

namespace B1
def reg (y : Nat) (s : Nat) : Fld := ⟨0x40004 + 0x100 * y + 0x20 * s, 0, 32⟩
def B1 (y : Nat) (s : Nat) : Fld := ⟨0x40004 + 0x100 * y + 0x20 * s, 0, 24⟩
end B1

namespace B2
def reg (y : Nat) (s : Nat) : Fld := ⟨0x40008 + 0x100 * y + 0x20 * s, 0, 32⟩
def B2 (y : Nat) (s : Nat) : Fld := ⟨0x40008 + 0x100 * y + 0x20 * s, 0, 24⟩
end B2

namespace B3
def reg (y : Nat) (s : Nat) : Fld := ⟨0x4000c + 0x100 * y + 0x20 * s, 0, 32⟩
def B3 (y : Nat) (s : Nat) : Fld := ⟨0x4000c + 0x100 * y + 0x20 * s, 0, 24⟩
end B3

namespace A1
def reg (y : Nat) (s : Nat) : Fld := ⟨0x40010 + 0x100 * y + 0x20 * s, 0, 32⟩
def A1 (y : Nat) (s : Nat) : Fld := ⟨0x40010 + 0x100 * y + 0x20 * s, 0, 24⟩
end A1

namespace A2
def reg (y : Nat) (s : Nat) : Fld := ⟨0x40014 + 0x100 * y + 0x20 * s, 0, 32⟩
def A2 (y : Nat) (s : Nat) : Fld := ⟨0x40014 + 0x100 * y + 0x20 * s, 0, 24⟩
end A2

namespace A3
def reg (y : Nat) (s : Nat) : Fld := ⟨0x40018 + 0x100 * y + 0x20 * s, 0, 32⟩
def A3 (y : Nat) (s : Nat) : Fld := ⟨0x40018 + 0x100 * y + 0x20 * s, 0, 24⟩
end A3

namespace CTL
def reg (y : Nat) (s : Nat) : Fld := ⟨0x4001c + 0x100 * y + 0x20 * s, 0, 32⟩
def LAW (y : Nat) (s : Nat) : Fld := ⟨0x4001c + 0x100 * y + 0x20 * s, 30, 2⟩
def VALID (y : Nat) (s : Nat) : Fld := ⟨0x4001c + 0x100 * y + 0x20 * s, 29, 1⟩
def OUT_MAX (y : Nat) (s : Nat) : Fld := ⟨0x4001c + 0x100 * y + 0x20 * s, 16, 12⟩
def OUT_MIN (y : Nat) (s : Nat) : Fld := ⟨0x4001c + 0x100 * y + 0x20 * s, 0, 12⟩
end CTL

/-! ### R105 -/

namespace YRD_LOOP
def reg (y : Nat) : Fld := ⟨0x20080 + 0x100 * y, 0, 32⟩
def SUP (y : Nat) : Fld := ⟨0x20080 + 0x100 * y, 7, 2⟩
def CLASS (y : Nat) : Fld := ⟨0x20080 + 0x100 * y, 6, 1⟩
def PERIOD (y : Nat) : Fld := ⟨0x20080 + 0x100 * y, 4, 2⟩
def MODE (y : Nat) : Fld := ⟨0x20080 + 0x100 * y, 3, 1⟩
def SET (y : Nat) : Fld := ⟨0x20080 + 0x100 * y, 0, 3⟩
end YRD_LOOP

namespace YRD_LOOP_NOW
def reg (y : Nat) : Fld := ⟨0x20084 + 0x100 * y, 0, 32⟩
def FORCED (y : Nat) : Fld := ⟨0x20084 + 0x100 * y, 8, 1⟩
def HOLD (y : Nat) : Fld := ⟨0x20084 + 0x100 * y, 7, 1⟩
def CLASS_NOW (y : Nat) : Fld := ⟨0x20084 + 0x100 * y, 6, 1⟩
def PERIOD_NOW (y : Nat) : Fld := ⟨0x20084 + 0x100 * y, 4, 2⟩
def MODE_NOW (y : Nat) : Fld := ⟨0x20084 + 0x100 * y, 3, 1⟩
def SET_NOW (y : Nat) : Fld := ⟨0x20084 + 0x100 * y, 0, 3⟩
end YRD_LOOP_NOW

namespace YRD_HAND
def reg (y : Nat) : Fld := ⟨0x20088 + 0x100 * y, 0, 32⟩
def TRIM (y : Nat) : Fld := ⟨0x20088 + 0x100 * y, 0, 12⟩
end YRD_HAND

namespace YRD_OUT
def reg (y : Nat) : Fld := ⟨0x2008c + 0x100 * y, 0, 32⟩
def ERR (y : Nat) : Fld := ⟨0x2008c + 0x100 * y, 16, 16⟩
def TRIM (y : Nat) : Fld := ⟨0x2008c + 0x100 * y, 0, 12⟩
end YRD_OUT

namespace YRD_FB
def reg (y : Nat) : Fld := ⟨0x20090 + 0x100 * y, 0, 32⟩
def PHASE (y : Nat) : Fld := ⟨0x20090 + 0x100 * y, 16, 9⟩
def SUSPECT (y : Nat) : Fld := ⟨0x20090 + 0x100 * y, 4, 4⟩
def MASK (y : Nat) : Fld := ⟨0x20090 + 0x100 * y, 0, 4⟩
end YRD_FB

namespace YRD_LOOP_EVT
def reg (y : Nat) : Fld := ⟨0x20094 + 0x100 * y, 0, 32⟩
def EVT (y : Nat) : Fld := ⟨0x20094 + 0x100 * y, 0, 6⟩
end YRD_LOOP_EVT

namespace YRD_CNT_KEELMISS
def COUNT (y : Nat) : Fld := ⟨0x20098 + 0x100 * y, 0, 32⟩
end YRD_CNT_KEELMISS

namespace YRD_CNT_SAT
def COUNT (y : Nat) : Fld := ⟨0x2009c + 0x100 * y, 0, 32⟩
end YRD_CNT_SAT

namespace YRD_CNT_OVERRUN
def COUNT (y : Nat) : Fld := ⟨0x200a0 + 0x100 * y, 0, 32⟩
end YRD_CNT_OVERRUN

/-! ### R106 -/

namespace TIL_STATUS
def reg : Fld := ⟨0x14040, 0, 32⟩
def LOAD : Fld := ⟨0x14040, 16, 7⟩
def KEEL_COUNT : Fld := ⟨0x14040, 8, 6⟩
def LANES : Fld := ⟨0x14040, 0, 5⟩
end TIL_STATUS

namespace TIL_BOUND
def reg : Fld := ⟨0x14044, 0, 32⟩
def KEEL_WAIT : Fld := ⟨0x14044, 8, 8⟩
def STD_WAIT : Fld := ⟨0x14044, 0, 8⟩
end TIL_BOUND

namespace TIL_ADMIT
def reg : Fld := ⟨0x14400, 0, 32⟩
def LOAD_MAX : Fld := ⟨0x14400, 0, 7⟩
end TIL_ADMIT

namespace TIL_URGENT
def reg : Fld := ⟨0x14404, 0, 32⟩
def SLACK : Fld := ⟨0x14404, 0, 8⟩
end TIL_URGENT

namespace TIL_LANES
def reg : Fld := ⟨0x14408, 0, 32⟩
def RETIRED : Fld := ⟨0x14408, 0, 24⟩
end TIL_LANES

namespace TIL_CNT_KEELMISS
def COUNT : Fld := ⟨0x14e00, 0, 32⟩
end TIL_CNT_KEELMISS

namespace TIL_CNT_OVERRUN
def COUNT : Fld := ⟨0x14e04, 0, 32⟩
end TIL_CNT_OVERRUN

namespace TIL_CNT_LANEERR
def COUNT : Fld := ⟨0x14e08, 0, 32⟩
end TIL_CNT_LANEERR

namespace TIL_CNT_REFUSED
def COUNT : Fld := ⟨0x14e0c, 0, 32⟩
end TIL_CNT_REFUSED

namespace TIL_WAIT_MAX
def reg : Fld := ⟨0x14e10, 0, 32⟩
def KEEL : Fld := ⟨0x14e10, 8, 8⟩
def STD : Fld := ⟨0x14e10, 0, 8⟩
end TIL_WAIT_MAX

namespace TIL_CNT_SHAREMISS
def COUNT : Fld := ⟨0x14e14, 0, 32⟩
end TIL_CNT_SHAREMISS

namespace TIL_CNT_SUPMISS
def COUNT : Fld := ⟨0x14e18, 0, 32⟩
end TIL_CNT_SUPMISS

/-! ### R124 -/

namespace YRD_PHCTL
def reg (y : Nat) : Fld := ⟨0x200c0 + 0x100 * y, 0, 32⟩
def SHARE_EN (y : Nat) : Fld := ⟨0x200c0 + 0x100 * y, 1, 1⟩
def SHED_EN (y : Nat) : Fld := ⟨0x200c0 + 0x100 * y, 0, 1⟩
end YRD_PHCTL

namespace YRD_SHED_TH
def reg (y : Nat) : Fld := ⟨0x200c4 + 0x100 * y, 0, 32⟩
def OVERRIDE (y : Nat) : Fld := ⟨0x200c4 + 0x100 * y, 31, 1⟩
def DWELL (y : Nat) : Fld := ⟨0x200c4 + 0x100 * y, 16, 8⟩
def ADD (y : Nat) : Fld := ⟨0x200c4 + 0x100 * y, 8, 8⟩
def SHED (y : Nat) : Fld := ⟨0x200c4 + 0x100 * y, 0, 8⟩
end YRD_SHED_TH

namespace YRD_SHARE_TUNE
def reg (y : Nat) : Fld := ⟨0x200c8 + 0x100 * y, 0, 32⟩
def TRIP_HOLD (y : Nat) : Fld := ⟨0x200c8 + 0x100 * y, 8, 8⟩
def DEADBAND (y : Nat) : Fld := ⟨0x200c8 + 0x100 * y, 0, 8⟩
end YRD_SHARE_TUNE

namespace YRD_DROOP
def reg (y : Nat) : Fld := ⟨0x200cc + 0x100 * y, 0, 32⟩
def TH (y : Nat) : Fld := ⟨0x200cc + 0x100 * y, 0, 6⟩
end YRD_DROOP

namespace YRD_WAKE
def reg (y : Nat) : Fld := ⟨0x200d0 + 0x100 * y, 0, 32⟩
def SLOW_SLEW (y : Nat) : Fld := ⟨0x200d0 + 0x100 * y, 24, 4⟩
def DEFER_MAX (y : Nat) : Fld := ⟨0x200d0 + 0x100 * y, 16, 8⟩
def BUSY_NBR (y : Nat) : Fld := ⟨0x200d0 + 0x100 * y, 8, 8⟩
def BUSY_RAIL (y : Nat) : Fld := ⟨0x200d0 + 0x100 * y, 0, 8⟩
end YRD_WAKE

namespace YRD_VF
def reg (y : Nat) : Fld := ⟨0x200d4 + 0x100 * y, 0, 32⟩
def WAIT_MAX (y : Nat) : Fld := ⟨0x200d4 + 0x100 * y, 16, 8⟩
def TOL (y : Nat) : Fld := ⟨0x200d4 + 0x100 * y, 8, 8⟩
def SETTLE (y : Nat) : Fld := ⟨0x200d4 + 0x100 * y, 0, 8⟩
end YRD_VF

namespace YRD_SHARE_STAT
def reg (y : Nat) : Fld := ⟨0x200d8 + 0x100 * y, 0, 32⟩
def PER_PHASE (y : Nat) : Fld := ⟨0x200d8 + 0x100 * y, 16, 8⟩
def WANT (y : Nat) : Fld := ⟨0x200d8 + 0x100 * y, 8, 7⟩
def LAST_CAUSE (y : Nat) : Fld := ⟨0x200d8 + 0x100 * y, 0, 4⟩
end YRD_SHARE_STAT

namespace YRD_SHED_EVT
def reg (y : Nat) : Fld := ⟨0x200dc + 0x100 * y, 0, 32⟩
def CANCELS (y : Nat) : Fld := ⟨0x200dc + 0x100 * y, 16, 16⟩
def EVT (y : Nat) : Fld := ⟨0x200dc + 0x100 * y, 0, 5⟩
end YRD_SHED_EVT

/-! ### R154 -/

namespace PIL_STATUS
def reg : Fld := ⟨0x7040, 0, 32⟩
def OPEN_COLL : Fld := ⟨0x7040, 16, 5⟩
def QUEUED : Fld := ⟨0x7040, 0, 7⟩
end PIL_STATUS

namespace PIL_COLL
def reg : Fld := ⟨0x7044, 0, 32⟩
def OPEN : Fld := ⟨0x7044, 0, 16⟩
end PIL_COLL

namespace PIL_LAST_LO
def NOTICE : Fld := ⟨0x7048, 0, 32⟩
end PIL_LAST_LO

namespace PIL_LAST_HI
def NOTICE : Fld := ⟨0x704c, 0, 32⟩
end PIL_LAST_HI

namespace PIL_YEN
def EN (j : Nat) : Fld := ⟨0x7050 + 0x4 * j, 0, 32⟩
end PIL_YEN

namespace PIL_COAL
def reg : Fld := ⟨0x7400, 0, 32⟩
def GATHER : Fld := ⟨0x7400, 0, 5⟩
end PIL_COAL

namespace PIL_PRESET
def reg : Fld := ⟨0x7404, 0, 32⟩
def RAISE_FS : Fld := ⟨0x7404, 24, 8⟩
def BIAS_FS : Fld := ⟨0x7404, 16, 8⟩
def LEAD : Fld := ⟨0x7404, 8, 8⟩
def HOLD_AFTER : Fld := ⟨0x7404, 0, 8⟩
end PIL_PRESET

namespace PIL_PRESET_EN
def reg : Fld := ⟨0x7408, 0, 32⟩
def RAISE : Fld := ⟨0x7408, 10, 1⟩
def BIAS : Fld := ⟨0x7408, 9, 1⟩
def FLOOR : Fld := ⟨0x7408, 8, 1⟩
def RAISE_TIME : Fld := ⟨0x7408, 0, 5⟩
end PIL_PRESET_EN

namespace PIL_CNT_ACCEPT
def COUNT : Fld := ⟨0x7e00, 0, 32⟩
end PIL_CNT_ACCEPT

namespace PIL_CNT_COALESCED
def COUNT : Fld := ⟨0x7e04, 0, 32⟩
end PIL_CNT_COALESCED

namespace PIL_CNT_DISCARD
def COUNT : Fld := ⟨0x7e08, 0, 32⟩
end PIL_CNT_DISCARD

namespace PIL_CNT_BAD
def COUNT : Fld := ⟨0x7e0c, 0, 32⟩
end PIL_CNT_BAD

namespace PIL_CNT_LATE
def COUNT : Fld := ⟨0x7e10, 0, 32⟩
end PIL_CNT_LATE

namespace PIL_CNT_COLLERR
def COUNT : Fld := ⟨0x7e14, 0, 32⟩
end PIL_CNT_COLLERR

/-! ### R155 -/

namespace DRE_CTRL
def reg : Fld := ⟨0x8040, 0, 32⟩
def RUN : Fld := ⟨0x8040, 0, 1⟩
end DRE_CTRL

namespace DRE_STATUS
def reg : Fld := ⟨0x8044, 0, 32⟩
def VALID_SLOTS : Fld := ⟨0x8044, 16, 8⟩
def LOAD_STATE : Fld := ⟨0x8044, 12, 2⟩
def SPARE : Fld := ⟨0x8044, 8, 4⟩
def RUNNING : Fld := ⟨0x8044, 7, 1⟩
def LOAD : Fld := ⟨0x8044, 0, 7⟩
end DRE_STATUS

namespace DRE_LOAD
def reg : Fld := ⟨0x8048, 0, 32⟩
def GO : Fld := ⟨0x8048, 8, 1⟩
def SRC : Fld := ⟨0x8048, 4, 2⟩
def SLOT : Fld := ⟨0x8048, 0, 3⟩
end DRE_LOAD

namespace DRE_LOAD_RES
def reg : Fld := ⟨0x804c, 0, 32⟩
def RESULT : Fld := ⟨0x804c, 0, 4⟩
end DRE_LOAD_RES

namespace DRE_LOAD_ADDR_LO
def ADDR : Fld := ⟨0x8050, 0, 32⟩
end DRE_LOAD_ADDR_LO

namespace DRE_LOAD_ADDR_HI
def ADDR : Fld := ⟨0x8054, 0, 32⟩
end DRE_LOAD_ADDR_HI

namespace DRE_SLOT_ID
def MODEL_ID (s : Nat) : Fld := ⟨0x8080 + 0x10 * s, 0, 32⟩
end DRE_SLOT_ID

namespace DRE_SLOT_VER
def VERSION (s : Nat) : Fld := ⟨0x8084 + 0x10 * s, 0, 32⟩
end DRE_SLOT_VER

namespace DRE_SLOT_STAT
def reg (s : Nat) : Fld := ⟨0x8088 + 0x10 * s, 0, 32⟩
def FRAME (s : Nat) : Fld := ⟨0x8088 + 0x10 * s, 4, 4⟩
def KIND (s : Nat) : Fld := ⟨0x8088 + 0x10 * s, 1, 1⟩
def VALID (s : Nat) : Fld := ⟨0x8088 + 0x10 * s, 0, 1⟩
end DRE_SLOT_STAT

namespace DRE_YSTAT
def reg (y : Nat) : Fld := ⟨0x8100 + 0x4 * y, 0, 32⟩
def CLASS (y : Nat) : Fld := ⟨0x8100 + 0x4 * y, 30, 2⟩
def ERR (y : Nat) : Fld := ⟨0x8100 + 0x4 * y, 20, 10⟩
def STALE (y : Nat) : Fld := ⟨0x8100 + 0x4 * y, 8, 8⟩
end DRE_YSTAT

namespace DRE_YMAP
def SLOT (j : Nat) : Fld := ⟨0x8400 + 0x4 * j, 0, 32⟩
end DRE_YMAP

namespace DRE_KEY
def KEY (i : Nat) : Fld := ⟨0x8600 + 0x4 * i, 0, 32⟩
end DRE_KEY

namespace DRE_KEYVALID
def reg : Fld := ⟨0x8780, 0, 32⟩
def VALID : Fld := ⟨0x8780, 0, 4⟩
end DRE_KEYVALID

namespace DRE_CNT_INFER
def COUNT : Fld := ⟨0x8e00, 0, 32⟩
end DRE_CNT_INFER

namespace DRE_CNT_SAT
def COUNT : Fld := ⟨0x8e04, 0, 32⟩
end DRE_CNT_SAT

namespace DRE_CNT_LOADFAIL
def COUNT : Fld := ⟨0x8e08, 0, 32⟩
end DRE_CNT_LOADFAIL

namespace DRE_CNT_ATTRIB
def COUNT : Fld := ⟨0x8e0c, 0, 32⟩
end DRE_CNT_ATTRIB

/-! ### R189 -/

namespace SXT_PRESENT
def reg : Fld := ⟨0x50040, 0, 32⟩
def CLUSTERS : Fld := ⟨0x50040, 0, 26⟩
end SXT_PRESENT

namespace SXT_EVTSUM
def reg : Fld := ⟨0x50044, 0, 32⟩
def CLUSTER : Fld := ⟨0x50044, 0, 26⟩
end SXT_EVTSUM

namespace SXT_MAINT
def YARD (j : Nat) : Fld := ⟨0x50048 + 0x4 * j, 0, 32⟩
end SXT_MAINT

namespace SXT_MAINT_NOW
def YARD (j : Nat) : Fld := ⟨0x50058 + 0x4 * j, 0, 32⟩
end SXT_MAINT_NOW

namespace SXT_CAPRAM_RETIRE_LO
def PAGE : Fld := ⟨0x50068, 0, 32⟩
end SXT_CAPRAM_RETIRE_LO

namespace SXT_CAPRAM_RETIRE_HI
def PAGE : Fld := ⟨0x5006c, 0, 32⟩
end SXT_CAPRAM_RETIRE_HI

namespace SXT_CAPRAM_ERR
def reg : Fld := ⟨0x50070, 0, 32⟩
def UE_SEEN : Fld := ⟨0x50070, 31, 1⟩
def PAGE : Fld := ⟨0x50070, 0, 6⟩
end SXT_CAPRAM_ERR

namespace SXT_PAIR
def reg : Fld := ⟨0x50074, 0, 32⟩
def CAPTURING : Fld := ⟨0x50074, 0, 13⟩
end SXT_PAIR

namespace SXT_CNT_CAPRAM_CE
def COUNT : Fld := ⟨0x50e00, 0, 32⟩
end SXT_CNT_CAPRAM_CE

namespace SXT_CNT_CAPRAM_UE
def COUNT : Fld := ⟨0x50e04, 0, 32⟩
end SXT_CNT_CAPRAM_UE

/-! ### R190 -/

namespace SXT_STATUS
def reg (n : Nat) : Fld := ⟨0x51040 + 0x1000 * n, 0, 32⟩
def TEMP_SUB (n : Nat) : Fld := ⟨0x51040 + 0x1000 * n, 11, 1⟩
def CAL_RUN (n : Nat) : Fld := ⟨0x51040 + 0x1000 * n, 10, 1⟩
def CAPTURE (n : Nat) : Fld := ⟨0x51040 + 0x1000 * n, 9, 1⟩
def INLINE (n : Nat) : Fld := ⟨0x51040 + 0x1000 * n, 8, 1⟩
def OUT (n : Nat) : Fld := ⟨0x51040 + 0x1000 * n, 5, 3⟩
def IN_SERVICE (n : Nat) : Fld := ⟨0x51040 + 0x1000 * n, 0, 5⟩
end SXT_STATUS

namespace SXT_TEMP
def reg (n : Nat) : Fld := ⟨0x51044 + 0x1000 * n, 0, 32⟩
def T (n : Nat) : Fld := ⟨0x51044 + 0x1000 * n, 0, 16⟩
end SXT_TEMP

namespace SXT_URG
def reg (n : Nat) : Fld := ⟨0x51048 + 0x1000 * n, 0, 32⟩
def GO (n : Nat) : Fld := ⟨0x51048 + 0x1000 * n, 6, 1⟩
def CHANNEL (n : Nat) : Fld := ⟨0x51048 + 0x1000 * n, 0, 6⟩
end SXT_URG

namespace SXT_URG_RES
def reg (n : Nat) : Fld := ⟨0x5104c + 0x1000 * n, 0, 32⟩
def RESULT (n : Nat) : Fld := ⟨0x5104c + 0x1000 * n, 28, 4⟩
def SLICE (n : Nat) : Fld := ⟨0x5104c + 0x1000 * n, 25, 3⟩
def WAIT (n : Nat) : Fld := ⟨0x5104c + 0x1000 * n, 16, 9⟩
def VALUE (n : Nat) : Fld := ⟨0x5104c + 0x1000 * n, 0, 16⟩
end SXT_URG_RES

namespace SXT_URG_TIME_LO
def TIME (n : Nat) : Fld := ⟨0x51050 + 0x1000 * n, 0, 32⟩
end SXT_URG_TIME_LO

namespace SXT_URG_TIME_HI
def TIME (n : Nat) : Fld := ⟨0x51054 + 0x1000 * n, 0, 32⟩
end SXT_URG_TIME_HI

namespace SXT_WIN_EVT0
def CH (n : Nat) : Fld := ⟨0x51058 + 0x1000 * n, 0, 32⟩
end SXT_WIN_EVT0

namespace SXT_WIN_EVT1
def reg (n : Nat) : Fld := ⟨0x5105c + 0x1000 * n, 0, 32⟩
def CH (n : Nat) : Fld := ⟨0x5105c + 0x1000 * n, 0, 4⟩
end SXT_WIN_EVT1

namespace SXT_STR_CTRL
def reg (n : Nat) (m : Nat) : Fld := ⟨0x51080 + 0x1000 * n + 0x40 * m, 0, 32⟩
def TRIG_ODD (n : Nat) (m : Nat) : Fld := ⟨0x51080 + 0x1000 * n + 0x40 * m, 28, 1⟩
def TRIG_CHAN (n : Nat) (m : Nat) : Fld := ⟨0x51080 + 0x1000 * n + 0x40 * m, 22, 6⟩
def TRIG_YARD (n : Nat) (m : Nat) : Fld := ⟨0x51080 + 0x1000 * n + 0x40 * m, 15, 7⟩
def CAP_ODD (n : Nat) (m : Nat) : Fld := ⟨0x51080 + 0x1000 * n + 0x40 * m, 14, 1⟩
def CHANNEL (n : Nat) (m : Nat) : Fld := ⟨0x51080 + 0x1000 * n + 0x40 * m, 8, 6⟩
def TRIG (n : Nat) (m : Nat) : Fld := ⟨0x51080 + 0x1000 * n + 0x40 * m, 5, 3⟩
def SRC (n : Nat) (m : Nat) : Fld := ⟨0x51080 + 0x1000 * n + 0x40 * m, 3, 2⟩
def DEST (n : Nat) (m : Nat) : Fld := ⟨0x51080 + 0x1000 * n + 0x40 * m, 2, 1⟩
def STOP (n : Nat) (m : Nat) : Fld := ⟨0x51080 + 0x1000 * n + 0x40 * m, 1, 1⟩
def GO (n : Nat) (m : Nat) : Fld := ⟨0x51080 + 0x1000 * n + 0x40 * m, 0, 1⟩
end SXT_STR_CTRL

namespace SXT_STR_SIZE
def reg (n : Nat) (m : Nat) : Fld := ⟨0x51084 + 0x1000 * n + 0x40 * m, 0, 32⟩
def LOG2 (n : Nat) (m : Nat) : Fld := ⟨0x51084 + 0x1000 * n + 0x40 * m, 0, 5⟩
end SXT_STR_SIZE

namespace SXT_STR_DIV
def reg (n : Nat) (m : Nat) : Fld := ⟨0x51088 + 0x1000 * n + 0x40 * m, 0, 32⟩
def DIV (n : Nat) (m : Nat) : Fld := ⟨0x51088 + 0x1000 * n + 0x40 * m, 0, 16⟩
end SXT_STR_DIV

namespace SXT_STR_COUNT
def reg (n : Nat) (m : Nat) : Fld := ⟨0x5108c + 0x1000 * n + 0x40 * m, 0, 32⟩
def COUNT (n : Nat) (m : Nat) : Fld := ⟨0x5108c + 0x1000 * n + 0x40 * m, 0, 25⟩
end SXT_STR_COUNT

namespace SXT_STR_BASE_LO
def BASE (n : Nat) (m : Nat) : Fld := ⟨0x51090 + 0x1000 * n + 0x40 * m, 0, 32⟩
end SXT_STR_BASE_LO

namespace SXT_STR_BASE_HI
def BASE (n : Nat) (m : Nat) : Fld := ⟨0x51094 + 0x1000 * n + 0x40 * m, 0, 32⟩
end SXT_STR_BASE_HI

namespace SXT_STR_TTIME_LO
def TIME (n : Nat) (m : Nat) : Fld := ⟨0x51098 + 0x1000 * n + 0x40 * m, 0, 32⟩
end SXT_STR_TTIME_LO

namespace SXT_STR_TTIME_HI
def TIME (n : Nat) (m : Nat) : Fld := ⟨0x5109c + 0x1000 * n + 0x40 * m, 0, 32⟩
end SXT_STR_TTIME_HI

namespace SXT_STR_STAT
def reg (n : Nat) (m : Nat) : Fld := ⟨0x510a0 + 0x1000 * n + 0x40 * m, 0, 32⟩
def TRIGGERED (n : Nat) (m : Nat) : Fld := ⟨0x510a0 + 0x1000 * n + 0x40 * m, 4, 1⟩
def ABORT_LATE (n : Nat) (m : Nat) : Fld := ⟨0x510a0 + 0x1000 * n + 0x40 * m, 3, 1⟩
def STATE (n : Nat) (m : Nat) : Fld := ⟨0x510a0 + 0x1000 * n + 0x40 * m, 0, 3⟩
end SXT_STR_STAT

namespace SXT_STR_WPTR
def WPTR (n : Nat) (m : Nat) : Fld := ⟨0x510a4 + 0x1000 * n + 0x40 * m, 0, 32⟩
end SXT_STR_WPTR

namespace SXT_STR_WRAPS
def WRAPS (n : Nat) (m : Nat) : Fld := ⟨0x510a8 + 0x1000 * n + 0x40 * m, 0, 32⟩
end SXT_STR_WRAPS

namespace SXT_STR_TRIGPOS
def POS (n : Nat) (m : Nat) : Fld := ⟨0x510ac + 0x1000 * n + 0x40 * m, 0, 32⟩
end SXT_STR_TRIGPOS

namespace SXT_STR_DROP
def COUNT (n : Nat) (m : Nat) : Fld := ⟨0x510b0 + 0x1000 * n + 0x40 * m, 0, 32⟩
end SXT_STR_DROP

namespace SXT_STR_DROPAT
def INDEX (n : Nat) (m : Nat) : Fld := ⟨0x510b4 + 0x1000 * n + 0x40 * m, 0, 32⟩
end SXT_STR_DROPAT

namespace SXT_VAL
def reg (n : Nat) (c : Nat) : Fld := ⟨0x51100 + 0x1000 * n + 0x4 * c, 0, 32⟩
def SEQ (n : Nat) (c : Nat) : Fld := ⟨0x51100 + 0x1000 * n + 0x4 * c, 24, 8⟩
def WSTATE (n : Nat) (c : Nat) : Fld := ⟨0x51100 + 0x1000 * n + 0x4 * c, 16, 2⟩
def VALUE (n : Nat) (c : Nat) : Fld := ⟨0x51100 + 0x1000 * n + 0x4 * c, 0, 16⟩
end SXT_VAL

namespace SXT_CH_WIN
def reg (n : Nat) (c : Nat) : Fld := ⟨0x51400 + 0x1000 * n + 0x10 * c, 0, 32⟩
def HI (n : Nat) (c : Nat) : Fld := ⟨0x51400 + 0x1000 * n + 0x10 * c, 16, 16⟩
def LO (n : Nat) (c : Nat) : Fld := ⟨0x51400 + 0x1000 * n + 0x10 * c, 0, 16⟩
end SXT_CH_WIN

namespace SXT_CH_WCFG
def reg (n : Nat) (c : Nat) : Fld := ⟨0x51404 + 0x1000 * n + 0x10 * c, 0, 32⟩
def RET_EN (n : Nat) (c : Nat) : Fld := ⟨0x51404 + 0x1000 * n + 0x10 * c, 13, 1⟩
def EN (n : Nat) (c : Nat) : Fld := ⟨0x51404 + 0x1000 * n + 0x10 * c, 12, 1⟩
def PERSIST (n : Nat) (c : Nat) : Fld := ⟨0x51404 + 0x1000 * n + 0x10 * c, 8, 4⟩
def HYST (n : Nat) (c : Nat) : Fld := ⟨0x51404 + 0x1000 * n + 0x10 * c, 0, 8⟩
end SXT_CH_WCFG

namespace SXT_CH_CAL
def reg (n : Nat) (c : Nat) : Fld := ⟨0x51408 + 0x1000 * n + 0x10 * c, 0, 32⟩
def A (n : Nat) (c : Nat) : Fld := ⟨0x51408 + 0x1000 * n + 0x10 * c, 16, 16⟩
def B (n : Nat) (c : Nat) : Fld := ⟨0x51408 + 0x1000 * n + 0x10 * c, 0, 16⟩
end SXT_CH_CAL

namespace SXT_CH_SCAN
def reg (n : Nat) (c : Nat) : Fld := ⟨0x5140c + 0x1000 * n + 0x10 * c, 0, 32⟩
def WEIGHT (n : Nat) (c : Nat) : Fld := ⟨0x5140c + 0x1000 * n + 0x10 * c, 0, 8⟩
end SXT_CH_SCAN

namespace SXT_SL_OFS
def reg (n : Nat) (s : Nat) : Fld := ⟨0x51700 + 0x1000 * n + 0x10 * s, 0, 32⟩
def OFS (n : Nat) (s : Nat) : Fld := ⟨0x51700 + 0x1000 * n + 0x10 * s, 0, 12⟩
end SXT_SL_OFS

namespace SXT_SL_GAIN
def reg (n : Nat) (s : Nat) : Fld := ⟨0x51704 + 0x1000 * n + 0x10 * s, 0, 32⟩
def GAIN (n : Nat) (s : Nat) : Fld := ⟨0x51704 + 0x1000 * n + 0x10 * s, 0, 16⟩
end SXT_SL_GAIN

namespace SXT_SL_DLY
def reg (n : Nat) (s : Nat) : Fld := ⟨0x51708 + 0x1000 * n + 0x10 * s, 0, 32⟩
def DLY (n : Nat) (s : Nat) : Fld := ⟨0x51708 + 0x1000 * n + 0x10 * s, 0, 10⟩
end SXT_SL_DLY

namespace SXT_SL_STAT
def reg (n : Nat) (s : Nat) : Fld := ⟨0x5170c + 0x1000 * n + 0x10 * s, 0, 32⟩
def REJECTS (n : Nat) (s : Nat) : Fld := ⟨0x5170c + 0x1000 * n + 0x10 * s, 2, 2⟩
def STATE (n : Nat) (s : Nat) : Fld := ⟨0x5170c + 0x1000 * n + 0x10 * s, 0, 2⟩
end SXT_SL_STAT

namespace SXT_COMP
def reg (n : Nat) (j : Nat) : Fld := ⟨0x51800 + 0x1000 * n + 0x4 * j, 0, 32⟩
def C_ODD (n : Nat) (j : Nat) : Fld := ⟨0x51800 + 0x1000 * n + 0x4 * j, 16, 16⟩
def C_EVEN (n : Nat) (j : Nat) : Fld := ⟨0x51800 + 0x1000 * n + 0x4 * j, 0, 16⟩
end SXT_COMP

namespace SXT_COMP_CFG
def reg (n : Nat) : Fld := ⟨0x51820 + 0x1000 * n, 0, 32⟩
def TCAL (n : Nat) : Fld := ⟨0x51820 + 0x1000 * n, 16, 16⟩
def TSENS (n : Nat) : Fld := ⟨0x51820 + 0x1000 * n, 0, 9⟩
end SXT_COMP_CFG

namespace SXT_CAL
def reg (n : Nat) : Fld := ⟨0x51840 + 0x1000 * n, 0, 32⟩
def RESULT (n : Nat) : Fld := ⟨0x51840 + 0x1000 * n, 8, 4⟩
def STATE (n : Nat) : Fld := ⟨0x51840 + 0x1000 * n, 4, 4⟩
def STEP (n : Nat) : Fld := ⟨0x51840 + 0x1000 * n, 0, 3⟩
end SXT_CAL

namespace SXT_CAL_FAIL
def CH (n : Nat) : Fld := ⟨0x51844 + 0x1000 * n, 0, 32⟩
end SXT_CAL_FAIL

namespace SXT_CNT_URGENT
def COUNT (n : Nat) : Fld := ⟨0x51e00 + 0x1000 * n, 0, 32⟩
end SXT_CNT_URGENT

namespace SXT_CNT_ABORTDROP
def COUNT (n : Nat) : Fld := ⟨0x51e04 + 0x1000 * n, 0, 32⟩
end SXT_CNT_ABORTDROP

namespace SXT_CNT_URGTIMEOUT
def COUNT (n : Nat) : Fld := ⟨0x51e08 + 0x1000 * n, 0, 32⟩
end SXT_CNT_URGTIMEOUT

namespace SXT_CNT_CALREJ
def COUNT (n : Nat) : Fld := ⟨0x51e0c + 0x1000 * n, 0, 32⟩
end SXT_CNT_CALREJ

namespace SXT_CNT_WIN
def COUNT (n : Nat) : Fld := ⟨0x51e10 + 0x1000 * n, 0, 32⟩
end SXT_CNT_WIN

namespace SXT_CNT_SYSCAL
def COUNT (n : Nat) : Fld := ⟨0x51e14 + 0x1000 * n, 0, 32⟩
end SXT_CNT_SYSCAL

/-! ### R216 -/

namespace FAR_CTRL
def reg : Fld := ⟨0xf040, 0, 32⟩
def AUTO : Fld := ⟨0xf040, 1, 1⟩
def GO : Fld := ⟨0xf040, 0, 1⟩
end FAR_CTRL

namespace FAR_STATUS
def reg : Fld := ⟨0xf044, 0, 32⟩
def RESULT : Fld := ⟨0xf044, 3, 3⟩
def STATE : Fld := ⟨0xf044, 0, 3⟩
end FAR_STATUS

namespace FAR_PERIOD
def reg : Fld := ⟨0xf048, 0, 32⟩
def HOURS : Fld := ⟨0xf048, 0, 8⟩
end FAR_PERIOD

namespace FAR_LAST
def SECONDS : Fld := ⟨0xf04c, 0, 32⟩
end FAR_LAST

namespace FAR_SUMMARY
def reg : Fld := ⟨0xf050, 0, 32⟩
def FENCED_YARDS : Fld := ⟨0xf050, 22, 7⟩
def FENCED_BAYS : Fld := ⟨0xf050, 11, 11⟩
def WORN_BAYS : Fld := ⟨0xf050, 0, 11⟩
end FAR_SUMMARY

namespace FAR_SUSCLR
def reg : Fld := ⟨0xf054, 0, 32⟩
def GO : Fld := ⟨0xf054, 15, 1⟩
def YARD : Fld := ⟨0xf054, 8, 7⟩
def POINTS : Fld := ⟨0xf054, 0, 4⟩
end FAR_SUSCLR

namespace FAR_BOND
def YARD (j : Nat) : Fld := ⟨0xf058 + 0x4 * j, 0, 32⟩
end FAR_BOND

namespace FAR_YSTAT
def reg (y : Nat) : Fld := ⟨0xf200 + 0x4 * y, 0, 32⟩
def DERATE (y : Nat) : Fld := ⟨0xf200 + 0x4 * y, 25, 7⟩
def FMAX (y : Nat) : Fld := ⟨0xf200 + 0x4 * y, 17, 8⟩
def FLOOR (y : Nat) : Fld := ⟨0xf200 + 0x4 * y, 11, 6⟩
def FENCED (y : Nat) : Fld := ⟨0xf200 + 0x4 * y, 7, 1⟩
def BOND (y : Nat) : Fld := ⟨0xf200 + 0x4 * y, 6, 1⟩
def NOSPARE (y : Nat) : Fld := ⟨0xf200 + 0x4 * y, 5, 1⟩
def OSC_HAND (y : Nat) : Fld := ⟨0xf200 + 0x4 * y, 4, 1⟩
def OSC_SET7 (y : Nat) : Fld := ⟨0xf200 + 0x4 * y, 3, 1⟩
def MODEL (y : Nat) : Fld := ⟨0xf200 + 0x4 * y, 2, 1⟩
def FMAX_LOW (y : Nat) : Fld := ⟨0xf200 + 0x4 * y, 1, 1⟩
end FAR_YSTAT

namespace FAR_ZP
def reg (y : Nat) (p : Nat) : Fld := ⟨0xf400 + 0x10 * y + 0x4 * p, 0, 32⟩
def ZREF (y : Nat) (p : Nat) : Fld := ⟨0xf400 + 0x10 * y + 0x4 * p, 16, 16⟩
def ZP (y : Nat) (p : Nat) : Fld := ⟨0xf400 + 0x10 * y + 0x4 * p, 0, 16⟩
end FAR_ZP

namespace FAR_PL
def reg : Fld := ⟨0xfc00, 0, 32⟩
def BLANK : Fld := ⟨0xfc00, 16, 8⟩
def HOLD : Fld := ⟨0xfc00, 8, 8⟩
def BAND : Fld := ⟨0xfc00, 0, 8⟩
end FAR_PL

namespace FAR_OSC
def reg : Fld := ⟨0xfc04, 0, 32⟩
def REPEAT : Fld := ⟨0xfc04, 24, 8⟩
def WIN : Fld := ⟨0xfc04, 16, 8⟩
def COUNT : Fld := ⟨0xfc04, 8, 8⟩
def TH : Fld := ⟨0xfc04, 0, 8⟩
end FAR_OSC

namespace FAR_ZPCFG
def reg : Fld := ⟨0xfc08, 0, 32⟩
def STEP : Fld := ⟨0xfc08, 16, 8⟩
def HELD : Fld := ⟨0xfc08, 8, 8⟩
def SPREAD : Fld := ⟨0xfc08, 0, 8⟩
end FAR_ZPCFG

namespace FAR_PLAN
def reg : Fld := ⟨0xfc0c, 0, 32⟩
def MAXSTEP : Fld := ⟨0xfc0c, 28, 4⟩
def RESERVE : Fld := ⟨0xfc0c, 24, 4⟩
def FPC : Fld := ⟨0xfc0c, 16, 8⟩
def RPL_MIN : Fld := ⟨0xfc0c, 8, 8⟩
def KV : Fld := ⟨0xfc0c, 0, 8⟩
end FAR_PLAN

namespace FAR_AP_MAP
def reg : Fld := ⟨0xfc10, 0, 32⟩
def EN : Fld := ⟨0xfc10, 31, 1⟩
def RPL : Fld := ⟨0xfc10, 8, 5⟩
def RO : Fld := ⟨0xfc10, 0, 5⟩
end FAR_AP_MAP

namespace FAR_RO_NORM
def reg : Fld := ⟨0xfc14, 0, 32⟩
def KT : Fld := ⟨0xfc14, 16, 16⟩
def KV : Fld := ⟨0xfc14, 0, 16⟩
end FAR_RO_NORM

namespace FAR_WEAR_TH
def reg : Fld := ⟨0xfc18, 0, 32⟩
def OFS_CRIT : Fld := ⟨0xfc18, 24, 8⟩
def OFS_WORN : Fld := ⟨0xfc18, 16, 8⟩
def LOSS_CRIT : Fld := ⟨0xfc18, 8, 8⟩
def LOSS_WORN : Fld := ⟨0xfc18, 0, 8⟩
end FAR_WEAR_TH

namespace FAR_CNT_SUSPECT
def COUNT : Fld := ⟨0xfe00, 0, 32⟩
end FAR_CNT_SUSPECT

namespace FAR_CNT_MODEL
def COUNT : Fld := ⟨0xfe04, 0, 32⟩
end FAR_CNT_MODEL

namespace FAR_CNT_OSC
def COUNT : Fld := ⟨0xfe08, 0, 32⟩
end FAR_CNT_OSC

namespace FAR_CNT_OSC_HAND
def COUNT : Fld := ⟨0xfe0c, 0, 32⟩
end FAR_CNT_OSC_HAND

namespace FAR_CNT_PLANS
def COUNT : Fld := ⟨0xfe10, 0, 32⟩
end FAR_CNT_PLANS

namespace FAR_CNT_SUBST
def COUNT : Fld := ⟨0xfe14, 0, 32⟩
end FAR_CNT_SUBST

namespace FAR_CNT_ZPWIN
def COUNT : Fld := ⟨0xfe18, 0, 32⟩
end FAR_CNT_ZPWIN

namespace FAR_CNT_ZPREJ
def COUNT : Fld := ⟨0xfe1c, 0, 32⟩
end FAR_CNT_ZPREJ

namespace FAR_CNT_BOND
def COUNT : Fld := ⟨0xfe20, 0, 32⟩
end FAR_CNT_BOND

/-! ### R237 -/

namespace PWS_STATUS
def reg : Fld := ⟨0x9040, 0, 32⟩
def IN_D0 : Fld := ⟨0x9040, 16, 8⟩
def MOVING : Fld := ⟨0x9040, 0, 8⟩
end PWS_STATUS

namespace PWS_REQ
def reg : Fld := ⟨0x9044, 0, 32⟩
def GO : Fld := ⟨0x9044, 31, 1⟩
def DOMAIN : Fld := ⟨0x9044, 8, 7⟩
def STATE : Fld := ⟨0x9044, 0, 3⟩
end PWS_REQ

namespace PWS_REQ_RES
def reg : Fld := ⟨0x9048, 0, 32⟩
def DOMAIN : Fld := ⟨0x9048, 8, 7⟩
def ABORT_LATE : Fld := ⟨0x9048, 4, 1⟩
def STATUS : Fld := ⟨0x9048, 0, 4⟩
end PWS_REQ_RES

namespace PWS_USER_MASK
def DOMAIN (j : Nat) : Fld := ⟨0x904c + 0x4 * j, 0, 32⟩
end PWS_USER_MASK

namespace PWS_WAKE_EN
def DOMAIN (j : Nat) : Fld := ⟨0x905c + 0x4 * j, 0, 32⟩
end PWS_WAKE_EN

namespace PWS_DOM
def reg (d : Nat) : Fld := ⟨0x9100 + 0x4 * d, 0, 32⟩
def WAKE_US (d : Nat) : Fld := ⟨0x9100 + 0x4 * d, 22, 10⟩
def ISO (d : Nat) : Fld := ⟨0x9100 + 0x4 * d, 21, 1⟩
def ASSIST (d : Nat) : Fld := ⟨0x9100 + 0x4 * d, 19, 2⟩
def BIAS (d : Nat) : Fld := ⟨0x9100 + 0x4 * d, 16, 3⟩
def FAILED (d : Nat) : Fld := ⟨0x9100 + 0x4 * d, 15, 1⟩
def WARMED (d : Nat) : Fld := ⟨0x9100 + 0x4 * d, 14, 1⟩
def DEFERRED (d : Nat) : Fld := ⟨0x9100 + 0x4 * d, 13, 1⟩
def WAKE_SRC (d : Nat) : Fld := ⟨0x9100 + 0x4 * d, 9, 4⟩
def STEP (d : Nat) : Fld := ⟨0x9100 + 0x4 * d, 6, 3⟩
def TARGET (d : Nat) : Fld := ⟨0x9100 + 0x4 * d, 3, 3⟩
def STATE (d : Nat) : Fld := ⟨0x9100 + 0x4 * d, 0, 3⟩
end PWS_DOM

namespace PWS_TMO_COLD
def reg : Fld := ⟨0x9400, 0, 32⟩
def MEM : Fld := ⟨0x9400, 24, 8⟩
def OSC : Fld := ⟨0x9400, 16, 8⟩
def LOGIC : Fld := ⟨0x9400, 8, 8⟩
def ISO : Fld := ⟨0x9400, 0, 8⟩
end PWS_TMO_COLD

namespace PWS_TMO_WARM
def reg : Fld := ⟨0x9404, 0, 32⟩
def MEM : Fld := ⟨0x9404, 24, 8⟩
def OSC : Fld := ⟨0x9404, 16, 8⟩
def LOGIC : Fld := ⟨0x9404, 8, 8⟩
def ISO : Fld := ⟨0x9404, 0, 8⟩
end PWS_TMO_WARM

namespace PWS_TIMING
def reg : Fld := ⟨0x9408, 0, 32⟩
def REG : Fld := ⟨0x9408, 24, 8⟩
def ISO : Fld := ⟨0x9408, 16, 8⟩
def BIAS_SETTLE : Fld := ⟨0x9408, 0, 8⟩
end PWS_TIMING

namespace PWS_RETV
def reg : Fld := ⟨0x940c, 0, 32⟩
def CODE : Fld := ⟨0x940c, 0, 8⟩
end PWS_RETV

namespace PWS_BIAS_BAND
def reg : Fld := ⟨0x9410, 0, 32⟩
def HI : Fld := ⟨0x9410, 20, 10⟩
def MID : Fld := ⟨0x9410, 10, 10⟩
def LO : Fld := ⟨0x9410, 0, 10⟩
end PWS_BIAS_BAND

namespace PWS_BIAS_MAP
def reg : Fld := ⟨0x9414, 0, 32⟩
def RET : Fld := ⟨0x9414, 12, 3⟩
def B3 : Fld := ⟨0x9414, 9, 3⟩
def B2 : Fld := ⟨0x9414, 6, 3⟩
def B1 : Fld := ⟨0x9414, 3, 3⟩
def B0 : Fld := ⟨0x9414, 0, 3⟩
end PWS_BIAS_MAP

namespace PWS_ASSIST_TH
def reg : Fld := ⟨0x9418, 0, 32⟩
def CODE : Fld := ⟨0x9418, 0, 10⟩
end PWS_ASSIST_TH

namespace PWS_CNT_WAKE
def COUNT : Fld := ⟨0x9e00, 0, 32⟩
end PWS_CNT_WAKE

namespace PWS_CNT_FAIL
def COUNT : Fld := ⟨0x9e04, 0, 32⟩
end PWS_CNT_FAIL

namespace PWS_CNT_REFUSED
def COUNT : Fld := ⟨0x9e08, 0, 32⟩
end PWS_CNT_REFUSED

namespace PWS_CNT_WAKEPIN
def COUNT : Fld := ⟨0x9e0c, 0, 32⟩
end PWS_CNT_WAKEPIN

namespace PWS_CNT_DEFER
def COUNT : Fld := ⟨0x9e10, 0, 32⟩
end PWS_CNT_DEFER

namespace PWS_CNT_RDYLOST
def COUNT : Fld := ⟨0x9e14, 0, 32⟩
end PWS_CNT_RDYLOST

/-! ### R267 -/

namespace CAP_STATUS
def reg : Fld := ⟨0xa040, 0, 32⟩
def UNMET : Fld := ⟨0xa040, 15, 1⟩
def DEFERRED : Fld := ⟨0xa040, 14, 1⟩
def EXCURSION : Fld := ⟨0xa040, 13, 1⟩
def STATION_OK : Fld := ⟨0xa040, 12, 1⟩
def RUNG : Fld := ⟨0xa040, 5, 5⟩
def MODE_NOW : Fld := ⟨0xa040, 0, 2⟩
end CAP_STATUS

namespace CAP_MODE
def reg : Fld := ⟨0xa044, 0, 32⟩
def LOCK : Fld := ⟨0xa044, 31, 1⟩
def MODE : Fld := ⟨0xa044, 0, 2⟩
end CAP_MODE

namespace CAP_DEV
def reg : Fld := ⟨0xa048, 0, 32⟩
def KERN : Fld := ⟨0xa048, 16, 16⟩
def MGMT : Fld := ⟨0xa048, 0, 16⟩
end CAP_DEV

namespace CAP_DEV_INST
def reg : Fld := ⟨0xa04c, 0, 32⟩
def INST : Fld := ⟨0xa04c, 0, 16⟩
end CAP_DEV_INST

namespace CAP_DEV_NOW
def reg : Fld := ⟨0xa050, 0, 32⟩
def PENDING : Fld := ⟨0xa050, 16, 16⟩
def IN_FORCE : Fld := ⟨0xa050, 0, 16⟩
end CAP_DEV_NOW

namespace CAP_POWER
def reg : Fld := ⟨0xa054, 0, 32⟩
def P : Fld := ⟨0xa054, 0, 16⟩
end CAP_POWER

namespace CAP_CREDIT
def CREDIT : Fld := ⟨0xa058, 0, 32⟩
end CAP_CREDIT

namespace CAP_DEVNUM
def reg : Fld := ⟨0xa05c, 0, 32⟩
def VALID : Fld := ⟨0xa05c, 31, 1⟩
def NUMBER : Fld := ⟨0xa05c, 0, 18⟩
end CAP_DEVNUM

namespace CAP_JOB
def reg : Fld := ⟨0xa060, 0, 32⟩
def GO : Fld := ⟨0xa060, 31, 1⟩
def END : Fld := ⟨0xa060, 30, 1⟩
def CONTEXT : Fld := ⟨0xa060, 16, 6⟩
def TAG : Fld := ⟨0xa060, 0, 16⟩
end CAP_JOB

namespace CAP_JOB_RES
def reg : Fld := ⟨0xa064, 0, 32⟩
def CONTEXT : Fld := ⟨0xa064, 4, 6⟩
def STATUS : Fld := ⟨0xa064, 0, 4⟩
end CAP_JOB_RES

namespace CAP_RAIL
def reg : Fld := ⟨0xa068, 0, 32⟩
def PKGB : Fld := ⟨0xa068, 16, 16⟩
def PKGA : Fld := ⟨0xa068, 0, 16⟩
end CAP_RAIL

namespace CAP_RAIL_NOW
def reg : Fld := ⟨0xa06c, 0, 32⟩
def PKGB : Fld := ⟨0xa06c, 16, 16⟩
def PKGA : Fld := ⟨0xa06c, 0, 16⟩
end CAP_RAIL_NOW

namespace CAP_UNATTR_LO
def E : Fld := ⟨0xa070, 0, 32⟩
end CAP_UNATTR_LO

namespace CAP_UNATTR_HI
def E : Fld := ⟨0xa074, 0, 32⟩
end CAP_UNATTR_HI

namespace CAP_CTXCAP
def reg (j : Nat) : Fld := ⟨0xa080 + 0x4 * j, 0, 32⟩
def ODD (j : Nat) : Fld := ⟨0xa080 + 0x4 * j, 16, 16⟩
def EVEN (j : Nat) : Fld := ⟨0xa080 + 0x4 * j, 0, 16⟩
end CAP_CTXCAP

namespace CAP_YOWN
def OWNER (j : Nat) : Fld := ⟨0xa100 + 0x4 * j, 0, 32⟩
end CAP_YOWN

namespace CAP_YRUNG
def YARD (j : Nat) : Fld := ⟨0xa180 + 0x4 * j, 0, 32⟩
end CAP_YRUNG

namespace CAP_CTX_E_LO
def E (c : Nat) : Fld := ⟨0xa200 + 0x8 * c, 0, 32⟩
end CAP_CTX_E_LO

namespace CAP_CTX_E_HI
def E (c : Nat) : Fld := ⟨0xa204 + 0x8 * c, 0, 32⟩
end CAP_CTX_E_HI

namespace CAP_TUNE
def reg : Fld := ⟨0xa400, 0, 32⟩
def RELEASE_WAIT : Fld := ⟨0xa400, 24, 8⟩
def HYST : Fld := ⟨0xa400, 16, 8⟩
def STEP2 : Fld := ⟨0xa400, 8, 8⟩
end CAP_TUNE

namespace CAP_EXC
def reg : Fld := ⟨0xa404, 0, 32⟩
def EXC_MAX : Fld := ⟨0xa404, 16, 16⟩
def EXC_TIME : Fld := ⟨0xa404, 8, 8⟩
end CAP_EXC

namespace CAP_CEIL
def reg : Fld := ⟨0xa408, 0, 32⟩
def SLOW : Fld := ⟨0xa408, 12, 4⟩
def STATION : Fld := ⟨0xa408, 8, 4⟩
def CRUISE : Fld := ⟨0xa408, 4, 4⟩
def FULL : Fld := ⟨0xa408, 0, 4⟩
end CAP_CEIL

namespace CAP_COLL
def reg : Fld := ⟨0xa40c, 0, 32⟩
def DEFER_MAX : Fld := ⟨0xa40c, 0, 16⟩
end CAP_COLL

namespace CAP_EPOCH
def reg : Fld := ⟨0xa410, 0, 32⟩
def MAX_LEAD : Fld := ⟨0xa410, 0, 16⟩
end CAP_EPOCH

namespace CAP_ATTR
def reg : Fld := ⟨0xa414, 0, 32⟩
def SLOT : Fld := ⟨0xa414, 9, 3⟩
def SHARED : Fld := ⟨0xa414, 8, 1⟩
def INTERVAL : Fld := ⟨0xa414, 0, 8⟩
end CAP_ATTR

namespace CAP_ILIM
def reg : Fld := ⟨0xa418, 0, 32⟩
def RELEASE : Fld := ⟨0xa418, 8, 8⟩
def PEAK : Fld := ⟨0xa418, 0, 8⟩
end CAP_ILIM

namespace CAP_OPP
def reg (n : Nat) : Fld := ⟨0xa420 + 0x4 * n, 0, 32⟩
def VALID (n : Nat) : Fld := ⟨0xa420 + 0x4 * n, 31, 1⟩
def FRATIO (n : Nat) : Fld := ⟨0xa420 + 0x4 * n, 10, 8⟩
def VID (n : Nat) : Fld := ⟨0xa420 + 0x4 * n, 0, 10⟩
end CAP_OPP

namespace CAP_CNT_EPOCH
def COUNT : Fld := ⟨0xae00, 0, 32⟩
end CAP_CNT_EPOCH

namespace CAP_CNT_CCPDROP
def COUNT : Fld := ⟨0xae04, 0, 32⟩
end CAP_CNT_CCPDROP

namespace CAP_CNT_DEFER
def COUNT : Fld := ⟨0xae08, 0, 32⟩
end CAP_CNT_DEFER

namespace CAP_CNT_STRAGGLER
def COUNT : Fld := ⟨0xae0c, 0, 32⟩
end CAP_CNT_STRAGGLER

namespace CAP_CNT_UNMET
def COUNT : Fld := ⟨0xae10, 0, 32⟩
end CAP_CNT_UNMET

namespace CAP_CNT_LOOPMISS
def COUNT : Fld := ⟨0xae14, 0, 32⟩
end CAP_CNT_LOOPMISS

namespace CAP_CNT_ILIM
def COUNT : Fld := ⟨0xae18, 0, 32⟩
end CAP_CNT_ILIM

namespace CAP_CNT_ATTRMERGE
def COUNT : Fld := ⟨0xae1c, 0, 32⟩
end CAP_CNT_ATTRMERGE

namespace CAP_CNT_RECLOST
def COUNT : Fld := ⟨0xae20, 0, 32⟩
end CAP_CNT_RECLOST

namespace CAP_CNT_HOLDACK
def COUNT : Fld := ⟨0xae24, 0, 32⟩
end CAP_CNT_HOLDACK

/-! ### R284 -/

namespace THM_STATUS
def reg : Fld := ⟨0xb040, 0, 32⟩
def TRIP : Fld := ⟨0xb040, 31, 1⟩
def THROTTLED : Fld := ⟨0xb040, 16, 7⟩
def SUSPECTS : Fld := ⟨0xb040, 7, 9⟩
def HEATING : Fld := ⟨0xb040, 0, 7⟩
end THM_STATUS

namespace THM_TRIP_SRC
def reg : Fld := ⟨0xb044, 0, 32⟩
def SENSOR : Fld := ⟨0xb044, 16, 9⟩
def TEMP : Fld := ⟨0xb044, 0, 16⟩
end THM_TRIP_SRC

namespace THM_HOT_DIE
def reg : Fld := ⟨0xb048, 0, 32⟩
def SENSOR : Fld := ⟨0xb048, 16, 9⟩
def TEMP : Fld := ⟨0xb048, 0, 16⟩
end THM_HOT_DIE

namespace THM_HOT_BND
def reg : Fld := ⟨0xb04c, 0, 32⟩
def SENSOR : Fld := ⟨0xb04c, 16, 9⟩
def TEMP : Fld := ⟨0xb04c, 0, 16⟩
end THM_HOT_BND

namespace THM_WARM_CTRL
def reg : Fld := ⟨0xb050, 0, 32⟩
def STATION_EN : Fld := ⟨0xb050, 1, 1⟩
def COLD_EN : Fld := ⟨0xb050, 0, 1⟩
end THM_WARM_CTRL

namespace THM_PROOF
def reg : Fld := ⟨0xb054, 0, 32⟩
def GO : Fld := ⟨0xb054, 7, 1⟩
def YARD : Fld := ⟨0xb054, 0, 7⟩
end THM_PROOF

namespace THM_PROOF_RES
def reg : Fld := ⟨0xb058, 0, 32⟩
def RESULT : Fld := ⟨0xb058, 28, 4⟩
def FAILED : Fld := ⟨0xb058, 18, 10⟩
def PROVED : Fld := ⟨0xb058, 0, 9⟩
end THM_PROOF_RES

namespace THM_PRECOND
def reg : Fld := ⟨0xb05c, 0, 32⟩
def RESULT : Fld := ⟨0xb05c, 30, 2⟩
def STOP : Fld := ⟨0xb05c, 29, 1⟩
def GO : Fld := ⟨0xb05c, 28, 1⟩
def TARGET : Fld := ⟨0xb05c, 8, 7⟩
def YARD : Fld := ⟨0xb05c, 0, 7⟩
end THM_PRECOND

namespace THM_SUSPECT
def SENSOR (j : Nat) : Fld := ⟨0xb060 + 0x4 * j, 0, 32⟩
end THM_SUSPECT

namespace THM_TEMP
def reg (j : Nat) : Fld := ⟨0xb100 + 0x4 * j, 0, 32⟩
def ODD (j : Nat) : Fld := ⟨0xb100 + 0x4 * j, 16, 16⟩
def EVEN (j : Nat) : Fld := ⟨0xb100 + 0x4 * j, 0, 16⟩
end THM_TEMP

namespace THM_YRUNG
def YARD (j : Nat) : Fld := ⟨0xb380 + 0x4 * j, 0, 32⟩
end THM_YRUNG

namespace THM_MAP
def reg (n : Nat) : Fld := ⟨0xb400 + 0x4 * n, 0, 32⟩
def YARD_B (n : Nat) : Fld := ⟨0xb400 + 0x4 * n, 8, 7⟩
def YARD_A (n : Nat) : Fld := ⟨0xb400 + 0x4 * n, 0, 7⟩
end THM_MAP

namespace THM_TH_DIE
def reg : Fld := ⟨0xb900, 0, 32⟩
def CRIT : Fld := ⟨0xb900, 16, 8⟩
def THROT : Fld := ⟨0xb900, 8, 8⟩
def WARN : Fld := ⟨0xb900, 0, 8⟩
end THM_TH_DIE

namespace THM_TH_BND
def reg : Fld := ⟨0xb904, 0, 32⟩
def CRIT : Fld := ⟨0xb904, 16, 8⟩
def THROT : Fld := ⟨0xb904, 8, 8⟩
def WARN : Fld := ⟨0xb904, 0, 8⟩
end THM_TH_BND

namespace THM_XCHK
def reg : Fld := ⟨0xb908, 0, 32⟩
def HOLD : Fld := ⟨0xb908, 8, 8⟩
def DEV : Fld := ⟨0xb908, 0, 8⟩
end THM_XCHK

namespace THM_THROT
def reg : Fld := ⟨0xb90c, 0, 32⟩
def BLIND_RUNG : Fld := ⟨0xb90c, 24, 5⟩
def RELEASE_WAIT : Fld := ⟨0xb90c, 16, 8⟩
def STEP2 : Fld := ⟨0xb90c, 8, 8⟩
def HYST : Fld := ⟨0xb90c, 0, 8⟩
end THM_THROT

namespace THM_WARM
def reg : Fld := ⟨0xb910, 0, 32⟩
def STATION_TARGET : Fld := ⟨0xb910, 24, 8⟩
def COLD_TARGET : Fld := ⟨0xb910, 16, 8⟩
def COLD_MAX : Fld := ⟨0xb910, 8, 8⟩
def PROBE : Fld := ⟨0xb910, 4, 4⟩
end THM_WARM

namespace THM_WARM_LIM
def reg : Fld := ⟨0xb914, 0, 32⟩
def HEADROOM : Fld := ⟨0xb914, 8, 8⟩
def LOAD : Fld := ⟨0xb914, 0, 8⟩
end THM_WARM_LIM

namespace THM_PROOF_CFG
def reg : Fld := ⟨0xb918, 0, 32⟩
def TIME : Fld := ⟨0xb918, 16, 8⟩
def MIN_RISE : Fld := ⟨0xb918, 8, 8⟩
def MAX_DIFF : Fld := ⟨0xb918, 0, 8⟩
end THM_PROOF_CFG

namespace THM_OSC_COMP
def reg (j : Nat) : Fld := ⟨0xb920 + 0x4 * j, 0, 32⟩
def C_ODD (j : Nat) : Fld := ⟨0xb920 + 0x4 * j, 16, 16⟩
def C_EVEN (j : Nat) : Fld := ⟨0xb920 + 0x4 * j, 0, 16⟩
end THM_OSC_COMP

namespace THM_CNT_SUSPECT
def COUNT : Fld := ⟨0xbe00, 0, 32⟩
end THM_CNT_SUSPECT

namespace THM_CNT_WARN
def COUNT : Fld := ⟨0xbe04, 0, 32⟩
end THM_CNT_WARN

namespace THM_CNT_THROT
def COUNT : Fld := ⟨0xbe08, 0, 32⟩
end THM_CNT_THROT

namespace THM_CNT_HEAT
def COUNT : Fld := ⟨0xbe0c, 0, 32⟩
end THM_CNT_HEAT

/-! ### R310 -/

namespace STG_STATUS
def reg : Fld := ⟨0x11040, 0, 32⟩
def DEAD : Fld := ⟨0x11040, 20, 2⟩
def HEADROOM : Fld := ⟨0x11040, 18, 2⟩
def PG : Fld := ⟨0x11040, 16, 2⟩
def FLT : Fld := ⟨0x11040, 12, 1⟩
def PHB : Fld := ⟨0x11040, 5, 5⟩
def PHA : Fld := ⟨0x11040, 0, 5⟩
end STG_STATUS

namespace STG_PRESENT
def reg : Fld := ⟨0x11044, 0, 32⟩
def PHASE : Fld := ⟨0x11044, 0, 30⟩
end STG_PRESENT

namespace STG_RAILMAP
def reg : Fld := ⟨0x11048, 0, 32⟩
def PKGB : Fld := ⟨0x11048, 0, 30⟩
end STG_RAILMAP

namespace STG_TRACK
def reg : Fld := ⟨0x1104c, 0, 32⟩
def MODE : Fld := ⟨0x1104c, 0, 2⟩
end STG_TRACK

namespace STG_PHCLR
def reg : Fld := ⟨0x11050, 0, 32⟩
def CLR : Fld := ⟨0x11050, 0, 30⟩
end STG_PHCLR

namespace STG_RAIL
def reg (r : Nat) : Fld := ⟨0x11080 + 0x20 * r, 0, 32⟩
def NOW (r : Nat) : Fld := ⟨0x11080 + 0x20 * r, 16, 10⟩
def STATE (r : Nat) : Fld := ⟨0x11080 + 0x20 * r, 2, 3⟩
def OFF_PENDING (r : Nat) : Fld := ⟨0x11080 + 0x20 * r, 1, 1⟩
def ON (r : Nat) : Fld := ⟨0x11080 + 0x20 * r, 0, 1⟩
end STG_RAIL

namespace STG_VOUT
def reg (r : Nat) : Fld := ⟨0x11084 + 0x20 * r, 0, 32⟩
def CODE (r : Nat) : Fld := ⟨0x11084 + 0x20 * r, 0, 10⟩
end STG_VOUT

namespace STG_SLEW
def reg (r : Nat) : Fld := ⟨0x11088 + 0x20 * r, 0, 32⟩
def RATE (r : Nat) : Fld := ⟨0x11088 + 0x20 * r, 0, 7⟩
end STG_SLEW

namespace STG_RAIL_STAT
def reg (r : Nat) : Fld := ⟨0x1108c + 0x20 * r, 0, 32⟩
def LIMIT (r : Nat) : Fld := ⟨0x1108c + 0x20 * r, 16, 16⟩
def TRIES (r : Nat) : Fld := ⟨0x1108c + 0x20 * r, 0, 2⟩
end STG_RAIL_STAT

namespace STG_VSNS
def reg (r : Nat) : Fld := ⟨0x11090 + 0x20 * r, 0, 32⟩
def V (r : Nat) : Fld := ⟨0x11090 + 0x20 * r, 0, 16⟩
end STG_VSNS

namespace STG_PH
def reg (p : Nat) : Fld := ⟨0x11200 + 0x10 * p, 0, 32⟩
def FAILED (p : Nat) : Fld := ⟨0x11200 + 0x10 * p, 5, 1⟩
def LATCHED (p : Nat) : Fld := ⟨0x11200 + 0x10 * p, 4, 1⟩
def OT_SHUT (p : Nat) : Fld := ⟨0x11200 + 0x10 * p, 3, 1⟩
def OT_WARN (p : Nat) : Fld := ⟨0x11200 + 0x10 * p, 2, 1⟩
def OVERLOAD (p : Nat) : Fld := ⟨0x11200 + 0x10 * p, 1, 1⟩
def IN_SERVICE (p : Nat) : Fld := ⟨0x11200 + 0x10 * p, 0, 1⟩
end STG_PH

namespace STG_PH_MON
def reg (p : Nat) : Fld := ⟨0x11204 + 0x10 * p, 0, 32⟩
def TEMP (p : Nat) : Fld := ⟨0x11204 + 0x10 * p, 16, 16⟩
def I (p : Nat) : Fld := ⟨0x11204 + 0x10 * p, 0, 16⟩
end STG_PH_MON

namespace STG_PH_AVG
def reg (p : Nat) : Fld := ⟨0x11208 + 0x10 * p, 0, 32⟩
def IAVG (p : Nat) : Fld := ⟨0x11208 + 0x10 * p, 0, 16⟩
end STG_PH_AVG

namespace STG_PH_TRIM
def reg (p : Nat) : Fld := ⟨0x1120c + 0x10 * p, 0, 32⟩
def BAL (p : Nat) : Fld := ⟨0x1120c + 0x10 * p, 0, 8⟩
end STG_PH_TRIM

namespace STG_SEQ_ON
def reg (r : Nat) : Fld := ⟨0x11400 + 0x20 * r, 0, 32⟩
def DELAY (r : Nat) : Fld := ⟨0x11400 + 0x20 * r, 16, 14⟩
def RAMP (r : Nat) : Fld := ⟨0x11400 + 0x20 * r, 0, 9⟩
end STG_SEQ_ON

namespace STG_SEQ_OFF
def reg (r : Nat) : Fld := ⟨0x11404 + 0x20 * r, 0, 32⟩
def DELAY (r : Nat) : Fld := ⟨0x11404 + 0x20 * r, 16, 14⟩
def RAMP (r : Nat) : Fld := ⟨0x11404 + 0x20 * r, 0, 9⟩
end STG_SEQ_OFF

namespace STG_HYST
def reg (r : Nat) : Fld := ⟨0x11408 + 0x20 * r, 0, 32⟩
def STAGGER (r : Nat) : Fld := ⟨0x11408 + 0x20 * r, 16, 8⟩
def FSW (r : Nat) : Fld := ⟨0x11408 + 0x20 * r, 8, 8⟩
def WIN (r : Nat) : Fld := ⟨0x11408 + 0x20 * r, 0, 5⟩
end STG_HYST

namespace STG_BRAKE
def reg (r : Nat) : Fld := ⟨0x1140c + 0x20 * r, 0, 32⟩
def OFF (r : Nat) : Fld := ⟨0x1140c + 0x20 * r, 8, 8⟩
def ON (r : Nat) : Fld := ⟨0x1140c + 0x20 * r, 0, 8⟩
end STG_BRAKE

namespace STG_OVL
def reg (r : Nat) : Fld := ⟨0x11410 + 0x20 * r, 0, 32⟩
def HICCUP_OFF (r : Nat) : Fld := ⟨0x11410 + 0x20 * r, 24, 8⟩
def WIN (r : Nat) : Fld := ⟨0x11410 + 0x20 * r, 16, 8⟩
def TH (r : Nat) : Fld := ⟨0x11410 + 0x20 * r, 0, 8⟩
end STG_OVL

namespace STG_CNT_SC
def COUNT : Fld := ⟨0x11e00, 0, 32⟩
end STG_CNT_SC

namespace STG_CNT_LATCH
def COUNT : Fld := ⟨0x11e04, 0, 32⟩
end STG_CNT_LATCH

namespace STG_CNT_OVL
def COUNT : Fld := ⟨0x11e08, 0, 32⟩
end STG_CNT_OVL

namespace STG_CNT_HICCUP
def COUNT : Fld := ⟨0x11e0c, 0, 32⟩
end STG_CNT_HICCUP

namespace STG_CNT_BRAKE
def COUNT : Fld := ⟨0x11e10, 0, 32⟩
end STG_CNT_BRAKE

namespace STG_CNT_OT
def reg : Fld := ⟨0x11e14, 0, 32⟩
def SHUT : Fld := ⟨0x11e14, 16, 16⟩
def WARN : Fld := ⟨0x11e14, 0, 16⟩
end STG_CNT_OT

namespace STG_CNT_FLT
def COUNT : Fld := ⟨0x11e18, 0, 32⟩
end STG_CNT_FLT

/-! ### R312 -/

namespace PMB_STATUS
def reg : Fld := ⟨0x12040, 0, 32⟩
def DEVICES : Fld := ⟨0x12040, 16, 5⟩
def ALERT : Fld := ⟨0x12040, 8, 1⟩
def BUSCONV_OK : Fld := ⟨0x12040, 0, 1⟩
end PMB_STATUS

namespace PMB_CFG
def reg : Fld := ⟨0x12044, 0, 32⟩
def SPEED : Fld := ⟨0x12044, 16, 1⟩
def POLL : Fld := ⟨0x12044, 8, 8⟩
def BUSCONV : Fld := ⟨0x12044, 0, 7⟩
end PMB_CFG

namespace PMB_SCAN
def reg : Fld := ⟨0x12048, 0, 32⟩
def GO : Fld := ⟨0x12048, 0, 1⟩
end PMB_SCAN

namespace PMB_RAW
def reg : Fld := ⟨0x1204c, 0, 32⟩
def GO : Fld := ⟨0x1204c, 31, 1⟩
def WORD : Fld := ⟨0x1204c, 30, 1⟩
def ADDR : Fld := ⟨0x1204c, 8, 7⟩
def CMD : Fld := ⟨0x1204c, 0, 8⟩
end PMB_RAW

namespace PMB_RAW_RES
def reg : Fld := ⟨0x12050, 0, 32⟩
def RESULT : Fld := ⟨0x12050, 28, 4⟩
def DATA : Fld := ⟨0x12050, 0, 16⟩
end PMB_RAW_RES

namespace PMB_DEV
def reg (n : Nat) : Fld := ⟨0x12080 + 0x20 * n, 0, 32⟩
def CAP (n : Nat) : Fld := ⟨0x12080 + 0x20 * n, 16, 8⟩
def REV (n : Nat) : Fld := ⟨0x12080 + 0x20 * n, 8, 8⟩
def PRESENT (n : Nat) : Fld := ⟨0x12080 + 0x20 * n, 7, 1⟩
def ADDR (n : Nat) : Fld := ⟨0x12080 + 0x20 * n, 0, 7⟩
end PMB_DEV

namespace PMB_DEV_STAT
def reg (n : Nat) : Fld := ⟨0x12084 + 0x20 * n, 0, 32⟩
def STATUS_WORD (n : Nat) : Fld := ⟨0x12084 + 0x20 * n, 0, 16⟩
end PMB_DEV_STAT

namespace PMB_V
def reg (n : Nat) : Fld := ⟨0x12088 + 0x20 * n, 0, 32⟩
def VIN (n : Nat) : Fld := ⟨0x12088 + 0x20 * n, 16, 16⟩
def VOUT (n : Nat) : Fld := ⟨0x12088 + 0x20 * n, 0, 16⟩
end PMB_V

namespace PMB_I
def reg (n : Nat) : Fld := ⟨0x1208c + 0x20 * n, 0, 32⟩
def IIN (n : Nat) : Fld := ⟨0x1208c + 0x20 * n, 16, 16⟩
def IOUT (n : Nat) : Fld := ⟨0x1208c + 0x20 * n, 0, 16⟩
end PMB_I

namespace PMB_P
def reg (n : Nat) : Fld := ⟨0x12090 + 0x20 * n, 0, 32⟩
def PIN (n : Nat) : Fld := ⟨0x12090 + 0x20 * n, 16, 16⟩
def POUT (n : Nat) : Fld := ⟨0x12090 + 0x20 * n, 0, 16⟩
end PMB_P

namespace PMB_TEMP
def reg (n : Nat) : Fld := ⟨0x12094 + 0x20 * n, 0, 32⟩
def TEMP (n : Nat) : Fld := ⟨0x12094 + 0x20 * n, 0, 16⟩
end PMB_TEMP

namespace PMB_AGE
def MS (n : Nat) : Fld := ⟨0x12098 + 0x20 * n, 0, 32⟩
end PMB_AGE

namespace PMB_CNT_NACK
def COUNT : Fld := ⟨0x12e00, 0, 32⟩
end PMB_CNT_NACK

namespace PMB_CNT_PEC
def COUNT : Fld := ⟨0x12e04, 0, 32⟩
end PMB_CNT_PEC

namespace PMB_CNT_ALERT
def COUNT : Fld := ⟨0x12e08, 0, 32⟩
end PMB_CNT_ALERT

/-! ### R347 -/

namespace CMx_SEQ
def LAST (pg : Nat) : Fld := ⟨pg + 0x40, 0, 32⟩
end CMx_SEQ

namespace CMx_STATUS
def reg (pg : Nat) : Fld := ⟨pg + 0x44, 0, 32⟩
def JOURNAL (pg : Nat) : Fld := ⟨pg + 0x44, 16, 9⟩
def PENDING (pg : Nat) : Fld := ⟨pg + 0x44, 0, 7⟩
end CMx_STATUS

namespace CMx_SLOT
def SLOT (pg : Nat) (i : Nat) : Fld := ⟨pg + 0x400 + 0x4 * i, 0, 32⟩
end CMx_SLOT

namespace CMx_CNT_ACCEPT
def COUNT (pg : Nat) : Fld := ⟨pg + 0xe00, 0, 32⟩
end CMx_CNT_ACCEPT

namespace CMx_CNT_REFUSED
def COUNT (pg : Nat) : Fld := ⟨pg + 0xe04, 0, 32⟩
end CMx_CNT_REFUSED

namespace CMx_CNT_SEQERR
def COUNT (pg : Nat) : Fld := ⟨pg + 0xe08, 0, 32⟩
end CMx_CNT_SEQERR

/-! ### R347 -/

namespace CMK_USLOT
def reg (s : Nat) : Fld := ⟨0x4080 + 0x4 * s, 0, 32⟩
def EN (s : Nat) : Fld := ⟨0x4080 + 0x4 * s, 31, 1⟩
def CONTEXT (s : Nat) : Fld := ⟨0x4080 + 0x4 * s, 0, 6⟩
end CMK_USLOT

namespace CMK_CNT_USER_ACCEPT
def COUNT : Fld := ⟨0x4e0c, 0, 32⟩
end CMK_CNT_USER_ACCEPT

namespace CMK_CNT_USER_REFUSED
def COUNT : Fld := ⟨0x4e10, 0, 32⟩
end CMK_CNT_USER_REFUSED

/-! ### R348 -/

namespace TDM_STATUS
def reg : Fld := ⟨0x10040, 0, 32⟩
def STATE : Fld := ⟨0x10040, 0, 6⟩
end TDM_STATUS

namespace TDM_WIN_BASE_LO
def BASE : Fld := ⟨0x10044, 0, 32⟩
end TDM_WIN_BASE_LO

namespace TDM_WIN_BASE_HI
def BASE : Fld := ⟨0x10048, 0, 32⟩
end TDM_WIN_BASE_HI

namespace TDM_WIN_LIMIT_LO
def LIMIT : Fld := ⟨0x1004c, 0, 32⟩
end TDM_WIN_LIMIT_LO

namespace TDM_WIN_LIMIT_HI
def LIMIT : Fld := ⟨0x10050, 0, 32⟩
end TDM_WIN_LIMIT_HI

namespace TDM_PERIOD
def reg : Fld := ⟨0x10054, 0, 32⟩
def YARD : Fld := ⟨0x10054, 8, 8⟩
def DEV : Fld := ⟨0x10054, 0, 8⟩
end TDM_PERIOD

namespace TDM_YSEL
def YARD (j : Nat) : Fld := ⟨0x10058 + 0x4 * j, 0, 32⟩
end TDM_YSEL

namespace TDM_STR_CTRL
def reg (t : Nat) : Fld := ⟨0x10080 + 0x20 * t, 0, 32⟩
def POLL (t : Nat) : Fld := ⟨0x10080 + 0x20 * t, 2, 8⟩
def STOP (t : Nat) : Fld := ⟨0x10080 + 0x20 * t, 1, 1⟩
def GO (t : Nat) : Fld := ⟨0x10080 + 0x20 * t, 0, 1⟩
end TDM_STR_CTRL

namespace TDM_STR_HEAD_LO
def ADDR (t : Nat) : Fld := ⟨0x10084 + 0x20 * t, 0, 32⟩
end TDM_STR_HEAD_LO

namespace TDM_STR_HEAD_HI
def ADDR (t : Nat) : Fld := ⟨0x10088 + 0x20 * t, 0, 32⟩
end TDM_STR_HEAD_HI

namespace TDM_STR_CUR_LO
def ADDR (t : Nat) : Fld := ⟨0x1008c + 0x20 * t, 0, 32⟩
end TDM_STR_CUR_LO

namespace TDM_STR_CUR_HI
def ADDR (t : Nat) : Fld := ⟨0x10090 + 0x20 * t, 0, 32⟩
end TDM_STR_CUR_HI

namespace TDM_STR_LOST
def COUNT (t : Nat) : Fld := ⟨0x10094 + 0x20 * t, 0, 32⟩
end TDM_STR_LOST

namespace TDM_STR_SEQ
def COUNT (t : Nat) : Fld := ⟨0x10098 + 0x20 * t, 0, 32⟩
end TDM_STR_SEQ

namespace TDM_CNT_REFETCH
def COUNT : Fld := ⟨0x10e00, 0, 32⟩
end TDM_CNT_REFETCH

namespace TDM_CNT_WINERR
def COUNT : Fld := ⟨0x10e04, 0, 32⟩
end TDM_CNT_WINERR

namespace TDM_CNT_BURSTS
def COUNT : Fld := ⟨0x10e08, 0, 32⟩
end TDM_CNT_BURSTS

/-! ### R349 -/

namespace HLM_STATUS
def reg : Fld := ⟨0x6040, 0, 32⟩
def EXEC : Fld := ⟨0x6040, 4, 2⟩
def SC1_OUT : Fld := ⟨0x6040, 3, 1⟩
def SC0_OUT : Fld := ⟨0x6040, 2, 1⟩
def HELM_OUT : Fld := ⟨0x6040, 1, 1⟩
end HLM_STATUS

namespace HLM_FW_VER
def VERSION : Fld := ⟨0x6044, 0, 32⟩
end HLM_FW_VER

namespace HLM_CNT_TAKEOVER
def COUNT : Fld := ⟨0x6e00, 0, 32⟩
end HLM_CNT_TAKEOVER

namespace HLM_CNT_JOURNAL_CE
def COUNT : Fld := ⟨0x6e04, 0, 32⟩
end HLM_CNT_JOURNAL_CE

namespace HLM_CNT_JOURNAL_UE
def COUNT : Fld := ⟨0x6e08, 0, 32⟩
end HLM_CNT_JOURNAL_UE

/-! ### R349 -/

namespace PRT_MP
def reg : Fld := ⟨0x2040, 0, 32⟩
def IBI_PEND : Fld := ⟨0x2040, 16, 8⟩
def IBI_EN : Fld := ⟨0x2040, 8, 1⟩
def DYN_ADDR : Fld := ⟨0x2040, 0, 7⟩
end PRT_MP

namespace PRT_RP
def reg : Fld := ⟨0x2044, 0, 32⟩
def OUTSTANDING : Fld := ⟨0x2044, 0, 5⟩
end PRT_RP

namespace PRT_H2M
def DATA (j : Nat) : Fld := ⟨0x2100 + 0x4 * j, 0, 32⟩
end PRT_H2M

namespace PRT_M2H
def DATA (j : Nat) : Fld := ⟨0x2180 + 0x4 * j, 0, 32⟩
end PRT_M2H

namespace PRT_CNT_RETRY
def COUNT : Fld := ⟨0x2e00, 0, 32⟩
end PRT_CNT_RETRY

namespace PRT_CNT_TAGREUSE
def COUNT : Fld := ⟨0x2e04, 0, 32⟩
end PRT_CNT_TAGREUSE

/-! ### R368 -/

namespace GLB_SERVICE
def reg : Fld := ⟨0x40, 0, 32⟩
def FW_RESULT : Fld := ⟨0x40, 4, 3⟩
def LAST_RESET : Fld := ⟨0x40, 2, 2⟩
def STATE : Fld := ⟨0x40, 0, 2⟩
end GLB_SERVICE

namespace GLB_RESET
def reg : Fld := ⟨0x44, 0, 32⟩
def KEY : Fld := ⟨0x44, 16, 16⟩
def KIND : Fld := ⟨0x44, 0, 2⟩
end GLB_RESET

namespace GLB_START_MS
def reg : Fld := ⟨0x48, 0, 32⟩
def MS : Fld := ⟨0x48, 0, 16⟩
end GLB_START_MS

/-! ### R369 -/

namespace FLS_CTRL
def reg : Fld := ⟨0x13040, 0, 32⟩
def GO : Fld := ⟨0x13040, 31, 1⟩
def OP : Fld := ⟨0x13040, 0, 3⟩
end FLS_CTRL

namespace FLS_ADDR
def reg : Fld := ⟨0x13044, 0, 32⟩
def ADDR : Fld := ⟨0x13044, 0, 25⟩
end FLS_ADDR

namespace FLS_LEN
def reg : Fld := ⟨0x13048, 0, 32⟩
def LEN : Fld := ⟨0x13048, 0, 9⟩
end FLS_LEN

namespace FLS_STATUS
def reg : Fld := ⟨0x1304c, 0, 32⟩
def RESULT : Fld := ⟨0x1304c, 28, 4⟩
def VERIFY : Fld := ⟨0x1304c, 25, 3⟩
def BUSY : Fld := ⟨0x1304c, 0, 1⟩
end FLS_STATUS

namespace FLS_JEDEC
def reg : Fld := ⟨0x13050, 0, 32⟩
def ID : Fld := ⟨0x13050, 0, 24⟩
end FLS_JEDEC

namespace FLS_SFDP
def reg : Fld := ⟨0x13054, 0, 32⟩
def OK : Fld := ⟨0x13054, 0, 1⟩
end FLS_SFDP

namespace FLS_BUF
def DATA (j : Nat) : Fld := ⟨0x13100 + 0x4 * j, 0, 32⟩
end FLS_BUF

/-! ### R399 -/

namespace FLT_STATUS
def reg : Fld := ⟨0xc040, 0, 32⟩
def PIN : Fld := ⟨0xc040, 4, 2⟩
def STARTUP_HELD : Fld := ⟨0xc040, 3, 1⟩
def LATCHED : Fld := ⟨0xc040, 2, 1⟩
def F_ASSERT : Fld := ⟨0xc040, 1, 1⟩
def HOLD : Fld := ⟨0xc040, 0, 1⟩
end FLT_STATUS

namespace FLT_PEND
def reg : Fld := ⟨0xc044, 0, 32⟩
def F : Fld := ⟨0xc044, 2, 1⟩
def K : Fld := ⟨0xc044, 1, 1⟩
def C : Fld := ⟨0xc044, 0, 1⟩
end FLT_PEND

namespace FLT_CTRL
def reg : Fld := ⟨0xc048, 0, 32⟩
def RESUME : Fld := ⟨0xc048, 0, 1⟩
end FLT_CTRL

namespace FLT_QUIET
def reg : Fld := ⟨0xc04c, 0, 32⟩
def SECONDS : Fld := ⟨0xc04c, 0, 10⟩
end FLT_QUIET

namespace FLT_REC
def reg : Fld := ⟨0xc050, 0, 32⟩
def COUNT : Fld := ⟨0xc050, 0, 4⟩
end FLT_REC

namespace FLT_FIRST_CODE
def reg : Fld := ⟨0xc054, 0, 32⟩
def VALID : Fld := ⟨0xc054, 31, 1⟩
def CLASS : Fld := ⟨0xc054, 19, 2⟩
def ESCALATED : Fld := ⟨0xc054, 18, 1⟩
def INJECTED : Fld := ⟨0xc054, 17, 1⟩
def CODE : Fld := ⟨0xc054, 0, 16⟩
end FLT_FIRST_CODE

namespace FLT_FIRST_INFO
def reg : Fld := ⟨0xc058, 0, 32⟩
def UNIT : Fld := ⟨0xc058, 16, 7⟩
def ACCESS : Fld := ⟨0xc058, 8, 3⟩
def RCLASS : Fld := ⟨0xc058, 0, 3⟩
end FLT_FIRST_INFO

namespace FLT_FIRST_ADDR_LO
def ADDR : Fld := ⟨0xc05c, 0, 32⟩
end FLT_FIRST_ADDR_LO

namespace FLT_FIRST_ADDR_HI
def ADDR : Fld := ⟨0xc060, 0, 32⟩
end FLT_FIRST_ADDR_HI

namespace FLT_FIRST_TIME_LO
def TIME : Fld := ⟨0xc064, 0, 32⟩
end FLT_FIRST_TIME_LO

namespace FLT_FIRST_TIME_HI
def TIME : Fld := ⟨0xc068, 0, 32⟩
end FLT_FIRST_TIME_HI

namespace FLT_FIRST_PARAM
def P0 : Fld := ⟨0xc06c, 0, 32⟩
end FLT_FIRST_PARAM

namespace FLT_ACT
def CODE (j : Nat) : Fld := ⟨0xc070 + 0x4 * j, 0, 32⟩
end FLT_ACT

namespace FLT_WIRE
def UNIT (j : Nat) : Fld := ⟨0xc080 + 0x4 * j, 0, 32⟩
end FLT_WIRE

namespace FLT_MEM_UE
def reg : Fld := ⟨0xc08c, 0, 32⟩
def UE_SEEN : Fld := ⟨0xc08c, 31, 1⟩
def MEMORY : Fld := ⟨0xc08c, 16, 4⟩
def PAGE : Fld := ⟨0xc08c, 0, 9⟩
end FLT_MEM_UE

namespace FLT_MS_RETIRE
def PAGE (j : Nat) : Fld := ⟨0xc090 + 0x4 * j, 0, 32⟩
end FLT_MS_RETIRE

namespace FLT_INJ
def reg : Fld := ⟨0xc0a0, 0, 32⟩
def GO : Fld := ⟨0xc0a0, 31, 1⟩
def ARMED : Fld := ⟨0xc0a0, 30, 1⟩
def MODE : Fld := ⟨0xc0a0, 24, 2⟩
def TARGET : Fld := ⟨0xc0a0, 16, 8⟩
def CODE : Fld := ⟨0xc0a0, 0, 16⟩
end FLT_INJ

namespace FLT_INJ_PIN
def reg : Fld := ⟨0xc0a4, 0, 32⟩
def PIN : Fld := ⟨0xc0a4, 0, 2⟩
end FLT_INJ_PIN

namespace FLT_CNT_C
def COUNT : Fld := ⟨0xce00, 0, 32⟩
end FLT_CNT_C

namespace FLT_CNT_K
def COUNT : Fld := ⟨0xce04, 0, 32⟩
end FLT_CNT_K

namespace FLT_CNT_F
def COUNT : Fld := ⟨0xce08, 0, 32⟩
end FLT_CNT_F

namespace FLT_CNT_ESC
def COUNT : Fld := ⟨0xce0c, 0, 32⟩
end FLT_CNT_ESC

namespace FLT_CNT_REPEAT
def COUNT : Fld := ⟨0xce10, 0, 32⟩
end FLT_CNT_REPEAT

namespace FLT_CNT_WIRE
def COUNT : Fld := ⟨0xce14, 0, 32⟩
end FLT_CNT_WIRE

namespace FLT_CNT_CE
def COUNT : Fld := ⟨0xce18, 0, 32⟩
end FLT_CNT_CE

namespace FLT_CNT_INJ
def COUNT : Fld := ⟨0xce1c, 0, 32⟩
end FLT_CNT_INJ

/-! ### R401 -/

namespace LOG_STATUS
def reg : Fld := ⟨0xd040, 0, 32⟩
def RANK_FULL : Fld := ⟨0xd040, 13, 1⟩
def FIRST_FULL : Fld := ⟨0xd040, 12, 1⟩
def SCANNING : Fld := ⟨0xd040, 11, 1⟩
def ERASING : Fld := ⟨0xd040, 10, 1⟩
def FROZEN : Fld := ⟨0xd040, 9, 1⟩
def STAGED : Fld := ⟨0xd040, 0, 9⟩
end LOG_STATUS

namespace LOG_CTRL
def reg : Fld := ⟨0xd044, 0, 32⟩
def FREEZE_MAX : Fld := ⟨0xd044, 8, 8⟩
def FREEZE : Fld := ⟨0xd044, 0, 1⟩
end LOG_CTRL

namespace LOG_ERASE
def reg : Fld := ⟨0xd048, 0, 32⟩
def KEY : Fld := ⟨0xd048, 16, 16⟩
def REGION : Fld := ⟨0xd048, 0, 2⟩
end LOG_ERASE

namespace LOG_POS
def reg : Fld := ⟨0xd04c, 0, 32⟩
def NEXT : Fld := ⟨0xd04c, 0, 17⟩
end LOG_POS

namespace LOG_OLDEST
def reg : Fld := ⟨0xd050, 0, 32⟩
def SECTOR : Fld := ⟨0xd050, 0, 6⟩
end LOG_OLDEST

namespace LOG_TIME
def SECONDS : Fld := ⟨0xd054, 0, 32⟩
end LOG_TIME

namespace LOG_CYCLE
def reg : Fld := ⟨0xd058, 0, 32⟩
def COUNT : Fld := ⟨0xd058, 0, 24⟩
end LOG_CYCLE

namespace LOG_RD
def reg : Fld := ⟨0xd05c, 0, 32⟩
def GO : Fld := ⟨0xd05c, 31, 1⟩
def INDEX : Fld := ⟨0xd05c, 0, 17⟩
end LOG_RD

namespace LOG_RD_RES
def reg : Fld := ⟨0xd060, 0, 32⟩
def RESULT : Fld := ⟨0xd060, 28, 4⟩
def INDEX : Fld := ⟨0xd060, 0, 17⟩
end LOG_RD_RES

namespace LOG_SECT
def SEV (j : Nat) : Fld := ⟨0xd080 + 0x4 * j, 0, 32⟩
end LOG_SECT

namespace LOG_RD_DATA
def DATA (j : Nat) : Fld := ⟨0xd100 + 0x4 * j, 0, 32⟩
end LOG_RD_DATA

namespace LOG_CNT_WRITTEN
def COUNT : Fld := ⟨0xde00, 0, 32⟩
end LOG_CNT_WRITTEN

namespace LOG_CNT_SUPPRESS
def COUNT : Fld := ⟨0xde04, 0, 32⟩
end LOG_CNT_SUPPRESS

namespace LOG_CNT_RANKDROP
def COUNT : Fld := ⟨0xde08, 0, 32⟩
end LOG_CNT_RANKDROP

namespace LOG_CNT_STAGEDROP
def COUNT : Fld := ⟨0xde0c, 0, 32⟩
end LOG_CNT_STAGEDROP

namespace LOG_CNT_ERASE
def COUNT : Fld := ⟨0xde10, 0, 32⟩
end LOG_CNT_ERASE

namespace LOG_CNT_BADREC
def COUNT : Fld := ⟨0xde14, 0, 32⟩
end LOG_CNT_BADREC

/-! ### R413 -/

namespace SEC_STATUS
def reg : Fld := ⟨0xe040, 0, 32⟩
def ACTIVE : Fld := ⟨0xe040, 16, 1⟩
def SCRUBBING : Fld := ⟨0xe040, 15, 1⟩
def CONF_RESIDENT : Fld := ⟨0xe040, 7, 8⟩
def SCRUB_QUEUED : Fld := ⟨0xe040, 0, 7⟩
end SEC_STATUS

namespace SEC_CONF0
def CTX : Fld := ⟨0xe044, 0, 32⟩
end SEC_CONF0

namespace SEC_CONF1
def CTX : Fld := ⟨0xe048, 0, 32⟩
end SEC_CONF1

namespace SEC_RES0
def CTX : Fld := ⟨0xe04c, 0, 32⟩
end SEC_RES0

namespace SEC_RES1
def CTX : Fld := ⟨0xe050, 0, 32⟩
end SEC_RES1

namespace SEC_BOUNCE_BASE_LO
def reg : Fld := ⟨0xe054, 0, 32⟩
def BASE : Fld := ⟨0xe054, 12, 20⟩
end SEC_BOUNCE_BASE_LO

namespace SEC_BOUNCE_BASE_HI
def BASE : Fld := ⟨0xe058, 0, 32⟩
end SEC_BOUNCE_BASE_HI

namespace SEC_BOUNCE_LIMIT_LO
def reg : Fld := ⟨0xe05c, 0, 32⟩
def LIMIT : Fld := ⟨0xe05c, 12, 20⟩
end SEC_BOUNCE_LIMIT_LO

namespace SEC_BOUNCE_LIMIT_HI
def LIMIT : Fld := ⟨0xe060, 0, 32⟩
end SEC_BOUNCE_LIMIT_HI

namespace SEC_KEYMASK
def reg : Fld := ⟨0xe064, 0, 32⟩
def KEY : Fld := ⟨0xe064, 0, 4⟩
end SEC_KEYMASK

namespace SEC_SCRUB_LAST
def reg : Fld := ⟨0xe068, 0, 32⟩
def US : Fld := ⟨0xe068, 13, 8⟩
def CONTEXT : Fld := ⟨0xe068, 7, 6⟩
def YARD : Fld := ⟨0xe068, 0, 7⟩
end SEC_SCRUB_LAST

namespace SEC_CNT_SCRUB
def COUNT : Fld := ⟨0xee00, 0, 32⟩
end SEC_CNT_SCRUB

namespace SEC_CNT_SCRUBLATE
def COUNT : Fld := ⟨0xee04, 0, 32⟩
end SEC_CNT_SCRUBLATE

namespace SEC_CNT_BOUNCEWAIT
def COUNT : Fld := ⟨0xee08, 0, 32⟩
end SEC_CNT_BOUNCEWAIT

namespace SEC_CNT_HIDDEN
def COUNT : Fld := ⟨0xee0c, 0, 32⟩
end SEC_CNT_HIDDEN

/-! ### R417 -/

namespace PG_ID
def reg (pg : Nat) : Fld := ⟨pg + 0x0, 0, 32⟩
def PAGE (pg : Nat) : Fld := ⟨pg + 0x0, 12, 9⟩
def INSTANCE (pg : Nat) : Fld := ⟨pg + 0x0, 0, 8⟩
end PG_ID

namespace PG_VER
def reg (pg : Nat) : Fld := ⟨pg + 0x4, 0, 32⟩
def MAJOR (pg : Nat) : Fld := ⟨pg + 0x4, 8, 8⟩
def MINOR (pg : Nat) : Fld := ⟨pg + 0x4, 0, 8⟩
end PG_VER

namespace PG_CAP
def reg (pg : Nat) : Fld := ⟨pg + 0x8, 0, 32⟩
def COUNTERS (pg : Nat) : Fld := ⟨pg + 0x8, 1, 1⟩
def EXPERT (pg : Nat) : Fld := ⟨pg + 0x8, 0, 1⟩
end PG_CAP

namespace PG_ACCESS
def reg (pg : Nat) : Fld := ⟨pg + 0xc, 0, 32⟩
def KEY (pg : Nat) : Fld := ⟨pg + 0xc, 16, 16⟩
def UNLOCKED (pg : Nat) : Fld := ⟨pg + 0xc, 8, 1⟩
def BY (pg : Nat) : Fld := ⟨pg + 0xc, 4, 2⟩
def OP (pg : Nat) : Fld := ⟨pg + 0xc, 0, 2⟩
end PG_ACCESS

namespace PG_STAT
def reg (pg : Nat) : Fld := ⟨pg + 0x10, 0, 32⟩
def EXPERT_ON (pg : Nat) : Fld := ⟨pg + 0x10, 2, 1⟩
def ERR (pg : Nat) : Fld := ⟨pg + 0x10, 1, 1⟩
def EVT (pg : Nat) : Fld := ⟨pg + 0x10, 0, 1⟩
end PG_STAT

namespace PG_EVT
def EVT (pg : Nat) : Fld := ⟨pg + 0x14, 0, 32⟩
end PG_EVT

namespace PG_EVTEN
def EN (pg : Nat) : Fld := ⟨pg + 0x18, 0, 32⟩
end PG_EVTEN

namespace PG_ERR
def reg (pg : Nat) : Fld := ⟨pg + 0x1c, 0, 32⟩
def VALID (pg : Nat) : Fld := ⟨pg + 0x1c, 31, 1⟩
def OVERFLOW (pg : Nat) : Fld := ⟨pg + 0x1c, 30, 1⟩
def CLASS (pg : Nat) : Fld := ⟨pg + 0x1c, 27, 3⟩
def REASON (pg : Nat) : Fld := ⟨pg + 0x1c, 24, 3⟩
def PORT (pg : Nat) : Fld := ⟨pg + 0x1c, 22, 2⟩
def ADDR (pg : Nat) : Fld := ⟨pg + 0x1c, 0, 21⟩
end PG_ERR

/-! ### R425 -/

namespace GLB_IDENT0
def ID : Fld := ⟨0x50, 0, 32⟩
end GLB_IDENT0

namespace GLB_IDENT1
def ID : Fld := ⟨0x54, 0, 32⟩
end GLB_IDENT1

namespace GLB_IDENT2
def ID : Fld := ⟨0x58, 0, 32⟩
end GLB_IDENT2

namespace GLB_PARAM0
def reg : Fld := ⟨0x60, 0, 32⟩
def STG_PHASES : Fld := ⟨0x60, 24, 5⟩
def SXT_CLUSTERS : Fld := ⟨0x60, 19, 5⟩
def YARD_COUNT : Fld := ⟨0x60, 11, 8⟩
def BAY_COUNT : Fld := ⟨0x60, 0, 11⟩
end GLB_PARAM0

namespace GLB_PARAM1
def reg : Fld := ⟨0x64, 0, 32⟩
def REMOUNTS : Fld := ⟨0x64, 13, 8⟩
def CONTEXTS : Fld := ⟨0x64, 6, 7⟩
def KEEL_MAX : Fld := ⟨0x64, 0, 6⟩
end GLB_PARAM1

namespace GLB_EVTSUM
def reg : Fld := ⟨0x68, 0, 32⟩
def SXT : Fld := ⟨0x68, 21, 1⟩
def PAGE : Fld := ⟨0x68, 0, 21⟩
end GLB_EVTSUM

namespace GLB_XREC
def reg : Fld := ⟨0x70, 0, 32⟩
def KEY : Fld := ⟨0x70, 16, 16⟩
def REGION : Fld := ⟨0x70, 14, 2⟩
def PAGE : Fld := ⟨0x70, 8, 5⟩
def OP : Fld := ⟨0x70, 0, 2⟩
end GLB_XREC

namespace GLB_XREC_YRD
def reg : Fld := ⟨0x74, 0, 32⟩
def PAGE : Fld := ⟨0x74, 0, 8⟩
end GLB_XREC_YRD

namespace GLB_XREC_BAY
def reg : Fld := ⟨0x78, 0, 32⟩
def PAGE : Fld := ⟨0x78, 0, 20⟩
end GLB_XREC_BAY

namespace GLB_XREC_COEF
def reg : Fld := ⟨0x7c, 0, 32⟩
def PAGE : Fld := ⟨0x7c, 0, 8⟩
end GLB_XREC_COEF

/-! ### R426 -/

namespace CLK_STATUS
def reg : Fld := ⟨0x1040, 0, 32⟩
def SOURCE : Fld := ⟨0x1040, 1, 1⟩
def LOCK : Fld := ⟨0x1040, 0, 1⟩
end CLK_STATUS

namespace CLK_YFMAX
def reg (j : Nat) : Fld := ⟨0x1100 + 0x4 * j, 0, 32⟩
def ODD (j : Nat) : Fld := ⟨0x1100 + 0x4 * j, 16, 16⟩
def EVEN (j : Nat) : Fld := ⟨0x1100 + 0x4 * j, 0, 16⟩
end CLK_YFMAX

namespace CLK_CNT_UNLOCK
def COUNT : Fld := ⟨0x1e00, 0, 32⟩
end CLK_CNT_UNLOCK

namespace CLK_CNT_RELOCK
def COUNT : Fld := ⟨0x1e04, 0, 32⟩
end CLK_CNT_RELOCK

end Sys2Proof.Machine
end

