-- ==== Sys2Proof/Machine/RegMap.lean ====
section
/-!
DEFINITION. The register map: for each page and record the rows of its register table (offset, stride, count, and the
fields that are not reserved, each with its access code and its reset value), and the reset word of every address.
-/

namespace Sys2Proof.Machine

/-- Access codes (R7), and three kinds the tables write out: command slots (R324), PRT_H2M (RW by KERN, RO to MGMT). -/
inductive Access where
  | rw | ro | w1c | wo | rwx | rwm | slot | h2m
deriving DecidableEq, Repr

/-- A field of a register table: lowest bit, width, access code, reset value (0 where the table gives words: `fixedReset`). -/
structure FSpec where
  lo : Nat
  w : Nat
  acc : Access
  rst : Nat
deriving DecidableEq, Repr

/-- A row of a register table: its offset, the stride and number of like registers, its fields. -/
structure RegRow where
  off : Nat
  stride : Nat
  count : Nat
  fs : List FSpec
deriving DecidableEq, Repr

/-- R417. -/
def hdrRows : List RegRow := [
  ⟨0x0, 0x0, 1, [⟨12, 9, .ro, 0⟩, ⟨0, 8, .ro, 0⟩]⟩,  -- PG_ID
  ⟨0x4, 0x0, 1, [⟨8, 8, .ro, 1⟩, ⟨0, 8, .ro, 0⟩]⟩,  -- PG_VER
  ⟨0x8, 0x0, 1, [⟨1, 1, .ro, 0⟩, ⟨0, 1, .ro, 0⟩]⟩,  -- PG_CAP
  ⟨0xc, 0x0, 1, [⟨16, 16, .wo, 0⟩, ⟨8, 1, .ro, 0⟩, ⟨4, 2, .ro, 0⟩, ⟨0, 2, .wo, 0⟩]⟩,  -- PG_ACCESS
  ⟨0x10, 0x0, 1, [⟨2, 1, .ro, 0⟩, ⟨1, 1, .ro, 0⟩, ⟨0, 1, .ro, 0⟩]⟩,  -- PG_STAT
  ⟨0x14, 0x0, 1, [⟨0, 32, .w1c, 0⟩]⟩,  -- PG_EVT
  ⟨0x18, 0x0, 1, [⟨0, 32, .rw, 0⟩]⟩,  -- PG_EVTEN
  ⟨0x1c, 0x0, 1, [⟨31, 1, .w1c, 0⟩, ⟨30, 1, .w1c, 0⟩, ⟨27, 3, .ro, 0⟩, ⟨24, 3, .ro, 0⟩, ⟨22, 2, .ro, 0⟩, ⟨0, 21, .ro, 0⟩]⟩  -- PG_ERR
]

/-- R368, R425. -/
def glbRows : List RegRow := [
  ⟨0x40, 0x0, 1, [⟨4, 3, .ro, 0⟩, ⟨2, 2, .ro, 2⟩, ⟨0, 2, .ro, 0⟩]⟩,  -- GLB_SERVICE
  ⟨0x44, 0x0, 1, [⟨16, 16, .wo, 0⟩, ⟨0, 2, .wo, 0⟩]⟩,  -- GLB_RESET
  ⟨0x48, 0x0, 1, [⟨0, 16, .ro, 0⟩]⟩,  -- GLB_START_MS
  ⟨0x50, 0x0, 1, [⟨0, 32, .ro, 0⟩]⟩,  -- GLB_IDENT0
  ⟨0x54, 0x0, 1, [⟨0, 32, .ro, 0⟩]⟩,  -- GLB_IDENT1
  ⟨0x58, 0x0, 1, [⟨0, 32, .ro, 0⟩]⟩,  -- GLB_IDENT2
  ⟨0x60, 0x0, 1, [⟨24, 5, .ro, 0⟩, ⟨19, 5, .ro, 0⟩, ⟨11, 8, .ro, 0⟩, ⟨0, 11, .ro, 0⟩]⟩,  -- GLB_PARAM0
  ⟨0x64, 0x0, 1, [⟨13, 8, .ro, 0⟩, ⟨6, 7, .ro, 0⟩, ⟨0, 6, .ro, 0⟩]⟩,  -- GLB_PARAM1
  ⟨0x68, 0x0, 1, [⟨21, 1, .ro, 0⟩, ⟨0, 21, .ro, 0⟩]⟩,  -- GLB_EVTSUM
  ⟨0x70, 0x0, 1, [⟨16, 16, .wo, 0⟩, ⟨14, 2, .wo, 0⟩, ⟨8, 5, .wo, 0⟩, ⟨0, 2, .wo, 0⟩]⟩,  -- GLB_XREC
  ⟨0x74, 0x0, 1, [⟨0, 8, .ro, 0⟩]⟩,  -- GLB_XREC_YRD
  ⟨0x78, 0x0, 1, [⟨0, 20, .ro, 0⟩]⟩,  -- GLB_XREC_BAY
  ⟨0x7c, 0x0, 1, [⟨0, 8, .ro, 0⟩]⟩  -- GLB_XREC_COEF
]

/-- R426. -/
def clkRows : List RegRow := [
  ⟨0x40, 0x0, 1, [⟨1, 1, .ro, 0⟩, ⟨0, 1, .ro, 0⟩]⟩,  -- CLK_STATUS
  ⟨0x100, 0x4, 48, [⟨16, 16, .ro, 0⟩, ⟨0, 16, .ro, 0⟩]⟩,  -- CLK_YFMAX
  ⟨0xe00, 0x0, 1, [⟨0, 32, .ro, 0⟩]⟩,  -- CLK_CNT_UNLOCK
  ⟨0xe04, 0x0, 1, [⟨0, 32, .ro, 0⟩]⟩  -- CLK_CNT_RELOCK
]

/-- R349. -/
def prtRows : List RegRow := [
  ⟨0x40, 0x0, 1, [⟨16, 8, .ro, 0⟩, ⟨8, 1, .rwm, 1⟩, ⟨0, 7, .ro, 0⟩]⟩,  -- PRT_MP
  ⟨0x44, 0x0, 1, [⟨0, 5, .ro, 0⟩]⟩,  -- PRT_RP
  ⟨0x100, 0x4, 32, [⟨0, 32, .h2m, 0⟩]⟩,  -- PRT_H2M
  ⟨0x180, 0x4, 32, [⟨0, 32, .rwm, 0⟩]⟩,  -- PRT_M2H
  ⟨0xe00, 0x0, 1, [⟨0, 32, .ro, 0⟩]⟩,  -- PRT_CNT_RETRY
  ⟨0xe04, 0x0, 1, [⟨0, 32, .ro, 0⟩]⟩  -- PRT_CNT_TAGREUSE
]

/-- R349. -/
def hlmRows : List RegRow := [
  ⟨0x40, 0x0, 1, [⟨4, 2, .ro, 0⟩, ⟨3, 1, .ro, 0⟩, ⟨2, 1, .ro, 0⟩, ⟨1, 1, .ro, 0⟩]⟩,  -- HLM_STATUS
  ⟨0x44, 0x0, 1, [⟨0, 32, .ro, 0⟩]⟩,  -- HLM_FW_VER
  ⟨0xe00, 0x0, 1, [⟨0, 32, .ro, 0⟩]⟩,  -- HLM_CNT_TAKEOVER
  ⟨0xe04, 0x0, 1, [⟨0, 32, .ro, 0⟩]⟩,  -- HLM_CNT_JOURNAL_CE
  ⟨0xe08, 0x0, 1, [⟨0, 32, .ro, 0⟩]⟩  -- HLM_CNT_JOURNAL_UE
]

/-- R154. -/
def pilRows : List RegRow := [
  ⟨0x40, 0x0, 1, [⟨16, 5, .ro, 0⟩, ⟨0, 7, .ro, 0⟩]⟩,  -- PIL_STATUS
  ⟨0x44, 0x0, 1, [⟨0, 16, .ro, 0⟩]⟩,  -- PIL_COLL
  ⟨0x48, 0x0, 1, [⟨0, 32, .ro, 0⟩]⟩,  -- PIL_LAST_LO
  ⟨0x4c, 0x0, 1, [⟨0, 32, .ro, 0⟩]⟩,  -- PIL_LAST_HI
  ⟨0x50, 0x4, 3, [⟨0, 32, .rw, 0⟩]⟩,  -- PIL_YEN
  ⟨0x400, 0x0, 1, [⟨0, 5, .rwx, 20⟩]⟩,  -- PIL_COAL
  ⟨0x404, 0x0, 1, [⟨24, 8, .rwx, 12⟩, ⟨16, 8, .rwx, 12⟩, ⟨8, 8, .rwx, 40⟩, ⟨0, 8, .rwx, 40⟩]⟩,  -- PIL_PRESET
  ⟨0x408, 0x0, 1, [⟨10, 1, .rwx, 1⟩, ⟨9, 1, .rwx, 1⟩, ⟨8, 1, .rwx, 1⟩, ⟨0, 5, .rwx, 16⟩]⟩,  -- PIL_PRESET_EN
  ⟨0xe00, 0x0, 1, [⟨0, 32, .ro, 0⟩]⟩,  -- PIL_CNT_ACCEPT
  ⟨0xe04, 0x0, 1, [⟨0, 32, .ro, 0⟩]⟩,  -- PIL_CNT_COALESCED
  ⟨0xe08, 0x0, 1, [⟨0, 32, .ro, 0⟩]⟩,  -- PIL_CNT_DISCARD
  ⟨0xe0c, 0x0, 1, [⟨0, 32, .ro, 0⟩]⟩,  -- PIL_CNT_BAD
  ⟨0xe10, 0x0, 1, [⟨0, 32, .ro, 0⟩]⟩,  -- PIL_CNT_LATE
  ⟨0xe14, 0x0, 1, [⟨0, 32, .ro, 0⟩]⟩  -- PIL_CNT_COLLERR
]

/-- R155. -/
def dreRows : List RegRow := [
  ⟨0x40, 0x0, 1, [⟨0, 1, .rw, 1⟩]⟩,  -- DRE_CTRL
  ⟨0x44, 0x0, 1, [⟨16, 8, .ro, 0⟩, ⟨12, 2, .ro, 0⟩, ⟨8, 4, .ro, 8⟩, ⟨7, 1, .ro, 0⟩, ⟨0, 7, .ro, 0⟩]⟩,  -- DRE_STATUS
  ⟨0x48, 0x0, 1, [⟨8, 1, .wo, 0⟩, ⟨4, 2, .rw, 0⟩, ⟨0, 3, .rw, 0⟩]⟩,  -- DRE_LOAD
  ⟨0x4c, 0x0, 1, [⟨0, 4, .ro, 0⟩]⟩,  -- DRE_LOAD_RES
  ⟨0x50, 0x0, 1, [⟨0, 32, .rw, 0⟩]⟩,  -- DRE_LOAD_ADDR_LO
  ⟨0x54, 0x0, 1, [⟨0, 32, .rw, 0⟩]⟩,  -- DRE_LOAD_ADDR_HI
  ⟨0x80, 0x10, 8, [⟨0, 32, .ro, 0⟩]⟩,  -- DRE_SLOT_ID
  ⟨0x84, 0x10, 8, [⟨0, 32, .ro, 0⟩]⟩,  -- DRE_SLOT_VER
  ⟨0x88, 0x10, 8, [⟨4, 4, .ro, 0⟩, ⟨1, 1, .ro, 0⟩, ⟨0, 1, .ro, 0⟩]⟩,  -- DRE_SLOT_STAT
  ⟨0x100, 0x4, 96, [⟨30, 2, .ro, 3⟩, ⟨20, 10, .ro, 0⟩, ⟨8, 8, .ro, 0⟩]⟩,  -- DRE_YSTAT
  ⟨0x400, 0x4, 16, [⟨0, 32, .rwx, 0⟩]⟩,  -- DRE_YMAP
  ⟨0x600, 0x4, 96, [⟨0, 32, .rwm, 0⟩]⟩,  -- DRE_KEY
  ⟨0x780, 0x0, 1, [⟨0, 4, .rwm, 0⟩]⟩,  -- DRE_KEYVALID
  ⟨0xe00, 0x0, 1, [⟨0, 32, .ro, 0⟩]⟩,  -- DRE_CNT_INFER
  ⟨0xe04, 0x0, 1, [⟨0, 32, .ro, 0⟩]⟩,  -- DRE_CNT_SAT
  ⟨0xe08, 0x0, 1, [⟨0, 32, .ro, 0⟩]⟩,  -- DRE_CNT_LOADFAIL
  ⟨0xe0c, 0x0, 1, [⟨0, 32, .ro, 0⟩]⟩  -- DRE_CNT_ATTRIB
]

/-- R237. -/
def pwsRows : List RegRow := [
  ⟨0x40, 0x0, 1, [⟨16, 8, .ro, 0⟩, ⟨0, 8, .ro, 0⟩]⟩,  -- PWS_STATUS
  ⟨0x44, 0x0, 1, [⟨31, 1, .wo, 0⟩, ⟨8, 7, .rw, 0⟩, ⟨0, 3, .rw, 0⟩]⟩,  -- PWS_REQ
  ⟨0x48, 0x0, 1, [⟨8, 7, .ro, 0⟩, ⟨4, 1, .ro, 0⟩, ⟨0, 4, .ro, 0⟩]⟩,  -- PWS_REQ_RES
  ⟨0x4c, 0x4, 3, [⟨0, 32, .rwm, 0⟩]⟩,  -- PWS_USER_MASK
  ⟨0x5c, 0x4, 3, [⟨0, 32, .rw, 0⟩]⟩,  -- PWS_WAKE_EN
  ⟨0x100, 0x4, 96, [⟨22, 10, .ro, 0⟩, ⟨21, 1, .ro, 1⟩, ⟨19, 2, .ro, 0⟩, ⟨16, 3, .ro, 7⟩, ⟨15, 1, .ro, 0⟩, ⟨14, 1, .ro, 0⟩, ⟨13, 1, .ro, 0⟩, ⟨9, 4, .ro, 0⟩, ⟨6, 3, .ro, 0⟩, ⟨3, 3, .ro, 4⟩, ⟨0, 3, .ro, 4⟩]⟩,  -- PWS_DOM
  ⟨0x400, 0x0, 1, [⟨24, 8, .rwx, 200⟩, ⟨16, 8, .rwx, 100⟩, ⟨8, 8, .rwx, 40⟩, ⟨0, 8, .rwx, 10⟩]⟩,  -- PWS_TMO_COLD
  ⟨0x404, 0x0, 1, [⟨24, 8, .rwx, 30⟩, ⟨16, 8, .rwx, 50⟩, ⟨8, 8, .rwx, 20⟩, ⟨0, 8, .rwx, 6⟩]⟩,  -- PWS_TMO_WARM
  ⟨0x408, 0x0, 1, [⟨24, 8, .rwx, 20⟩, ⟨16, 8, .rwx, 10⟩, ⟨0, 8, .rwx, 20⟩]⟩,  -- PWS_TIMING
  ⟨0x40c, 0x0, 1, [⟨0, 8, .rwx, 80⟩]⟩,  -- PWS_RETV
  ⟨0x410, 0x0, 1, [⟨20, 10, .rwx, 400⟩, ⟨10, 10, .rwx, 240⟩, ⟨0, 10, .rwx, 160⟩]⟩,  -- PWS_BIAS_BAND
  ⟨0x414, 0x0, 1, [⟨12, 3, .rwx, 6⟩, ⟨9, 3, .rwx, 4⟩, ⟨6, 3, .rwx, 0⟩, ⟨3, 3, .rwx, 1⟩, ⟨0, 3, .rwx, 2⟩]⟩,  -- PWS_BIAS_MAP
  ⟨0x418, 0x0, 1, [⟨0, 10, .rwx, 200⟩]⟩,  -- PWS_ASSIST_TH
  ⟨0xe00, 0x0, 1, [⟨0, 32, .ro, 0⟩]⟩,  -- PWS_CNT_WAKE
  ⟨0xe04, 0x0, 1, [⟨0, 32, .ro, 0⟩]⟩,  -- PWS_CNT_FAIL
  ⟨0xe08, 0x0, 1, [⟨0, 32, .ro, 0⟩]⟩,  -- PWS_CNT_REFUSED
  ⟨0xe0c, 0x0, 1, [⟨0, 32, .ro, 0⟩]⟩,  -- PWS_CNT_WAKEPIN
  ⟨0xe10, 0x0, 1, [⟨0, 32, .ro, 0⟩]⟩,  -- PWS_CNT_DEFER
  ⟨0xe14, 0x0, 1, [⟨0, 32, .ro, 0⟩]⟩  -- PWS_CNT_RDYLOST
]

/-- R267. -/
def capRows : List RegRow := [
  ⟨0x40, 0x0, 1, [⟨15, 1, .ro, 0⟩, ⟨14, 1, .ro, 0⟩, ⟨13, 1, .ro, 0⟩, ⟨12, 1, .ro, 0⟩, ⟨5, 5, .ro, 0⟩, ⟨0, 2, .ro, 1⟩]⟩,  -- CAP_STATUS
  ⟨0x44, 0x0, 1, [⟨31, 1, .rwm, 0⟩, ⟨0, 2, .rw, 1⟩]⟩,  -- CAP_MODE
  ⟨0x48, 0x0, 1, [⟨16, 16, .rw, 0⟩, ⟨0, 16, .rwm, 1400⟩]⟩,  -- CAP_DEV
  ⟨0x4c, 0x0, 1, [⟨0, 16, .ro, 0⟩]⟩,  -- CAP_DEV_INST
  ⟨0x50, 0x0, 1, [⟨16, 16, .ro, 0⟩, ⟨0, 16, .ro, 1400⟩]⟩,  -- CAP_DEV_NOW
  ⟨0x54, 0x0, 1, [⟨0, 16, .ro, 0⟩]⟩,  -- CAP_POWER
  ⟨0x58, 0x0, 1, [⟨0, 32, .ro, 0⟩]⟩,  -- CAP_CREDIT
  ⟨0x5c, 0x0, 1, [⟨31, 1, .rwm, 0⟩, ⟨0, 18, .rwm, 0⟩]⟩,  -- CAP_DEVNUM
  ⟨0x60, 0x0, 1, [⟨31, 1, .wo, 0⟩, ⟨30, 1, .wo, 0⟩, ⟨16, 6, .rw, 0⟩, ⟨0, 16, .rw, 0⟩]⟩,  -- CAP_JOB
  ⟨0x64, 0x0, 1, [⟨4, 6, .ro, 0⟩, ⟨0, 4, .ro, 0⟩]⟩,  -- CAP_JOB_RES
  ⟨0x68, 0x0, 1, [⟨16, 16, .rwm, 285⟩, ⟨0, 16, .rwm, 1368⟩]⟩,  -- CAP_RAIL
  ⟨0x6c, 0x0, 1, [⟨16, 16, .ro, 0⟩, ⟨0, 16, .ro, 0⟩]⟩,  -- CAP_RAIL_NOW
  ⟨0x70, 0x0, 1, [⟨0, 32, .ro, 0⟩]⟩,  -- CAP_UNATTR_LO
  ⟨0x74, 0x0, 1, [⟨0, 32, .ro, 0⟩]⟩,  -- CAP_UNATTR_HI
  ⟨0x80, 0x4, 32, [⟨16, 16, .rw, 0⟩, ⟨0, 16, .rw, 0⟩]⟩,  -- CAP_CTXCAP
  ⟨0x100, 0x4, 32, [⟨24, 7, .rw, 64⟩, ⟨16, 7, .rw, 64⟩, ⟨8, 7, .rw, 64⟩, ⟨0, 7, .rw, 64⟩]⟩,  -- CAP_YOWN, byte by byte
  ⟨0x180, 0x4, 24, [⟨0, 32, .ro, 0⟩]⟩,  -- CAP_YRUNG
  ⟨0x200, 0x8, 64, [⟨0, 32, .ro, 0⟩]⟩,  -- CAP_CTX_E_LO
  ⟨0x204, 0x8, 64, [⟨0, 32, .ro, 0⟩]⟩,  -- CAP_CTX_E_HI
  ⟨0x400, 0x0, 1, [⟨24, 8, .rwx, 10⟩, ⟨16, 8, .rwx, 5⟩, ⟨8, 8, .rwx, 5⟩]⟩,  -- CAP_TUNE
  ⟨0x404, 0x0, 1, [⟨16, 16, .rwx, 1900⟩, ⟨8, 8, .rwx, 50⟩]⟩,  -- CAP_EXC
  ⟨0x408, 0x0, 1, [⟨12, 4, .rwx, 4⟩, ⟨8, 4, .rwx, 5⟩, ⟨4, 4, .rwx, 9⟩, ⟨0, 4, .rwx, 11⟩]⟩,  -- CAP_CEIL
  ⟨0x40c, 0x0, 1, [⟨0, 16, .rwx, 2000⟩]⟩,  -- CAP_COLL
  ⟨0x410, 0x0, 1, [⟨0, 16, .rwx, 1000⟩]⟩,  -- CAP_EPOCH
  ⟨0x414, 0x0, 1, [⟨9, 3, .rwx, 7⟩, ⟨8, 1, .rwx, 0⟩, ⟨0, 8, .rwx, 10⟩]⟩,  -- CAP_ATTR
  ⟨0x418, 0x0, 1, [⟨8, 8, .rwx, 90⟩, ⟨0, 8, .rwx, 160⟩]⟩,  -- CAP_ILIM
  ⟨0x420, 0x4, 16, [⟨31, 1, .rwx, 0⟩, ⟨10, 8, .rwx, 0⟩, ⟨0, 10, .rwx, 0⟩]⟩,  -- CAP_OPP
  ⟨0xe00, 0x0, 1, [⟨0, 32, .ro, 0⟩]⟩,  -- CAP_CNT_EPOCH
  ⟨0xe04, 0x0, 1, [⟨0, 32, .ro, 0⟩]⟩,  -- CAP_CNT_CCPDROP
  ⟨0xe08, 0x0, 1, [⟨0, 32, .ro, 0⟩]⟩,  -- CAP_CNT_DEFER
  ⟨0xe0c, 0x0, 1, [⟨0, 32, .ro, 0⟩]⟩,  -- CAP_CNT_STRAGGLER
  ⟨0xe10, 0x0, 1, [⟨0, 32, .ro, 0⟩]⟩,  -- CAP_CNT_UNMET
  ⟨0xe14, 0x0, 1, [⟨0, 32, .ro, 0⟩]⟩,  -- CAP_CNT_LOOPMISS
  ⟨0xe18, 0x0, 1, [⟨0, 32, .ro, 0⟩]⟩,  -- CAP_CNT_ILIM
  ⟨0xe1c, 0x0, 1, [⟨0, 32, .ro, 0⟩]⟩,  -- CAP_CNT_ATTRMERGE
  ⟨0xe20, 0x0, 1, [⟨0, 32, .ro, 0⟩]⟩,  -- CAP_CNT_RECLOST
  ⟨0xe24, 0x0, 1, [⟨0, 32, .ro, 0⟩]⟩  -- CAP_CNT_HOLDACK
]

/-- R284. -/
def thmRows : List RegRow := [
  ⟨0x40, 0x0, 1, [⟨31, 1, .ro, 0⟩, ⟨16, 7, .ro, 0⟩, ⟨7, 9, .ro, 0⟩, ⟨0, 7, .ro, 0⟩]⟩,  -- THM_STATUS
  ⟨0x44, 0x0, 1, [⟨16, 9, .ro, 0⟩, ⟨0, 16, .ro, 0⟩]⟩,  -- THM_TRIP_SRC
  ⟨0x48, 0x0, 1, [⟨16, 9, .ro, 0⟩, ⟨0, 16, .ro, 0⟩]⟩,  -- THM_HOT_DIE
  ⟨0x4c, 0x0, 1, [⟨16, 9, .ro, 0⟩, ⟨0, 16, .ro, 0⟩]⟩,  -- THM_HOT_BND
  ⟨0x50, 0x0, 1, [⟨1, 1, .rw, 1⟩, ⟨0, 1, .rw, 1⟩]⟩,  -- THM_WARM_CTRL
  ⟨0x54, 0x0, 1, [⟨7, 1, .wo, 0⟩, ⟨0, 7, .rw, 0⟩]⟩,  -- THM_PROOF
  ⟨0x58, 0x0, 1, [⟨28, 4, .ro, 0⟩, ⟨18, 10, .ro, 0⟩, ⟨0, 9, .ro, 0⟩]⟩,  -- THM_PROOF_RES
  ⟨0x5c, 0x0, 1, [⟨30, 2, .ro, 0⟩, ⟨29, 1, .wo, 0⟩, ⟨28, 1, .wo, 0⟩, ⟨8, 7, .rw, 60⟩, ⟨0, 7, .rw, 0⟩]⟩,  -- THM_PRECOND
  ⟨0x60, 0x4, 10, [⟨0, 32, .ro, 0⟩]⟩,  -- THM_SUSPECT
  ⟨0x100, 0x4, 160, [⟨16, 16, .ro, 0⟩, ⟨0, 16, .ro, 0⟩]⟩,  -- THM_TEMP
  ⟨0x380, 0x4, 24, [⟨0, 32, .ro, 0⟩]⟩,  -- THM_YRUNG
  ⟨0x400, 0x4, 320, [⟨8, 7, .rwx, 0⟩, ⟨0, 7, .rwx, 0⟩]⟩,  -- THM_MAP
  ⟨0x900, 0x0, 1, [⟨16, 8, .ro, 110⟩, ⟨8, 8, .rwx, 100⟩, ⟨0, 8, .rwx, 95⟩]⟩,  -- THM_TH_DIE
  ⟨0x904, 0x0, 1, [⟨16, 8, .ro, 100⟩, ⟨8, 8, .rwx, 90⟩, ⟨0, 8, .rwx, 85⟩]⟩,  -- THM_TH_BND
  ⟨0x908, 0x0, 1, [⟨8, 8, .rwx, 10⟩, ⟨0, 8, .rwx, 24⟩]⟩,  -- THM_XCHK
  ⟨0x90c, 0x0, 1, [⟨24, 5, .rwx, 4⟩, ⟨16, 8, .rwx, 10⟩, ⟨8, 8, .rwx, 3⟩, ⟨0, 8, .rwx, 3⟩]⟩,  -- THM_THROT
  ⟨0x910, 0x0, 1, [⟨24, 8, .rwx, 55⟩, ⟨16, 8, .rwx, 10⟩, ⟨8, 8, .rwx, 30⟩, ⟨4, 4, .rwx, 4⟩]⟩,  -- THM_WARM
  ⟨0x914, 0x0, 1, [⟨8, 8, .rwx, 10⟩, ⟨0, 8, .rwx, 30⟩]⟩,  -- THM_WARM_LIM
  ⟨0x918, 0x0, 1, [⟨16, 8, .rwx, 20⟩, ⟨8, 8, .rwx, 4⟩, ⟨0, 8, .rwx, 8⟩]⟩,  -- THM_PROOF_CFG
  ⟨0x920, 0x4, 8, [⟨16, 16, .rwx, 0⟩, ⟨0, 16, .rwx, 0⟩]⟩,  -- THM_OSC_COMP
  ⟨0xe00, 0x0, 1, [⟨0, 32, .ro, 0⟩]⟩,  -- THM_CNT_SUSPECT
  ⟨0xe04, 0x0, 1, [⟨0, 32, .ro, 0⟩]⟩,  -- THM_CNT_WARN
  ⟨0xe08, 0x0, 1, [⟨0, 32, .ro, 0⟩]⟩,  -- THM_CNT_THROT
  ⟨0xe0c, 0x0, 1, [⟨0, 32, .ro, 0⟩]⟩  -- THM_CNT_HEAT
]

/-- R399. -/
def fltRows : List RegRow := [
  ⟨0x40, 0x0, 1, [⟨4, 2, .ro, 2⟩, ⟨3, 1, .ro, 0⟩, ⟨2, 1, .ro, 0⟩, ⟨1, 1, .ro, 0⟩, ⟨0, 1, .ro, 0⟩]⟩,  -- FLT_STATUS
  ⟨0x44, 0x0, 1, [⟨2, 1, .w1c, 0⟩, ⟨1, 1, .w1c, 0⟩, ⟨0, 1, .w1c, 0⟩]⟩,  -- FLT_PEND
  ⟨0x48, 0x0, 1, [⟨0, 1, .rwm, 0⟩]⟩,  -- FLT_CTRL
  ⟨0x4c, 0x0, 1, [⟨0, 10, .rwm, 10⟩]⟩,  -- FLT_QUIET
  ⟨0x50, 0x0, 1, [⟨0, 4, .ro, 0⟩]⟩,  -- FLT_REC
  ⟨0x54, 0x0, 1, [⟨31, 1, .w1c, 0⟩, ⟨19, 2, .ro, 0⟩, ⟨18, 1, .ro, 0⟩, ⟨17, 1, .ro, 0⟩, ⟨0, 16, .ro, 0⟩]⟩,  -- FLT_FIRST_CODE
  ⟨0x58, 0x0, 1, [⟨16, 7, .ro, 0⟩, ⟨8, 3, .ro, 0⟩, ⟨0, 3, .ro, 0⟩]⟩,  -- FLT_FIRST_INFO
  ⟨0x5c, 0x0, 1, [⟨0, 32, .ro, 0⟩]⟩,  -- FLT_FIRST_ADDR_LO
  ⟨0x60, 0x0, 1, [⟨0, 32, .ro, 0⟩]⟩,  -- FLT_FIRST_ADDR_HI
  ⟨0x64, 0x0, 1, [⟨0, 32, .ro, 0⟩]⟩,  -- FLT_FIRST_TIME_LO
  ⟨0x68, 0x0, 1, [⟨0, 32, .ro, 0⟩]⟩,  -- FLT_FIRST_TIME_HI
  ⟨0x6c, 0x0, 1, [⟨0, 32, .ro, 0⟩]⟩,  -- FLT_FIRST_PARAM
  ⟨0x70, 0x4, 4, [⟨0, 32, .ro, 0⟩]⟩,  -- FLT_ACT
  ⟨0x80, 0x4, 3, [⟨0, 32, .ro, 0⟩]⟩,  -- FLT_WIRE
  ⟨0x8c, 0x0, 1, [⟨31, 1, .w1c, 0⟩, ⟨16, 4, .ro, 0⟩, ⟨0, 9, .ro, 0⟩]⟩,  -- FLT_MEM_UE
  ⟨0x90, 0x4, 4, [⟨0, 32, .rw, 0⟩]⟩,  -- FLT_MS_RETIRE
  ⟨0xa0, 0x0, 1, [⟨31, 1, .wo, 0⟩, ⟨30, 1, .ro, 0⟩, ⟨24, 2, .rw, 0⟩, ⟨16, 8, .rw, 0⟩, ⟨0, 16, .rw, 0⟩]⟩,  -- FLT_INJ
  ⟨0xa4, 0x0, 1, [⟨0, 2, .rw, 0⟩]⟩,  -- FLT_INJ_PIN
  ⟨0xe00, 0x0, 1, [⟨0, 32, .ro, 0⟩]⟩,  -- FLT_CNT_C
  ⟨0xe04, 0x0, 1, [⟨0, 32, .ro, 0⟩]⟩,  -- FLT_CNT_K
  ⟨0xe08, 0x0, 1, [⟨0, 32, .ro, 0⟩]⟩,  -- FLT_CNT_F
  ⟨0xe0c, 0x0, 1, [⟨0, 32, .ro, 0⟩]⟩,  -- FLT_CNT_ESC
  ⟨0xe10, 0x0, 1, [⟨0, 32, .ro, 0⟩]⟩,  -- FLT_CNT_REPEAT
  ⟨0xe14, 0x0, 1, [⟨0, 32, .ro, 0⟩]⟩,  -- FLT_CNT_WIRE
  ⟨0xe18, 0x0, 1, [⟨0, 32, .ro, 0⟩]⟩,  -- FLT_CNT_CE
  ⟨0xe1c, 0x0, 1, [⟨0, 32, .ro, 0⟩]⟩  -- FLT_CNT_INJ
]

/-- R401. -/
def logRows : List RegRow := [
  ⟨0x40, 0x0, 1, [⟨13, 1, .ro, 0⟩, ⟨12, 1, .ro, 0⟩, ⟨11, 1, .ro, 1⟩, ⟨10, 1, .ro, 0⟩, ⟨9, 1, .ro, 0⟩, ⟨0, 9, .ro, 0⟩]⟩,  -- LOG_STATUS
  ⟨0x44, 0x0, 1, [⟨8, 8, .rw, 60⟩, ⟨0, 1, .rw, 0⟩]⟩,  -- LOG_CTRL
  ⟨0x48, 0x0, 1, [⟨16, 16, .rwm, 0⟩, ⟨0, 2, .rwm, 0⟩]⟩,  -- LOG_ERASE
  ⟨0x4c, 0x0, 1, [⟨0, 17, .ro, 0⟩]⟩,  -- LOG_POS
  ⟨0x50, 0x0, 1, [⟨0, 6, .ro, 0⟩]⟩,  -- LOG_OLDEST
  ⟨0x54, 0x0, 1, [⟨0, 32, .ro, 0⟩]⟩,  -- LOG_TIME
  ⟨0x58, 0x0, 1, [⟨0, 24, .ro, 0⟩]⟩,  -- LOG_CYCLE
  ⟨0x5c, 0x0, 1, [⟨31, 1, .wo, 0⟩, ⟨0, 17, .rw, 0⟩]⟩,  -- LOG_RD
  ⟨0x60, 0x0, 1, [⟨28, 4, .ro, 0⟩, ⟨0, 17, .ro, 0⟩]⟩,  -- LOG_RD_RES
  ⟨0x80, 0x4, 8, [⟨0, 32, .ro, 0⟩]⟩,  -- LOG_SECT
  ⟨0x100, 0x4, 8, [⟨0, 32, .ro, 0⟩]⟩,  -- LOG_RD_DATA
  ⟨0xe00, 0x0, 1, [⟨0, 32, .ro, 0⟩]⟩,  -- LOG_CNT_WRITTEN
  ⟨0xe04, 0x0, 1, [⟨0, 32, .ro, 0⟩]⟩,  -- LOG_CNT_SUPPRESS
  ⟨0xe08, 0x0, 1, [⟨0, 32, .ro, 0⟩]⟩,  -- LOG_CNT_RANKDROP
  ⟨0xe0c, 0x0, 1, [⟨0, 32, .ro, 0⟩]⟩,  -- LOG_CNT_STAGEDROP
  ⟨0xe10, 0x0, 1, [⟨0, 32, .ro, 0⟩]⟩,  -- LOG_CNT_ERASE
  ⟨0xe14, 0x0, 1, [⟨0, 32, .ro, 0⟩]⟩  -- LOG_CNT_BADREC
]

/-- R413. -/
def secRows : List RegRow := [
  ⟨0x40, 0x0, 1, [⟨16, 1, .ro, 0⟩, ⟨15, 1, .ro, 0⟩, ⟨7, 8, .ro, 0⟩, ⟨0, 7, .ro, 0⟩]⟩,  -- SEC_STATUS
  ⟨0x44, 0x0, 1, [⟨0, 32, .rw, 0⟩]⟩,  -- SEC_CONF0
  ⟨0x48, 0x0, 1, [⟨0, 32, .rw, 0⟩]⟩,  -- SEC_CONF1
  ⟨0x4c, 0x0, 1, [⟨0, 32, .ro, 0⟩]⟩,  -- SEC_RES0
  ⟨0x50, 0x0, 1, [⟨0, 32, .ro, 0⟩]⟩,  -- SEC_RES1
  ⟨0x54, 0x0, 1, [⟨12, 20, .rw, 0⟩]⟩,  -- SEC_BOUNCE_BASE_LO
  ⟨0x58, 0x0, 1, [⟨0, 32, .rw, 0⟩]⟩,  -- SEC_BOUNCE_BASE_HI
  ⟨0x5c, 0x0, 1, [⟨12, 20, .rw, 0⟩]⟩,  -- SEC_BOUNCE_LIMIT_LO
  ⟨0x60, 0x0, 1, [⟨0, 32, .rw, 0⟩]⟩,  -- SEC_BOUNCE_LIMIT_HI
  ⟨0x64, 0x0, 1, [⟨0, 4, .rw, 15⟩]⟩,  -- SEC_KEYMASK
  ⟨0x68, 0x0, 1, [⟨13, 8, .ro, 0⟩, ⟨7, 6, .ro, 0⟩, ⟨0, 7, .ro, 0⟩]⟩,  -- SEC_SCRUB_LAST
  ⟨0xe00, 0x0, 1, [⟨0, 32, .ro, 0⟩]⟩,  -- SEC_CNT_SCRUB
  ⟨0xe04, 0x0, 1, [⟨0, 32, .ro, 0⟩]⟩,  -- SEC_CNT_SCRUBLATE
  ⟨0xe08, 0x0, 1, [⟨0, 32, .ro, 0⟩]⟩,  -- SEC_CNT_BOUNCEWAIT
  ⟨0xe0c, 0x0, 1, [⟨0, 32, .ro, 0⟩]⟩  -- SEC_CNT_HIDDEN
]

/-- R216. -/
def farRows : List RegRow := [
  ⟨0x40, 0x0, 1, [⟨1, 1, .rw, 1⟩, ⟨0, 1, .wo, 0⟩]⟩,  -- FAR_CTRL
  ⟨0x44, 0x0, 1, [⟨3, 3, .ro, 0⟩, ⟨0, 3, .ro, 0⟩]⟩,  -- FAR_STATUS
  ⟨0x48, 0x0, 1, [⟨0, 8, .rw, 24⟩]⟩,  -- FAR_PERIOD
  ⟨0x4c, 0x0, 1, [⟨0, 32, .ro, 0⟩]⟩,  -- FAR_LAST
  ⟨0x50, 0x0, 1, [⟨22, 7, .ro, 0⟩, ⟨11, 11, .ro, 0⟩, ⟨0, 11, .ro, 0⟩]⟩,  -- FAR_SUMMARY
  ⟨0x54, 0x0, 1, [⟨15, 1, .wo, 0⟩, ⟨8, 7, .wo, 0⟩, ⟨0, 4, .wo, 0⟩]⟩,  -- FAR_SUSCLR
  ⟨0x58, 0x4, 3, [⟨0, 32, .ro, 0⟩]⟩,  -- FAR_BOND
  ⟨0x200, 0x4, 96, [⟨25, 7, .ro, 0⟩, ⟨17, 8, .ro, 0⟩, ⟨11, 6, .ro, 0⟩, ⟨7, 1, .ro, 0⟩, ⟨6, 1, .ro, 0⟩, ⟨5, 1, .ro, 0⟩, ⟨4, 1, .ro, 0⟩, ⟨3, 1, .ro, 0⟩, ⟨2, 1, .ro, 0⟩, ⟨1, 1, .ro, 0⟩]⟩,  -- FAR_YSTAT
  ⟨0x400, 0x4, 384, [⟨16, 16, .ro, 0⟩, ⟨0, 16, .rwx, 0⟩]⟩,  -- FAR_ZP
  ⟨0xc00, 0x0, 1, [⟨16, 8, .rwx, 10⟩, ⟨8, 8, .rwx, 40⟩, ⟨0, 8, .rwx, 48⟩]⟩,  -- FAR_PL
  ⟨0xc04, 0x0, 1, [⟨24, 8, .rwx, 10⟩, ⟨16, 8, .rwx, 10⟩, ⟨8, 8, .rwx, 24⟩, ⟨0, 8, .rwx, 24⟩]⟩,  -- FAR_OSC
  ⟨0xc08, 0x0, 1, [⟨16, 8, .rwx, 15⟩, ⟨8, 8, .rwx, 10⟩, ⟨0, 8, .rwx, 5⟩]⟩,  -- FAR_ZPCFG
  ⟨0xc0c, 0x0, 1, [⟨28, 4, .rwx, 8⟩, ⟨24, 4, .rwx, 1⟩, ⟨16, 8, .rwx, 2⟩, ⟨8, 8, .rwx, 6⟩, ⟨0, 8, .rwx, 50⟩]⟩,  -- FAR_PLAN
  ⟨0xc10, 0x0, 1, [⟨31, 1, .rwx, 1⟩, ⟨8, 5, .rwx, 31⟩, ⟨0, 5, .rwx, 30⟩]⟩,  -- FAR_AP_MAP
  ⟨0xc14, 0x0, 1, [⟨16, 16, .rwx, 524⟩, ⟨0, 16, .rwx, 1049⟩]⟩,  -- FAR_RO_NORM
  ⟨0xc18, 0x0, 1, [⟨24, 8, .rwx, 24⟩, ⟨16, 8, .rwx, 16⟩, ⟨8, 8, .rwx, 150⟩, ⟨0, 8, .rwx, 125⟩]⟩,  -- FAR_WEAR_TH
  ⟨0xe00, 0x0, 1, [⟨0, 32, .ro, 0⟩]⟩,  -- FAR_CNT_SUSPECT
  ⟨0xe04, 0x0, 1, [⟨0, 32, .ro, 0⟩]⟩,  -- FAR_CNT_MODEL
  ⟨0xe08, 0x0, 1, [⟨0, 32, .ro, 0⟩]⟩,  -- FAR_CNT_OSC
  ⟨0xe0c, 0x0, 1, [⟨0, 32, .ro, 0⟩]⟩,  -- FAR_CNT_OSC_HAND
  ⟨0xe10, 0x0, 1, [⟨0, 32, .ro, 0⟩]⟩,  -- FAR_CNT_PLANS
  ⟨0xe14, 0x0, 1, [⟨0, 32, .ro, 0⟩]⟩,  -- FAR_CNT_SUBST
  ⟨0xe18, 0x0, 1, [⟨0, 32, .ro, 0⟩]⟩,  -- FAR_CNT_ZPWIN
  ⟨0xe1c, 0x0, 1, [⟨0, 32, .ro, 0⟩]⟩,  -- FAR_CNT_ZPREJ
  ⟨0xe20, 0x0, 1, [⟨0, 32, .ro, 0⟩]⟩  -- FAR_CNT_BOND
]

/-- R348. -/
def tdmRows : List RegRow := [
  ⟨0x40, 0x0, 1, [⟨0, 6, .ro, 0⟩]⟩,  -- TDM_STATUS
  ⟨0x44, 0x0, 1, [⟨0, 32, .rw, 0⟩]⟩,  -- TDM_WIN_BASE_LO
  ⟨0x48, 0x0, 1, [⟨0, 32, .rw, 0⟩]⟩,  -- TDM_WIN_BASE_HI
  ⟨0x4c, 0x0, 1, [⟨0, 32, .rw, 0⟩]⟩,  -- TDM_WIN_LIMIT_LO
  ⟨0x50, 0x0, 1, [⟨0, 32, .rw, 0⟩]⟩,  -- TDM_WIN_LIMIT_HI
  ⟨0x54, 0x0, 1, [⟨8, 8, .rw, 10⟩, ⟨0, 8, .rw, 10⟩]⟩,  -- TDM_PERIOD
  ⟨0x58, 0x4, 3, [⟨0, 32, .rw, 0⟩]⟩,  -- TDM_YSEL
  ⟨0x80, 0x20, 3, [⟨2, 8, .rw, 10⟩, ⟨1, 1, .wo, 0⟩, ⟨0, 1, .wo, 0⟩]⟩,  -- TDM_STR_CTRL
  ⟨0x84, 0x20, 3, [⟨0, 32, .rw, 0⟩]⟩,  -- TDM_STR_HEAD_LO
  ⟨0x88, 0x20, 3, [⟨0, 32, .rw, 0⟩]⟩,  -- TDM_STR_HEAD_HI
  ⟨0x8c, 0x20, 3, [⟨0, 32, .ro, 0⟩]⟩,  -- TDM_STR_CUR_LO
  ⟨0x90, 0x20, 3, [⟨0, 32, .ro, 0⟩]⟩,  -- TDM_STR_CUR_HI
  ⟨0x94, 0x20, 3, [⟨0, 32, .ro, 0⟩]⟩,  -- TDM_STR_LOST
  ⟨0x98, 0x20, 3, [⟨0, 32, .ro, 0⟩]⟩,  -- TDM_STR_SEQ
  ⟨0xe00, 0x0, 1, [⟨0, 32, .ro, 0⟩]⟩,  -- TDM_CNT_REFETCH
  ⟨0xe04, 0x0, 1, [⟨0, 32, .ro, 0⟩]⟩,  -- TDM_CNT_WINERR
  ⟨0xe08, 0x0, 1, [⟨0, 32, .ro, 0⟩]⟩  -- TDM_CNT_BURSTS
]

/-- R310. -/
def stgRows : List RegRow := [
  ⟨0x40, 0x0, 1, [⟨20, 2, .ro, 0⟩, ⟨18, 2, .ro, 0⟩, ⟨16, 2, .ro, 0⟩, ⟨12, 1, .ro, 0⟩, ⟨5, 5, .ro, 0⟩, ⟨0, 5, .ro, 0⟩]⟩,  -- STG_STATUS
  ⟨0x44, 0x0, 1, [⟨0, 30, .ro, 0⟩]⟩,  -- STG_PRESENT
  ⟨0x48, 0x0, 1, [⟨0, 30, .rwm, 0⟩]⟩,  -- STG_RAILMAP
  ⟨0x4c, 0x0, 1, [⟨0, 2, .rwm, 0⟩]⟩,  -- STG_TRACK
  ⟨0x50, 0x0, 1, [⟨0, 30, .wo, 0⟩]⟩,  -- STG_PHCLR
  ⟨0x80, 0x20, 2, [⟨16, 10, .ro, 0⟩, ⟨2, 3, .ro, 0⟩, ⟨1, 1, .ro, 0⟩, ⟨0, 1, .rwm, 0⟩]⟩,  -- STG_RAIL
  ⟨0x84, 0x20, 2, [⟨0, 10, .rw, 0⟩]⟩,  -- STG_VOUT
  ⟨0x88, 0x20, 2, [⟨0, 7, .rw, 10⟩]⟩,  -- STG_SLEW
  ⟨0x8c, 0x20, 2, [⟨16, 16, .ro, 0⟩, ⟨0, 2, .ro, 0⟩]⟩,  -- STG_RAIL_STAT
  ⟨0x90, 0x20, 2, [⟨0, 16, .ro, 0⟩]⟩,  -- STG_VSNS
  ⟨0x200, 0x10, 30, [⟨5, 1, .ro, 0⟩, ⟨4, 1, .ro, 0⟩, ⟨3, 1, .ro, 0⟩, ⟨2, 1, .ro, 0⟩, ⟨1, 1, .ro, 0⟩, ⟨0, 1, .ro, 0⟩]⟩,  -- STG_PH
  ⟨0x204, 0x10, 30, [⟨16, 16, .ro, 0⟩, ⟨0, 16, .ro, 0⟩]⟩,  -- STG_PH_MON
  ⟨0x208, 0x10, 30, [⟨0, 16, .ro, 0⟩]⟩,  -- STG_PH_AVG
  ⟨0x20c, 0x10, 30, [⟨0, 8, .ro, 0⟩]⟩,  -- STG_PH_TRIM
  ⟨0x400, 0x20, 2, [⟨16, 14, .rwx, 0⟩, ⟨0, 9, .rwx, 0⟩]⟩,  -- STG_SEQ_ON
  ⟨0x404, 0x20, 2, [⟨16, 14, .rwx, 0⟩, ⟨0, 9, .rwx, 0⟩]⟩,  -- STG_SEQ_OFF
  ⟨0x408, 0x20, 2, [⟨16, 8, .rwx, 2⟩, ⟨8, 8, .rwx, 60⟩, ⟨0, 5, .rwx, 4⟩]⟩,  -- STG_HYST
  ⟨0x40c, 0x20, 2, [⟨8, 8, .rwx, 10⟩, ⟨0, 8, .rwx, 30⟩]⟩,  -- STG_BRAKE
  ⟨0x410, 0x20, 2, [⟨24, 8, .rwx, 20⟩, ⟨16, 8, .rwx, 10⟩, ⟨0, 8, .rwx, 0⟩]⟩,  -- STG_OVL
  ⟨0xe00, 0x0, 1, [⟨0, 32, .ro, 0⟩]⟩,  -- STG_CNT_SC
  ⟨0xe04, 0x0, 1, [⟨0, 32, .ro, 0⟩]⟩,  -- STG_CNT_LATCH
  ⟨0xe08, 0x0, 1, [⟨0, 32, .ro, 0⟩]⟩,  -- STG_CNT_OVL
  ⟨0xe0c, 0x0, 1, [⟨0, 32, .ro, 0⟩]⟩,  -- STG_CNT_HICCUP
  ⟨0xe10, 0x0, 1, [⟨0, 32, .ro, 0⟩]⟩,  -- STG_CNT_BRAKE
  ⟨0xe14, 0x0, 1, [⟨16, 16, .ro, 0⟩, ⟨0, 16, .ro, 0⟩]⟩,  -- STG_CNT_OT
  ⟨0xe18, 0x0, 1, [⟨0, 32, .ro, 0⟩]⟩  -- STG_CNT_FLT
]

/-- R312. -/
def pmbRows : List RegRow := [
  ⟨0x40, 0x0, 1, [⟨16, 5, .ro, 0⟩, ⟨8, 1, .ro, 0⟩, ⟨0, 1, .ro, 0⟩]⟩,  -- PMB_STATUS
  ⟨0x44, 0x0, 1, [⟨16, 1, .rwm, 0⟩, ⟨8, 8, .rw, 10⟩, ⟨0, 7, .rwm, 0⟩]⟩,  -- PMB_CFG
  ⟨0x48, 0x0, 1, [⟨0, 1, .wo, 0⟩]⟩,  -- PMB_SCAN
  ⟨0x4c, 0x0, 1, [⟨31, 1, .wo, 0⟩, ⟨30, 1, .rw, 0⟩, ⟨8, 7, .rw, 0⟩, ⟨0, 8, .rw, 0⟩]⟩,  -- PMB_RAW
  ⟨0x50, 0x0, 1, [⟨28, 4, .ro, 0⟩, ⟨0, 16, .ro, 0⟩]⟩,  -- PMB_RAW_RES
  ⟨0x80, 0x20, 16, [⟨16, 8, .ro, 0⟩, ⟨8, 8, .ro, 0⟩, ⟨7, 1, .ro, 0⟩, ⟨0, 7, .ro, 0⟩]⟩,  -- PMB_DEV
  ⟨0x84, 0x20, 16, [⟨0, 16, .ro, 0⟩]⟩,  -- PMB_DEV_STAT
  ⟨0x88, 0x20, 16, [⟨16, 16, .ro, 0⟩, ⟨0, 16, .ro, 0⟩]⟩,  -- PMB_V
  ⟨0x8c, 0x20, 16, [⟨16, 16, .ro, 0⟩, ⟨0, 16, .ro, 0⟩]⟩,  -- PMB_I
  ⟨0x90, 0x20, 16, [⟨16, 16, .ro, 0⟩, ⟨0, 16, .ro, 0⟩]⟩,  -- PMB_P
  ⟨0x94, 0x20, 16, [⟨0, 16, .ro, 0⟩]⟩,  -- PMB_TEMP
  ⟨0x98, 0x20, 16, [⟨0, 32, .ro, 0⟩]⟩,  -- PMB_AGE
  ⟨0xe00, 0x0, 1, [⟨0, 32, .ro, 0⟩]⟩,  -- PMB_CNT_NACK
  ⟨0xe04, 0x0, 1, [⟨0, 32, .ro, 0⟩]⟩,  -- PMB_CNT_PEC
  ⟨0xe08, 0x0, 1, [⟨0, 32, .ro, 0⟩]⟩  -- PMB_CNT_ALERT
]

/-- R369. -/
def flsRows : List RegRow := [
  ⟨0x40, 0x0, 1, [⟨31, 1, .wo, 0⟩, ⟨0, 3, .rw, 0⟩]⟩,  -- FLS_CTRL
  ⟨0x44, 0x0, 1, [⟨0, 25, .rw, 0⟩]⟩,  -- FLS_ADDR
  ⟨0x48, 0x0, 1, [⟨0, 9, .rw, 0⟩]⟩,  -- FLS_LEN
  ⟨0x4c, 0x0, 1, [⟨28, 4, .ro, 0⟩, ⟨25, 3, .ro, 0⟩, ⟨0, 1, .ro, 0⟩]⟩,  -- FLS_STATUS
  ⟨0x50, 0x0, 1, [⟨0, 24, .ro, 0⟩]⟩,  -- FLS_JEDEC
  ⟨0x54, 0x0, 1, [⟨0, 1, .ro, 0⟩]⟩,  -- FLS_SFDP
  ⟨0x100, 0x4, 64, [⟨0, 32, .rw, 0⟩]⟩  -- FLS_BUF
]

/-- R106. -/
def tilRows : List RegRow := [
  ⟨0x40, 0x0, 1, [⟨16, 7, .ro, 0⟩, ⟨8, 6, .ro, 22⟩, ⟨0, 5, .ro, 24⟩]⟩,  -- TIL_STATUS
  ⟨0x44, 0x0, 1, [⟨8, 8, .ro, 0⟩, ⟨0, 8, .ro, 0⟩]⟩,  -- TIL_BOUND
  ⟨0x400, 0x0, 1, [⟨0, 7, .rwx, 90⟩]⟩,  -- TIL_ADMIT
  ⟨0x404, 0x0, 1, [⟨0, 8, .rwx, 64⟩]⟩,  -- TIL_URGENT
  ⟨0x408, 0x0, 1, [⟨0, 24, .ro, 0⟩]⟩,  -- TIL_LANES
  ⟨0xe00, 0x0, 1, [⟨0, 32, .ro, 0⟩]⟩,  -- TIL_CNT_KEELMISS
  ⟨0xe04, 0x0, 1, [⟨0, 32, .ro, 0⟩]⟩,  -- TIL_CNT_OVERRUN
  ⟨0xe08, 0x0, 1, [⟨0, 32, .ro, 0⟩]⟩,  -- TIL_CNT_LANEERR
  ⟨0xe0c, 0x0, 1, [⟨0, 32, .ro, 0⟩]⟩,  -- TIL_CNT_REFUSED
  ⟨0xe10, 0x0, 1, [⟨8, 8, .ro, 0⟩, ⟨0, 8, .ro, 0⟩]⟩,  -- TIL_WAIT_MAX
  ⟨0xe14, 0x0, 1, [⟨0, 32, .ro, 0⟩]⟩,  -- TIL_CNT_SHAREMISS
  ⟨0xe18, 0x0, 1, [⟨0, 32, .ro, 0⟩]⟩  -- TIL_CNT_SUPMISS
]

/-- R189. -/
def sxtRows : List RegRow := [
  ⟨0x40, 0x0, 1, [⟨0, 26, .ro, 0⟩]⟩,  -- SXT_PRESENT
  ⟨0x44, 0x0, 1, [⟨0, 26, .ro, 0⟩]⟩,  -- SXT_EVTSUM
  ⟨0x48, 0x4, 3, [⟨0, 32, .rw, 0⟩]⟩,  -- SXT_MAINT
  ⟨0x58, 0x4, 3, [⟨0, 32, .ro, 0⟩]⟩,  -- SXT_MAINT_NOW
  ⟨0x68, 0x0, 1, [⟨0, 32, .rw, 0⟩]⟩,  -- SXT_CAPRAM_RETIRE_LO
  ⟨0x6c, 0x0, 1, [⟨0, 32, .rw, 0⟩]⟩,  -- SXT_CAPRAM_RETIRE_HI
  ⟨0x70, 0x0, 1, [⟨31, 1, .w1c, 0⟩, ⟨0, 6, .ro, 0⟩]⟩,  -- SXT_CAPRAM_ERR
  ⟨0x74, 0x0, 1, [⟨0, 13, .ro, 0⟩]⟩,  -- SXT_PAIR
  ⟨0xe00, 0x0, 1, [⟨0, 32, .ro, 0⟩]⟩,  -- SXT_CNT_CAPRAM_CE
  ⟨0xe04, 0x0, 1, [⟨0, 32, .ro, 0⟩]⟩  -- SXT_CNT_CAPRAM_UE
]

/-- R347. -/
def cmxRows : List RegRow := [
  ⟨0x40, 0x0, 1, [⟨0, 32, .ro, 0⟩]⟩,  -- CMx_SEQ
  ⟨0x44, 0x0, 1, [⟨16, 9, .ro, 0⟩, ⟨0, 7, .ro, 0⟩]⟩,  -- CMx_STATUS
  ⟨0x400, 0x4, 256, [⟨0, 32, .slot, 0⟩]⟩,  -- CMx_SLOT
  ⟨0xe00, 0x0, 1, [⟨0, 32, .ro, 0⟩]⟩,  -- CMx_CNT_ACCEPT
  ⟨0xe04, 0x0, 1, [⟨0, 32, .ro, 0⟩]⟩,  -- CMx_CNT_REFUSED
  ⟨0xe08, 0x0, 1, [⟨0, 32, .ro, 0⟩]⟩  -- CMx_CNT_SEQERR
]

/-- R347, CMK only. -/
def cmkRows : List RegRow := [
  ⟨0x80, 0x4, 64, [⟨31, 1, .rw, 0⟩, ⟨0, 6, .rw, 0⟩]⟩,  -- CMK_USLOT
  ⟨0xe0c, 0x0, 1, [⟨0, 32, .ro, 0⟩]⟩,  -- CMK_CNT_USER_ACCEPT
  ⟨0xe10, 0x0, 1, [⟨0, 32, .ro, 0⟩]⟩  -- CMK_CNT_USER_REFUSED
]

/-- R79, R105, R124. -/
def yrdRows : List RegRow := [
  ⟨0x0, 0x0, 1, [⟨17, 3, .ro, 0⟩, ⟨11, 6, .ro, 0⟩, ⟨5, 6, .ro, 0⟩, ⟨4, 1, .ro, 0⟩, ⟨3, 1, .ro, 0⟩, ⟨0, 3, .ro, 0⟩]⟩,  -- YRD_CFG
  ⟨0x4, 0x0, 1, [⟨11, 11, .ro, 0⟩, ⟨0, 11, .ro, 0⟩]⟩,  -- YRD_BAYS
  ⟨0x8, 0x0, 1, [⟨25, 3, .ro, 0⟩, ⟨14, 11, .ro, 0⟩, ⟨11, 3, .ro, 0⟩, ⟨0, 11, .ro, 0⟩]⟩,  -- YRD_SPARES
  ⟨0xc, 0x0, 1, [⟨24, 1, .ro, 0⟩, ⟨23, 1, .ro, 0⟩, ⟨22, 1, .ro, 0⟩, ⟨15, 7, .ro, 0⟩, ⟨12, 3, .ro, 0⟩, ⟨6, 6, .ro, 0⟩, ⟨0, 6, .ro, 0⟩]⟩,  -- YRD_STATUS
  ⟨0x10, 0x0, 1, [⟨0, 16, .ro, 0⟩]⟩,  -- YRD_SEGMENTS
  ⟨0x40, 0x0, 1, [⟨16, 10, .ro, 0⟩, ⟨0, 10, .rw, 0⟩]⟩,  -- YRD_VID
  ⟨0x44, 0x0, 1, [⟨0, 4, .rw, 5⟩]⟩,  -- YRD_SLEW
  ⟨0x48, 0x0, 1, [⟨16, 16, .ro, 0⟩, ⟨0, 16, .ro, 0⟩]⟩,  -- YRD_ILIM
  ⟨0x4c, 0x0, 1, [⟨16, 5, .ro, 0⟩, ⟨8, 5, .ro, 0⟩, ⟨0, 6, .ro, 0⟩]⟩,  -- YRD_OFFSETS
  ⟨0x50, 0x0, 1, [⟨0, 1, .rw, 1⟩]⟩,  -- YRD_CTRL
  ⟨0xe0, 0x0, 1, [⟨0, 32, .ro, 0⟩]⟩,  -- YRD_CNT_ALLHANDS
  ⟨0xe4, 0x0, 1, [⟨0, 32, .ro, 0⟩]⟩,  -- YRD_CNT_BAYFAIL
  ⟨0xe8, 0x0, 1, [⟨0, 32, .ro, 0⟩]⟩,  -- YRD_CNT_REMOUNT
  ⟨0x80, 0x0, 1, [⟨7, 2, .rwx, 0⟩, ⟨6, 1, .rwx, 0⟩, ⟨4, 2, .rwx, 0⟩, ⟨3, 1, .rw, 0⟩, ⟨0, 3, .rw, 0⟩]⟩,  -- YRD_LOOP
  ⟨0x84, 0x0, 1, [⟨8, 1, .ro, 0⟩, ⟨7, 1, .ro, 0⟩, ⟨6, 1, .ro, 0⟩, ⟨4, 2, .ro, 3⟩, ⟨3, 1, .ro, 0⟩, ⟨0, 3, .ro, 0⟩]⟩,  -- YRD_LOOP_NOW
  ⟨0x88, 0x0, 1, [⟨0, 12, .rw, 0⟩]⟩,  -- YRD_HAND
  ⟨0x8c, 0x0, 1, [⟨16, 16, .ro, 0⟩, ⟨0, 12, .ro, 0⟩]⟩,  -- YRD_OUT
  ⟨0x90, 0x0, 1, [⟨16, 9, .ro, 0⟩, ⟨4, 4, .ro, 0⟩, ⟨0, 4, .rwx, 15⟩]⟩,  -- YRD_FB
  ⟨0x94, 0x0, 1, [⟨0, 6, .w1c, 0⟩]⟩,  -- YRD_LOOP_EVT
  ⟨0x98, 0x0, 1, [⟨0, 32, .ro, 0⟩]⟩,  -- YRD_CNT_KEELMISS
  ⟨0x9c, 0x0, 1, [⟨0, 32, .ro, 0⟩]⟩,  -- YRD_CNT_SAT
  ⟨0xa0, 0x0, 1, [⟨0, 32, .ro, 0⟩]⟩,  -- YRD_CNT_OVERRUN
  ⟨0xc0, 0x0, 1, [⟨1, 1, .rwx, 1⟩, ⟨0, 1, .rw, 1⟩]⟩,  -- YRD_PHCTL
  ⟨0xc4, 0x0, 1, [⟨31, 1, .rwx, 0⟩, ⟨16, 8, .rwx, 7⟩, ⟨8, 8, .rwx, 60⟩, ⟨0, 8, .rwx, 25⟩]⟩,  -- YRD_SHED_TH
  ⟨0xc8, 0x0, 1, [⟨8, 8, .rwx, 10⟩, ⟨0, 8, .rwx, 3⟩]⟩,  -- YRD_SHARE_TUNE
  ⟨0xcc, 0x0, 1, [⟨0, 6, .rw, 24⟩]⟩,  -- YRD_DROOP
  ⟨0xd0, 0x0, 1, [⟨24, 4, .rwx, 1⟩, ⟨16, 8, .rwx, 20⟩, ⟨8, 8, .rwx, 85⟩, ⟨0, 8, .rwx, 90⟩]⟩,  -- YRD_WAKE
  ⟨0xd4, 0x0, 1, [⟨16, 8, .rwx, 4⟩, ⟨8, 8, .rwx, 32⟩, ⟨0, 8, .rwx, 24⟩]⟩,  -- YRD_VF
  ⟨0xd8, 0x0, 1, [⟨16, 8, .ro, 0⟩, ⟨8, 7, .ro, 0⟩, ⟨0, 4, .ro, 0⟩]⟩,  -- YRD_SHARE_STAT
  ⟨0xdc, 0x0, 1, [⟨16, 16, .ro, 0⟩, ⟨0, 5, .w1c, 0⟩]⟩  -- YRD_SHED_EVT
]

/-- R78, R207. -/
def bayRows : List RegRow := [
  ⟨0x0, 0x0, 1, [⟨24, 7, .ro, 0⟩, ⟨17, 7, .ro, 0⟩, ⟨13, 4, .ro, 0⟩, ⟨6, 7, .ro, 0⟩, ⟨3, 3, .ro, 0⟩, ⟨2, 1, .ro, 0⟩, ⟨1, 1, .ro, 0⟩, ⟨0, 1, .ro, 0⟩]⟩,  -- BAY_CFG
  ⟨0x4, 0x0, 1, [⟨17, 2, .ro, 0⟩, ⟨16, 1, .ro, 0⟩, ⟨9, 7, .ro, 0⟩, ⟨6, 3, .ro, 0⟩, ⟨3, 3, .ro, 0⟩, ⟨0, 3, .ro, 0⟩]⟩,  -- BAY_STATE
  ⟨0x8, 0x0, 1, [⟨0, 2, .wo, 0⟩]⟩,  -- BAY_CTRL
  ⟨0xc, 0x0, 1, [⟨0, 8, .w1c, 0⟩]⟩,  -- BAY_EVT
  ⟨0x10, 0x0, 1, [⟨16, 8, .ro, 0⟩, ⟨8, 8, .ro, 0⟩, ⟨0, 8, .ro, 0⟩]⟩,  -- BAY_IMON
  ⟨0x14, 0x0, 1, [⟨0, 16, .ro, 0⟩]⟩,  -- BAY_IAVG
  ⟨0x18, 0x0, 1, [⟨22, 5, .ro, 0⟩, ⟨10, 12, .ro, 0⟩, ⟨0, 10, .ro, 0⟩]⟩,  -- BAY_REF
  ⟨0x20, 0x0, 1, [⟨31, 1, .ro, 0⟩, ⟨30, 1, .ro, 0⟩, ⟨16, 8, .ro, 100⟩, ⟨8, 8, .ro, 0⟩, ⟨0, 8, .ro, 0⟩]⟩,  -- BAY_WEAR
  ⟨0x28, 0x0, 1, [⟨0, 4, .rwx, 4⟩]⟩,  -- BAY_HYST
  ⟨0x2c, 0x0, 1, [⟨2, 1, .wo, 0⟩, ⟨1, 1, .rwx, 0⟩, ⟨0, 1, .rwx, 0⟩]⟩,  -- BAY_REMOUNT
  ⟨0x30, 0x0, 1, [⟨0, 6, .rwx, 24⟩]⟩,  -- BAY_DROOP
  ⟨0x34, 0x0, 1, [⟨8, 6, .ro, 0⟩, ⟨0, 6, .ro, 0⟩]⟩,  -- BAY_SHARE
  ⟨0x38, 0x0, 1, [⟨0, 32, .ro, 0⟩]⟩,  -- BAY_CNT_TRIP
  ⟨0x3c, 0x0, 1, [⟨16, 16, .ro, 0⟩, ⟨0, 16, .ro, 0⟩]⟩  -- BAY_CNT_ERR
]

/-- R101. -/
def coefRows : List RegRow := [
  ⟨0x0, 0x0, 1, [⟨0, 24, .rwx, 0⟩]⟩,  -- B0
  ⟨0x4, 0x0, 1, [⟨0, 24, .rwx, 0⟩]⟩,  -- B1
  ⟨0x8, 0x0, 1, [⟨0, 24, .rwx, 0⟩]⟩,  -- B2
  ⟨0xc, 0x0, 1, [⟨0, 24, .rwx, 0⟩]⟩,  -- B3
  ⟨0x10, 0x0, 1, [⟨0, 24, .rwx, 0⟩]⟩,  -- A1
  ⟨0x14, 0x0, 1, [⟨0, 24, .rwx, 0⟩]⟩,  -- A2
  ⟨0x18, 0x0, 1, [⟨0, 24, .rwx, 0⟩]⟩,  -- A3
  ⟨0x1c, 0x0, 1, [⟨30, 2, .rwx, 0⟩, ⟨29, 1, .rwx, 0⟩, ⟨16, 12, .rwx, 0⟩, ⟨0, 12, .rwx, 0⟩]⟩  -- CTL
]

/-- R190. -/
def sxtnRows : List RegRow := [
  ⟨0x40, 0x0, 1, [⟨11, 1, .ro, 0⟩, ⟨10, 1, .ro, 0⟩, ⟨9, 1, .ro, 0⟩, ⟨8, 1, .ro, 0⟩, ⟨5, 3, .ro, 4⟩, ⟨0, 5, .ro, 31⟩]⟩,  -- SXT_STATUS
  ⟨0x44, 0x0, 1, [⟨0, 16, .ro, 0⟩]⟩,  -- SXT_TEMP
  ⟨0x48, 0x0, 1, [⟨6, 1, .wo, 0⟩, ⟨0, 6, .rw, 0⟩]⟩,  -- SXT_URG
  ⟨0x4c, 0x0, 1, [⟨28, 4, .ro, 0⟩, ⟨25, 3, .ro, 0⟩, ⟨16, 9, .ro, 0⟩, ⟨0, 16, .ro, 0⟩]⟩,  -- SXT_URG_RES
  ⟨0x50, 0x0, 1, [⟨0, 32, .ro, 0⟩]⟩,  -- SXT_URG_TIME_LO
  ⟨0x54, 0x0, 1, [⟨0, 32, .ro, 0⟩]⟩,  -- SXT_URG_TIME_HI
  ⟨0x58, 0x0, 1, [⟨0, 32, .w1c, 0⟩]⟩,  -- SXT_WIN_EVT0
  ⟨0x5c, 0x0, 1, [⟨0, 4, .w1c, 0⟩]⟩,  -- SXT_WIN_EVT1
  ⟨0x80, 0x40, 2, [⟨28, 1, .rw, 0⟩, ⟨22, 6, .rw, 0⟩, ⟨15, 7, .rw, 0⟩, ⟨14, 1, .rw, 0⟩, ⟨8, 6, .rw, 0⟩, ⟨5, 3, .rw, 0⟩, ⟨3, 2, .rw, 0⟩, ⟨2, 1, .rw, 0⟩, ⟨1, 1, .wo, 0⟩, ⟨0, 1, .wo, 0⟩]⟩,  -- SXT_STR_CTRL
  ⟨0x84, 0x40, 2, [⟨0, 5, .rw, 12⟩]⟩,  -- SXT_STR_SIZE
  ⟨0x88, 0x40, 2, [⟨0, 16, .rw, 0⟩]⟩,  -- SXT_STR_DIV
  ⟨0x8c, 0x40, 2, [⟨0, 25, .rw, 0⟩]⟩,  -- SXT_STR_COUNT
  ⟨0x90, 0x40, 2, [⟨0, 32, .rw, 0⟩]⟩,  -- SXT_STR_BASE_LO
  ⟨0x94, 0x40, 2, [⟨0, 32, .rw, 0⟩]⟩,  -- SXT_STR_BASE_HI
  ⟨0x98, 0x40, 2, [⟨0, 32, .rw, 0⟩]⟩,  -- SXT_STR_TTIME_LO
  ⟨0x9c, 0x40, 2, [⟨0, 32, .rw, 0⟩]⟩,  -- SXT_STR_TTIME_HI
  ⟨0xa0, 0x40, 2, [⟨4, 1, .ro, 0⟩, ⟨3, 1, .ro, 0⟩, ⟨0, 3, .ro, 0⟩]⟩,  -- SXT_STR_STAT
  ⟨0xa4, 0x40, 2, [⟨0, 32, .ro, 0⟩]⟩,  -- SXT_STR_WPTR
  ⟨0xa8, 0x40, 2, [⟨0, 32, .ro, 0⟩]⟩,  -- SXT_STR_WRAPS
  ⟨0xac, 0x40, 2, [⟨0, 32, .ro, 0⟩]⟩,  -- SXT_STR_TRIGPOS
  ⟨0xb0, 0x40, 2, [⟨0, 32, .ro, 0⟩]⟩,  -- SXT_STR_DROP
  ⟨0xb4, 0x40, 2, [⟨0, 32, .ro, 0⟩]⟩,  -- SXT_STR_DROPAT
  ⟨0x100, 0x4, 36, [⟨24, 8, .ro, 0⟩, ⟨16, 2, .ro, 0⟩, ⟨0, 16, .ro, 0⟩]⟩,  -- SXT_VAL
  ⟨0x400, 0x10, 36, [⟨16, 16, .rwx, 0⟩, ⟨0, 16, .rwx, 0⟩]⟩,  -- SXT_CH_WIN
  ⟨0x404, 0x10, 36, [⟨13, 1, .rwx, 0⟩, ⟨12, 1, .rwx, 0⟩, ⟨8, 4, .rwx, 3⟩, ⟨0, 8, .rwx, 8⟩]⟩,  -- SXT_CH_WCFG
  ⟨0x408, 0x10, 36, [⟨16, 16, .rwx, 0⟩, ⟨0, 16, .rwx, 0⟩]⟩,  -- SXT_CH_CAL
  ⟨0x40c, 0x10, 36, [⟨0, 8, .rwx, 0⟩]⟩,  -- SXT_CH_SCAN
  ⟨0x700, 0x10, 5, [⟨0, 12, .ro, 0⟩]⟩,  -- SXT_SL_OFS
  ⟨0x704, 0x10, 5, [⟨0, 16, .ro, 16384⟩]⟩,  -- SXT_SL_GAIN
  ⟨0x708, 0x10, 5, [⟨0, 10, .ro, 0⟩]⟩,  -- SXT_SL_DLY
  ⟨0x70c, 0x10, 5, [⟨2, 2, .ro, 0⟩, ⟨0, 2, .ro, 0⟩]⟩,  -- SXT_SL_STAT
  ⟨0x800, 0x4, 8, [⟨16, 16, .rwx, 0⟩, ⟨0, 16, .rwx, 0⟩]⟩,  -- SXT_COMP
  ⟨0x820, 0x0, 1, [⟨16, 16, .ro, 0⟩, ⟨0, 9, .ro, 0⟩]⟩,  -- SXT_COMP_CFG
  ⟨0x840, 0x0, 1, [⟨8, 4, .ro, 0⟩, ⟨4, 4, .ro, 0⟩, ⟨0, 3, .wo, 0⟩]⟩,  -- SXT_CAL
  ⟨0x844, 0x0, 1, [⟨0, 32, .ro, 0⟩]⟩,  -- SXT_CAL_FAIL
  ⟨0xe00, 0x0, 1, [⟨0, 32, .ro, 0⟩]⟩,  -- SXT_CNT_URGENT
  ⟨0xe04, 0x0, 1, [⟨0, 32, .ro, 0⟩]⟩,  -- SXT_CNT_ABORTDROP
  ⟨0xe08, 0x0, 1, [⟨0, 32, .ro, 0⟩]⟩,  -- SXT_CNT_URGTIMEOUT
  ⟨0xe0c, 0x0, 1, [⟨0, 32, .ro, 0⟩]⟩,  -- SXT_CNT_CALREJ
  ⟨0xe10, 0x0, 1, [⟨0, 32, .ro, 0⟩]⟩,  -- SXT_CNT_WIN
  ⟨0xe14, 0x0, 1, [⟨0, 32, .ro, 0⟩]⟩  -- SXT_CNT_SYSCAL
]

/-- The row that describes an offset. -/
def findRow (o : Nat) : List RegRow → Option RegRow
  | [] => none
  | r :: t =>
    if r.off ≤ o && (if r.count ≤ 1 then o == r.off else (o - r.off) % r.stride == 0 && (o - r.off) / r.stride < r.count)
    then some r else findRow o t

/-- Home address of BAY records (DEDUCED, assumption log 4). -/
def bayHome : Nat := 0x200000

/-- A page has the common header (R415). -/
def hasHeader (page : Nat) : Bool := (page ≤ 0x14 && page != 5) || (0x50 ≤ page && page ≤ 0x6A)

/-- The rows of a page with a header (R427). -/
def pageRows (page : Nat) : List RegRow :=
  match page with
  | 0x00 => glbRows | 0x01 => clkRows | 0x02 => prtRows | 0x03 => cmxRows | 0x04 => cmxRows ++ cmkRows
  | 0x06 => hlmRows | 0x07 => pilRows | 0x08 => dreRows | 0x09 => pwsRows | 0x0A => capRows | 0x0B => thmRows
  | 0x0C => fltRows | 0x0D => logRows | 0x0E => secRows | 0x0F => farRows | 0x10 => tdmRows | 0x11 => stgRows
  | 0x12 => pmbRows | 0x13 => flsRows | 0x14 => tilRows | 0x50 => sxtRows
  | _ => if 0x51 ≤ page && page ≤ 0x6A then sxtnRows else []

/-- The fields of the register at a home address; none at a reserved offset or in a record of an absent unit (R3, R416). -/
def fieldsAt (a : Nat) : List FSpec :=
  let page := a / 0x1000
  let o := a % 0x1000
  let fs (r : Option RegRow) : List FSpec := match r with | some r => r.fs | none => []
  if bayHome ≤ a then
    (if Config.bayFitted ((a - bayHome) / 0x40) then fs (findRow (a % 0x40) bayRows) else [])
  else if 0x20 ≤ page && page < 0x28 then
    (if (a - 0x20000) / 0x100 < Config.yardCount then fs (findRow (a % 0x100) yrdRows) else [])
  else if 0x40 ≤ page && page < 0x48 then
    (if (a - 0x40000) / 0x100 < Config.yardCount then fs (findRow (a % 0x20) coefRows) else [])
  else if page = 5 then [⟨0, 32, .slot, 0⟩]
  else if hasHeader page then
    if o < 0x40 then fs (findRow o hdrRows)
    else if 0x51 ≤ page && page ≤ 0x6A && ((0x100 ≤ o && o < 0x190 && Config.chKind (page - 0x51) ((o - 0x100) / 4) = .absent)
        || (0x400 ≤ o && o < 0x640 && Config.chKind (page - 0x51) ((o - 0x400) / 0x10) = .absent)) then []
    else fs (findRow o (pageRows page))
  else []

/-- A word made of fields: (value, lowest bit) pairs. -/
def pack (l : List (Nat × Nat)) : Word := BitVec.ofNat 32 (l.foldl (fun a p => a + p.1 * 2 ^ p.2) 0)

/-- BAY_CFG and the other fixed words of a BAY record (R78), its STATE and YARD at reset, and WEAR (R207). -/
def bayReset (b o : Nat) : Option Word :=
  let own := (Config.serviceYard b).getD 0
  let isR := (Config.remountLow b).isSome
  let lo := (Config.remountLow b).getD own
  let hi := if isR then lo + 1 else own
  if o = 0 then
    some (pack [(hi, 24), (lo, 17), (b / 80, 13), (b % 80, 6), (Config.anchorOf b, 3), (Config.yardRail lo, 2),
      (if isR then 1 else 0, 1), (1, 0)])
  else if o = 4 then some (pack [(if isR then 0x7F else own, 9), (1, 0)])
  else if o = 0x30 then some (if Config.anchorOf b = 0 then 0 else 24)
  else none

/-- The fixed words of a YRD record and its fields reset by kind (R79, R105, R19). LO_FIRST and HI_FIRST of a boundary without remounts, which
has no index to show, read 0 (DESIGN CHOICE, assumption log 39). -/
def yrdReset (y o : Nat) : Option Word :=
  let keel := if Config.kind y = .array ∨ Config.kind y = .memif then 1 else 0
  let sup := if Config.kind y = .compute ∨ Config.kind y = .fabric then 1 else 2
  let first := Config.firstBay y
  let last := first + Config.serviceBays y - 1
  let lo := if y = 0 then (0, 0) else Config.boundary (y - 1)
  let hi := Config.boundary y
  if o = 0 then some (pack [(Config.sensePoints, 17), (Config.minBays y, 11), (Config.serviceBays y, 5), (Config.yardRail y, 4),
    (1, 3), (Config.kindCode y, 0)])
  else if o = 4 then some (pack [(last, 11), (first, 0)])
  else if o = 8 then some (pack [(hi.2, 25), (hi.1, 14), (lo.2, 11), (lo.1, 0)])
  else if o = 0x10 then some (pack ((if first / 80 = last / 80 then [(1, first / 80)] else [(1, first / 80), (1, last / 80)])))
  else if o = 0x80 then some (pack [(sup, 7), (keel, 6)])
  else if o = 0x84 then some (pack [(keel, 6), (3, 4)])
  else none

/-- Sets 0 and 7 of the coefficient store (R104); sets 1-6 reset to zero. -/
def coefReset (s o : Nat) : Option Word :=
  if s = 0 then
    (if o = 0 then some 0x00010000 else if o = 0x10 then some 0x00F00000 else if o = 0x1C then some 0x62000E00 else some 0)
  else if s = 7 then
    (if o = 0 then some 0x00050000 else if o = 4 then some 0x00FC0000 else if o = 0x10 then some 0x00F00000
     else if o = 0x1C then some 0x62000E00 else some 0)
  else some 0

/-- The words of a Sextant cluster page that reset by channel or are fixed (R163, R173, R188, R271). -/
def sxtReset (n o : Nat) : Option Word :=
  if 0x400 ≤ o && o < 0x640 then
    let ch := (o - 0x400) / 0x10
    let r := o % 0x10
    if r = 0 then
      match Config.chKind n ch with
      | .ref => some (pack [(2909, 16), (2851, 0)])
      | .gnd => some (pack [(16, 16), (0x10000 - 16, 0)])
      | .vdda => some (pack [(6048, 16), (5472, 0)])
      | _ => none
    else if r = 4 then
      match Config.chKind n ch with
      | .ref | .gnd | .vdda => some (pack [(1, 12), (3, 8), (8, 0)])
      | _ => none
    else if r = 8 then some (pack [(Config.aNom n ch, 16)])
    else if r = 0xC then some (pack [(Config.weightReset n ch, 0)])
    else none
  else if o = 0x820 then some (pack [(400, 16), (Config.tsens n, 0)])
  else if o = 0x74C then some (pack [(1, 0)])
  else none

/-- The operating points at reset (R241). -/
def oppReset (n : Nat) : Word :=
  match ([(120, 79), (144, 95), (168, 111), (192, 127), (208, 143), (224, 159), (240, 175), (256, 191), (280, 207), (304, 223),
      (328, 239), (352, 255)] : List (Nat × Nat))[n]? with
  | some (vid, fr) => pack [(1, 31), (fr, 10), (vid, 0)]
  | none => 0

/-- The words whose reset value a table gives in words: fixed, by kind, fuses, by rule. -/
def fixedReset (a : Nat) : Option Word :=
  let page := a / 0x1000
  let o := a % 0x1000
  if bayHome ≤ a then (if Config.bayFitted ((a - bayHome) / 0x40) then bayReset ((a - bayHome) / 0x40) (a % 0x40) else none)
  else if 0x20 ≤ page && page < 0x28 then
    (if (a - 0x20000) / 0x100 < Config.yardCount then yrdReset ((a - 0x20000) / 0x100) (a % 0x100) else none)
  else if 0x40 ≤ page && page < 0x48 then
    (if (a - 0x40000) / 0x100 < Config.yardCount then coefReset ((a % 0x100) / 0x20) (a % 0x20) else none)
  else if hasHeader page && o = 0 then some (pack [(page, 12), (if 0x51 ≤ page then page - 0x51 else 0, 0)])
  else if hasHeader page && o = 8 then
    some (pack [(if (pageRows page).any (fun r => 0xE00 ≤ r.off) then 1 else 0, 1),
      (if (pageRows page).any (fun r => 0x400 ≤ r.off && r.off < 0xE00) then 1 else 0, 0)])
  else if 0x51 ≤ page && page ≤ 0x6A then sxtReset (page - 0x51) o
  else if page = 0 then
    (if o = 0x50 then some (Config.identity.extractLsb' 0 32) else if o = 0x54 then some (Config.identity.extractLsb' 32 32)
     else if o = 0x58 then some (Config.identity.extractLsb' 64 32)
     else if o = 0x60 then some (pack [(Config.stagePhases, 24), (Config.clusterCount, 19), (Config.yardCount, 11), (Config.bayCount, 0)])
     else if o = 0x64 then some (pack [(128, 13), (Config.contexts, 6), (Config.keelMax, 0)])
     else none)
  else if page = 1 && 0x100 ≤ o && o < 0x1C0 then
    let mhz (y : Nat) : Nat := if Config.isLogic y then 1920 else (Config.ratedMhz y).toNat
    some (pack [(mhz ((o - 0x100) / 2 + 1), 16), (mhz ((o - 0x100) / 2), 0)])
  else if page = 7 && 0x50 ≤ o && o ≤ 0x58 then some 0xFFFFFFFF
  else if page = 8 && 0x80 ≤ o && o < 0x100 && o % 0x10 = 8 then some (pack [((o - 0x80) / 0x10, 4)])
  else if page = 8 && 0x400 ≤ o && o < 0x440 then
    some (pack ((List.range 8).map fun k =>
      (if (o - 0x400) * 2 + k < Config.yardCount then Config.kindCode ((o - 0x400) * 2 + k) else 0xF, 4 * k)))
  else if page = 0xA && 0x420 ≤ o && o < 0x460 then some (oppReset ((o - 0x420) / 4))
  else if page = 0xB && 0x400 ≤ o && o < 0x900 then
    let m := Config.sensorMap ((o - 0x400) / 4)
    some (pack [(m.2, 8), (m.1, 0)])
  else if page = 0xB && 0x920 ≤ o && o < 0x940 then
    some (pack [((Config.oscComp ((o - 0x920) / 2 + 1)).toNat, 16), ((Config.oscComp ((o - 0x920) / 2)).toNat, 0)])
  else if page = 0xF && 0x200 ≤ o && o < 0x380 then some (pack [(64, 25), (255, 17)])
  else if page = 0x50 && o = 0x40 then some 0x03FFFFFF
  else none

/-- The word of a home address at reset: `fixedReset` where the table gives words, else the reset values of its fields. -/
def resetWord (a : Nat) : Word :=
  match fixedReset a with
  | some w => w
  | none => pack ((fieldsAt a).map fun f => (f.rst, f.lo))

end Sys2Proof.Machine
end

