-- ==== Sys2Proof/Machine/Tab.lean ====
section
/-!
DEFINITION. Finite tables: how State holds whatever the spec numbers (registers by address, bays, yards, domains, bytes of
a memory). A table lists only the entries that differ from what an unlisted key reads as, keys strictly rising, so that
equal contents are equal data.
-/

namespace Sys2Proof.Machine

/-- A table: key and entry pairs, keys strictly rising, no entry equal to its default. -/
abbrev Tab (α : Type) := List (Nat × α)

/-- The entry at a key; `dflt k` where none is listed. -/
def Tab.get {α : Type} (dflt : Nat → α) : Tab α → Nat → α
  | [], k => dflt k
  | (j, v) :: t, k => if k = j then v else Tab.get dflt t k

/-- Insertion in key order, replacing the entry of an equal key. -/
def Tab.insert {α : Type} (k : Nat) (v : α) : Tab α → Tab α
  | [] => [(k, v)]
  | (j, w) :: t => if k < j then (k, v) :: (j, w) :: t else if k = j then (k, v) :: t else (j, w) :: Tab.insert k v t

/-- Removal of the entry at a key. -/
def Tab.erase {α : Type} (k : Nat) : Tab α → Tab α
  | [] => []
  | (j, w) :: t => if k = j then Tab.erase k t else (j, w) :: Tab.erase k t

/-- Setting an entry: an entry equal to the default is not listed. -/
def Tab.set {α : Type} [DecidableEq α] (dflt : Nat → α) (t : Tab α) (k : Nat) (v : α) : Tab α :=
  if v = dflt k then Tab.erase k t else Tab.insert k v t

/-- The canonical form: keys strictly rising, no entry equal to its default. -/
def Tab.wf {α : Type} [DecidableEq α] (dflt : Nat → α) : Tab α → Bool
  | [] => true
  | (j, v) :: t => decide (v ≠ dflt j) && t.all (fun e => decide (j < e.1)) && Tab.wf dflt t

end Sys2Proof.Machine
end

