-- ==== Sys2Proof/Machine/State.lean ====
section
/-!
DEFINITION. The state of the block, as plain data: every register of the aperture in one table, and beside it what the
engines, the bays, the ports and the pins hold that no register shows; the queue of waiting commands; the state after
reset.
-/

namespace Sys2Proof.Machine

/-- The command an engine works for (R333): window, slot, sequence. -/
structure CmdTag where
  win : Window
  slot : Nat
  seq : Word
deriving DecidableEq, Repr

/-! ### Bays (R57-R64, R76, R430, R431) -/

/-- Bay states (R59), in the order of their codes. -/
inductive BaySt where
  | absent | off | ready | run | heat | protect | fenced | connect
deriving DecidableEq, Repr

/-- Phase states (R60), in the order of their codes. -/
inductive PhSt where
  | cold | warm | active | shedPrep | tripped | failed
deriving DecidableEq, Repr

/-- A phase as the bay itself holds it. -/
structure Phase where
  /-- R60. -/
  st : PhSt := .cold
  /-- The state held before all hands (R61 rule 5). -/
  saved : PhSt := .cold
  /-- An ADD received in all hands (R61 rule 4). -/
  addStored : Bool := false
  /-- The horizon of the forecast whose floor that ADD carries out; none where another cause ordered it (R22). -/
  addUntil : Option Nat := none
  /-- Became ACTIVE in the running superframe, and in the one before it, by ADD, all-hands return or remount switch-in, and not yet
  answered by a delta (R109). -/
  fresh : Bool := false
  freshOld : Bool := false
  /-- ACTIVE for only part of the running superframe, and of the previous one (R109). -/
  part : Bool := false
  partly : Bool := false
  /-- Frozen by Oteus after the other phase failed (R110), with the target reading. -/
  frozen : Option Int := none
  /-- Order of shedding: larger is more recent (R115). -/
  shedAt : Nat := 0
  /-- Times at which TRIPPED was reported, newest first, in half nanoseconds (R63). -/
  trips : List Nat := []
  /-- The 2-bit delta the last sharing job computed for the next superframe (R109). -/
  delta : BitVec 2 := 0
deriving DecidableEq, Repr

/-- A SETPOINT word stored in all hands (R61 rule 4): code and slew code, and of a code with a pre-raise the horizon of its forecast and
the code without it (R22). -/
structure StoredSet where
  code : Nat
  slew : Nat
  raise : Option (Nat × Nat) := none
deriving DecidableEq, Repr

/-- A bay as it stands on the die: what its register view (BAY record) shows only after an event or a read. -/
structure Bay where
  /-- R59. -/
  st : BaySt := .off
  p0 : Phase := {}
  p1 : Phase := {}
  /-- Bay registers 2 and 3: window width W and droop threshold (R68). -/
  win : Nat := 4
  th : Nat := 24
  /-- Fail kind it reports (R64), 0 none. -/
  failKind : Nat := 0
  /-- The readings of its phases in the superframe in which it declared one FAILED, 20 mA, phase 0 first; that superframe still runs
  (R110). -/
  failRead : Option (Int × Int) := none
  failOpen : Bool := false
  /-- Its droop comparator is tripped (R61 rules 1, 2); anchors only. -/
  compTripped : Bool := false
  /-- In all hands (R61 rule 3). -/
  allHands : Bool := false
  /-- TRIM, SETPOINT and PRESET words stored during all hands (R61 rule 4), a preset with its horizon (R22). -/
  storedTrim : Option (BitVec 12) := none
  storedSet : Option StoredSet := none
  storedPre : Option (Nat × Option Nat) := none
  /-- The yard whose index it holds: its own, or the one a remount joined; 127 none (R76). -/
  yard : Nat := 127
  /-- Target and slew code of the last SETPOINT word, and the time from which BAY_REF's code slews to it, half nanoseconds
  (R73). -/
  target : Nat := 0
  slew : Nat := 5
  slewAt : Nat := 0
  /-- Codes by which a soft-start still lies below 0.400 V at that time (R223). -/
  lead : Nat := 0
  /-- A soft-start runs (R223 step 2). -/
  softStart : Bool := false
  /-- Bay register 1: sticky events (R68), coded as BAY_EVT. -/
  events : BitVec 8 := 0
  /-- Events that occurred since its last EVENT word (R71), coded as BAY_EVT. -/
  unsent : BitVec 8 := 0
  /-- A CFG_RD response waiting for its event slot (R71): the register read. -/
  answer : Option Nat := none
  /-- Bay register 6: drive-delay equalisation (R68, R360). -/
  equal : Nat := 0
  /-- CRC-16 of the SYNC word of this superframe; none if SYNC was missed (R68, R72). -/
  syncCrc : Option (BitVec 16) := none
  /-- Consecutive missed SYNC words (R72). -/
  missed : Nat := 0
  /-- Holding course after four misses (R72). -/
  holding : Bool := false
  /-- State and phase states before PROTECT (R62). -/
  prior : BaySt := .off
  prior0 : PhSt := .cold
  prior1 : PhSt := .cold
  /-- Step reached of a switch-in (R76), 0-4, and the yard it joins. -/
  connStep : Nat := 0
  connTo : Nat := 127
  /-- Oteus reads bay register 0 to recover an EVENT word whose CRC was wrong (R71). -/
  recover : Bool := false
  /-- Sum, in 20 mA codes, and number of the reports of the running 1 ms average (R109, BAY_IAVG). -/
  iSum : Int := 0
  iCnt : Nat := 0
  /-- WORN and kept in RUN without a spare (R213). -/
  nospare : Bool := false
  /-- Step of a DISCONNECT next due (R76), 0 none, 1 to 4; and the state it ends in. -/
  discStep : Nat := 0
  discTo : BaySt := .off
  /-- Heating level L (R278) and the order of entry into HEAT, larger is later (R279). -/
  heat : Nat := 0
  heatAt : Nat := 0
  /-- The bay does not answer on the bus (R360). -/
  silent : Bool := false
  /-- Consecutive superframes whose report failed parity (R64). -/
  parityRun : Nat := 0
  /-- The sharing job of the running superframe has run (R92, R109). -/
  shared : Bool := false
  /-- The remount's yard assigned while that yard was in D3 or D4 (R76). -/
  assigned : Option Nat := none
  /-- Fenced for failure, as the farrier record lists it (R214, R431). -/
  failFenced : Bool := false
  /-- Substituted by the farrier, as the record lists it (R212, R215). -/
  substituted : Bool := false
  /-- Released into a running yard: READY goes at the next superframe boundary (R431); READY has gone, RUN is due. -/
  releasing : Bool := false
  released : Bool := false
  /-- Loss baseline, mW, and share-offset baselines (R206, R215). -/
  lossBase : Nat := 0
  ofsBase0 : Int := 0
  ofsBase1 : Int := 0
  /-- Sum and count of share offsets in superframes inside the dead band, per phase (R204). -/
  ofsSum0 : Int := 0
  ofsSum1 : Int := 0
  ofsCnt0 : Nat := 0
  ofsCnt1 : Nat := 0
  /-- Dissipation the loss probe last measured, mW (R204). -/
  lossMw : Option Nat := none
  /-- Time and level of the last loss probe (R204). -/
  probed : Option (Nat × Nat) := none
  /-- Tags of the REMOUNT commands it carries out (R333). -/
  cmdTags : List CmdTag := []
deriving DecidableEq, Repr

/-! ### Yards: loop, phase count, notices, forecasts, supervision, caps (ch. 4-8, 10) -/

/-- The coalescer (R130). -/
inductive Coal where
  | idle | gather | cool
deriving DecidableEq, Repr

/-- A notice held in a coalescer's set: the notice, its effective time, its order of acceptance, internal (R131, R132). -/
structure SetNotice where
  n : Notice
  eff : Nat
  order : Nat
  internal : Bool
deriving DecidableEq, Repr

/-- A job of Tiller waiting or in flight for a yard (R80, R86, R97). -/
inductive Job where
  | law (e : Int)
  /-- `h` none: H is the last trim, as it stands when the job runs. `top`: H comes from a power-up or from all hands, which rank
  above a late or discarded job (R98). -/
  | hold (h : Option Int) (top : Bool)
deriving DecidableEq, Repr

/-- What the sampling instant decided for the sample being taken (R98, R99, R432). -/
inductive Plan where
  | none
  | law
  | hold (h : Option Int) (top : Bool)
  | hand (t : Int)
deriving DecidableEq, Repr

/-- A supervision order under R199. -/
inductive SupOrder where
  | set7 | hand
deriving DecidableEq, Repr

/-- The presets in force on a yard (R147-R149). -/
structure Presets where
  floor : Nat := 0
  prebias : Nat := 0
  raise : Nat := 0
deriving DecidableEq, Repr

/-- A forecast (R146-R149): its outputs, its horizon, the time its inputs were formed and the time its presets apply
(system time, ns), the presets computed from it at completion. -/
structure Forecast where
  f : List Int
  horizon : Nat
  inputsAt : Nat
  apply : Nat
  p : Presets
  /-- i_y and LIMIT of the report that contains the +2 µs point, 20 mA, where it came before the forecast was applied (R151). -/
  i2 : Option (Int × Nat) := none
deriving DecidableEq, Repr

/-- An inference due or in flight (R23, R130, R145): the yard, its source values, the horizon if a notice governs, the time
its inputs were formed, the order of its earliest notice; the slot, frame and outputs once it is dispatched. -/
structure Inference where
  yard : Nat
  sources : List Int
  horizon : Option Nat
  inputsAt : Nat
  order : Nat
  slot : Nat
  frame : Nat
  outs : List Int
  /-- Commits of slots before its dispatch (R133). -/
  commits : Nat := 0
deriving DecidableEq, Repr

/-- An attribution interval (R259): owner (64 none) and job of the owner, length in µs, the 1 ms period it lies in, the sums
its sources are formed from over n ticks (R258), the hottest sensor at its close, and whether it was merged. -/
structure Interval where
  owner : Nat := 64
  job : Option Nat := none
  us : Nat := 0
  period : Nat := 0
  counts : List Nat := []
  temp : Int := 0
  vidSum : Nat := 0
  rateSum : Nat := 0
  phSum : Nat := 0
  n : Nat := 0
  merged : Bool := false
  /-- Order of closing, for the run order (R259). -/
  order : Nat := 0
deriving DecidableEq, Repr

/-- An interval the energy model has run on (R258, R260): the estimates of outputs 0-3, in 10 nJ. -/
structure Estimate where
  yard : Nat
  owner : Nat
  job : Option Nat
  us : Nat
  period : Nat
  g : List Nat
  merged : Bool
deriving DecidableEq, Repr

/-- A request for a yard's operating point and issue rate (R120, R121). -/
structure SpeedReq where
  yard : Nat
  fratio : Nat
  thr : Nat
  /-- VID of the point; none where the order changes only the issue rate. -/
  vid : Option Nat
  /-- The order lowers frequency or issue rate, and goes first (R121). -/
  lowers : Bool
  /-- Time at which it was asked for, half nanoseconds: of the others, the oldest goes first (R121). -/
  at_ : Nat := 0
deriving DecidableEq, Repr

/-- A raise, with the point's VID, waiting for the error check of R120. -/
structure VfWait where
  fratio : Nat
  thr : Nat
  vid : Option Nat
  /-- Time from which the error check applies: slew and settle have passed (R120), half nanoseconds; none while the SETPOINT of the
  raise is withheld. -/
  readyAt : Option Nat
  /-- Time at which the raise was asked for (R121). -/
  at_ : Nat := 0
deriving DecidableEq, Repr

/-- The wait of R214 for a yard below its minimum. -/
inductive BelowMin where
  | none | waiting | poweringDown
deriving DecidableEq, Repr

/-- Per-point supervision and path-impedance state of a sense point (R193-R202). -/
structure Point where
  /-- Latest corrected loop value v_p (R160, R166). -/
  v : Int := 0
  /-- Expected drop D_p (R192). -/
  d : Int := 0
  /-- Residual r_p of the last sample (R193). -/
  r : Int := 0
  /-- Consecutive samples outside the band (R195), and inside it (R197). -/
  outRun : Nat := 0
  inRun : Nat := 0
  /-- Times marked suspect in this power cycle (R197). -/
  marks : Nat := 0
  /-- Accumulators of a Zpath window (R192, R200): samples that count, Σi, Σi², Σd and Σd·i. -/
  n : Nat := 0
  si : Int := 0
  sii : Int := 0
  sd : Int := 0
  sdi : Int := 0
  /-- An accepted window has been seen since power-on (R200). -/
  seen : Bool := false
  /-- Step pending: accepted windows and 10 ms windows since it began (R202). -/
  step : Option (Nat × Nat) := none
  /-- Baseline being formed after a change of RUN_BAYS: windows still wanted and their sum (R201). -/
  base : Option (Nat × Int) := none
deriving DecidableEq, Repr

/-- A yard as the engines hold it, beside its YRD record. -/
structure Yard where
  /-- Histories of the control law, steps × 2^20 (R85, R86). -/
  s1 : Int := 0
  s2 : Int := 0
  s3 : Int := 0
  /-- Error queued for Tiller and not dispatched (R93, R96). -/
  err : Option Int := none
  /-- Last two errors, for the oscillation detector (R198). -/
  e1 : Int := 0
  e2 : Int := 0
  /-- Job queued, and job in flight (R81, R82); the hold value of a hold period. -/
  queued : Option Job := none
  flying : Option Job := none
  /-- A keel yard's output register: trims and the instants of their hand-over, half nanoseconds (R94). -/
  out : List (Int × Nat) := []
  /-- What the last sampling instant decided; v_set, v_bay (R83, R193) at it; v_fb of the last sample. -/
  plan : Plan := .none
  vset : Int := 0
  vbay : Int := 0
  vfb : Int := 0
  /-- Time the error of the queued job was queued, half nanoseconds, and the set of its sampling instant; the queued job is a late
  or discarded one's hold period (R95); those of the job in flight; the next sample's job where one waits behind them (R82). -/
  qAt : Nat := 0
  qSet : Nat := 0
  late : Bool := false
  flyAt : Nat := 0
  flySet : Nat := 0
  next : Option (Job × Nat × Nat) := none
  /-- The 240 ns period in which the yard's last supervision job ran (R192). -/
  supAt : Option Nat := none
  /-- Lane of the job in flight (R91). -/
  lane : Nat := 0
  /-- From the soft-start until regulator ready hold periods run with H = 0 (R223). -/
  hSoft : Bool := false
  /-- Last trim before the TRIP report (R98). -/
  preTrip : Int := 0
  /-- Time of the last TRIP report (R118), half nanoseconds. -/
  tripAt : Nat := 0
  /-- Supervision order waiting for the next instant (R100, R199). -/
  supOrder : Option SupOrder := none
  /-- The yard had no feedback point at its last sampling instant (R84). -/
  noFb : Bool := false
  /-- Oscillation detector (R198, R199): side last crossed (0 none), crossing times newest first, time of the last event. -/
  oscSide : Int := 0
  crossings : List Nat := []
  oscLast : Option Nat := none
  /-- Sense points (R193-R202). -/
  pts : List Point := [{}, {}, {}, {}]
  /-- Corrected loop values of the sample that Sextant has yet to deliver, by sense point (R160). -/
  got : List (Nat × Int) := []
  /-- Plausibility paused by a model fault (R195). -/
  plausPaused : Bool := false
  /-- End of the last blanking cause (R194), half nanoseconds. -/
  blankFrom : Nat := 0
  /-- YRD_STATUS.RUN_BAYS at the last sampling instant (R194, R201). -/
  lastRun : Nat := 0
  /-- RUN_BAYS changed within the window (R201); T at the last window, 1/16 °C. -/
  runChanged : Bool := false
  zT : Int := 400
  /-- Product 10 accumulated, in units of 0.3125 mV × 20 mA: sum and count of this cap-loop period, and the sum of each 1 ms
  period not settled (R192, R245, R260). -/
  pSum : Int := 0
  pCnt : Nat := 0
  oSum : Tab Int := []
  /-- i_y of the last superframe, of the one before, the peak since the last 10 µs evaluation and the sums of the last
  1 ms in 10 µs parts (R109, R244). -/
  iy : Int := 0
  iyPeak : Int := 0
  /-- The largest excess over a threshold that the yard-current layer found in this cap-loop period, 20 mA; none within (R250). -/
  perOver : Option Int := none
  iyParts : List (Int × Nat) := []
  iyPart : Int × Nat := (0, 0)
  /-- Dwell count (R113); it restarts in a superframe that has not begun (R111, R113). -/
  low : Nat := 0
  dwellHold : Bool := false
  /-- Trip hold running (R114). -/
  tripHold : Bool := false
  /-- Neighbours whose deferred wake holds this yard's phases (R123). -/
  nbrHold : List Nat := []
  /-- Hold floor of the maintenance state (R184). -/
  maintHold : Bool := false
  /-- dre_floor and the presets in force, the forecast applied last with its presets, those waiting for their application
  time, those held under R150. -/
  presets : Presets := {}
  cur : Option Forecast := none
  waiting : List Forecast := []
  held : List Forecast := []
  /-- Coalescer and its sets (R130, R131). -/
  coal : Coal := .idle
  gathered : List SetNotice := []
  pendingSet : List SetNotice := []
  /-- Time of the previous inference, half nanoseconds, and its +1 µs forecast (R133). -/
  lastInfer : Option Nat := none
  prev1us : Int := 0
  /-- Commits of slots before the inference that gave that forecast (R133). -/
  prevCommits : Nat := 0
  /-- The +2 µs samples wanted (R151): time and F2; and the time of the last applied forecast, half nanoseconds. -/
  errAt : List (Nat × Int) := []
  applied : Option Nat := none
  /-- Activity (R37): the record in use, the record complete in this tick interval; the interval began before a scrub
  (R410). -/
  counts : List Nat := []
  stage : Option (List Nat) := none
  stageOld : Bool := false
  /-- Ownership changes waiting for their effective time: time, kind code, context (R257). -/
  ownPend : List (Nat × Nat × Nat) := []
  /-- Attribution (R259): the open interval and the time it began, closed intervals, estimate and length of the last run. -/
  open_ : Interval := {}
  openAt : Nat := 0
  closed : List Interval := []
  lastG : List Nat := []
  lastUs : Nat := 0
  /-- The maintenance state (R184): saved mode; a request waits for the next instant. -/
  savedMode : Bool := false
  /-- The MAINT commands that end when SXT_MAINT_NOW shows their change (R328). -/
  maintTags : List CmdTag := []
  /-- The below-minimum wait, and the bays in RUN when it ended (R214). -/
  belowMin : BelowMin := .none
  fenceRun : Nat := 0
  /-- Voltage and frequency (R39, R120): frequency unknown, with the code below which its set-point does not go; a SETPOINT and
  a PRESET withheld (R39, R61); the request that waits for the yard's order in flight (R121); the order placed last. -/
  fUnknown : Bool := false
  vidHold : Nat := 0
  setHeld : Bool := false
  preHeld : Bool := false
  /-- The trim withheld in all hands (R61). -/
  trimHeld : Option Int := none
  speedNext : Option SpeedReq := none
  lastOrder : Option SpeedReq := none
  vfWait : Option VfWait := none
  /-- The point in force and what the layers ask of the yard (R242-R249): issue-rate steps imposed by the yard-current, the
  rail-current and the overload layer; thermal wait since the last rise. -/
  fratio : Nat := 127
  thr : Nat := 7
  point : Nat := 3
  curSteps : Nat := 0
  railSteps : Nat := 0
  tightened : Bool := false
  over90 : Bool := false
  rungWait : Nat := 0
  /-- Retention code in force in D2 and D3 (R221). -/
  retained : Bool := false
  /-- Farrier: f0; sum, scaled by 2^46, and count of f_n over the plan period, mean f_n of the last one; least replica margin
  seen (R204, R206, R209); what a plan found. -/
  f0 : Nat := 0
  fnSum : Int := 0
  fnCnt : Nat := 0
  fnMean : Option Nat := none
  rpl : Option Nat := none
  planFloor : Nat := 0
  planFmax : Nat := 255
  planLow : Bool := false
  /-- Floor raised while the yard cannot take it yet (R210 step 3). -/
  floorWait : Bool := false
  /-- Time from which i_y has stayed below 10 % of LIMIT (R204). -/
  quietAt : Option Nat := none
  /-- Warming (R280): the use that heats the yard, 0 none, 1 proof, 2 cold start, 3 preconditioning, 4 station, 5 probe. -/
  warmUse : Nat := 0
  warmLevel : Nat := 0
  /-- Sensor proof and preconditioning (R280): time held on target in 100 µs steps, steps since the start. -/
  warmHeld : Nat := 0
  warmSteps : Nat := 0
  /-- Preconditioning has reached its target (R280); HEAT was ended under R279 and not entered again. -/
  warmMet : Bool := false
  heatExit : Bool := false
  /-- No re-entry into HEAT until the trip hold ends (R279). -/
  warmBlocked : Bool := false
  /-- The yard is blind (R273): raised once when it becomes so. -/
  blind : Bool := false
  /-- Since the last yard summaries: sum and number of i_y, 20 mA; all hands seen; keel misses (R345). -/
  repI : Int := 0
  repN : Nat := 0
  repHands : Bool := false
  repMiss : Nat := 0
deriving DecidableEq, Repr

/-! ### Domains (ch. 9) -/

/-- Sources of a state order, in rising rank (R231). -/
inductive OrderSrc where
  | wakePin | user | dbg | kernReg | kernCmd | mgmt | oteus
deriving DecidableEq, Repr

/-- Where a domain stands in a wake (R223), a power-down (R227), or the undoing of one (R224). -/
inductive DomStep where
  | stable
  | waitSuper        -- wake from D4, step 1 not yet passed
  | bias             -- wake from D4, 2 µs of driver bias
  | ramp             -- ramp running
  | regulator        -- ramp ended, waiting for regulator ready
  | oscillator | warming | memory | logic | isolation
  | retain           -- from D3 to D2: RET raised as the logic signal
  | biasSettle       -- wake from D2 or D3, bias settling
  | dnIso | dnSave | dnReset | dnOsc | dnMem | dnRamp
deriving DecidableEq, Repr

/-- The order in force on a domain (R231). -/
structure DomOrder where
  target : Nat
  src : OrderSrc
  acceptedAt : Nat
  forced : Bool
  /-- Placed through PWS_REQ, so that PWS_REQ_RES reports it; or by a command. -/
  byReg : Bool
  tag : Option CmdTag
  /-- The ABORT commands that wait for its end (R330). -/
  aborters : List CmdTag
deriving DecidableEq, Repr

/-- What the yard's voltage is, or is on its way to, as the sequencer left it (R219, R223, R227): none, code 40, the retention
code, VIDeff. -/
inductive Vmode where
  | off | low | ret | full
deriving DecidableEq, Repr

/-- A domain's pins and sequencer (R220, R223-R236). -/
structure Dom where
  /-- Levels of OT_DOM_RET, RST_N, OSC_EN and MEM_EN, and of ISO_ACK, OSC_RDY, MEM_RDY, LOGIC_RDY and the wake input (R220). -/
  ret : Bool := false
  rstN : Bool := false
  oscEn : Bool := false
  memEn : Bool := false
  isoAck : Bool := true
  oscRdy : Bool := false
  memRdy : Bool := false
  logicRdy : Bool := false
  wakePin : Bool := false
  /-- Step of the sequence the domain stands at (R223, R227). -/
  step : DomStep := .stable
  /-- The state the transition started from (R224). -/
  from_ : Nat := 4
  /-- The order in force (R231). -/
  order : Option DomOrder := none
  /-- Which set-point the domain's bays follow: none, the last ramp down, retention or VIDeff (R221, R223, R227). -/
  volt : Vmode := .off
  /-- Regulator ready has been passed (R223 step 4). -/
  reg : Bool := false
  /-- The transition serves a wake, to be recorded (R236). -/
  wake : Bool := false
  /-- Waits are never longer than a budget: a forced power-down, or the way back after a budget ran out (R224). -/
  forced : Bool := false
  /-- The order is to stop at its next step (R330). -/
  halt : Bool := false
  /-- The wake is deferred by busy neighbours (R123); its warming hold has ended (R234). -/
  deferred : Bool := false
  warmed : Bool := false
  /-- Time of the first busy check and of the end of the deferral (R123), of the ramp's end (R223), half nanoseconds. -/
  busyAt : Option Nat := none
  deferEnd : Option Nat := none
  rampEnd : Nat := 0
  /-- Time by which the bound of this wake is extended, half nanoseconds (R225). -/
  ext : Nat := 0
  /-- Was in D0-D3 when the block reset began (R364). -/
  rewake : Bool := false
  /-- Time of the start of a cold-start warming (R281). -/
  warmFrom : Nat := 0
deriving DecidableEq, Repr

/-! ### Sextant (ch. 7) -/

/-- An urgent request (R164, R165). -/
inductive Urg where
  | none
  | waiting (ch : Nat) (at_ : Nat)
  | running (ch : Nat) (slice : Nat) (wait : Nat) (at_ : Nat)
deriving DecidableEq, Repr

/-- A stream engine (R174-R183). -/
structure Stream where
  /-- Samples written; index of the sample from which COUNT counts, none before the trigger; the command that started it. -/
  written : Nat := 0
  trigAt : Option Nat := none
  tag : Option CmdTag := none
  /-- Samples gathered and not yet written (R175-R177); samples taken, the dropped ones among them; time of GO, half nanoseconds;
  CLK_X edges since GO, and the time to which they are counted (R174); index of the trigger sample once its event is registered
  (R183). -/
  gathered : List (BitVec 16) := []
  taken : Nat := 0
  goAt : Nat := 0
  edges : Nat := 0
  edgeAt : Nat := 0
  seen : Option Nat := none
  /-- Time of the last sample up to COUNT, half nanoseconds (R176). -/
  lastAt : Nat := 0
deriving DecidableEq, Repr

/-- GND and REF conversions credited to a slice in the in-line form: the sums of 16c and how many of each (R169). -/
structure Credited where
  gnd : Int := 0
  gndN : Nat := 0
  ref : Int := 0
  refN : Nat := 0
deriving DecidableEq, Repr

/-- A cluster. -/
structure Cluster where
  /-- Scan credits (R162), persistence counts of the window comparators (R172), the urgent request (R164), the stream engines
  (R174). -/
  credit : List Int := List.replicate 36 0
  persist : List (Nat × Nat) := List.replicate 36 (0, 0)
  /-- Channels booked for loop samples, in the order of their slots (R160); slice of each active position (R159, R167); a slice's
  conversion in flight, its channel and whether it is a loop sample, none where it has yet to be chosen; slices by the start of
  their conversions, the latest last (R164). -/
  booked : List Nat := []
  seats : List Nat := [0, 1, 2, 3]
  flight : List (Option (Nat × Bool)) := List.replicate 5 none
  order : List Nat := []
  urg : Urg := .none
  ss0 : Stream := {}
  ss1 : Stream := {}
  /-- Sum and count of TEMP conversions in the running 100 µs; a full mean has been made (R171). -/
  tSum : Int := 0
  tCnt : Nat := 0
  tSeen : Bool := false
  tOpen : Bool := false
  /-- Since when T has differed from the sensor's reading by more than 6 °C, half nanoseconds (R171). -/
  tOff : Option Nat := none
  /-- Slots that the running calibration turn has had up to a time, half nanoseconds (R167); what the in-line form has credited to each
  slice (R169). -/
  turnSlots : Nat := 0
  turnAt : Nat := 0
  credited : List Credited := List.replicate 5 {}
  /-- A capture (R181): conversions of the fifth slice in the running group of eight, its two for the estimator not counted; groups done;
  groups since the fifth slice's last update; shadow pairs of each capture slice since its last adjustment. -/
  groupConv : Nat := 0
  groups : Nat := 0
  refGroups : Nat := 0
  pairs : List Nat := List.replicate 5 0
  /-- System calibration (R186): channel connected, means u0 and u1 so far, new coefficients. -/
  calCh : Nat := 0
  calU0 : List Int := []
  calU1 : List Int := []
  calTag : Option CmdTag := none
  /-- The next calibration turn measures the second bandgap (R204); the baseline of its ratio to REF, as the two sums. -/
  refTurn : Bool := false
  refBase : Option (Nat × Nat) := none
  /-- The sums of the last such turn, and those for which a(k) stands corrected (R204). -/
  refLast : Option (Nat × Nat) := none
  refUsed : Option (Nat × Nat) := none
deriving DecidableEq, Repr

/-! ### Board stages (ch. 12) -/

/-- A package rail's controller. -/
structure Rail where
  /-- V_ref in 0.3125 mV steps at a time, half nanoseconds, from which it moves by its rates (R290, R293, R295, R296); CODE at
  the start of its ramp; PKG_B ramps by itself, not tracking (R297). -/
  vref : Nat := 0
  vAt : Nat := 0
  rampCode : Nat := 0
  alone : Bool := false
  /-- Phase fired last, and the time of it (R290). -/
  lastPhase : Nat := 29
  fireAt : Option Nat := none
  /-- Braking, R299. -/
  braking : Bool := false
  /-- The rail was ON when the intermediate bus failed (R304). -/
  wasOn : Bool := false
  /-- Time overload was first detected, and time from which there has been none (R300). -/
  ovlSince : Option Nat := none
  ovlLast : Nat := 0
  /-- Rail energy of each 1 ms period not settled, in 0.3125 mV × 1/16 A × superframes, and the dissipation of its bays in
  HEAT, in mW × superframes (R260). -/
  eSum : Tab Int := []
  hSum : Tab Int := []
  /-- Rail energy of the periods measured outside way-on service (R266). -/
  uSum : Tab Int := []
  /-- The rail-current layer: it tightened at the last evaluation; above RELEASE percent since the last boundary (R244). -/
  tightened : Bool := false
  over90 : Bool := false
  /-- The largest excess over the rail limit found in this cap-loop period, 1/16 A; none within it (R250). -/
  perOver : Option Int := none
  /-- Efficiency balance (R204): product 10 of the rail's yards and rail energy since a time; efficiencies of the seconds of the plan
  period, 0.01 %, their sum and number; the mean of the last plan period. -/
  effOut : Int := 0
  effIn : Int := 0
  effFrom : Nat := 0
  effSum : Int := 0
  effCnt : Nat := 0
  effMean : Option Int := none
deriving DecidableEq, Repr

/-- A board phase. -/
structure BPhase where
  /-- A pulse is in progress, its on-time in CLK_S cycles, a trip in it (R290, R298), and the time of its end. -/
  pulse : Bool := false
  ton : Nat := 0
  tripped : Bool := false
  offAt : Option Nat := none
  scRun : Nat := 0
  /-- IMON sums, 1/16 A, for BAL_UPDATE (R291) and for the overload window (R300). -/
  iSum : Int := 0
  iCnt : Nat := 0
  oSum : Int := 0
  oCnt : Nat := 0
  /-- Consecutive TMON conversions at or above warning, shutdown, and below 100 °C (R302). -/
  hot110 : Nat := 0
  hot130 : Nat := 0
  cool100 : Nat := 0
  /-- High impedance until its next fire: braked to zero, or below −40 A (R292 rank 3, R299). -/
  floating : Bool := false
deriving DecidableEq, Repr

/-! ### Ports, commands, telemetry (ch. 2, 13) -/

/-- State of a journal entry (R332). -/
inductive JState where
  | refused | accepted | started (step : Nat) | final
deriving DecidableEq, Repr

/-- A journal entry (R332). The 64-byte command stands in the slot words. -/
structure Entry where
  win : Window
  slot : Nat
  seq : Word
  opcode : Nat
  flags : Byte
  tag : Word
  ops : List (BitVec 64)
  state : JState
  status : Nat
  result : Word
  at_ : Nat
  recSent : Bool
  /-- An ABORT came too late: the command ends DONE with ABORT_LATE (R330). -/
  late : Bool
deriving DecidableEq, Repr

/-- What the management port's last private write left (R320). -/
inductive MpResult where
  | none | malformed
  /-- A request not yet performed: the bytes of its private write. -/
  | pending (bytes : List Byte)
  /-- Its status byte and the data bytes of a read. -/
  | done (status : Nat) (data : List Byte)
deriving DecidableEq, Repr

/-- A response of the register port (R36): tag, OT_RP_RSP, and the data of a read that was performed. -/
structure RpRsp where
  tag : BitVec 4
  rsp : Nat
  data : Option (BitVec 64)
deriving DecidableEq, Repr

/-- A register-port request outstanding: tag, slow target (R318; none: a fast one), and the time of its response, half
nanoseconds. -/
structure RpReqOut where
  tag : BitVec 4
  slow : Option Nat
  due : Nat
deriving DecidableEq, Repr

/-- A telemetry record staged on a stream (R341-R346): its bytes, the context it belongs to, and the journal entry to
mark when a completion record is written. -/
structure Rec where
  bytes : List Byte
  ctx : Option Nat
  entry : Option CmdTag
deriving DecidableEq, Repr

/-- A telemetry stream (R338-R341). -/
structure Tdm where
  staged : List Rec := []
  /-- Descriptors fetched: address and content; the first is the one in use. -/
  desc : List (Nat × Descriptor) := []
  /-- Bytes used of the buffer in use, and whether its descriptor passed the second look (R340). -/
  used : Nat := 0
  checked : Bool := false
  /-- Records lost since the last record written (R346), and LOST to be set on the next. -/
  lost : Nat := 0
  /-- STOP has been written and the buffer in use is not closed yet (R338). -/
  stopping : Bool := false
  /-- Address the next fetch reads, 0 none; address of the descriptor that ended the chain; a waiting stream reads again. -/
  next : Nat := 0
  last : Nat := 0
  polling : Bool := false
  /-- The buffer in use was in use when ACTIVE rose, with the number of records staged before the rise (R409). -/
  before : Nat := 0
  /-- Bytes 24-31 that Oteus wrote last, into the descriptor of the buffer it closed (R339). -/
  wrote : List Byte := []
deriving DecidableEq, Repr

/-- A pending epoch (R251-R253). -/
structure Epoch where
  type : Nat
  number : Nat
  time : Nat
  ctx : Nat
  value : Nat
deriving DecidableEq, Repr

/-- A collective (R129): context, tag, the time it opens, the time it closes if announced, and the elapsed time at which it
opened (R255). -/
structure Coll where
  ctx : Nat
  tag : Nat
  opens : Nat
  closes : Option Nat
  openedAt : Nat
deriving DecidableEq, Repr

/-- A deferred cap value (R254). -/
structure Deferral where
  value : Nat
  since : Nat
deriving DecidableEq, Repr

/-- A job (R261-R263): open, or ended and not yet recorded. -/
structure JobState where
  id : Nat
  ctx : Nat
  tag : Nat
  isOpen : Bool := true
  begin_ : Nat
  end_ : Nat := 0
  e : Nat := 0
  ePriv : Nat := 0
  eShared : Nat := 0
  peak : Nat := 0
  merged : Bool := false
  unmet : Bool := false
  noattr : Bool := false
  station : Bool := true
  /-- The context was confidential when the job ended (R263). -/
  conf : Bool := false
deriving DecidableEq, Repr

/-- A context's cap state (R248): rung, periods since it last tightened, the cap in force (0 none), its power of the last
period and its share of shared yards, mW, its deferral; the remainder below 1 J it carries while confidential (R263). -/
structure Ctx where
  rung : Nat := 0
  since : Nat := 0
  cap : Nat := 0
  power : Nat := 0
  shared : Nat := 0
  defer : Option Deferral := none
  carry : Nat := 0
deriving DecidableEq, Repr

/-- An episode of CAP_UNMET (R250): consecutive periods unmet, consecutive periods met, reported. -/
structure Episode where
  unmet : Nat := 0
  met : Nat := 0
  reported : Bool := false
deriving DecidableEq, Repr

/-- The device cap loop (R245-R250): device power of the last 100 periods, newest first, mW; periods since it last tightened; the
deferrals of the cap and of the mode; the source of the cap in force, as CAP_UNMET codes it; the words that registers CAP_OPP written
since the last boundary had there (R241); the last period settled (R260). -/
structure CapLoop where
  history : List Nat := []
  since : Nat := 0
  defer : Option Deferral := none
  modePending : Option Deferral := none
  src : Nat := 1
  oppOld : List (Nat × Word) := []
  settled : Option Nat := none
deriving DecidableEq, Repr

/-- A fault raising handed to the logbook (R389): one staged record. -/
structure LogRec where
  code : Nat
  sev : Nat
  flags : Nat
  src : Nat
  secs : Nat
  p : List Nat
  /-- Staged over an injected check error: true a double one (R383, R384). -/
  err : Option Bool
deriving DecidableEq, Repr

/-- Suppressed records of a code (R393). -/
structure Supp where
  count : Nat
  first : Nat
  last : Nat
deriving DecidableEq, Repr

/-- An operation of the flash port that has not ended: its requester, and the bytes that its rights were judged by (R369). -/
inductive FlashOp where
  | none
  | fls (op : Nat) (q : Requester) (at_ len : Nat)
deriving DecidableEq, Repr

/-- The outcome of a command that an engine keeps until it is read (R333). -/
structure HeldEnd where
  tag : CmdTag
  code : Nat
  detail : Nat
  result : Word
  late : Bool
deriving DecidableEq, Repr

/-- A scrub waiting or running (R410): yard, or 127 for a job or staging scrub; the context; when it was asked for; it ends
the clearing of the context's SEC_CONF bit (R404). -/
structure ScrubReq where
  yard : Nat
  ctx : Nat
  at_ : Nat
  clear : Bool
deriving DecidableEq, Repr

/-- A word sent on a downstream lane and not yet decoded on its segment (R67); `share` marks a sharing word, which the bays
take by its place after SYNC and which no field decodes (R68). -/
structure Sent where
  seg : Nat
  word : Word
  share : Bool := false
deriving DecidableEq, Repr

/-- A speed order on the port (R39). -/
structure InFlight where
  req : SpeedReq
  again : Bool
deriving DecidableEq, Repr

/-- What the farrier does (R208-R210, R331): a plan computed, its record written, applied; or a FAR_RECORD command's record
written: yard, CLEAR_DERATE, and the FLOOR and FMAX of REBASE. -/
inductive FarAct where
  | idle | planning | writing | applying
  | byCommand (yard : Nat) (clear : Bool) (base : Option (Nat × Nat))
deriving DecidableEq, Repr

/-- A bundle load in progress (R142): slot, source, address, requester, and the command it serves. -/
structure Load where
  slot : Nat
  src : Nat
  addr : Nat
  tag : Option CmdTag
deriving DecidableEq, Repr

set_option maxRecDepth 2000 in
/-- The state of the block. -/
structure State where
  /-- The commands waiting, first in, first out. -/
  pending : List Instr := []
  /-- Every register word of the aperture that differs from its reset value (R415-R427). -/
  regs : Tab Word := []
  bays : Tab Bay := []
  yards : Tab Yard := []
  doms : Tab Dom := []
  clusters : Tab Cluster := []
  rails : Tab Rail := []
  phases : Tab BPhase := []
  ctxs : Tab Ctx := []
  tdm : Tab Tdm := []
  /-- Memories and flash, by byte: flash (R356), model store frames (R138), capture RAM (R178). -/
  flash : Tab Byte := []
  store : Tab Byte := []
  capram : Tab Byte := []
  /-- Read latches of R423, by port code × 2^22 + home address of _HI. -/
  latches : Tab (Option Word) := []
  /-- Elapsed time, half nanoseconds; system time (R38), ns; half a step of the PLL rate is owed. -/
  mono : Nat := 0
  sysTime : Nat := 0
  sysHalf : Bool := false
  /-- Pin OT_TB_VALID; it has been high since reset; a load has replaced the count of a power-on reset (R38, R245). -/
  tbValid : Bool := false
  tbSeen : Bool := false
  tbLoaded : Bool := false
  /-- The PLL holds lock; R26 holds the clocks on the backup oscillator. -/
  r26 : Bool := false
  /-- Time of step 0 of the start (R352, GLB_START_MS). -/
  startAt : Nat := 0
  /-- Time at which the PLL's present lock began (R363), and from which the quiet period counts (R382). -/
  lockAt : Nat := 0
  quietFrom : Nat := 0
  /-- Start-up: roll-call done; version of the verified image (R366); the board record was missing or bad, so Oteus starts no
  rail (R288); class F sources that assert (R381). -/
  rollCalled : Bool := false
  image : Option Nat := none
  noRecord : Bool := false
  /-- The boot header and the firmware image as the start reads them from flash; the image goes to instruction RAM (R353, R367). -/
  boot : Tab Byte := []
  /-- The start that runs is a power-on reset's (R352 step 5, R364). -/
  porStart : Bool := false
  /-- Round trips of a roll-call that the PLL was not locked in: all bays' and those that differ, as ROLL_CALL gave them (R360). -/
  rollAgain : Option (Nat × List (Nat × Option Nat)) := none
  assertF : List Nat := []
  /-- A control-plane or a block reset runs (R319, R364). -/
  cpReset : Bool := false
  blkReset : Bool := false
  /-- Cause of the last POR kept: power-cycle count found; operating seconds base, with mono at load (R391). -/
  opBase : Nat := 0
  opFrom : Nat := 0
  /-- Register port (R34, R36, R318): requests outstanding; the last response. -/
  rpOut : List RpReqOut := []
  rpRsp : Option RpRsp := none
  /-- Management port (R320, R321): the request held or its result, the bytes its last private read returned, DISEC; debug port
  (R316): the data register as its next capture returns it, the access it holds. -/
  mp : MpResult := .none
  mpRead : List Byte := []
  mpDisec : Bool := false
  dbg : BitVec 90 := 0
  dbgHeld : Option (BitVec 90) := none
  /-- Times of the residue mismatches of a lane, newest first, half nanoseconds (R91). -/
  laneErrs : Tab (List Nat) := []
  /-- Journal (R332), oldest first; time of the last helm takeover (R29). -/
  journal : List Entry := []
  takeover : Option Nat := none
  /-- A takeover runs: no core serves (R29, R336); commits latched in it, in order, and outcomes that engines keep until a core
  reads them (R333). -/
  taking : Bool := false
  latched : List (Window × Nat × Word) := []
  kept : List HeldEnd := []
  /-- What start-up reads from outside, as the last start found it, with the straps OT_I3C_ADDR (R43, R51, R354, R386). -/
  startIn : StartInputs := ⟨[], none, 0, [], 0⟩
  /-- Record sequence of jobs and summaries (R262, R344, R345); device periods since the last yard summaries (R338). -/
  recSeq : Nat := 0
  yardCount : Nat := 0
  /-- Host notices queued (the first is presented) (R40). -/
  hn : List (BitVec 64) := []
  /-- Speed order port (R39, R121): REQ and ACK levels, the order in flight, the queue (oldest first). -/
  soReq : Bool := false
  soAck : Bool := false
  soFly : Option InFlight := none
  soQueue : List SpeedReq := []
  /-- Words sent on the bay bus and not decoded; per segment superframe number, silent superframes and the next bay of
  the keep-alive turn, alive flag since the last superframe, FBB_SEGMENT in force (R66-R72). -/
  sent : List Sent := []
  sfn : Tab Nat := []
  silent : Tab Nat := []
  turn : Tab Nat := []
  /-- When each segment's superframe began: system time, ns, and elapsed time, half nanoseconds. -/
  sfAt : Tab Nat := []
  sfMono : Tab Nat := []
  segDead : List Nat := []
  /-- The 16 entries of the collective table, those announced and not yet open (R129), and the order counter of accepted
  notices. -/
  colls : Tab (Option Coll) := []
  collPend : List Coll := []
  order : Nat := 0
  /-- Yards that claim a remount for a failure of this superframe (R77). -/
  claims : List Nat := []
  /-- DRE: inferences due, in acceptance order; the one in flight; engine counters (R23). -/
  due : List Inference := []
  fly : Option Inference := none
  /-- Commits of slots so far, and how many there were with the last one of each slot (R133, R143). -/
  commits : Nat := 0
  slotCommit : Tab Nat := []
  /-- Cycles of engine time taken, with their times, in the last 100 µs (DRE_STATUS.LOAD, R155). -/
  dreBusy : List (Nat × Nat) := []
  /-- Estimates not settled, the order of the next closing (R259, R260); jobs (R261). -/
  estimates : List Estimate := []
  closeSeq : Nat := 0
  jobs : List JobState := []
  jobNext : Nat := 0
  /-- The bundle load in progress: slot, source, address, tag (R142). -/
  load : Option Load := none
  /-- Pending epochs and the last number accepted (R252). -/
  epochs : List Epoch := []
  lastEpoch : Option Nat := none
  cap : CapLoop := {}
  /-- Episodes of CAP_UNMET (R250) by layer: 0 device, 1 + c context c, 100 + r rail r, 200 + y thermal, 400 + y yard current. -/
  episodes : Tab Episode := []
  /-- HEAT entries so far (order of R279), shed order, farrier activity. -/
  heatSeq : Nat := 0
  shedSeq : Nat := 0
  far : FarAct := .idle
  farTag : Option CmdTag := none
  /-- The command whose plan is postponed (R208). -/
  planTag : Option CmdTag := none
  farSeq : Nat := 0
  farPlans : Nat := 0
  /-- Planned substitutions not begun, worn bay and remount, and those whose remount is not yet in RUN (R212). -/
  subst : List (Nat × Nat) := []
  substWait : List (Nat × Nat) := []
  /-- Worn bays the plan found no spare for (R213). -/
  unspared : List Nat := []
  /-- A valid farrier record exists; the baselines of R206 have been taken; values changed outside a plan wait to be written (R202, R206, R215). -/
  farRecord : Bool := false
  farBased : Bool := false
  farDirty : Bool := false
  /-- Sensors (R272, R276): consecutive deviating scans; last readings before proof; consecutive critical scans. -/
  devRun : Tab Nat := []
  critRun : Tab Nat := []
  /-- Sensors at or above their warning threshold (R274), logged once per crossing. -/
  warm : List Nat := []
  proofBase : Tab (List Int) := []
  /-- First way-on service since the power-on reset; yards proved automatically, with the times (R282). -/
  wayOnAt : Option Nat := none
  proved : List (Nat × Nat) := []
  lastTemps : Tab (List Int) := []
  proof : Option Nat := none
  precond : Option Nat := none
  oscTrim : Int := 0
  scScale : Tab Int := []
  /-- Faults (R373, R376-R378): active codes with the class of their latest raising after escalation; pair breaks. -/
  act : List (Nat × Nat) := []
  inject : Option (Nat × Bool) := none
  armedErr : List (Nat × Nat × Bool) := []
  /-- Logbook (R393-R397): staging, tokens by code, suppressed counts, sequence, the largest sequence the start scan found (R396). -/
  log : List LogRec := []
  tokens : Tab Nat := []
  supp : Tab Supp := []
  logSeq : Nat := 0
  logTop : Nat := 0
  tkSector : Nat := 0
  tkSlot : Nat := 0
  curSector : Option Nat := none
  frozenStaged : Nat := 0
  frozenDropped : Nat := 0
  flashOp : FlashOp := .none
  /-- A logbook erase that runs, by its region (R398); the LOG_FREEZE command that waits for the freeze (R397). -/
  logErase : Option Nat := none
  logTag : Option CmdTag := none
  /-- Confidential operation (R403-R410). -/
  scrubs : List ScrubReq := []
  /-- ACTIVE (R405) as of the last event that could change it. -/
  wasActive : Bool := false
  /-- Coarsened readings by register (R406): index of the running 10 ms window, sum and count in it, mean or last value of
  the last window completed. -/
  win10 : Nat := 0
  acc10 : Tab (Int × Nat) := []
  shown10 : Tab Int := []
  /-- PMBus: consecutive scans each entry was missing from, a scan asked for, the time of each entry's last good poll (half
  nanoseconds), consecutive mismatching polls, the raw read pending, devices whose alerts are not taken (R307-R309). -/
  pmbMiss : Tab Nat := []
  pmbScan : Bool := false
  pmbGood : Tab Nat := []
  pmbMismatch : Nat := 0
  pmbRaw : Option (Bool × Nat × Byte) := none
  pmbAlerted : List Nat := []
  /-- Intermediate bus (R304) in 5 mV units as last converted; below its limit. -/
  ibus : Int := 0
  ibusLow : Bool := false
  /-- When STG_FLT_N (R303) and OT_PMB_ALERT_N (R308) were last found low, half nanoseconds; a phase was declared FAILED with that fault. -/
  fltAt : Option Nat := none
  fltDeclared : Bool := false
  alertAt : Option Nat := none
  /-- The model's own: counter of free values used. -/
  free : Nat := 0
deriving DecidableEq, Repr

/-- What stops the machine with a fault. Nothing raises it: every row of the table has an effect the spec gives (safe). -/
inductive Fault where
  /-- Raised by no meaning; the type needs a member (safe). -/
  | none
deriving DecidableEq, Repr

/-- What the model refuses. -/
inductive Refusal where
  /-- An arm of exec without a meaning yet, by the row's mnemonic (safe: a run stops there). -/
  | notModelled (mnemonic : String)
deriving DecidableEq, Repr

/-- What a command answers. -/
abbrev Out := Host.Outcome State Fault Refusal

/-- The state right after reset: every register at the reset word of its table, every engine at rest, nothing queued. -/
def State.reset : State := {}

end Sys2Proof.Machine
end

