-- ==== Sys2Proof/Machine/Ops.lean ====
section
/-!
DEFINITION. The named operations over State that every unit shares: registers and their fields, tables, page events and
counters, time, words sent on the bay bus, host notices, logbook staging, telemetry staging, and the end of a command.
-/

namespace Sys2Proof.Machine

/-! ### Registers (R5, R7, R417, R418) -/

/-- The word stored at a home address. -/
def State.word (s : State) (a : Nat) : Word := Tab.get resetWord s.regs a

/-- Storing a word at a home address. -/
def State.setWord (s : State) (a : Nat) (w : Word) : State := { s with regs := Tab.set resetWord s.regs a w }

/-- The value of a field. -/
def State.get (s : State) (f : Fld) : Nat := (s.word f.addr).field f.lo f.w

/-- A field takes a value. -/
def State.put (s : State) (f : Fld) (v : Nat) : State := s.setWord f.addr ((s.word f.addr).withField f.lo f.w v)

/-- The value of a two's-complement field. -/
def State.getI (s : State) (f : Fld) : Int := signed f.w (s.get f)

/-- A two's-complement field takes a value. -/
def State.putI (s : State) (f : Fld) (v : Int) : State := s.put f (unsigned f.w v)

/-- A field that is not 0. -/
def State.on (s : State) (f : Fld) : Bool := s.get f != 0

/-- A saturating counter (R418) counts n more. -/
def State.bumpBy (s : State) (f : Fld) (n : Nat) : State := s.put f (min (s.get f + n) (2 ^ f.w - 1))

/-- A saturating counter (R418) counts. -/
def State.bump (s : State) (f : Fld) : State := s.bumpBy f 1

/-- Bit k of a bitmap held in like words (PIL_YEN0–3, FLT_ACT0–3, …). -/
def Fld.bit (f : Nat → Fld) (k : Nat) : Fld := ⟨(f (k / 32)).addr, k % 32, 1⟩

/-- Byte k of like words (CAP_YOWN0–31). -/
def Fld.byte (f : Nat → Fld) (k : Nat) : Fld := ⟨(f (k / 4)).addr, k % 4 * 8, 8⟩

/-- Half k of like words that hold an even and an odd entry (THM_TEMP, CAP_CTXCAP). -/
def Fld.half (f : Nat → Fld) (k : Nat) : Fld := ⟨(f (k / 2)).addr, k % 2 * 16, 16⟩

/-- A 64-bit register pair, _LO at the address and _HI after it (R423). -/
def State.get64 (s : State) (lo : Fld) : Nat := (s.word lo.addr).toNat + (s.word (lo.addr + 4)).toNat * 2 ^ 32

/-- A 64-bit register pair takes a value. -/
def State.put64 (s : State) (lo : Fld) (v : Nat) : State :=
  (s.setWord lo.addr (BitVec.ofNat 32 v)).setWord (lo.addr + 4) (BitVec.ofNat 32 (v / 2 ^ 32))

/-- PG_EVT bit k of the page at a base address is set (R417, R10). -/
def State.evt (s : State) (pg k : Nat) : State := s.setWord (pg + 0x14) (s.word (pg + 0x14) ||| BitVec.ofNat 32 (2 ^ k))

/-! ### Pages (R427) -/

def pgGLB : Nat := 0x0
def pgCLK : Nat := 0x1000
def pgPRT : Nat := 0x2000
def pgCMD : Nat := 0x3000
def pgCMK : Nat := 0x4000
def pgCMU : Nat := 0x5000
def pgHLM : Nat := 0x6000
def pgPIL : Nat := 0x7000
def pgDRE : Nat := 0x8000
def pgPWS : Nat := 0x9000
def pgCAP : Nat := 0xA000
def pgTHM : Nat := 0xB000
def pgFLT : Nat := 0xC000
def pgLOG : Nat := 0xD000
def pgSEC : Nat := 0xE000
def pgFAR : Nat := 0xF000
def pgTDM : Nat := 0x10000
def pgSTG : Nat := 0x11000
def pgPMB : Nat := 0x12000
def pgFLS : Nat := 0x13000
def pgTIL : Nat := 0x14000
def pgSXT : Nat := 0x50000
/-- The page of a Sextant cluster (R415). -/
def pgX (n : Nat) : Nat := 0x51000 + 0x1000 * n

/-! ### Tables of units -/

/-- A bay at reset: OFF, its own yard's index, none for a remount (R78, R431). -/
def bayInit (b : Nat) : Bay :=
  if Config.bayFitted b then { yard := (Config.serviceYard b).getD 127 } else { st := .absent }

def State.bay (s : State) (b : Nat) : Bay := Tab.get bayInit s.bays b
def State.setBay (s : State) (b : Nat) (v : Bay) : State := { s with bays := Tab.set bayInit s.bays b v }
def State.yard (s : State) (y : Nat) : Yard := Tab.get (fun _ => {}) s.yards y
def State.setYard (s : State) (y : Nat) (v : Yard) : State := { s with yards := Tab.set (fun _ => {}) s.yards y v }
def State.dom (s : State) (d : Nat) : Dom := Tab.get (fun _ => {}) s.doms d
def State.setDom (s : State) (d : Nat) (v : Dom) : State := { s with doms := Tab.set (fun _ => {}) s.doms d v }
def State.cluster (s : State) (n : Nat) : Cluster := Tab.get (fun _ => {}) s.clusters n
def State.setCluster (s : State) (n : Nat) (v : Cluster) : State := { s with clusters := Tab.set (fun _ => {}) s.clusters n v }
def State.rail (s : State) (r : Nat) : Rail := Tab.get (fun _ => {}) s.rails r
def State.setRail (s : State) (r : Nat) (v : Rail) : State := { s with rails := Tab.set (fun _ => {}) s.rails r v }
def State.phase (s : State) (p : Nat) : BPhase := Tab.get (fun _ => {}) s.phases p
def State.setPhase (s : State) (p : Nat) (v : BPhase) : State := { s with phases := Tab.set (fun _ => {}) s.phases p v }
def State.ctx (s : State) (c : Nat) : Ctx := Tab.get (fun _ => {}) s.ctxs c
def State.setCtx (s : State) (c : Nat) (v : Ctx) : State := { s with ctxs := Tab.set (fun _ => {}) s.ctxs c v }
def State.stream (s : State) (t : Nat) : Tdm := Tab.get (fun _ => {}) s.tdm t
def State.setStream (s : State) (t : Nat) (v : Tdm) : State := { s with tdm := Tab.set (fun _ => {}) s.tdm t v }

/-- A byte of flash; a byte never programmed reads erased (DESIGN CHOICE, assumption log 9). -/
def State.flashAt (s : State) (a : Nat) : Byte := Tab.get (fun _ => 0xFF) s.flash a
def State.setFlash (s : State) (a : Nat) (v : Byte) : State := { s with flash := Tab.set (fun _ => 0xFF) s.flash a v }
/-- A byte of the model store, as an offset in its window (R138); zero-filled by its test (R386). -/
def State.storeAt (s : State) (a : Nat) : Byte := Tab.get (fun _ => 0) s.store a
def State.setStore (s : State) (a : Nat) (v : Byte) : State := { s with store := Tab.set (fun _ => 0) s.store a v }
/-- A byte of capture RAM (R178); zero-filled by its test (R386). -/
def State.capAt (s : State) (a : Nat) : Byte := Tab.get (fun _ => 0) s.capram a
def State.setCap (s : State) (a : Nat) (v : Byte) : State := { s with capram := Tab.set (fun _ => 0) s.capram a v }

/-- A run of flash bytes. -/
def State.flashBytes (s : State) (a n : Nat) : List Byte := (List.range n).map fun i => s.flashAt (a + i)

/-- Programming flash: a program only clears bits (DESIGN CHOICE, assumption log 9). -/
def State.program (s : State) (a : Nat) (bytes : List Byte) : State :=
  (bytes.zipIdx).foldl (fun s p => s.setFlash (a + p.2) (s.flashAt (a + p.2) &&& p.1)) s

/-- Erasing a run of flash. -/
def State.eraseFlash (s : State) (a n : Nat) : State :=
  { s with flash := s.flash.filter fun e => !(a ≤ e.1 && e.1 < a + n) }

/-- Writing a run of flash bytes: what an erase and a program of them leave. -/
def State.writeFlash (s : State) (a : Nat) (bytes : List Byte) : State :=
  (s.eraseFlash a bytes.length).program a bytes

/-- The injection into the next word written to a memory is spent (R383). -/
def State.disarm (s : State) : State := { s with inject := none }.put FLT_INJ.ARMED 0

/-- The error armed for the next word written to a memory: single (false) or double (R383). -/
def State.armedFor (s : State) (mem : Nat) : Option Bool :=
  match s.inject with
  | some (m, double) => if m = mem then some double else none
  | none => none

/-- The check error that a write leaves in a word: none, or the one armed (R383). -/
def State.writeError (s : State) (mem word : Nat) (e : Option Bool) : State :=
  { s with armedErr := (match e with | some double => [(mem, word, double)] | none => []) ++
             s.armedErr.filter fun e => !(e.1 == mem && e.2.1 == word) }

/-- A word of a memory is written: an armed injection goes into it, and whatever error stood in it is overwritten (R383). -/
def State.memWritten (s : State) (mem word : Nat) : State :=
  if (s.armedFor mem).isSome then (s.writeError mem word (s.armedFor mem)).disarm else s.writeError mem word none

/-- The check error that a read of a word finds: corrected (false) or not (true). -/
def State.memError (s : State) (mem word : Nat) : Option Bool :=
  (s.armedErr.find? fun e => e.1 == mem && e.2.1 == word).map fun e => e.2.2

/-! ### Free values -/

/-- A free value of a site, and the state with the model's own counter advanced (DESIGN CHOICE, assumption log 11). -/
def State.fresh (s : State) (site : Nat) : Nat × State := (Config.freeValue site s.free, { s with free := s.free + 1 })

/-! ### Time (R38, R391, DESIGN CHOICE, assumption log 1) -/

/-- Operating seconds (R391). -/
def State.opSecs (s : State) : Nat := (s.opBase + (s.mono - s.opFrom) / 2000000000) % 2 ^ 32

/-- Every clock runs from the PLL (R24). -/
def State.onPll (s : State) : Bool := s.on CLK_STATUS.SOURCE

/-- One CLK_B cycle passes: 2.5 ns from the PLL, 40 ns from the backup oscillator; the system time counts in 5 ns steps on
the PLL (R38). -/
def State.tick (s : State) : State :=
  if s.onPll then
    { s with mono := s.mono + 5, sysHalf := !s.sysHalf, sysTime := if s.sysHalf then (s.sysTime + 5) % 2 ^ 64 else s.sysTime }
  else { s with mono := s.mono + 80, sysTime := (s.sysTime + 40) % 2 ^ 64 }

/-- Half nanoseconds in a time given in nanoseconds. -/
def ns (n : Nat) : Nat := 2 * n

/-! ### Service (R352, R368) -/

/-- GLB_SERVICE.STATE (R351): 0 BOOT; way-on rules hold in state 3, and in state 2 once the clocks run from the PLL. -/
def State.inBoot (s : State) : Bool := s.get GLB_SERVICE.STATE == 0
def State.inWayOn (s : State) : Bool := s.get GLB_SERVICE.STATE == 3 || (s.get GLB_SERVICE.STATE == 2 && s.onPll)

/-- Oteus holds course (R380). -/
def State.holding (s : State) : Bool := s.on FLT_STATUS.HOLD

/-- Course is held: under R380, or while a control-plane reset runs (R365; DEDUCED, assumption log 38). -/
def State.courseHeld (s : State) : Bool := s.holding || s.cpReset

/-! ### Bays of a yard (R74, R75) -/

/-- The bays that can belong to a yard: its service bays, and the remounts on its two boundaries. -/
def reach (y : Nat) : List Nat :=
  let lo := if y = 0 then (0, 0) else Config.boundary (y - 1)
  let hi := Config.boundary y
  (List.range (Config.serviceBays y)).map (Config.firstBay y + ·) ++ (List.range lo.2).map (lo.1 + ·)
    ++ (List.range hi.2).map (hi.1 + ·)

/-- A remount in a switch-in or a disconnect does not count for its yard (R76). -/
def State.settled (s : State) (b : Nat) : Bool := (s.bay b).connStep == 0 && (s.bay b).discStep == 0

/-- The bays whose current yard, in Oteus's record, is y (R78). -/
def State.baysOf (s : State) (y : Nat) : List Nat :=
  (reach y).filter fun b => s.get (BAY_STATE.YARD b) == y && s.settled b

/-- The bays of a yard in state RUN, in Oteus's record. -/
def State.runBays (s : State) (y : Nat) : List Nat := (s.baysOf y).filter fun b => s.get (BAY_STATE.STATE b) == 3

/-- A bay of Oteus's record in RUN with no phase FAILED (R56). -/
def State.counts (s : State) (b : Nat) : Bool :=
  s.get (BAY_STATE.STATE b) == 3 && s.get (BAY_STATE.PH0_STATE b) != 5 && s.get (BAY_STATE.PH1_STATE b) != 5

/-- YRD_ILIM.LIMIT, in 0.1 A: 3.0 A for each bay in RUN with no phase FAILED, derated, less 1.5 A for each worn bay kept
without a spare (R56, R203). -/
def State.ilimit (s : State) (y : Nat) : Nat :=
  30 * ((s.baysOf y).filter s.counts).length * s.get (FAR_YSTAT.DERATE y) / 64
    - 15 * ((s.baysOf y).filter fun b => (s.bay b).nospare && s.counts b).length

/-! ### Rails (R290, R293, R295-R297) -/

/-- The rail voltage sensed, 0.3125 mV (STG_VSNS.V). -/
def State.vsns (s : State) (r : Nat) : Nat := (max 0 (s.getI (SXT_VAL.VALUE (24 + r) 30))).toNat

/-- A tracking mode is in force (R297). -/
def State.tracking (s : State) : Bool := s.on STG_TRACK.MODE

/-- PKG_B follows PKG_A's ramp (R297). -/
def State.tracks (s : State) (r : Nat) : Bool := s.tracking && r == 1 && !(s.rail 1).alone

/-- V_ref of a tracking PKG_B (R297). -/
def State.trackedRef (s : State) : Nat :=
  if s.get STG_TRACK.MODE = 1 then min (8 * s.get (STG_VOUT.CODE 1)) (s.vsns 0)
  else s.vsns 0 * s.get (STG_VOUT.CODE 1) / s.get (STG_VOUT.CODE 0)

/-- PKG_B follows PKG_A still, though its own ramp has ended: PKG_A's has not (R297). -/
def State.following (s : State) : Bool := s.tracks 1 && s.get (STG_RAIL.STATE 1) == 3 && s.get (STG_RAIL.STATE 0) == 2

/-- A value moving to a goal by at most a step. -/
def moveTo (x goal step : Nat) : Nat := if x ≤ goal then min goal (x + step) else max goal (x - step)

/-- V_ref of a rail, 0.3125 mV: it ramps at its sequence's rate (R295, R296), tracks (R297), or slews to the command (R293). -/
def State.vrefNow (s : State) (r : Nat) : Nat :=
  let v := s.rail r
  let dt := s.mono - v.vAt
  let cmd := 8 * s.get (STG_VOUT.CODE r)
  match s.get (STG_RAIL.STATE r) with
  | 2 => if s.tracks r then s.trackedRef else min cmd (v.vref + 8 * v.rampCode * dt / (200000 * s.get (STG_SEQ_ON.RAMP r)))
  | 3 | 4 => if r = 1 ∧ s.following then s.trackedRef else moveTo v.vref cmd (s.get (STG_SLEW.RATE r) * dt / 6250)
  | 5 => if s.tracks r then s.trackedRef else v.vref - 8 * v.rampCode * dt / (200000 * s.get (STG_SEQ_OFF.RAMP r))
  | _ => 0

/-- The scale of a short-circuit comparator without correction, in 1/176 of 2^-20 (R277, R298). -/
def scUnity : Int := 2 ^ 20 * 176

/-- The balance trims are 0, as on the backup clocks (R305). -/
def State.zeroBal (s : State) : State := (List.range Config.stagePhases).foldl (fun s p => s.putI (STG_PH_TRIM.BAL p) 0) s

/-- The headroom code of a voltage in 0.3125 mV (R293). -/
def headCode (v : Nat) : Nat := (v - 2240) / 4

/-- The headroom code H of a rail; none of a rail that is off, which is at no voltage (DESIGN CHOICE, assumption log 38). -/
def State.headroom (s : State) (r : Nat) : Option Nat :=
  if 2 ≤ s.get (STG_RAIL.STATE r) ∧ s.get (STG_RAIL.STATE r) ≤ 5 then some (headCode (min (8 * s.get (STG_VOUT.CODE r)) (s.vrefNow r)))
  else none

/-- The clamps of a VIDeff target: R73, and the headroom of R293. -/
def State.clampVid (s : State) (y code : Nat) : Nat :=
  match s.headroom (Config.yardRail y) with
  | some h => min h (min 520 code)
  | none => min 520 code

/-- The farrier floor offset in the retention code: a floor raised in D3 raises it at once (R221, R234), though it enters the target of D0
at the wake (R210). -/
def State.retFloor (s : State) (y : Nat) : Nat :=
  if (s.yard y).floorWait ∧ !(s.yard y).maintHold then s.get (FAR_YSTAT.FLOOR y) else s.get (YRD_OFFSETS.FLOOR_OFS y)

/-- The VIDeff target before its clamps (R73); the retention code stands in for the target in D2 and D3 (R221). -/
def State.vidAsked (s : State) (y : Nat) : Nat :=
  if (s.yard y).retained then s.get PWS_RETV.CODE + s.retFloor y
  else s.get (YRD_VID.TARGET y) + s.get (YRD_OFFSETS.FLOOR_OFS y) + s.get (YRD_OFFSETS.PRERAISE y)

/-- YRD_VID.EFFECTIVE: the VIDeff target (R73). -/
def State.videff (s : State) (y : Nat) : Nat := s.clampVid y (s.vidAsked y)

/-- State of a phase in Oteus's record (R78); `ph` true is phase 1. -/
def PhF (b : Nat) (ph : Bool) : Fld := if ph then BAY_STATE.PH1_STATE b else BAY_STATE.PH0_STATE b

/-- State of a domain (R237). -/
def State.domState (s : State) (d : Nat) : Nat := s.get (PWS_DOM.STATE d)

/-! ### Words on the bay bus (R65-R69) -/

/-- Precedence of a downstream word among those that wait for a segment's cycles (R69): a trim has its own cycle; CANCEL and ADD
before SHED_PREP, then SETPOINT and PRESET, BAY_STATE and REMOUNT, the keep-alive reads, the other CFG words. -/
def wordRank (w : Word) : Nat :=
  match w.field 28 4 with
  | 1 | 15 => 0
  | 4 => if w.field 16 3 = 1 then 2 else 1
  | 2 | 3 => 3
  | 5 | 6 => 4
  | 8 => if w.field 16 5 = 0 then 5 else 6
  | _ => 6

/-- The words that wait on a segment, in the order in which they leave (R69): by precedence, those of one rank as they were
formed. SYNC and the sharing words have cycles of their own. -/
def State.busOrder (s : State) (seg : Nat) : List Word :=
  sortBy (fun a b => decide (wordRank a ≤ wordRank b)) ((s.sent.filter fun e => e.seg == seg && !e.share).map (·.word))

/-- Oteus sends a downstream word on a segment. -/
def State.send (s : State) (seg : Nat) (w : Word) : State := { s with sent := s.sent ++ [{ seg := seg, word := w }] }

/-- The segments of a yard, as YRD_SEGMENTS shows them (R69). -/
def State.segsOf (s : State) (y : Nat) : List Nat := (List.range Config.segments).filter fun g => tb (s.get (YRD_SEGMENTS.SEG y)) g

/-- Oteus sends a word addressed by yard on every segment of the yard (R69). -/
def State.sendYard (s : State) (y : Nat) (w : Word) : State := (s.segsOf y).foldl (fun s g => s.send g w) s

/-- Oteus sends a word addressed by slot to a bay (R65); `mk` builds it from the slot. -/
def State.sendBay (s : State) (b : Nat) (mk : Nat → Word) : State := s.send (b / 80) (mk (b % 80))

/-- Slew rate of a slew code, 0.001 mV/ns (R73). -/
def slewRate (c : Nat) : Nat :=
  ([100, 125, 200, 250, 400, 500, 625, 800, 1000, 1250, 1600, 2000, 2500, 3200, 4000, 5000] : List Nat).getD c 500

/-- A segment of the yard is silent: its set-point stays unchanged until the segment recovers (R72). -/
def State.setFrozen (s : State) (y : Nat) : Bool := s.segDead.any fun g => tb (s.get (YRD_SEGMENTS.SEG y)) g

/-- The first word sent that equals a word decoded on a segment leaves the queue of words on the bus. -/
def takeSent (seg : Nat) (w : Word) : List Sent → List Sent
  | [] => []
  | e :: t => if e.seg = seg ∧ e.word = w ∧ e.share = false then t else e :: takeSent seg w t

/-! ### Speed points of logic yards (R241) -/

/-- The state as it reads with the operating points in force: one written since the last cap-loop boundary has its former values. -/
def State.opp (s : State) : State := s.cap.oppOld.foldl (fun s e => s.setWord e.1 e.2) s

/-- Valid operating points, in rising order. -/
def State.validPoints (s : State) : List Nat := (List.range 16).filter fun n => s.opp.on (CAP_OPP.VALID n)

/-! ### Logbook staging (R373, R389, R392-R394) -/

/-- Severity of the records of R375 (R392); 0 for a code that is not one of them. -/
def recSeverity (code : Nat) : Nat :=
  if code = 0x0101 ∨ code = 0x0102 ∨ code = 0x0103 ∨ code = 0x0104 ∨ code = 0x0106 ∨ code = 0x0112 ∨ code = 0x0115 then 2
  else if 0x0105 ≤ code ∧ code ≤ 0x0114 then 3
  else if code = 0x0201 ∨ code = 0x0202 ∨ code = 0x0203 ∨ code = 0x0204 ∨ code = 0x0207 then 6
  else if code = 0x0206 then 1 else 0

/-- Classes C, K, F as 0, 1, 2 (R399). -/
def faultClass (code : Nat) : Nat :=
  if code = 0x0D ∨ code = 0x2C ∨ code = 0x2E ∨ code = 0x2F ∨ code = 0x34 then 2
  else if code = 0x0B ∨ code = 0x14 ∨ code = 0x18 ∨ code = 0x1B ∨ code = 0x1D ∨ code = 0x1E ∨ code = 0x1F ∨ code = 0x20
      ∨ code = 0x21 ∨ code = 0x22 ∨ code = 0x29 ∨ code = 0x32 ∨ code = 0x35 ∨ code = 0x39 ∨ code = 0x3B ∨ code = 0x3C ∨ code = 0x3D
    then 0
  else 1

/-- Severity of a raising of a class (R392). -/
def classSeverity (c : Nat) : Nat := if c = 2 then 7 else if c = 1 then 5 else 4

/-- Severity of a code's records (R392). -/
def codeSeverity (code : Nat) : Nat := if code < 0x100 then classSeverity (faultClass code) else recSeverity code

/-- Source port of a record (R389), read from where its code comes from (DEDUCED, assumption log 12). -/
def recSource (code : Nat) : Nat :=
  if code = 0x02 then 1 else if code = 0x03 then 6 else if code = 0x0E then 9
  else if code = 0x0F ∨ code = 0x10 then 15 else if code = 0x11 ∨ code = 0x12 then 11
  else if 0x18 ≤ code ∧ code ≤ 0x1F then 12
  else if 0x25 ≤ code ∧ code ≤ 0x28 then 10
  else if 0x2D ≤ code ∧ code ≤ 0x3A then 13
  else if 0x3B ≤ code ∧ code ≤ 0x3D then 14
  else if code = 0x0102 ∨ code = 0x0103 then 7
  else if code = 0x0104 then 4
  else if 0x0107 ≤ code ∧ code ≤ 0x010C then 9
  else if code = 0x0110 then 10
  else if code = 0x0112 then 8
  else if code = 0x0114 then 13
  else if code = 0x0115 then 14
  else if code = 0x0201 ∨ code = 0x0202 then 16
  else 0

/-- While the logbook is frozen, a record dropped is counted for its release (R397). -/
def State.countDropped (s : State) : State := if s.on LOG_STATUS.FROZEN then { s with frozenDropped := s.frozenDropped + 1 } else s

/-- While the logbook is frozen, a record staged is counted for its release (R397). -/
def State.countStaged (s : State) : State := if s.on LOG_STATUS.FROZEN then { s with frozenStaged := s.frozenStaged + 1 } else s

/-- A record stands last in the staging buffer. -/
def State.addLog (s : State) (r : LogRec) : State := { s with log := s.log ++ [r] }

/-- A record takes its place in the staging buffer, with an error armed for memory 9 (R383). -/
def State.pushLog (s : State) (r : LogRec) : State :=
  if (s.armedFor 9).isSome then (s.addLog { r with err := s.armedFor 9 }).disarm else s.addLog r

/-- LOG_STATUS.STAGED shows the records that wait. -/
def State.showStaged (s : State) : State := s.put LOG_STATUS.STAGED s.log.length

/-- A record enters the staging buffer, or is dropped where 256 wait (R394). -/
def State.stageLog (s : State) (r : LogRec) : State :=
  if 256 ≤ s.log.length then ((s.bump LOG_CNT_STAGEDROP.COUNT).evt pgLOG 4).countDropped
  else (s.pushLog r).showStaged.countStaged

/-- Tokens of a code's bucket, 64 when full (R393). -/
def State.tokensOf (s : State) (code : Nat) : Nat := Tab.get (fun _ => 64) s.tokens code

/-- Suppressed records of a code (R393). -/
def State.suppOf (s : State) (code : Nat) : Supp := Tab.get (fun _ => ⟨0, 0, 0⟩) s.supp code
def State.setSupp (s : State) (code : Nat) (u : Supp) : State := { s with supp := Tab.set (fun _ => ⟨0, 0, 0⟩) s.supp code u }

/-- A code's bucket holds t tokens. -/
def State.setTokens (s : State) (code t : Nat) : State := { s with tokens := Tab.set (fun _ => 64) s.tokens code t }

/-- LOG_SUPPRESSED for a code with suppressed records, at the code's severity; the count is then cleared (R393). -/
def State.flushSupp (s : State) (code : Nat) : State :=
  if (s.suppOf code).count = 0 then s
  else
    (s.setSupp code ⟨0, 0, 0⟩).stageLog
      ⟨0x0205, codeSeverity code, 0, 0, s.opSecs, [code, (s.suppOf code).count, (s.suppOf code).first, (s.suppOf code).last], none⟩

/-- A record for the logbook (R373, R375), through its code's bucket (R393). `flags` are bits [7:3] of byte 2. -/
def State.record (s : State) (code sev flags : Nat) (p : List Nat) : State :=
  if s.tokensOf code = 0 ∧ sev < 6 then
    (s.setSupp code ⟨(s.suppOf code).count + 1, if (s.suppOf code).count = 0 then s.opSecs else (s.suppOf code).first, s.opSecs⟩).bump
      LOG_CNT_SUPPRESS.COUNT
  else
    ((s.setTokens code (s.tokensOf code - 1)).flushSupp code).stageLog ⟨code, sev, flags, recSource code, s.opSecs, p, none⟩

/-- A record of R375, with the severity R392 gives it. -/
def State.logEvent (s : State) (code : Nat) (p : List Nat) : State := s.record code (recSeverity code) 0 p

/-! ### Host notices (R40) -/

/-- A host notice joins the queue, or is dropped with HN_OVERFLOW where 64 are queued. -/
def State.notice (s : State) (kind yard ctx param : Nat) : State :=
  if 64 ≤ s.hn.length then s.logEvent 0x0104 []
  else
    { s with hn := s.hn ++ [BitVec.ofNat 64 (kind * 2 ^ 56 + yard % 128 * 2 ^ 49 + ctx % 64 * 2 ^ 43 + param % 2 ^ 32)] }

/-! ### Coarsened readings (R406) -/

/-- Key of a field among the coarsened readings (R406). -/
def Fld.key (f : Fld) : Nat := f.addr * 32 + f.lo

/-- Coarsened readings: the running 10 ms window ends once system time is in another one (R406). -/
def State.roll10 (s : State) : State :=
  let w := s.sysTime / 10000000
  if s.win10 = w then s
  else
    { s with win10 := w, acc10 := []
             shown10 := s.acc10.foldl (fun (t : Tab Int) (k, sum, n) =>
               Tab.set (fun _ => 0) t k (if n = 0 then sum else sum / (n : Int))) s.shown10 }

/-- A value enters the mean of a register's window. -/
def State.sample10 (s : State) (a : Nat) (v : Int) : State :=
  let s := s.roll10
  let (sum, n) := Tab.get (fun _ => (0, 0)) s.acc10 a
  { s with acc10 := Tab.set (fun _ => (0, 0)) s.acc10 a (sum + v, n + 1) }

/-- A value is the last of a register's window: count 0 marks that no mean is formed. -/
def State.hold10 (s : State) (a : Nat) (v : Int) : State :=
  let s := s.roll10
  { s with acc10 := Tab.set (fun _ => (0, 0)) s.acc10 a (v, 0) }

/-- What a coarsened register shows: the window completed last. -/
def State.coarse (s : State) (a : Nat) : Int := Tab.get (fun _ => 0) s.roll10.shown10 a

/-! ### Telemetry staging (R341, R342, R346) -/

/-- A record: kind, flags, the bytes between its header and its CRC-16 (R342). -/
def tdmRecord (kind flags : Nat) (body : List Byte) : List Byte :=
  let bytes := le 2 kind ++ le 1 ((body.length + 6) / 16) ++ le 1 flags ++ body
  bytes ++ le 2 (crc16 bytes)

/-- Bytes staged on a stream. -/
def stagedBytes (l : List Rec) : Nat := (l.map fun r => r.bytes.length).sum

/-- The gap record of a stream that has lost records (R341). -/
def State.gapRecords (s : State) (t : Nat) : List Rec :=
  if (s.stream t).lost = 0 then []
  else [⟨tdmRecord 0x0040 0 (le 1 t ++ le 3 0 ++ le 4 (min (s.stream t).lost (2 ^ 32 - 1)) ++ le 2 0), none, none⟩]

/-- The records that a staged record stands for: a gap record for the losses it tells (R341, R346). -/
def Rec.standsFor (r : Rec) : Nat := if ofLe (r.bytes.take 2) = 0x0040 then ofLe ((r.bytes.drop 8).take 4) else 1

/-- A stream loses a record (R341). -/
def State.loseRecord (s : State) (t : Nat) : State :=
  ((s.setStream t { s.stream t with lost := (s.stream t).lost + 1 }).bump (TDM_STR_LOST.COUNT t)).evt pgTDM 3

/-- A record is staged on stream t, after a gap record where records were lost, or is itself lost (R341). -/
def State.stage (s : State) (t kind flags : Nat) (body : List Byte) (ctx : Option Nat) (entry : Option CmdTag) : State :=
  let r : Rec := ⟨tdmRecord kind (if (s.stream t).lost = 0 then flags else flags ||| 0x20) body, ctx, entry⟩
  if 4096 < stagedBytes ((s.stream t).staged ++ s.gapRecords t ++ [r]) then s.loseRecord t
  else s.setStream t { s.stream t with staged := (s.stream t).staged ++ s.gapRecords t ++ [r], lost := 0 }

/-! ### The end of a command (R324, R327, R332, R343) -/

/-- The 64 bytes of a command slot: 16 of CMD and of CMK, 64 of CMU (R322). -/
def slotBase (w : Window) (slot : Nat) : Nat :=
  match w with
  | .cmd => 0x3400 + 0x40 * (slot % 16)
  | .cmk => 0x4400 + 0x40 * (slot % 16)
  | .cmu => 0x5000 + 0x40 * (slot % 64)

/-- The page that holds a window's events and counters (R322). -/
def winPage : Window → Nat
  | .cmd => pgCMD
  | .cmk => pgCMK
  | .cmu => pgCMK

/-- The code of a window (R328, R343). -/
def winCode : Window → Nat
  | .cmd => 0
  | .cmk => 1
  | .cmu => 2

/-- The context a CMU slot is bound to (R322); none for the other windows. -/
def State.slotCtx (s : State) (w : Window) (slot : Nat) : Option Nat :=
  match w with
  | .cmu => some (s.get (CMK_USLOT.CONTEXT slot))
  | _ => none

/-- The slot field of a completion record. -/
def recSlot (w : Window) (slot : Nat) : Nat := match w with | .cmu => slot | _ => 0

/-- STATUS codes (R324). -/
def stAccepted : Nat := 1
def stRefusedAuth : Nat := 2
def stRefusedBusy : Nat := 3
def stRefusedRange : Nat := 4
def stDone : Nat := 5
def stAborted : Nat := 6
def stFailed : Nat := 7
def stRefusedSeq : Nat := 8

/-- STATUS and RESULT of a slot are written together (R324, R327). -/
def State.writeStatus (s : State) (w : Window) (slot status : Nat) (result : Word) : State :=
  (s.setWord (slotBase w slot + 0x30) (BitVec.ofNat 32 status)).setWord (slotBase w slot + 0x34) result

/-- The journal entry of a command. -/
def State.entry (s : State) (t : CmdTag) : Option Entry :=
  s.journal.find? fun e => e.win = t.win ∧ e.slot = t.slot ∧ e.seq = t.seq

/-- A change of a command's journal entry. -/
def State.modEntry (s : State) (t : CmdTag) (f : Entry → Entry) : State :=
  { s with journal := s.journal.map fun e => if e.win = t.win ∧ e.slot = t.slot ∧ e.seq = t.seq then f e else e }

/-- An entry is at its final status (R332). -/
def Entry.isFinal (e : Entry) : Bool := match e.state with | .final | .refused => true | _ => false

/-- The tag of a journal entry's command (R333). -/
def Entry.cmdTag (e : Entry) : CmdTag := ⟨e.win, e.slot, e.seq⟩

/-- The body of a completion record (R343). -/
def completionBody (e : Entry) (status : Nat) (result : Word) (now : Nat) : List Byte :=
  le 1 (winCode e.win) ++ le 1 (recSlot e.win e.slot) ++ le 2 e.opcode ++ le 4 e.seq.toNat ++ le 4 e.tag.toNat
    ++ le 4 status ++ le 4 result.toNat ++ le 8 now ++ le 8 e.at_ ++ le 6 0

/-- FLAGS.IRQ of a command that reached its final status: the window's DONE event, and the in-band interrupt of CMD (R321, R327). -/
def State.signalDone (s : State) (w : Window) : State :=
  match w with
  | .cmd => (s.evt pgCMD 0).put PRT_MP.IBI_PEND (setBit ((s.evt pgCMD 0).get PRT_MP.IBI_PEND) 2)
  | .cmk => s.evt pgCMK 0
  | .cmu => s.evt pgCMK 2

/-- FLAGS.RECORD of a command that reached its final status: its completion record (R343). -/
def State.stageDone (s : State) (t : CmdTag) (e : Entry) (late : Bool) (status : Nat) (result : Word) : State :=
  s.stage 0 0x0010 (if late then 1 else 0) (completionBody e status result s.sysTime) (s.slotCtx t.win t.slot) (some t)

/-- A command's journal entry and its slot take a final status (R324, R332). -/
def State.endEntry (s : State) (t : CmdTag) (status : Nat) (result : Word) : State :=
  (s.modEntry t fun e => { e with state := .final, status := status, result := result }).writeStatus t.win t.slot status result

/-! ### Confidential operation (R403, R405) -/

/-- Owner of a yard: a context, or none (R257). -/
def State.ownerOf (s : State) (y : Nat) : Option Nat :=
  let v := s.get (Fld.byte CAP_YOWN.OWNER y)
  if Config.isPrivate y ∧ v < Config.contexts then some v else none

/-- A context is resident (R403). -/
def State.resident (s : State) (c : Nat) : Bool :=
  (List.range Config.yardCount).any (fun y => s.ownerOf y == some c) || s.jobs.any (fun j => j.ctx == c && j.isOpen)
    || (List.range 64).any fun k => s.get (CMK_USLOT.CONTEXT k) == c
        && (s.on (CMK_USLOT.EN k) || s.journal.any fun e => e.win == .cmu && e.slot == k && !e.isFinal)

/-- A context is confidential: its bit in SEC_CONF0-1 is 1. -/
def State.confidential (s : State) (c : Nat) : Bool :=
  s.on ⟨(if c < 32 then SEC_CONF0.CTX else SEC_CONF1.CTX).addr, c % 32, 1⟩

/-- Oteus is in the confidential state: a confidential context is resident, or one was and a scrub has not ended (R403, R405). -/
def State.active (s : State) : Bool :=
  (s.wasActive && s.scrubs != []) || (List.range Config.contexts).any fun c => s.confidential c && s.resident c

/-- A command in a CMU slot that is enabled no longer reaches its final status, and with it the last confidential context may stop being
resident (R403, R405): ACTIVE falls, which SEC PG_EVT tells (R414). -/
def State.slotLeft (s : State) (w : Window) (slot : Nat) : State :=
  if w == .cmu && !s.on (CMK_USLOT.EN slot) && s.wasActive && !s.active then { s with wasActive := false }.evt pgSEC 0 else s

/-- No core executes commands: a takeover or a control-plane reset runs (R29, R319, R336). -/
def State.unserved (s : State) : Bool := s.taking || s.cpReset

/-- A command reaches its final status: slot, journal, DONE event, in-band interrupt, completion record (R321, R327). -/
def State.finishNow (s : State) (t : CmdTag) (code detail : Nat) (result : Word) (late : Bool) : State :=
  match s.entry t with
  | none => s
  | some e =>
    if e.isFinal then s
    else
      let late : Bool := late || (e.late && code == stDone)
      let status : Nat := code + (if late then 16 else 0) + detail * 256
      let ended : State := s.endEntry t status result
      let told : State := if tb e.flags.toNat 0 then ended.signalDone t.win else ended
      (if tb e.flags.toNat 1 then told.stageDone t e late status result else told).slotLeft t.win t.slot

/-- A command ends: it reaches its final status, or the engine keeps its outcome until a core serves again and reads it (R333). -/
def State.finish (s : State) (t : CmdTag) (code detail : Nat) (result : Word) (late : Bool := false) : State :=
  if s.unserved then { s with kept := s.kept ++ [⟨t, code, detail, result, late⟩] } else s.finishNow t code detail result late

/-- As `finish`, where an engine may hold a command's tag. -/
def State.finishOpt (s : State) (t : Option CmdTag) (code detail : Nat) (result : Word) (late : Bool := false) : State :=
  match t with
  | none => s
  | some t => s.finish t code detail result late

/-- Commands that wait for one thing end with it. -/
def State.finishAll (s : State) (ts : List CmdTag) (code : Nat) : State := ts.foldl (fun s t => s.finish t code 0 0) s

end Sys2Proof.Machine
end

