-- ==== Sys2Proof/Machine/Flags.lean ====
section
/-!
DEFINITION. The flag computations of the block: page status and event summaries, interrupt lines (R41, R417, R424), and
the fault collector (R370-R382): classes, escalation, first-error capture, the OT_FLT pair, holding course.
-/

namespace Sys2Proof.Machine

/-! ### Page status and interrupts -/

/-- A page with a header holds an enabled event (R417). -/
def State.enabledEvt (s : State) (pg : Nat) : Bool := (s.word (pg + 0x14) &&& s.word (pg + 0x18)) != 0

/-- PG_STAT (R417). -/
def State.pgStat (s : State) (pg : Nat) : Word :=
  pack [((s.word (pg + 0xC)).field 8 1, 2), ((s.word (pg + 0x1C)).field 31 1, 1), ((s.enabledEvt pg).toNat, 0)]

/-- SXT_EVTSUM: the clusters whose page holds an enabled event (R189). -/
def State.sxtEvtsum (s : State) : Word :=
  pack ((List.range Config.clusterCount).map fun n => ((s.enabledEvt (pgX n)).toNat, n))

/-- GLB_EVTSUM (R425). -/
def State.glbEvtsum (s : State) : Word :=
  pack (((s.enabledEvt pgSXT || s.sxtEvtsum != 0).toNat, 21)
    :: ((List.range 21).filter (· != 5)).map fun p => ((s.enabledEvt (p * 0x1000)).toNat, p))

/-- The interrupt lines OT_IRQ[3:0] (R41, R424). -/
def State.irq (s : State) : BitVec 4 :=
  let line0 := ((List.range 21).filter fun p => p != 5 && p != 0xE && p != 0x10 && p != 0xC).any (fun p => s.enabledEvt (p * 0x1000))
    || s.enabledEvt pgSXT || (List.range Config.clusterCount).any (fun n => s.enabledEvt (pgX n))
  BitVec.ofNat 4 (line0.toNat + (s.enabledEvt pgSEC).toNat * 2 + (s.enabledEvt pgTDM).toNat * 4 + (s.enabledEvt pgFLT).toNat * 8)

/-! ### Fault codes (R370, R374) -/

/-- A unit number names a unit (R371). -/
def isUnit (u : Nat) : Bool := u ≤ 16 || (32 ≤ u && u ≤ 57) || (64 ≤ u && u ≤ 79)

/-- The unit raises the code (R374). -/
def unitRaises (u code : Nat) : Bool :=
  if code = 0x01 then u == 0
  else if code = 0x02 then u == 1
  else if code = 0x03 then u == 2
  else if code = 0x05 then u == 4
  else if code = 0x06 then 4 ≤ u && u ≤ 6
  else if code = 0x07 ∨ code = 0x08 ∨ (0x0A ≤ code ∧ code ≤ 0x0D) then u == 16
  else if code = 0x09 then u == 9
  else if code = 0x0E then u == 10
  else if code = 0x0F ∨ code = 0x10 then u == 15
  else if code = 0x11 ∨ code = 0x12 then 64 ≤ u && u ≤ 79
  else if (0x13 ≤ code ∧ code ≤ 0x16) ∨ (0x20 ≤ code ∧ code ≤ 0x23) then u == 7
  else if code = 0x17 then u == 8
  else if 0x18 ≤ code ∧ code ≤ 0x1E then 32 ≤ u && u ≤ 57
  else if code = 0x1F ∨ code = 0x24 then u == 6
  else if 0x25 ≤ code ∧ code ≤ 0x28 then u == 11
  else if 0x29 ≤ code ∧ code ≤ 0x2C then u == 12
  else if 0x2D ≤ code ∧ code ≤ 0x3A then u == 13
  else if 0x3B ≤ code ∧ code ≤ 0x3D then u == 14
  else false

/-- The access that found an error: address, unit, access type, requester class code (R378). -/
structure FaultAccess where
  addr : Nat := 0
  unit : Nat := 0
  access : Nat := 0
  rclass : Nat := 0
deriving DecidableEq, Repr

/-! ### The OT_FLT pair (R379, R399) -/

/-- The levels of the pair: 0 both low, 1 normal, 2 fault, 3 both high. -/
def State.fltPair (s : State) : Nat :=
  match s.get FLT_INJ_PIN.PIN with
  | 1 => 0
  | 2 => 3
  | 3 => 2
  | _ =>
    if s.inBoot || s.blkReset || s.holding || s.on FLT_PEND.K || s.on FLT_PEND.F then 2 else 1

/-- The pair follows what drives it; a change sets IBI_PEND bit 0 (R321). -/
def State.refreshPair (s : State) : State :=
  let p := s.fltPair
  if s.get FLT_STATUS.PIN = p then s
  else (s.put FLT_STATUS.PIN p).put PRT_MP.IBI_PEND (setBit (s.get PRT_MP.IBI_PEND) 0)

/-- F_ASSERT follows the class F sources that assert (R381); the quiet period counts from the end of the last of them (R382). -/
def State.refreshAssert (s : State) : State :=
  { s with quietFrom := if s.on FLT_STATUS.F_ASSERT && s.assertF.isEmpty then s.mono else s.quietFrom }.put FLT_STATUS.F_ASSERT
    (if s.assertF = [] then 0 else 1)

/-- A class F source starts to assert (R381). -/
def State.assertSource (s : State) (code : Nat) : State :=
  (if code ∈ s.assertF then s else { s with assertF := s.assertF ++ [code] }).refreshAssert

/-- A class F source stops asserting (R381). -/
def State.deassertSource (s : State) (code : Nat) : State := { s with assertF := s.assertF.filter (· != code) }.refreshAssert

/-! ### Holding course (R380) -/

/-- Accepted commands not yet started end REFUSED_BUSY with DETAIL 0xF0 (R380). -/
def State.endUnstarted (s : State) : State :=
  (s.journal.filter fun e => e.state == .accepted).foldl
    (fun s e => s.finish ⟨e.win, e.slot, e.seq⟩ stRefusedBusy 0xF0 0) s

/-- Oteus begins to hold course for a code. -/
def State.enterHold (s : State) (code : Nat) : State :=
  if s.holding then s else (((s.put FLT_STATUS.HOLD 1).evt pgFLT 4).logEvent 0x0203 [code]).endUnstarted

/-! ### Raising a fault (R373, R376-R382) -/

/-- The counter of a class (R399). -/
def classCounter (c : Nat) : Fld := if c = 2 then FLT_CNT_F.COUNT else if c = 1 then FLT_CNT_K.COUNT else FLT_CNT_C.COUNT

/-- The FLT_PEND bit of a class. -/
def pendBit (c : Nat) : Fld := if c = 2 then FLT_PEND.F else if c = 1 then FLT_PEND.K else FLT_PEND.C

/-- First-error capture (R378). -/
def State.capture (s : State) (code cls : Nat) (esc inj : Bool) (p0 : Nat) (a : FaultAccess) : State :=
  ((((s.put FLT_FIRST_CODE.reg (2 ^ 31 + cls * 2 ^ 19 + esc.toNat * 2 ^ 18 + inj.toNat * 2 ^ 17 + code)).put FLT_FIRST_INFO.reg
    (a.unit * 2 ^ 16 + a.access * 2 ^ 8 + a.rclass)).put64 FLT_FIRST_ADDR_LO.ADDR a.addr).put64 FLT_FIRST_TIME_LO.TIME s.sysTime).put
    FLT_FIRST_PARAM.P0 p0

/-- A repeat: its own class, no FLT_PEND, no escalation, no capture (R373). -/
def State.raiseRepeat (s : State) (code : Nat) (p : List Nat) (inj : Bool) : State :=
  (((s.bump (classCounter (faultClass code))).bump FLT_CNT_REPEAT.COUNT).evt pgFLT (faultClass code)).record code
    (classSeverity (faultClass code)) (if inj then 0x40 else 0) p

/-- A raising of a class is escalated: the class is C or K and its FLT_PEND bit already reads 1 (R376). -/
def State.escalates (s : State) (code : Nat) : Bool := faultClass code < 2 && s.on (pendBit (faultClass code))

/-- The class a raising counts in (R376). -/
def State.raisedClass (s : State) (code : Nat) : Nat := if s.escalates code then faultClass code + 1 else faultClass code

/-- FLT_ACT shows a code, with the class of its raising (R373, R377). -/
def State.activate (s : State) (code c : Nat) : State :=
  { s.put (Fld.bit FLT_ACT.CODE code) 1 with act := (s.act.filter fun (x : Nat × Nat) => x.1 != code) ++ [(code, c)] }

/-- FLT_PEND, the counter and the event of a class, and those of an escalation (R376, R399). -/
def State.pendClass (s : State) (c : Nat) (esc : Bool) : State :=
  let t : State := ((s.put (pendBit c) 1).bump (classCounter c)).evt pgFLT c
  if esc then (t.bump FLT_CNT_ESC.COUNT).evt pgFLT 3 else t

/-- A raising is captured as the first error, or as the first of a higher class (R378). -/
def State.captures (s : State) (c : Nat) : Bool := !s.on FLT_FIRST_CODE.VALID || decide (s.get FLT_FIRST_CODE.CLASS < c)

/-- What a raising of class F does besides: a ninth recovery latches, before dead-slow service start-up is held, and Oteus
holds course, but for THM_TRIP (R380-R382). -/
def State.classF (s : State) (code : Nat) : State :=
  let t : State := if s.get FLT_REC.COUNT = 8 then s.put FLT_STATUS.LATCHED 1 else s
  let u : State := if t.inBoot then t.put FLT_STATUS.STARTUP_HELD 1 else t
  if code = 0x2C then u else u.enterHold code

/-- A raising that is not a repeat (R373, R376, R378-R382). -/
def State.raiseNew (s : State) (code : Nat) (p : List Nat) (a : FaultAccess) (inj : Bool) : State :=
  let esc : Bool := s.escalates code
  let c : Nat := s.raisedClass code
  let first : Bool := s.captures c
  let t : State := (s.activate code c).pendClass c esc
  let u : State := if first then t.capture code c esc inj (p.headD 0) a else t
  let v : State := u.record code (classSeverity c) ((if esc then 8 else 0) + (if first then 0x20 else 0) + (if inj then 0x40 else 0)) p
  if c < 2 then v else v.classF code

/-- A raising of class K or F, or a repeat of a code of such a class, starts the quiet period anew (R382). -/
def State.restartQuiet (s : State) (c : Nat) : State := { s with quietFrom := if 1 ≤ c then s.mono else s.quietFrom }

/-- The collector takes a code with its parameters (FAULT_RAISE). -/
def State.raiseWith (s : State) (code : Nat) (p : List Nat) (a : FaultAccess) (inj : Bool) : State :=
  (if s.on (Fld.bit FLT_ACT.CODE code) then (s.restartQuiet (faultClass code)).raiseRepeat code p inj
    else (s.restartQuiet (s.raisedClass code)).raiseNew code p a inj).refreshPair

/-- The collector takes a code for which R378 names no access. -/
def State.raise (s : State) (code : Nat) (p : List Nat) : State := s.raiseWith code p {} false

/-- A corrected memory error (R385): FLT_CNT_CE, MEM_CE. -/
def State.memCe (s : State) (mem addr : Nat) (a : FaultAccess) : State :=
  (s.bump FLT_CNT_CE.COUNT).raiseWith 0x0B [mem, addr] { a with addr := addr } false

/-- The place in its memory of an address of the aperture: the coefficient store, the model store, capture RAM, and the register records,
the BAY records after the YRD records (R384, R415); of the other memories the place itself. -/
def memOffset (mem a : Nat) : Nat :=
  match mem with
  | 5 => a - 0x40000
  | 6 => a - 0x80000
  | 7 => a - 0x100000
  | 8 => if a < 0x30000 then a - 0x20000 else 0x8000 + (a - 0x30000)
  | _ => a

/-- An uncorrectable error at a place in a memory sets FLT_MEM_UE, which shows its page there (R385, R399, R400). -/
def State.memUe (s : State) (mem addr : Nat) : State :=
  let s := (s.put FLT_MEM_UE.reg (2 ^ 31 + mem % 16 * 2 ^ 16 + addr / 4096 % 512))
  s.evt pgFLT 7

/-! ### The end of a command -/

/-- What follows by wire from the rest of the state: F_ASSERT (R381), and the OT_FLT pair with its in-band interrupt (R321, R379). -/
def State.wired (s : State) : State := s.refreshAssert.refreshPair

/-- The answer of a command that leads from `s` to `t`: the queue stays what it was (DESIGN CHOICE, assumption log 1). -/
def State.after (s t : State) : Out := .next { t.wired with pending := s.pending }

end Sys2Proof.Machine
end

