-- ==== Sys2Proof/Machine/Board.lean ====
section
/-!
DEFINITION. What Oteus knows of the board phases (R45, R286, R300, R302): which are in service, their currents and
temperatures as converted, the rail limit.
-/

namespace Sys2Proof.Machine

/-- Rail of a phase: 0 PKG_A, 1 PKG_B (STG_RAILMAP). -/
def State.phaseRail (s : State) (p : Nat) : Nat := (tb (s.get STG_RAILMAP.PKGB) p).toNat

/-- A phase is present (R43). -/
def State.present (s : State) (p : Nat) : Bool := tb (s.get STG_PRESENT.PHASE) p

/-- The phases present on a rail, in ascending index. -/
def State.railPhases (s : State) (r : Nat) : List Nat :=
  (List.range Config.stagePhases).filter fun p => s.phaseRail p == r && s.present p

/-- The phases of a rail in service. -/
def State.inService (s : State) (r : Nat) : List Nat := (s.railPhases r).filter fun p => s.on (STG_PH.IN_SERVICE p)

/-- IN_SERVICE follows what takes a phase out of service (R292 rank 1); a phase that enters service starts with BAL 0 (R291). -/
def State.refreshService (s : State) (p : Nat) : State :=
  let now := s.present p && !s.on (STG_PH.LATCHED p) && !s.on (STG_PH.OT_SHUT p) && !s.on (STG_PH.FAILED p)
  if now = s.on (STG_PH.IN_SERVICE p) then s
  else
    let s := s.put (STG_PH.IN_SERVICE p) now.toNat
    if now then s.put (STG_PH_TRIM.BAL p) 0 else s

/-- Rating of a phase, A (R16, R286). -/
def State.rating (s : State) (p : Nat) : Nat := if s.phaseRail p = 0 then 60 else 50

/-- CAP_RAIL of a rail, A. -/
def capRail (r : Nat) : Fld := if r = 0 then CAP_RAIL.PKGA else CAP_RAIL.PKGB

/-- The rail limit in force, A (R286): CAP_RAIL, or 95 % of the ratings in service, where a phase in warning counts at 80 %. -/
def State.railLimitA (s : State) (r : Nat) : Nat :=
  let sum := ((s.inService r).map fun p => s.rating p * if s.on (STG_PH.OT_WARN p) then 80 else 100).sum
  min (s.get (capRail r)) (95 * sum / 10000)

/-- Current of a package rail, 1/16 A: the sum of its phases' IMON readings (R123, R244, R158). -/
def State.railIMon (s : State) (r : Nat) : Int :=
  ((s.railPhases r).map fun p => s.getI (SXT_VAL.VALUE (if p < 15 then 24 else 25) (p % 15)) - 1920).sum

/-- A phase of the rail is overloaded (R300). -/
def State.overloaded (s : State) (r : Nat) : Bool := (s.railPhases r).any fun p => s.on (STG_PH.OVERLOAD p)

/-- Overload threshold of a phase, 1/16 A × 100 (R300). -/
def State.ovlTh (s : State) (p : Nat) : Int :=
  ((16 * s.get (STG_OVL.TH (s.phaseRail p)) * (if s.on (STG_PH.OT_WARN p) then 80 else 100) : Nat) : Int)

/-- A phase's average lies above CAP_ILIM.RELEASE percent of its overload threshold (R244, R300). -/
def State.nearOverload (s : State) (r : Nat) : Bool :=
  (s.railPhases r).any fun p => decide ((s.get CAP_ILIM.RELEASE : Int) * s.ovlTh p < 10000 * s.getI (STG_PH_AVG.IAVG p))

/-! ### Conversions of board inputs (R45, R302) -/

/-- STG_IMON of a phase: its current, 1/16 A. -/
def State.imonValue (s : State) (p : Nat) (i : Int) : State :=
  let v := s.phase p
  let off := i < -640 ∨ i ≤ 0 ∧ (s.rail (s.phaseRail p)).braking
  ((s.putI (STG_PH_MON.I p) i).sample10 (STG_PH_MON.I p).key i).setPhase p { v with
    iSum := v.iSum + i, iCnt := v.iCnt + 1, oSum := v.oSum + i, oCnt := v.oCnt + 1, floating := v.floating || decide off }

/-- A phase enters over-temperature warning. -/
def State.otWarn (s : State) (p : Nat) (t : Int) : State :=
  if s.on (STG_PH.OT_WARN p) then s
  else (((s.put (STG_PH.OT_WARN p) 1).bump STG_CNT_OT.WARN).evt pgSTG 4).raise 0x35 [p, unsigned 32 t]

/-- A phase is shut down for over-temperature. -/
def State.otShut (s : State) (p : Nat) (t : Int) : State :=
  if s.on (STG_PH.OT_SHUT p) then s
  else ((((s.put (STG_PH.OT_SHUT p) 1).bump STG_CNT_OT.SHUT).evt pgSTG 5).raise 0x36 [p, unsigned 32 t]).refreshService p

/-- STG_TMON of a phase, in 0.3125 mV: each condition holds for 4 consecutive conversions (R302). -/
def State.tmonValue (s : State) (p : Nat) (x : Int) : State :=
  let t := roundDiv ((x - 1280) * 5) 6
  let v := s.phase p
  let run (c : Nat) (b : Bool) : Nat := if b then c + 1 else 0
  let v := { v with hot110 := run v.hot110 (decide (3392 ≤ x)), hot130 := run v.hot130 (decide (3776 ≤ x)), cool100 := run v.cool100 (decide (x < 3200)) }
  let s := ((s.putI (STG_PH_MON.TEMP p) t).hold10 (STG_PH_MON.TEMP p).key t).setPhase p v
  let s := if 4 ≤ v.hot110 then s.otWarn p t else s
  let s := if 4 ≤ v.hot130 then s.otShut p t else s
  if 4 ≤ v.cool100 then ((s.put (STG_PH.OT_SHUT p) 0).put (STG_PH.OT_WARN p) 0).refreshService p else s

/-- What the board stages make of a converted value (R45). -/
def State.boardValue (s : State) (n ch : Nat) (v : Int) : State :=
  let base := if n = 25 then 15 else 0
  match Config.chKind n ch with
  | .imon => if s.present (base + ch) then s.imonValue (base + ch) (v - 1920) else s
  | .tmon => if s.present (base + ch - 15) then s.tmonValue (base + ch - 15) v else s
  | .ibus => { s with ibus := v }
  | _ => s

end Sys2Proof.Machine
end

