-- ==== Sys2Proof/Machine/Bays.lean ====
section
/-!
DEFINITION. The regulator bays and the Feaska bay bus (R56-R76, R430, R431): what a bay does with each word it decodes,
what it does by itself, its timed steps, and the superframe Oteus sends.
-/

namespace Sys2Proof.Machine

/-! ### A bay and its phases -/

/-- Code of a bay state (R59). -/
def BaySt.code : BaySt → Nat
  | .absent => 0 | .off => 1 | .ready => 2 | .run => 3 | .heat => 4 | .protect => 5 | .fenced => 6 | .connect => 7

/-- Code of a phase state (R60). -/
def PhSt.code : PhSt → Nat
  | .cold => 0 | .warm => 1 | .active => 2 | .shedPrep => 3 | .tripped => 4 | .failed => 5

/-- A phase of a bay; true is phase 1. -/
def Bay.ph (b : Bay) (ph : Bool) : Phase := if ph then b.p1 else b.p0
def Bay.setPh (b : Bay) (ph : Bool) (p : Phase) : Bay := if ph then { b with p1 := p } else { b with p0 := p }

/-- A change of a bay. -/
def State.modBay (s : State) (b : Nat) (f : Bay → Bay) : State := s.setBay b (f (s.bay b))

/-- A change of both phases. -/
def Bay.phases (b : Bay) (f : Phase → Phase) : Bay := { b with p0 := f b.p0, p1 := f b.p1 }

/-- A phase off for TRIPPED or FAILED. -/
def PhSt.out : PhSt → Bool
  | .tripped | .failed => true
  | _ => false

/-- A phase turned off: COLD, unless TRIPPED or FAILED. -/
def Phase.off (p : Phase) : Phase := { p with st := if p.st.out then p.st else .cold, saved := .cold, addStored := false }

/-- An order puts a phase that is neither TRIPPED nor FAILED in a state; in all hands it goes on conducting until they end (R61). -/
def Phase.own (p : Phase) (hands : Bool) (st : PhSt) : Phase :=
  if p.st.out then p else { p with st := if hands then p.st else st, saved := st, addStored := false }

/-- The state a phase holds apart from all hands: during them, the one it returns to (R61 rule 5). -/
def Bay.ownSt (b : Bay) (p : Phase) : PhSt := if b.allHands ∧ !p.st.out then p.saved else p.st

/-- A phase made ACTIVE; `fresh` where its offset is to return to zero (R109). -/
def Phase.activate (p : Phase) (fresh : Bool := true) : Phase :=
  if p.st.out then p else if p.st = .active then p else { p with st := .active, fresh := p.fresh || fresh, part := true }

/-- The bays on a segment (R65). -/
def segBays (seg : Nat) : List Nat := ((List.range 80).map (80 * seg + ·)).filter Config.bayFitted

/-- The bays on a segment that act on words: not holding course for lost SYNC words (R72), not silent (R360). -/
def State.listeners (s : State) (seg : Nat) : List Nat := (segBays seg).filter fun b => !(s.bay b).holding && !(s.bay b).silent

/-- Event bits of a bay (R71, BAY_EVT). -/
def evTRIP : Nat := 7
def evPH1 : Nat := 6
def evPH0 : Nat := 5
def evPROT : Nat := 4
def evOVERLOAD : Nat := 3
def evCLAMP : Nat := 2
def evBUS : Nat := 1
def evSYNC : Nat := 0

/-- An event occurs in a bay: sticky in bay register 1, and to be sent in an EVENT word (R68, R71). -/
def Bay.event (b : Bay) (k : Nat) : Bay :=
  { b with events := b.events ||| BitVec.ofNat 8 (2 ^ k), unsent := b.unsent ||| BitVec.ofNat 8 (2 ^ k) }

def State.bayEvent (s : State) (b k : Nat) : State := s.modBay b (·.event k)

/-- A word whose CRC does not match: BUS_ERR in a bay, counted (R67, R78). -/
def State.busErr (s : State) (b : Nat) : State := (s.bayEvent b evBUS).bump (BAY_CNT_ERR.BUS b)

/-- Oteus's record takes a phase state that an order or a timer brought about; a phase it has recorded FAILED stays so (R64). -/
def State.recPhase (s : State) (b : Nat) (ph : Bool) : State :=
  let st := (s.bay b).ownSt ((s.bay b).ph ph)
  if st.out ∨ s.get (PhF b ph) = 5 then s else s.put (PhF b ph) st.code

def State.recPhases (s : State) (b : Nat) : State := (s.recPhase b false).recPhase b true

/-- RUN_BAYS of a yard with its voltage on against its minimum (R214 step 1): BELOW_MIN and HOLD_REQ when it falls below, one
HOLD_REQ for a wait that runs; the notice's parameter is not stated and is a free value. -/
def State.belowMinCheck (s : State) (y : Nat) : State :=
  if Config.yardCount ≤ y ∨ 3 < s.domState y ∨ s.get (PWS_DOM.TARGET y) = 4 then s
  else if Config.minBays y ≤ (s.runBays y).length then s.put (YRD_STATUS.BELOW_MIN y) 0
  else if (s.yard y).belowMin ≠ .none then s.put (YRD_STATUS.BELOW_MIN y) 1
  else if s.on (YRD_STATUS.BELOW_MIN y) then s
  else
    let s := (s.put (YRD_STATUS.BELOW_MIN y) 1).setYard y { s.yard y with belowMin := .waiting }
    let (v, s) := s.fresh 6
    s.notice 4 y 0 v

/-- Oteus's record takes the bay's state and yard. -/
def State.recState (s : State) (b : Nat) : State :=
  let v := s.bay b
  let s := (if v.st = .protect then s else s.put (BAY_STATE.STATE b) v.st.code).put (BAY_STATE.YARD b) v.yard
  s.belowMinCheck v.yard

/-- Record of state and phases together. -/
def State.recBay (s : State) (b : Nat) : State := (s.recState b).recPhases b

/-- A downstream word is decoded on a segment: with a right CRC the listeners that it addresses act, otherwise every
bay of the segment ignores it and sets BUS_ERR (R67). `act` is the effect on one bay. -/
def State.decodeWord (s : State) (seg : Nat) (w : Word) (addressed : State → Nat → Bool) (act : State → Nat → State) : State :=
  let s := { s with sent := takeSent seg w s.sent }
  if fbbOk w then ((s.listeners seg).filter (addressed s)).foldl act s
  else (s.listeners seg).foldl State.busErr s

/-- A received word: the one its fields spell, with the CRC-4 that came with it. -/
def withCrc (w : Word) (crc : BitVec 4) : Word := w.withField 0 4 crc.toNat

/-- A word addressed by yard (R67). -/
def byYard (y : Nat) (s : State) (b : Nat) : Bool := (s.bay b).yard == y % 128

/-- A word addressed by slot (R67). -/
def bySlot (seg slot : Nat) (_ : State) (b : Nat) : Bool := b == 80 * seg + slot

/-! ### Reference (R57, R73, R59) -/

/-- A bay follows trims: READY, RUN, and CONNECT from step 3 (R59). -/
def Bay.followsTrim (b : Bay) : Bool :=
  match b.st with
  | .ready | .run => true
  | .connect => 3 ≤ b.connStep
  | _ => false

/-- A bay follows set-points: also HEAT (R59). -/
def Bay.followsSet (b : Bay) : Bool := b.followsTrim || b.st == .heat

/-- The effective code a bay has slewed to: BAY_REF and `lead` hold where its slew began, and it moves by whole codes at the slew rate
towards the target while the bay follows set-points (R73); a bay that holds course keeps its reference (R72), and in all hands a
ramp waits (R234). Below 0 in the first part of a soft-start (R223). -/
def State.bayCode (s : State) (b : Nat) : Int :=
  let v := s.bay b
  let from_ : Int := (s.get (BAY_REF.VID_NOW b) : Int) - (v.lead : Int)
  let goal : Int := v.target
  let step : Int := (slewRate v.slew * (s.mono - v.slewAt) / 2500 : Nat)
  if v.followsSet && !v.holding && !v.allHands then
    (if from_ ≤ goal then min goal (from_ + step) else max goal (from_ - step))
  else from_

/-- BAY_REF.VID_NOW as it reads. -/
def State.bayVid (s : State) (b : Nat) : Nat := (s.bayCode b).toNat


/-- The reference before its clamp, in steps of 0.3125 mV (R57). -/
def State.refSteps (s : State) (b : Nat) : Int := 1280 + 4 * s.bayCode b + s.getI (BAY_REF.TRIM b)

/-- A reference outside 0.400-1.100 V is clamped, which sets REF_CLAMP (R57); the lower clamp does not hold in a soft-start
(R223). -/
def State.checkClamp (s : State) (b : Nat) : State :=
  if s.refSteps b < 1280 ∧ !(s.bay b).softStart ∨ 3520 < s.refSteps b then s.bayEvent b evCLAMP else s

/-- A slew that has moved a bay's reference out of its limits has set REF_CLAMP, whatever comes after (R57, R73). -/
def State.checkMoved (s : State) (b : Nat) : State :=
  if s.bayCode b = (s.get (BAY_REF.VID_NOW b) : Int) - ((s.bay b).lead : Int) then s else s.checkClamp b

/-- The slew of a bay goes on from where it stands: what changes its course, or whether it moves at all, comes after. -/
def State.markVid (s : State) (b : Nat) : State :=
  ((s.checkMoved b).put (BAY_REF.VID_NOW b) (s.bayVid b)).modBay b fun v => { v with slewAt := s.mono, lead := (-(s.bayCode b)).toNat }

/-- The reference after its clamp, outside all hands, in steps of 0.3125 mV (R57). -/
def State.clampedRef (s : State) (b : Nat) : Int :=
  if (s.bay b).softStart then min 3520 (s.refSteps b) else clampI 1280 3520 (s.refSteps b)

/-- The window around the reference, lower and upper bound, in steps of 0.3125 mV (R57): W is 2.5 mV + WIN × 1.25 mV, the pre-bias
P raises the upper bound. -/
def State.window (s : State) (b : Nat) : Int × Int :=
  let half : Int := 4 + 2 * ((s.bay b).win : Int)
  (s.clampedRef b - half, s.clampedRef b + half + 4 * (s.get (BAY_REF.PREBIAS b) : Int))

/-- The reference that the phases of a bay follow, in steps of 0.3125 mV: in all hands the upper hysteretic bound (R57, R61 rule 4). -/
def State.reference (s : State) (b : Nat) : Int := if (s.bay b).allHands then (s.window b).2 else s.clampedRef b

/-- A bay takes a trim (R57). -/
def State.takeTrim (s : State) (b : Nat) (t : BitVec 12) : State := ((s.checkMoved b).put (BAY_REF.TRIM b) t.toNat).checkClamp b

/-- A bay begins to slew to a set-point, from the code it has reached (R73). -/
def State.takeSet (s : State) (b code slew : Nat) : State := (s.markVid b).modBay b fun v => { v with target := code, slew := slew }

/-- A bay takes a window pre-bias (R57). A code of 21-31, beyond the 0-20 of R67, is taken as it stands (DESIGN CHOICE, assumption log
39). -/
def State.takePreset (s : State) (b p : Nat) : State := s.put (BAY_REF.PREBIAS b) p

/-! ### Words addressed by yard -/

/-- TRIM (R57, R61). -/
def decodeTrim (seg y : Nat) (t : BitVec 12) (crc : BitVec 4) (s : State) : State :=
  s.decodeWord seg (withCrc (trimWord y t.toInt) crc) (byYard y) fun s b =>
    let v := s.bay b
    if !v.followsTrim then s
    else if v.allHands then s.setBay b { v with storedTrim := some t }
    else s.takeTrim b t

/-- A SETPOINT word as a bay stores it: where its code is the yard's with a pre-raise, with the horizon of that forecast and the code
without it, which it takes once the horizon has passed (R22; DESIGN CHOICE, assumption log 39). -/
def State.storedSet (s : State) (y code slew : Nat) : StoredSet :=
  let plain := s.clampVid y (s.get (YRD_VID.TARGET y) + s.get (YRD_OFFSETS.FLOOR_OFS y))
  { code := code, slew := slew
    raise := if Config.yardCount ≤ y ∨ (s.yard y).retained ∨ !s.on (YRD_OFFSETS.PRERAISE y) ∨ code ≠ s.videff y then none
      else (s.yard y).cur.map fun c => (c.horizon, plain) }

/-- The code of a stored SETPOINT as it takes effect: without a pre-raise whose horizon has passed (R22). -/
def StoredSet.inForce (w : StoredSet) (now : Nat) : Nat :=
  match w.raise with | some (h, plain) => if h < now then plain else w.code | none => w.code

/-- SETPOINT (R61, R73). -/
def decodeSetpoint (seg y code slew : Nat) (crc : BitVec 4) (s : State) : State :=
  s.decodeWord seg (withCrc (setpointWord y code slew) crc) (byYard y) fun s b =>
    let v := s.bay b
    if !v.followsSet then s
    else if v.allHands then s.setBay b { v with storedSet := some (s.storedSet (y % 128) (code % 1024) (slew % 16)) }
    else s.takeSet b (code % 1024) (slew % 16)

/-- The horizon of the forecast whose presets are in force on a yard, for a PRESET word that a bay stores (R22). -/
def State.presetHorizon (s : State) (y p : Nat) : Option Nat := if p = 0 then none else (s.yard y).cur.map fun c => c.horizon

/-- PRESET (R57, R61). -/
def decodePreset (seg y p : Nat) (crc : BitVec 4) (s : State) : State :=
  s.decodeWord seg (withCrc (presetWord y p) crc) (byYard y) fun s b =>
    let v := s.bay b
    if !v.followsTrim then s
    else if v.allHands then s.setBay b { v with storedPre := some (p % 32, s.presetHorizon (y % 128) (p % 32)) }
    else s.takePreset b (p % 32)

/-! ### PHASE words (R60, R61, R63) -/

/-- The phases a PHASE word names. -/
def named (ph1 ph0 : Bool) : List Bool := (if ph0 then [false] else []) ++ (if ph1 then [true] else [])

/-- A PHASE word acts on each phase it names; a fenced bay and a bay in CONNECT take none (R59, R76). -/
def State.decodePhase (s : State) (seg slot : Nat) (ph1 ph0 : Bool) (order : Nat) (crc : BitVec 4)
    (f : Bay → Phase → Phase) : State :=
  s.decodeWord seg (withCrc (phaseWord slot ph1 ph0 order) crc) (bySlot seg slot) fun s b =>
    let v := s.bay b
    if v.st = .fenced ∨ v.st = .connect ∨ v.st = .absent then s
    else (named ph1 ph0).foldl (fun s ph => (s.modBay b fun v => v.setPh ph (f v (v.ph ph))).recPhase b ph) s

/-- A READY bay with a phase ACTIVE is in RUN (R59). -/
def Bay.readyRuns (v : Bay) : Bay := if v.st = .ready ∧ (v.p0.st = .active ∨ v.p1.st = .active) then { v with st := .run } else v

/-- The horizon of the forecast whose floor ordered the yard's last add; none where another cause did (R22, R124). -/
def State.addHorizon (s : State) (y : Nat) : Option Nat :=
  if y < Config.yardCount ∧ s.get (YRD_SHARE_STAT.LAST_CAUSE y) = 2 then (s.yard y).cur.map fun c => c.horizon else none

/-- An ADD is stored in all hands; one that no horizon ends stays so (R22, R61 rule 4). -/
def Phase.storeAdd (p : Phase) (until_ : Option Nat) : Phase :=
  { p with addStored := true, addUntil := if p.addStored then p.addUntil.bind fun _ => until_ else until_ }

/-- ADD: a COLD or WARM phase of a bay in RUN or READY conducts, a SHED_PREP phase is kept; stored during all hands. A
READY bay with a phase ACTIVE is in RUN (R59-R61, R112). -/
def decodeAdd (seg slot : Nat) (ph1 ph0 : Bool) (crc : BitVec 4) (s : State) : State :=
  s.decodeWord seg (withCrc (phaseWord slot ph1 ph0 0) crc) (bySlot seg slot) fun s b =>
    let v := s.bay b
    if v.st ≠ .run ∧ v.st ≠ .ready ∧ !v.allHands ∨ v.st = .fenced ∨ v.st = .connect ∨ v.st = .absent then s
    else
      let add (p : Phase) : Phase :=
        if p.st.out then p
        else if v.allHands then p.storeAdd (s.addHorizon v.yard)
        else if p.st = .shedPrep then { p with st := .active }
        else p.activate
      let v' := (named ph1 ph0).foldl (fun v ph => v.setPh ph (add (v.ph ph))) v
      let s := s.setBay b (if v.allHands then v' else v'.readyRuns)
      (named ph1 ph0).foldl (fun s ph => s.recPhase b ph) (s.recState b)

/-- SHED_PREP: an ACTIVE phase starts to shed; discarded during all hands (R60, R61). -/
def decodeShedPrep (seg slot : Nat) (ph1 ph0 : Bool) (crc : BitVec 4) (s : State) : State :=
  s.decodePhase seg slot ph1 ph0 1 crc fun v p =>
    if v.allHands then p else if p.st = .active then { p with st := .shedPrep } else p

/-- CANCEL: a SHED_PREP phase stays ACTIVE without a gap (R60). -/
def decodeCancel (seg slot : Nat) (ph1 ph0 : Bool) (crc : BitVec 4) (s : State) : State :=
  s.decodePhase seg slot ph1 ph0 2 crc fun _ p => if p.st = .shedPrep then { p with st := .active } else p

/-- CLEAR_TRIP: a TRIPPED phase becomes COLD (R62, R63). -/
def decodeClearTrip (seg slot : Nat) (ph1 ph0 : Bool) (crc : BitVec 4) (s : State) : State :=
  s.decodePhase seg slot ph1 ph0 3 crc fun _ p => if p.st = .tripped then { p with st := .cold, saved := .cold, addStored := false } else p

/-! ### BAY_STATE words (R59, R76, R278, R430, R431) -/

/-- YRD_SEGMENTS of a yard from the bays that hold its index (R75, R76). -/
def State.refreshSegments (s : State) (y : Nat) : State :=
  let own := (yrdReset y 0x10).getD 0
  let joined := (reach y).filter fun b => (s.bay b).yard == y
  s.put (YRD_SEGMENTS.SEG y) (joined.foldl (fun m b => setBit m (b / 80)) own.toNat)

/-- The DISCONNECT sequence begins: ACTIVE phases go to SHED_PREP, which all hands does not undo (R76). `goal` is the state it ends
in. -/
def State.startDisconnect (s : State) (b : Nat) (goal : BaySt) : State :=
  let shed (p : Phase) : Phase := if p.st = .active then { p with st := .shedPrep, saved := .shedPrep, addStored := false } else p
  (s.modBay b fun v => { (v.phases shed) with discStep := 1, discTo := goal, connStep := 0 }).recPhases b
    |>.belowMinCheck (s.bay b).yard

/-- A bay in CONNECT is sent OFF or FENCED: at once before step 3, through the DISCONNECT sequence from step 3 (R76); in that sequence
already, it ends FENCED where that is ordered. `code` is how the REMOUNT command it carries out, if any, ends with the switch-in. -/
def State.abortConnect (s : State) (b : Nat) (goal : BaySt) (code : Nat) : State :=
  if (s.bay b).discStep ≠ 0 then (if goal = .fenced then s.modBay b fun v => { v with discTo := .fenced } else s)
  else if (s.bay b).connStep < 3 then
    let s' := (s.modBay b fun v => { (v.phases Phase.off) with st := goal, connStep := 0, connTo := 127, cmdTags := [] }).recBay b
    s'.finishAll (s.bay b).cmdTags code
  else s.startDisconnect b goal

/-- A BAY_STATE word acts on its bay (R67). -/
def State.decodeState (s : State) (seg slot order : Nat) (crc : BitVec 4) (f : State → Nat → State) : State :=
  s.decodeWord seg (withCrc (bayStateWord slot order) crc) (bySlot seg slot) f

/-- BAY_STATE OFF (R59, R76). -/
def decodeOff (seg slot : Nat) (crc : BitVec 4) (s : State) : State :=
  s.decodeState seg slot 0 crc fun s b =>
    match (s.bay b).st with
    | .absent | .fenced => s
    | .connect => s.abortConnect b .off stFailed
    | _ => ((s.modBay b fun v => { (v.phases Phase.off) with
        st := .off, heat := 0, allHands := false, target := 0, lead := 0 }).put (BAY_REF.TRIM b) 0
        |>.put (BAY_REF.VID_NOW b) 0).recBay b

/-- BAY_STATE READY (R59). -/
def decodeReady (seg slot : Nat) (crc : BitVec 4) (s : State) : State :=
  s.decodeState seg slot 1 crc fun s b =>
    match (s.bay b).st with
    | .off | .ready | .run | .heat =>
      ((s.markVid b).modBay b fun v => { (v.phases fun p => p.own v.allHands .cold) with st := .ready, heat := 0 }).recBay b
    | _ => s

/-- A phase made ACTIVE by a RUN order or a switch-in, and to stay so when all hands ends (R430, R61 rule 5). -/
def Phase.run (p : Phase) (fresh : Bool) : Phase := { p.activate fresh with saved := .active }

/-- BAY_STATE RUN: phase 0, or phase 1 where phase 0 is TRIPPED or FAILED, becomes ACTIVE (R430). A switch-in makes it `fresh`
(R76, R109). -/
def Bay.toRun (v : Bay) (fresh : Bool := false) : Bay :=
  if !v.p0.st.out then { v with st := .run, p0 := v.p0.run fresh, heat := 0 }
  else if !v.p1.st.out then { v with st := .run, p1 := v.p1.run fresh, heat := 0 }
  else v

def decodeRun (seg slot : Nat) (crc : BitVec 4) (s : State) : State :=
  s.decodeState seg slot 2 crc fun s b =>
    match (s.bay b).st with
    | .off | .ready | .heat => ((s.markVid b).modBay b (·.toRun)).recBay b
    | _ => s

/-- BAY_STATE HEAT: both phases in warming operation, WARM when HEAT ends (R59, R278). R60 has no code for them: they are WARM throughout,
and PHASE_COLD turns one COLD (DESIGN CHOICE, assumption log 39). -/
def decodeHeat (seg slot : Nat) (crc : BitVec 4) (s : State) : State :=
  s.decodeState seg slot 3 crc fun s b =>
    match (s.bay b).st with
    | .ready | .run =>
      ({ s.markVid b with heatSeq := s.heatSeq + 1 }.modBay b fun v => { (v.phases fun p => p.own v.allHands .warm) with
        st := .heat, heatAt := s.heatSeq + 1 }).recBay b
    | _ => s

/-- BAY_STATE FENCE (R59, R76). -/
def decodeFence (seg slot : Nat) (crc : BitVec 4) (s : State) : State :=
  s.decodeState seg slot 4 crc fun s b =>
    match (s.bay b).st with
    | .absent | .fenced => s
    | .connect => s.abortConnect b .fenced stFailed
    | _ =>
      let thaw (p : Phase) : Phase := { p with frozen := none }
      ((s.markVid b).modBay b fun v => { ((v.phases Phase.off).phases thaw) with
        st := .fenced, heat := 0, allHands := false, nospare := false, failRead := none, discTo := if v.discStep = 0 then v.discTo else .fenced }).recBay b

/-- BAY_STATE RELEASE: a fenced bay with no phase FAILED, as it holds them itself and as Oteus has recorded them (R64), goes to OFF; a
remount is then free (R431), once a DISCONNECT that still runs has ended (R76). -/
def decodeRelease (seg slot : Nat) (crc : BitVec 4) (s : State) : State :=
  s.decodeState seg slot 5 crc fun s b =>
    let v := s.bay b
    if v.st = .fenced ∧ v.p0.st ≠ .failed ∧ v.p1.st ≠ .failed ∧ s.get (PhF b false) ≠ 5 ∧ s.get (PhF b true) ≠ 5 ∧ v.discStep ≠ 0 then
      (s.modBay b fun v => { v with st := .off, discTo := .off, failFenced := false, failKind := 0 }).recBay b
    else if v.st = .fenced ∧ v.p0.st ≠ .failed ∧ v.p1.st ≠ .failed ∧ s.get (PhF b false) ≠ 5 ∧ s.get (PhF b true) ≠ 5 then
      let y := v.yard
      let s := (s.modBay b fun v => { v with
        st := .off, yard := (Config.serviceYard b).getD 127, failFenced := false, failKind := 0 }).recBay b
      let s := if y < Config.yardCount then s.refreshSegments y else s
      match Config.serviceYard b with
      | some z => if s.domState z ≤ 3 ∧ s.runBays z ≠ [] then s.modBay b fun v => { v with releasing := true } else s
      | none => s
    else s

/-! ### Set-points of a yard (R39, R61, R73, R228, R229) -/

/-- Slew time of a change of n codes, half nanoseconds (R73, R120). -/
def slewTime (n slew : Nat) : Nat := ceilDiv (n * 2500) (slewRate slew)

/-- VIDnow: what the bays of the yard that follow set-points have slewed to (R73, R83). -/
def State.vidNow (s : State) (y : Nat) : Nat :=
  match (s.baysOf y).find? fun b => s.get (BAY_STATE.STATE b) == 3 || s.get (BAY_STATE.STATE b) == 2 || s.get (BAY_STATE.STATE b) == 4 with
  | some b => s.bayVid b
  | none => 0

/-- The body-bias code of the band V lies in (R228). -/
def State.bandCode (s : State) (v : Nat) : Nat :=
  if v < s.get PWS_BIAS_BAND.LO then s.get PWS_BIAS_MAP.B0
  else if v < s.get PWS_BIAS_BAND.MID then s.get PWS_BIAS_MAP.B1
  else if v < s.get PWS_BIAS_BAND.HI then s.get PWS_BIAS_MAP.B2
  else s.get PWS_BIAS_MAP.B3

/-- The VIDeff target of D0 and D1 (R73). -/
def State.fullTarget (s : State) (y : Nat) : Nat :=
  s.clampVid y (s.get (YRD_VID.TARGET y) + s.get (YRD_OFFSETS.FLOOR_OFS y) + s.get (YRD_OFFSETS.PRERAISE y))

/-- Bias and assist for VIDnow and the target of D0 (R228, R229). -/
def State.setBias (s : State) (d : Nat) : State :=
  let now := s.vidNow d
  let want := s.fullTarget d
  (s.put (PWS_DOM.BIAS d) (s.bandCode (max now want))).put (PWS_DOM.ASSIST d)
    (if min now want < s.get PWS_ASSIST_TH.CODE then 1 else 0)

/-- Bias and assist follow VIDnow and the target in D0 and D1, and in a wake from its ramp on (R228, R229). -/
def State.refreshBias (s : State) (d : Nat) : State :=
  if s.get (PWS_DOM.TARGET d) ≤ 1 ∧ (s.dom d).volt = .full then s.setBias d else s

/-- The slew code of a wake (R223). -/
def State.wakeSlew (s : State) (d : Nat) : Nat :=
  if (s.dom d).deferred then s.get (YRD_WAKE.SLOW_SLEW d) else s.get (YRD_SLEW.SLEW d)

/-- The slew code of a SETPOINT word: on the ramp of a wake that of the wake, otherwise YRD_SLEW (R73, R223). -/
def State.slewCode (s : State) (y : Nat) : Nat := if (s.dom y).step = .ramp then s.wakeSlew y else s.get (YRD_SLEW.SLEW y)

/-- The yard's set-point is on its way to code 40 (R227 step 6), and no SETPOINT turns it. -/
def State.setLow (s : State) (y : Nat) : Bool := decide ((s.dom y).volt = .low)

/-- A SETPOINT of a code is withheld from a yard in all hands (R61), and while the yard's frequency is unknown where it would lower
the voltage (R39). -/
def State.withheld (s : State) (y code : Nat) : Bool :=
  s.on (YRD_STATUS.ALL_HANDS y) || (s.yard y).fUnknown && decide (code < (s.yard y).vidHold)

/-- A raise whose SETPOINT had been withheld waits from the word that carries it: for the slew and the settle time (R120). -/
def State.startWait (s : State) (y code : Nat) : State :=
  match (s.yard y).vfWait with
  | some w =>
    if w.readyAt.isSome then s
    else
      let ready := s.mono + slewTime (code - s.vidNow y) (s.get (YRD_SLEW.SLEW y)) + ns (10 * s.get (YRD_VF.SETTLE y))
      s.setYard y { s.yard y with vfWait := some { w with readyAt := some ready } }
  | none => s

/-- A SETPOINT of a code goes to the yard's bays, or is withheld (R39, R61, R73). -/
def State.orderSet (s : State) (y code slew : Nat) : State :=
  if s.withheld y code then s.setYard y { s.yard y with setHeld := true }
  else
    ((if (s.yard y).fUnknown then s.setYard y { s.yard y with vidHold := code } else s).startWait y code).sendYard y
      (setpointWord y code slew)

/-- Oteus sends the yard's SETPOINT (R73), unless a segment of the yard is silent (R72) or the yard ramps down to D4. -/
def State.sendSetpoint (s : State) (y : Nat) : State :=
  if s.setFrozen y || s.setLow y then s else s.orderSet y (s.videff y) (s.slewCode y)

/-- Oteus delivers the yard's set-point: bias and assist follow it, and a SETPOINT goes out (R73, R228). -/
def State.deliver (s : State) (y : Nat) : State := (s.refreshBias y).sendSetpoint y

/-- The yard's PRESET, withheld in all hands (R61). -/
def State.sendPreset (s : State) (y : Nat) : State :=
  if s.on (YRD_STATUS.ALL_HANDS y) then s.setYard y { s.yard y with preHeld := true }
  else s.sendYard y (presetWord y (s.get (YRD_OFFSETS.PREBIAS y)))

/-! ### Remounts (R76) -/

/-- The neighbour yard of a remount on a side: false the lower index, true the higher (R67, R75). -/
def remountYard (b : Nat) (side : Bool) : Option Nat := (Config.remountLow b).map fun y => if side then y + 1 else y

/-- The yard's state lets a remount be switched in: D0 to D2, or a wake past its soft-start (R76). -/
def State.joinable (s : State) (y : Nat) : Bool := s.domState y ≤ 2 || (s.dom y).volt == .full && (s.dom y).step != .ramp

/-- REMOUNT CONNECT: a remount that is OFF, and not assigned to its other neighbour, enters CONNECT, its yard's state allowing
(R76 step 0). -/
def decodeConnect (seg slot : Nat) (side : Bool) (crc : BitVec 4) (s : State) : State :=
  s.decodeWord seg (withCrc (remountWord slot side true) crc) (bySlot seg slot) fun s b =>
    match remountYard b side with
    | none => s
    | some y =>
      let v := s.bay b
      if v.st = .off ∧ v.discStep = 0 ∧ v.yard = 127 ∧ (v.assigned = none ∨ v.assigned = some y) ∧ s.joinable y then
        (s.modBay b fun v => { v with st := .connect, connStep := 0, connTo := y, assigned := none }).recState b
      else s

/-- REMOUNT DISCONNECT (R76): aborts a switch-in, or takes a connected remount out of its yard. -/
def decodeDisconnect (seg slot : Nat) (side : Bool) (crc : BitVec 4) (s : State) : State :=
  s.decodeWord seg (withCrc (remountWord slot side false) crc) (bySlot seg slot) fun s b =>
    let v := s.bay b
    if !(Config.remountLow b).isSome then s
    else if v.st = .connect then s.abortConnect b .off stDone
    else if v.yard ≠ 127 ∧ v.discStep = 0 then s.startDisconnect b (if v.st = .fenced then .fenced else .off)
    else s

/-- A timed step of the switch-in (R76 steps 1-5): none in a bay that holds course, which keeps its phase states (R72). At step 4 a
SETPOINT and a PRESET go out, or are withheld as any of the yard (R39, R61). Where a step's condition does not hold the bay waits for it,
but for the precharge (DESIGN CHOICE, assumption log 39). -/
def connectStep (b : Nat) (ok : Bool) (s : State) : State :=
  let v := s.bay b
  if v.st = .connect ∧ v.discStep = 0 then
    if v.holding then s
    else if v.connStep = 0 then (if ok then s.setBay b { v with connStep := 1 } else s)
    else if v.connStep = 1 then s.setBay b { v with connStep := 2 }
    else if v.connStep = 2 then
      if ok then
        let s := ((s.markVid b).modBay b fun v => { v with connStep := 3, yard := v.connTo }).recState b
        s.refreshSegments v.connTo
      else
        let s := (s.setBay b { (v.event evPROT) with st := .off, connStep := 0, connTo := 127, cmdTags := [] }).recState b
        s.finishAll v.cmdTags stFailed
    else
      let y := v.connTo
      let s := s.put (BAY_SHARE.reg b) 0
      let s := (s.sendSetpoint y).sendPreset y
      ((s.modBay b fun v => { v.toRun true with connStep := 4 })).recBay b
  else if v.st = .run ∧ v.connStep = 4 then
    let s := (s.setBay b { v with connStep := 0, cmdTags := [] }).belowMinCheck v.connTo
    (s.bump (YRD_CNT_REMOUNT.COUNT v.connTo)).finishAll v.cmdTags stDone
  else s

/-- A timed step of a disconnect: at 1 µs it gives up the yard, at 4 µs the switch opens, at 5 µs it is OFF (R76). -/
def disconnectStep (b : Nat) (s : State) : State :=
  let v := s.bay b
  if v.discStep = 1 then
    let s := ((s.markVid b).modBay b fun v => { (v.phases Phase.off) with discStep := 2, yard := 127, allHands := false, slewAt := s.mono }).recPhases b
    let s := s.put (BAY_STATE.YARD b) 127
    if v.yard < Config.yardCount then s.refreshSegments v.yard else s
  else if v.discStep = 2 then s.setBay b { v with discStep := 3 }
  else if v.discStep = 3 then
    let s := ((s.markVid b).modBay b fun v => { v with discStep := 0, st := v.discTo, connTo := 127, cmdTags := [] }).recState b
    s.finishAll v.cmdTags (if v.discTo = .off then stDone else stFailed)
  else s

/-! ### Bay registers (R68) -/

/-- CFG_WR. R68 does not say what a bay does with a value outside its range (offset −32, WIN 15, TH below 8 or above 48): it stores the
value (DESIGN CHOICE, assumption log 39). -/
def decodeCfgWr (seg slot reg : Nat) (data : BitVec 12) (crc : BitVec 4) (s : State) : State :=
  s.decodeWord seg (withCrc (cfgWrWord slot reg data.toNat) crc) (bySlot seg slot) fun s b =>
    let d := data.toNat
    if reg = 1 then s.modBay b fun v => { v with events := v.events &&& ~~~(BitVec.ofNat 8 d) }
    else if reg = 2 then s.modBay b fun v => { v with win := d % 16 }
    else if reg = 3 then s.modBay b fun v => { v with th := d % 64 }
    else if reg = 4 then s.put (BAY_SHARE.PH0_OFS b) d
    else if reg = 5 then s.put (BAY_SHARE.PH1_OFS b) d
    else if reg = 6 then s.modBay b fun v => { v with equal := d }
    else s

/-- CFG_RD: the bay answers in its event slot (R71). -/
def decodeCfgRd (seg slot reg : Nat) (crc : BitVec 4) (s : State) : State :=
  s.decodeWord seg (withCrc (cfgRdWord slot reg) crc) (bySlot seg slot) fun s b => s.modBay b fun v => { v with answer := some reg }

/-- What a bay register reads (R68); reserved ones have no value: 0. -/
def State.bayReg (s : State) (b reg : Nat) : Nat :=
  let v := s.bay b
  if reg = 0 then v.st.code + v.p0.st.code * 8 + v.p1.st.code * 64 + v.failKind * 512 + v.allHands.toNat * 2048
  else if reg = 1 then v.events.toNat
  else if reg = 2 then v.win
  else if reg = 3 then v.th
  else if reg = 4 then s.get (BAY_SHARE.PH0_OFS b)
  else if reg = 5 then s.get (BAY_SHARE.PH1_OFS b)
  else if reg = 6 then v.equal
  else 0

/-! ### Droop and all hands (R61) -/

/-- The yard's all-hands net is asserted: a comparator of the yard is tripped (R61 rule 2). -/
def State.net (s : State) (y : Nat) : Bool := (reach y).any fun b => (s.bay b).yard == y && (s.bay b).compTripped

/-- A bay enters all hands, or its 200 ns restart (R61 rules 3, 4). -/
def State.enterAllHands (s : State) (b : Nat) : State :=
  if (s.bay b).allHands ∨ (s.bay b).discStep ≠ 0 then s
  else
    let s := s.markVid b
    let v := s.bay b
    let save (p : Phase) : Phase :=
      if p.st.out then p
      else { p with saved := (if p.st = .shedPrep then .active else p.st), st := .active, addStored := false
                    part := p.part || p.st != .active && p.st != .shedPrep }
    let v' := if v.st = .fenced ∨ v.st = .protect ∨ v.st = .absent then v else v.phases save
    (s.setBay b { v' with allHands := true }).bump (BAY_CNT_TRIP.TRIPS b)

/-- A droop comparator trips (R61 rules 1-4, 6). -/
def droopTripEff (b : Nat) (s : State) : State :=
  let v := s.bay b
  if Config.anchorOf b = 0 ∨ v.compTripped then s
  else
    let y := v.yard
    let rising := !s.net y
    let s := s.setBay b ({ v with compTripped := true }.event evTRIP)
    if rising then
      let members := (reach y).filter fun b => (s.bay b).yard == y
      let s := if members.any (fun b => (s.bay b).allHands) then s else (s.setYard y { s.yard y with repHands := true }).bump (YRD_CNT_ALLHANDS.COUNT y)
      members.foldl State.enterAllHands s
    else s

/-- A droop comparator clears (R61 rule 1). -/
def droopClearEff (b : Nat) (s : State) : State := s.modBay b fun v => { v with compTripped := false }

/-- A stored ADD takes effect at the end of all hands, but that of a floor whose horizon has passed (R22, R61 rule 4). -/
def Phase.adds (p : Phase) (now : Nat) : Bool := p.addStored && p.addUntil.all (now ≤ ·)

/-- The phases of a bay return from all hands, with the ADD orders stored for a bay in RUN or READY (R61 rule 5). In PROTECT they
stay off, and the bay's return to its prior state finds them so; in a DISCONNECT the sheds stand (R76). -/
def Bay.leaveAllHands (v : Bay) (now : Nat) : Bay :=
  if v.st = .fenced ∨ v.st = .absent then v
  else if v.discStep ≠ 0 then v.phases fun p => { p with addStored := false }
  else if v.st = .protect then
    let takes := v.prior == .run || v.prior == .ready
    let own (p : Phase) (st : PhSt) : PhSt := if p.adds now ∧ takes ∧ !p.st.out then .active else st
    { (v.phases fun p => { p with addStored := false }) with prior0 := own v.p0 v.prior0, prior1 := own v.p1 v.prior1 }
  else
    let takes := v.st == .run || v.st == .ready
    let back (p : Phase) : Phase :=
      if p.st.out then { p with addStored := false }
      else if p.adds now ∧ takes then { ({ p with st := p.saved } : Phase).activate with addStored := false }
      else { p with st := p.saved, addStored := false, part := p.part || p.saved != .active }
    (v.phases back).readyRuns

/-- A bay leaves all hands (R61 rules 3-5): phases return, stored orders and words take effect, but a floor, pre-bias or
pre-raise whose horizon has passed by then (R22). -/
def allHandsEndEff (b : Nat) (s : State) : State :=
  let v := s.bay b
  if !v.allHands ∨ s.net v.yard then s
  else
    let s := (s.setBay b { v.leaveAllHands s.sysTime with
      allHands := false, storedTrim := none, storedSet := none, storedPre := none, slewAt := s.mono }).recPhases b
    let s := if (s.bay b).st = v.st then s else s.recState b
    let s := s.put (BAY_STATE.ALL_HANDS b) 0
    let s := match v.storedSet with | some w => s.takeSet b (w.inForce s.sysTime) w.slew | none => s
    let s := match v.storedTrim with | some t => s.takeTrim b t | none => s
    match v.storedPre with | some (p, h) => if h.all (s.sysTime ≤ ·) then s.takePreset b p else s | none => s

/-! ### Timers and self-protection (R60, R62-R64) -/

/-- SHED_STOP: a SHED_PREP phase stops and becomes WARM (R60); in a bay that holds course it stays as it is (R72). -/
def shedStopEff (b : Nat) (ph : Bool) (s : State) : State :=
  let v := s.bay b
  if (v.ph ph).st = .shedPrep ∧ !v.holding then
    let n := s.shedSeq + 1
    (({ s with shedSeq := n }).setBay b (v.setPh ph { v.ph ph with st := .warm, saved := .warm, part := true, shedAt := n })).recPhase b ph
  else s

/-- PHASE_COLD: a WARM phase becomes COLD (R60), but in a bay that holds course (R72). -/
def phaseColdEff (b : Nat) (ph : Bool) (s : State) : State :=
  let v := s.bay b
  if (v.ph ph).st = .warm ∧ !v.holding then (s.setBay b (v.setPh ph { v.ph ph with st := .cold })).recPhase b ph else s

/-- TRIPPED: 16 consecutive limited cycles turn a conducting phase off (R62). -/
def trippedEff (b : Nat) (ph : Bool) (s : State) : State :=
  let v := s.bay b
  let p := v.ph ph
  if p.st = .active ∨ p.st = .shedPrep then
    s.setBay b ((v.setPh ph { p with st := .tripped, trips := (s.mono :: p.trips).take 3 }).event evPROT)
  else s

/-- OVERLOAD sets only its own event (R62). -/
def bayOverloadEff (b : Nat) (s : State) : State := if Config.bayFitted b then s.bayEvent b evOVERLOAD else s

/-- A bay puts itself in PROTECT: both phases off (R62). Each cause sets PROT, in a bay in PROTECT or FENCED already too. -/
def State.protect (s : State) (b : Nat) : State :=
  let v := s.bay b
  let off (p : Phase) : Phase := { p with st := if p.st.out then p.st else .cold }
  match v.st with
  | .absent => s
  | .fenced | .protect => s.bayEvent b evPROT
  | _ => (s.markVid b).modBay b fun v => { (v.phases off) with
      prior := v.st, prior0 := v.ownSt v.p0, prior1 := v.ownSt v.p1, st := .protect }.event evPROT

/-- INPUT_LOW (R62); a fenced bay has both phases off, and the trip only sets its event. -/
def inputLowEff (b : Nat) (s : State) : State := s.protect b

/-- OUTPUT_HIGH: an anchor's check, which a fenced anchor keeps (R62, R211). -/
def outputHighEff (b : Nat) (s : State) : State := if Config.anchorOf b = 0 then s else s.protect b

/-- A phase of a bay that leaves PROTECT: as it was, conducting where the bay is in all hands (R61 rule 4, R62). One that was in
SHED_PREP has stopped and is WARM (DESIGN CHOICE, assumption log 38). An ACTIVE one was off for part of the superframe (R109). -/
def Phase.back (p : Phase) (st : PhSt) (hands : Bool) : Phase :=
  let own : PhSt := if st = .shedPrep then .warm else st
  if p.st.out then p
  else { p with st := if hands then .active else own, saved := if hands then own else p.saved, part := p.part || hands || own == .active }

/-- PROTECT_RETURN: the bay returns to its prior state (R62). Oteus's record takes it at the return itself (DESIGN CHOICE, assumption
log 38): no EVENT word reports it. -/
def protectReturnEff (b : Nat) (s : State) : State :=
  let v := s.bay b
  if v.st = .protect then
    ((s.markVid b).modBay b fun v =>
      let v' := { v with st := v.prior, p0 := v.p0.back v.prior0 v.allHands, p1 := v.p1.back v.prior1 v.allHands }
      if v.allHands then v' else v'.readyRuns).recBay b
  else s

/-- Code of a fail kind (R64). -/
def failCode : FailKind → Nat
  | .openPhase => 1 | .stuck => 2 | .implausible => 3

/-- A bay declares a phase FAILED and turns it off (R64); warming operation raises no IMPLAUSIBLE. The readings of this superframe are
kept (R110). -/
def phaseFailedEff (b : Nat) (ph : Bool) (kind : FailKind) (s : State) : State :=
  let v := s.bay b
  if v.st = .absent ∨ (v.ph ph).st = .failed ∨ kind = .implausible ∧ v.st = .heat then s
  else
    let i := (s.getI (BAY_IMON.PH0_I b), s.getI (BAY_IMON.PH1_I b))
    s.setBay b (({ v with failKind := failCode kind, failRead := some i, failOpen := true }.setPh ph { v.ph ph with st := .failed }).event (if ph then evPH1 else evPH0))

/-! ### Superframes (R66-R72) -/

/-- The sharing word j, 1-10, from the deltas the last jobs computed (R68, R109). -/
def State.sharingWord (s : State) (seg j : Nat) : Word :=
  pack ((List.range 8).flatMap fun i =>
    let v := s.bay (80 * seg + 8 * (j - 1) + i)
    [(v.p0.delta.toNat, 4 * i), (v.p1.delta.toNat, 4 * i + 2)])

/-- The ten sharing words of a segment. -/
def State.sharingWords (s : State) (seg : Nat) : List Word := (List.range 10).map fun j => s.sharingWord seg (j + 1)

/-- The sharing words of the superframe before have gone by (R66, R68). -/
def State.clearShared (s : State) (seg : Nat) : State :=
  { s with sent := s.sent.filter fun e => !(e.share && e.seg == seg) }

/-- The next bay in RUN for the keep-alive read, by slot in turn (R72). -/
def State.nextKeepAlive (s : State) (seg : Nat) : Option Nat :=
  let running := (segBays seg).filter fun b => s.get (BAY_STATE.STATE b) == 3
  let t := Tab.get (fun _ => 0) s.turn seg
  match running.find? fun b => t ≤ b % 80 with
  | some b => some b
  | none => running.head?

/-- SUPERFRAME: SYNC with the CRC-16 of the sharing words, the ten words, and the keep-alive read (R66, R67, R72). -/
def superframeEff (seg : Nat) (s : State) : State :=
  if Config.segments ≤ seg then s
  else
    let n := Tab.get (fun _ => 0) s.sfn seg
    let words := s.sharingWords seg
    let s := s.clearShared seg
    let s := s.send seg (syncWord n (shareCrc words))
    let s := { s with sent := s.sent ++ words.map (Sent.mk seg · true), sfn := Tab.set (fun _ => 0) s.sfn seg ((n + 1) % 256)
                      sfAt := Tab.set (fun _ => 0) s.sfAt seg s.sysTime, sfMono := Tab.set (fun _ => 0) s.sfMono seg s.mono }
    let clear (p : Phase) : Phase :=
      { p with delta := 0, partly := p.part, part := false, freshOld := p.fresh, fresh := false }
    let s := (segBays seg).foldl (fun s b => s.modBay b fun v => { v.phases clear with shared := false, failOpen := false }) s
    match s.nextKeepAlive seg with
    | none => { s with silent := Tab.set (fun _ => 0) s.silent seg 0 }
    | some b =>
      let s := s.sendBay b (cfgRdWord · 0)
      { s with turn := Tab.set (fun _ => 0) s.turn seg (b % 80 + 1)
               silent := Tab.set (fun _ => 0) s.silent seg (Tab.get (fun _ => 0) s.silent seg + 1) }

/-- A bay misses SYNC (R72): SYNC_LOST, and after four misses it holds course. -/
def State.missSync (s : State) (b : Nat) (badCrc : Bool) : State :=
  let lost := !(s.bay b).holding && decide (4 ≤ (s.bay b).missed + 1)
  let s := (if lost then s.markVid b else s).modBay b fun v =>
    { (v.event evSYNC) with missed := v.missed + 1, holding := v.holding || lost, syncCrc := none }
  if badCrc then s.busErr b else s

/-- SYNC_LOST. -/
def syncLostEff (b : Nat) (badCrc : Bool) (s : State) : State :=
  if Config.bayFitted b ∧ !(s.bay b).silent then s.missSync b badCrc else s

/-- SYNC: each bay of the segment takes the CRC-16 and resumes if it held course; a SYNC that fails its CRC-4 counts as
missed (R72). -/
def syncEff (seg : Nat) (sfn : BitVec 8) (share : BitVec 16) (crc : BitVec 4) (s : State) : State :=
  let w := withCrc (syncWord sfn.toNat share.toNat) crc
  let s := { s with sent := takeSent seg w s.sent }
  let bays := (segBays seg).filter fun b => !(s.bay b).silent
  if fbbOk w then
    bays.foldl (fun s b => s.modBay b fun v =>
      { (if v.holding then { v.event evSYNC with slewAt := s.mono } else v) with syncCrc := some share, missed := 0, holding := false }) s
  else bays.foldl (fun s b => s.missSync b true) s

/-- A share offset after a 2-bit delta: hold, +1, to zero, −1, saturating at ±31 (R68). -/
def applyDelta (ofs : Int) (d : Nat) : Int :=
  if d = 1 then min 31 (ofs + 1) else if d = 3 then max (-31) (ofs - 1) else if d = 2 then 0 else ofs

/-- SHARING_APPLY: the bay applies its deltas if the words' CRC-16 matches its SYNC (R61, R68, R72). -/
def sharingApplyEff (b : Nat) (words : List Word) (s : State) : State :=
  let v := s.bay b
  if !Config.bayFitted b ∨ v.holding ∨ v.silent then s
  else
    match v.syncCrc with
    | none => s
    | some c =>
      if shareCrc words ≠ c.toNat then s.busErr b
      else if v.allHands then s
      else
        let slot := b % 80
        let w := (words.getD (slot / 8) 0).toNat / 2 ^ (4 * (slot % 8))
        (s.putI (BAY_SHARE.PH0_OFS b) (applyDelta (s.getI (BAY_SHARE.PH0_OFS b)) (w % 4))).putI (BAY_SHARE.PH1_OFS b)
          (applyDelta (s.getI (BAY_SHARE.PH1_OFS b)) (w / 4 % 4))

/-! ### The commands -/

/-- SYNC. -/
def execSync (seg : Nat) (sfn : BitVec 8) (shareCrc : BitVec 16) (crc : BitVec 4) (s : State) : Out :=
  s.after (syncEff seg sfn shareCrc crc s)

/-- SYNC_LOST. -/
def execSyncLost (bay : Nat) (badCrc : Bool) (s : State) : Out :=
  s.after (syncLostEff bay badCrc s)

/-- SHARING_APPLY. -/
def execSharingApply (bay : Nat) (words : List Word) (s : State) : Out :=
  s.after (sharingApplyEff bay words s)

/-- TRIM. -/
def execTrim (seg : Nat) (yard : Nat) (trim : BitVec 12) (crc : BitVec 4) (s : State) : Out :=
  s.after (decodeTrim seg yard trim crc s)

/-- SETPOINT. -/
def execSetpoint (seg : Nat) (yard : Nat) (code : Nat) (slew : Nat) (crc : BitVec 4) (s : State) : Out :=
  s.after (decodeSetpoint seg yard code slew crc s)

/-- PRESET. -/
def execPreset (seg : Nat) (yard : Nat) (prebias : Nat) (crc : BitVec 4) (s : State) : Out :=
  s.after (decodePreset seg yard prebias crc s)

/-- ADD. -/
def execAdd (seg : Nat) (slot : Nat) (ph1 : Bool) (ph0 : Bool) (crc : BitVec 4) (s : State) : Out :=
  s.after (decodeAdd seg slot ph1 ph0 crc s)

/-- SHED_PREP. -/
def execShedPrep (seg : Nat) (slot : Nat) (ph1 : Bool) (ph0 : Bool) (crc : BitVec 4) (s : State) : Out :=
  s.after (decodeShedPrep seg slot ph1 ph0 crc s)

/-- CANCEL. -/
def execCancel (seg : Nat) (slot : Nat) (ph1 : Bool) (ph0 : Bool) (crc : BitVec 4) (s : State) : Out :=
  s.after (decodeCancel seg slot ph1 ph0 crc s)

/-- CLEAR_TRIP. -/
def execClearTrip (seg : Nat) (slot : Nat) (ph1 : Bool) (ph0 : Bool) (crc : BitVec 4) (s : State) : Out :=
  s.after (decodeClearTrip seg slot ph1 ph0 crc s)

/-- BAY_STATE_OFF. -/
def execBayStateOff (seg : Nat) (slot : Nat) (crc : BitVec 4) (s : State) : Out :=
  s.after (decodeOff seg slot crc s)

/-- BAY_STATE_READY. -/
def execBayStateReady (seg : Nat) (slot : Nat) (crc : BitVec 4) (s : State) : Out :=
  s.after (decodeReady seg slot crc s)

/-- BAY_STATE_RUN. -/
def execBayStateRun (seg : Nat) (slot : Nat) (crc : BitVec 4) (s : State) : Out :=
  s.after (decodeRun seg slot crc s)

/-- BAY_STATE_HEAT. -/
def execBayStateHeat (seg : Nat) (slot : Nat) (crc : BitVec 4) (s : State) : Out :=
  s.after (decodeHeat seg slot crc s)

/-- BAY_STATE_FENCE. -/
def execBayStateFence (seg : Nat) (slot : Nat) (crc : BitVec 4) (s : State) : Out :=
  s.after (decodeFence seg slot crc s)

/-- BAY_STATE_RELEASE. -/
def execBayStateRelease (seg : Nat) (slot : Nat) (crc : BitVec 4) (s : State) : Out :=
  s.after (decodeRelease seg slot crc s)

/-- REMOUNT_CONNECT. -/
def execRemountConnect (seg : Nat) (slot : Nat) (side : Bool) (crc : BitVec 4) (s : State) : Out :=
  s.after (decodeConnect seg slot side crc s)

/-- REMOUNT_DISCONNECT. -/
def execRemountDisconnect (seg : Nat) (slot : Nat) (side : Bool) (crc : BitVec 4) (s : State) : Out :=
  s.after (decodeDisconnect seg slot side crc s)

/-- REMOUNT_DISCONNECT_STEP. -/
def execRemountDisconnectStep (bay : Nat) (s : State) : Out :=
  s.after (disconnectStep bay s)

/-- CFG_WR. -/
def execCfgWr (seg : Nat) (slot : Nat) (reg : Nat) (data : BitVec 12) (crc : BitVec 4) (s : State) : Out :=
  s.after (decodeCfgWr seg slot reg data crc s)

/-- CFG_RD. -/
def execCfgRd (seg : Nat) (slot : Nat) (reg : Nat) (crc : BitVec 4) (s : State) : Out :=
  s.after (decodeCfgRd seg slot reg crc s)

/-- DROOP_TRIP. -/
def execDroopTrip (bay : Nat) (s : State) : Out :=
  s.after (droopTripEff bay s)

/-- DROOP_CLEAR. -/
def execDroopClear (bay : Nat) (s : State) : Out :=
  s.after (droopClearEff bay s)

/-- ALL_HANDS_END. -/
def execAllHandsEnd (bay : Nat) (s : State) : Out :=
  s.after (allHandsEndEff bay s)

/-- SHED_STOP. -/
def execShedStop (bay : Nat) (ph : Bool) (s : State) : Out :=
  s.after (shedStopEff bay ph s)

/-- PHASE_COLD. -/
def execPhaseCold (bay : Nat) (ph : Bool) (s : State) : Out :=
  s.after (phaseColdEff bay ph s)

/-- TRIPPED. -/
def execTripped (bay : Nat) (ph : Bool) (s : State) : Out :=
  s.after (trippedEff bay ph s)

/-- BAY_OVERLOAD. -/
def execBayOverload (bay : Nat) (s : State) : Out :=
  s.after (bayOverloadEff bay s)

/-- INPUT_LOW. -/
def execInputLow (bay : Nat) (s : State) : Out :=
  s.after (inputLowEff bay s)

/-- OUTPUT_HIGH. -/
def execOutputHigh (bay : Nat) (s : State) : Out :=
  s.after (outputHighEff bay s)

/-- PROTECT_RETURN. -/
def execProtectReturn (bay : Nat) (s : State) : Out :=
  s.after (protectReturnEff bay s)

/-- PHASE_FAILED. -/
def execPhaseFailed (bay : Nat) (ph : Bool) (kind : FailKind) (s : State) : Out :=
  s.after (phaseFailedEff bay ph kind s)

end Sys2Proof.Machine
end

