-- ==== Sys2Proof/Machine/Speed.lean ====
section
/-!
DEFINITION. Set-points and speed orders (R39, R73, R120, R121, R434): delivery of a set-point, the order of voltage and
frequency, the queue of speed requests and the handshake on the speed order port.
-/

namespace Sys2Proof.Machine

/-- A yard is in the maintenance state, as SXT_MAINT_NOW shows (R184). -/
def State.inMaint (s : State) (y : Nat) : Bool := s.on (Fld.bit SXT_MAINT_NOW.YARD y)

/-- Highest FRATIO a speed order carries: 127, which is 50 %, outside way-on service (R26, R266, R361). -/
def State.fratioMax (s : State) : Nat := if s.inWayOn then 255 else 127

/-- What was withheld from a yard goes out: its SETPOINT, or that of its ramp down to D4, and its PRESET (R39, R61). -/
def State.releaseSet (s : State) (y : Nat) : State :=
  let v := s.yard y
  let s := if v.setHeld ∨ v.preHeld then s.setYard y { v with setHeld := false, preHeld := false } else s
  let s := if !v.setHeld then s else if s.setLow y then s.orderSet y 40 (s.get (YRD_SLEW.SLEW y)) else s.deliver y
  if v.preHeld then s.sendPreset y else s

/-- At the end of all hands a pre-bias and a pre-raise that were withheld do not take effect where their horizon has passed (R22). -/
def State.dropPassed (s : State) (y : Nat) : State :=
  match (s.yard y).cur with
  | none => s
  | some c =>
    if s.sysTime ≤ c.horizon then s
    else
      let v := s.yard y
      let p : Presets := { v.presets with
        prebias := if v.preHeld then 0 else v.presets.prebias, raise := if v.setHeld then 0 else v.presets.raise }
      ((s.setYard y { v with presets := p }).put (YRD_OFFSETS.PREBIAS y) p.prebias).put (YRD_OFFSETS.PRERAISE y) p.raise

/-- A SETPOINT where the VIDeff target is no longer what it was in a state before (R73). -/
def State.redeliver (s s0 : State) (y : Nat) : State := if s.videff y = s0.videff y then s else s.deliver y

/-- A yard's raised floor, held back while the yard could not take it, enters VIDeff (R210 step 3). -/
def State.takeFloor (s : State) (y : Nat) : State :=
  let s := s.setYard y { s.yard y with floorWait := false }
  (s.put (YRD_OFFSETS.FLOOR_OFS y) (s.get (FAR_YSTAT.FLOOR y))).redeliver s y

/-- A floor that waits is looked at: in D0 to D2 it enters VIDeff; in D3 the retention code alone rises with it, from what it was in a
state before, and D3 and D4 take it at their wake (R210 step 3, R234). None enters VIDeff while Oteus holds course (R380). -/
def State.freeFloor (s s0 : State) (y : Nat) : State :=
  if !(s.yard y).floorWait ∨ (s.yard y).maintHold then s
  else if s.domState y ≤ 2 ∧ !s.courseHeld then s.takeFloor y
  else s.redeliver s0 y

/-- A wake takes the floor that waited for it (R210). -/
def State.wakeFloor (s : State) (y : Nat) : State :=
  if (s.yard y).floorWait ∧ !(s.yard y).maintHold ∧ !s.courseHeld then
    (s.setYard y { s.yard y with floorWait := false }).put (YRD_OFFSETS.FLOOR_OFS y) (s.get (FAR_YSTAT.FLOOR y))
  else s

/-- YRD_VID.TARGET takes a code and is delivered (R73). -/
def State.setTarget (s : State) (y code : Nat) : State := (s.put (YRD_VID.TARGET y) code).redeliver s y

/-- A speed request joins the queue in the order in which requests were made, replacing an older one of its yard (R121). -/
def State.enqueueSpeed (s : State) (r : SpeedReq) : State :=
  let q := s.soQueue.filter fun (q : SpeedReq) => q.yard != r.yard
  { s with soQueue := (q.filter fun x => x.at_ ≤ r.at_) ++ r :: q.filter fun x => r.at_ < x.at_ }

/-- A yard's pending request leaves the queue. -/
def State.dequeueSpeed (s : State) (y : Nat) : State :=
  { s with soQueue := s.soQueue.filter fun (q : SpeedReq) => q.yard != y }

/-- An order of the yard is in flight (R121). -/
def State.speedFlying (s : State) (y : Nat) : Bool := s.soFly.any fun f => f.req.yard == y

/-- Frequency and issue rate that a yard has, or will have once its order in flight is in effect (R121). -/
def State.speedAfter (s : State) (y : Nat) : Nat × Nat :=
  match s.soFly with
  | some f => if f.req.yard = y then (f.req.fratio, f.req.thr) else ((s.yard y).fratio, (s.yard y).thr)
  | none => ((s.yard y).fratio, (s.yard y).thr)

/-- An order lowers a yard's frequency or issue rate (R121). -/
def State.speedLowers (s : State) (y fratio thr : Nat) : Bool :=
  decide (fratio < (s.speedAfter y).1) || decide (thr < (s.speedAfter y).2)

/-- The SETPOINT of a raise could not go out: it is withheld, or a segment of the yard is silent (R39, R61, R72). -/
def State.setStuck (s : State) (y : Nat) : Bool := (s.yard y).setHeld || s.setFrozen y

/-- Oteus asks for a point and an issue rate for a yard (R120, R121, R249, R434), at a time `at_`. `vid` is the point's code; none for a
yard whose orders change only the issue rate. A request that meets the yard's order in flight waits for its end, from which it is
judged. A change of the issue rate waits for no voltage; a raise, whose slew and settle time count from its SETPOINT, does. -/
def State.requestAt (s : State) (at_ y fratio thr : Nat) (vid : Option Nat) : State :=
  let v := s.yard y
  let lowers := s.speedLowers y fratio thr
  match vid with
  | none => s.enqueueSpeed ⟨y, fratio, thr, none, lowers, at_⟩
  | some code =>
    if s.speedFlying y then
      (s.setYard y { v with vfWait := none, speedNext := some ⟨y, fratio, thr, vid, false, at_⟩ }).dequeueSpeed y
    else if v.fratio < fratio then
      let old := s.videff y
      let s := if s.get (YRD_VID.TARGET y) < code then (s.setYard y { v with vfWait := none }).setTarget y code else s
      let ready := s.mono + slewTime (s.videff y - old) (s.get (YRD_SLEW.SLEW y)) + ns (10 * s.get (YRD_VF.SETTLE y))
      let s := s.setYard y { s.yard y with vfWait := some ⟨fratio, thr, vid, if s.setStuck y then none else some ready, at_⟩ }
      if thr = v.thr then s.dequeueSpeed y else s.enqueueSpeed ⟨y, v.fratio, thr, none, decide (thr < v.thr), at_⟩
    else
      let s := s.setYard y { v with vfWait := none }
      if fratio < v.fratio ∨ thr ≠ v.thr then s.enqueueSpeed ⟨y, fratio, thr, some code, lowers, at_⟩ else s.dequeueSpeed y

/-- A request made now. -/
def State.requestSpeed (s : State) (y fratio thr : Nat) (vid : Option Nat) : State := s.requestAt s.mono y fratio thr vid

/-- The request that waited for the yard's order in flight is judged once that has ended, as old as it is (R121). In the maintenance state
it lapses, and the layers ask again once that ends (R184). -/
def State.speedAgain (s : State) (y : Nat) : State :=
  match (s.yard y).speedNext with
  | none => s
  | some r =>
    let s := s.setYard y { s.yard y with speedNext := none }
    if s.inMaint y then s else s.requestAt r.at_ y r.fratio r.thr r.vid

/-- Condition 3 of R120, checked at a sampling instant once conditions 1 and 2 hold: the raise is placed; raises wait while Oteus holds course
(R380). -/
def State.vfCheck (s : State) (y : Nat) : State :=
  match (s.yard y).vfWait with
  | none => s
  | some w =>
    if w.readyAt.any (· ≤ s.mono) ∧ !s.courseHeld ∧ !s.inMaint y ∧ (s.getI (YRD_OUT.ERR y)).natAbs ≤ s.get (YRD_VF.TOL y) then
      let s := s.setYard y { s.yard y with vfWait := none }
      s.enqueueSpeed ⟨y, w.fratio, w.thr, w.vid, false, w.at_⟩
    else s

/-- A pending order may be placed: outside way-on none above 50 % (R26, R361), and in the maintenance state none that changes the yard's
frequency, but to that 50 % (R184). -/
def State.mayPlace (s : State) (r : SpeedReq) : Bool :=
  decide (r.fratio ≤ s.fratioMax) && (!s.inMaint r.yard || r.fratio == min s.fratioMax (s.yard r.yard).fratio)

/-- The request placed next: those that lower first, each kind oldest first (R121); while Oteus holds course, only those that
lower (R380). -/
def State.nextSpeed (s : State) : Option SpeedReq :=
  let q := s.soQueue.filter s.mayPlace
  match q.find? fun (r : SpeedReq) => r.lowers with
  | some r => some r
  | none => if s.courseHeld then none else q.head?

/-- SPEED_ORDER_PLACE: with no order in flight, the next request goes on the port and OT_SO_REQ toggles (R39, R121). -/
def speedOrderPlaceEff (s : State) : State :=
  match s.soFly, s.nextSpeed with
  | none, some r =>
    if s.soReq ≠ s.soAck then s
    else
      let s := s.setYard r.yard { s.yard r.yard with lastOrder := some r }
      { s with soQueue := s.soQueue.filter fun (q : SpeedReq) => q.yard != r.yard
               soFly := some ⟨r, false⟩, soReq := !s.soReq }
  | _, _ => s

/-- SO_ACK: OT_SO_ACK comes to equal OT_SO_REQ (R39). -/
def soAckEff (s : State) : State := { s with soAck := s.soReq }

/-- A speed order is in effect: its point holds, and a lower voltage follows a lower frequency (R39, R120), unless Oteus holds course
(R380) or the yard is in the maintenance state (R184). A frequency that was unknown is known again, and a decrease held back proceeds. -/
def State.speedInEffect (s : State) (r : SpeedReq) : State :=
  let unknown := (s.yard r.yard).fUnknown
  let s := s.setYard r.yard { s.yard r.yard with fratio := r.fratio, thr := r.thr, fUnknown := false }
  let s := match r.vid with
    | none => s
    | some code => if s.get (YRD_VID.TARGET r.yard) ≠ code ∧ !s.courseHeld ∧ !s.inMaint r.yard then s.setTarget r.yard code else s
  let s := if unknown ∧ !s.on (YRD_STATUS.ALL_HANDS r.yard) then s.releaseSet r.yard else s
  s.speedAgain r.yard

/-- SO_DONE (R39). -/
def soDoneEff (y : Nat) (s : State) : State :=
  match s.soFly with
  | some f =>
    if f.req.yard = y then { s with soFly := none }.speedInEffect f.req
    else if (s.yard y).fUnknown then
      match (s.yard y).lastOrder with
      | some r => s.speedInEffect r
      | none => s
    else s
  | none =>
    if (s.yard y).fUnknown then
      match (s.yard y).lastOrder with
      | some r => s.speedInEffect r
      | none => s
    else s

/-- SO_TIMEOUT: SO_TIMEOUT is raised and the order repeated once; after the repeat the frequency is unknown, and the voltage is held
(R39). The order is repeated at once, whatever the level of OT_SO_ACK (DESIGN CHOICE, assumption log 38). -/
def soTimeoutEff (s : State) : State :=
  match s.soFly with
  | none => s
  | some f =>
    let s := s.raise 0x03 [f.req.yard, f.req.fratio]
    if f.again then
      ({ s with soFly := none }.setYard f.req.yard { s.yard f.req.yard with
        fUnknown := true, vidHold := s.videff f.req.yard }).speedAgain f.req.yard
    else { s with soFly := some ⟨f.req, true⟩, soReq := !s.soReq }

/-- VF_WAIT_EXPIRY: a raise still held back sets VF_HOLD; it keeps checking (R120). -/
def vfWaitExpiryEff (y : Nat) (s : State) : State :=
  match (s.yard y).vfWait with
  | none => s
  | some _ => s.put (YRD_SHED_EVT.EVT y) (setBit (s.get (YRD_SHED_EVT.EVT y)) 4)

/-! ### The commands -/

/-- SPEED_ORDER_PLACE. -/
def execSpeedOrderPlace (s : State) : Out :=
  s.after (speedOrderPlaceEff s)

/-- SO_ACK. -/
def execSoAck (s : State) : Out :=
  s.after (soAckEff s)

/-- SO_DONE. -/
def execSoDone (yard : Nat) (s : State) : Out :=
  s.after (soDoneEff yard s)

/-- SO_TIMEOUT. -/
def execSoTimeout (s : State) : Out :=
  s.after (soTimeoutEff s)

/-- VF_WAIT_EXPIRY. -/
def execVfWaitExpiry (yard : Nat) (s : State) : Out :=
  s.after (vfWaitExpiryEff yard s)

end Sys2Proof.Machine
end

