-- ==== Sys2Proof/Machine/Sharing.lean ====
section
/-!
DEFINITION. Sharing, shedding and adding (R108-R117, R123): the sharing job of a bay, the phase count of a yard, what a
TRIP report and a preset add at once, thresholds, and the busy-neighbour check of a wake.
-/

namespace Sys2Proof.Machine

/-! ### Phases as Oteus's record has them (R78, R110, R112) -/

/-- A phase of a bay: (bay, phase); true is phase 1. -/
abbrev PhRef := Nat × Bool

/-- State code of a phase in the record. -/
def State.phSt (s : State) (p : PhRef) : Nat := s.get (PhF p.1 p.2)

/-- A phase that R110 froze. -/
def State.isFrozen (s : State) (p : PhRef) : Bool := ((s.bay p.1).ph p.2).frozen.isSome

/-- The report of a phase, 20 mA codes (R58). -/
def State.phI (s : State) (p : PhRef) : Int := s.getI (if p.2 then BAY_IMON.PH1_I p.1 else BAY_IMON.PH0_I p.1)

/-- Both phases of each bay of a list. -/
def bothPhases (l : List Nat) : List PhRef := l.flatMap fun b => [(b, false), (b, true)]

/-- The phases of the yard's bays in RUN. -/
def State.runPhases (s : State) (y : Nat) : List PhRef := bothPhases (s.runBays y)

/-- i_y − i_F: the reports of the yard's bays in RUN without those of frozen phases (R109). -/
def State.shareCurrent (s : State) (y : Nat) : Int := (((s.runPhases y).filter fun p => !s.isFrozen p).map s.phI).sum

/-- i_y: the sum of the reports of the yard's bays in RUN, 20 mA codes (R109). -/
def State.iy (s : State) (y : Nat) : Int := ((s.runPhases y).map s.phI).sum

/-- YRD_ILIM.CURRENT: the sum of the yard's bay reports in 0.1 A (R79), rounded down, 0 for a negative sum (DESIGN CHOICE, assumption
log 38). -/
def State.yardCurrent (s : State) (y : Nat) : Nat := (((bothPhases (s.baysOf y)).map s.phI).sum / 5).toNat

/-- Phases ACTIVE and not frozen; all phases in SHED_PREP (R113). -/
def State.actPhases (s : State) (y : Nat) : List PhRef := (s.runPhases y).filter fun p => s.phSt p == 2 && !s.isFrozen p
def State.prepPhases (s : State) (y : Nat) : List PhRef := (s.runPhases y).filter fun p => s.phSt p == 3

/-- YRD_STATUS.ACTIVE_PHASES: phases ACTIVE or in SHED_PREP (R79). -/
def State.activePhases (s : State) (y : Nat) : Nat :=
  ((bothPhases (s.baysOf y)).filter fun p => s.phSt p == 2 || s.phSt p == 3).length

/-- Available phases: not TRIPPED, FAILED or frozen, the bay in RUN or READY (R112). -/
def State.availPhases (s : State) (y : Nat) : List PhRef :=
  (bothPhases ((s.baysOf y).filter fun b => s.get (BAY_STATE.STATE b) == 3 || s.get (BAY_STATE.STATE b) == 2)).filter
    fun p => s.phSt p != 4 && s.phSt p != 5 && !s.isFrozen p

/-! ### Thresholds (R111) -/

/-- Shed and add thresholds, 20 mA codes, and the dwell, superframes. -/
def State.shedTh (s : State) (y : Nat) : Nat × Nat × Nat :=
  if s.inWayOn then
    if s.on (YRD_SHED_TH.OVERRIDE y) then (s.get (YRD_SHED_TH.SHED y), s.get (YRD_SHED_TH.ADD y), s.get (YRD_SHED_TH.DWELL y))
    else
      match s.get CAP_STATUS.MODE_NOW with
      | 0 => (15, 50, 32)
      | 2 => (20, 50, 16)
      | 3 => (35, 70, 4)
      | _ => (25, 60, 7)
  else (25, 60, 7)

/-! ### Choosing phases (R112, R115) -/

/-- The phases an add takes, in order: SHED_PREP, WARM most recently shed first, COLD lowest bay first. -/
def State.addOrder (s : State) (y : Nat) : List PhRef :=
  let av := sortBy (fun a b => decide (a.1 < b.1) || (a.1 == b.1 && (!a.2 || b.2))) (s.availPhases y)
  let seq (p : PhRef) : Nat := ((s.bay p.1).ph p.2).shedAt
  (av.filter fun p => s.phSt p == 3) ++ sortBy (fun a b => decide (seq b ≤ seq a)) (av.filter fun p => s.phSt p == 1)
    ++ av.filter fun p => s.phSt p == 0

/-- The phases a shed may take, in order: phase 1 first, non-anchors first, highest bay first. -/
def State.shedOrder (s : State) (y : Nat) : List PhRef :=
  let act := sortBy (fun a b => decide (b.1 ≤ a.1)) (s.actPhases y)
  let part (ph anchor : Bool) := act.filter fun p => p.2 == ph && (Config.anchorOf p.1 != 0) == anchor
  part true false ++ part true true ++ part false false ++ part false true

/-- The first n phases of the order whose bays keep a phase ACTIVE (R112). -/
def State.takeShed (s : State) : Nat → List PhRef → List PhRef → List PhRef
  | _, [], taken => taken
  | n, p :: t, taken =>
    if n ≤ taken.length then taken
    else if s.phSt (p.1, !p.2) == 2 && !(taken.contains (p.1, !p.2)) && !s.isFrozen (p.1, !p.2) then s.takeShed n t (taken ++ [p])
    else s.takeShed n t taken

/-- One PHASE word to each bay of the phases chosen (R115). -/
def State.sendPhases (s : State) (order : Nat) (ps : List PhRef) : State :=
  (ps.map Prod.fst).eraseDups.foldl
    (fun s b => s.sendBay b fun slot => phaseWord slot (ps.contains (b, true)) (ps.contains (b, false)) order) s

/-- Bay that a PHASE word of an order addresses, on its segment. -/
def phaseTarget (order : Nat) (e : Sent) : Option Nat :=
  if e.share = false ∧ e.word.field 28 4 = 4 ∧ e.word.field 16 3 = order then some (80 * e.seg + e.word.field 21 7) else none

/-- A PHASE word of an order for a bay of the yard waits to be sent (R116). -/
def State.phaseQueued (s : State) (y order : Nat) : Bool :=
  s.sent.any fun e => match phaseTarget order e with | some b => (reach y).contains b && (s.bay b).yard == y | none => false

/-- SHED_PREP words of the yard not yet sent are withdrawn; the dwell then restarts (R114, R116). -/
def State.withdrawSheds (s : State) (y : Nat) : State :=
  if s.phaseQueued y 1 then
    { s with sent := s.sent.filter fun e =>
        match phaseTarget 1 e with | some b => !((reach y).contains b && (s.bay b).yard == y) | none => true }.setYard y
      { s.yard y with low := 0 }
  else s

/-- Oteus adds n phases (R113-R115). -/
def State.addPhases (s : State) (y n cause : Nat) : State :=
  let chosen := (s.addOrder y).take n
  if chosen = [] then s
  else
    let prep := chosen.filter fun p => s.phSt p == 3
    let s := s.withdrawSheds y
    let s := s.sendPhases 0 chosen
    let s := s.bumpBy (YRD_SHED_EVT.CANCELS y) prep.length
    let ev := setBit (s.get (YRD_SHED_EVT.EVT y)) 1
    let ev := if prep = [] then ev else setBit ev 2
    let s := s.put (YRD_SHED_EVT.EVT y) ev
    s.put (YRD_SHARE_STAT.LAST_CAUSE y) (if prep.length = chosen.length then 6 else cause)

/-- Oteus sheds n phases, unless the yard is in all hands or a trip hold, or a word raising its count waits (R116). -/
def State.shedPhases (s : State) (y n : Nat) : State :=
  if s.on (YRD_STATUS.ALL_HANDS y) ∨ (s.yard y).tripHold then s
  else if s.phaseQueued y 0 then s.setYard y { s.yard y with low := 0 }
  else
    let chosen := s.takeShed n (s.shedOrder y) []
    if chosen = [] then s
    else
      let s := (s.setYard y { s.yard y with dwellHold := true }).sendPhases 1 chosen
      let s := s.put (YRD_SHED_EVT.EVT y) (setBit (s.get (YRD_SHED_EVT.EVT y)) 0)
      s.put (YRD_SHARE_STAT.LAST_CAUSE y) 5

/-! ### The decision of cycle 56 (R113) -/

/-- hold_floor: all available phases during a trip hold, a neighbour-wake hold or the maintenance state (R113, R184). -/
def State.holdFloor (s : State) (y : Nat) : Nat :=
  let v := s.yard y
  if v.tripHold ∨ v.nbrHold ≠ [] ∨ v.maintHold then (s.availPhases y).length else 0

/-- Mean per phase of a current over n phases, rounded down. -/
def perPhase (i : Int) (n : Nat) : Int := if n = 0 then 0 else i / n

/-- At a superframe boundary a dwell that waits for one restarts from 0: no phase of the yard is in SHED_PREP or about to be (R111,
R113). -/
def State.dwellFrom (s : State) (y : Nat) : State :=
  if (s.yard y).dwellHold ∧ s.prepPhases y = [] ∧ !s.phaseQueued y 1 then s.setYard y { s.yard y with dwellHold := false, low := 0 } else s

/-- Cause of an add (R124): where several hold, current, then the trip hold, a neighbour's wake, the forecast; an add that only the
other floors ask for reads as current (DESIGN CHOICE, assumption log 38). -/
def State.addCause (s : State) (y : Nat) (above : Bool) (act : Nat) : Nat :=
  let v := s.yard y
  if above then 1 else if v.tripHold then 3 else if v.nbrHold ≠ [] then 4 else if act < v.presets.floor then 2 else 1

/-- PHASE_COUNT_DECISION (R113). With no phase ACTIVE or in SHED_PREP a positive current is above the add threshold; PER_PHASE then
reads 0, as it does of a negative mean (DESIGN CHOICE, assumption log 38). -/
def phaseCountEff (y : Nat) (s : State) : State :=
  let run := (s.runBays y).length
  if Config.yardCount ≤ y ∨ 2 < s.domState y ∨ run = 0 then s
  else
    let v := s.yard y
    let (shed, add, dwell) := s.shedTh y
    let i := s.shareCurrent y
    let act := (s.actPhases y).length
    let prep := (s.prepPhases y).length
    let avail := (s.availPhases y).length
    let fl := min (max run (max v.presets.floor (s.holdFloor y))) avail
    let byMid := (max 0 ((2 * i + (shed + add) - 1) / ((shed + add : Nat) : Int))).toNat
    let n : Int := ((act + prep : Nat) : Int)
    let above := decide (i > add * n)
    let below := decide (i < shed * n) && prep == 0 && !s.on (YRD_STATUS.ALL_HANDS y) && s.on (YRD_PHCTL.SHED_EN y) && !s.courseHeld
      && !v.dwellHold
    let low := if above then 0 else if below then v.low + 1 else 0
    let ends := below && !above && decide (dwell ≤ low)
    let want := if above then max fl byMid else if ends then max fl (max byMid (act - act / 2)) else act
    let low := if ends then 0 else low
    let want := min (max want fl) avail
    let s := s.setYard y { v with low := low }
    let s := s.put (YRD_SHARE_STAT.PER_PHASE y) (min 255 (max 0 (perPhase i (act + prep))).toNat)
    let s := s.put (YRD_SHARE_STAT.WANT y) want
    if act < want then s.addPhases y (want - act) (s.addCause y above act)
    else if want < act then s.shedPhases y (act - want)
    else s

/-! ### Acting at once (R114, R118, R279) -/

/-- Bays of a yard in HEAT are sent RUN, most recently placed first, and their offsets return to 0 (R278); the yard has left HEAT
(R279). -/
def State.endHeat (s : State) (y : Nat) : State :=
  let hot := sortBy (fun a b => decide ((s.bay b).heatAt ≤ (s.bay a).heatAt)) ((s.baysOf y).filter fun b => s.get (BAY_STATE.STATE b) == 4)
  let s := if hot = [] then s else s.setYard y { s.yard y with heatExit := true }
  hot.foldl (fun s b =>
    let s := s.sendBay b (bayStateWord · 2)
    let s := s.sendBay b (cfgWrWord · 4 0)
    (s.sendBay b (cfgWrWord · 5 0)).modBay b fun v => { v with heat := 0 }) s

/-- A TRIP report from a bay of the yard (R114, R118, R279): the trip hold starts, sheds not sent are withdrawn, every
available phase is added, ALL_HANDS is set, HEAT ends. -/
def State.tripReport (s : State) (y : Nat) : State :=
  let v := s.yard y
  let pre := if s.on (YRD_STATUS.ALL_HANDS y) then v.preTrip else s.getI (YRD_OUT.TRIM y)
  let s := (s.endHeat y).withdrawSheds y
  let s := s.setYard y { s.yard y with tripHold := true, tripAt := s.mono, preTrip := pre, warmBlocked := true }
  let s := s.put (YRD_STATUS.ALL_HANDS y) 1
  let n := ((s.availPhases y).filter fun p => s.phSt p != 2).length
  (s.put (YRD_SHARE_STAT.LAST_CAUSE y) 3).addPhases y n 3

/-- A preset that raises dre_floor above the active count adds phases at once (R114). -/
def State.floorRaise (s : State) (y : Nat) : State :=
  let act := (s.actPhases y).length
  let want := min (s.yard y).presets.floor (s.availPhases y).length
  if act < want then s.addPhases y (want - act) 2 else s

/-- TRIP_HOLD_END (R114, R279). -/
def tripHoldEndEff (y : Nat) (s : State) : State := s.setYard y { s.yard y with tripHold := false, warmBlocked := false }

/-! ### The sharing job (R109) -/

/-- No delta is formed in the yard: sharing is off, or it is in all hands (R109). -/
def State.shareHeld (s : State) (y : Nat) : Bool := !s.on (YRD_PHCTL.SHARE_EN y) || s.on (YRD_STATUS.ALL_HANDS y)

/-- The delta for a phase of a bay in RUN. -/
def State.shareDelta (s : State) (y : Nat) (p : PhRef) : BitVec 2 :=
  let ph := (s.bay p.1).ph p.2
  let run := (s.runPhases y).filter fun q => !s.isFrozen q
  let n : Int := (((run.filter fun q => s.phSt q == 2 || s.phSt q == 3).length : Nat) : Int)
  let e := n * s.phI p - s.shareCurrent y
  let db : Int := ((s.get (YRD_SHARE_TUNE.DEADBAND y) : Nat) : Int) * n
  if s.shareHeld y || s.phSt p != 2 || s.isFrozen p then 0
  else if ph.fresh || ph.freshOld then 2
  else if ph.partly then 0
  else if e > db then 3 else if e < -db then 1 else 0

/-- Product 4: the bay's 1 ms average over 3,125 superframes (R109, DEDUCED, assumption log 14); a negative average reads 0 (DESIGN
CHOICE, assumption log 38). -/
def State.updateIavg (s : State) (b : Nat) : State :=
  let v := s.bay b
  let sum := v.iSum + s.phI (b, false) + s.phI (b, true)
  if 3125 ≤ v.iCnt + 1 then
    (s.setBay b { v with iSum := 0, iCnt := 0 }).put (BAY_IAVG.IAVG b) (max 0 (roundDiv (sum * 20) 3125)).toNat
  else s.setBay b { v with iSum := sum, iCnt := v.iCnt + 1 }

/-- A phase lies within the dead band (R204, R109). -/
def State.inBand (s : State) (y : Nat) (p : PhRef) : Bool :=
  let run := (s.runPhases y).filter fun q => !s.isFrozen q
  let n : Int := (((run.filter fun q => s.phSt q == 2 || s.phSt q == 3).length : Nat) : Int)
  s.phSt p == 2 && !s.isFrozen p
    && decide ((n * s.phI p - s.shareCurrent y).natAbs ≤ s.get (YRD_SHARE_TUNE.DEADBAND y) * n.toNat)

/-- Share offsets in superframes inside the dead band add to their averages (R204). -/
def State.sumOffsets (s : State) (y b : Nat) : State :=
  let i0 := s.inBand y (b, false)
  let i1 := s.inBand y (b, true)
  s.modBay b fun v => { v with
    ofsSum0 := v.ofsSum0 + (if i0 then s.getI (BAY_SHARE.PH0_OFS b) else 0), ofsCnt0 := v.ofsCnt0 + i0.toNat
    ofsSum1 := v.ofsSum1 + (if i1 then s.getI (BAY_SHARE.PH1_OFS b) else 0), ofsCnt1 := v.ofsCnt1 + i1.toNat }

/-- The sharing job of a bay in RUN: its deltas for the next superframe, and its average. -/
def State.sharingJob (s : State) (b : Nat) : State :=
  let y := s.get (BAY_STATE.YARD b)
  if s.get (BAY_STATE.STATE b) ≠ 3 ∨ Config.yardCount ≤ y then s
  else
    let d0 := s.shareDelta y (b, false)
    let d1 := s.shareDelta y (b, true)
    let next (p : Phase) (d : BitVec 2) : Phase := { p with delta := d, fresh := p.fresh && s.shareHeld y, freshOld := p.freshOld && s.shareHeld y }
    let s := s.sumOffsets y b
    (s.modBay b fun v => { v with p0 := next v.p0 d0, p1 := next v.p1 d1 }).updateIavg b

/-! ### Waking beside a busy neighbour (R123) -/

/-- The neighbours of a yard: next to it in bay order and fed by the same rail. -/
def neighbours (y : Nat) : List Nat :=
  (if y = 0 then [] else [y - 1]).filter (fun z => Config.yardRail z == Config.yardRail y)
    ++ [y + 1].filter fun z => z < Config.yardCount && Config.yardRail z == Config.yardRail y

/-- Capacity of a rail, A (R16): 60 A for each PKG_A phase, 50 A for each PKG_B phase of the reference board. -/
def railCapacity (r : Nat) : Nat := if r = 0 then 1440 else 300

/-- The neighbours whose current exceeds BUSY_NBR percent of their limit. -/
def State.busyNeighbours (s : State) (y : Nat) : List Nat :=
  (neighbours y).filter fun z => s.get (YRD_WAKE.BUSY_NBR y) * s.ilimit z < 100 * s.yardCurrent z

/-- The wake of a yard would land beside a peak. -/
def State.wakeBusy (s : State) (y : Nat) : Bool :=
  let r := Config.yardRail y
  decide (((s.get (YRD_WAKE.BUSY_RAIL y) * railCapacity r * 16 : Nat) : Int) < 100 * s.railIMon r)
    || (s.busyNeighbours y) != []

/-- YRD_DROOP.TH sent to every anchor bay of the yard (R117). -/
def State.sendDroop (s : State) (y th : Nat) : State :=
  ((List.range Config.sensePoints).map (Config.anchorBay y)).foldl
    (fun s b => (s.put (BAY_DROOP.TH b) th).sendBay b fun slot => cfgWrWord slot 3 th) s

/-! ### The commands -/

/-- PHASE_COUNT_DECISION. -/
def execPhaseCountDecision (yard : Nat) (s : State) : Out :=
  s.after (phaseCountEff yard s)

/-- TRIP_HOLD_END. -/
def execTripHoldEnd (yard : Nat) (s : State) : Out :=
  s.after (tripHoldEndEff yard s)

end Sys2Proof.Machine
end

