-- ==== Sys2Proof/Machine/Tiller.lean ====
section
/-!
DEFINITION. Tiller (R80-R107, R432, R433): error forming, the control law, hold periods, HAND and AUTO, admission, lanes,
dispatch, and the sharing and supervision jobs' results on the lanes.
-/

namespace Sys2Proof.Machine

/-! ### Sets of coefficients (R85, R87, R101-R104) -/

/-- A coefficient set as a job reads it; a two-pole two-zero set has b3 and a3 taken as 0 (R87). -/
structure Coefs where
  b0 : Int
  b1 : Int
  b2 : Int
  b3 : Int
  a1 : Int
  a2 : Int
  a3 : Int
  outMin : Int
  outMax : Int
  two : Bool
deriving DecidableEq, Repr

def State.coefs (s : State) (y k : Nat) : Coefs :=
  let two := s.get (CTL.LAW y k) == 1
  { b0 := s.getI (B0.B0 y k), b1 := s.getI (B1.B1 y k), b2 := s.getI (B2.B2 y k)
    b3 := if two then 0 else s.getI (B3.B3 y k)
    a1 := s.getI (A1.A1 y k), a2 := s.getI (A2.A2 y k)
    a3 := if two then 0 else s.getI (A3.A3 y k)
    outMin := s.getI (CTL.OUT_MIN y k), outMax := s.getI (CTL.OUT_MAX y k), two := two }

/-- What a job leaves: trim, histories, and whether anything saturated. -/
structure LawOut where
  trim : Int
  s1 : Int
  s2 : Int
  s3 : Int
  sat : Bool
deriving DecidableEq, Repr

/-- Accumulator saturation and history saturation (R85). -/
def sat48 (x : Int) : Int := satSigned 48 x
def sat56 (x : Int) : Int := satSigned 56 x

/-- One law job (R86). `h1`, `h2`, `h3` are the histories before the job. -/
def lawJob (c : Coefs) (e h1 h2 h3 : Int) : LawOut :=
  let acc0 := (c.b0 * e) * 2 ^ 8 + h1 * 2 ^ 8
  let acc := sat56 acc0
  let u := clampI (c.outMin * 2 ^ 28) (c.outMax * 2 ^ 28) acc
  let trim := (u + 2 ^ 27) / 2 ^ 28
  let uq := (u + 2 ^ 19) / 2 ^ 20
  let h3' := if c.two then 0 else h3
  let r1 := ((c.b1 * e) * 2 ^ 8 - c.a1 * uq + h2 * 2 ^ 8 + 2 ^ 7) / 2 ^ 8
  let r2 := ((c.b2 * e) * 2 ^ 8 - c.a2 * uq + h3' * 2 ^ 8 + 2 ^ 7) / 2 ^ 8
  let r3 := ((c.b3 * e) * 2 ^ 8 - c.a3 * uq + 2 ^ 7) / 2 ^ 8
  { trim := trim, s1 := sat48 r1, s2 := sat48 r2, s3 := if c.two then h3 else sat48 r3
    sat := acc ≠ acc0 || u ≠ acc || sat48 r1 ≠ r1 || sat48 r2 ≠ r2 || (!c.two && sat48 r3 ≠ r3) }

/-- One hold period with value h (R97). -/
def holdJob (c : Coefs) (h : Int) : LawOut :=
  let v := clampI c.outMin c.outMax h
  { trim := v, s1 := sat48 (v * 2 ^ 20), s2 := sat48 (-(c.a2 + c.a3) * v), s3 := sat48 (-c.a3 * v), sat := v ≠ h }

/-! ### Service forcing, periods and classes (R88, R100) -/

/-- Dead-slow service or R26 forces 1.28 µs and set 0 (R88, R100). -/
def State.forced (s : State) : Bool := !s.inWayOn

/-- Length of a sample period by its code, ns. -/
def periodNs (p : Nat) : Nat := if p = 1 then 40 else if p = 2 then 160 else if p = 3 then 1280 else 80

/-- Software's writes of set, period and class are held without a feedback point (R100), but at the first way-on sample period after a
forcing, which returns the yard to what is written (R88). -/
def State.loopHeld (s : State) (y : Nat) : Bool := (s.yard y).noFb && s.get (YRD_LOOP_NOW.PERIOD_NOW y) != 3

/-- The set a yard is to run: 0 while forced, and where the one to run is not valid (R100, R102, R103). A supervision order counts
without a feedback point too (R100). -/
def State.setDue (s : State) (y : Nat) : Nat :=
  let k := if s.loopHeld y ∧ (s.yard y).supOrder ≠ some .set7 then s.get (YRD_LOOP_NOW.SET_NOW y) else s.get (YRD_LOOP.SET y)
  if s.forced then 0 else if s.on (CTL.VALID y k) then k else 0

def State.periodDue (s : State) (y : Nat) : Nat :=
  if s.forced then 3 else if s.loopHeld y then s.get (YRD_LOOP_NOW.PERIOD_NOW y) else s.get (YRD_LOOP.PERIOD y)

def State.classDue (s : State) (y : Nat) : Nat :=
  if s.forced then 0 else if s.loopHeld y then s.get (YRD_LOOP_NOW.CLASS_NOW y) else s.get (YRD_LOOP.CLASS y)

/-- The timing class in force: forcing times keel yards as standard ones (R88). -/
def State.classNow (s : State) (y : Nat) : Nat := if s.forced then 0 else s.get (YRD_LOOP_NOW.CLASS_NOW y)

/-- A yard stays in AUTO in D2 and D3, and throughout step 3 of a wake from them (R219, R223). -/
def State.autoKept (s : State) (y : Nat) : Bool :=
  (s.yard y).retained || (s.dom y).step == .ramp && ((s.dom y).from_ == 2 || (s.dom y).from_ == 3)

/-- The mode a yard is to be in (R84, R100, R184, R219): HAND without a feedback point, on an order of supervision, and in the
maintenance state; AUTO in D2 and D3; otherwise YRD_LOOP.MODE, whose writes are held while the service state forces. -/
def State.modeDue (s : State) (y : Nat) : Nat :=
  let v := s.yard y
  if v.noFb ∨ v.supOrder = some .hand ∨ v.maintHold then 1
  else if s.autoKept y then 0
  else if s.forced then s.get (YRD_LOOP_NOW.MODE_NOW y)
  else s.get (YRD_LOOP.MODE y)

/-! ### Admission (R89-R91, R433) -/

/-- Issue slots of a law job of a set (R80). -/
def State.lawSlots (s : State) (y k : Nat) : Nat := if s.get (CTL.LAW y k) = 1 then 5 else 7

/-- Lanes in service. -/
def State.lanes (s : State) : Nat := Config.lanes - popcount Config.lanes (s.get TIL_LANES.RETIRED)

/-- What admission judges: class, period, law slots and feedback mask of each yard, then the lanes in service. `way` is the
way-on configuration; otherwise the one that runs, forced or not. -/
def State.loopConfig (s : State) (way : Bool) : List Nat :=
  ((List.range Config.yardCount).flatMap fun y =>
    if way || !s.forced then
      let k := s.get (YRD_LOOP.SET y)
      [s.get (YRD_LOOP.CLASS y), s.get (YRD_LOOP.PERIOD y), s.lawSlots y (if s.on (CTL.VALID y k) then k else 0), s.get (YRD_FB.MASK y)]
    else [0, 3, s.lawSlots y 0, s.get (YRD_FB.MASK y)]) ++ [s.lanes]

/-- Law slots of a configuration in 3,840 ns, yard by yard. -/
def lawLoad : List Nat → Nat
  | _ :: p :: k :: _ :: t => k * (3840 / periodNs p) + lawLoad t
  | _ => 0

/-- Slots of a configuration in 3,840 ns: laws, sharing of every bay, supervision of every yard (R80, R89). -/
def slotsUsed (c : List Nat) : Nat := lawLoad c + Config.bayCount * 4 * 12 + Config.yardCount * 10 * 16

/-- Issue slots of the lanes in service in 3,840 ns. -/
def slotsHad (c : List Nat) : Nat := c.getLastD 0 * 6144

/-- L in percent, to the nearest (R89, R106). -/
def loadPercent (c : List Nat) : Nat :=
  if slotsHad c = 0 then 127 else (slotsUsed c * 200 + slotsHad c) / (2 * slotsHad c)

/-- Keel yards of a configuration. -/
def keelYards : List Nat → Nat
  | k :: _ :: _ :: _ :: t => k + keelYards t
  | _ => 0

/-- Every standard yard's period exceeds a wait. -/
def stdPeriodsOver (w : Nat) : List Nat → Bool
  | k :: p :: _ :: _ :: t => (k == 1 || decide (w < periodNs p)) && stdPeriodsOver w t
  | _ => true

/-- The configurations that the spec says are admitted: the reference one, it with one lane retired, and all compute yards
at 40 ns (R90, R91). -/
def statedAdmitted (c : List Nat) : Bool :=
  c == Config.referenceLoops Config.lanes 0 || c == Config.referenceLoops (Config.lanes - 1) 0 || c == Config.referenceLoops Config.lanes 1

/-- The least period of a configuration's standard yards, ns; 1,280 where it has none. -/
def leastStd : List Nat → Nat
  | k :: p :: _ :: _ :: t => if k = 1 then leastStd t else min (periodNs p) (leastStd t)
  | _ => 1280

/-- KEEL_WAIT and STD_WAIT of a configuration, ns: the reference one has the figures of R90, others are Oteus's own (R433). Those of a
configuration that the spec says is admitted meet the conditions of admission (R89). -/
def keelWait (c : List Nat) : Nat :=
  if c = Config.referenceLoops Config.lanes 0 then 7 else if statedAdmitted c then min 25 (Config.keelWait c) else Config.keelWait c
def stdWait (c : List Nat) : Nat :=
  if c = Config.referenceLoops Config.lanes 0 then 36
  else if statedAdmitted c then min (min 144 (leastStd c - 1)) (Config.stdWait c)
  else Config.stdWait c

/-! ### Sampling phases (R88, R161, R433) -/

/-- A sample period in CLK_B cycles. -/
def periodCycles (p : Nat) : Nat := periodNs p * 2 / 5

/-- Class and period, in CLK_B cycles, of a yard in a configuration. -/
def cfgKeel (c : List Nat) (y : Nat) : Bool := c.getD (4 * y) 0 == 1
def cfgCycles (c : List Nat) (y : Nat) : Nat := periodCycles (c.getD (4 * y + 1) 0)

/-- Least distance between sampling instants of two yards, CLK_B cycles. -/
def phaseGap (c : List Nat) (f : Nat → Nat) (y z : Nat) : Nat :=
  let m := min (cfgCycles c y) (cfgCycles c z)
  let d := (f y % m + (m - f z % m)) % m
  min d (m - d)

/-- Yards that sample in a CLK_B cycle. -/
def samplesIn (c : List Nat) (f : Nat → Nat) (t : Nat) : Nat :=
  ((List.range Config.yardCount).filter fun y => t % cfgCycles c y == f y).length

/-- A yard's trim words never fall due in a SYNC or sharing cycle; a keel trim word is sent 33 CLK_B after its instant (R66, R94). -/
def clearOfSync (c : List Nat) (f : Nat → Nat) (y : Nat) : Bool :=
  (List.range 11).all fun j => (8 * j) % cfgCycles c y != (f y + 33) % cfgCycles c y

/-- Two yards can share a segment (R65, R75). -/
def shareSegment (y z : Nat) : Bool := (reach y).any fun b => (reach z).any fun d => b / 80 == d / 80

/-- An assignment of phases meets R88 and R161. -/
def phasesLegal (c : List Nat) (f : Nat → Nat) : Bool :=
  let ys := List.range Config.yardCount
  let pairs (p : Nat → Nat → Bool) : Bool := ys.all fun y => (List.range y).all (p y)
  ys.all (fun y => f y < cfgCycles c y && (!cfgKeel c y || clearOfSync c f y))
    && pairs (fun y z => y / 4 != z / 4 || 3 ≤ phaseGap c f y z)
    && pairs (fun y z => !cfgKeel c y || !cfgKeel c z || !shareSegment y z || 0 < phaseGap c f y z)
    && (List.range 512).all fun t => samplesIn c f t ≤ 6

/-- What the reference configuration must besides: three yards a cycle, and the yards of a cluster 8 CLK_B apart; with the compute
yards at 40 ns, 4 CLK_B apart (R88, R161). -/
def phasesStated (c : List Nat) (f : Nat → Nat) : Bool :=
  let apart (n k : Nat) : Bool := (List.range (4 * k)).all fun y => (List.range y).all fun z => y / 4 != z / 4 || n ≤ phaseGap c f y z
  if c = Config.referenceLoops Config.lanes 0 then apart 8 24 && (List.range 32).all fun t => samplesIn c f t == 3
  else if c = Config.referenceLoops Config.lanes 1 then apart 4 16
  else true

/-- An assignment that meets both for the configurations the spec describes: cluster by cluster, the yards evenly apart. -/
def spreadPhase (c : List Nat) (y : Nat) : Nat :=
  let k := y / 4
  let o := if k = 23 then 5 else if k = 13 then 7 else k % 8
  if c = Config.referenceLoops Config.lanes 1 ∧ k < 16 then 4 * (y % 4) + k % 4 else 8 * (y % 4) + o

/-- The yards in the order in which an assignment is built: short periods first, keel yards before standard ones. -/
def phaseOrder (c : List Nat) : List Nat :=
  let rank (y : Nat) : Nat := 2 * cfgCycles c y + (!cfgKeel c y).toNat
  sortBy (fun y z => decide (rank y ≤ rank z)) (List.range Config.yardCount)

/-- The phase of a yard among those given so far. -/
def placedPhase (l : List (Nat × Nat)) (y : Nat) : Nat := ((l.find? fun e => e.1 == y).map Prod.snd).getD 0

/-- Distance of a phase of yard y to the yards of its cluster that have one, not counted beyond a quarter of its period. -/
def phaseRoom (c : List Nat) (l : List (Nat × Nat)) (y p : Nat) : Nat :=
  let f (z : Nat) : Nat := if z = y then p else placedPhase l z
  (l.filter fun e => e.1 / 4 == y / 4).foldl (fun m e => min m (phaseGap c f y e.1)) (cfgCycles c y / 4)

/-- A phase of yard y goes with those given so far (R88, R161). -/
def phaseFits (c : List Nat) (l : List (Nat × Nat)) (y p : Nat) : Bool :=
  let f (z : Nat) : Nat := if z = y then p else placedPhase l z
  (!cfgKeel c y || clearOfSync c f y) && 3 ≤ phaseRoom c l y p
    && l.all (fun e => !cfgKeel c y || !cfgKeel c e.1 || !shareSegment y e.1 || 0 < phaseGap c f y e.1)
    && (List.range 512).all fun t => t % cfgCycles c y != p || (l.filter fun e => t % cfgCycles c e.1 == e.2).length < 6

/-- The phase a yard takes: of those that fit, one farthest from its cluster's others. -/
def pickPhase (c : List Nat) (l : List (Nat × Nat)) (y : Nat) : Nat :=
  (((List.range (cfgCycles c y)).filter (phaseFits c l y)).foldl (fun best p =>
    match best with
    | none => some p
    | some q => if phaseRoom c l y q < phaseRoom c l y p then some p else some q) none).getD 0

/-- An assignment built yard by yard. -/
def builtPhases (c : List Nat) : List (Nat × Nat) := (phaseOrder c).foldl (fun l y => l ++ [(y, pickPhase c l y)]) []

/-- An assignment that the model has for every configuration. -/
def ownPhase (c : List Nat) : Nat → Nat := if phasesLegal c (spreadPhase c) then spreadPhase c else placedPhase (builtPhases c)

/-- Least distance between the sampling instants of a cluster's yards. -/
def clusterGap (c : List Nat) (f : Nat → Nat) (k : Nat) : Nat :=
  (((List.range 4).flatMap fun i => (List.range i).map fun j => phaseGap c f (4 * k + i) (4 * k + j))).foldl min 512

/-- The instants lie as evenly as the periods allow, as far as the model knows: in no cluster nearer to one another than in the model's
own assignment (R161; DESIGN CHOICE, assumption log 39). -/
def phasesEven (c : List Nat) (f : Nat → Nat) : Bool := (List.range 24).all fun k => clusterGap c (ownPhase c) k ≤ clusterGap c f k

/-- The phases of a configuration: Oteus's method is its own (R433), and every assignment meets R88 and R161. -/
def phaseIn (c : List Nat) : Nat → Nat :=
  if phasesLegal c (Config.phase c) && phasesStated c (Config.phase c) && phasesEven c (Config.phase c) then Config.phase c else ownPhase c

/-- The five conditions of admission (R89); the assignments of the configurations that the spec says are admitted meet the last. -/
def State.admitted (s : State) (c : List Nat) : Bool :=
  slotsUsed c * 100 ≤ s.get TIL_ADMIT.LOAD_MAX * slotsHad c && keelYards c ≤ Config.keelMax
    && keelWait c ≤ 25 && stdWait c ≤ 144 && stdPeriodsOver (stdWait c) c && (statedAdmitted c || phasesLegal c (phaseIn c))

/-- The configuration that the registers now ask for is admitted. -/
def State.admits (s : State) : Bool := s.admitted (s.loopConfig true)

/-- An admission refusal (R90). -/
def State.admitRefused (s : State) : State := (s.evt pgTIL 4).bump TIL_CNT_REFUSED.COUNT

/-- A standard yard steps down from a period (R91). -/
def State.stepDown (s : State) (y p : Nat) : State :=
  if s.admits || s.get (YRD_LOOP.CLASS y) ≠ 0 || s.get (YRD_LOOP.PERIOD y) ≠ p then s
  else
    let s := s.put (YRD_LOOP.PERIOD y) (if p = 1 then 0 else 2)
    (s.evt pgTIL 6).logEvent 0x0105 [y]

/-- Standard yards step down until the configuration is admitted: those at 40 ns, then those at 80 ns, highest first. -/
def State.derate (s : State) : State :=
  let down := (List.range Config.yardCount).reverse
  let s := down.foldl (fun s y => s.stepDown y 1) s
  down.foldl (fun s y => s.stepDown y 0) s

/-! ### Lanes (R91) -/

/-- A residue mismatch on a lane, in a job of a class (R91). -/
def State.laneError (s : State) (lane cls : Nat) : State :=
  let s := ((s.bump TIL_CNT_LANEERR.COUNT).evt pgTIL 2).raise 0x14 [lane, cls]
  let errs := s.mono :: (Tab.get (fun _ => []) s.laneErrs lane)
  let s := { s with laneErrs := Tab.set (fun _ => []) s.laneErrs lane (errs.take 3) }
  let recent := errs.filter fun t => s.mono ≤ t + ns 1000000000
  if 3 ≤ recent.length ∧ !tb (s.get TIL_LANES.RETIRED) lane then
    let s := s.put TIL_LANES.RETIRED (setBit (s.get TIL_LANES.RETIRED) lane)
    ((s.evt pgTIL 3).raise 0x15 [lane]).derate
  else s

/-! ### Jobs a yard has (R82) -/

/-- A yard has law, hold and supervision jobs: not in D4 unless its wake has reached the soft-start, not fenced, and a bay
in RUN or READY. -/
def State.hasJobs (s : State) (y : Nat) : Bool :=
  y < Config.yardCount && !s.on (YRD_STATUS.YARD_FENCED y)
    && (s.domState y != 4 || (match (s.dom y).step with | .stable | .waitSuper | .bias => false | _ => true))
    && (s.baysOf y).any fun b => s.get (BAY_STATE.STATE b) == 3 || s.get (BAY_STATE.STATE b) == 2

/-- What admission judges, of the configuration that runs: a yard with jobs runs as its last sampling instant left it (R90). -/
def State.runningConfig (s : State) : List Nat :=
  ((List.range Config.yardCount).flatMap fun y =>
    if s.forced then [0, 3, s.lawSlots y 0, s.get (YRD_FB.MASK y)]
    else if s.hasJobs y then
      [s.get (YRD_LOOP_NOW.CLASS_NOW y), s.get (YRD_LOOP_NOW.PERIOD_NOW y), s.lawSlots y (s.get (YRD_LOOP_NOW.SET_NOW y)), s.get (YRD_FB.MASK y)]
    else
      let k := s.get (YRD_LOOP.SET y)
      [s.get (YRD_LOOP.CLASS y), s.get (YRD_LOOP.PERIOD y), s.lawSlots y (if s.on (CTL.VALID y k) then k else 0), s.get (YRD_FB.MASK y)])
    ++ [s.lanes]

/-- The trim in effect in the yard's bays; the last sent where none is in RUN (R193). -/
def State.trimNow (s : State) (y : Nat) : Int :=
  match (s.runBays y).head? with
  | some b => s.getI (BAY_REF.TRIM b)
  | none => s.getI (YRD_OUT.TRIM y)

/-- Slices of a cluster in service (R169). -/
def State.slicesIn (s : State) (n : Nat) : Nat := popcount 5 (s.get (SXT_STATUS.IN_SERVICE n))

/-- A channel is connected to the calibration pins (R186). -/
def State.calConnected (s : State) (n ch : Nat) : Bool :=
  (s.get (SXT_CAL.STATE n) == 1 || s.get (SXT_CAL.STATE n) == 3) && (s.cluster n).calCh == ch

/-- Sextant delivers a sense point's loop samples: four slices of its cluster are in service and the channel is not
connected to the calibration pins (R157, R169, R186). -/
def State.pointLive (s : State) (y p : Nat) : Bool := 4 ≤ s.slicesIn (y / 4) && !s.calConnected (y / 4) (y % 4 * 4 + p)

/-- The feedback points: in MASK, not SUSPECT (R83), and delivered. -/
def State.fbPoints (s : State) (y : Nat) : List Nat :=
  (List.range Config.sensePoints).filter fun p =>
    tb (s.get (YRD_FB.MASK y)) p && !tb (s.get (YRD_FB.SUSPECT y)) p && s.pointLive y p

/-! ### Sending a trim (R69, R93, R94) -/

/-- A trim word goes to the yard's bays, and is the last trim sent; in all hands it is withheld (R61). -/
def State.sendTrim (s : State) (y : Nat) (t : Int) : State :=
  if s.on (YRD_STATUS.ALL_HANDS y) then s.setYard y { s.yard y with trimHeld := some t }
  else ((s.setYard y { s.yard y with trimHeld := none }).putI (YRD_OUT.TRIM y) t).sendYard y (trimWord y t)

/-- The trim withheld from a yard goes out (R61). -/
def State.releaseTrim (s : State) (y : Nat) : State :=
  match (s.yard y).trimHeld with | some t => s.sendTrim y t | none => s

/-- The last trim sent, or to be sent at a hand-over that is due (R94) or after all hands (R61). -/
def State.lastTrim (s : State) (y : Nat) : Int :=
  match (s.yard y).out.getLast? with
  | some (t, _) => t
  | none => (s.yard y).trimHeld.getD (s.getI (YRD_OUT.TRIM y))

/-- A trim goes out: at once for a standard yard; for a keel yard at the hand-over of its sample, 45 ns after the error was
queued (R93, R94). -/
def State.handOver (s : State) (y : Nat) (t : Int) (queuedAt : Nat) : State :=
  if s.classNow y = 1 then s.setYard y { s.yard y with out := (s.yard y).out ++ [(t, queuedAt + ns 45)] }
  else s.sendTrim y t

/-- YRD_LOOP_EVT of a yard gains a bit. -/
def State.loopEvt (s : State) (y k : Nat) : State := s.put (YRD_LOOP_EVT.EVT y) (setBit (s.get (YRD_LOOP_EVT.EVT y)) k)

/-- The clamp or a saturation counts a period (R86). -/
def State.countSat (s : State) (y : Nat) (sat : Bool) : State := if sat then (s.loopEvt y 1).bump (YRD_CNT_SAT.COUNT y) else s

/-! ### The sampling instant of a yard's loop (R83, R84, R98-R100) -/

/-- A supervision order takes effect, over what software has written since: set 7, or set 0 where 7 is not valid, or HAND (R100,
R102, R199). -/
def State.takeOrder (s : State) (y : Nat) : State :=
  match (s.yard y).supOrder with
  | none => s
  | some .set7 =>
    let s := s.put (YRD_LOOP.SET y) 7
    if s.on (CTL.VALID y 7) then s else s.logEvent 0x0106 [y]
  | some .hand => s.put (YRD_LOOP.MODE y) 1

/-- No feedback point (R84): the yard goes to HAND, once for each loss of the last point. A MODE that software writes after that is
held (R100). -/
def State.noFeedback (s : State) (y : Nat) : State :=
  let v := s.yard y
  if s.fbPoints y ≠ [] then s.setYard y { v with noFb := false }
  else if v.noFb then s
  else
    let s := s.setYard y { v with noFb := true }
    let s := s.put (YRD_LOOP.MODE y) 1
    ((s.loopEvt y 3).evt pgTIL 5).raise 0x13 [y]

/-- The mode in force takes the mode it is due (R99): true where AUTO resumes. -/
def State.takeMode (s : State) (y : Nat) : State × Bool :=
  if s.modeDue y = 1 ∧ s.get (YRD_LOOP_NOW.MODE_NOW y) = 0 then
    ((s.putI (YRD_HAND.TRIM y) (s.lastTrim y)).put (YRD_LOOP_NOW.MODE_NOW y) 1, false)
  else if s.modeDue y = 0 ∧ s.get (YRD_LOOP_NOW.MODE_NOW y) = 1 then (s.put (YRD_LOOP_NOW.MODE_NOW y) 0, true)
  else (s, false)

/-- The plan of the sample: one hold period at most, of the first case of R98 that applies; in HAND the hand value, where it differs
at the instant from the last trim sent (R432). -/
def State.planOf (s : State) (y : Nat) (resumed changed : Bool) : Plan :=
  let v := s.yard y
  let hand := s.getI (YRD_HAND.TRIM y)
  if v.hSoft then .hold (some 0) true
  else if s.get (YRD_LOOP_NOW.MODE_NOW y) = 1 then (if hand = s.lastTrim y then .none else .hand hand)
  else if s.on (YRD_STATUS.ALL_HANDS y) then .hold (some v.preTrip) true
  else if resumed then .hold (some hand) false
  else if changed then .hold none false
  else .law

/-- Tiller at a sampling instant of a yard that has jobs. A change of set, period or mode clears the oscillation history and
starts the blanking of R194. -/
def State.sampleLoop (s : State) (y : Nat) : State :=
  let ordered := (s.yard y).supOrder.isSome
  let s := (s.takeOrder y).noFeedback y
  let moved := s.setDue y ≠ s.get (YRD_LOOP_NOW.SET_NOW y) || s.periodDue y ≠ s.get (YRD_LOOP_NOW.PERIOD_NOW y)
  let changed := moved || s.classDue y ≠ s.get (YRD_LOOP_NOW.CLASS_NOW y)
  let m0 := s.get (YRD_LOOP_NOW.MODE_NOW y)
  let s' := s.put (YRD_LOOP_NOW.SET_NOW y) (s.setDue y)
  let s' := s'.put (YRD_LOOP_NOW.PERIOD_NOW y) (s.periodDue y)
  let s := s'.put (YRD_LOOP_NOW.CLASS_NOW y) (s.classDue y)
  let (s, resumed) := s.takeMode y
  let plan := s.planOf y resumed changed
  let f := s.forced || (s.yard y).noFb || ordered
  let s := if f ∧ !s.on (YRD_LOOP_NOW.FORCED y) then s.loopEvt y 4 else s
  let s := s.put (YRD_LOOP_NOW.FORCED y) f.toNat
  let s := s.put (YRD_LOOP_NOW.HOLD y) (match plan with | .hold _ _ => 1 | _ => 0)
  let v := s.yard y
  let v := { v with
    supOrder := none
    plan := plan
    vset := 1280 + 4 * (s.vidNow y : Int)
    vbay := 1280 + 4 * (s.vidNow y : Int) + s.trimNow y + 2 * (s.get (YRD_OFFSETS.PREBIAS y) : Int) }
  let v := if moved ∨ s.get (YRD_LOOP_NOW.MODE_NOW y) ≠ m0 then { v with oscSide := 0, crossings := [], blankFrom := s.mono } else v
  s.setYard y v

/-! ### Error queued (R83, R93, R96, R193, R432) -/

/-- v_fb: the mean of the feedback points, halves up (R83). -/
def State.feedback (s : State) (y : Nat) : Int :=
  let ps := s.fbPoints y
  let sum := (ps.map fun p => ((s.yard y).pts.getD p {}).v).sum
  let n : Int := ((ps.length : Nat) : Int)
  if n = 0 then (s.yard y).vfb else (2 * sum + n) / (2 * n)

/-- d_p and r_p of each sense point (R193). -/
def Yard.residuals (v : Yard) : Yard := { v with pts := v.pts.map fun p => { p with r := v.vbay - p.v - p.d } }

/-- A job is queued with the set of its instant; a standard yard's error not yet dispatched is replaced (R96), a keel yard's hold period
that still waits runs first (R95). -/
def State.queueJob (s : State) (y : Nat) (j : Job) : State :=
  let v := s.yard y
  let k := s.get (YRD_LOOP_NOW.SET_NOW y)
  if v.queued.isSome ∧ s.classNow y = 1 then s.setYard y { v with next := some (j, s.mono, k) }
  else
    let s := s.setYard y { v with queued := some j, qAt := s.mono, qSet := k, late := false }
    if v.queued.isSome then (((s.loopEvt y 2).bump (YRD_CNT_OVERRUN.COUNT y)).bump TIL_CNT_OVERRUN.COUNT).evt pgTIL 1 else s

/-- Sextant delivers the corrected loop values of the sample together (R160). -/
def State.deliverPoints (s : State) (y : Nat) : State :=
  let v := s.yard y
  s.setYard y { v with
    pts := v.got.foldl (fun l (p, x) => l.set p { l.getD p {} with v := x }) v.pts
    got := [] }

/-- ERROR_QUEUED. In a period without a feedback point ERR and v_fb keep what they were (DESIGN CHOICE, assumption log 38). -/
def errorQueuedEff (y : Nat) (s : State) : State :=
  if !s.hasJobs y then s
  else
    let s := s.deliverPoints y
    let fb := s.feedback y
    let v := s.yard y
    let e := if s.fbPoints y = [] then s.getI (YRD_OUT.ERR y) else satSigned 16 (v.vset - fb)
    let s := s.putI (YRD_OUT.ERR y) e
    let s := s.setYard y { v.residuals with vfb := fb, err := some e }
    match v.plan with
    | .none => s
    | .law => s.queueJob y (.law e)
    | .hold h top => s.queueJob y (.hold h top)
    | .hand t => s.handOver y t s.mono

/-! ### Dispatch and completion (R81, R82, R91-R97, R103) -/

/-- The instant by which a queued job is due, half nanoseconds (R81, R94). -/
def State.jobDeadline (s : State) (y : Nat) : Nat :=
  if s.classNow y = 1 then (s.yard y).qAt + ns 25
  else (s.yard y).qAt + ns (periodNs (s.get (YRD_LOOP_NOW.PERIOD_NOW y)))

/-- Yards whose queued job may be dispatched: the job before it has written back (R82). -/
def State.readyYards (s : State) (cls : Nat) : List Nat :=
  (List.range Config.yardCount).filter fun y =>
    (s.yard y).queued.isSome && (s.yard y).flying.isNone && s.classNow y == cls

/-- The yard of a list whose job is due first; the lowest index of equals (R92). -/
def State.firstDue (s : State) (l : List Nat) : Option Nat :=
  l.foldl (fun best y => match best with | none => some y | some z => if s.jobDeadline y < s.jobDeadline z then some y else some z) none

/-- The latest dispatch of a segment's sharing jobs, half nanoseconds: 32 CLK_T before downstream cycle 126 of the running superframe
(R80, R81). -/
def State.shareLimit (s : State) (seg : Nat) : Nat :=
  Tab.get (fun _ => 0) s.sfMono seg + (if s.onPll then 5 * 126 - ns 20 else 80 * 126 - 80 * 32)

/-- The bay's sharing job is ready, from downstream cycle 55 of the running superframe (R109), and has not run. -/
def State.shareReady (s : State) (b : Nat) : Bool :=
  !(s.bay b).shared && s.get (BAY_STATE.STATE b) == 3
    && decide (Tab.get (fun _ => 0) s.sfMono (b / 80) + (if s.onPll then 5 else 80) * 55 ≤ s.mono)

/-- The remaining slack of a bay's sharing job is at most TIL_URGENT.SLACK CLK_T cycles, of 0.625 ns (R92). -/
def State.shareUrgent (s : State) (b : Nat) : Bool :=
  decide (4 * (s.shareLimit (b / 80) - s.mono) ≤ 5 * s.get TIL_URGENT.SLACK)

/-- An urgent sharing job waits (R92). -/
def State.urgentWaits (s : State) : Bool := (List.range Config.bayCount).any fun b => s.shareReady b && s.shareUrgent b

/-- The next yard-law or hold job in the order of R92: keel jobs, then, where no urgent sharing job waits, standard ones. -/
def State.nextJob (s : State) : Option Nat :=
  match s.firstDue (s.readyYards 1) with
  | some y => some y
  | none => if s.urgentWaits then none else s.firstDue (s.readyYards 0)

/-- The wait of a dispatched job: no wait is longer than the bound of the configuration in force (R433), which TIL_BOUND shows. -/
def State.waitSeen (s : State) (cls waitNs : Nat) : Nat :=
  let c := s.runningConfig
  min 255 (min waitNs (if cls = 1 then keelWait c else stdWait c))

/-- LAW_JOB_DISPATCH: a free issue slot of a lane in service takes the next job; the largest waits are kept. -/
def lawDispatchEff (lane waitNs : Nat) (s : State) : State :=
  if Config.lanes ≤ lane ∨ tb (s.get TIL_LANES.RETIRED) lane then s
  else
    match s.nextJob with
    | none => s
    | some y =>
      let v := s.yard y
      let (q, at_, k) : Option Job × Nat × Nat := match v.next with
        | some (j, t, k) => (some j, t, k)
        | none => (none, v.qAt, v.qSet)
      let s := s.setYard y { v with
        queued := q, qAt := at_, qSet := k, late := false, next := none
        flying := v.queued, flyAt := v.qAt, flySet := v.qSet, lane := lane }
      let f := if s.classNow y = 1 then TIL_WAIT_MAX.KEEL else TIL_WAIT_MAX.STD
      s.put f (max (s.get f) (s.waitSeen (s.classNow y) waitNs))

/-- A job's result is discarded: the period becomes a hold period, with the deadline of its own error, counted as a keel miss in a
keel yard (R81, R91, R95, R98). The next sample's job, where its error is queued already, waits behind it. -/
def State.discardJob (s : State) (y : Nat) (j : Job) (at_ k : Nat) : State :=
  let job : Job := match j with | .hold h true => .hold h true | _ => .hold none false
  let v := s.yard y
  let next := match v.queued with | some q => some (q, v.qAt, v.qSet) | none => v.next
  let s := s.setYard y { v with queued := some job, qAt := at_, qSet := k, late := true, next := next }
  let s := s.put (YRD_LOOP_NOW.HOLD y) 1
  if s.classNow y = 1 then
    ((((s.setYard y { s.yard y with repMiss := (s.yard y).repMiss + 1 }).loopEvt y 0).bump (YRD_CNT_KEELMISS.COUNT y)).bump TIL_CNT_KEELMISS.COUNT).evt pgTIL 0
  else s

/-- The set of a job that waits, once set k is faulty: 0 for it (R103). -/
def soundSet (k q : Nat) : Nat := if q = k then 0 else q

/-- An uncorrectable coefficient word (R103): the yard is forced to set 0, in jobs that wait too. -/
def State.coefError (s : State) (y k : Nat) (a : Nat) : State :=
  let s := s.memUe 5 (memOffset 5 a)
  let v := s.yard y
  let s := s.setYard y { v with qSet := soundSet k v.qSet, next := v.next.map fun (j, t, q) => (j, t, soundSet k q) }
  let s := s.put (YRD_LOOP_NOW.SET_NOW y) 0
  let s := (s.loopEvt y 5).put (CTL.VALID y k) 0
  s.raise 0x16 [y, k]

/-- The result of a job that stands: trim and histories are written, the trim is handed over (R86, R93, R97). -/
def State.writeBack (s : State) (y : Nat) (o : LawOut) (always : Bool) : State :=
  let s := (s.setYard y { s.yard y with s1 := o.s1, s2 := o.s2, s3 := o.s3 }).countSat y o.sat
  if !always ∧ o.trim = s.lastTrim y then s else s.handOver y o.trim (s.yard y).flyAt

/-- LAW_JOB_COMPLETE. The word that failed is not told by the event: its place in the set is a free value. -/
def lawCompleteEff (y : Nat) (ok ce ue : Bool) (s : State) : State :=
  match (s.yard y).flying with
  | none => s
  | some j =>
    let v := s.yard y
    let s := s.setYard y { v with flying := none }
    let k := v.flySet
    let (w, s) := if ce ∨ ue then s.fresh 1 else (0, s)
    let a := (CTL.LAW y k).addr - 0x1C + 4 * (w % 8)
    let s := if ce then s.memCe 5 a { unit := 7, access := 1 } else s
    if !ok then (s.laneError v.lane 0).discardJob y j v.flyAt k
    else if ue then (s.coefError y k a).discardJob y j v.flyAt 0
    else
      match j with
      | .law e => s.writeBack y (lawJob (s.coefs y k) e v.s1 v.s2 v.s3) true
      | .hold h _ => s.writeBack y (holdJob (s.coefs y k) (h.getD (s.lastTrim y))) false

/-- KEEL_HANDOVER: the trim in the output register whose hand-over instant has come goes to the bay bus (R94). -/
def keelHandoverEff (y : Nat) (s : State) : State :=
  match (s.yard y).out with
  | [] => s
  | (t, due) :: rest => if s.mono < due then s else (s.setYard y { s.yard y with out := rest }).sendTrim y t

/-- KEEL_MISS: a keel yard's job not dispatched in time becomes a hold period (R95). -/
def keelMissEff (y : Nat) (s : State) : State :=
  let v := s.yard y
  match v.queued with
  | none => s
  | some j =>
    if s.classNow y = 0 ∨ v.late ∨ s.mono < s.jobDeadline y then s
    else (s.setYard y { v with queued := none }).discardJob y j v.qAt v.qSet

/-! ### Sharing and supervision jobs on the lanes (R91, R92, R109, R192) -/

/-- A bay's deltas for the next superframe are hold (0b00). -/
def State.zeroDeltas (s : State) (b : Nat) : State := s.modBay b fun v => v.phases fun p => { p with delta := 0 }


/-- A sharing job goes before another: its deadline is earlier, or equal and its bay lower (R92). -/
def State.shareBefore (s : State) (b c : Nat) : Bool :=
  let l := s.shareLimit (b / 80)
  let m := s.shareLimit (c / 80)
  decide (l < m) || l == m && decide (b < c)

/-- The issue slots come to a bay's sharing job (R92): no keel job waits, no standard job unless it is urgent, and no sharing job
that goes before it. -/
def State.shareTurn (s : State) (b : Nat) : Bool :=
  s.readyYards 1 == [] && (s.shareUrgent b || s.readyYards 0 == [])
    && (List.range Config.bayCount).all fun c => !(s.shareBefore c b && s.shareReady c)

/-- The bay's sharing job of this superframe is done with. -/
def State.markShared (s : State) (b : Nat) : State := s.modBay b fun v => { v with shared := true }

/-- SHARING_JOB, in the order of R92. -/
def sharingJobEff (b lane : Nat) (ok : Bool) (s : State) : State :=
  if Config.bayCount ≤ b ∨ !s.shareReady b ∨ !s.shareTurn b then s
  else if ok then (s.sharingJob b).markShared b
  else ((s.laneError lane 1).zeroDeltas b).markShared b

/-- SHARING_DEADLINE_MISS: a job not dispatched by its limit is dropped. -/
def sharingMissEff (b : Nat) (s : State) : State :=
  if Config.bayCount ≤ b ∨ !s.shareReady b ∨ s.mono < s.shareLimit (b / 80) then s
  else ((s.zeroDeltas b).markShared b).bump TIL_CNT_SHAREMISS.COUNT

/-- TIL_STATUS as it reads: load, keel yards, lanes of the configuration that runs (R89, R90, R106). -/
def State.tilStatus (s : State) : Word :=
  let c := s.runningConfig
  pack [(min 127 (loadPercent c), 16), (keelYards c, 8), (s.lanes, 0)]

/-- TIL_BOUND as it reads. -/
def State.tilBound (s : State) : Word :=
  pack [(min 255 (keelWait s.runningConfig), 8), (min 255 (stdWait s.runningConfig), 0)]

/-- YRD_FB.PHASE as it reads (R88, R433). -/
def State.phaseOf (s : State) (y : Nat) : Nat := phaseIn (s.loopConfig false) y % 512

/-! ### The commands -/

/-- ERROR_QUEUED. -/
def execErrorQueued (yard : Nat) (s : State) : Out :=
  s.after (errorQueuedEff yard s)

/-- LAW_JOB_DISPATCH. -/
def execLawJobDispatch (lane : Nat) (waitNs : Nat) (s : State) : Out :=
  s.after (lawDispatchEff lane waitNs s)

/-- LAW_JOB_COMPLETE. -/
def execLawJobComplete (yard : Nat) (residueOk : Bool) (ce : Bool) (ue : Bool) (s : State) : Out :=
  s.after (lawCompleteEff yard residueOk ce ue s)

/-- KEEL_HANDOVER. -/
def execKeelHandover (yard : Nat) (s : State) : Out :=
  s.after (keelHandoverEff yard s)

/-- KEEL_MISS. -/
def execKeelMiss (yard : Nat) (s : State) : Out :=
  s.after (keelMissEff yard s)

/-- SHARING_JOB. -/
def execSharingJob (bay : Nat) (lane : Nat) (residueOk : Bool) (s : State) : Out :=
  s.after (sharingJobEff bay lane residueOk s)

/-- SHARING_DEADLINE_MISS. -/
def execSharingDeadlineMiss (bay : Nat) (s : State) : Out :=
  s.after (sharingMissEff bay s)

end Sys2Proof.Machine
end

