-- ==== Sys2Proof/Machine/Sextant.lean ====
section
/-!
DEFINITION. Sextant (R157-R191): correction, channel values and window comparators, scan credits, urgent conversions, the
background estimator, streams and captures, system calibration and its records.
-/

namespace Sys2Proof.Machine

/-! ### Correction (R158, R166) -/

/-- u of a conversion by slice `sl` with raw code c. -/
def State.sxtU (s : State) (n sl c : Nat) : Int :=
  (((16 * c : Nat) : Int) - s.getI (SXT_SL_OFS.OFS n sl)) * (s.get (SXT_SL_GAIN.GAIN n sl) : Int)
    |> fun x => (x + 2 ^ 13) / 2 ^ 14

/-- v of a channel from u. -/
def State.sxtV (s : State) (n ch : Nat) (u : Int) : Int :=
  satSigned 16 ((u * (s.get (SXT_CH_CAL.A n ch) : Int) + 2 ^ 15) / 2 ^ 16 + s.getI (SXT_CH_CAL.B n ch))

/-! ### Window comparators (R172, R173) -/

/-- One value at a comparator: state, counts of the two ways out of it, and whether the move is an event. -/
structure WinStep where
  st : Nat
  cnt : Nat × Nat
  event : Bool
  leaves : Bool
deriving DecidableEq, Repr

/-- A comparator's move on a value (R172): persistence p, bounds, hysteresis, RET_EN. -/
def winStep (st : Nat) (cnt : Nat × Nat) (v lo hi hyst : Int) (p : Nat) (ret : Bool) : WinStep :=
  let stepc (c : Nat) (b : Bool) : Nat := if b then c + 1 else 0
  let a := if st = 1 then stepc cnt.1 (v < lo) else stepc cnt.1 (v > hi)
  let b := if st = 0 then stepc cnt.2 (v < lo) else if st = 1 then stepc cnt.2 (v ≤ hi - hyst) else stepc cnt.2 (v ≥ lo + hyst)
  if st = 0 then
    if p ≤ a then ⟨1, (0, 0), true, true⟩ else if p ≤ b then ⟨2, (0, 0), true, true⟩ else ⟨0, (a, b), false, false⟩
  else if p ≤ a then ⟨if st = 1 then 2 else 1, (0, 0), true, false⟩
  else if p ≤ b then ⟨0, (0, 0), ret, false⟩
  else ⟨st, (a, b), false, false⟩

/-- Index of the first capture sample taken in the present CLK_B cycle (R183): samples stand 0.78125 ns apart from GO (R180). -/
def State.sampleNow (s : State) (goAt : Nat) : Nat := (16 * (s.mono / 5 * 5 - goAt) + 24) / 25

/-- The trigger of an armed capture on an even cluster is registered, if none was before (R183). -/
def State.triggerSeen (s : State) (e : Nat) : State :=
  let c := s.cluster e
  if s.get (SXT_STR_STAT.STATE e 0) = 1 ∧ c.ss0.seen = none then
    s.setCluster e { c with ss0 := { c.ss0 with seen := some (s.sampleNow c.ss0.goAt) } }
  else s

/-- A TRIP report from a bay of a yard reaches the captures that wait for one (R183). -/
def State.tripSeen (s : State) (y : Nat) : State :=
  (List.range Config.clusterCount).foldl (fun s e =>
    if s.get (SXT_STR_CTRL.TRIG e 0) = 3 ∧ s.get (SXT_STR_CTRL.TRIG_YARD e 0) = y then s.triggerSeen e else s) s

/-- A window event of a channel; a capture of the pair may wait for it (R183). -/
def State.winEvent (s : State) (n ch : Nat) : State :=
  let f : Fld := if ch < 32 then SXT_WIN_EVT0.CH n else SXT_WIN_EVT1.CH n
  let s := s.put f (setBit (s.get f) (ch % 32))
  let s := (s.bump (SXT_CNT_WIN.COUNT n)).evt (pgX n) 0
  let e := n / 2 * 2
  if s.get (SXT_STR_CTRL.TRIG e 0) = 2 ∧ s.get (SXT_STR_CTRL.TRIG_CHAN e 0) = ch ∧ s.get (SXT_STR_CTRL.TRIG_ODD e 0) = n % 2 then
    s.triggerSeen e
  else s

/-- A cluster's internal channel leaves its band (R173). -/
def State.bandLeft (s : State) (n ch : Nat) (v : Int) : State :=
  match Config.chKind n ch with
  | .ref | .gnd => s.raise 0x1C [n, ch]
  | .vdda => s.raise 0x1D [n, unsigned 16 v]
  | _ => s

/-- The comparator of a channel takes a corrected value while EN is 1 (R172). -/
def State.compare (s : State) (n ch : Nat) (v : Int) : State :=
  if !s.on (SXT_CH_WCFG.EN n ch) then s
  else
    let c := s.cluster n
    let r := winStep (s.get (SXT_VAL.WSTATE n ch)) (c.persist.getD ch (0, 0)) v (s.getI (SXT_CH_WIN.LO n ch))
      (s.getI (SXT_CH_WIN.HI n ch)) (s.get (SXT_CH_WCFG.HYST n ch)) (s.get (SXT_CH_WCFG.PERSIST n ch) + 1) (s.on (SXT_CH_WCFG.RET_EN n ch))
    let s := (s.setCluster n { c with persist := c.persist.set ch r.cnt }).put (SXT_VAL.WSTATE n ch) r.st
    let s := if r.event then s.winEvent n ch else s
    if r.leaves then s.bandLeft n ch v else s

/-- A write of LO, HI, HYST or PERSIST returns the comparator to IN (R172). -/
def State.windowWritten (s : State) (n ch : Nat) : State :=
  let c := s.cluster n
  (s.setCluster n { c with persist := c.persist.set ch (0, 0) }).put (SXT_VAL.WSTATE n ch) 0

/-- REF or GND is out of its band: the estimator makes no updates (R173). -/
def State.estFrozen (s : State) (n : Nat) : Bool := s.on (SXT_VAL.WSTATE n 32) || s.on (SXT_VAL.WSTATE n 35)

/-! ### Scan (R162, R163) -/

/-- Sum of the scan weights of a cluster. -/
def State.totalWeight (s : State) (n : Nat) : Nat := ((List.range 36).map fun c => s.get (SXT_CH_SCAN.WEIGHT n c)).sum

/-- A free slot goes to channel k: every channel's credit grows by its weight, k's falls by the total. -/
def State.scanSlot (s : State) (n k : Nat) : State :=
  let c := s.cluster n
  let total : Int := ((s.totalWeight n : Nat) : Int)
  s.setCluster n { c with credit := c.credit.zipIdx.map fun (x, i) =>
    x + (s.get (SXT_CH_SCAN.WEIGHT n i) : Int) - (if i = k then total else 0) }

/-- The channel that the next free slot goes to: the largest credit once every channel's has grown by its weight, the lowest
number among equals. -/
def State.scanPick (s : State) (n : Nat) : Nat :=
  let grown := (s.cluster n).credit.zipIdx.map fun (x, i) => x + (s.get (SXT_CH_SCAN.WEIGHT n i) : Int)
  (grown.zipIdx.foldl (fun (best : Int × Nat) (x : Int × Nat) => if best.1 < x.1 then x else best) (grown.headD 0, 0)).2

/-- A system calibration measures a channel: the scan is suspended (R186). -/
def State.calMeasures (s : State) (n : Nat) : Bool := s.get (SXT_CAL.STATE n) == 1 || s.get (SXT_CAL.STATE n) == 3

/-- What the next slot of a cluster converts, a channel and whether it is a loop sample: the first booking (R160), else the scan's
choice (R162); none while free slots go to a calibration (R186). -/
def State.nextConversion (s : State) (n : Nat) : Option (Nat × Bool) :=
  match (s.cluster n).booked with
  | ch :: _ => some (ch, true)
  | [] => if s.calMeasures n then none else some (s.scanPick n, false)

/-- A slice holds an active position; while the pair captures, it is the fifth slice that carries bookings and scan (R159, R181). -/
def State.converts (s : State) (n sl : Nat) : Bool :=
  if s.on (SXT_STATUS.CAPTURE n) then s.get (SXT_STATUS.OUT n) == sl else (s.cluster n).seats.contains sl

/-- What a slice converts (R159). A slice in its position whose conversion has not been recorded, as after reset, converts what the
next slot takes; one that has left its position finishes what it has in flight (R167). -/
def State.converting (s : State) (n sl : Nat) : Option (Nat × Bool) :=
  match (s.cluster n).flight.getD sl none with
  | some f => some f
  | none => if s.converts n sl then s.nextConversion n else none

/-- A slice begins the conversion of its next slot (R159, R162). -/
def State.startNext (s : State) (n sl : Nat) : State :=
  let f := s.nextConversion n
  let s := match f with | some (k, false) => s.scanSlot n k | _ => s
  let c := s.cluster n
  s.setCluster n { c with booked := c.booked.drop 1, flight := c.flight.set sl f, order := c.order.erase sl ++ [sl] }

/-- A write of any weight zeroes every credit of the cluster. -/
def State.weightWritten (s : State) (n : Nat) : State :=
  s.setCluster n { s.cluster n with credit := List.replicate 36 0 }

/-- The weight a write stores: never below 4 for channels 32-35 (R163). -/
def storedWeight (ch w : Nat) : Nat := if 32 ≤ ch then max 4 w else w

/-! ### Samples of the streams (R174, R177) -/

/-- The engine of a stream. -/
def Cluster.str (c : Cluster) (m : Nat) : Stream := if m = 0 then c.ss0 else c.ss1
def Cluster.setStr (c : Cluster) (m : Nat) (x : Stream) : Cluster := if m = 0 then { c with ss0 := x } else { c with ss1 := x }

/-- How many further samples a stream takes up to COUNT from the trigger; none where it takes all (R174, R183). -/
def State.strWant (s : State) (n m : Nat) : Option Nat :=
  let e := (s.cluster n).str m
  let count := s.get (SXT_STR_COUNT.COUNT n m)
  match e.trigAt with
  | some t => if count = 0 then none else some (t + count - e.written - e.gathered.length)
  | none => none

/-- Every sample that the stream takes has been gathered or written. -/
def State.strComplete (s : State) (n m : Nat) : Bool := s.strWant n m == some 0

/-- Samples arrive in order (R174, R175). A stream to host memory stages 1,024 of them; those that find its stage full are dropped
(R177). -/
def State.arrive (s : State) (n m : Nat) (l : List (BitVec 16)) : State :=
  let e := (s.cluster n).str m
  let room := if s.get (SXT_STR_CTRL.DEST n m) = 0 then l.length else 1024 - e.gathered.length
  let want := (s.strWant n m).getD l.length
  let got := l.take (min room want)
  let dropped := if want ≤ room then 0 else l.length - got.length
  let s := s.setCluster n ((s.cluster n).setStr m { e with gathered := e.gathered ++ got, taken := e.taken + got.length + dropped })
  if dropped = 0 then s
  else
    let s := if s.on (SXT_STR_DROP.COUNT n m) then s else s.put (SXT_STR_DROPAT.INDEX n m) (e.taken + got.length)
    (s.bumpBy (SXT_STR_DROP.COUNT n m) dropped).evt (pgX n) 6

/-- CLK_X edges up to a time in half nanoseconds: 6.25 ns apart on the PLL, 40 ns on the backup oscillator (R24). -/
def State.edgesTo (s : State) (t : Nat) : Nat := if s.onPll then 2 * t / 25 else t / 80

/-- CLK_X edges in (a, b]. -/
def State.edgesIn (s : State) (a b : Nat) : Nat := s.edgesTo b - s.edgesTo a

/-- Time of the k-th CLK_X edge, half nanoseconds. -/
def State.edgeTime (s : State) (k : Nat) : Nat := if s.onPll then (25 * k + 1) / 2 else 80 * k

/-- Slots of the conversion grid in (a, b]: 1.5625 ns apart on the PLL, 10 ns on the backup oscillator (R159). -/
def State.slotsIn (s : State) (a b : Nat) : Nat := if s.onPll then 8 * b / 25 - 8 * a / 25 else b / 20 - a / 20

/-- A running channel stream takes the latest value of its channel at every (DIV + 1)th CLK_X edge up to now (R174). -/
def State.gather (s : State) (n m : Nat) : State :=
  if s.get (SXT_STR_STAT.STATE n m) ≠ 2 ∨ s.get (SXT_STR_CTRL.SRC n m) ≠ 0 then s
  else
    let e := (s.cluster n).str m
    let edges := e.edges + s.edgesIn e.edgeAt s.mono
    let div := s.get (SXT_STR_DIV.DIV n m) + 1
    let last := match s.strWant n m with
      | some w => if e.edges / div + w ≤ edges / div ∧ w ≠ 0 then s.edgeTime (s.edgesTo e.edgeAt + ((e.edges / div + w) * div - e.edges)) else e.lastAt
      | none => e.lastAt
    let s := s.setCluster n ((s.cluster n).setStr m { e with edges := edges, edgeAt := s.mono, lastAt := last })
    s.arrive n m (List.replicate (edges / div - e.edges / div) (BitVec.ofNat 16 (s.get (SXT_VAL.VALUE n (s.get (SXT_STR_CTRL.CHANNEL n m))))))

/-- Slots that the running calibration turn has had (R167): a reset opens a turn. -/
def State.turnNow (s : State) (n : Nat) : Nat :=
  let c := s.cluster n
  if c.turnAt < s.startAt then s.slotsIn s.startAt s.mono else c.turnSlots + s.slotsIn c.turnAt s.mono

/-- The turn's slots are counted up to now. -/
def State.countTurn (s : State) (n : Nat) : State :=
  s.setCluster n { s.cluster n with turnSlots := s.turnNow n, turnAt := s.mono }

/-- A calibration turn opens. -/
def State.openTurn (s : State) (n : Nat) : State := s.setCluster n { s.cluster n with turnSlots := 0, turnAt := s.mono }

/-- Every running channel stream takes its samples up to now, and the turns their slots: the clocks change (R24). -/
def State.gatherAll (s : State) : State :=
  (List.range Config.clusterCount).foldl (fun s n => [0, 1].foldl (fun s m => s.gather n m) (s.countTurn n)) s

/-- The running streams of a channel take its value up to now, which then changes. -/
def State.sampleStreams (s : State) (n ch : Nat) : State :=
  [0, 1].foldl (fun s m => if s.get (SXT_STR_CTRL.CHANNEL n m) = ch then s.gather n m else s) s

/-! ### A conversion's value (R157, R166, R171, R172) -/

/-- A corrected value of a channel: the streams of the channel take what it held up to now; latest value, sequence, what the board
stages make of it, comparator. -/
def State.takeValue (s : State) (n ch : Nat) (v : Int) : State :=
  let s := s.sampleStreams n ch
  let s := (s.putI (SXT_VAL.VALUE n ch) v).put (SXT_VAL.SEQ n ch) ((s.get (SXT_VAL.SEQ n ch) + 1) % 256)
  (s.boardValue n ch v).compare n ch v

/-- The sampling instant of a yard books its sense points, in ascending order (R160); only its feedback points while the pair
captures (R181), and none where the cluster delivers no loop samples (R169). -/
def State.bookPoints (s : State) (y : Nat) : State :=
  let n := y / 4
  let c := s.cluster n
  let ps := if s.slicesIn n < 4 then [] else if s.on (SXT_STATUS.CAPTURE n) then s.fbPoints y else List.range Config.sensePoints
  let s := s.setYard y { s.yard y with got := [] }
  s.setCluster n { c with booked := (c.booked.filter fun ch => ch / 4 != y % 4) ++ ps.map (y % 4 * 4 + ·) }

/-- A loop sample is held for its delivery: point p of yard y (R157, R160). -/
def State.loopSample (s : State) (n ch : Nat) (v : Int) : State :=
  let y := (16 * n + ch) / 4
  if Config.chKind n ch = .die ∧ 4 ≤ s.slicesIn n then s.setYard y { s.yard y with got := (s.yard y).got ++ [(ch % 4, v)] } else s

/-- A conversion of the fifth slice while its pair captures (R181). Of each group of eight, one shadows capture slice S(i mod 4), by
active position, and one converts GND or REF; where in the group they stand the spec leaves open: here they come last (DESIGN CHOICE,
assumption log 39). -/
def State.groupStep (s : State) (n : Nat) : State :=
  let c := s.cluster n
  if c.groupConv < 5 then s.setCluster n { c with groupConv := c.groupConv + 1 }
  else
    let sl := c.seats.getD (c.groups % 4) 0
    s.setCluster n { c with
      groupConv := 0, groups := c.groups + 1, refGroups := c.refGroups + 1, pairs := c.pairs.set sl (c.pairs.getD sl 0 + 1) }

/-- In the in-line form a GND or REF scan conversion is credited to its slice, up to 2,048 of each (R169). -/
def State.creditSlice (s : State) (n sl ch : Nat) (code : BitVec 10) : State :=
  let c := s.cluster n
  let k := c.credited.getD sl {}
  let v : Int := 16 * (code.toNat : Int)
  match Config.chKind n ch with
  | .gnd => if k.gndN < 2048 then s.setCluster n { c with credited := c.credited.set sl { k with gnd := k.gnd + v, gndN := k.gndN + 1 } } else s
  | .ref => if k.refN < 2048 then s.setCluster n { c with credited := c.credited.set sl { k with ref := k.ref + v, refN := k.refN + 1 } } else s
  | _ => s

/-- What the estimator makes of a conversion in a position. -/
def State.estimate (s : State) (n sl ch : Nat) (code : BitVec 10) (loop : Bool) : State :=
  if s.on (SXT_STATUS.CAPTURE n) then s.groupStep n
  else if s.on (SXT_STATUS.INLINE n) ∧ loop = false then s.creditSlice n sl ch code
  else s

/-- A TEMP conversion enters the running mean (R171). -/
def State.noteTemp (s : State) (n ch : Nat) (v : Int) : State :=
  let c := s.cluster n
  if Config.chKind n ch = .temp then s.setCluster n { c with tSum := c.tSum + v, tCnt := c.tCnt + 1 } else s

/-- A slice's conversion resolves with a code, and the slice begins its next one (R159). A channel connected to the calibration
pins keeps its value (R186). A scan's credits are charged as its conversion begins (R162). -/
def State.convert (s : State) (n sl ch : Nat) (code : BitVec 10) (loop : Bool) : State :=
  if Config.clusterCount ≤ n ∨ Config.chKind n ch = .absent ∨ !tb (s.get (SXT_STATUS.IN_SERVICE n)) sl
      ∨ s.converting n sl ≠ some (ch, loop) then s
  else
    let s := if (s.cluster n).flight.getD sl none = none then s.startNext n sl else s
    let v := s.sxtV n ch (s.sxtU n sl code.toNat)
    let s :=
      if s.calConnected n ch then s
      else
        let s := s.takeValue n ch v
        if loop then s.loopSample n ch v else s
    let s := (s.noteTemp n ch v).estimate n sl ch code loop
    if s.converts n sl then s.startNext n sl
    else s.setCluster n { s.cluster n with flight := (s.cluster n).flight.set sl none }

/-! ### Cluster temperature (R171) -/

/-- T of a cluster in use, 1/16 °C: TCAL before the first mean. -/
def State.sxtT (s : State) (n : Nat) : Int :=
  if s.on (SXT_STATUS.TEMP_SUB n) ∨ (s.cluster n).tSeen then s.getI (SXT_TEMP.T n) else s.getI (SXT_COMP_CFG.TCAL n)

/-- The mean of a number of TEMP values, 1/16 °C (R158). -/
def tempOf (sum : Int) (cnt : Nat) : Int := 400 + roundDiv ((2240 * (cnt : Int) - sum) * 25) (9 * (cnt : Int))

/-- Reading of a thermal sensor, 1/16 °C. -/
def State.sensor (s : State) (k : Nat) : Int := s.getI (Fld.half THM_TEMP.reg k)

/-- The 100 µs of R171 end: T is the diode mean, or the sensor's reading while it is substituted. The first end after a reset only
opens a full 100 µs. The ends are taken at the thermal scans (DESIGN CHOICE, assumption log 38). -/
def State.tempMean (s : State) (n : Nat) : State :=
  let c := s.cluster n
  if s.on (SXT_STATUS.TEMP_SUB n) then
    (s.putI (SXT_TEMP.T n) (s.sensor (s.get (SXT_COMP_CFG.TSENS n)))).setCluster n { c with tSum := 0, tCnt := 0 }
  else if !c.tOpen then s.setCluster n { c with tSum := 0, tCnt := 0, tOpen := true }
  else if c.tCnt = 0 then s
  else
    let t := tempOf c.tSum c.tCnt
    let off := decide (96 < (t - s.sensor (s.get (SXT_COMP_CFG.TSENS n))).natAbs)
    (s.putI (SXT_TEMP.T n) t).setCluster n
      { c with tSum := 0, tCnt := 0, tSeen := true, tOff := if off then some (c.tOff.getD s.mono) else none }

/-- TEMP_SUBSTITUTION, 1 ms after T and the sensor began to differ by more than 6 °C. When TEMP_SUB returns to 0 the spec does not say:
here only a reset clears it (DESIGN CHOICE, assumption log 39). -/
def tempSubEff (n : Nat) (s : State) : State :=
  if Config.clusterCount ≤ n ∨ s.on (SXT_STATUS.TEMP_SUB n) ∨ !(s.cluster n).tOff.any (fun t => decide (t + ns 1000000 ≤ s.mono)) then s
  else
    let t := s.sensor (s.get (SXT_COMP_CFG.TSENS n))
    let s := (s.put (SXT_STATUS.TEMP_SUB n) 1).putI (SXT_TEMP.T n) t
    s.raise 0x1B [n, unsigned 16 t]

/-- Entry j of the compensation table, units of 2^-20. -/
def State.compEntry (s : State) (n j : Nat) : Int := s.getI (if j % 2 = 1 then SXT_COMP.C_ODD n (j / 2) else SXT_COMP.C_EVEN n (j / 2))

/-- 176 × C(T), interpolated between entries 11 °C apart (R171). -/
def State.comp176 (s : State) (n : Nat) (t : Int) : Int :=
  let x := clampI 0 (15 * 176) (t + 640)
  let j := min 14 (x / 176).toNat
  let f := x - 176 * j
  s.compEntry n j * (176 - f) + s.compEntry n (j + 1) * f

/-- r20 >> 6 (R168, R171). -/
def State.refTarget (s : State) (n : Nat) : Int :=
  12288 * (2 ^ 20 * 176 + s.comp176 n (s.sxtT n) - s.comp176 n (s.getI (SXT_COMP_CFG.TCAL n))) / (176 * 64)

/-! ### The background estimator (R167-R169, R181) -/

/-- A coefficient moves by an eighth of its distance (R168). -/
def approach (x target : Int) : Int := x + (target - x + 4) / 8

/-- A slice leaves service, and its position if it holds one (R169). -/
def State.retireSlice (s : State) (n sl : Nat) : State :=
  let s := s.put (SXT_STATUS.IN_SERVICE n) (clearBit (s.get (SXT_STATUS.IN_SERVICE n)) sl)
  let c := s.cluster n
  let s := s.setCluster n { c with seats := c.seats.filter (· != sl), flight := c.flight.set sl none, order := c.order.erase sl }
  let s := (s.put (SXT_STATUS.INLINE n) 1).put (SXT_STATUS.OUT n) 7
  let s := s.raise 0x19 [n, sl]
  if s.slicesIn n = 3 then s.raise 0x1A [n] else s

/-- A turn is rejected (R169). -/
def State.rejectTurn (s : State) (n sl : Nat) : State :=
  let k := s.get (SXT_SL_STAT.REJECTS n sl) + 1
  let s := (s.bump (SXT_CNT_CALREJ.COUNT n)).put (SXT_SL_STAT.REJECTS n sl) (min 3 k)
  let s := (s.raise 0x18 [n, sl]).evt (pgX n) 5
  if 3 ≤ k then s.retireSlice n sl else s

/-- The sampling-delay trim follows the skew; a result outside its 10 bits is a free value (DESIGN CHOICE, assumption log 11). -/
def State.adjustDelay (s : State) (n sl : Nat) (skew : Int) : State :=
  let d := s.getI (SXT_SL_DLY.DLY n sl) - clampI (-4) 4 skew
  if -512 ≤ d ∧ d ≤ 511 then s.putI (SXT_SL_DLY.DLY n sl) d
  else
    let (v, s) := s.fresh 2
    s.put (SXT_SL_DLY.DLY n sl) v

/-- New coefficients of a slice from its GND and REF sums (R168). With equal means no gain is stated: it is a free value. -/
def State.turnResult (s : State) (n sl : Nat) (sumGnd sumRef skew : Int) : State :=
  let m0 := sumGnd / 2048
  let m1 := sumRef / 2048
  let (g, s) := if m1 = m0 then (let (v, s) := s.fresh 3; ((v : Int), s)) else ((s.refTarget n + (m1 - m0) / 2) / (m1 - m0), s)
  if m0 < -2047 ∨ 2047 < m0 ∨ g < 12288 ∨ 20480 < g then s.rejectTurn n sl
  else
    let s := s.put (SXT_SL_STAT.REJECTS n sl) 0
    let s := s.putI (SXT_SL_OFS.OFS n sl) (approach (s.getI (SXT_SL_OFS.OFS n sl)) m0)
    let s := s.putI (SXT_SL_GAIN.GAIN n sl) (approach (s.get (SXT_SL_GAIN.GAIN n sl)) g)
    s.adjustDelay n sl skew

/-- A capture slice after 512 shadow pairs (R181), from the sums of u of the capture slice and of the fifth slice, of u squared and
of the products: ofs moves by an eighth towards equal means; gain moves by an eighth towards the least-squares slope, in the form of
R166, where u varies by more than 64 rms. Rounding, and the clamps to the ranges of R166, are DEDUCED (assumption log 38). -/
def State.shadowResult (s : State) (n sl : Nat) (own fifth : TurnSum) (skew : Int) : State :=
  let d := roundDiv (own.sum - fifth.sum) 512
  let ofs := s.getI (SXT_SL_OFS.OFS n sl)
  let s := s.putI (SXT_SL_OFS.OFS n sl) (clampI (-2047) 2047 (approach ofs (ofs + d)))
  let spread := 512 * own.prod - own.sum ^ 2
  let s :=
    if 512 ^ 2 * 64 ^ 2 < spread then
      let slope := roundDiv ((512 * fifth.prod - own.sum * fifth.sum) * 2 ^ 14) spread
      s.putI (SXT_SL_GAIN.GAIN n sl) (clampI 12288 20480 (approach (s.get (SXT_SL_GAIN.GAIN n sl)) slope))
    else s
  s.adjustDelay n sl skew

/-- a(k) of every external channel is scaled from the ratio it stands corrected for to a new one. -/
def State.scaleRef (s : State) (n b0 r0 b r : Nat) : State :=
  let den : Int := ((b0 * r : Nat) : Int)
  let num : Int := ((b * r0 : Nat) : Int)
  let s := s.setCluster n { s.cluster n with refUsed := some (b, r) }
  ((List.range 32).filter fun k => Config.chKind n k != .absent).foldl (fun s k =>
    s.put (SXT_CH_CAL.A n k) (min 65535 (roundDiv ((s.get (SXT_CH_CAL.A n k) : Int) * den) num).toNat)) s

/-- The turn in which the second bandgap stood in for GND (R204): without a baseline it is one (R206); a drift of the ratio
to REF of up to 1 % from it is corrected in a(k) of every external channel, a larger one raises SXT_REFDRIFT. -/
def State.refResult (s : State) (n sumBg sumRef : Nat) : State :=
  let c := s.cluster n
  let s := s.setCluster n { c with refTurn := false, refLast := some (sumBg, sumRef) }
  match c.refBase with
  | none => s.setCluster n { s.cluster n with refBase := some (sumBg, sumRef), refUsed := some (sumBg, sumRef) }
  | some (b0, r0) =>
    let den : Int := ((b0 * sumRef : Nat) : Int)
    let num : Int := ((sumBg * r0 : Nat) : Int)
    if den = 0 ∨ num = 0 then s
    else
      let drift := roundDiv ((num - den) * 10000) den
      if (num - den).natAbs * 100 ≤ den.natAbs then
        let u := c.refUsed.getD (b0, r0)
        s.scaleRef n u.1 u.2 sumBg sumRef
      else s.raiseWith 0x1F [n, unsigned 32 drift] {} false

/-- The next slice goes out, and the slice that was out takes its position (R167). -/
def State.rotate (s : State) (n : Nat) : State :=
  let out := s.get (SXT_STATUS.OUT n)
  let next := (out + 1) % 5
  let s := s.openTurn n
  let c := s.cluster n
  (s.setCluster n { c with seats := c.seats.map fun x => if x = next then out else x }).put (SXT_STATUS.OUT n) next

/-- The estimator has gathered what an update of a slice takes: the turn's 16,384 slots of the slice that is out (R167), 2,048 GND and
2,048 REF conversions credited to it in the in-line form (R169), 512 shadow pairs, or the fifth slice's 2,048 of each, one a group
(R181). -/
def State.turnReady (s : State) (n sl : Nat) : Bool :=
  let c := s.cluster n
  let k := c.credited.getD sl {}
  if s.on (SXT_STATUS.CAPTURE n) then
    (if sl = s.get (SXT_STATUS.OUT n) then decide (4096 ≤ c.refGroups) else decide (512 ≤ c.pairs.getD sl 0))
  else if s.on (SXT_STATUS.INLINE n) then k.gndN == 2048 && k.refN == 2048
  else sl == s.get (SXT_STATUS.OUT n) && decide (16384 ≤ s.turnNow n)

/-- What it has gathered is used up. -/
def State.turnUsed (s : State) (n sl : Nat) : State :=
  let c := s.cluster n
  if s.on (SXT_STATUS.CAPTURE n) then
    (if sl = s.get (SXT_STATUS.OUT n) then s.setCluster n { c with refGroups := 0 }
      else s.setCluster n { c with pairs := c.pairs.set sl (c.pairs.getD sl 0 - 512) })
  else s.setCluster n { c with credited := c.credited.set sl {} }

/-- ESTIMATOR_TURN_END: rotating form, in-line form, whose sums are those credited, or a capture's adjustment. An event that comes before
what it needs is gathered does not arise. -/
def turnEndEff (n sl : Nat) (gnd ref : TurnSum) (skew : Int) (s : State) : State :=
  let inl := s.on (SXT_STATUS.INLINE n)
  let cap := s.on (SXT_STATUS.CAPTURE n)
  let k := (s.cluster n).credited.getD sl {}
  if Config.clusterCount ≤ n ∨ !tb (s.get (SXT_STATUS.IN_SERVICE n)) sl ∨ !s.turnReady n sl then s
  else
    let s := s.turnUsed n sl
    let s := if s.estFrozen n then s
      else if cap then (if sl = s.get (SXT_STATUS.OUT n) then s.turnResult n sl gnd.sum ref.sum skew else s.shadowResult n sl gnd ref skew)
      else if inl then s.turnResult n sl k.gnd k.ref skew
      else if (s.cluster n).refTurn then s.refResult n gnd.sum.toNat ref.sum.toNat
      else s.turnResult n sl gnd.sum ref.sum skew
    if s.on (SXT_STATUS.INLINE n) ∨ cap then s else s.rotate n

/-- SXT_SL_STAT.STATE as it reads (R190). -/
def State.sliceState (s : State) (n sl : Nat) : Nat :=
  if !tb (s.get (SXT_STATUS.IN_SERVICE n)) sl then 3
  else if s.get (SXT_STATUS.OUT n) = sl then 1
  else if s.on (SXT_STATUS.CAPTURE n) then 2 else 0

/-! ### Urgent conversions (R164, R165, R179, R407) -/

/-- The kinds of channel whose urgent reads and streams confidential operation refuses (R179, R407). -/
def confKind (n ch : Nat) : Bool :=
  match Config.chKind n ch with
  | .die => true
  | .imon | .pkg | .ibus => true
  | _ => n < 24

/-- An urgent request ends. -/
def State.urgEnd (s : State) (n result : Nat) : State := (s.put (SXT_URG_RES.RESULT n) result).evt (pgX n) 1

/-- GO written to SXT_URG. -/
def State.urgGo (s : State) (n : Nat) : State :=
  let ch := s.get (SXT_URG.CHANNEL n)
  match (s.cluster n).urg with
  | .none =>
    if Config.chKind n ch = .absent ∨ s.on (SXT_STATUS.CAPTURE n) ∨ !s.onPll ∨ (s.active ∧ confKind n ch) then s.urgEnd n 4
    else s.setCluster n { s.cluster n with urg := .waiting ch s.mono }
  | _ => s.urgEnd n 3

/-- The slices in the order in which their next slots come: the one whose conversion started first comes first (R159). -/
def State.slotOrder (s : State) (n : Nat) : List Nat :=
  let c := s.cluster n
  (c.seats.filter fun x => !c.order.contains x) ++ c.order.filter fun x => c.seats.contains x

/-- The slice that an urgent conversion takes (R164): of those whose conversion in flight is of the scan, and whose next slot, which
starts within 6.25 ns, no loop sample is booked on, the one whose conversion started most recently. -/
def State.urgentSlice (s : State) (n : Nat) : Option Nat :=
  if s.calMeasures n ∨ !s.onPll then none
  else
    let booked := (s.cluster n).booked.length
    let scans (sl : Nat) : Bool := match (s.cluster n).flight.getD sl none with | some (_, true) => false | _ => true
    (((s.slotOrder n).zipIdx.filter fun (sl, i) => scans sl && decide (booked ≤ i)).map (·.1)).getLast?

/-- The instants of a yard in the next 12.5 ns, half nanoseconds from now: φ after its period boundaries (R88), which are taken to
stand at whole periods of the model's clock (DESIGN CHOICE, assumption log 39). -/
def State.instantsSoon (s : State) (y : Nat) : List Nat :=
  let per := 2 * periodNs (s.get (YRD_LOOP_NOW.PERIOD_NOW y))
  if !s.hasJobs y then [] else (List.range 25).filter fun k => (s.mono + k) % per = 5 * s.phaseOf y % per

/-- Loop samples that the instants of the next 12.5 ns put on the slots to come (R160): the slots, counted from the next one, that hold a
booking, after those that hold one already. Slot k starts 25k/8 half nanoseconds after the next, and samples 1.25 ns later. -/
def State.slotsSoon (s : State) (n : Nat) : List Nat :=
  let b := (s.cluster n).booked.length
  let first := 25 - 8 * s.mono % 25
  let new := ((List.range 4).map (4 * n + ·)).flatMap fun y => if 24 ≤ n then [] else (s.instantsSoon y).map fun t => (t, Config.sensePoints)
  (new.foldl (fun (l : List Nat) (t, k) =>
    let free := (List.range 16).filter fun j => !l.contains j && decide (8 * t ≤ first + 25 * j + 20)
    l ++ free.take k) (List.range b))

/-- The conversion that an urgent one cuts short is restarted: no loop sample is booked on its slice in a slot that starts before
12.5 ns have passed (R164). -/
def State.urgentRestarts (s : State) (n sl : Nat) : Bool :=
  let i := (s.slotOrder n).idxOf sl
  let first := 25 - 8 * s.mono % 25
  (s.slotsSoon n).all fun j => j % 4 != i || decide (200 ≤ first + 25 * j)

/-- URGENT_START: the slice's scan conversion is aborted; it is restarted, to resolve after the others', or dropped (R164). WAIT is the
CLK_B cycles since the decode (R165). An event that tells another slice, wait or restart does not arise. -/
def urgentStartEff (n sl wait : Nat) (restart : Bool) (s : State) : State :=
  match (s.cluster n).urg, s.urgentSlice n with
  | .waiting ch at_, some sl' =>
    if sl ≠ sl' ∨ wait ≠ (s.mono - at_) / 5 ∨ restart ≠ s.urgentRestarts n sl then s
    else
    let s := if (s.cluster n).flight.getD sl none = none then
        (let k := s.scanPick n
         let s := s.scanSlot n k
         s.setCluster n { s.cluster n with flight := (s.cluster n).flight.set sl (some (k, false)) })
      else s
    let c := s.cluster n
    let s := s.setCluster n { c with
      urg := .running ch sl wait s.sysTime
      flight := if restart then c.flight else c.flight.set sl none
      order := c.order.erase sl ++ [sl] }
    let s := s.bump (SXT_CNT_URGENT.COUNT n)
    if restart then s else s.bump (SXT_CNT_ABORTDROP.COUNT n)
  | _, _ => s

/-- URGENT_DONE. A channel connected to the calibration pins keeps its value (R186). -/
def urgentDoneEff (n : Nat) (code : BitVec 10) (s : State) : State :=
  match (s.cluster n).urg with
  | .running ch sl wait at_ =>
    let v := s.sxtV n ch (s.sxtU n sl code.toNat)
    let s := s.setCluster n { s.cluster n with urg := .none }
    let s := (if s.calConnected n ch then s else s.takeValue n ch v).noteTemp n ch v
    let s := (s.putI (SXT_URG_RES.VALUE n) v).put (SXT_URG_RES.WAIT n) (min 511 wait)
    let s := (s.put (SXT_URG_RES.SLICE n) sl).put64 (SXT_URG_TIME_LO.TIME n) at_
    s.urgEnd n 1
  | _ => s

/-- URGENT_TIMEOUT, 1 µs after decode. -/
def urgentTimeoutEff (n : Nat) (s : State) : State :=
  match (s.cluster n).urg with
  | .waiting _ at_ =>
    if s.mono < at_ + ns 1000 then s
    else
    ((s.setCluster n { s.cluster n with urg := .none }).bump (SXT_CNT_URGTIMEOUT.COUNT n)).urgEnd n 2
  | _ => s

/-! ### Streams and captures (R174-R183) -/

/-- A stream is armed or running. -/
def State.strBusy (s : State) (n m : Nat) : Bool := s.get (SXT_STR_STAT.STATE n m) == 1 || s.get (SXT_STR_STAT.STATE n m) == 2

/-- Both clusters of the pair of an even cluster show a capture, or none (R180, R189); their slices then begin afresh. -/
def State.showCapture (s : State) (n : Nat) (b : Bool) : State :=
  let idle (s : State) (k : Nat) : State :=
    (s.setCluster k { s.cluster k with
      flight := List.replicate 5 none, order := [], groupConv := 0, groups := 0, refGroups := 0, pairs := List.replicate 5 0 }).openTurn k
  let s := idle (idle s n) (n + 1)
  let s := (s.put (SXT_STATUS.CAPTURE n) b.toNat).put (SXT_STATUS.CAPTURE (n + 1)) b.toNat
  s.put SXT_PAIR.CAPTURING (if b then setBit (s.get SXT_PAIR.CAPTURING) (n / 2) else clearBit (s.get SXT_PAIR.CAPTURING) (n / 2))

/-- A stream ends in a state (R176); a capture frees its pair; the command that started it ends, with ABORT_LATE where the stream
has it (R14). -/
def State.strEnd (s : State) (n m st : Nat) : State :=
  let e := (s.cluster n).str m
  let s := (s.put (SXT_STR_STAT.STATE n m) st).evt (pgX n) (2 + m)
  let s := if s.get (SXT_STR_CTRL.SRC n m) = 1 then s.showCapture n false else s
  let s := s.setCluster n ((s.cluster n).setStr m { e with tag := none, gathered := [] })
  s.finishOpt e.tag (if st = 3 then stDone else stAborted) 0 (s.word (SXT_STR_WRAPS.WRAPS n m).addr)
    (s.on (SXT_STR_STAT.ABORT_LATE n m))

/-- Yards with points on a die cluster that R182 looks at: those in D0-D2. -/
def State.captureYards (s : State) (n : Nat) : List Nat :=
  if n < 24 then ((List.range 4).map (4 * n + ·)).filter fun y => s.domState y ≤ 2 else []


/-- Conditions 3 to 5 of R182 on a cluster. -/
def State.captureFits (s : State) (n : Nat) : Bool :=
  let ys := s.captureYards n
  let cfg := s.loopConfig false
  ys.all (fun y => decide ((s.fbPoints y).length ≤ 2))
    && ((ys.map fun y => (s.fbPoints y).length * (160000 / periodNs (s.get (YRD_LOOP_NOW.PERIOD_NOW y)))).sum ≤ 120 * 160)
    && ys.all fun y => ys.all fun z => y == z || decide (5 ≤ phaseGap cfg s.phaseOf y z)

/-- Every condition of R182 holds for the pair of an even cluster. -/
def State.captureOk (s : State) (n : Nat) : Bool :=
  s.inWayOn && s.get (SXT_CAL.STATE n) == 0 && s.get (SXT_CAL.STATE (n + 1)) == 0
    && s.slicesIn n == 5 && s.slicesIn (n + 1) == 5 && s.captureFits n && s.captureFits (n + 1) && !s.active

/-- A range of host memory lies within the telemetry DMA window (R337). -/
def State.inWindow (s : State) (a n : Nat) : Bool :=
  decide (s.get64 TDM_WIN_BASE_LO.BASE ≤ a) && decide (a + n ≤ s.get64 TDM_WIN_LIMIT_LO.LIMIT)

/-- A range of host memory that a DMA write may touch: within the window, and while ACTIVE reads 1 within the bounce-buffer
region (R337, R409). -/
def State.mayWrite (s : State) (a n : Nat) : Bool :=
  s.inWindow a n
    && (!s.active || (decide (s.get64 SEC_BOUNCE_BASE_LO.BASE ≤ a) && decide (a + n ≤ s.get64 SEC_BOUNCE_LIMIT_LO.LIMIT)))

/-- TDM_ERR (R337, R374): user 1 Sextant streams, 2 telemetry streams, 3 bundle fetches; the access that found it, and whether
it lay outside the window. -/
def State.tdmErr (s : State) (user addr unit access : Nat) (outside : Bool) : State :=
  let s := (if outside then s.bump TDM_CNT_WINERR.COUNT else s).evt pgTDM 2
  s.raiseWith 0x0E [user, addr % 2 ^ 32] { addr := addr, unit := unit, access := access } false

/-- The ring of a stream lies within its limits and off retired pages (R174, R178). -/
def State.ringOk (s : State) (n m : Nat) : Bool :=
  let k := s.get (SXT_STR_SIZE.LOG2 n m)
  let base := s.get64 (SXT_STR_BASE_LO.BASE n m)
  if s.get (SXT_STR_CTRL.DEST n m) = 0 then
    12 ≤ k && k ≤ 18 && base % 2 ^ k == 0 && base + 2 ^ k ≤ 262144
      && !((List.range (2 ^ k / 4096)).any fun i => tb (s.get64 SXT_CAPRAM_RETIRE_LO.PAGE) (base / 4096 + i))
  else 12 ≤ k && k ≤ 30 && base % 4096 == 0 && s.mayWrite base (2 ^ k)

/-- The configuration of a stream lies within the limits of R174 and what confidential operation allows (R179, R407). -/
def State.strOk (s : State) (n m : Nat) : Bool :=
  let src := s.get (SXT_STR_CTRL.SRC n m)
  let ch := s.get (SXT_STR_CTRL.CHANNEL n m)
  s.ringOk n m && s.get (SXT_STR_COUNT.COUNT n m) ≤ 2 ^ 24
    && (if src = 0 then Config.chKind n ch != .absent && !(s.active && confKind n ch)
        else if src = 1 then
          m == 0 && n % 2 == 0 && s.get (SXT_STR_CTRL.TRIG n m) ≤ 3
            && Config.chKind (n + s.get (SXT_STR_CTRL.CAP_ODD n m)) ch != .absent && ch < 32 && s.captureOk n
        else false)

/-- GO of a stream whose registers hold its configuration; `tag` names the command, if one starts it. The answer says
whether it started. -/
def State.strGo (s : State) (n m : Nat) (tag : Option CmdTag) : State × Bool :=
  let base := s.get64 (SXT_STR_BASE_LO.BASE n m)
  if !s.strOk n m then
    let s := if s.get (SXT_STR_CTRL.DEST n m) = 1 ∧ !s.inWindow base (2 ^ s.get (SXT_STR_SIZE.LOG2 n m)) then s.tdmErr 1 base (32 + n) 5 true else s
    (s.put (SXT_STR_STAT.reg n m) 5, false)
  else
    let cap := s.get (SXT_STR_CTRL.SRC n m) = 1
    let trig := if cap then s.get (SXT_STR_CTRL.TRIG n m) else 0
    let now := trig = 0 ∨ (trig = 1 ∧ s.get64 (SXT_STR_TTIME_LO.TIME n m) ≤ s.sysTime)
    let s := s.put (SXT_STR_STAT.reg n m) (if now then 2 else 1)
    let s := (s.put (SXT_STR_WPTR.WPTR n m) 0).put (SXT_STR_WRAPS.WRAPS n m) 0
    let s := ((s.put (SXT_STR_TRIGPOS.POS n m) 0).put (SXT_STR_DROP.COUNT n m) 0).put (SXT_STR_DROPAT.INDEX n m) 0
    let s := s.setCluster n ((s.cluster n).setStr m
      { trigAt := if now then some 0 else none, tag := tag, goAt := s.mono, edgeAt := s.mono })
    (if cap then s.showCapture n true else s, true)

/-- A capture sample's value (R180): the four active slices of the two clusters take turns, even cluster first; each sample is
corrected with its own slice's coefficients and the captured channel's. -/
def State.captureValue (s : State) (n i : Nat) (code : BitVec 10) : BitVec 16 :=
  let k := n + i % 2
  BitVec.ofInt 16 (s.sxtV (n + s.get (SXT_STR_CTRL.CAP_ODD n 0)) (s.get (SXT_STR_CTRL.CHANNEL n 0))
    (s.sxtU k ((s.cluster k).seats.getD (i / 2 % 4) 0) code.toNat))

/-- What a stream's source has given since its last burst: values of its channel, or capture samples with these codes. An armed
capture under TRIG 1 takes none (R183). -/
def State.gatherFrom (s : State) (n m : Nat) (codes : List (BitVec 10)) : State :=
  if s.get (SXT_STR_CTRL.SRC n m) = 1 then
    if s.get (SXT_STR_STAT.STATE n m) = 1 ∧ s.get (SXT_STR_CTRL.TRIG n m) < 2 then s
    else s.arrive n m (codes.zipIdx.map fun (c, i) => s.captureValue n (((s.cluster n).str m).taken + i) c)
  else s.gather n m

/-- The first gathered samples, up to a number of them, become visible in the ring (R175). -/
def State.writeOut (s : State) (n m k : Nat) : State :=
  let e := (s.cluster n).str m
  let l := e.gathered.take k
  let size := 2 ^ s.get (SXT_STR_SIZE.LOG2 n m)
  let base := s.get64 (SXT_STR_BASE_LO.BASE n m)
  let s := if s.get (SXT_STR_CTRL.DEST n m) = 0 then
      l.zipIdx.foldl (fun s p =>
        let o := base + (2 * (e.written + p.2)) % size
        ((s.setCap o (p.1.extractLsb' 0 8)).setCap (o + 1) (p.1.extractLsb' 8 8)).memWritten 7 (o / 8)) s
    else s
  let w := e.written + l.length
  let s := s.setCluster n ((s.cluster n).setStr m { e with written := w, gathered := e.gathered.drop k })
  (s.put (SXT_STR_WPTR.WPTR n m) (2 * w % size)).put (SXT_STR_WRAPS.WRAPS n m) (2 * w / size)

/-- The samples gathered are written, in bursts of 32; those to host memory count among the telemetry master's (R348). -/
def State.drainOut (s : State) (n m : Nat) : State :=
  let k := ((s.cluster n).str m).gathered.length
  let s := if s.get (SXT_STR_CTRL.DEST n m) = 1 then s.bumpBy TDM_CNT_BURSTS.COUNT (ceilDiv k 32) else s
  s.writeOut n m k

/-- A stream ends ABORTED with the samples gathered written (R176). -/
def State.strAbort (s : State) (n m : Nat) : State := (s.drainOut n m).strEnd n m 4

/-- The last sample of a stream was taken in the present CLK_B cycle. -/
def State.lastNow (s : State) (n m : Nat) : Bool :=
  let e := (s.cluster n).str m
  let at_ := if s.get (SXT_STR_CTRL.SRC n m) = 1 then e.goAt + 25 * (e.taken - 1) / 16 else e.lastAt
  if s.onPll then at_ / 5 == s.mono / 5 else at_ / 80 == s.mono / 80

/-- STOP of a stream (R176): the samples gathered are written; the stream ends DONE with ABORT_LATE where its last sample is of the same
CLK_B cycle, and ABORTED otherwise. -/
def State.strStop (s : State) (n m : Nat) (codes : List (BitVec 10)) : State :=
  if !s.strBusy n m then s
  else
    let s := s.gatherFrom n m codes
    if s.strComplete n m ∧ s.lastNow n m = true then
      ((s.drainOut n m).put (SXT_STR_STAT.ABORT_LATE n m) 1).strEnd n m 3
    else s.strAbort n m

/-- STREAM_BURST_WRITTEN: a burst of 32 samples, or the last partial one, becomes visible in its ring (R175-R177). A burst to host
memory outside the window, or answered with an error, raises TDM_ERR and is not retried (R337). -/
def burstEff (n m : Nat) (codes : List (BitVec 10)) (err : Bool) (s : State) : State :=
  if Config.clusterCount ≤ n ∨ 2 ≤ m ∨ !s.strBusy n m then s
  else
    let s := s.gatherFrom n m codes
    let last := s.strComplete n m
    if ((s.cluster n).str m).gathered.length < 32 ∧ !last then s
    else
      let e := (s.cluster n).str m
      let a := s.get64 (SXT_STR_BASE_LO.BASE n m) + (2 * e.written) % 2 ^ s.get (SXT_STR_SIZE.LOG2 n m)
      let out := !s.inWindow a (2 * min 32 e.gathered.length)
      let s := if s.get (SXT_STR_CTRL.DEST n m) ≠ 1 then s
        else if out ∨ err then s.tdmErr 1 a (32 + n) 5 out else s.bump TDM_CNT_BURSTS.COUNT
      let s := s.writeOut n m 32
      if last ∧ ((s.cluster n).str m).gathered = [] then s.strEnd n m 3 else s

/-- STREAM_TRIGGER: the trigger of an armed capture (R183): its time has come, or its event is registered, and then TRIGPOS holds the
trigger sample's offset in the ring. -/
def triggerEff (n sample : Nat) (s : State) : State :=
  let e := (s.cluster n).ss0
  let start (t : Nat) : State :=
    (s.put (SXT_STR_STAT.STATE n 0) 2).setCluster n { s.cluster n with ss0 := { e with trigAt := some t } }
  if Config.clusterCount ≤ n ∨ s.get (SXT_STR_STAT.STATE n 0) ≠ 1 then s
  else if s.get (SXT_STR_CTRL.TRIG n 0) = 1 then (if s.sysTime < s.get64 (SXT_STR_TTIME_LO.TIME n 0) then s else start 0)
  else
    match e.seen with
    | none => s
    | some i =>
      let t := i - (e.taken - e.written - e.gathered.length)
      if i ≠ sample then s else ((start t).put (SXT_STR_STAT.TRIGGERED n 0) 1).put (SXT_STR_TRIGPOS.POS n 0) (2 * t % 2 ^ s.get (SXT_STR_SIZE.LOG2 n 0))

/-- CAPTURE_ABORT: a running capture whose conditions 3 to 5 cease to hold, or that loses a slice, ends ABORTED (R182). -/
def State.captureCheck (s : State) (n : Nat) : State :=
  let e := n / 2 * 2
  if s.on (SXT_STATUS.CAPTURE n) ∧ s.strBusy e 0
      ∧ (!s.captureFits e || !s.captureFits (e + 1) || s.slicesIn e != 5 || s.slicesIn (e + 1) != 5) then s.strAbort e 0
  else s

/-- ACTIVE rises: captures, streams of the channels that R179 and R407 name, and streams to host memory outside the
bounce-buffer region (R409), end ABORTED; what they have gathered is not written. -/
def State.confStreams (s : State) : State :=
  (List.range Config.clusterCount).foldl (fun s n =>
    (List.range 2).foldl (fun s m =>
      if s.strBusy n m ∧ (s.get (SXT_STR_CTRL.SRC n m) = 1 ∨ confKind n (s.get (SXT_STR_CTRL.CHANNEL n m))
          ∨ (s.get (SXT_STR_CTRL.DEST n m) = 1
            ∧ !s.mayWrite (s.get64 (SXT_STR_BASE_LO.BASE n m)) (2 ^ s.get (SXT_STR_SIZE.LOG2 n m)))) then s.strEnd n m 4
      else s) s) s

/-- ACTIVE rises: an urgent read of a channel that R179 and R407 name ends REFUSED; its slice goes on with its scan. -/
def State.confUrgent (s : State) : State :=
  (List.range Config.clusterCount).foldl (fun s n =>
    match (s.cluster n).urg with
    | .waiting ch _ => if confKind n ch then (s.setCluster n { s.cluster n with urg := .none }).urgEnd n 4 else s
    | .running ch _ _ _ => if confKind n ch then (s.setCluster n { s.cluster n with urg := .none }).urgEnd n 4 else s
    | .none => s) s

/-! ### System calibration (R185-R188) -/

/-- The external channels of a cluster, ascending (R157). -/
def externalChannels (n : Nat) : List Nat := (List.range 32).filter fun ch => Config.chKind n ch != .absent

/-- A calibration may start (R185). A cluster that is calibrating itself answers BUSY too, which the spec does not say (DESIGN CHOICE,
assumption log 39). -/
def State.calAllowed (s : State) (n : Nat) : Bool :=
  (List.range Config.clusterCount).all (fun k => s.get (SXT_CAL.STATE k) == 0) && !s.on (SXT_STATUS.CAPTURE n) && s.inWayOn
    && (24 ≤ n || ((List.range 4).map (4 * n + ·)).all fun y =>
        s.domState y == 3 || s.domState y == 4 || s.on (Fld.bit SXT_MAINT_NOW.YARD y))

/-- STEP 1 with zero applied: the answer says whether it started. RESULT is cleared at the start, which the spec does not say (DESIGN
CHOICE, assumption log 39). -/
def State.calZero (s : State) (n : Nat) (tag : Option CmdTag) : State × Bool :=
  if !s.calAllowed n then (s.put (SXT_CAL.RESULT n) 3, false)
  else
    let c := s.cluster n
    let s := ((s.put (SXT_CAL.STATE n) 1).put (SXT_CAL.RESULT n) 0).put (SXT_STATUS.CAL_RUN n) 1
    (s.setCluster n { c with calCh := (externalChannels n).headD 0, calU0 := [], calU1 := [], calTag := tag }, true)

/-- STEP 2 with full scale applied. -/
def State.calFull (s : State) (n : Nat) (tag : Option CmdTag) : State :=
  if s.get (SXT_CAL.STATE n) ≠ 2 then s
  else (s.put (SXT_CAL.STATE n) 3).setCluster n { s.cluster n with calCh := (externalChannels n).headD 0, calTag := tag }

/-- A calibration ends with a result (R186). -/
def State.calEnd (s : State) (n result : Nat) : State :=
  let c := s.cluster n
  let s := ((s.put (SXT_CAL.STATE n) 0).put (SXT_CAL.RESULT n) result).put (SXT_STATUS.CAL_RUN n) 0
  let s := (s.setCluster n { c with calTag := none }).evt (pgX n) 4
  let s := if result = 1 then s.bump (SXT_CNT_SYSCAL.COUNT n) else s
  s.finishOpt c.calTag (if result = 1 then stDone else if result = 2 then stFailed else stAborted) (if result = 2 then 2 else 0)
    (s.word (SXT_CAL_FAIL.CH n).addr)

/-- STEP 3: abort before step 4 (R186). -/
def State.calAbort (s : State) (n : Nat) : State :=
  let st := s.get (SXT_CAL.STATE n)
  if st = 1 ∨ st = 2 ∨ st = 3 then s.calEnd n 4 else s

/-- SYSCAL_TIMEOUT. -/
def syscalTimeoutEff (n : Nat) (s : State) : State := if s.get (SXT_CAL.STATE n) = 2 then s.calEnd n 4 else s

/-- Coefficients of a channel from its two means: none where it fails (R187). -/
def calCoef (n ch : Nat) (u0 u1 : Int) : Option (Int × Int) :=
  if u1 = u0 then none
  else
    let a := (3520 * 2 ^ 16 + (u1 - u0) / 2) / (u1 - u0)
    let b := -((u0 * a + 2 ^ 15) / 2 ^ 16)
    let nom : Int := ((Config.aNom n ch : Nat) : Int)
    if 100 * (a - nom).natAbs ≤ 5 * nom.natAbs ∧ b.natAbs ≤ 64 then some (a, b) else none

/-- SYSCAL_COEFFICIENTS: passing channels take their coefficients, the failed ones are listed, TCAL is recorded. SXT_CAL_FAIL is cleared
here, and new coefficients hold for the reference as last measured (DESIGN CHOICE, assumption log 39). -/
def State.calApply (s : State) (n : Nat) : State :=
  let c := s.cluster n
  let s := (s.setCluster n { c with refUsed := c.refLast }).put (SXT_CAL_FAIL.CH n) 0
  let s := ((externalChannels n).zip (c.calU0.zip c.calU1)).foldl (fun s (ch, u0, u1) =>
    match calCoef n ch u0 u1 with
    | some (a, b) => (s.putI (SXT_CH_CAL.A n ch) a).putI (SXT_CH_CAL.B n ch) b
    | none => s.put (SXT_CAL_FAIL.CH n) (setBit (s.get (SXT_CAL_FAIL.CH n)) ch)) s
  (s.putI (SXT_COMP_CFG.TCAL n) (s.sxtT n)).put (SXT_CAL.STATE n) 4

/-- SYSCAL_CHANNEL_DONE: the mean of the channel connected, and the next one. -/
def calChannelEff (n : Nat) (mean : Int) (s : State) : State :=
  let st := s.get (SXT_CAL.STATE n)
  let c := s.cluster n
  let next := (externalChannels n).find? fun ch => c.calCh < ch
  if st = 1 then
    match next with
    | some ch => s.setCluster n { c with calU0 := c.calU0 ++ [mean], calCh := ch }
    | none =>
      let s := (s.setCluster n { c with calU0 := c.calU0 ++ [mean], calTag := none }).put (SXT_CAL.STATE n) 2
      s.finishOpt c.calTag stDone 0 (s.word (SXT_CAL_FAIL.CH n).addr)
  else if st = 3 then
    match next with
    | some ch => s.setCluster n { c with calU1 := c.calU1 ++ [mean], calCh := ch }
    | none => (s.setCluster n { c with calU1 := c.calU1 ++ [mean] }).calApply n
  else s

/-- A cluster's calibration record from what is in force (R188). -/
def State.sxtRecord (s : State) (n : Nat) : List Byte :=
  let body := le 2 n ++ le 2 (s.get (SXT_COMP_CFG.TCAL n)) ++ le 4 s.opSecs
    ++ (List.range 36).flatMap (fun ch => le 2 (s.get (SXT_CH_CAL.A n ch)) ++ le 2 (s.get (SXT_CH_CAL.B n ch)))
    ++ (List.range 8).flatMap (fun j => le 2 (s.get (SXT_COMP.C_EVEN n j)) ++ le 2 (s.get (SXT_COMP.C_ODD n j))) ++ le 4 0
  body ++ le 4 (crc32 body)

/-- The two Sextant copies (R357). -/
def sxtCopy (k : Nat) : Nat := 0x220000 + 0x10000 * k

/-- Sequence of a copy; none where its header is not of format 1 (R358). -/
def State.copySeq (s : State) (base : Nat) : Option Nat :=
  if ofLe (s.flashBytes base 4) = 1 then some (ofLe (s.flashBytes (base + 4) 4)) else none

/-- The copy with the higher sequence: 0 A, 1 B. -/
def State.newerCopy (s : State) (a b : Nat) : Nat :=
  match s.copySeq a, s.copySeq b with
  | some x, some y => if x < y then 1 else 0
  | none, some _ => 1
  | _, none => 0

/-- A record's CRC passes. -/
def recordOk (l : List Byte) : Bool := ofLe (l.drop 188) == crc32 (l.take 188)

/-- A cluster's record in flash: the newer copy's if its CRC passes, else the other's (R358). -/
def State.findSxt (s : State) (n : Nat) : Option (List Byte) :=
  let k := s.newerCopy (sxtCopy 0) (sxtCopy 1)
  let get (k : Nat) : Option (List Byte) :=
    match s.copySeq (sxtCopy k) with
    | none => none
    | some _ => let l := s.flashBytes (sxtCopy k + 0x100 + n * 0x100) 192; if recordOk l then some l else none
  match get k with
  | some l => some l
  | none => get (1 - k)

/-- Start-up loads a cluster's record, or raises SXT_NOCAL (R188). -/
def State.loadSxt (s : State) (n : Nat) : State :=
  match s.findSxt n with
  | none => s.raise 0x1E [n]
  | some l =>
    let half (i : Nat) : Nat := ofLe ((l.drop i).take 2)
    let s := s.put (SXT_COMP_CFG.TCAL n) (half 2)
    let s := (List.range 32).foldl (fun s ch =>
      if Config.chKind n ch = .absent then s
      else (s.put (SXT_CH_CAL.A n ch) (half (8 + 4 * ch))).put (SXT_CH_CAL.B n ch) (half (10 + 4 * ch))) s
    (List.range 8).foldl (fun s j => (s.put (SXT_COMP.C_EVEN n j) (half (152 + 4 * j))).put (SXT_COMP.C_ODD n j) (half (154 + 4 * j))) s

/-- SYSCAL_RECORD_WRITTEN: the older copy is written with the new record and every other record in force; RESULT is set. -/
def calWrittenEff (n : Nat) (s : State) : State :=
  if s.get (SXT_CAL.STATE n) ≠ 4 then s
  else
    let newer := s.newerCopy (sxtCopy 0) (sxtCopy 1)
    let base := sxtCopy (match s.copySeq (sxtCopy newer) with | none => 0 | some _ => 1 - newer)
    let seq := (match s.copySeq (sxtCopy newer) with | none => 0 | some q => q) + 1
    let recs := (List.range Config.clusterCount).map fun k => (k, if k = n then some (s.sxtRecord n) else s.findSxt k)
    let s := (s.eraseFlash base 0x10000).program base (le 4 1 ++ le 4 seq ++ le 8 0)
    let s := recs.foldl (fun s (k, r) => match r with | some l => s.program (base + 0x100 + k * 0x100) l | none => s) s
    let bad := popcount 32 (s.get (SXT_CAL_FAIL.CH n))
    s.calEnd n (if bad < (externalChannels n).length then 1 else 2)

/-! ### The commands -/

/-- ESTIMATOR_TURN_END. -/
def execEstimatorTurnEnd (cl : Nat) (slice : Nat) (gnd ref : TurnSum) (skew : Int) (s : State) : Out :=
  s.after ((turnEndEff cl slice gnd ref skew s).captureCheck cl)

/-- TEMP_SUBSTITUTION. -/
def execTempSubstitution (cl : Nat) (s : State) : Out :=
  s.after (tempSubEff cl s)

/-- URGENT_START. -/
def execUrgentStart (cl : Nat) (slice : Nat) (waitCycles : Nat) (restart : Bool) (s : State) : Out :=
  s.after (urgentStartEff cl slice waitCycles restart s)

/-- URGENT_DONE. -/
def execUrgentDone (cl : Nat) (code : BitVec 10) (s : State) : Out :=
  s.after (urgentDoneEff cl code s)

/-- URGENT_TIMEOUT. -/
def execUrgentTimeout (cl : Nat) (s : State) : Out :=
  s.after (urgentTimeoutEff cl s)

/-- STREAM_BURST_WRITTEN. -/
def execStreamBurstWritten (cl : Nat) (m : Nat) (codes : List (BitVec 10)) (err : Bool) (s : State) : Out :=
  s.after (burstEff cl m codes err s)

/-- STREAM_TRIGGER. -/
def execStreamTrigger (cl : Nat) (sample : Nat) (s : State) : Out :=
  s.after (triggerEff cl sample s)

/-- SYSCAL_CHANNEL_DONE. -/
def execSyscalChannelDone (cl : Nat) (mean : Int) (s : State) : Out :=
  s.after (calChannelEff cl mean s)

/-- SYSCAL_RECORD_WRITTEN. -/
def execSyscalRecordWritten (cl : Nat) (s : State) : Out :=
  s.after (calWrittenEff cl s)

/-- SYSCAL_TIMEOUT. -/
def execSyscalTimeout (cl : Nat) (s : State) : Out :=
  s.after (syscalTimeoutEff cl s)

end Sys2Proof.Machine
end

