-- ==== Sys2Proof/Machine/Dre.lean ====
section
/-!
DEFINITION. Pilot notices and dead reckoning (R125-R156): the pilot port's notices, collectives, coalescers, the model's
inputs and arithmetic, bundles and their loading, forecasts and presets.
-/

namespace Sys2Proof.Machine

/-! ### Notices (R33, R125-R128) -/

/-- The DRE runs: way-on with DRE_CTRL.RUN 1 (R33, R155). -/
def State.dreOn (s : State) : Bool := s.inWayOn && s.on DRE_CTRL.RUN

/-- The 64 bits of a notice (R125). -/
def noticeBits (n : Notice) : Nat :=
  n.yard.toNat * 2 ^ 57 + n.kind.toNat * 2 ^ 53 + n.lead.toNat * 2 ^ 45 + n.context.toNat * 2 ^ 39
    + n.opClass.toNat * 2 ^ 31 + n.estimate.toNat * 2 ^ 15 + n.tag.toNat

/-- Effective time of a notice accepted now, ns (R128). -/
def State.effective (s : State) (n : Notice) : Nat := s.sysTime + 50 * n.lead.toNat

/-- A notice is accepted: counted, and kept as the last (R33, R154). -/
def State.acceptNotice (s : State) (n : Notice) : State := (s.bump PIL_CNT_ACCEPT.COUNT).put64 PIL_LAST_LO.NOTICE (noticeBits n)

/-- A notice that names no kind or yard it may (R126, R127). -/
def noticeBad (n : Notice) : Bool :=
  n.kind == 0 || decide (8 ≤ n.kind.toNat)
    || (if n.yard = 127 then !(n.kind == 5 || n.kind == 6 || n.kind == 7) else decide (Config.yardCount ≤ n.yard.toNat))

/-- What becomes of an accepted notice before it acts: whether it stands, and the counts of one that does not. -/
def State.screen (s : State) (n : Notice) : State × Bool :=
  if !s.dreOn then (s.bump PIL_CNT_DISCARD.COUNT, false)
  else if noticeBad n then ((s.bump PIL_CNT_BAD.COUNT).evt pgPIL 0, false)
  else if n.yard ≠ 127 ∧ s.on (YRD_STATUS.YARD_FENCED n.yard.toNat) then (s.bump PIL_CNT_DISCARD.COUNT, false)
  else (s, true)

/-- A notice enters its yard's coalescer (R130). -/
def State.coalesce (s : State) (y : Nat) (n : Notice) (eff : Nat) (internal : Bool) : State :=
  let e : SetNotice := ⟨n, eff, s.order, internal⟩
  let s := { s with order := s.order + 1 }
  let v := s.yard y
  match v.coal with
  | .idle => s.setYard y { v with coal := .gather, gathered := [e] }
  | .gather => (s.setYard y { v with gathered := v.gathered ++ [e] }).bump PIL_CNT_COALESCED.COUNT
  | .cool =>
    let s := s.setYard y { v with pendingSet := v.pendingSet ++ [e] }
    if v.pendingSet = [] then s else s.bump PIL_CNT_COALESCED.COUNT

/-- The internal notice of a deferred wake (R132): START, the deferral remaining as lead, counted in no register. -/
def State.internalNotice (s : State) (y leftNs : Nat) : State :=
  let n : Notice := ⟨BitVec.ofNat 7 y, 1, BitVec.ofNat 8 (min 255 (leftNs / 50)), 0, 0, 0, 0⟩
  s.coalesce y n (s.effective n) true

/-- START, PHASE, END or IDLE: the coalescer, and the owner's change at the effective time for a private yard (R126, R257). -/
def State.enterNotice (s : State) (n : Notice) : State :=
  let y := n.yard.toNat
  let s := if Config.isPrivate y ∧ n.kind.toNat ≤ 4 then
      s.setYard y { s.yard y with ownPend := (s.yard y).ownPend ++ [(s.effective n, n.kind.toNat, n.context.toNat)] }
    else s
  s.coalesce y n (s.effective n) false

/-! ### Collectives (R129) -/

/-- An entry of the collective table. -/
def State.coll (s : State) (k : Nat) : Option Coll := Tab.get (fun _ => none) s.colls k
def State.setColl (s : State) (k : Nat) (c : Option Coll) : State := { s with colls := Tab.set (fun _ => none) s.colls k c }

/-- A collective has a context and tag. -/
def Coll.named (c : Coll) (ctx tag : Nat) : Bool := c.ctx == ctx && c.tag == tag

/-- The entry of the open collective that has a context and tag. -/
def State.findColl (s : State) (ctx tag : Nat) : Option Nat :=
  (List.range 16).find? fun k => (s.coll k).any (·.named ctx tag)

/-- An entry no collective holds. -/
def State.freeColl (s : State) : Option Nat := (List.range 16).find? fun k => (s.coll k).isNone

/-- Collectives open now (PIL_COLL, R154). -/
def State.openColls (s : State) : List Nat := (List.range 16).filter fun k => (s.coll k).isSome

/-- The announced collective that opens first; of equals the one announced first. -/
def State.nextColl (s : State) : Option Coll :=
  s.collPend.foldl (fun best c => match best with
    | none => some c
    | some b => if c.opens < b.opens then some c else some b) none

/-- A notice counted in PIL_CNT_COLLERR (R129, R156). -/
def State.collErr (s : State) : State := (s.bump PIL_CNT_COLLERR.COUNT).evt pgPIL 2

/-- COLL_BEGIN: the collective is announced, and opens at its effective time; an error where its context and tag are open, or
all 16 entries are. -/
def collBeginEff (n0 : Notice) (s : State) : State :=
  let n := { n0 with kind := 5 }
  let (s, ok) := (s.acceptNotice n).screen n
  if !ok then s
  else
    match s.findColl n.context.toNat n.tag.toNat, s.freeColl with
    | none, some _ =>
      let s := { s with collPend := s.collPend ++ [⟨n.context.toNat, n.tag.toNat, s.effective n, none, 0⟩] }
      if n.yard = 127 then s else s.enterNotice n
    | _, _ => s.collErr

/-- A close is announced: a collective closes at the first of the times announced for it. -/
def Coll.closing (c : Coll) (t : Nat) : Coll := { c with closes := some (match c.closes with | some u => min u t | none => t) }

/-- The announced collective that a COLL_END effective at t matches: it will be open by then (DEDUCED, assumption log 21). -/
def State.announced (s : State) (ctx tag t : Nat) : Option Coll := s.collPend.find? fun c => c.named ctx tag && decide (c.opens ≤ t)

/-- COLL_END: the close of the matching collective is entered; none matches: an error. -/
def collEndEff (n0 : Notice) (s : State) : State :=
  let n := { n0 with kind := 6 }
  let (s, ok) := (s.acceptNotice n).screen n
  if !ok then s
  else
    let enter (s : State) : State := if n.yard = 127 then s else s.enterNotice n
    let t := s.effective n
    match s.findColl n.context.toNat n.tag.toNat, s.announced n.context.toNat n.tag.toNat t with
    | some k, _ => enter (s.setColl k ((s.coll k).map (·.closing t)))
    | none, some c => enter { s with collPend := s.collPend.map fun d => if d = c then d.closing t else d }
    | none, none => s.collErr

/-- COLLECTIVE_OPEN: the collective announced to open first takes entry k. One whose context and tag have become open meanwhile,
or that finds all 16 entries open, is an error, as at its announcement (DEDUCED, assumption log 21). -/
def collOpenEff (k : Nat) (s : State) : State :=
  match s.nextColl with
  | none => s
  | some c =>
    let taken := { s with collPend := s.collPend.erase c }
    if (s.findColl c.ctx c.tag).isSome ∨ s.freeColl.isNone then taken.collErr
    else if k < 16 ∧ (s.coll k).isNone then taken.setColl k (some { c with openedAt := s.mono })
    else s

/-- COLLECTIVE_CLOSE. -/
def collCloseEff (k : Nat) (s : State) : State :=
  match s.coll k with
  | some c => if c.closes.isSome then s.setColl k none else s
  | none => s

/-- The DRE stops: every open collective closes, and one announced no longer opens (R129). -/
def State.closeColls (s : State) : State := s.openColls.foldl (fun s k => s.setColl k none) { s with collPend := [] }

/-! ### Inputs (R131-R133) -/

/-- The governing notice of a set: the earliest effective time not yet passed, of equals the later accepted (R131). -/
def governing (now : Nat) (set : List SetNotice) : Option SetNotice :=
  set.foldl (fun best e =>
    if e.eff ≤ now then best
    else match best with | none => some e | some b => if e.eff ≤ b.eff then some e else some b) none

/-- Percentage of a rail's capacity (R123, source 48). -/
def State.railPercent (s : State) (r : Nat) : Int := max 0 (s.railIMon r) * 100 / ((railCapacity r * 16 : Nat) : Int)

/-- Slot DRE_YMAP names for a yard; 8-15 none. -/
def State.ymap (s : State) (y : Nat) : Nat := s.get ⟨(DRE_YMAP.SLOT (y / 8)).addr, 4 * (y % 8), 4⟩

/-- Source 45: the yard's previous +1 µs forecast, where it was inferred since its slot was last committed (R133). -/
def State.prevForecast (s : State) (y : Nat) : Int :=
  if Tab.get (fun _ => 0) s.slotCommit (s.ymap y) ≤ (s.yard y).prevCommits then (s.yard y).prev1us else 0

/-- The value of a source (R133) for a yard's set. Source 43 of a negative i_y reads 0, and source 46 of a yard never inferred 255 (DESIGN
CHOICE, assumption log 39). -/
def State.source (s : State) (y : Nat) (set : List SetNotice) (k : Nat) : Int :=
  let v := s.yard y
  let g := governing s.sysTime set
  let kind (c : Nat) : Nat := (set.any fun e => e.n.kind.toNat == c).toNat
  if k < 32 then ((v.counts.getD k 0 : Nat) : Int)
  else if k = 32 then match g with | some e => ((min 255 ((e.eff - s.sysTime) / 50) : Nat) : Int) | none => 0
  else if k = 33 then ((set.foldl (fun m e => max m e.n.estimate.toNat) 0 : Nat) : Int)
  else if k = 34 then match g with | some e => (e.n.opClass.toNat : Int) | none => 0
  else if k = 35 then match g with | some e => (e.n.context.toNat : Int) | none => 0
  else if k ≤ 41 then ((kind (k - 35) : Nat) : Int)
  else if k = 42 then ((min 255 set.length : Nat) : Int)
  else if k = 43 then max 0 (s.iy y)
  else if k = 44 then ((s.activePhases y : Nat) : Int)
  else if k = 45 then s.prevForecast y
  else if k = 46 then match v.lastInfer with | some t => ((min 255 ((s.mono - t) / ns 1000) : Nat) : Int) | none => 255
  else if k = 47 then ((s.vidNow y : Nat) : Int)
  else if k = 48 then s.railPercent (Config.yardRail y)
  else if k = 49 then ((s.get CAP_STATUS.MODE_NOW : Nat) : Int)
  else if k = 50 then ((s.openColls != []).toNat : Int)
  else if k = 51 then ((set.any fun e => e.internal).toNat : Int)
  else 0

/-- The inputs of a set are formed: an inference is due (R130). -/
def State.formInputs (s : State) (y : Nat) (set : List SetNotice) : State :=
  let srcs := (List.range 64).map (s.source y set)
  let h := (governing s.sysTime set).map fun (e : SetNotice) => e.eff
  let order := (set.map fun e => e.order).foldl min s.order
  { s with due := s.due ++ [⟨y, srcs, h, s.sysTime, order, 0, 0, [], 0⟩] }

/-- GATHER_END. -/
def gatherEndEff (y : Nat) (s : State) : State :=
  let v := s.yard y
  match v.coal with
  | .gather =>
    if v.gathered = [] then s.setYard y { v with coal := .idle }
    else (s.formInputs y v.gathered).setYard y { v with coal := .cool, gathered := [] }
  | _ => s

/-- COOL_END. -/
def coolEndEff (y : Nat) (s : State) : State :=
  let v := s.yard y
  match v.coal with
  | .cool =>
    if v.pendingSet = [] then s.setYard y { v with coal := .idle }
    else (s.formInputs y v.pendingSet).setYard y { v with pendingSet := [] }
  | _ => s

/-! ### The engine (R134-R136, R138-R140) -/

/-- Offset of a frame in the model store window (R138). -/
def frameBase (f : Nat) : Nat := 0x2000 + f * 0xE000

/-- A little-endian number in the model store. -/
def State.storeLe (s : State) (a n : Nat) : Nat := ofLe ((List.range n).map fun i => s.storeAt (a + i))

/-- A run of bytes of the model store. -/
def State.storeBytes (s : State) (a n : Nat) : List Byte := (List.range n).map fun i => s.storeAt (a + i)

/-- A layer descriptor (R140). -/
structure Layer where
  ins : Nat
  outs : Nat
  width : Nat
  act : Nat
  m : Nat
  sh : Nat
  woff : Nat
  boff : Nat
  aoff : Nat
deriving DecidableEq, Repr

/-- Layer l of the bundle in the frame at fb. -/
def State.layer (s : State) (fb l : Nat) : Layer :=
  let a := fb + s.storeLe (fb + 0x40 + 4 * l) 4
  { ins := s.storeLe a 1, outs := s.storeLe (a + 1) 1, width := s.storeLe (a + 2) 1, act := s.storeLe (a + 3) 1
    m := s.storeLe (a + 4) 2, sh := s.storeLe (a + 6) 1
    woff := s.storeLe (a + 8) 4, boff := s.storeLe (a + 12) 4, aoff := s.storeLe (a + 16) 4 }

def State.layerCount (s : State) (fb : Nat) : Nat := s.storeLe (fb + 0xD) 1
def State.inputCount (s : State) (fb : Nat) : Nat := s.storeLe (fb + 0xE) 1

/-- Bytes of one row of weights. -/
def Layer.row (l : Layer) : Nat := if l.width = 4 then (l.ins + 1) / 2 else l.ins

/-- Weight w(o, i). -/
def State.weight (s : State) (fb : Nat) (l : Layer) (o i : Nat) : Int :=
  if l.width = 4 then
    let b := s.storeLe (fb + l.woff + o * l.row + i / 2) 1
    signed 4 (if i % 2 = 0 then b % 16 else b / 16)
  else signed 8 (s.storeLe (fb + l.woff + o * l.row + i) 1)

/-- Arithmetic shift of a product after half of the last place is added; no half where the shift is 0 (R134, R135). -/
def shiftHalf (x : Int) (n : Nat) : Int := (x + (if n = 0 then 0 else (2 ^ (n - 1) : Nat))) / (2 ^ n : Nat)

/-- Input i of a bundle from the source values (R134). -/
def State.quantise (s : State) (fb : Nat) (srcs : List Int) (i : Nat) : Int :=
  let a := fb + s.storeLe (fb + 0x3C) 4 + 8 * i
  let v := srcs.getD (s.storeLe a 1) 0
  satSigned 8 (shiftHalf ((v - signed 32 (s.storeLe (a + 4) 4)) * signed 16 (s.storeLe (a + 2) 2)) (s.storeLe (a + 1) 1))

/-- An activation table at an offset (R136). -/
def State.activation (s : State) (fb aoff : Nat) (z : Int) : Int :=
  let k := ((z + 32768) / 4096).toNat
  let a := fb + aoff + 4 * k
  satSigned 8 (signed 8 (s.storeLe (a + 2) 1) + (signed 16 (s.storeLe a 2) * (z - (4096 * (k : Int) - 32768)) + 2 ^ 15) / 2 ^ 16)

/-- acc(o) before its saturation (R135). -/
def State.layerSum (s : State) (fb : Nat) (l : Layer) (xs : List Int) (o : Nat) : Int :=
  signed 32 (s.storeLe (fb + l.boff + 4 * o) 4) + (xs.zipIdx.map fun p => s.weight fb l o p.2 * p.1).sum

/-- The outputs of a layer, and its saturations of acc (R135). -/
def State.runLayer (s : State) (fb : Nat) (l : Layer) (last : Bool) (xs : List Int) : List Int × Nat :=
  let sums := (List.range l.outs).map (s.layerSum fb l xs)
  let z (a : Int) : Int := satSigned 16 (shiftHalf (satSigned 32 a * (l.m : Int)) l.sh)
  let y (a : Int) : Int := if last then z a else if l.act = 1 then s.activation fb l.aoff (z a) else satSigned 8 (z a)
  (sums.map y, (sums.filter fun a => satSigned 32 a != a).length)

/-- The layers from l on, n of them. -/
def State.runLayers (s : State) (fb : Nat) : Nat → Nat → List Int → List Int × Nat
  | 0, _, xs => (xs, 0)
  | n + 1, l, xs =>
    let (ys, k) := s.runLayer fb (s.layer fb l) (n == 0) xs
    let (zs, j) := s.runLayers fb n (l + 1) ys
    (zs, k + j)

/-- A bundle in a frame runs on source values: its outputs, and its saturations. -/
def State.runModel (s : State) (f : Nat) (srcs : List Int) : List Int × Nat :=
  let fb := frameBase f
  s.runLayers fb (s.layerCount fb) 0 ((List.range (s.inputCount fb)).map (s.quantise fb srcs))

/-- Cycles of a bundle in a frame (R137). -/
def State.modelCycles (s : State) (fb : Nat) : Nat :=
  ((List.range (s.layerCount fb)).map fun l =>
    let d := s.layer fb l
    ceilDiv (d.ins * d.outs) (if d.width = 4 then 512 else 256)).sum + 1

/-! ### Dispatch (R23, R145) -/

/-- A slot may serve a yard (R145). -/
def State.slotServes (s : State) (k y : Nat) : Bool :=
  k < 8 && s.on (DRE_SLOT_STAT.VALID k) && !s.on (DRE_SLOT_STAT.KIND k)
    && tb (s.storeLe (frameBase (s.get (DRE_SLOT_STAT.FRAME k)) + 0x10 + y / 8) 1) (y % 8)

/-- Engine time taken; what is older than 100 µs is let go (DRE_STATUS.LOAD). -/
def State.dreSpend (s : State) (cycles : Nat) : State :=
  { s with dreBusy := (s.dreBusy.filter fun (t, _) => s.mono ≤ t + ns 100000) ++ [(s.mono, cycles)] }

/-- DRE_STATUS.LOAD: percent of engine time over the last 100 µs. -/
def State.dreLoad (s : State) : Nat :=
  min 100 (((s.dreBusy.filter fun (t, _) => s.mono ≤ t + ns 100000).map Prod.snd).sum * 125 / 100000)

/-- The inference whose notices were accepted first. -/
def firstInference (l : List Inference) : Option Inference :=
  l.foldl (fun best e => match best with | none => some e | some b => if e.order < b.order then some e else some b) none

/-- INFERENCE_DISPATCH. -/
def inferenceDispatchEff (s : State) : State :=
  if !s.dreOn ∨ s.fly.isSome then s
  else
    match firstInference s.due with
    | none => s
    | some e =>
      let s := { s with due := s.due.filter fun (x : Inference) => x.order != e.order }
      let k := s.ymap e.yard
      if !s.slotServes k e.yard then s.bump PIL_CNT_DISCARD.COUNT
      else
        let f := s.get (DRE_SLOT_STAT.FRAME k)
        let (outs, sats) := s.runModel f e.sources
        let s := { s with fly := some { e with slot := k, frame := f, outs := outs, commits := s.commits } }
        let s := (s.bump DRE_CNT_INFER.COUNT).bumpBy DRE_CNT_SAT.COUNT sats
        let s := s.dreSpend (s.modelCycles (frameBase f))
        s.setYard e.yard { s.yard e.yard with lastInfer := some s.mono }

/-! ### Presets (R147-R150) -/

/-- LIMIT in 20 mA codes. -/
def State.limit20 (s : State) (y : Nat) : Nat := 5 * s.ilimit y

/-- Fpk: the largest output, 0 where all are negative (R137, R147). -/
def fpk (f : List Int) : Nat := (f.foldl max 0).toNat

/-- The presets of a forecast (R147). Bays that have just been sent out of HEAT count with their phases (R279). -/
def State.presetsOf (s : State) (y : Nat) (f : List Int) : Presets :=
  if !s.on (Fld.bit PIL_YEN.EN y) then {}
  else
    let limit := s.limit20 y
    let di := ((fpk f : Int) - s.iy y).toNat
    let (shed, add, _) := s.shedTh y
    let leaving := (s.baysOf y).filter fun b => s.get (BAY_STATE.STATE b) == 4 && (s.bay b).heat == 0
    let floor := min ((s.availPhases y).length + 2 * leaving.length) (ceilDiv (2 * fpk f) (shed + add))
    let raise := if limit = 0 then 0 else min 16 ((2 * di * s.get PIL_PRESET.RAISE_FS + limit) / (2 * limit))
    let bias := if limit = 0 then 0 else min 20 ((2 * di * s.get PIL_PRESET.BIAS_FS + limit) / (2 * limit))
    let raise := min raise (520 - (s.get (YRD_VID.TARGET y) + s.get (YRD_OFFSETS.FLOOR_OFS y)))
    { floor := if s.on PIL_PRESET_EN.FLOOR then floor else 0
      prebias := if s.on PIL_PRESET_EN.BIAS then bias else 0
      raise := if s.on PIL_PRESET_EN.RAISE then raise else 0 }

/-- The presets in force change: the words that say so are sent (R114, R147, R148). -/
def State.setPresets (s : State) (y : Nat) (p : Presets) : State :=
  let old := (s.yard y).presets
  let s := s.setYard y { s.yard y with presets := p }
  let s := if old.floor < p.floor then s.floorRaise y else s
  let s := if old.prebias = p.prebias then s else (s.put (YRD_OFFSETS.PREBIAS y) p.prebias).sendPreset y
  if old.raise = p.raise then s else (s.put (YRD_OFFSETS.PRERAISE y) p.raise).redeliver s y

/-- The yard is in D0-D2 with bays in RUN (R150). -/
def State.running (s : State) (y : Nat) : Bool := decide (s.domState y ≤ 2) && s.runBays y != []

/-- One error sample of a yard at its +2 µs point, from i_y and LIMIT of the report that contains the point (R151). -/
def State.errorSample (s : State) (y : Nat) (f2 i : Int) (limit : Nat) : State :=
  if limit = 0 then s
  else
    let e : Int := (f2 - i).natAbs * 1000 / limit
    let err : Int := ((s.get (DRE_YSTAT.ERR y) : Nat) : Int)
    s.put (DRE_YSTAT.ERR y) (min 1023 (err + (e - err).tdiv 16).toNat)

/-- F2 of a forecast: its +2 µs output (R151). -/
def Forecast.f2 (c : Forecast) : Int := max 0 (c.f.getD 2 0)

/-- The error sample of a forecast that is applied: at once where the report of its point has come already, with that report otherwise
(R151). -/
def State.sampleError (s : State) (y : Nat) (c : Forecast) : State :=
  match c.i2 with
  | some (i, limit) => s.errorSample y c.f2 i limit
  | none => s.setYard y { s.yard y with errAt := (s.yard y).errAt ++ [(c.inputsAt + 2000, c.f2)] }

/-- A forecast applies: its presets are computed with the figures of the moment (R147, R150), after HEAT has ended where Fpk is
high (R279); the presets in force become the larger of their value and the new one, or the new ones where its horizon has
passed (R149). -/
def State.applyForecast (s : State) (y : Nat) (c : Forecast) : State :=
  let s := if s.get THM_WARM_LIM.LOAD * s.limit20 y < 100 * fpk c.f then s.endHeat y else s
  let p := s.presetsOf y c.f
  let v := s.yard y
  let now := v.presets
  let q : Presets := if c.horizon ≤ s.sysTime then p
    else ⟨max now.floor p.floor, max now.prebias p.prebias, max now.raise p.raise⟩
  let s := (s.setYard y { v with cur := some { c with p := p }, applied := some s.mono }).sampleError y c
  s.setPresets y q

/-- End of a forecast's floor and pre-bias, ns (R148). -/
def State.presetsEnd (s : State) (c : Forecast) : Nat := c.horizon + 50 * s.get PIL_PRESET.HOLD_AFTER

/-- Held forecasts of a yard that has reached D0-D2 with bays in RUN apply; those whose end has passed are dropped (R150). -/
def State.applyHeld (s : State) (y : Nat) : State :=
  if (s.yard y).held = [] ∨ !s.running y ∨ s.courseHeld then s
  else
    let l := (s.yard y).held.filter fun c => s.sysTime < s.presetsEnd c
    l.foldl (fun s c => s.applyForecast y c) (s.setYard y { s.yard y with held := [] })

/-- PRESET_APPLY: the waiting forecast whose application time is first; none is applied while Oteus holds course (R380). -/
def presetApplyEff (y : Nat) (s : State) : State :=
  let v := s.yard y
  match v.waiting.foldl (fun best c => match best with
      | none => some c | some b => if c.apply < b.apply then some c else some b) (none : Option Forecast) with
  | none => s
  | some c =>
    let s := s.setYard y { v with waiting := v.waiting.erase c }
    if s.courseHeld then s
    else if s.running y then s.applyForecast y c
    else s.setYard y { s.yard y with held := (s.yard y).held ++ [c] }

/-- PRESET_HORIZON: at the horizon of the forecast applied last each preset becomes its value (R149). -/
def presetHorizonEff (y : Nat) (s : State) : State :=
  match (s.yard y).cur with
  | none => s
  | some c => if c.horizon ≤ s.sysTime then s.setPresets y c.p else s

/-- Held forecasts of a yard whose end has passed are dropped (R150). -/
def State.dropHeld (s : State) (y : Nat) : State :=
  s.setYard y { s.yard y with held := (s.yard y).held.filter fun c => s.sysTime < s.presetsEnd c }

/-- PRESET_END: at the end of the forecast applied last floor and pre-bias end (R148, R149). -/
def presetEndEff (y : Nat) (s : State) : State :=
  let s := s.dropHeld y
  match (s.yard y).cur with
  | none => s
  | some c =>
    if s.sysTime < s.presetsEnd c then s
    else (s.setYard y { s.yard y with cur := none }).setPresets y { (s.yard y).presets with floor := 0, prebias := 0 }

/-- PRERAISE_END: the pre-raise ends, and the horizon does not bring it back. -/
def preraiseEndEff (y : Nat) (s : State) : State :=
  let v := s.yard y
  (s.setYard y { v with cur := v.cur.map fun c => { c with p := { c.p with raise := 0 } } }).setPresets y { v.presets with raise := 0 }

/-- The presets of a yard are withdrawn (R184). -/
def State.withdrawPresets (s : State) (y : Nat) : State :=
  (s.setYard y { s.yard y with waiting := [], held := [], cur := none }).setPresets y {}

/-! ### Completion (R145, R146) -/

/-- A slot is emptied (R145, R387). -/
def State.emptySlot (s : State) (k : Nat) : State :=
  let s := (s.put (DRE_SLOT_STAT.VALID k) 0).put DRE_STATUS.VALID_SLOTS (clearBit (s.get DRE_STATUS.VALID_SLOTS) k)
  s.evt pgDRE 2

/-- An uncorrectable error read from a frame (R145). The address is in no operand: its page is a free value. -/
def State.frameError (s : State) (k f : Nat) : State :=
  let (a, s) := s.fresh 5
  let s := s.memUe 6 (frameBase f + a % 0xE000)
  (s.emptySlot k).raise 0x17 [k, f]

/-- The previous forecast of a yard, but where its slot has been committed anew meanwhile (R133, R143). -/
def State.keepForecast (s : State) (e : Inference) : State :=
  if s.get (DRE_SLOT_STAT.FRAME e.slot) = e.frame then
    s.setYard e.yard { s.yard e.yard with prev1us := max 0 (e.outs.getD 1 0), prevCommits := e.commits }
  else s

/-- The DRE stands still from the loss of the PLL until way-on: nothing is inferred, no preset stays (R26, R361). -/
def State.stopDre (s : State) : State :=
  let s := { s.closeColls with due := [], fly := none }
  (List.range Config.yardCount).foldl (fun s y =>
    (s.setYard y { s.yard y with coal := .idle, gathered := [], pendingSet := [], stage := none }).withdrawPresets y) s

/-- FORECAST_COMPLETE. -/
def forecastCompleteEff (ue : Bool) (s : State) : State :=
  match s.fly with
  | none => s
  | some e =>
    let s := { s with fly := none }
    let y := e.yard
    if ue then s.frameError e.slot e.frame
    else
      let s := s.keepForecast e
      match e.horizon with
      | none => (s.bump PIL_CNT_LATE.COUNT).evt pgPIL 1
      | some h =>
        if h < s.sysTime then (s.bump PIL_CNT_LATE.COUNT).evt pgPIL 1
        else if (s.yard y).maintHold then s
        else
          let at_ := max s.sysTime (h - 50 * s.get PIL_PRESET.LEAD)
          s.setYard y { s.yard y with waiting := (s.yard y).waiting ++ [⟨e.outs, h, e.inputsAt, at_, {}, none⟩] }

/-! ### The forecast error (R151) -/

/-- A forecast not yet applied whose +2 µs point lies before a superframe keeps i_y and LIMIT of the report (R151). -/
def Forecast.reported (c : Forecast) (began : Nat) (i : Int) (limit : Nat) : Forecast :=
  if c.i2 = none ∧ c.inputsAt + 2000 < began then { c with i2 := some (i, limit) } else c

/-- The samples due at a report of the yard's current on a segment: those whose point lies before the superframe that runs, which
the report's average no longer covers (R58, R151). Forecasts still to be applied keep the figures. -/
def State.errorSamples (s : State) (seg y : Nat) : State :=
  let v := s.yard y
  let began := Tab.get (fun _ => 0) s.sfAt seg
  let i := s.iy y
  let limit := s.limit20 y
  let keep (l : List Forecast) : List Forecast := l.map fun c => c.reported began i limit
  let due := v.errAt.filter fun (t, _) => t < began
  let s := s.setYard y { v with
    errAt := v.errAt.filter (fun (t, _) => began ≤ t), waiting := keep v.waiting, held := keep v.held }
  due.foldl (fun s p => s.errorSample y p.2 i limit) s

/-- DRE_YSTAT.CLASS as it reads. -/
def State.dreClass (s : State) (y : Nat) : Nat :=
  let e := s.get (DRE_YSTAT.ERR y)
  match (s.yard y).applied with
  | none => 3
  | some t => if t + ns 1000000 < s.mono then 3 else if e ≤ 50 then 1 else if e ≤ 200 then 2 else 3

/-! ### Loading (R138-R144, R387, R411) -/

/-- Sections of a bundle as (offset, length): device set, input map, layer descriptors, weights, biases, tables (R140). -/
def State.sections (s : State) (fb : Nat) : List (Nat × Nat) :=
  let n := min 4 (s.layerCount fb)
  [(s.storeLe (fb + 0x38) 4, 16 * s.storeLe (fb + 0x34) 2), (s.storeLe (fb + 0x3C) 4, 8 * s.inputCount fb)]
    ++ (List.range n).flatMap fun l =>
      let d := s.layer fb l
      [(s.storeLe (fb + 0x40 + 4 * l) 4, 32), (d.woff, d.outs * d.row), (d.boff, 4 * d.outs)]
        ++ (if d.act = 1 then [(d.aoff, 64)] else [])

/-- No two sections overlap. -/
def disjoint : List (Nat × Nat) → Bool
  | [] => true
  | p :: t => t.all (fun q => decide (p.1 + p.2 ≤ q.1) || decide (q.1 + q.2 ≤ p.1)) && disjoint t

/-- Total length L of the bundle in a frame. -/
def State.bundleLen (s : State) (fb : Nat) : Nat := s.storeLe (fb + 8) 4

/-- Check 1 on the header: magic, version, header length, L (R142). -/
def State.headerOk (s : State) (fb : Nat) : Bool :=
  s.storeBytes fb 4 == [0x4F, 0x54, 0x44, 0x52] && s.storeLe (fb + 4) 2 == 1 && s.storeLe (fb + 6) 2 == 256
    && decide (512 ≤ s.bundleLen fb) && decide (s.bundleLen fb ≤ 57344) && s.bundleLen fb % 16 == 0

/-- Check 5: a device-set entry matches the device (R140). -/
def State.boundOk (s : State) (fb : Nat) : Bool :=
  let t := fb + s.storeLe (fb + 0x38) 4
  (List.range (min 1024 (s.storeLe (fb + 0x34) 2))).any fun i =>
    let n := s.storeLe (t + 16 * i + 12) 1
    decide (1 ≤ n) && decide (n ≤ 96) && s.storeLe (t + 16 * i) 12 / 2 ^ (96 - n) == Config.identity.toNat / 2 ^ (96 - n)

/-- Check 6 on one layer: counts, width, activation, multiplier and shift (R140). -/
def State.layerOk (s : State) (fb kind n l : Nat) : Bool :=
  let d := s.layer fb l
  d.ins == (if l = 0 then s.inputCount fb else (s.layer fb (l - 1)).outs)
    && decide (1 ≤ d.outs) && decide (d.outs ≤ 64) && (d.width == 8 || d.width == 4) && decide (d.act ≤ 1)
    && decide (1 ≤ d.m) && decide (1 ≤ d.sh) && decide (d.sh ≤ 47)
    && (if l + 1 = n then d.act == 0 && (if kind = 1 then decide (4 ≤ d.outs) else d.outs == 4) else true)

/-- Check 6 (R139, R140, R142). -/
def State.formatOk (s : State) (fb : Nat) : Bool :=
  let kind := s.storeLe (fb + 0xC) 1
  let n := s.layerCount fb
  let hor := (List.range 4).map fun i => s.storeLe (fb + 0x50 + 2 * i) 2
  let lim := s.bundleLen fb - 144
  let map_ := fb + s.storeLe (fb + 0x3C) 4
  decide (kind ≤ 1) && decide (1 ≤ n) && decide (n ≤ 4) && (kind == 0 || n == 1)
    && decide (1 ≤ s.inputCount fb) && decide (s.inputCount fb ≤ 64)
    && decide (1 ≤ s.storeLe (fb + 0x34) 2) && decide (s.storeLe (fb + 0x34) 2 ≤ 1024)
    && hor == (if kind = 0 then [10, 20, 40, 80] else [0, 0, 0, 0])
    && (List.range n).all (s.layerOk fb kind n)
    && (List.range (s.inputCount fb)).all (fun i =>
        decide (s.storeLe (map_ + 8 * i) 1 < (if kind = 1 then 37 else 64)) && decide (s.storeLe (map_ + 8 * i + 1) 1 < 32))
    && (s.sections fb).all (fun p => p.1 % 16 == 0 && decide (256 ≤ p.1) && decide (p.1 + p.2 ≤ lim))
    && disjoint (s.sections fb) && decide (s.modelCycles fb ≤ 64)

/-- A verification key (R141, R155): X and Y of key slot k. -/
def State.dreKey (s : State) (k : Nat) : Nat × Nat :=
  let bytes := (List.range 24).flatMap fun i => le 4 (s.word ((DRE_KEY.KEY 0).addr + 0x60 * k + 4 * i)).toNat
  (ofBe (bytes.take 48), ofBe (bytes.drop 48))

/-- Results of DRE_LOAD_RES (R155). -/
def ldDone : Nat := 1
def ldTorn : Nat := 2
def ldBadsig : Nat := 3
def ldUnbound : Nat := 4
def ldFormat : Nat := 5
def ldKey : Nat := 6
def ldSource : Nat := 7
def ldBusy : Nat := 8

/-- Checks 2 to 6 on the bytes in the frame, in order: 1 where all pass (R142, R411). -/
def State.checkBundle (s : State) (fb : Nat) : Nat :=
  let n := s.bundleLen fb
  let k := s.storeLe (fb + 0xF) 1
  let digest := s.storeBytes (fb + n - 144) 48
  let (x, y) := s.dreKey k
  if sha384 (s.storeBytes fb (n - 144)) ≠ digest then ldTorn
  else if 4 ≤ k ∨ !tb (s.get DRE_KEYVALID.VALID) k ∨ (s.active ∧ !tb (s.get SEC_KEYMASK.KEY) k) then ldKey
  else if !ecdsaOk x y digest (ofBe (s.storeBytes (fb + n - 96) 48)) (ofBe (s.storeBytes (fb + n - 48) 48)) then ldBadsig
  else if !s.boundOk fb then ldUnbound
  else if !s.formatOk fb then ldFormat
  else ldDone

/-- Logbook code of a failed load (R142, R375). -/
def loadCode (r : Nat) : Nat :=
  if r = ldTorn then 0x0107 else if r = ldBadsig then 0x0108 else if r = ldUnbound then 0x0109
  else if r = ldKey then 0x010A else if r = ldFormat then 0x010B else 0x010C

/-- A frame one of whose pages is retired (R387). -/
def State.frameRetired (s : State) (f : Nat) : Bool :=
  (List.range 14).any fun i => s.on (Fld.bit FLT_MS_RETIRE.PAGE (2 + 14 * f + i))

/-- A retired spare frame is exchanged with the frame of the lowest empty slot that is sound; with none SPARE reads 15 (R387). -/
def State.swapSpare (s : State) : State :=
  let sp := s.get DRE_STATUS.SPARE
  if 9 ≤ sp ∨ !s.frameRetired sp then s
  else
    match (List.range 8).find? fun k => !s.on (DRE_SLOT_STAT.VALID k) && !s.frameRetired (s.get (DRE_SLOT_STAT.FRAME k)) with
    | some k =>
      let f := s.get (DRE_SLOT_STAT.FRAME k)
      (s.put (DRE_SLOT_STAT.FRAME k) sp).put DRE_STATUS.SPARE f
    | none => s.put DRE_STATUS.SPARE 15

/-- A slot has been committed (R143): no forecast of its yards is from its model yet (R133). -/
def State.countCommit (s : State) (k : Nat) : State :=
  { s with commits := s.commits + 1, slotCommit := Tab.set (fun _ => 0) s.slotCommit k (s.commits + 1) }

/-- A load ends (R142, R143); the slot's former frame becomes the spare, or is exchanged where it is retired (R387). -/
def State.loadEnd (s : State) (l : Load) (r : Nat) : State :=
  let fb := frameBase (s.get DRE_STATUS.SPARE)
  let id := s.storeLe (fb + 0x20) 4
  let s := ({ s with load := none }.put DRE_STATUS.LOAD_STATE 0).put DRE_LOAD_RES.RESULT r
  if r = ldDone then
    let old := s.get (DRE_SLOT_STAT.FRAME l.slot)
    let s := s.put (DRE_SLOT_STAT.FRAME l.slot) (s.get DRE_STATUS.SPARE)
    let s := s.put (DRE_SLOT_STAT.KIND l.slot) (s.storeLe (fb + 0xC) 1)
    let s := (s.put (DRE_SLOT_STAT.VALID l.slot) 1).put DRE_STATUS.SPARE old
    let s := (s.put (DRE_SLOT_ID.MODEL_ID l.slot) id).put (DRE_SLOT_VER.VERSION l.slot) (s.storeLe (fb + 0x24) 4)
    let s := s.put DRE_STATUS.VALID_SLOTS (setBit (s.get DRE_STATUS.VALID_SLOTS) l.slot)
    let s := (s.countCommit l.slot).swapSpare
    (s.evt pgDRE 0).finishOpt l.tag stDone 0 (BitVec.ofNat 32 id)
  else
    let s := (s.bump DRE_CNT_LOADFAIL.COUNT).evt pgDRE 1
    (s.logEvent (loadCode r) [l.slot, id]).finishOpt l.tag stFailed r (BitVec.ofNat 32 id)

/-- Bytes of a source written into the spare frame. -/
def State.fillFrame (s : State) (fb : Nat) (bytes : List Byte) : State :=
  (List.range (ceilDiv bytes.length 8)).foldl (fun s k => s.memWritten 6 (fb / 8 + k))
    (bytes.zipIdx.foldl (fun s p => s.setStore (fb + p.2) p.1) s)

/-- Start of the bundle store in flash, and its length (R144, R356). -/
def bundleStore : Nat := 0x310000
def bundleStoreLen : Nat := 0x400000

/-- What a load reads of its source before and after the header: the bytes, or none on a read error (R142). -/
def State.sourceBytes (s : State) (l : Load) (host : List Byte) (readErr : Bool) (fb n : Nat) : Option (List Byte) :=
  if readErr then none
  else if l.src = 0 then some (s.storeBytes fb n)
  else if l.src = 1 then (if s.inWindow l.addr n && decide (n ≤ host.length) then some (host.take n) else none)
  else some (s.flashBytes (bundleStore + l.addr) n)

/-- The load in progress fetches, checks and commits (R142, R143). -/
def State.runLoad (s : State) (host : List Byte) (readErr : Bool) : State :=
  match s.load with
  | none => s
  | some l =>
    let fb := frameBase (s.get DRE_STATUS.SPARE)
    let outside := l.src = 1 ∧ !s.inWindow l.addr 16
    let s := if outside then s.tdmErr 3 l.addr 8 4 true else s
    if l.src = 2 ∧ (l.addr < 0x1000 ∨ bundleStoreLen < l.addr + 16) then s.loadEnd l ldFormat
    else
      match s.sourceBytes l host readErr fb 16 with
      | none =>
        let s := if l.src = 1 ∧ ¬outside then s.tdmErr 3 l.addr 8 4 false else s
        s.loadEnd l ldSource
      | some h =>
        let s := if l.src = 0 then s else s.fillFrame fb h
        let n := s.bundleLen fb
        if !s.headerOk fb ∨ (l.src = 2 ∧ bundleStoreLen < l.addr + n) then s.loadEnd l ldFormat
        else
          match s.sourceBytes l host readErr fb n with
          | none => (if l.src = 1 then s.tdmErr 3 l.addr 8 4 (!s.inWindow l.addr n) else s).loadEnd l ldSource
          | some bytes =>
            let s := if l.src = 0 then s else s.fillFrame fb bytes
            s.loadEnd l (s.checkBundle fb)

/-- GO of a load; the answer says whether it started (R142, R387). -/
def State.loadGo (s : State) (slot src addr : Nat) (tag : Option CmdTag) : State × Bool :=
  if s.get DRE_STATUS.LOAD_STATE ≠ 0 ∨ 9 ≤ s.get DRE_STATUS.SPARE then (s.put DRE_LOAD_RES.RESULT ldBusy, false)
  else (({ s with load := some ⟨slot, src, addr, tag⟩ }.put DRE_STATUS.LOAD_STATE 1).put DRE_LOAD_RES.RESULT 0, true)

/-- BUNDLE_FETCH_DONE. -/
def bundleFetchEff (host : List Byte) (readErr : Bool) (s : State) : State := s.runLoad host readErr

/-- The flagged entries of the flash index are loaded in slot order; a slot whose load fails is left empty (R144). -/
def State.loadIndex (s : State) : State :=
  (List.range 8).foldl (fun s k =>
    let e := bundleStore + 16 * k
    let len := ofLe (s.flashBytes (e + 4) 4)
    if len = 0 ∨ len = 0xFFFFFFFF ∨ !tb (s.flashAt (e + 8)).toNat 0 then s
    else (s.loadGo k 2 (ofLe (s.flashBytes e 4)) none).1.runLoad [] false) s

/-- Model store pages are retired (R387): the slot of a frame that holds one is emptied, and the spare frame is sound or none. -/
def State.retireFrames (s : State) : State :=
  let s := (List.range 8).foldl (fun s k =>
    if s.on (DRE_SLOT_STAT.VALID k) ∧ s.frameRetired (s.get (DRE_SLOT_STAT.FRAME k)) then s.emptySlot k else s) s
  s.swapSpare

/-- Activity records staged in the running tick interval are of no use to a later one (R37). -/
def State.dropStaged (s : State) : State :=
  (List.range Config.yardCount).foldl (fun s y => s.setYard y { s.yard y with stage := none, stageOld := false }) s

/-- A write of DRE_CTRL.RUN has taken effect (R33, R129, R155). At RUN 0 collectives close and staged activity records go; what else the
DRE has gathered, due, in flight or waiting it keeps, and goes on with at RUN 1 (DESIGN CHOICE, assumption log 39). -/
def State.runWritten (s : State) : State := if s.on DRE_CTRL.RUN then s else s.closeColls.dropStaged

/-! ### The commands -/

/-- COLL_BEGIN. -/
def execCollBegin (n : Notice) (s : State) : Out :=
  s.after (collBeginEff n s)

/-- COLL_END. -/
def execCollEnd (n : Notice) (s : State) : Out :=
  s.after (collEndEff n s)

/-- COLLECTIVE_OPEN. -/
def execCollectiveOpen (k : Nat) (s : State) : Out :=
  s.after (collOpenEff k s)

/-- COLLECTIVE_CLOSE. -/
def execCollectiveClose (k : Nat) (s : State) : Out :=
  s.after (collCloseEff k s)

/-- GATHER_END. -/
def execGatherEnd (yard : Nat) (s : State) : Out :=
  s.after (gatherEndEff yard s)

/-- COOL_END. -/
def execCoolEnd (yard : Nat) (s : State) : Out :=
  s.after (coolEndEff yard s)

/-- INFERENCE_DISPATCH. -/
def execInferenceDispatch (s : State) : Out :=
  s.after (inferenceDispatchEff s)

/-- FORECAST_COMPLETE. -/
def execForecastComplete (ue : Bool) (s : State) : Out :=
  s.after (forecastCompleteEff ue s)

/-- PRESET_APPLY. -/
def execPresetApply (yard : Nat) (s : State) : Out :=
  s.after (presetApplyEff yard s)

/-- PRESET_HORIZON. -/
def execPresetHorizon (yard : Nat) (s : State) : Out :=
  s.after (presetHorizonEff yard s)

/-- PRESET_END. -/
def execPresetEnd (yard : Nat) (s : State) : Out :=
  s.after (presetEndEff yard s)

/-- PRERAISE_END. -/
def execPreraiseEnd (yard : Nat) (s : State) : Out :=
  s.after (preraiseEndEff yard s)

/-- BUNDLE_FETCH_DONE. -/
def execBundleFetchDone (hostBytes : List Byte) (readErr : Bool) (s : State) : Out :=
  s.after (bundleFetchEff hostBytes readErr s)

end Sys2Proof.Machine
end

