-- ==== Sys2Proof/Machine/Temps.lean ====
section
/-!
DEFINITION. Temperatures of yards and warming (R270-R275, R278-R283): neighbours, yard temperature, thermal rungs, the bays a
yard may heat and their levels.
-/

namespace Sys2Proof.Machine

/-! ### Sensors (R269-R273) -/

/-- Sensors of the die and of the bonded layers (R269). -/
def sensorCount : Nat := 320

/-- A sensor is marked suspect (R272). -/
def State.suspect (s : State) (k : Nat) : Bool := s.on (Fld.bit THM_SUSPECT.SENSOR k)

/-- Adjacent indices in a row of n. -/
def around (i n : Nat) : List Nat := (if i = 0 then [] else [i - 1]) ++ [i] ++ (if i + 1 < n then [i + 1] else [])

/-- Neighbours of a sensor (R270). -/
def sensorNeighbours (k : Nat) : List Nat :=
  if k < 256 then
    ((around (k / 16) 16).flatMap fun r => (around (k % 16) 16).map fun c => 16 * r + c).filter (· != k)
  else
    let m := k - 256
    let l := m / 16
    let plane := (around (m % 16 / 4) 4).flatMap fun r => (around (m % 4) 4).map fun c => 256 + 16 * l + 4 * r + c
    (plane ++ (around l 4).map fun j => 256 + 16 * j + m % 16).eraseDups.filter (· != k)

/-- A sensor is mapped to a yard (R271). -/
def State.mapsTo (s : State) (k y : Nat) : Bool := s.get (THM_MAP.YARD_A k) == y || s.get (THM_MAP.YARD_B k) == y

/-- The sensors mapped to a yard. -/
def State.yardSensors (s : State) (y : Nat) : List Nat := (List.range sensorCount).filter fun k => s.mapsTo k y

/-- The readings of a list of sensors that are not suspect. -/
def State.readings (s : State) (l : List Nat) : List Int := (l.filter fun k => !s.suspect k).map s.sensor

/-- The largest of a list of readings. -/
def hottest (l : List Int) : Option Int := l.foldl (fun b x => match b with | none => some x | some y => some (max x y)) none
/-- The smallest of a list of readings. -/
def coldest (l : List Int) : Option Int := l.foldl (fun b x => match b with | none => some x | some y => some (min x y)) none

/-- T_y: the hottest unsuspected mapped sensor, or the hottest unsuspected neighbour of the mapped ones; none: blind (R271,
R273). -/
def State.yardT (s : State) (y : Nat) : Option Int :=
  let l := s.yardSensors y
  match hottest (s.readings l) with
  | some t => some t
  | none => hottest (s.readings (l.flatMap sensorNeighbours).eraseDups)

/-- The coldest unsuspected sensor mapped to a yard (R271, R281). -/
def State.yardCold (s : State) (y : Nat) : Option Int := coldest (s.readings (s.yardSensors y))

/-- Thresholds of a sensor's location, °C (R274). -/
def State.warnC (s : State) (k : Nat) : Nat := s.get (if k < 256 then THM_TH_DIE.WARN else THM_TH_BND.WARN)
def State.throtC (s : State) (k : Nat) : Nat := s.get (if k < 256 then THM_TH_DIE.THROT else THM_TH_BND.THROT)
def State.critC (s : State) (k : Nat) : Nat := s.get (if k < 256 then THM_TH_DIE.CRIT else THM_TH_BND.CRIT)

/-- By how much the sensors that give T_y stand above a threshold of their locations, 1/16 °C, at most: each reading is held to its own
location's threshold (R274). None: blind (R273). -/
def State.above (s : State) (th : Nat → Nat) (y : Nat) : Option Int :=
  let past (l : List Nat) : Option Int :=
    hottest ((l.filter fun k => !s.suspect k).map fun k => s.sensor k - 16 * (th k : Int))
  let l := s.yardSensors y
  match past l with
  | some t => some t
  | none => past (l.flatMap sensorNeighbours).eraseDups

/-! ### Thermal rungs (R273, R275) -/

/-- Byte of THM_YRUNG that holds R_t of a yard. -/
def yRung (y : Nat) : Fld := ⟨(THM_YRUNG.YARD (y / 4)).addr, y % 4 * 8, 5⟩

/-- The lowest valid point not above a point, walking down (R241); 0 where none is valid. -/
def State.validBelow (s : State) : Nat → Nat
  | 0 => 0
  | n + 1 => if s.opp.on (CAP_OPP.VALID (n + 1)) then n + 1 else s.validBelow n

/-- Ceiling field of a mode (R239, CAP_CEIL). -/
def ceilField (mode : Nat) : Fld :=
  if mode = 0 then CAP_CEIL.FULL else if mode = 2 then CAP_CEIL.STATION else if mode = 3 then CAP_CEIL.SLOW else CAP_CEIL.CRUISE

/-- Ceiling point of a mode. -/
def State.ceilingOf (s : State) (mode : Nat) : Nat := s.validBelow (s.get (ceilField mode))

/-- Ceiling point of the mode in force. -/
def State.ceiling (s : State) : Nat := s.ceilingOf (s.get CAP_STATUS.MODE_NOW)

/-- Highest R_t of a yard (R275). -/
def State.rungMax (s : State) (y : Nat) : Nat := if Config.isLogic y then s.ceiling + 7 else 7

/-- R_t takes a value, within the yard's limit; a rise from 0 and every rise are counted (R275, R284, R285). -/
def State.setRung (s : State) (y r' : Nat) : State :=
  let r := s.get (yRung y)
  let r' := min (s.rungMax y) r'
  let s := s.put (yRung y) r'
  let s := if r < r' then s.bump THM_CNT_THROT.COUNT else s
  if r = 0 ∧ 0 < r' then s.evt pgTHM 1 else s

/-- R_t of a yard at a boundary (R273, R275). -/
def State.thermalRung (s : State) (y : Nat) : State :=
  let r := s.get (yRung y)
  let v := s.yard y
  match s.above s.throtC y with
  | none => (s.setYard y { v with rungWait := 0 }).setRung y (max r (s.get THM_THROT.BLIND_RUNG))
  | some t =>
    if 0 ≤ t then (s.setYard y { v with rungWait := 0 }).setRung y (r + if 16 * (s.get THM_THROT.STEP2 : Int) ≤ t then 2 else 1)
    else if t < -16 * (s.get THM_THROT.HYST : Int) then
      let w := v.rungWait + 1
      (s.setYard y { v with rungWait := w }).setRung y (if s.get THM_THROT.RELEASE_WAIT ≤ w then r - 1 else r)
    else (s.setYard y { v with rungWait := 0 }).setRung y r

/-! ### Heating (R278-R283) -/

/-- Bays of a yard in HEAT. -/
def State.hotBays (s : State) (y : Nat) : List Nat := (s.baysOf y).filter fun b => s.get (BAY_STATE.STATE b) == 4

/-- Charge of a bay at level L, mW (R283). -/
def State.heatMw (s : State) (b l : Nat) : Nat := l * s.get (BAY_WEAR.LOSS b)

/-- The loss probe charges a bay with half its level for the 10 ms of its ten cycles at 1 kHz, which are taken to follow the event that
tells the result (R204, R283; DESIGN CHOICE, assumption log 39). -/
def State.probeMw (s : State) (b : Nat) : Nat :=
  match (s.bay b).probed with
  | some (t, l) => if s.mono < t + ns 10000000 then s.heatMw b l / 2 else 0
  | none => 0

/-- Dissipation charged for every bay in HEAT of a yard, and for those that the loss probe takes there and back, mW. -/
def State.yardHeat (s : State) (y : Nat) : Nat :=
  ((s.hotBays y).map fun b => s.heatMw b (s.bay b).heat).sum + ((s.baysOf y).map s.probeMw).sum

/-- The level a bay is given: the one asked for, lowered until its charge is at most 0.8 W (R283). -/
def State.heatLevel (s : State) (b l : Nat) : Nat :=
  let w := s.get (BAY_WEAR.LOSS b)
  if w = 0 then l else min l (800 / w)

/-- How many bays of a yard R279 lets heat. -/
def State.heatRoom (s : State) (y : Nat) : Nat :=
  min (Config.serviceBays y / 2) ((s.runBays y).length + (s.hotBays y).length - Config.minBays y)

/-- The yard's wake stands at step 5 of a bonded-array wake (R234, R281). -/
def State.coldStart (s : State) (y : Nat) : Bool :=
  match (s.dom y).step with
  | .warming => true
  | _ => false

/-- The conditions of R279 on a yard; for re-entry after an exit its temperature must be 2 °C lower. -/
def State.heatAllowed (s : State) (y : Nat) : Bool :=
  let v := s.yard y
  let again := v.heatExit && s.hotBays y == []
  let lim : Int := -16 * (s.get THM_WARM_LIM.HEADROOM : Int) - (if again then 32 else 0)
  (decide (s.domState y ≤ 2) || s.coldStart y) && s.runBays y != []
    && decide (100 * s.iy y ≤ ((s.get THM_WARM_LIM.LOAD * s.limit20 y : Nat) : Int))
    && (match s.above s.warnC y with | some t => decide (t ≤ lim) | none => false)
    && !v.warmBlocked

/-- Bays that may be placed in HEAT: in RUN, no anchor, no remount in CONNECT; highest index first. -/
def State.heatable (s : State) (y : Nat) : List Nat :=
  sortBy (fun a b => decide (b ≤ a)) ((s.runBays y).filter fun b => Config.anchorOf b == 0 && (s.bay b).connStep == 0)

/-- Oteus sends a bay into HEAT at a level, offsets first (R278). -/
def State.sendHeat (s : State) (b l : Nat) : State :=
  let l := s.heatLevel b l
  if l = 0 then s
  else
    let s := s.sendBay b (cfgWrWord · 4 (4 * l - 1))
    let s := s.sendBay b (cfgWrWord · 5 (unsigned 12 (-((4 * l - 1 : Nat) : Int))))
    ((s.sendBay b (bayStateWord · 3)).modBay b fun v => { v with heat := l }).bump THM_CNT_HEAT.COUNT

/-- A bay in HEAT takes another level: its offsets change (R278). -/
def State.sendLevel (s : State) (b l : Nat) : State :=
  let l := s.heatLevel b l
  if (s.bay b).heat = l then s
  else
    let o : Nat := if l = 0 then 0 else 4 * l - 1
    let s := s.sendBay b (cfgWrWord · 4 o)
    (s.sendBay b (cfgWrWord · 5 (unsigned 12 (-(o : Int))))).modBay b fun v => { v with heat := l }

/-- HEAT ends on one bay (R278). -/
def State.endHeatBay (s : State) (b : Nat) : State :=
  let s := s.sendBay b (bayStateWord · 2)
  let s := s.sendBay b (cfgWrWord · 4 0)
  (s.sendBay b (cfgWrWord · 5 0)).modBay b fun v => { v with heat := 0 }

/-- HEAT ends on a yard because its use has no more need of it: no exit of R279. -/
def State.restHeat (s : State) (y : Nat) : State :=
  let e := (s.yard y).heatExit
  let s := s.endHeat y
  s.setYard y { s.yard y with warmLevel := 0, heatExit := e }

/-- The yard heats at a level: every bay R279 allows, or none at level 0. -/
def State.heatYard (s : State) (y l : Nat) (n : Nat) : State :=
  if l = 0 then s.restHeat y
  else
    let s := (s.hotBays y).foldl (fun s b => s.sendLevel b l) s
    let more := (s.heatable y).take (min n (s.heatRoom y) - (s.hotBays y).length)
    let s := more.foldl (fun s b => s.sendHeat b l) s
    s.setYard y { s.yard y with warmLevel := l, heatExit := (s.yard y).heatExit && more == [] }

/-- The active use of a yard ends: HEAT ends on all its bays (R280). -/
def State.endWarming (s : State) (y : Nat) : State :=
  let s := s.restHeat y
  s.setYard y { s.yard y with warmUse := 0 }

/-- Preconditioning ends (R280): its heating too, unless a higher use heats the yard; RESULT no longer reads running. -/
def State.endPrecond (s : State) : State :=
  match s.precond with
  | none => s
  | some y =>
    let s := if (s.yard y).warmUse = 3 then s.endWarming y else s
    let s := if s.get THM_PRECOND.RESULT = 3 then s.put THM_PRECOND.RESULT 0 else s
    { s with precond := none }

/-- HEAT ends, most recent bay first, where a condition of R279 no longer holds (SUPERFRAME). -/
def State.checkHeat (s : State) (y : Nat) : State :=
  let hot := sortBy (fun a b => decide ((s.bay b).heatAt ≤ (s.bay a).heatAt)) (s.hotBays y)
  if hot = [] then s
  else if !s.heatAllowed y then s.endHeat y
  else
    let less := hot.take (hot.length - s.heatRoom y)
    let s := if less = [] then s else s.setYard y { s.yard y with heatExit := true }
    less.foldl State.endHeatBay s

end Sys2Proof.Machine
end

