-- ==== Sys2Proof/Machine/Energy.lean ====
section
/-!
DEFINITION. Ownership, attribution, settlement, jobs and scrubs (R37, R205, R257-R266, R403-R406, R410): who owns a yard,
what each context is charged, the records of jobs, and the confidential state's edges.
-/

namespace Sys2Proof.Machine

/-! ### The confidential state's edges (R403, R405, R406, R409, R414) -/

/-- ACTIVE rose or fell: streams end, coarsened readings start anew, buffers in use keep what was staged before (R405, R406,
R409, R414). Every event that can change residency or confidentiality ends with this. -/
def State.confEdge (s : State) : State :=
  if s.active ∧ !s.wasActive then
    let s := { s with wasActive := true, shown10 := [] }.confStreams.confUrgent.evt pgSEC 0
    (List.range 3).foldl (fun s t => s.setStream t { s.stream t with before := (s.stream t).staged.length }) s
  else if !s.active ∧ s.wasActive then { s with wasActive := false }.evt pgSEC 0
  else s

/-- What a scrub of context c on yard y clears in the cycle of its event: the activity record, the DRE's input state, the notices of c
(R410). What the new owner's work brings later is not touched. -/
def State.scrubInputs (s : State) (y c : Nat) : State :=
  let v := s.yard y
  let keep (l : List SetNotice) : List SetNotice := l.filter fun e => e.n.context.toNat != c
  s.setYard y { v with stageOld := true, counts := [], prev1us := 0, lastInfer := none, applied := none
                       gathered := keep v.gathered, pendingSet := keep v.pendingSet }

/-- A scrub is asked for, and begins (R410). -/
def State.askScrub (s : State) (y c : Nat) (clear : Bool) : State :=
  let s := { s with scrubs := s.scrubs ++ [⟨y, c, s.mono, clear⟩] }
  if y < Config.yardCount then s.scrubInputs y c else s

/-! ### Attribution intervals (R258, R259) -/

/-- T_y; of a blind yard the spec states none, and it is a free value (R273, DESIGN CHOICE, assumption log 11). -/
def State.tempNow (s : State) (y : Nat) : Int × State :=
  match s.yardT y with
  | some t => (t, s)
  | none => let (x, s) := s.fresh 10; (signed 16 x, s)

/-- The open job of a context. -/
def State.openJob (s : State) (c : Nat) : Option JobState := s.jobs.find? fun j => j.ctx == c && j.isOpen

/-- A change of a job. -/
def State.modJob (s : State) (id : Nat) (f : JobState → JobState) : State :=
  { s with jobs := s.jobs.map fun j => if j.id = id then f j else j }

/-- The owner byte of a yard, 64 none. -/
def State.ownerByte (s : State) (y : Nat) : Nat := (s.ownerOf y).getD 64

/-- Two intervals merged: counts and time add, the owner is the longer part's (R259). -/
def mergeIntervals (a b : Interval) : Interval :=
  { owner := if a.us < b.us then b.owner else a.owner, job := if a.us < b.us then b.job else a.job
    us := a.us + b.us, period := a.period
    counts := (List.range 32).map fun i => a.counts.getD i 0 + b.counts.getD i 0
    temp := b.temp, vidSum := a.vidSum + b.vidSum, rateSum := a.rateSum + b.rateSum, phSum := a.phSum + b.phSum
    n := a.n + b.n, merged := true, order := a.order }

/-- The interval of a private yard closes and queues; a fifth merges into the newest (R259). -/
def State.closeInterval (s : State) (y : Nat) : State :=
  if !Config.isPrivate y then s
  else
    let (t, s) := s.tempNow y
    let v := s.yard y
    let us := (s.mono - v.openAt) / ns 1000
    let o := s.ownerByte y
    let i : Interval := { v.open_ with
      owner := o, job := ((s.openJob o).map fun (j : JobState) => j.id), us := us, period := (s.sysTime - 1000 * us) / 1000000
      temp := t / 16, order := s.closeSeq }
    let s := { s with closeSeq := s.closeSeq + 1 }
    if us = 0 ∧ i.n = 0 then s.setYard y { v with open_ := {}, openAt := s.mono }
    else if v.closed.length < 4 then s.setYard y { v with open_ := {}, openAt := s.mono, closed := v.closed ++ [i] }
    else
      let q := v.closed.dropLast ++ [mergeIntervals (v.closed.getLastD {}) i]
      (s.setYard y { v with open_ := {}, openAt := s.mono, closed := q }).bump CAP_CNT_ATTRMERGE.COUNT

/-- ATTRIBUTION_INTERVAL_CLOSE: attribution stops outside way-on (R266). -/
def intervalCloseEff (y : Nat) (s : State) : State := if s.inWayOn then s.closeInterval y else s

/-- A source of the energy model (R258). -/
def Interval.source (i : Interval) (y k : Nat) : Int :=
  let n := i.n
  if n = 0 then (if k = 33 then i.temp else if k = 35 then ((Config.kindCode y : Nat) : Int) else 0)
  else if k < 32 then
    let v := 1280 * n + 4 * i.vidSum
    ((min 65535 (i.counts.getD k 0 * (v * v) / (n * (2304 * n * (2304 * n)))) : Nat) : Int)
  else if k = 32 then ((i.vidSum / n : Nat) : Int)
  else if k = 33 then i.temp
  else if k = 34 then ((i.rateSum / n : Nat) : Int)
  else if k = 35 then ((Config.kindCode y : Nat) : Int)
  else if k = 36 then ((i.phSum / n : Nat) : Int)
  else 0

/-- The slot of the energy model holds a kind 1 bundle (R153, R258). -/
def State.attrSlot (s : State) : Option Nat :=
  let k := s.get CAP_ATTR.SLOT
  if s.on (DRE_SLOT_STAT.VALID k) && s.on (DRE_SLOT_STAT.KIND k) then some k else none

/-- The private yard whose oldest queued interval closed first. -/
def State.oldestClosed (s : State) : Option Nat :=
  ((List.range Config.yardCount).filter fun y => (s.yard y).closed != []).foldl (fun best y =>
    match best with
    | none => some y
    | some z => if ((s.yard y).closed.headD {}).order < ((s.yard z).closed.headD {}).order then some y else some z) none

/-- ATTRIBUTION_RUN: one queued interval, in time no yard inference claims (R23, R258). -/
def attributionRunEff (s : State) : State :=
  if !s.dreOn ∨ s.fly.isSome ∨ s.due ≠ [] then s
  else
    match s.attrSlot, s.oldestClosed with
    | some k, some y =>
      let v := s.yard y
      let i := v.closed.headD {}
      let f := s.get (DRE_SLOT_STAT.FRAME k)
      let (outs, sats) := s.runModel f ((List.range 64).map (i.source y))
      let g := (List.range 4).map fun j => (max 0 (outs.getD j 0)).toNat * i.us
      let s := s.setYard y { v with closed := v.closed.drop 1, lastG := g, lastUs := i.us }
      let e : Estimate := ⟨y, i.owner, i.job, i.us, i.period, g, i.merged⟩
      let s := { s with estimates := s.estimates ++ [e] }
      ((s.bump DRE_CNT_ATTRIB.COUNT).bumpBy DRE_CNT_SAT.COUNT sats).dreSpend (s.modelCycles (frameBase f))
    | _, _ => s

/-! ### Ownership (R257) -/

/-- A private yard's owner changes: its interval closes, and what a confidential context leaves behind is scrubbed (R257,
R259, R410). A yard in D4 or fenced is unowned, whatever names an owner (DEDUCED, assumption log 19). -/
def State.setOwner (s : State) (y o' : Nat) : State :=
  let old := s.ownerByte y
  let o := if s.domState y = 4 ∨ s.on (YRD_STATUS.YARD_FENCED y) then 64 else o'
  if !Config.isPrivate y ∨ old = o then s
  else
    let s := if s.inWayOn then s.closeInterval y else s
    let s := s.put (Fld.byte CAP_YOWN.OWNER y) o
    let s := if old < 64 ∧ s.confidential old then s.askScrub y old false else s
    s.confEdge

/-- A yard in D4 or fenced is unowned (R257). -/
def State.disown (s : State) (y : Nat) : State := s.setOwner y 64

/-- The waiting notice of a yard whose effective time comes first, of equals the one accepted first. -/
def Yard.ownNext (v : Yard) : Option (Nat × Nat × Nat) :=
  v.ownPend.foldl (fun best e =>
    match best with
    | none => some e
    | some b => if e.1 < b.1 then some e else some b) none

/-- OWNERSHIP_CHANGE: the yard's waiting notice that is due first takes effect. -/
def ownershipChangeEff (y : Nat) (s : State) : State :=
  let v := s.yard y
  match v.ownNext with
  | none => s
  | some (at_, kind, c) =>
    let s := s.setYard y { v with ownPend := v.ownPend.erase (at_, kind, c) }
    if kind = 1 ∨ kind = 3 then s.setOwner y c
    else if s.ownerByte y = c then s.setOwner y 64
    else s

/-! ### Activity (R37, R205) -/

/-- The 32 counts of four beats (R37). -/
def activityCounts (beats : List (BitVec 128)) : List Nat :=
  beats.flatMap fun b => (List.range 8).map fun k => b.toNat / 2 ^ (16 * k) % 65536

/-- ACTIVITY_RECORD: four beats in order make a record; beats out of order discard that record alone; no record counts while the DRE
is stopped (R33). -/
def activityRecordEff (y : Nat) (beats : List (BitVec 2 × BitVec 128)) (s : State) : State :=
  if Config.yardCount ≤ y ∨ !s.dreOn then s
  else if beats.map (fun b => b.1.toNat) = [0, 1, 2, 3] then
    s.setYard y { s.yard y with stage := some (activityCounts (beats.map Prod.snd)) }
  else s

/-- The sums of the yard's open interval take one tick (R258). -/
def State.tickInterval (s : State) (y : Nat) : State :=
  let v := s.yard y
  let i := v.open_
  s.setYard y { v with open_ := { i with
    counts := (List.range 32).map fun k => i.counts.getD k 0 + v.counts.getD k 0
    vidSum := i.vidSum + s.vidNow y, rateSum := i.rateSum + v.thr + 1, phSum := i.phSum + s.activePhases y, n := i.n + 1 } }

/-- f_n of a ring-oscillator count at the yard's temperature and voltage, scaled by 2^46 (R204). -/
def State.fNorm (s : State) (y f : Nat) : Int :=
  let t : Int := (s.yardT y).getD 960 - 960
  let mv4 : Int := 2880 - (1600 + 5 * (s.vidNow y : Int))
  (f : Int) * (2 ^ 24 + (s.get FAR_RO_NORM.KT : Int) * t) * (2 ^ 22 + (s.get FAR_RO_NORM.KV : Int) * mv4)

/-- Ring oscillator and replica counts of a new record, where FAR_AP_MAP enables them (R204, R205): f_n adds to the mean of
the plan period, and the least replica margin at a speed order of at least 95 % of FMAX is kept. -/
def State.farrierCounts (s : State) (y : Nat) : State :=
  let v := s.yard y
  if !s.on FAR_AP_MAP.EN then s
  else
    let rp := v.counts.getD (s.get FAR_AP_MAP.RPL) 0
    let fast := decide (95 * s.get (FAR_YSTAT.FMAX y) ≤ 100 * v.fratio)
    s.setYard y { v with
      fnSum := v.fnSum + s.fNorm y (v.counts.getD (s.get FAR_AP_MAP.RO) 0), fnCnt := v.fnCnt + 1
      rpl := if fast then some (match v.rpl with | some m => min m rp | none => rp) else v.rpl }

/-- A yard at the host tick: its complete record replaces the one in use, or the stale count grows (R37, R410). -/
def State.tickYard (s : State) (y : Nat) : State :=
  let v := s.yard y
  let s := match v.stage with
    | some c =>
      if v.stageOld then (s.setYard y { v with stage := none, stageOld := false }).bump (DRE_YSTAT.STALE y)
      else (s.setYard y { v with counts := c, stage := none }).farrierCounts y
    | none => (s.setYard y { v with stageOld := false }).bump (DRE_YSTAT.STALE y)
  if Config.isPrivate y then s.tickInterval y else s

/-- ACTIVITY_TICK. While the DRE is stopped a tick counts no stale record (DESIGN CHOICE, assumption log 38). -/
def activityTickEff (s : State) : State :=
  if s.dreOn then (List.range Config.yardCount).foldl State.tickYard s else s

/-! ### Jobs (R261) -/

/-- The intervals of a context's yards close at a boundary of its job (R259). -/
def State.closeOwned (s : State) (c : Nat) : State :=
  if s.inWayOn then ((List.range Config.yardCount).filter fun y => s.ownerOf y == some c).foldl State.closeInterval s else s

/-- CAP_STATUS.STATION_OK (R265). -/
def State.stationOk (s : State) : Bool :=
  let p := s.ceiling
  s.get CAP_STATUS.MODE_NOW == 2 && s.get CAP_STATUS.RUNG == 0
    && (List.range Config.yardCount).all (fun y =>
        let v := s.yard y
        v.curSteps == 0 && v.railSteps == 0 && s.get (yRung y) == 0
          && (!Config.isLogic y || s.domState y != 0 || (v.fratio == s.opp.get (CAP_OPP.FRATIO p) && v.thr == 7))
          && (!Config.isLogic y || (s.ownerOf y).all fun c => (s.ctx c).rung == 0))

/-- STATION_OK as it stands, and the jobs for which it has not stayed 1. -/
def State.refreshStation (s : State) : State :=
  let ok := s.stationOk
  let s := s.put CAP_STATUS.STATION_OK ok.toNat
  if ok then s else { s with jobs := s.jobs.map fun (j : JobState) => if j.isOpen then { j with station := false } else j }

/-- CAP_JOB_RES (coded as PWS_REQ_RES.STATUS). -/
def State.jobResult (s : State) (c st : Nat) : State := (s.put CAP_JOB_RES.CONTEXT c).put CAP_JOB_RES.STATUS st

/-- A job begins; the answer is its status. -/
def State.jobBegin (s : State) (c tag : Nat) : State × Nat :=
  match s.openJob c with
  | some _ => (s.jobResult c stRefusedBusy, stRefusedBusy)
  | none =>
    let s := s.closeOwned c
    let j : JobState := { id := s.jobNext, ctx := c, tag := tag, begin_ := s.sysTime, noattr := !s.inWayOn
                          station := s.stationOk, unmet := s.on CAP_STATUS.UNMET }
    (({ s with jobs := s.jobs ++ [j], jobNext := s.jobNext + 1 }.jobResult c stDone).confEdge, stDone)

/-- A job ends; the answer is its status. A confidential context's job state is scrubbed once its record is queued. -/
def State.jobEnd (s : State) (c tag : Nat) : State × Nat :=
  match s.openJob c with
  | none => (s.jobResult c stRefusedRange, stRefusedRange)
  | some j =>
    let s := s.refreshStation.closeOwned c
    let conf := s.confidential c
    let s := s.modJob j.id fun j => { j with isOpen := false, tag := tag, end_ := s.sysTime, conf := conf }
    let s := if conf then s.askScrub 127 c false else s
    ((s.jobResult c stDone).confEdge, stDone)

/-- µJ of the running totals: a context's energy grows (R260). -/
def State.creditCtx (s : State) (c e : Nat) : State := s.put64 (CAP_CTX_E_LO.E c) (s.get64 (CAP_CTX_E_LO.E c) + e)

/-- A credit to an interval's owner: its total, its job's, its share of shared yards. -/
def State.credit (s : State) (owner : Nat) (job : Option Nat) (e : Nat) (shared : Bool) : State :=
  let s := if owner < 64 then s.creditCtx owner e else s
  match job with
  | some id => s.modJob id fun j =>
      { j with e := j.e + e, ePriv := if shared then j.ePriv else j.ePriv + e, eShared := if shared then j.eShared + e else j.eShared }
  | none => s

/-! ### Settlement (R260, R266) -/

/-- Sum of the entries of a table of periods up to p, and the rest. -/
def takePeriods (p : Nat) (t : Tab Int) : Int × Tab Int :=
  ((t.filter fun e => e.1 ≤ p).map Prod.snd |>.sum, t.filter fun e => p < e.1)

/-- µJ of a sum of 0.3125 mV × 1/16 A over superframes of 320 ns (R66, R158): 1/160,000 µJ each. -/
def railMicro (x : Int) : Nat := (max 0 x / 160000).toNat

/-- µJ of a sum of mW over superframes of 320 ns. -/
def heatMicro (x : Int) : Nat := (max 0 x * 320 / 1000000).toNat


/-- A superframe's length, 320 ns: 16 times that on the backup oscillator (R66, R361). -/
def State.frames (s : State) : Nat := if s.onPll then 1 else 16

/-- The efficiency of a rail's bays over a second ends (R204): a unit of product 10 over its 240 ns is 1.5 pJ, one of rail energy over a
superframe 6.25 pJ. A second without rail energy gives none. -/
def State.efficiency (s : State) (r : Nat) : State :=
  let v := s.rail r
  if s.mono < v.effFrom + ns 1000000000 then s
  else
    s.setRail r { v with
      effOut := 0, effIn := 0, effFrom := s.mono
      effSum := if v.effIn ≤ 0 then v.effSum else v.effSum + 2400 * v.effOut / v.effIn
      effCnt := if v.effIn ≤ 0 then v.effCnt else v.effCnt + 1 }

/-- One superframe's rail energy and warming charge (R260): the PKG pair's voltage times the rail's IMON current. What is measured outside
way-on service is kept apart, for CAP_UNATTR (R266). -/
def State.meterRail (s : State) (r : Nat) : State :=
  let v := s.rail r
  let p := s.sysTime / 1000000
  let e := s.getI (SXT_VAL.VALUE (if r = 0 then 24 else 25) 30) * s.railIMon r * s.frames
  let h : Int := ((((List.range Config.yardCount).filter fun y => Config.yardRail y == r).map s.yardHeat).sum * s.frames : Nat)
  if !s.inWayOn then (s.setRail r { v with
    effIn := v.effIn + e, uSum := Tab.set (fun _ => 0) v.uSum p (Tab.get (fun _ => 0) v.uSum p + e) }).efficiency r
  else (s.setRail r { v with
    effIn := v.effIn + e
    eSum := Tab.set (fun _ => 0) v.eSum p (Tab.get (fun _ => 0) v.eSum p + e)
    hSum := Tab.set (fun _ => 0) v.hSum p (Tab.get (fun _ => 0) v.hSum p + h) }).efficiency r

/-- The mean of a rail's efficiencies over the plan period (R204). -/
def State.takeEfficiency (s : State) (r : Nat) : State :=
  let v := s.rail r
  s.setRail r { v with
    effSum := 0, effCnt := 0, effMean := if v.effCnt = 0 then v.effMean else some (roundDiv v.effSum v.effCnt) }

/-- A supervision job's product 10 adds to the rail's efficiency balance, and to the yard's power and energy sums (R192, R204, R245,
R260). -/
def State.meterYard (s : State) (y : Nat) (prod : Int) : State :=
  let r := s.rail (Config.yardRail y)
  let s := s.setRail (Config.yardRail y) { r with effOut := r.effOut + prod }
  let v := s.yard y
  let p := s.sysTime / 1000000
  let o := if s.inWayOn then Tab.set (fun _ => 0) v.oSum p (Tab.get (fun _ => 0) v.oSum p + prod) else v.oSum
  s.setYard y { v with pSum := v.pSum + prod, pCnt := v.pCnt + 1, oSum := o }

/-- The intervals of periods up to p still queued are estimated at their yard's last computed power and marked merged. -/
def State.estimateQueued (s : State) (p : Nat) : State :=
  (List.range Config.yardCount).foldl (fun s y =>
    let v := s.yard y
    let late := v.closed.filter fun i => i.period ≤ p
    if late = [] then s
    else
      let est (i : Interval) : Estimate :=
        let g := (List.range 4).map fun j => if v.lastUs = 0 then 0 else v.lastG.getD j 0 * i.us / v.lastUs
        ⟨y, i.owner, i.job, i.us, i.period, g, true⟩
      { s with estimates := s.estimates ++ late.map est }.setYard y { v with closed := v.closed.filter fun i => p < i.period }) s

/-- Shares of e among estimates by weight: floor of each; nothing where no weight stands. -/
def State.share (s : State) (l : List Estimate) (w : Estimate → Nat) (e den : Nat) (shared : Bool) : State :=
  l.foldl (fun s j => if j.owner < 64 ∧ den ≠ 0 then s.credit j.owner j.job (e * w j / den) shared else s) s

/-- Sum of the credits of such a share that go to owners. -/
def shareSum (l : List Estimate) (w : Estimate → Nat) (e den : Nat) : Nat :=
  (l.map fun j => if j.owner < 64 ∧ den ≠ 0 then e * w j / den else 0).sum

/-- The shared kinds of R258: fabric, link, memory interface, for outputs 1 to 3. -/
def sharedKind (k : Nat) : Nat := if k = 1 then 1 else if k = 2 then 3 else 4

/-- SETTLEMENT of every period that has ended (R260); energy measured outside way-on goes to CAP_UNATTR, and all of it while attribution
is stopped (R266). A context's share of shared
yards over the `n` periods of 1 ms settled at once is a power, in mW (R248). -/
def settlementEff (s : State) : State :=
  if s.sysTime < 1000000 then s
  else
    let p := s.sysTime / 1000000 - 1
    let n := match s.cap.settled with | some q => p - q | none => 1
    let s := { s with cap := { s.cap with settled := some p } }.estimateQueued p
    let ests := s.estimates.filter fun j => j.period ≤ p
    let s := { s with estimates := s.estimates.filter fun j => p < j.period }
    -- measured energies
    let es := (List.range 2).map fun r => railMicro (takePeriods p (s.rail r).eSum).1
    let hs := (List.range 2).map fun r => heatMicro (takePeriods p (s.rail r).hSum).1
    let out := ((List.range 2).map fun r => railMicro (takePeriods p (s.rail r).uSum).1).sum
    let os := (List.range Config.yardCount).map fun y => (max 0 (takePeriods p (s.yard y).oSum).1).toNat
    let s := (List.range 2).foldl (fun s r =>
      let v := s.rail r
      s.setRail r { v with eSum := (takePeriods p v.eSum).2, hSum := (takePeriods p v.hSum).2, uSum := (takePeriods p v.uSum).2 }) s
    let s := (List.range Config.yardCount).foldl (fun s y => s.setYard y { s.yard y with oSum := (takePeriods p (s.yard y).oSum).2 }) s
    let railO (r : Nat) : Nat := (((List.range Config.yardCount).filter fun y => Config.yardRail y == r).map fun y => os.getD y 0).sum
    let yIn (y : Nat) : Nat :=
      let r := Config.yardRail y
      let d := railO r
      if d = 0 then 0 else (es.getD r 0 - hs.getD r 0) * os.getD y 0 / d
    let gross := es.sum
    let bare := !s.inWayOn || s.attrSlot.isNone || !s.on DRE_CTRL.RUN
    let mark (j : JobState) : JobState :=
      { j with merged := j.merged || ests.any (fun e => e.merged && e.job == some j.id), noattr := j.noattr || (bare && decide (j.begin_ < (p + 1) * 1000000)) }
    let s := { s with jobs := s.jobs.map mark }.put64 CAP_UNATTR_LO.E (s.get64 CAP_UNATTR_LO.E + out)
    if !s.inWayOn then s.put64 CAP_UNATTR_LO.E (s.get64 CAP_UNATTR_LO.E + gross)
    else
      let priv := (List.range Config.yardCount).filter Config.isPrivate
      let of_ (y : Nat) := ests.filter fun j => j.yard == y
      let g (k : Nat) (j : Estimate) : Nat := j.g.getD k 0
      let den (y : Nat) : Nat := ((of_ y).map (g 0)).sum
      let dus (y : Nat) : Nat := ((of_ y).map fun j => j.us).sum
      let s := priv.foldl (fun s y =>
        if den y = 0 then s.share (of_ y) (fun j => j.us) (yIn y) (dus y) false else s.share (of_ y) (g 0) (yIn y) (den y) false) s
      let given := (priv.map fun y =>
        if den y = 0 then shareSum (of_ y) (fun j => j.us) (yIn y) (dus y) else shareSum (of_ y) (g 0) (yIn y) (den y)).sum
      -- shared kinds; estimates are in 10 nJ, 100 to the µJ
      let kindE (k : Nat) : Nat := (((List.range Config.yardCount).filter fun y => Config.kindCode y == sharedKind k).map yIn).sum
      let est (k : Nat) : Nat := (ests.map (g k)).sum
      let full (k : Nat) : Bool := s.on CAP_ATTR.SHARED && decide (est k ≤ 100 * kindE k)
      let num (k : Nat) : Nat := if full k then 1 else kindE k
      let dn (k : Nat) : Nat := if full k then (if est k = 0 then 0 else 100) else est k
      let shr (c : Nat) : Nat := ([1, 2, 3].map fun k => shareSum (ests.filter fun j => j.owner == c) (g k) (num k) (dn k)).sum
      let s := [1, 2, 3].foldl (fun s k => s.share ests (g k) (num k) (dn k) true) s
      let givenShared := ([1, 2, 3].map fun k => shareSum ests (g k) (num k) (dn k)).sum
      let s := if n = 0 then s else (List.range Config.contexts).foldl (fun s c => s.setCtx c { s.ctx c with shared := shr c / n }) s
      s.put64 CAP_UNATTR_LO.E (s.get64 CAP_UNATTR_LO.E + (gross - given - givenShared))

/-! ### Job records (R262, R263) -/

/-- The body of a job energy record: bytes 4 to 61 (R262). -/
def jobBody (j : JobState) (e ep es : Nat) (model seq pk : Nat) : List Byte :=
  le 1 j.ctx ++ le 1 0 ++ le 2 j.tag ++ le 8 j.begin_ ++ le 8 j.end_ ++ le 8 e ++ le 8 ep ++ le 8 es
    ++ le 4 (j.end_ / 1000000 + 1 - j.begin_ / 1000000) ++ le 4 model ++ le 4 seq ++ le 2 pk

/-- Flags of a job energy record, LOST aside. -/
def jobFlags (j : JobState) : Nat :=
  j.conf.toNat + (decide (j.end_ - j.begin_ < 50000000)).toNat * 2 + j.merged.toNat * 4 + j.unmet.toNat * 8
    + j.noattr.toNat * 16 + j.station.toNat * 64

/-- JOB_RECORD: the record of the job that ended first joins stream 1, or is lost where 16 wait. -/
def jobRecordEff (s : State) : State :=
  match s.jobs.find? fun j => !j.isOpen with
  | none => s
  | some j =>
    let s := { s with jobs := s.jobs.filter fun (k : JobState) => k.id != j.id }
    let model := match s.attrSlot with | some k => s.get (DRE_SLOT_ID.MODEL_ID k) | none => 0
    let c := s.ctx j.ctx
    let total := j.e + (if j.conf then c.carry else 0)
    let s := if j.conf ∧ s.confidential j.ctx then s.setCtx j.ctx { c with carry := total % 1000000 } else s
    let body := if j.conf then jobBody j (total / 1000000 * 1000000) 0 0 model s.recSeq 0
      else jobBody j j.e j.ePriv j.eShared model s.recSeq (min 65535 (j.peak / 1000))
    let s := { s with recSeq := s.recSeq + 1 }
    let d := s.stream 1
    if 16 ≤ d.staged.length then
      (s.loseRecord 1).bump CAP_CNT_RECLOST.COUNT
    else
      let lost := (s.stream 1).lost
      let s := (s.stage 1 0x0021 (jobFlags j) body (some j.ctx) none).evt pgCAP 5
      if lost < (s.stream 1).lost then s.bump CAP_CNT_RECLOST.COUNT else s

/-! ### Scrubs (R404, R405, R410) -/

/-- What a scrub of context c on yard y clears by its end: the yard's counters, and the last notice where it is of c. -/
def State.scrubYard (s : State) (y c : Nat) : State :=
  let s := [YRD_CNT_ALLHANDS.COUNT y, YRD_CNT_SAT.COUNT y, YRD_CNT_OVERRUN.COUNT y, YRD_CNT_KEELMISS.COUNT y,
    YRD_SHED_EVT.CANCELS y, DRE_YSTAT.ERR y].foldl (fun s f => s.put f 0) s
  let s := (s.baysOf y).foldl (fun s b => s.put (BAY_CNT_TRIP.TRIPS b) 0) s
  if s.get64 PIL_LAST_LO.NOTICE / 2 ^ 39 % 64 = c then s.put64 PIL_LAST_LO.NOTICE 0 else s

/-- SEC_CONF bit of a context. -/
def confBit (c : Nat) : Fld := ⟨(if c < 32 then SEC_CONF0.CTX else SEC_CONF1.CTX).addr, c % 32, 1⟩

/-- SCRUB: the scrub that waits first runs and ends; the last of an unmarking clears the context's bit. -/
def scrubEff (s : State) : State :=
  match s.scrubs with
  | [] => s
  | r :: t =>
    let s := { s with scrubs := t }
    let s := if r.yard < Config.yardCount then s.scrubYard r.yard r.ctx else s
    let us := ceilDiv (s.mono - r.at_) (ns 1000)
    let s := ((s.put SEC_SCRUB_LAST.YARD r.yard).put SEC_SCRUB_LAST.CONTEXT r.ctx).put SEC_SCRUB_LAST.US (min 255 us)
    let s := s.bump SEC_CNT_SCRUB.COUNT
    let s := if (if s.takeover.any (fun t => decide (r.at_ ≤ t ∧ t ≤ r.at_ + ns 20000)) then 70 else 20) < us then (s.bump SEC_CNT_SCRUBLATE.COUNT).evt pgSEC 1 else s
    let s := if r.clear then (s.put (confBit r.ctx) 0).setCtx r.ctx { s.ctx r.ctx with carry := 0 } else s
    s.confEdge

/-- A bit of SEC_CONF is set (R404). -/
def State.confSet (s : State) (c : Nat) : State := (s.put (confBit c) 1).confEdge

/-- A bit of SEC_CONF is cleared: at once for a context that is not resident, whose job and staging state is scrubbed all the same, else
at the end of its scrubs (R404, R410). -/
def State.confClear (s : State) (c : Nat) : State :=
  if !s.confidential c then s
  else if !s.resident c then (((s.put (confBit c) 0).setCtx c { s.ctx c with carry := 0 }).askScrub 127 c false).confEdge
  else
    let s := ((List.range Config.yardCount).filter fun y => s.ownerOf y == some c).foldl (fun s y => s.askScrub y c false) s
    (s.askScrub 127 c true).confEdge

/-! ### The commands -/

/-- ATTRIBUTION_INTERVAL_CLOSE. -/
def execAttributionIntervalClose (yard : Nat) (s : State) : Out :=
  s.after (intervalCloseEff yard s)

/-- ATTRIBUTION_RUN. -/
def execAttributionRun (s : State) : Out :=
  s.after (attributionRunEff s)

/-- SETTLEMENT. -/
def execSettlement (s : State) : Out :=
  s.after (settlementEff s)

/-- JOB_RECORD. -/
def execJobRecord (s : State) : Out :=
  s.after (jobRecordEff s)

/-- OWNERSHIP_CHANGE. -/
def execOwnershipChange (yard : Nat) (s : State) : Out :=
  s.after (ownershipChangeEff yard s)

/-- ACTIVITY_RECORD. -/
def execActivityRecord (yard : Nat) (beats : List (BitVec 2 × BitVec 128)) (s : State) : Out :=
  s.after (activityRecordEff yard beats s)

/-- ACTIVITY_TICK. -/
def execActivityTick (s : State) : Out :=
  s.after (activityTickEff s)

/-- SCRUB. -/
def execScrub (s : State) : Out :=
  s.after (scrubEff s)

end Sys2Proof.Machine
end

