-- ==== Sys2Proof/Machine/Caps.lean ====
section
/-!
DEFINITION. Modes, caps and epochs (R239-R256, R265-R268): the ladder, the five layers, deferral, CAP_UNMET, the cap-loop
boundary, and the cap coordination port.
-/

namespace Sys2Proof.Machine

/-! ### The ladder (R241, R242, R434) -/

/-- Valid points not above a ceiling, highest first. -/
def State.ladder (s : State) (ceil : Nat) : List Nat := (s.validPoints.filter fun n => n ≤ ceil).reverse

/-- Point and issue rate, in eighths, of a rung (R242). -/
def State.rungPoint (s : State) (r : Nat) : Nat × Nat :=
  let l := s.ladder s.ceiling
  if r < l.length then (l.getD r 0, 8) else (l.getLastD 0, max 1 (8 - (r + 1 - l.length)))

/-- The lowest rung (R242, R247). -/
def State.lowestRung (s : State) : Nat := s.ceiling + 7


/-- The point next below one whose FRATIO exceeds the yard's FMAX (R241). -/
def State.fmaxPoint (s : State) (y p : Nat) : Nat :=
  ((s.ladder p).find? fun n => s.opp.get (CAP_OPP.FRATIO n) ≤ s.get (FAR_YSTAT.FMAX y)).getD p


/-- Point and issue rate that the layers leave a yard (R243, R275); outside way-on service point 3, and the thermal layer acts
as issue rate alone (R361). -/
def State.wanted2 (s : State) (y : Nat) : Nat × Nat :=
  let v := s.yard y
  let steps := 8 - max v.curSteps v.railSteps
  if !s.inWayOn then (if Config.isLogic y then s.fmaxPoint y 3 else 0, min (8 - min 7 (s.get (yRung y))) steps)
  else if Config.isLogic y then
    let rc := match s.ownerOf y with | some c => (s.ctx c).rung | none => 0
    let (p, r) := s.rungPoint (max (s.get CAP_STATUS.RUNG) (max rc (s.get (yRung y))))
    (s.fmaxPoint y p, min r steps)
  else (0, min (8 - min 7 (s.get (yRung y))) steps)

/-- Byte of CAP_YRUNG of a yard. -/
def capYrung (y : Nat) : Fld := ⟨(CAP_YRUNG.YARD (y / 4)).addr, y % 4 * 8, 8⟩

/-- The same order waits, is in flight, or is held for its voltage. -/
def State.asked (s : State) (y f thr : Nat) : Bool :=
  match (s.yard y).speedNext.orElse fun _ => s.soQueue.find? fun (q : SpeedReq) => q.yard == y, (s.yard y).vfWait with
  | some q, _ => q.fratio == f && q.thr == thr
  | none, some w => w.fratio == f && w.thr == thr
  | none, none => match s.soFly with | some o => o.req.yard == y && o.req.fratio == f && o.req.thr == thr | none => false

/-- A logic yard is ordered to a point and an issue rate where they differ from what is in effect (R249); a code that changes
under an unchanged frequency is delivered, but while an order of the yard is in flight, whose end it waits for (R39). A yard in the
maintenance state keeps its point (R184). -/
def State.orderLogic (s : State) (y p rate : Nat) : State :=
  let v := s.yard y
  let keep := s.inMaint y
  let f := min s.fratioMax (if keep then v.fratio else s.opp.get (CAP_OPP.FRATIO p))
  let code := if keep then s.get (YRD_VID.TARGET y) else s.opp.get (CAP_OPP.VID p)
  let s := s.put (capYrung y) (p * 16 + (rate - 1))
  if s.asked y f (rate - 1) then s
  else
    let same := decide (f = v.fratio ∧ rate - 1 = v.thr) && !s.speedFlying y
    let s := if same ∧ s.get (YRD_VID.TARGET y) ≠ code then s.setTarget y code else s
    let s := s.requestSpeed y f (rate - 1) (some code)
    s.setYard y { s.yard y with point := p }

/-- A yard of another kind: only the issue rate changes, at its farrier FMAX (R434), or at 50 % outside way-on (R361); in the
maintenance state the frequency stays (R184). A pending order for anything else is dropped where the yard has what is asked, or will
have it. -/
def State.orderOther (s : State) (y rate : Nat) : State :=
  let v := s.yard y
  let f := min s.fratioMax (if s.inMaint y then v.fratio else s.get (FAR_YSTAT.FMAX y))
  let s := s.put (capYrung y) (rate - 1)
  if s.asked y f (rate - 1) then s
  else if (f, rate - 1) = s.speedAfter y then s.dequeueSpeed y
  else s.requestSpeed y f (rate - 1) none

/-- The result of the layers for a yard in D0 or D1 (R249). -/
def State.orderYard (s : State) (y : Nat) : State :=
  if 1 < s.domState y then s
  else
    let (p, r) := s.wanted2 y
    if Config.isLogic y then s.orderLogic y p r else s.orderOther y r

/-- While Oteus holds course only what lowers is ordered (R380); in the maintenance state the frequency stays (R184). -/
def State.orderLower (s : State) (y : Nat) : State :=
  let v := s.yard y
  if 1 < s.domState y then s
  else
    let (p, r) := s.wanted2 y
    let f := min s.fratioMax (if s.inMaint y then v.fratio
      else min v.fratio (if Config.isLogic y then s.opp.get (CAP_OPP.FRATIO p) else s.get (FAR_YSTAT.FMAX y)))
    let thr := min v.thr (r - 1)
    if (f = v.fratio ∧ thr = v.thr) ∨ s.asked y f thr then s
    else s.requestSpeed y f thr (if Config.isLogic y then some (s.get (YRD_VID.TARGET y)) else none)

def State.orderNow (s : State) (y : Nat) : State := if s.courseHeld then s.orderLower y else s.orderYard y

/-! ### Yard-current and rail-current layers (R244) -/

/-- A step of a layer: one eighth below the rate in effect, not below 1/8. -/
def stepFrom (steps thr : Nat) : Nat := min 7 (max steps (7 - thr) + 1)

/-- One step counted (R244, R268). -/
def State.countStep (s : State) : State := (s.bump CAP_CNT_ILIM.COUNT).evt pgCAP 7

/-- Sums of the last 1 ms of i_y and their number (R109, R244). -/
def Yard.avg (v : Yard) : Int × Nat := ((v.iyParts.map Prod.fst).sum, (v.iyParts.map Prod.snd).sum)

/-- The yard-current layer on a yard. -/
def State.yardLayer (s : State) (y : Nat) : State :=
  let v := s.yard y
  let v := { v with iyParts := (v.iyPart :: v.iyParts).take 100, iyPart := (0, 0), iyPeak := 0 }
  let peak := (s.yard y).iyPeak
  let (sum, n) := v.avg
  let l : Int := ((s.limit20 y : Nat) : Int)
  let pk : Int := ((s.get CAP_ILIM.PEAK : Nat) : Int)
  let rel : Int := ((s.get CAP_ILIM.RELEASE : Nat) : Int)
  let exceeds := decide (pk * l < 100 * peak) || decide (l * (n : Int) < sum)
  let near := decide (rel * pk * l < 10000 * peak) || decide (rel * l * (n : Int) < 100 * sum)
  let excess : Int := max (if n = 0 then 0 else sum / (n : Int) - l) ((100 * peak - pk * l) / 100)
  let s := s.setYard y { v with
    tightened := exceeds, over90 := v.over90 || near
    perOver := if exceeds then some (max excess (v.perOver.getD 0)) else v.perOver }
  if exceeds ∧ v.curSteps < 7 then
    ((s.setYard y { s.yard y with curSteps := stepFrom v.curSteps v.thr }).countStep).orderNow y
  else s

def railNow (r : Nat) : Fld := if r = 0 then CAP_RAIL_NOW.PKGA else CAP_RAIL_NOW.PKGB

/-- The rail-current layer on a rail: its limit (R286), or an overloaded phase (R300). -/
def State.railLayer (s : State) (r : Nat) : State :=
  let i := max 0 (s.railIMon r)
  let lim : Int := 16 * (s.railLimitA r : Int)
  let exceeds := decide (lim < i) || s.overloaded r
  let near := decide ((s.get CAP_ILIM.RELEASE : Int) * lim < 100 * i) || s.nearOverload r
  let s := (s.put (railNow r) (min 65535 (i / 16).toNat)).sample10 (railNow r).key i
  let v := s.rail r
  let s := s.setRail r { v with
    tightened := exceeds, over90 := v.over90 || near
    perOver := if lim < i then some (max (i - lim) (v.perOver.getD 0)) else v.perOver }
  if !exceeds then s
  else ((List.range Config.yardCount).filter fun y => Config.yardRail y == r).foldl (fun s y =>
    let v := s.yard y
    if v.railSteps < 7 then ((s.setYard y { v with railSteps := stepFrom v.railSteps v.thr }).countStep).orderNow y else s) s

/-- CURRENT_LAYER_EVAL (R244); the layers continue in reduced service (R266). -/
def currentLayerEff (s : State) : State :=
  let s := (List.range Config.yardCount).foldl State.yardLayer s
  ([0, 1].foldl State.railLayer s).refreshStation

/-- The 100 µs over which a release is judged end with every boundary (R244). -/
def State.clearOver (s : State) : State :=
  let s := (List.range Config.yardCount).foldl (fun s y => s.setYard y { s.yard y with over90 := false }) s
  [0, 1].foldl (fun s r => s.setRail r { s.rail r with over90 := false }) s

/-- Releases at a boundary (R244). -/
def State.releaseSteps (s : State) : State :=
  ((List.range Config.yardCount).foldl (fun s y =>
    let v := s.yard y
    let r := s.rail (Config.yardRail y)
    let cs := if v.over90 ∨ v.tightened then v.curSteps else v.curSteps - 1
    let rs := if r.over90 ∨ r.tightened then v.railSteps else v.railSteps - 1
    s.setYard y { v with curSteps := cs, railSteps := rs }) s).clearOver

/-! ### Power (R245, R248) -/

/-- Domain power of a yard over the period, mW: 6.25 µW per product (R192, R245). -/
def State.yardMw (s : State) (y : Nat) : Nat :=
  let v := s.yard y
  if v.pCnt = 0 then 0 else (max 0 v.pSum / (160 * (v.pCnt : Int))).toNat

/-- A period ends: device power and context powers are formed, the history moves on, the sums start anew. -/
def State.rollPeriod (s : State) : State :=
  let ys := List.range Config.yardCount
  let pw := ys.map s.yardMw
  let p := pw.sum + (ys.map s.yardHeat).sum
  let s := (List.range Config.contexts).foldl (fun s c =>
    let own := ((ys.zip pw).filter fun (y, _) => s.ownerOf y == some c).map Prod.snd |>.sum
    s.setCtx c { s.ctx c with power := own + (s.ctx c).shared }) s
  let s := { s with jobs := s.jobs.map fun (j : JobState) => if j.isOpen then { j with peak := max j.peak (s.ctx j.ctx).power } else j }
  let s := ys.foldl (fun s y => s.setYard y { s.yard y with pSum := 0, pCnt := 0 }) s
  let s := { s with cap := { s.cap with history := (p :: s.cap.history).take 100 } }
  (s.put CAP_POWER.P (min 65535 (p / 1000))).sample10 CAP_POWER.P.key (p : Int)

/-! ### Deferral (R246, R248, R254, R255) -/

/-- The device cap the sources give (R246). -/
def State.devTarget (s : State) : Nat :=
  match [s.get CAP_DEV_INST.INST, s.get CAP_DEV.MGMT, s.get CAP_DEV.KERN].filter (· ≠ 0) with
  | [] => 1900
  | a :: l => l.foldl min a

/-- The device cap in force becomes t; CAP_UNMET names the source that gives it: 0 installation, 1 management, 2 kernel (R250). -/
def State.capInForce (s : State) (t : Nat) : State :=
  let src := if s.get CAP_DEV_INST.INST = t then 0 else if s.get CAP_DEV.MGMT = t then 1 else if s.get CAP_DEV.KERN = t then 2 else 0
  { s with cap := { s.cap with src := src } }.put CAP_DEV_NOW.IN_FORCE t

/-- CAP_STATUS.DEFERRED follows the deferrals. -/
def State.refreshDeferred (s : State) : State :=
  s.put CAP_STATUS.DEFERRED
    (s.cap.defer.isSome || s.cap.modePending.isSome || (List.range Config.contexts).any fun c => (s.ctx c).defer.isSome).toNat

/-- A decrease is deferred now: a collective is open and DEFER_MAX is not 0. -/
def State.defers (s : State) : Bool := s.openColls != [] && s.on CAP_COLL.DEFER_MAX

/-- A deferral begins. -/
def State.countDefer (s : State) : State := (s.bump CAP_CNT_DEFER.COUNT).evt pgCAP 1

/-- A source of the device cap has changed. -/
def State.capChanged (s : State) : State :=
  let t := s.devTarget
  let s :=
    if s.get CAP_DEV_NOW.IN_FORCE ≤ t then
      ({ s with cap := { s.cap with defer := none } }.capInForce t).put CAP_DEV_NOW.PENDING 0
    else
      match s.cap.defer with
      | some d => { s with cap := { s.cap with defer := some { d with value := t } } }.put CAP_DEV_NOW.PENDING t
      | none =>
        if s.defers then
          ({ s with cap := { s.cap with defer := some ⟨t, s.mono⟩ } }.put CAP_DEV_NOW.PENDING t).countDefer
        else s.capInForce t
  s.refreshDeferred

/-- CAP_CTXCAP half of a context. -/
def ctxCapF (c : Nat) : Fld := Fld.half CAP_CTXCAP.reg c

/-- A context cap has been written (R248, R254); 0 is no cap, above every other. -/
def State.ctxCapChanged (s : State) (c : Nat) : State :=
  let t := s.get (ctxCapF c)
  let v := s.ctx c
  let falls := t ≠ 0 ∧ (v.cap = 0 ∨ t < v.cap)
  let s :=
    if !falls then s.setCtx c { v with cap := t, defer := none }
    else
      match v.defer with
      | some d => s.setCtx c { v with defer := some { d with value := t } }
      | none => if s.defers then (s.setCtx c { v with defer := some ⟨t, s.mono⟩ }).countDefer else s.setCtx c { v with cap := t }
  s.refreshDeferred

/-- STRAGGLER for a deferral that DEFER_MAX ended (R255): the oldest open collective, and the deferral's length. -/
def State.straggler (s : State) (d : Deferral) : State :=
  let oldest := s.openColls.foldl (fun best k =>
    match best, s.coll k with
    | none, c => c
    | some b, some c => if c.openedAt < b.openedAt then some c else some b
    | b, none => b) none
  match oldest with
  | none => s
  | some c =>
    ((s.notice 1 127 c.ctx (c.tag * 2 ^ 17 + min (2 ^ 17 - 1) ((s.mono - d.since) / ns 1000))).bump CAP_CNT_STRAGGLER.COUNT).evt pgCAP 2

/-- A deferral ends at this boundary. -/
def State.deferOver (s : State) (d : Deferral) : Bool :=
  s.openColls == [] || decide (d.since + ns (1000 * s.get CAP_COLL.DEFER_MAX) ≤ s.mono)

/-- CAP_DEFERRAL_END for the device cap and the context caps. -/
def State.endDeferrals (s : State) : State :=
  let s := match s.cap.defer with
    | some d =>
      if s.deferOver d then
        let s := if s.openColls = [] then s else s.straggler d
        ({ s with cap := { s.cap with defer := none } }.capInForce d.value).put CAP_DEV_NOW.PENDING 0
      else s
    | none => s
  let s := (List.range Config.contexts).foldl (fun s c =>
    match (s.ctx c).defer with
    | some d =>
      if s.deferOver d then
        let s := if s.openColls = [] then s else s.straggler d
        s.setCtx c { s.ctx c with cap := d.value, defer := none }
      else s
    | none => s) s
  s.refreshDeferred

/-! ### The device and context layers (R247, R248) -/

/-- A rung after one evaluation of R247, and the periods since it last tightened: p and the cap in mW. -/
def capRung (rung since p cap excMax step2 hyst wait top : Nat) (excOk : Bool) : Nat × Nat :=
  let n := since + 1
  let up (k : Nat) : Nat × Nat := (min top (rung + k), 0)
  if excMax < p then up 2
  else if cap < p ∧ !excOk then (if cap * (100 + step2) < 100 * p then up 2 else up 1)
  else if (100 * p : Int) ≤ cap * (100 - hyst : Int) ∧ wait ≤ n then (min top (rung - 1), n)
  else (min top rung, n)

/-- CAP_CREDIT: energy left of the 10 ms budget, in mW × 100 µs (R247). -/
def State.credit10 (s : State) : Int :=
  let cap := match s.cap.defer with | some d => d.value | none => s.get CAP_DEV_NOW.IN_FORCE
  (cap * 100000 : Nat) - (s.cap.history.sum : Nat)

/-- The device layer. -/
def State.deviceLayer (s : State) : State :=
  let p := s.cap.history.headD 0
  let cap := 1000 * s.get CAP_DEV_NOW.IN_FORCE
  let credit := s.credit10
  let above := (s.cap.history.filter fun p => cap < p).length
  let ok := s.get CAP_STATUS.MODE_NOW ≠ 3 && decide (0 < credit) && decide (above < s.get CAP_EXC.EXC_TIME)
  let excMax := 1000 * s.get CAP_EXC.EXC_MAX
  let (r, n) := capRung (s.get CAP_STATUS.RUNG) s.cap.since p cap excMax (s.get CAP_TUNE.STEP2) (s.get CAP_TUNE.HYST)
    (s.get CAP_TUNE.RELEASE_WAIT) s.lowestRung ok
  let s := ({ s with cap := { s.cap with since := n } }.put CAP_STATUS.RUNG r).putI CAP_CREDIT.CREDIT (credit / 10000)
  s.put CAP_STATUS.EXCURSION (decide (cap < p) && decide (p ≤ excMax) && ok).toNat

/-- The context layer of a context. -/
def State.contextLayer (s : State) (c : Nat) : State :=
  let v := s.ctx c
  if v.cap = 0 then s.setCtx c { v with rung := 0, since := v.since + 1 }
  else
    let (r, n) := capRung v.rung v.since v.power (1000 * v.cap) (1000 * s.get CAP_EXC.EXC_MAX) (s.get CAP_TUNE.STEP2)
      (s.get CAP_TUNE.HYST) (s.get CAP_TUNE.RELEASE_WAIT) s.lowestRung false
    s.setCtx c { v with rung := r, since := n }

/-! ### Modes (R240, R249, R254) -/

/-- The mode in force takes the mode asked for, or a lower ceiling is deferred. A change of the mode restarts every yard's
dwell counts (R111). -/
def State.modeLayer (s : State) : State :=
  let ask := s.get CAP_MODE.MODE
  let now := s.get CAP_STATUS.MODE_NOW
  let apply (s : State) (m : Nat) : State :=
    let s := { s with cap := { s.cap with modePending := none } }.put CAP_STATUS.MODE_NOW m
    let s := (List.range Config.yardCount).foldl (fun s y => s.setYard y { s.yard y with dwellHold := true }) s
    s.put CAP_STATUS.RUNG (min (s.get CAP_STATUS.RUNG) s.lowestRung)
  let s :=
    if ask = now then { s with cap := { s.cap with modePending := none } }
    else if s.ceilingOf now ≤ s.ceilingOf ask then apply s ask
    else
      match s.cap.modePending with
      | some d =>
        if s.deferOver d then apply (if s.openColls = [] then s else s.straggler d) ask
        else { s with cap := { s.cap with modePending := some { d with value := ask } } }
      | none =>
        if s.defers then { s with cap := { s.cap with modePending := some ⟨ask, s.mono⟩ } }.countDefer else apply s ask
  s.refreshDeferred

/-! ### CAP_UNMET (R250) -/


/-- One period of an episode: the layer is at its lowest rung over its limit, or within it; ten of either report or end it. The host is
told a context's excess coarsened while ACTIVE (R406). -/
def State.episode (s : State) (key : Nat) (lowest exceeds : Bool) (src excess yard ctx : Nat) : State :=
  let e := Tab.get (fun _ => {}) s.episodes key
  let e' : Episode := if lowest && exceeds then { e with unmet := e.unmet + 1, met := 0 }
    else if exceeds then { e with unmet := 0, met := 0 } else { e with unmet := 0, met := e.met + 1 }
  let set (s : State) (e : Episode) : State := { s with episodes := Tab.set (fun _ => {}) s.episodes key e }
  if 10 ≤ e'.unmet ∧ !e.reported then
    let ex := min 65535 excess
    let param := src * 2 ^ 29 + ex
    let told := src * 2 ^ 29 + (if src = 3 ∧ s.active then ex / 8 * 8 else ex)
    let s := (((set s { e' with unmet := 10, reported := true }).put CAP_STATUS.UNMET 1).bump CAP_CNT_UNMET.COUNT).evt pgCAP 0
    let s := (s.logEvent 0x0111 [param]).notice 3 yard ctx told
    let s := { s with jobs := s.jobs.map fun (j : JobState) => if j.isOpen then { j with unmet := true } else j }
    if src = 1 then s.put PRT_MP.IBI_PEND (setBit (s.get PRT_MP.IBI_PEND) 1) else s
  else if 10 ≤ e'.met then set s {}
  else set s { e' with unmet := min 10 e'.unmet }

/-- Every layer's episode at a boundary. The current layers' quantities are those of the period just ended: one exceeded at any of its
evaluations counts as exceeded, and its largest excess is reported; the sums of a new period start. -/
def State.episodesStep (s : State) : State :=
  let low := s.lowestRung
  let p := s.cap.history.headD 0
  let cap := 1000 * s.get CAP_DEV_NOW.IN_FORCE
  let s := s.episode 0 (s.get CAP_STATUS.RUNG == low) (decide (cap < p)) s.cap.src ((p - cap) / 1000) 127 0
  let s := (List.range Config.contexts).foldl (fun s c =>
    let v := s.ctx c
    s.episode (1 + c) (v.rung == low) (v.cap != 0 && decide (1000 * v.cap < v.power)) 3 ((v.power - 1000 * v.cap) / 1000) 127 c) s
  let s := [0, 1].foldl (fun s r =>
    let o := (s.rail r).perOver
    let atLow := ((List.range Config.yardCount).filter fun y => Config.yardRail y == r).any fun y => (s.yard y).railSteps == 7
    (s.setRail r { s.rail r with perOver := none }).episode (100 + r) atLow o.isSome 4 (o.getD 0 / 16).toNat 127 0) s
  (List.range Config.yardCount).foldl (fun s y =>
    let t := (s.above s.throtC y).getD 0
    let s := s.episode (200 + y) (s.get (yRung y) == s.rungMax y && s.get (yRung y) != 0) (decide (0 < t)) 5 (t / 16).toNat y 0
    let v := s.yard y
    (s.setYard y { v with perOver := none }).episode (400 + y) (v.curSteps == 7) v.perOver.isSome 6 (v.perOver.getD 0 / 5).toNat y 0) s

/-- CAP_STATUS.UNMET: some episode reported has not ended. -/
def State.refreshUnmet (s : State) : State := s.put CAP_STATUS.UNMET (s.episodes.any fun e => e.2.reported).toNat


/-- Station warming ends on a mode change, a device rung above 0, or power above the cap (R280 rank 4). -/
def State.endStation (s : State) : State :=
  let p := s.cap.history.headD 0
  if s.get CAP_STATUS.MODE_NOW = 2 ∧ s.get CAP_STATUS.RUNG = 0 ∧ p ≤ 1000 * s.get CAP_DEV_NOW.IN_FORCE then s
  else ((List.range Config.yardCount).filter fun y => (s.yard y).warmUse == 4).foldl State.endWarming s

/-! ### The boundary (R28, R247, R249) -/

/-- CAP_LOOP_BOUNDARY. While Oteus holds course the rungs stay and only the thermal and current layers act, to lower (R380).
Outside way-on the cap loop stands still, and the thermal and current layers go on (R266, R361). Changed operating points take
effect (R241). -/
def capBoundaryEff (overrun : Bool) (s : State) : State :=
  let s := { s with cap := { s.cap with oppOld := [] } }
  if !s.inWayOn then
    let ys := List.range Config.yardCount
    let s := ys.foldl State.thermalRung (if s.courseHeld then s.clearOver else s.releaseSteps)
    (ys.foldl State.orderNow s).refreshStation
  else
    let s := s.rollPeriod
    let ys := List.range Config.yardCount
    if overrun then (s.clearOver.bump CAP_CNT_LOOPMISS.COUNT).evt pgCAP 6
    else if s.courseHeld then
      let s := ys.foldl State.thermalRung s.clearOver
      (ys.foldl State.orderLower s).episodesStep.refreshUnmet.refreshStation
    else
      let s := s.releaseSteps.endDeferrals
      let s := ys.foldl State.thermalRung s
      let s := ((List.range Config.contexts).foldl State.contextLayer s).deviceLayer
      let s := s.modeLayer.endStation
      let s := ys.foldl State.orderYard s
      s.episodesStep.refreshUnmet.refreshStation

/-! ### Epochs (R251-R253) -/

/-- A message is dropped for a reason (R252). -/
def State.ccpDrop (s : State) (reason : Nat) : State := ((s.bump CAP_CNT_CCPDROP.COUNT).evt pgCAP 4).logEvent 0x0112 [reason]

/-- Bits of a beat. -/
def beatField (b : List (BitVec 64 × Bool)) (k lo w : Nat) : Nat := (b.getD k (0, false)).1.toNat / 2 ^ lo % 2 ^ w

/-- Rules 1 to 3 of R252: the reason, 0 where none. `typeOk` says the type is one that may come. -/
def State.ccpCheck (s : State) (b : List (BitVec 64 × Bool)) (typeOk : Bool) : Nat :=
  if b.any (fun x => !x.2) then 1
  else if b.length ≠ 3 ∨ !typeOk then 2
  else if beatField b 0 55 1 = 0 ∧ (!s.on CAP_DEVNUM.VALID ∨ beatField b 0 37 18 ≠ s.get CAP_DEVNUM.NUMBER) then 3
  else 0

/-- An epoch's value is written (R253); a MODE epoch under LOCK, or of no mode, is ignored (R240). -/
def State.applyEpoch (s : State) (e : Epoch) : State :=
  if e.type = 3 ∧ (s.on CAP_MODE.LOCK ∨ 3 < e.value) then s.bump CAP_CNT_CCPDROP.COUNT
  else
    let s := (s.bump CAP_CNT_EPOCH.COUNT).evt pgCAP 3
    if e.type = 1 then (s.put CAP_DEV_INST.INST e.value).capChanged
    else if e.type = 2 then (s.put (ctxCapF e.ctx) e.value).ctxCapChanged e.ctx
    else s.put CAP_MODE.MODE e.value

/-- Whether pending epochs may fall due: the time base is valid and Oteus does not hold course (R38, R380). -/
def State.epochsLive (s : State) : Bool := s.tbValid && !s.courseHeld

/-- The pending epoch due first: of those whose time has come, the earliest, of equals the lowest number (R253). -/
def State.dueEpoch (s : State) : Option Epoch :=
  (s.epochs.filter fun e => e.time ≤ s.sysTime).foldl
    (fun best e => match best with | none => some e | some b => if e.time < b.time ∨ (e.time = b.time ∧ e.number < b.number) then some e else some b) none

/-- EPOCH_APPLY. -/
def epochApplyEff (s : State) : State :=
  if !s.epochsLive then s
  else
    match s.dueEpoch with
    | none => s
    | some e => { s with epochs := s.epochs.filter fun (x : Epoch) => x.number != e.number }.applyEpoch e

/-- Cases 5 to 7 of R252: the reason, 0 where none. -/
def State.ccpLate (s : State) (b : List (BitVec 64 × Bool)) : Nat :=
  if s.sysTime + 1000000 * s.get CAP_EPOCH.MAX_LEAD < beatField b 1 0 64 then 5
  else if 8 ≤ s.epochs.length then 6
  else if !s.tbValid then 7
  else 0

/-- CANCEL (R252): case 4 alone does not bear on it. -/
def ccpCancelEff (b : List (BitVec 64 × Bool)) (s : State) : State :=
  let r := s.ccpCheck b true
  let n := beatField b 0 0 32
  if r ≠ 0 then s.ccpDrop r
  else if s.ccpLate b ≠ 0 then s.ccpDrop (s.ccpLate b)
  else if s.epochs.any (fun e => e.number == n) then { s with epochs := s.epochs.filter fun (x : Epoch) => x.number != n }
  else s.ccpDrop 2

/-- CCP_EPOCH_MESSAGE. -/
def ccpMessageEff (b : List (BitVec 64 × Bool)) (s : State) : State :=
  let t := beatField b 0 56 8
  let n := beatField b 0 0 32
  let time := beatField b 1 0 64
  if t = 4 then ccpCancelEff b s
  else
    let r := s.ccpCheck b (1 ≤ t && t ≤ 3)
    if r ≠ 0 then s.ccpDrop r
    else if (match s.lastEpoch with | some l => decide (n ≤ l) | none => false) then s.ccpDrop 4
    else if s.ccpLate b ≠ 0 then s.ccpDrop (s.ccpLate b)
    else
      let e : Epoch := ⟨t, n, time, beatField b 2 26 6, beatField b 2 0 16⟩
      let s := { s with lastEpoch := some n }
      if time < s.sysTime ∧ s.epochsLive then s.applyEpoch e else { s with epochs := s.epochs ++ [e] }

/-! ### The commands -/

/-- CAP_LOOP_BOUNDARY. -/
def execCapLoopBoundary (overrun : Bool) (s : State) : Out :=
  s.after (capBoundaryEff overrun s)

/-- CURRENT_LAYER_EVAL. -/
def execCurrentLayerEval (s : State) : Out :=
  s.after (currentLayerEff s)

/-- EPOCH_APPLY. -/
def execEpochApply (s : State) : Out :=
  s.after (epochApplyEff s)

/-- CCP_EPOCH_MESSAGE. -/
def execCcpEpochMessage (beats : List (BitVec 64 × Bool)) (s : State) : Out :=
  s.after (ccpMessageEff beats s)

/-- CCP_CANCEL. -/
def execCcpCancel (beats : List (BitVec 64 × Bool)) (s : State) : Out :=
  s.after (ccpCancelEff beats s)

end Sys2Proof.Machine
end

