-- ==== Sys2Proof/Machine/TimeBase.lean ====
section
/-!
DEFINITION. The time base and the host notice return (R38, R40): strobes, loss and return of OT_TB_VALID, and the notice
the host takes.
-/

namespace Sys2Proof.Machine

/-- Pending epochs whose time has passed apply, in epoch order (R38, R253): as many as are pending at most. -/
def State.applyDue : Nat → State → State
  | 0, s => s
  | n + 1, s => State.applyDue n (epochApplyEff s)

/-- A strobe with OT_TB_VALID high loads the counter with the time and the crossing delay of 20 ns (R38). A step of more
than 100 ns is logged, but not at the first load after a power-on reset. -/
def State.loadTime (s : State) (time : Nat) : State :=
  let new := (time + 20) % 2 ^ 64
  let step := s.tbLoaded && decide (100 < (new - s.sysTime) + (s.sysTime - new))
  let s := { s with sysTime := new, sysHalf := false, tbLoaded := true }
  if step then s.logEvent 0x0102 [] else s

/-- OT_TB_VALID goes low: TB_INVALID once per loss (R38). -/
def tbValidLossEff (s : State) : State :=
  if s.tbValid then { s with tbValid := false }.logEvent 0x0103 [] else s

/-- OT_TB_VALID rises: held epochs may fall due again (R38). -/
def tbValidReturnEff (s : State) : State :=
  let s := { s with tbValid := true, tbSeen := true }
  s.applyDue s.epochs.length

/-- TB_STROBE. A strobe that arrives while OT_TB_VALID is low loads nothing. -/
def tbStrobeEff (time : BitVec 64) (valid : Bool) (s : State) : State :=
  if valid then
    let s := { s with tbValid := true, tbSeen := true }.loadTime time.toNat
    s.applyDue s.epochs.length
  else tbValidLossEff s

/-- HOST_NOTICE_TAKEN: the next queued notice is presented (R40). -/
def hostNoticeTakenEff (s : State) : State := { s with hn := s.hn.drop 1 }

/-! ### The commands -/

/-- TB_STROBE. -/
def execTbStrobe (time : BitVec 64) (valid : Bool) (s : State) : Out :=
  s.after (tbStrobeEff time valid s)

/-- TB_VALID_LOSS. -/
def execTbValidLoss (s : State) : Out :=
  s.after (tbValidLossEff s)

/-- TB_VALID_RETURN. -/
def execTbValidReturn (s : State) : Out :=
  s.after (tbValidReturnEff s)

/-- HOST_NOTICE_TAKEN. -/
def execHostNoticeTaken (s : State) : Out :=
  s.after (hostNoticeTakenEff s)

end Sys2Proof.Machine
end

