-- ==== Sys2Proof/Machine/Domains.lean ====
section
/-!
DEFINITION. Power domains (R218-R238): orders and their ranks, the sequencer of wakes and power-downs, the busy check of a
wake (R123), ready signals, budgets that run out, the wake input, and wake records.
-/

namespace Sys2Proof.Machine

/-! ### Pins and states -/

def State.modDom (s : State) (d : Nat) (f : Dom → Dom) : State := s.setDom d (f (s.dom d))

/-- The sequencer is at rest: no step runs. -/
def State.atRest (s : State) (d : Nat) : Bool := decide ((s.dom d).step = .stable)

/-- Stable, with no order in force (R233). -/
def State.domStable (s : State) (d : Nat) : Bool := s.atRest d && (s.dom d).order.isNone

/-- OT_DOM_ISO_REQ (R237). -/
def State.setIso (s : State) (d : Nat) (on : Bool) : State := s.put (PWS_DOM.ISO d) on.toNat

/-- PWS_DOM.STEP of a step (R237). -/
def DomStep.code : DomStep → Nat
  | .stable => 0
  | .waitSuper | .bias | .ramp | .regulator | .biasSettle | .dnRamp => 1
  | .oscillator | .warming | .dnOsc => 2
  | .memory | .dnMem => 3
  | .logic | .retain | .dnSave | .dnReset => 4
  | .isolation | .dnIso => 5

/-- The sequencer stands at a step. -/
def State.atStep (s : State) (d : Nat) (st : DomStep) : State :=
  (s.modDom d fun m => { m with step := st }).put (PWS_DOM.STEP d) st.code

/-- PWS_STATUS as it reads (R237). -/
def State.pwsStatus (s : State) : Word :=
  pack [(((List.range Config.yardCount).filter fun d => s.domState d == 0 && s.atRest d).length, 16),
    (((List.range Config.yardCount).filter fun d => (s.dom d).order.isSome).length, 0)]

/-- The bays of the yard that take an order of the sequencer: fitted, in Oteus's record neither fenced nor in CONNECT. -/
def State.orderBays (s : State) (y : Nat) : List Nat :=
  (s.baysOf y).filter fun b => s.get (BAY_STATE.STATE b) != 6 && s.get (BAY_STATE.STATE b) != 7 && s.get (BAY_STATE.STATE b) != 0

/-- A BAY_STATE order to each of the yard's bays. -/
def State.orderYardBays (s : State) (y order : Nat) : State :=
  (s.orderBays y).foldl (fun s b => s.sendBay b (bayStateWord · order)) s

/-- The yard's jobs stop (R82). -/
def State.stopYard (s : State) (y : Nat) : State :=
  s.setYard y { s.yard y with
    err := none, queued := none, flying := none, out := [], plan := .none, late := false, hSoft := false, supOrder := none
    next := none, supAt := none, trimHeld := none }

/-! ### The next step (R223, R226, R227) -/

/-- The assist of a state (R220). -/
def stateAssist (t : Nat) : Nat := if t = 2 then 2 else if t = 3 then 3 else 0

/-- The step that leads from where the signals stand towards a state; none where the domain has it. -/
def State.nextStep (s : State) (d t : Nat) : Option DomStep :=
  let m := s.dom d
  let iso := s.on (PWS_DOM.ISO d)
  if t ≤ 1 then
    if t = 1 ∧ !iso then some .dnIso
    else if !m.reg then some (if m.volt = .off then .waitSuper else if m.volt = .full then .regulator else .biasSettle)
    else if !m.oscEn then some .oscillator
    else if !m.memEn then some .memory
    else if !m.rstN ∨ m.ret then some .logic
    else if t = 0 ∧ iso then some .isolation
    else none
  else if !iso then some .dnIso
  else if t = 2 ∧ !m.rstN then
    if !m.reg then some (if m.volt = .full then .regulator else .biasSettle)
    else if !m.oscEn then some .oscillator
    else if !m.memEn then some .memory
    else some .retain
  else if t = 2 ∧ !m.ret then some .dnSave
  else if 2 < t ∧ (m.rstN ∨ m.ret) then some .dnReset
  else if m.oscEn then some .dnOsc
  else if m.memEn ∨ s.get (PWS_DOM.ASSIST d) ≠ stateAssist t then some .dnMem
  else if t < 4 ∧ m.volt ≠ .ret ∨ t = 4 ∧ m.volt ≠ .low ∧ m.volt ≠ .off then some .dnRamp
  else none

/-- The condition that a step waits for holds; steps that wait for no signal have their own events. -/
def State.stepDone (s : State) (d : Nat) : Bool :=
  let m := s.dom d
  match m.step with
  | .dnIso => m.isoAck
  | .isolation => !m.isoAck
  | .oscillator => m.oscRdy
  | .dnOsc => !m.oscRdy
  | .memory => m.memRdy
  | .dnMem => !m.memRdy
  | .logic => m.logicRdy
  | .retain | .dnSave | .dnReset => !m.logicRdy
  | _ => false

/-! ### What the steps do -/

/-- A retention or D4 ramp has ended in every bay of the yard (R227 step 6); so has a rise (R223). -/
def State.rampDone (s : State) (y code : Nat) : Bool :=
  (s.baysOf y).all fun b => !(s.bay b).followsSet || s.bayVid b == code

/-- The bonded-array yard must warm before its memories may run (R234, R281). -/
def State.tooCold (s : State) (d : Nat) : Bool :=
  decide (Config.kind d = .array) && (s.dom d).from_ == 4 && decide (s.get (PWS_DOM.TARGET d) ≤ 1)
    && s.on THM_WARM_CTRL.COLD_EN
    && (match s.yardCold d with | some t => decide (t < 16 * (s.get THM_WARM.COLD_TARGET : Int)) | none => false)

/-- What a step does as it begins. A power-down that turns back after its step 5 takes the assist of D0 and D1 again with its memory
(R224, R229, R231). -/
def State.beginStep (s : State) (d : Nat) (st : DomStep) : State :=
  let s := s.atStep d st
  match st with
  | .dnIso => s.setIso d true
  | .isolation => s.setIso d false
  | .oscillator => s.modDom d fun m => { m with oscEn := true }
  | .dnOsc => s.modDom d fun m => { m with oscEn := false }
  | .memory =>
    if s.tooCold d then
      let s := (s.modDom d fun m => { m with warmed := true, warmFrom := s.mono }).atStep d .warming
      if (s.yard d).warmUse = 1 then s
      else
        let s := s.setYard d { s.yard d with warmUse := 2 }
        if s.heatAllowed d then s.heatYard d 8 Config.bayCount else s
    else (s.refreshBias d).modDom d fun m => { m with memEn := true }
  | .dnMem => (s.put (PWS_DOM.ASSIST d) (stateAssist (s.get (PWS_DOM.TARGET d)))).modDom d fun m => { m with memEn := false }
  | .logic => s.modDom d fun m => { m with rstN := true, ret := false }
  | .retain => s.modDom d fun m => { m with rstN := true, ret := true }
  | .dnSave => s.modDom d fun m => { m with ret := true }
  | .dnReset => s.modDom d fun m => { m with rstN := false, ret := false }
  | .biasSettle => s.setBias d
  | .regulator => s.modDom d fun m => { m with rampEnd := s.mono }
  | .dnRamp =>
    let s := s.modDom d fun m => { m with reg := false }
    if s.get (PWS_DOM.TARGET d) = 4 then
      let s := (s.modDom d fun m => { m with volt := .low }).setYard d { s.yard d with retained := false }
      s.orderSet d 40 (s.get (YRD_SLEW.SLEW d))
    else
      let s := (s.modDom d fun m => { m with volt := .ret }).setYard d { s.yard d with retained := true }
      s.deliver d
  | _ => s

/-- A step that begins with its condition already met; a ramp with no bay to move, too. -/
def State.passes (s : State) (d : Nat) : Bool :=
  match (s.dom d).step with
  | .dnRamp => s.orderBays d == []
  | _ => s.stepDone d

/-! ### Orders (R221, R230, R231) -/

/-- Rank of a source (R231). -/
def OrderSrc.rank : OrderSrc → Nat
  | .wakePin => 0 | .user => 1 | .dbg => 2 | .kernReg => 3 | .kernCmd => 3 | .mgmt => 4 | .oteus => 5

/-- PWS_DOM.WAKE_SRC of a source (R236). -/
def OrderSrc.code : OrderSrc → Nat
  | .mgmt => 1 | .kernReg => 2 | .kernCmd => 3 | .user => 4 | .dbg => 5 | .wakePin => 6 | .oteus => 7

/-- PWS_REQ_RES shows an order's outcome while it names the order's domain. -/
def State.reqRes (s : State) (d code : Nat) (late : Bool) : State :=
  if s.get PWS_REQ_RES.DOMAIN = d then (s.put PWS_REQ_RES.STATUS code).put PWS_REQ_RES.ABORT_LATE late.toNat else s

/-- An order ends: PWS_REQ_RES or its command, events, the counter of failures (R237, R238), and the ABORT commands that waited for its
end: too late where it was not aborted (R330). -/
def State.endOrder (s : State) (d : Nat) (o : DomOrder) (code : Nat) (late : Bool) (result : Nat) : State :=
  let s := if code = stDone then s.evt pgPWS 0 else if code = stFailed then (s.bump PWS_CNT_FAIL.COUNT).evt pgPWS 1 else s
  let s := if o.byReg then s.reqRes d code late else s
  o.aborters.foldl (fun s t => s.finish t stDone (if code = stAborted then 0 else 1) 0)
    (s.finishOpt o.tag code 0 (BitVec.ofNat 32 result) late)

/-- Bound of a wake, half nanoseconds (R225, R226, R362); none while R26 holds the clocks. -/
def State.wakeBound (s : State) (d t : Nat) : Option Nat :=
  let m := s.dom d
  let way := s.inWayOn && s.onPll
  let tab : Nat × Nat × Nat × Nat := if way then (ns 100, ns 3000, ns 7000, ns 40000) else (ns 250, ns 5000, ns 9000, ns 50000)
  let base := if m.from_ = 4 then tab.2.2.2 else if m.from_ = 3 then tab.2.2.1 else if m.from_ = 2 then tab.2.1 else tab.1
  let release := (if m.from_ = 4 then ns 1000 else ns 60) + (if way then 15 else ns 120)
  if way ∨ s.get GLB_SERVICE.STATE ≤ 1 then some (base + m.ext - (if t = 1 then release else 0)) else none

/-- The record of a wake (R236). -/
def State.recordWake (s : State) (d : Nat) (o : DomOrder) (failed : Bool) : State × Nat :=
  let m := s.dom d
  let us := min 1023 (ceilDiv (s.mono - o.acceptedAt) (ns 1000))
  let s := (s.put (PWS_DOM.WAKE_US d) us).put (PWS_DOM.WAKE_SRC d) o.src.code
  let s := (s.put (PWS_DOM.DEFERRED d) m.deferred.toNat).put (PWS_DOM.WARMED d) m.warmed.toNat
  let s := s.put (PWS_DOM.FAILED d) failed.toNat
  if failed then (s.logEvent 0x0110 [d, us], us)
  else
    let s := s.bump PWS_CNT_WAKE.COUNT
    match s.wakeBound d o.target with
    | none => (s, us)
    | some w =>
      if w < s.mono - (m.deferEnd.getD o.acceptedAt) then ((s.logEvent 0x0110 [d, us]).evt pgPWS 5, us) else (s, us)

/-- A yard that fell below its minimum is fenced once its domain is in D4 (R214 steps 4, 5). -/
def State.fenceYard (s : State) (y : Nat) : State :=
  let run := (s.yard y).fenceRun
  let s := s.setYard y { s.yard y with belowMin := .none }
  if s.on (YRD_STATUS.YARD_FENCED y) then s
  else
    let s := (s.put (YRD_STATUS.YARD_FENCED y) 1).put (FAR_YSTAT.FENCED y) 1
    let s := ((s.logEvent 0x010F [y, run]).evt pgFAR 7).disown y
    s.notice 2 y 0 run

/-- The rails that start and stop with a rail: a tracking PKG_B with PKG_A (R297). -/
def State.railGroup (s : State) (r : Nat) : List Nat := if s.tracking ∧ r = 0 then [0, 1] else [r]

/-- A rail enters a state; V_ref goes on from where it stands. -/
def State.railState (s : State) (r st : Nat) : State :=
  let v := s.vrefNow r
  (s.setRail r { s.rail r with vref := v, vAt := s.mono }).put (STG_RAIL.STATE r) st

/-- A rail whose OFF was held back starts its off delay once every domain on it, or on the rail that tracks it, is in D4
(R296, R297); a rail that is not up is then off. -/
def State.railOffOne (s : State) (r : Nat) : State :=
  let g := s.railGroup r
  if s.on (STG_RAIL.OFF_PENDING r)
      ∧ (List.range Config.yardCount).all (fun d => !g.contains (Config.yardRail d) || (s.domState d == 4 && s.domStable d)) then
    g.foldl (fun s r =>
      let st := s.get (STG_RAIL.STATE r)
      let s := s.put (STG_RAIL.OFF_PENDING r) 0
      if st = 2 ∨ st = 3 then s.railState r 4
      else if st = 1 ∨ st = 6 then s.railState r 0 else s) s
  else s

def State.railOffCheck (s : State) : State := (s.railOffOne 0).railOffOne 1

/-- The last effects of a power-down (R227 step 7): the bias, and in D4 the bays off and the jobs stopped. -/
def State.enterLow (s : State) (d t : Nat) : State :=
  if t = 4 then
    let s := (s.put (PWS_DOM.BIAS d) 7).orderYardBays d 0
    (s.modDom d fun m => { m with volt := .off, reg := false }).stopYard d
  else if 2 ≤ t then s.put (PWS_DOM.BIAS d) (s.get PWS_BIAS_MAP.RET)
  else s

/-- A bias or assist setting has been written: the codes of a domain follow it (R228, R229). -/
def State.biasWritten (s : State) (d : Nat) : State :=
  if s.atRest d ∧ (s.dom d).volt = .ret then s.put (PWS_DOM.BIAS d) (s.get PWS_BIAS_MAP.RET) else s.refreshBias d

/-- The neighbours held for a yard's deferred wake are released (R123). -/
def State.releaseNeighbours (s : State) (y : Nat) : State :=
  (neighbours y).foldl (fun s z => s.setYard z { s.yard z with nbrHold := (s.yard z).nbrHold.filter (· != y) }) s

/-- The domain is in the state ordered: STATE, the wake record, the end of the order, and what waited for the state. -/
def State.reachState (s : State) (d t : Nat) : State :=
  let s := ((s.enterLow d t).put (PWS_DOM.STATE d) t).atStep d .stable
  let s := s.releaseNeighbours d
  let m := s.dom d
  let (s, us) := match m.wake, m.order with | true, some o => s.recordWake d o false | _, _ => (s, 0)
  let s := s.modDom d fun m => { m with order := none, wake := false, forced := false, halt := false, from_ := t }
  let s := match m.order with | some o => s.endOrder d o stDone m.halt us | none => s
  let s := if t = 4 then (s.disown d).railOffCheck else s
  let s := if t = 4 ∧ (s.yard d).belowMin = .poweringDown then s.fenceYard d else s
  s.applyHeld d

/-- An aborted transition stops: its completed steps stand (R330). -/
def State.haltDom (s : State) (d : Nat) : State :=
  let o := (s.dom d).order
  let s := (s.modDom d fun m => { m with order := none, wake := false, halt := false }).atStep d .stable
  let s := (s.put (PWS_DOM.TARGET d) (s.domState d)).releaseNeighbours d
  let s := match o with | some o => s.endOrder d o stAborted false 0 | none => s
  s.railOffCheck

/-- The sequencer goes on towards PWS_DOM.TARGET, through every step whose condition already holds; the fuel is the number
of steps there are. -/
def State.advance : Nat → Nat → State → State
  | 0, _, s => s
  | n + 1, d, s =>
    match s.nextStep d (s.get (PWS_DOM.TARGET d)) with
    | none => s.reachState d (s.get (PWS_DOM.TARGET d))
    | some st =>
      if (s.dom d).halt then s.haltDom d
      else
        let s := s.beginStep d st
        if s.passes d then State.advance n d s else s

def State.goOn (s : State) (d : Nat) : State := State.advance 24 d s

/-- OT_DOM_WAKE of a stable domain in D1-D3 that R233 lets act. -/
def State.pinWakes (s : State) (d : Nat) : Bool :=
  (s.dom d).wakePin && s.on (Fld.bit PWS_WAKE_EN.DOMAIN d) && s.domStable d && 1 ≤ s.domState d && s.domState d ≤ 3

/-- The order is a wake: to D0 or D1, from a lower state (R224, R231). -/
def State.isWake (s : State) (d t : Nat) : Bool := t ≤ 1 && t < s.domState d

/-- Why an order is refused, if it is: authority (R230), range (R221, R237, R361), then what keeps the domain busy (R184,
R214, R231, R276, R294, R380). -/
def State.orderRefusal (s : State) (d t : Nat) (src : OrderSrc) : Option Nat :=
  let allowed := match src with
    | .user => t ≤ 1 && s.on (Fld.bit PWS_USER_MASK.DOMAIN d)
    | .dbg => t != 2 && t != 3 && !s.active
    | .wakePin => t == 0
    | _ => true
  if Config.yardCount ≤ d ∨ 4 < t then some stRefusedRange
  else if !allowed then some stRefusedAuth
  else if t = 3 ∧ Config.kind d ≠ .array ∨ (t = 2 ∨ t = 3) ∧ s.domState d = 4 then some stRefusedRange
  else if s.isWake d t ∧ s.domState d = 4 ∧ !Config.isLogic d
      ∧ (s.get (YRD_VID.TARGET d) < 40 ∨ 520 < s.get (YRD_VID.TARGET d)) then some stRefusedRange
  else if s.isWake d t ∧ (s.on (YRD_STATUS.YARD_FENCED d) ∨ s.on (Fld.bit SXT_MAINT_NOW.YARD d)) then some stRefusedBusy
  else if t ≠ 4 ∧ s.on THM_STATUS.TRIP then some stRefusedBusy
  else if s.isWake d t ∧ s.domState d = 4 ∧ !tb (s.get STG_STATUS.PG) (Config.yardRail d) then some stRefusedBusy
  else if s.holding ∧ src ≠ .mgmt ∧ src ≠ .oteus then some stRefusedBusy
  else
    match (s.dom d).order with
    | some o => if src.rank < o.src.rank then some stRefusedBusy else none
    | none => none

/-- An order is placed (R231): refused, or in force in place of the one before it. Answers its status now. -/
def State.placeOrder (s : State) (d t : Nat) (src : OrderSrc) (byReg : Bool) (tag : Option CmdTag) : State × Nat :=
  match s.orderRefusal d t src with
  | some code => ((s.bump PWS_CNT_REFUSED.COUNT).evt pgPWS 2, code)
  | none =>
    let m := s.dom d
    let s := match m.order with | some o => s.endOrder d o stAborted false 0 | none => s
    let o : DomOrder := ⟨t, src, s.mono, decide (src = .oteus), byReg, tag, []⟩
    let fresh (m : Dom) : Dom := if m.step = .stable then
        { m with from_ := s.domState d, deferred := false, warmed := false, busyAt := none, deferEnd := none, ext := 0 }
      else m
    let s := s.modDom d fun m =>
      { fresh m with order := some o, wake := s.isWake d t, forced := decide (src = .oteus) && t == 4, halt := false }
    let s := s.put (PWS_DOM.TARGET d) t
    let s := if 1 ≤ t ∧ s.domState d < t then s.endHeat d else s
    if m.step = .stable then
      let s := s.goOn d
      (s, if (s.dom d).order.isNone then stDone else stAccepted)
    else (s, stAccepted)

/-- The wake input orders D0 where R233 lets it. -/
def State.pinCheck (s : State) (d : Nat) : State :=
  if s.pinWakes d then
    let (s', code) := s.placeOrder d 0 .wakePin false none
    if code = stAccepted ∨ code = stDone then (s'.bump PWS_CNT_WAKEPIN.COUNT).evt pgPWS 3 else s
  else s

/-- The sequencer goes on, and a domain it has left stable looks at its wake input (R233). -/
def State.resume (s : State) (d : Nat) : State := (s.goOn d).pinCheck d

/-- PWS_REQ_RES of an order placed through PWS_REQ (R237). -/
def State.orderByReg (s : State) (d t : Nat) (src : OrderSrc) : State :=
  let s := s.put PWS_REQ_RES.DOMAIN d
  let (s, code) := s.placeOrder d t src true none
  (s.reqRes d code false).pinCheck d

/-! ### Waking from D4 (R123, R223 steps 1, 2) -/

/-- Each busy neighbour is held until the wake's ramp ends (R123). -/
def State.holdNeighbours (s : State) (d : Nat) : State :=
  (s.busyNeighbours d).foldl (fun s z =>
    if d ∈ (s.yard z).nbrHold then s else s.setYard z { s.yard z with nbrHold := (s.yard z).nbrHold ++ [d] }) s

/-- A busy check that defers the wake (R123): the busy neighbours are held; the first one marks the wake and tells the DRE. -/
def State.deferWake (s0 : State) (d : Nat) : State :=
  let s := s0.holdNeighbours d
  if (s.dom d).busyAt.isSome then s
  else
    let s := s.modDom d fun m => { m with busyAt := some s.mono, deferred := true }
    let s := s.bump PWS_CNT_DEFER.COUNT
    let s := s.put (YRD_SHED_EVT.EVT d) (setBit (s.get (YRD_SHED_EVT.EVT d)) 3)
    if s.dreOn then s.internalNotice d (1000 * s.get (YRD_WAKE.DEFER_MAX d)) else s

/-- Step 1 of a wake from D4: the bays to READY, bias and assist for the target. A logic yard takes the code of point 3 in dead-slow
service, and where it has no legal code that of its own point (R241, R361). -/
def State.wakeReady (s : State) (d : Nat) : State :=
  let v := s.get (YRD_VID.TARGET d)
  let slow := decide (s.get GLB_SERVICE.STATE ≤ 1)
  let s := if Config.isLogic d ∧ (slow ∨ v < 40 ∨ 520 < v) then
      s.put (YRD_VID.TARGET d) (s.opp.get (CAP_OPP.VID (if slow then 3 else (s.yard d).point)))
    else s
  let s := s.modDom d fun m => { m with deferEnd := m.busyAt.map fun _ => s.mono }
  ((s.setBias d).orderYardBays d 1).atStep d .bias

/-- The sequencer still goes up: at the end of each of the first steps a replaced or aborted order turns it (R231, R330). -/
def State.goesUp (s : State) (d : Nat) : Bool :=
  let m := s.dom d
  !m.halt && (decide (s.get (PWS_DOM.TARGET d) ≤ 1) || s.get (PWS_DOM.TARGET d) == 2 && !m.rstN)

/-- The busy check at a superframe boundary (R123, R223 step 1). -/
def State.wakeCheck (s : State) (d : Nat) : State :=
  let m := s.dom d
  let dm := ns (1000 * s.get (YRD_WAKE.DEFER_MAX d))
  let open_ : Bool := match m.busyAt with | some t => decide (s.mono < t + dm) | none => true
  if m.step ≠ .waitSuper then s
  else if !s.goesUp d then s.resume d
  else if dm ≠ 0 ∧ s.wakeBusy d ∧ open_ then s.deferWake d
  else s.wakeReady d

/-- A deferral ends DEFER_MAX after its first busy check (R123). -/
def State.deferCheck (s : State) (d : Nat) : State :=
  let m := s.dom d
  match m.busyAt with
  | some t => if m.step = .waitSuper ∧ s.goesUp d ∧ t + ns (1000 * s.get (YRD_WAKE.DEFER_MAX d)) ≤ s.mono then s.wakeReady d else s
  | none => s

/-- What each CLK_B cycle can bring a domain: the end of a deferral, a wake input that is high (R123, R233), and the codes that follow
VIDnow as it slews (R228, R229). -/
def State.domCycle (s : State) (d : Nat) : State := ((s.deferCheck d).pinCheck d).refreshBias d

/-- Bays released into a running yard and sent READY are sent RUN 2 µs later (R431). -/
def State.runReleased (s : State) (y : Nat) : State :=
  ((reach y).filter fun b => (s.bay b).released).foldl
    (fun s b => (s.sendBay b (bayStateWord · 2)).modBay b fun v => { v with released := false }) s

/-- The grid voltage that the yard's anchor sense points read, as a code: the mean of the points (DESIGN CHOICE, assumption log 38). -/
def State.gridCode (s : State) (y : Nat) : Int :=
  (((List.range Config.sensePoints).map fun p => s.getI (SXT_VAL.VALUE (y / 4) (y % 4 * 4 + p))).sum / (Config.sensePoints : Int) - 1280) / 4

/-- A bay begins its soft-start from the grid voltage (R223). -/
def State.softStart (s : State) (y b : Nat) : State :=
  (s.put (BAY_REF.VID_NOW b) (min 520 (s.gridCode y).toNat)).modBay b fun v =>
    { v with softStart := true, slewAt := s.mono, lead := (-(s.gridCode y)).toNat }

/-- WAKE_DRIVER_BIAS: 2 µs after READY, RUN to the bays and the soft-start (R223 step 2, R431), to a set-point with the floor that
waited for the wake (R210). -/
def wakeDriverBiasEff (d : Nat) (s : State) : State :=
  let s := s.runReleased d
  if (s.dom d).step ≠ .bias then s
  else if !s.goesUp d then s.resume d
  else
    let s := (s.modDom d fun m => { m with volt := .full }).orderYardBays d 2
    let s := (s.orderBays d).foldl (fun s b => s.softStart d b) s
    let s := s.setYard d { s.yard d with hSoft := true, retained := false }
    let s := s.wakeFloor d
    (s.sendYard d (setpointWord d (s.videff d) (s.wakeSlew d))).atStep d .ramp

/-- WAKE_BIAS_SETTLE: the D0 set-point of a wake from D2 or D3 goes out (R223 step 3), with the floor that waited for the wake (R210). -/
def wakeBiasSettleEff (d : Nat) (s : State) : State :=
  if (s.dom d).step ≠ .biasSettle then s
  else if !s.goesUp d then s.resume d
  else
    let s := (s.modDom d fun m => { m with volt := .full }).setYard d { s.yard d with retained := false }
    ((s.wakeFloor d).atStep d .ramp).deliver d

/-! ### The end of a slew -/

/-- A bay that has slewed to its target rests there (R73), and a soft-start has ended (R223). -/
def State.slewBay (s : State) (b : Nat) : State :=
  let v := s.bay b
  if v.followsSet ∧ !v.holding ∧ !v.allHands ∧ s.bayCode b = v.target then ((s.markVid b).modBay b fun v => { v with softStart := false }).checkClamp b
  else s

/-- A wake's ramp has ended: neighbours are released, a deferred wake returns to YRD_SLEW (R123), remounts assigned to the
yard connect (R76). -/
def State.rampEnded (s : State) (d : Nat) : State :=
  let s := s.releaseNeighbours d
  let n := 320 + s.videff d
  let slow := if (s.dom d).deferred ∧ (s.dom d).from_ = 4 then slewTime n (s.wakeSlew d) - slewTime n (s.get (YRD_SLEW.SLEW d)) else 0
  let join := (reach d).filter fun b => (s.bay b).assigned == some d
  let s := join.foldl (fun s b => s.sendBay b fun slot => remountWord slot (remountYard b true == some d) true) s
  let s := s.modDom d fun m => { m with rampEnd := s.mono, ext := m.ext + slow + (if join = [] then 0 else ns 10000) }
  let s := if slow = 0 then s else s.orderSet d (s.videff d) (s.get (YRD_SLEW.SLEW d))
  if s.goesUp d then s.atStep d .regulator else s.resume d

/-- SLEW_END: the bays of the yard that have reached the set-point they follow rest there. -/
def slewEndEff (y : Nat) (s : State) : State :=
  let s := ((reach y).filter fun b => (s.bay b).yard == y).foldl State.slewBay s
  let s := (s.refreshBias y).setYard y { (s.refreshBias y).yard y with blankFrom := s.mono }
  match (s.dom y).step with
  | .ramp => if s.rampDone y (s.videff y) then s.rampEnded y else s
  | .dnRamp =>
    if s.rampDone y (if (s.dom y).volt = .low then 40 else s.videff y) then s.resume y else s
  | _ => s

/-- A remount still has to join the yard (R76). -/
def State.joining (s : State) (y : Nat) : Bool :=
  (reach y).any fun b =>
    let v := s.bay b
    v.assigned == some y || v.connTo == y && (v.connStep != 0 || decide (v.st = .connect))

/-- Regulator ready at a sampling instant (R223 step 4): settled, the error within tolerance. -/
def State.regulatorCheck (s : State) (y : Nat) : State :=
  let m := s.dom y
  if m.step = .regulator ∧ m.rampEnd + ns (10 * s.get (YRD_VF.SETTLE y)) ≤ s.mono ∧ !s.joining y
      ∧ (s.getI (YRD_OUT.ERR y)).natAbs ≤ s.get (YRD_VF.TOL y) then
    let s := s.modDom y fun m => { m with reg := true }
    (s.setYard y { s.yard y with hSoft := false }).resume y
  else s

/-- The warming hold of a wake ends (R281): HEAT ends, then OT_DOM_MEM_EN rises; its time is outside the bound (R225). -/
def State.warmingDone (s : State) (d : Nat) : State :=
  if (s.dom d).step ≠ .warming then s
  else
    let s := s.endWarming d
    let s := s.modDom d fun m => { m with ext := m.ext + (s.mono - m.warmFrom) }
    let s := (s.atStep d .memory).modDom d fun m => { m with memEn := true }
    if s.stepDone d then s.resume d else s

/-! ### Signals -/

/-- A signal of the host die as Oteus sees it. -/
def Dom.signal (m : Dom) (sig : DomSignal) (level : Bool) : Dom :=
  match sig with
  | .oscRdy => { m with oscRdy := level }
  | .memRdy => { m with memRdy := level }
  | .logicRdy => { m with logicRdy := level }
  | .isoAck => { m with isoAck := level }

/-- DOMAIN_READY_INPUT: a step whose signal has come ends (R223, R227). -/
def domainReadyEff (d : Nat) (sig : DomSignal) (level : Bool) (s : State) : State :=
  if Config.yardCount ≤ d then s
  else
    let s := s.modDom d fun m => m.signal sig level
    if s.stepDone d then s.resume d else s

/-- DOMAIN_WAKE_PIN (R233). -/
def domainWakePinEff (d : Nat) (level : Bool) (s : State) : State :=
  if Config.yardCount ≤ d then s else (s.modDom d fun m => { m with wakePin := level }).pinCheck d

/-- Code of a signal in PWS_RDY_LOST (UNVERIFIED, assumption log 22). -/
def sigCode : DomSignal → Nat
  | .isoAck => 0 | .oscRdy => 1 | .memRdy => 2 | .logicRdy => 3

/-- PWS_RDY_LOST: in D0 or D1 a ready signal is low, or in D0 the isolation acknowledgement high (R232). -/
def rdyLostEff (d : Nat) (sig : DomSignal) (s : State) : State :=
  let m := s.dom d
  let bad := match sig with
    | .isoAck => m.isoAck && s.domState d == 0
    | .oscRdy => !m.oscRdy
    | .memRdy => !m.memRdy
    | .logicRdy => !m.logicRdy
  if Config.yardCount ≤ d ∨ 1 < s.domState d ∨ !s.atRest d ∨ !bad then s
  else ((s.raise 0x28 [d, sigCode sig]).bump PWS_CNT_RDYLOST.COUNT).evt pgPWS 4

/-! ### Budgets (R224) -/

/-- The order in force ends FAILED and the domain goes back to the state it started from. -/
def State.failOrder (s : State) (d : Nat) : State :=
  let m := s.dom d
  let (s, us) := match m.wake, m.order with | true, some o => s.recordWake d o true | _, _ => (s, 0)
  let s := s.modDom d fun m => { m with order := none, wake := false, forced := true, halt := false }
  let s := s.put (PWS_DOM.TARGET d) m.from_
  let s := s.releaseNeighbours d
  let s := if (s.yard d).warmUse = 2 then s.endWarming d else s
  let s := match m.order with | some o => s.endOrder d o stFailed false us | none => s
  s.resume d

/-- A forced sequence goes to its next step; after regulator ready's budget the regulator counts as ready. -/
def State.forceOn (s : State) (d : Nat) : State :=
  let s := if (s.dom d).step = .regulator then
      (s.modDom d fun m => { m with reg := true }).setYard d { s.yard d with hSoft := false } else s
  s.resume d

/-- A step of a wake that waits for a signal or for regulator ready. -/
def DomStep.waitsUp : DomStep → Bool
  | .regulator | .oscillator | .memory | .logic | .isolation => true
  | _ => false

/-- A step of a power-down that waits for a ready signal. -/
def DomStep.waitsSave : DomStep → Bool
  | .retain | .dnSave | .dnReset | .dnOsc | .dnMem => true
  | _ => false

/-- A budget of a step has run out: the fault, and a forced sequence goes on where another fails. -/
def State.budgetOut (s : State) (d code : Nat) : State :=
  let s := s.raise code [d, (s.dom d).step.code]
  if (s.dom d).forced then s.forceOn d else s.failOrder d

/-- PWS_WAKE_TIMEOUT: also the way back up after a failed power-down, under its own names. -/
def wakeTimeoutEff (d : Nat) (s : State) : State :=
  if Config.yardCount ≤ d ∨ !(s.dom d).step.waitsUp then s else s.budgetOut d 0x25

/-- PWS_ISO_TIMEOUT. A wake that asks for isolation first (to D1) fails as a wake. -/
def isoTimeoutEff (d : Nat) (s : State) : State :=
  if Config.yardCount ≤ d ∨ (s.dom d).step ≠ .dnIso then s else s.budgetOut d 0x26

/-- PWS_SAVE_TIMEOUT. -/
def saveTimeoutEff (d : Nat) (s : State) : State :=
  if Config.yardCount ≤ d ∨ !(s.dom d).step.waitsSave then s else s.budgetOut d 0x27

/-- An abort of the command whose order a domain holds (R330): the order is to stop at its next step, and its end ends the ABORT
command. The answer: the domain holds the command's order. -/
def State.abortDom (s : State) (d : Nat) (tag by_ : CmdTag) : State × Bool :=
  match (s.dom d).order with
  | some o =>
    if o.tag = some tag then
      (s.modDom d fun m => { m with halt := true, order := some { o with aborters := o.aborters ++ [by_] } }, true)
    else (s, false)
  | none => (s, false)

/-! ### The commands -/

/-- WAKE_DRIVER_BIAS. -/
def execWakeDriverBias (dom : Nat) (s : State) : Out :=
  s.after (wakeDriverBiasEff dom s)

/-- WAKE_BIAS_SETTLE. -/
def execWakeBiasSettle (dom : Nat) (s : State) : Out :=
  s.after (wakeBiasSettleEff dom s)

/-- SLEW_END. -/
def execSlewEnd (yard : Nat) (s : State) : Out :=
  s.after (slewEndEff yard s)

/-- DOMAIN_READY_INPUT. -/
def execDomainReadyInput (dom : Nat) (sig : DomSignal) (level : Bool) (s : State) : Out :=
  s.after (domainReadyEff dom sig level s)

/-- DOMAIN_WAKE_PIN. -/
def execDomainWakePin (dom : Nat) (level : Bool) (s : State) : Out :=
  s.after (domainWakePinEff dom level s)

/-- PWS_WAKE_TIMEOUT. -/
def execPwsWakeTimeout (dom : Nat) (s : State) : Out :=
  s.after (wakeTimeoutEff dom s)

/-- PWS_ISO_TIMEOUT. -/
def execPwsIsoTimeout (dom : Nat) (s : State) : Out :=
  s.after (isoTimeoutEff dom s)

/-- PWS_SAVE_TIMEOUT. -/
def execPwsSaveTimeout (dom : Nat) (s : State) : Out :=
  s.after (saveTimeoutEff dom s)

/-- PWS_RDY_LOST. -/
def execPwsRdyLost (dom : Nat) (sig : DomSignal) (s : State) : Out :=
  s.after (rdyLostEff dom sig s)

end Sys2Proof.Machine
end

