-- ==== Sys2Proof/Machine/BayEvents.lean ====
section
/-!
DEFINITION. What Oteus receives from the bays and does about it: superframe boundaries (R66, R123, R279, R431), current
reports (R70), EVENT and RD_RSP words (R71, R72), failures, fencing and remounts (R64, R77, R110, R213, R214), and the
pilot port's notices by kind (R126, R256).
-/

namespace Sys2Proof.Machine

/-! ### Remounts (R76, R77) -/

/-- Bays in RUN above the minimum (R77). -/
def State.margin (s : State) (y : Nat) : Int := ((s.runBays y).length : Int) - (Config.minBays y : Int)

/-- The other neighbour of a remount in reach of a yard. -/
def otherYard (y b : Nat) : Nat :=
  match Config.remountLow b with
  | some l => if l = y then l + 1 else l
  | none => y

/-- The free remounts in reach: OFF, with no yard, assigned to none, not one that the farrier record lists as fenced for failure, which
roll-call fences again (R212, R360). -/
def State.freeRemounts (s : State) (y : Nat) : List Nat :=
  (reach y).filter fun b => (Config.remountLow b).isSome && s.get (BAY_STATE.STATE b) == 1 && (s.bay b).yard == 127
    && (s.bay b).discStep == 0 && (s.bay b).assigned.isNone && !(s.bay b).silent && !(s.bay b).failFenced

/-- The remount R77 chooses: the larger margin of its other neighbour, then the lower index. -/
def State.chooseRemount (s : State) (y : Nat) : Option Nat :=
  (s.freeRemounts y).foldl (fun best b =>
    match best with
    | none => some b
    | some c =>
      let mb := s.margin (otherYard y b)
      let mc := s.margin (otherYard y c)
      if mc < mb ∨ (mb = mc ∧ b < c) then some b else some c) none

/-- A remount is assigned to a yard: connected now where the yard's state lets it, at the next wake otherwise (R76). -/
def State.assignRemount (s : State) (y b : Nat) (tag : Option CmdTag) : State :=
  let s := s.modBay b fun v => { v with assigned := some y, cmdTags := tag.toList }
  if s.joinable y then s.sendBay b fun slot => remountWord slot (remountYard b true == some y) true else s

/-- A free remount replaces a bay that failed (R77, R213). -/
def State.autoRemount (s : State) (y : Nat) : State :=
  match s.chooseRemount y with | some b => s.assignRemount y b none | none => s

/-- A yard that lost a bay claims a remount, where it may; the claims of a superframe are settled together (R77). -/
def State.claimRemount (s : State) (y : Nat) : State :=
  if s.on (YRD_CTRL.AUTO_REMOUNT y) then { s with claims := s.claims ++ [y] } else s

/-- The claims of the superframe that ended: the yard with the smaller margin takes its choice first, then the lower yard index
(R77). -/
def State.settleClaims (s : State) : State :=
  (sortBy (fun y z => decide (s.margin y < s.margin z) || (s.margin y == s.margin z && decide (y ≤ z))) s.claims).foldl
    State.autoRemount { s with claims := [] }

/-! ### Failures (R64, R110, R214) -/

/-- The wait of R214 ends: Oteus orders the domain to D4, and the yard is fenced there. -/
def State.endBelowWait (s : State) (y : Nat) : State :=
  if (s.yard y).belowMin ≠ .waiting then s
  else
    let s := s.setYard y { s.yard y with belowMin := .poweringDown, fenceRun := (s.runBays y).length }
    (s.placeOrder y 4 .oteus false none).1

/-- A bay with a failed phase is fenced and replaced; a failure during the wait of R214 ends it (R64, R77, R214, R279). -/
def State.fenceFailed (s : State) (b : Nat) : State :=
  if (s.bay b).failFenced then s
  else
    let y := s.get (BAY_STATE.YARD b)
    let s := { s with farDirty := true }.modBay b fun v => { v with failFenced := true }
    if Config.yardCount ≤ y then s.sendBay b (bayStateWord · 4)
    else
      let s := if (s.runBays y).length ≤ Config.minBays y then s.endHeat y else s
      let s := (s.bump (YRD_CNT_BAYFAIL.COUNT y)).sendBay b (bayStateWord · 4)
      (s.endBelowWait y).claimRemount y

/-- The reading of a phase in the superframe in which its bay declared a failure; of a bay that has declared none the last one (R110). -/
def State.failReading (s : State) (b : Nat) (ph : Bool) : Int :=
  match (s.bay b).failRead with | some (i0, i1) => if ph then i1 else i0 | none => s.phI (b, ph)

/-- A phase is reported FAILED: recorded, the other phase frozen at its reading in the superframe of the failure, the bay fenced
(R64, R110). -/
def State.failPhase (s : State) (b : Nat) (ph : Bool) (kind : Nat) : State :=
  let s := (s.put (PhF b ph) 5).put (BAY_STATE.FAIL_KIND b) kind
  let o := (s.bay b).ph !ph
  let s := if s.phSt (b, !ph) = 5 then s
    else s.setBay b ((s.bay b).setPh (!ph) { o with frozen := some (s.failReading b !ph) })
  s.fenceFailed b

/-- Three reports in a row that fail parity: every phase not FAILED is recorded FAILED with kind IMPLAUSIBLE (R64). -/
def State.failParity (s : State) (b : Nat) : State :=
  let s := (s.put (PhF b false) 5).put (PhF b true) 5
  (s.put (BAY_STATE.FAIL_KIND b) 3).fenceFailed b

/-! ### Keep-alive (R72) -/

/-- A word that passes its CRC has come from a bay of a segment: it is not silent, and set-points held back go out. -/
def State.heard (s : State) (seg : Nat) : State :=
  let s := { s with silent := Tab.set (fun _ => 0) s.silent seg 0 }
  if seg ∈ s.segDead then
    let s := { s with segDead := s.segDead.filter (· != seg) }
    ((List.range Config.yardCount).filter fun y => tb (s.get (YRD_SEGMENTS.SEG y)) seg).foldl State.deliver s
  else s

/-- FBB_SEGMENT: four keep-alive superframes without an answer. -/
def fbbSegmentEff (seg : Nat) (s : State) : State :=
  if Config.segments ≤ seg ∨ seg ∈ s.segDead ∨ Tab.get (fun _ => 0) s.silent seg < 4 then s
  else { s with segDead := s.segDead ++ [seg] }.raiseWith 0x11 [seg] { unit := 64 + seg } false

/-! ### EVENT words (R71) -/

/-- A TRIP report: the yard's bays in all hands are recorded so, captures may wait for it, and the yard acts on it (R61, R114, R118,
R183). -/
def State.reportTrip (s : State) (b : Nat) : State :=
  let y := s.get (BAY_STATE.YARD b)
  if Config.yardCount ≤ y then s.put (BAY_STATE.ALL_HANDS b) 1
  else
    let s := ((reach y).filter fun c => (s.bay c).yard == y && (s.bay c).allHands).foldl (fun s c => s.put (BAY_STATE.ALL_HANDS c) 1) s
    (s.tripSeen y).tripReport y

/-- A phase reported TRIPPED (R63). -/
def State.reportTripped (s : State) (b : Nat) (ph : Bool) : State :=
  if s.phSt (b, ph) = 5 then s else s.put (PhF b ph) 4

/-- What Oteus does about the states and events a bay reports: phases FAILED, phases TRIPPED, PROTECT, TRIP. -/
def State.actOnReport (s : State) (b st p1 p0 kind : Nat) (fail1 fail0 trip : Bool) : State :=
  let y := s.get (BAY_STATE.YARD b)
  let s := if p0 = 4 then s.reportTripped b false else s
  let s := if p1 = 4 then s.reportTripped b true else s
  let s := if st = 5 then (s.put (BAY_STATE.STATE b) 5).belowMinCheck y else s
  let s := if fail0 then s.failPhase b false kind else s
  let s := if fail1 then s.failPhase b true kind else s
  if trip then s.reportTrip b else s

/-- Oteus reads bay register 0 of a bay whose word failed its CRC (R71). -/
def State.recoverBay (s : State) (b : Nat) : State :=
  (s.sendBay b (cfgRdWord · 0)).modBay b fun v => { v with recover := true }

/-- The EVENT word a bay drives: the events since its last one, and its states (R71). -/
def State.eventWord (s : State) (b : Nat) : Word :=
  let v := s.bay b
  fbbWord 1 (v.unsent.toNat * 2 ^ 16 + v.st.code * 2 ^ 13 + v.p1.st.code * 2 ^ 10 + v.p0.st.code * 2 ^ 7 + v.failKind * 2 ^ 5)

/-- The RD_RSP word a bay drives for a register read (R71). -/
def State.rspWord (s : State) (b reg : Nat) : Word := fbbWord 2 (reg % 32 * 2 ^ 19 + s.bayReg b reg % 4096)

/-- A bay drives the upstream lanes: it is fitted, answers on the bus (R360) and does not hold course (R72). -/
def State.drives (s : State) (b : Nat) : Bool := Config.bayFitted b && !(s.bay b).silent && !(s.bay b).holding

/-- EVENT, in the slot of a bay that has an event to send and no response, which would go first: the events are recorded and acted
on, and are no longer unsent. A word whose CRC is wrong is made up for by a read; one that the bay does not drive does not arrive
(R71). -/
def eventEff (seg slot : Nat) (w : Word) (s : State) : State :=
  let b := 80 * seg + slot
  let v := s.bay b
  if 80 ≤ slot ∨ !s.drives b ∨ v.unsent = 0 ∨ v.answer.isSome then s
  else if !fbbOk w then (s.setBay b { v with unsent := 0 }).recoverBay b
  else if w ≠ s.eventWord b then s
  else
    let ev := v.unsent.toNat
    let s := (s.heard seg).modBay b fun v => { v with unsent := 0 }
    let s := s.put (BAY_EVT.EVT b) (Nat.lor (s.get (BAY_EVT.EVT b)) ev)
    s.actOnReport b v.st.code v.p1.st.code v.p0.st.code v.failKind (tb ev evPH1) (tb ev evPH0) (tb ev evTRIP)

/-- A read of bay register 0 made to recover a lost word: each difference acts as its EVENT word would have (R71). -/
def State.compareBay (s : State) (b d : Nat) : State :=
  let st := d % 8
  let p0 := d / 8 % 8
  let p1 := d / 64 % 8
  let f0 := p0 == 5 && s.phSt (b, false) != 5
  let f1 := p1 == 5 && s.phSt (b, true) != 5
  let trip := tb d 11 && !s.on (BAY_STATE.ALL_HANDS b)
  let prot := st == 5 && s.get (BAY_STATE.STATE b) != 5 || p0 == 4 && s.phSt (b, false) != 4 || p1 == 4 && s.phSt (b, true) != 4
  let bits := (if trip then 128 else 0) + (if f1 then 64 else 0) + (if f0 then 32 else 0) + (if prot then 16 else 0)
  let s := s.put (BAY_EVT.EVT b) (Nat.lor (s.get (BAY_EVT.EVT b)) bits)
  s.actOnReport b st p1 p0 (d / 512 % 4) f1 f0 trip

/-- RD_RSP: the answer to a CFG_RD, with the data of the register read; a word that the bay does not drive does not arrive (R71). -/
def rdRspEff (seg slot : Nat) (w : Word) (s : State) : State :=
  let b := 80 * seg + slot
  match (s.bay b).answer with
  | none => s
  | some reg =>
    if 80 ≤ slot ∨ !s.drives b then s
    else if !fbbOk w then (s.modBay b fun v => { v with answer := none }).recoverBay b
    else if w ≠ s.rspWord b reg then s
    else
      let rec_ := (s.bay b).recover && reg % 32 == 0
      let d := s.bayReg b reg % 4096
      let s := (s.heard seg).modBay b fun v => { v with answer := none, recover := v.recover && !rec_ }
      if rec_ then s.compareBay b d else s

/-- The phase became TRIPPED three times within 1 s: it stays so (R63). -/
def Phase.tripsOut (p : Phase) : Bool :=
  match p.trips with
  | t :: _ :: t' :: _ => decide (t ≤ t' + ns 1000000000)
  | _ => false

/-- AUTO_CLEAR_TRIP: unless the phase tripped for the third time within 1 s (R63). -/
def autoClearEff (b : Nat) (ph : Bool) (s : State) : State :=
  if !Config.bayFitted b ∨ s.phSt (b, ph) ≠ 4 ∨ ((s.bay b).ph ph).tripsOut then s
  else s.sendBay b fun slot => phaseWord slot ph (!ph) 3

/-! ### Current reports (R58, R64, R70, R109, R244, R151) -/

/-- Even parity over the 16 bits of a report (R70). -/
def parityOk (bits : BitVec 16) (par : Bool) : Bool := popcount 16 bits.toNat % 2 == par.toNat

/-- A bay reports zero: OFF and FENCED bays drive zero, and lanes that no bay drives read 0 (R70, R72). -/
def State.reportsZero (s : State) (b : Nat) : Bool := !s.drives b || (s.bay b).st == .off || (s.bay b).st == .fenced

/-- One bay's report. A zero report still passes or fails its parity as it arrives. -/
def State.takeReport (s : State) (b : Nat) (sfn : BitVec 8) (bits0 : BitVec 16) (par : Bool) : State :=
  let bits : BitVec 16 := if s.reportsZero b then 0 else bits0
  if !Config.bayFitted b then s
  else if parityOk bits par then
    let s := (s.put (BAY_IMON.PH0_I b) (bits.toNat % 256)).put (BAY_IMON.PH1_I b) (bits.toNat / 256)
    let i := (s.phI (b, false), s.phI (b, true))
    (s.put (BAY_IMON.SFN b) sfn.toNat).modBay b fun v => { v with parityRun := 0, failRead := if v.failOpen then some i else v.failRead }
  else
    let s := (s.bump (BAY_CNT_ERR.PARITY b)).modBay b fun v => { v with parityRun := v.parityRun + 1 }
    if (s.bay b).parityRun = 3 then s.failParity b else s

/-- The segment of a yard's first service bay, and of its last: its superframe's boundary, and its last report. -/
def firstSeg (y : Nat) : Nat := Config.firstBay y / 80
def lastSeg (y : Nat) : Nat := (Config.firstBay y + Config.serviceBays y - 1) / 80

/-- A yard's sum of one superframe (R109), with the peak and the averages of R244 and the forecast samples of R151. -/
def State.takeSum (s : State) (seg y : Nat) : State :=
  let i := s.iy y
  let v := s.yard y
  let s := s.setYard y { v with iy := i, iyPeak := max v.iyPeak i, iyPart := (v.iyPart.1 + i, v.iyPart.2 + 1), repI := v.repI + i, repN := v.repN + 1 }
  s.errorSamples seg y

/-- CURRENT_REPORT. -/
def currentReportEff (seg : Nat) (sfn : BitVec 8) (reports : List (Nat × BitVec 16 × Bool)) (s : State) : State :=
  if Config.segments ≤ seg then s
  else
    let s := reports.foldl (fun s r => if r.1 < 80 then s.takeReport (80 * seg + r.1) sfn r.2.1 r.2.2 else s) s
    ((List.range Config.yardCount).filter fun y => lastSeg y == seg).foldl (fun s y => s.takeSum seg y) s

/-! ### Superframe boundaries -/

/-- Bays released into a running yard are sent READY at the boundary (R431). -/
def State.readyReleased (s : State) (y : Nat) : State :=
  ((reach y).filter fun b => (s.bay b).releasing).foldl (fun s b =>
    (s.sendBay b (bayStateWord · 1)).modBay b fun v => { v with releasing := false, released := true }) s

/-- SUPERFRAME: the words of the segment (R66-R72), then what falls at a boundary for the yards that begin on it: wakes
(R123, R223), released bays (R431), warming (R279); the claims of R77 are settled and rail energy is metered once per superframe,
with segment 0 (R260). -/
def superframeAll (seg : Nat) (s : State) : State :=
  let s := superframeEff seg s
  let ys := (List.range Config.yardCount).filter fun y => firstSeg y == seg
  let s := ys.foldl (fun s y => (((s.wakeCheck y).readyReleased y).checkHeat y).dwellFrom y) s
  if seg = 0 then (s.settleClaims.meterRail 0).meterRail 1 else s

/-! ### The wait of R214 and the pilot port -/

/-- HOLD_REQ_TIMEOUT. -/
def holdReqTimeoutEff (y : Nat) (s : State) : State := s.endBelowWait y

/-- HOLD_ACK (R256). -/
def holdAckEff (n0 : Notice) (s : State) : State :=
  let n := { n0 with kind := 7 }
  let (s, ok) := (s.acceptNotice n).screen n
  if !ok then s
  else if n.yard ≠ 127 ∧ (s.yard n.yard.toNat).belowMin = .waiting then s.endBelowWait n.yard.toNat
  else s.bump CAP_CNT_HOLDACK.COUNT

/-- PILOT_NOTICE: a notice of any kind (R125-R130). -/
def pilotNoticeEff (n : Notice) (s : State) : State :=
  if n.kind = 5 then collBeginEff n s
  else if n.kind = 6 then collEndEff n s
  else if n.kind = 7 then holdAckEff n s
  else
    let (s, ok) := (s.acceptNotice n).screen n
    if ok then s.enterNotice n else s

/-! ### The commands -/

/-- CURRENT_REPORT. -/
def execCurrentReport (seg : Nat) (sfn : BitVec 8) (reports : List (Nat × BitVec 16 × Bool)) (s : State) : Out :=
  s.after (currentReportEff seg sfn reports s)

/-- EVENT. -/
def execEvent (seg : Nat) (slot : Nat) (word : Word) (s : State) : Out :=
  s.after (eventEff seg slot word s)

/-- RD_RSP. -/
def execRdRsp (seg : Nat) (slot : Nat) (word : Word) (s : State) : Out :=
  s.after (rdRspEff seg slot word s)

/-- FBB_SEGMENT. -/
def execFbbSegment (seg : Nat) (s : State) : Out :=
  s.after (fbbSegmentEff seg s)

/-- AUTO_CLEAR_TRIP. -/
def execAutoClearTrip (bay : Nat) (ph : Bool) (s : State) : Out :=
  s.after (autoClearEff bay ph s)

/-- HOLD_REQ_TIMEOUT. -/
def execHoldReqTimeout (yard : Nat) (s : State) : Out :=
  s.after (holdReqTimeoutEff yard s)

/-- HOLD_ACK. -/
def execHoldAck (n : Notice) (s : State) : Out :=
  s.after (holdAckEff n s)

/-- PILOT_NOTICE. -/
def execPilotNotice (n : Notice) (s : State) : Out :=
  s.after (pilotNoticeEff n s)

end Sys2Proof.Machine
end

