-- ==== Sys2Proof/Machine/Supervise.lean ====
section
/-!
DEFINITION. The sampling instant of a yard and what supervises its loop (R83, R118, R160, R184, R192-R202): the end of all
hands, the maintenance state, plausibility, the oscillation detector, the supervision job and path impedance.
-/

namespace Sys2Proof.Machine

/-! ### All hands (R118) -/

/-- The points whose voltages R118 looks at: feedback points, or those not marked suspect where there is none. -/
def State.tripPoints (s : State) (y : Nat) : List Nat :=
  if s.fbPoints y ≠ [] then s.fbPoints y
  else (List.range Config.sensePoints).filter fun p => !tb (s.get (YRD_FB.SUSPECT y)) p

/-- YRD_STATUS.ALL_HANDS clears 200 ns after the last TRIP report once every point reads above its clear level (R118); the words
withheld since the report go out (R61), but for presets whose horizon has passed (R22). -/
def State.endAllHands (s : State) (y : Nat) : State :=
  let v := s.yard y
  let level : Int := 1280 + 4 * (s.vidNow y : Int) - 4 * (s.get (YRD_DROOP.TH y) : Int) + 16
  if s.on (YRD_STATUS.ALL_HANDS y) ∧ v.tripAt + ns 200 ≤ s.mono
      ∧ (s.tripPoints y).all (fun p => decide (level < (v.pts.getD p {}).v)) then
    ((((s.put (YRD_STATUS.ALL_HANDS y) 0).setYard y { v with blankFrom := s.mono }).dropPassed y).releaseSet y).releaseTrim y
  else s

/-! ### The maintenance state (R184) -/

/-- The MAINT commands that wait for a yard end (R328). -/
def State.endMaintCmds (s : State) (y code : Nat) : State :=
  (s.setYard y { s.yard y with maintTags := [] }).finishAll (s.yard y).maintTags code

/-- SXT_MAINT_NOW shows a change, an event of the page (R191), and with it MAINT commands end (R328). -/
def State.showMaint (s : State) (y : Nat) (b : Bool) : State :=
  ((s.put (Fld.bit SXT_MAINT_NOW.YARD y) b.toNat).evt pgSXT 1).endMaintCmds y stDone

/-- A yard enters the maintenance state: its mode is saved and HAND asked for, its presets withdrawn, its phases held. -/
def State.enterMaint (s : State) (y : Nat) : State :=
  if (s.yard y).maintHold then s
  else
    let m := s.on (YRD_LOOP.MODE y)
    let s := (s.setYard y { s.yard y with savedMode := m }).put (YRD_LOOP.MODE y) 1
    let s := s.withdrawPresets y
    s.setYard y { s.yard y with maintHold := true }

/-- A yard leaves the maintenance state: the saved mode returns, the floor is released, preconditioning of the yard ends
(R184, R280). -/
def State.leaveMaint (s : State) (y : Nat) : State :=
  if !(s.yard y).maintHold then s
  else
    let s := s.put (YRD_LOOP.MODE y) (s.yard y).savedMode.toNat
    let s0 := s
    let s := (s.setYard y { s.yard y with maintHold := false }).showMaint y false
    let s := if s.precond = some y then s.endPrecond else s
    s.freeFloor s0 y

/-- A wake is in force on a yard. -/
def State.waking (s : State) (y : Nat) : Bool := (s.dom y).wake

/-- The state is entered or left at a sampling instant (R184). -/
def State.maintInstant (s : State) (y : Nat) : State :=
  if s.on (Fld.bit SXT_MAINT.YARD y) then (if s.waking y then s else s.enterMaint y) else s.leaveMaint y

/-- SXT_MAINT_NOW shows the bit once MODE_NOW reads 1. -/
def State.maintShow (s : State) (y : Nat) : State :=
  if (s.yard y).maintHold ∧ s.on (YRD_LOOP_NOW.MODE_NOW y) ∧ !s.on (Fld.bit SXT_MAINT_NOW.YARD y) then s.showMaint y true else s

/-- A write that changes SXT_MAINT acts at once on a yard in D3 or D4 with no order in force; a D4 yard has no sampling instant at
which it could leave the state. MAINT commands that wait for the opposite change end FAILED. -/
def State.maintWritten (s : State) (y : Nat) : State :=
  let s := s.endMaintCmds y stFailed
  if s.on (Fld.bit SXT_MAINT.YARD y) then
    if 3 ≤ s.domState y ∧ s.domStable y then (s.enterMaint y).showMaint y true else s
  else if s.domState y = 4 then s.leaveMaint y else s

/-! ### Plausibility (R194-R197) -/

/-- A yard's samples would be evaluated (R194), the point and the detector's enable apart. -/
def State.plausYard (s : State) (y : Nat) : Bool :=
  s.inWayOn && !s.on (YRD_STATUS.ALL_HANDS y) && s.vidNow y == s.videff y
    && decide ((s.yard y).blankFrom + ns (100 * s.get FAR_PL.BLANK) ≤ s.mono) && !s.setFrozen y && s.domState y ≤ 2

/-- A point's sample would be evaluated (R194). -/
def State.plausPoint (s : State) (y p : Nat) : Bool :=
  s.plausYard y && !tb (s.get (YRD_FB.SUSPECT y)) p && !s.calConnected (y / 4) (y % 4 * 4 + p)

/-- A residual outside the band (R195). -/
def State.outside (s : State) (r : Int) : Bool := decide (4 * s.get FAR_PL.BAND < 5 * r.natAbs)

/-- The blanking causes that a sampling instant can see: all hands, a slew, a change of RUN_BAYS (R194, R201). -/
def State.noteBlanking (s : State) (y : Nat) : State :=
  let v := s.yard y
  let run := (s.runBays y).length
  let v := if run = v.lastRun then v else { v with lastRun := run, runChanged := true, blankFrom := s.mono }
  s.setYard y (if s.on (YRD_STATUS.ALL_HANDS y) ∨ s.vidNow y ≠ s.videff y then { v with blankFrom := s.mono } else v)

/-- The counts of consecutive samples outside and inside the band. -/
def State.countSamples (s : State) (y : Nat) : State :=
  let v := s.yard y
  let on := tb (s.get (YRD_LOOP.SUP y)) 0 && !v.plausPaused
  s.setYard y { v with pts := v.pts.zipIdx.map fun (pt, p) =>
    let out := s.outside pt.r
    { pt with outRun := if on && s.plausPoint y p && out then pt.outRun + 1 else 0, inRun := if out then 0 else pt.inRun + 1 } }

/-- Samples that cover FAR_PL.HOLD × 10 ns at the yard's period. -/
def State.covers (s : State) (y n : Nat) : Bool :=
  decide (10 * s.get FAR_PL.HOLD ≤ n * periodNs (s.get (YRD_LOOP_NOW.PERIOD_NOW y)))

/-- The unsuspected points that are candidates (R195). -/
def State.candidates (s : State) (y : Nat) : List Nat :=
  (List.range Config.sensePoints).filter fun p =>
    let pt := (s.yard y).pts.getD p {}
    !tb (s.get (YRD_FB.SUSPECT y)) p && 0 < pt.outRun && s.covers y pt.outRun

/-- A point is marked suspect (R196). -/
def State.markSuspect (s : State) (y p : Nat) : State :=
  let v := s.yard y
  let pt := v.pts.getD p {}
  let s := s.setYard y { v with pts := v.pts.set p { pt with marks := pt.marks + 1, outRun := 0 } }
  let s := s.put (YRD_FB.SUSPECT y) (setBit (s.get (YRD_FB.SUSPECT y)) p)
  let s := (s.bump FAR_CNT_SUSPECT.COUNT).evt pgFAR 0
  s.raise 0x20 [y, p, unsigned 32 pt.r, unsigned 32 v.iy]

/-- A model fault: no point is marked, plausibility pauses on the yard (R195). -/
def State.modelFault (s : State) (y : Nat) : State :=
  let s := (s.put (FAR_YSTAT.MODEL y) 1).setYard y { s.yard y with plausPaused := true }
  ((s.bump FAR_CNT_MODEL.COUNT).evt pgFAR 1).raise 0x21 [y]

/-- The pause of plausibility ends (R195). -/
def State.endPause (s : State) (y : Nat) : State :=
  (s.put (FAR_YSTAT.MODEL y) 0).setYard y { s.yard y with plausPaused := false }

/-- PLAUSIBILITY: candidates of one sign on more than half of the unsuspected points are the model's fault, others are
suspect. -/
def State.plausibility (s : State) (y : Nat) : State :=
  let s := s.countSamples y
  let cand := s.candidates y
  let good := ((List.range Config.sensePoints).filter fun p => !tb (s.get (YRD_FB.SUSPECT y)) p).length
  let sign (pos : Bool) : Nat := (cand.filter fun p => decide (0 < ((s.yard y).pts.getD p {}).r) == pos).length
  if cand = [] then s
  else if good < 2 * sign true ∨ good < 2 * sign false then s.modelFault y
  else cand.foldl (fun s p => s.markSuspect y p) s

/-- FAR_SUSCLR.GO for one point: cleared only if its residual has been inside the band long enough, and it has not been
marked three times in this power cycle (R197). The answer says whether it was. -/
def State.clearSuspect (s : State) (y p : Nat) : State × Bool :=
  let pt := (s.yard y).pts.getD p {}
  if s.covers y pt.inRun ∧ pt.marks < 3 then (s.put (YRD_FB.SUSPECT y) (clearBit (s.get (YRD_FB.SUSPECT y)) p), true)
  else (s, false)

/-! ### The oscillation detector (R198, R199) -/

/-- An oscillation event: the first orders set 7, every other HAND. -/
def State.oscEvent (s : State) (y : Nat) : State :=
  let v := s.yard y
  let early := match v.oscLast with
    | some t => decide (s.mono < t + ns (100000000 * s.get FAR_OSC.REPEAT))
    | none => false
  let s := s.bump FAR_CNT_OSC.COUNT
  let v := { v with oscSide := 0, crossings := [], oscLast := some s.mono }
  if s.get (YRD_LOOP_NOW.SET_NOW y) ≠ 7 ∧ !early then
    let s := (s.setYard y { v with supOrder := some .set7 }).put (YRD_LOOP.SET y) 7
    ((s.put (FAR_YSTAT.OSC_SET7 y) 1).evt pgFAR 2).raise 0x22 [y]
  else
    let s := (s.setYard y { v with supOrder := some .hand }).put (YRD_LOOP.MODE y) 1
    (((s.put (FAR_YSTAT.OSC_HAND y) 1).bump FAR_CNT_OSC_HAND.COUNT).evt pgFAR 3).raise 0x23 [y]

/-- One sample of the detector: g = e[n] − e[n−2]. -/
def State.oscillation (s : State) (y : Nat) : State :=
  let v := s.yard y
  let e := s.getI (YRD_OUT.ERR y)
  let g := e - v.e2
  let v := { v with e1 := e, e2 := v.e1 }
  let side : Int := if 8 * s.get FAR_OSC.TH ≤ 5 * g.natAbs then (if 0 < g then 1 else if g < 0 then -1 else 0) else 0
  if !tb (s.get (YRD_LOOP.SUP y)) 1 ∨ s.on (YRD_LOOP_NOW.MODE_NOW y) ∨ !s.inWayOn then s.setYard y v
  else if side = 0 ∨ side = v.oscSide then s.setYard y v
  else if v.oscSide = 0 then s.setYard y { v with oscSide := side }
  else
    let l := (s.mono :: v.crossings).filter fun t => s.mono ≤ t + ns (1000 * s.get FAR_OSC.WIN)
    let s := s.setYard y { v with oscSide := side, crossings := l }
    if s.get FAR_OSC.COUNT ≤ l.length then s.oscEvent y else s

/-! ### The sampling instant -/

/-- The 240 ns period of the supervision jobs (R192). -/
def State.supPeriod (s : State) : Nat := s.mono / ns 240

/-- The supervision jobs of the periods since the yard's last that have gone by were missed, and count once (R92). -/
def State.missedSup (s : State) (y : Nat) : State :=
  match (s.yard y).supAt with
  | some q =>
    if q + 1 < s.supPeriod then
      (s.setYard y { s.yard y with supAt := some (s.supPeriod - 1) }).bumpBy TIL_CNT_SUPMISS.COUNT (s.supPeriod - (q + 1))
    else s
  | none => s

/-- SAMPLING_INSTANT of a yard that has jobs (R82). Sextant books its points (R160). What the last sample found is judged first, marks before orders (R196),
then Tiller takes modes and orders (R100), then what waits for an instant. -/
def samplingInstantEff (y : Nat) (s : State) : State :=
  if !s.hasJobs y then s
  else
    let s := (((s.missedSup y).bookPoints y).endAllHands y).noteBlanking y
    let s := (s.plausibility y).oscillation y
    let s := ((s.maintInstant y).sampleLoop y).maintShow y
    let s := (s.vfCheck y).regulatorCheck y
    (s.applyHeld y).captureCheck (y / 4)

/-! ### The supervision job (R192, R193) -/

/-- D_p of a point: (ZP × i + 2^15) >> 16. -/
def State.dropOf (s : State) (y p : Nat) (i : Int) : Int := roundShift ((s.get (FAR_ZP.ZP y p) : Int) * i) 16

/-- A point's expected drop, and its accumulators where its sample counts (R192, R200). -/
def State.superPoint (s : State) (y p : Nat) (pt : Point) : Point :=
  let i := (s.yard y).iy
  let d := (s.yard y).vbay - pt.v
  let pt := { pt with d := s.dropOf y p i }
  if s.plausPoint y p then { pt with n := pt.n + 1, si := pt.si + i, sii := pt.sii + i * i, sd := pt.sd + d, sdi := pt.sdi + d * i }
  else pt

/-- The yard's supervision job of this period has not run. -/
def State.supReady (s : State) (y : Nat) : Bool := (s.yard y).supAt != some s.supPeriod && s.hasJobs y

/-- The issue slots come to a yard's supervision job (R92): no law, hold or sharing job waits, and no supervision job of a lower
yard, all of a period having one deadline. -/
def State.supTurn (s : State) (y : Nat) : Bool :=
  s.readyYards 1 == [] && s.readyYards 0 == [] && (List.range y).all (fun z => !s.supReady z)
    && (List.range Config.bayCount).all fun b => !s.shareReady b

/-- The yard's supervision job of this period is done with; those of the periods since its last were missed (R92). -/
def State.markSup (s : State) (y : Nat) : State :=
  let s := s.missedSup y
  s.setYard y { s.yard y with supAt := some s.supPeriod }

/-- SUPERVISION_JOB, in the order of R92: a job whose residue check failed leaves D_p and the accumulators as they were (R91, R192). -/
def supervisionEff (y lane : Nat) (ok : Bool) (s : State) : State :=
  if !s.supReady y ∨ !s.supTurn y then s
  else if !ok then ((s.markSup y).laneError lane 2).bump TIL_CNT_SUPMISS.COUNT
  else
    let s := s.markSup y
    let v := s.yard y
    let s := s.setYard y { v with pts := v.pts.zipIdx.map fun (pt, p) => s.superPoint y p pt }
    s.meterYard y (v.vfb * v.iy)

/-! ### Path impedance (R200-R202) -/

/-- n Σi² − (Σi)². -/
def Point.spread (p : Point) : Int := (p.n : Int) * p.sii - p.si * p.si

/-- A window is accepted for a point (R200, R201): enough samples, enough spread, no change of RUN_BAYS, T within 10 °C. -/
def State.windowOk (s : State) (y : Nat) (t : Int) (pt : Point) : Bool :=
  let v := s.yard y
  decide (1000 ≤ pt.n) && decide (((pt.n * s.get FAR_ZPCFG.SPREAD * s.limit20 y) ^ 2 : Nat) ≤ 10000 * pt.spread)
    && !v.runChanged && decide ((t - v.zT).natAbs < 160)

/-- Zw of a window; where every i was the same the slope is not stated: a free value. -/
def State.zw (s : State) (pt : Point) : Int × State :=
  if pt.spread = 0 then let (v, s) := s.fresh 7; ((v : Int), s)
  else (roundDiv (65536 * ((pt.n : Int) * pt.sdi - pt.sd * pt.si)) pt.spread, s)

/-- Z25 of a Zw at T (R201), to the nearest. -/
def z25 (zw t : Int) : Int := roundDiv (zw * 160000) (160000 + 39 * (t - 400))

/-- An unsigned 16-bit field takes a number; one that does not fit is a free value. -/
def State.put16 (s : State) (f : Fld) (v : Int) : State :=
  if 0 ≤ v ∧ v < 65536 then s.put f v.toNat else let (x, s) := s.fresh 8; s.put f x

/-- A step that has held long enough (R202). -/
def State.reportStep (s : State) (y p : Nat) (zw z : Int) : State :=
  let zref := s.get (FAR_ZP.ZREF y p)
  let s := (s.put (Fld.bit FAR_BOND.YARD y) 1).put (FAR_YSTAT.BOND y) 1
  let s := ((s.bump FAR_CNT_BOND.COUNT).evt pgFAR 5).raise 0x24 [y, p, zref, unsigned 32 z]
  let s := s.put (FAR_YSTAT.DERATE y) (max 32 (s.get (FAR_YSTAT.DERATE y) * zref / z.toNat))
  { (s.put16 (FAR_ZP.ZREF y p) z).put16 (FAR_ZP.ZP y p) zw with farDirty := true }

/-- A change of a yard's point. -/
def State.modPoint (s : State) (y p : Nat) (f : Point → Point) : State :=
  let v := s.yard y
  s.setYard y { v with pts := v.pts.set p (f (v.pts.getD p {})) }

/-- A point whose baseline is being formed after a change of RUN_BAYS (R201): the mean of ten accepted Z25. -/
def State.formBase (s : State) (y p n : Nat) (sum z : Int) : State :=
  if n ≤ 1 then (s.put16 (FAR_ZP.ZREF y p) (roundDiv (sum + z) 10)).modPoint y p fun pt => { pt with base := none }
  else s.modPoint y p fun pt => { pt with base := some (n - 1, sum + z) }

/-- Z25 exceeds the baseline by more than FAR_ZPCFG.STEP percent, where there is a baseline: a step is pending (R202). -/
def State.stepPending (s : State) (y p : Nat) (z : Int) : Bool :=
  ((s.yard y).pts.getD p {}).base.isNone
    && decide ((s.get (FAR_ZP.ZREF y p) : Int) * (100 + (s.get FAR_ZPCFG.STEP : Int)) < 100 * z)

/-- Step detection with an accepted Z25 (R202). -/
def State.stepDetect (s : State) (y p : Nat) (zw z : Int) : State :=
  let pt := (s.yard y).pts.getD p {}
  let zref : Int := s.get (FAR_ZP.ZREF y p)
  if !s.stepPending y p z then
    let s := s.modPoint y p fun pt => { pt with step := none }
    s.put16 (FAR_ZP.ZREF y p) (zref + (z - zref).tdiv 4096)
  else
    let (k, w) := pt.step.getD (0, 0)
    if 10 * s.get FAR_ZPCFG.HELD ≤ w + 1 then
      let s := s.modPoint y p fun pt => { pt with step := none }
      if 20 ≤ k + 1 then s.reportStep y p zw z else s
    else s.modPoint y p fun pt => { pt with step := some (k + 1, w + 1) }

/-- An accepted window of a point (R200-R202). -/
def State.takeWindow (s : State) (y p : Nat) (t : Int) : State :=
  let pt := (s.yard y).pts.getD p {}
  let (zw, s) := s.zw pt
  let z := z25 zw t
  let s := (s.bump FAR_CNT_ZPWIN.COUNT).endPause y
  let zp : Int := s.get (FAR_ZP.ZP y p)
  let s := if !pt.seen then (s.put16 (FAR_ZP.ZP y p) zw).modPoint y p fun pt => { pt with seen := true }
    else if s.stepPending y p z then s
    else s.put16 (FAR_ZP.ZP y p) (zp + (zw - zp).tdiv 8)
  match pt.base with
  | some (n, sum) => s.formBase y p n sum z
  | none => s.stepDetect y p zw z

/-- A rejected window: a pending step only grows older. -/
def State.rejectWindow (s : State) (y p : Nat) : State :=
  (s.bump FAR_CNT_ZPREJ.COUNT).modPoint y p fun pt => { pt with step := pt.step.map fun (k, w) => (k, w + 1) }

/-- ZPATH_WINDOW: each point not suspect; a change of RUN_BAYS asks for a new baseline. -/
def zpathWindowEff (y : Nat) (s : State) : State :=
  if Config.yardCount ≤ y then s
  else
    let t := s.sensor (s.get (SXT_COMP_CFG.TSENS (y / 4)))
    let changed := (s.yard y).runChanged
    let s := ((List.range Config.sensePoints).filter fun p => !tb (s.get (YRD_FB.SUSPECT y)) p).foldl (fun s p =>
      if s.windowOk y t ((s.yard y).pts.getD p {}) then s.takeWindow y p t else s.rejectWindow y p) s
    let v := s.yard y
    s.setYard y { v with
      runChanged := false, zT := t
      pts := v.pts.map fun pt => { pt with
        n := 0, si := 0, sii := 0, sd := 0, sdi := 0, base := if changed then some (10, 0) else pt.base
        step := if changed then none else pt.step } }

/-! ### The commands -/

/-- SAMPLING_INSTANT. -/
def execSamplingInstant (yard : Nat) (s : State) : Out :=
  s.after (samplingInstantEff yard s)

/-- SUPERVISION_JOB. -/
def execSupervisionJob (yard : Nat) (lane : Nat) (residueOk : Bool) (s : State) : Out :=
  s.after (supervisionEff yard lane residueOk s)

/-- ZPATH_WINDOW. -/
def execZpathWindow (yard : Nat) (s : State) : Out :=
  s.after (zpathWindowEff yard s)

end Sys2Proof.Machine
end

