-- ==== Sys2Proof/Machine/Farrier.lean ====
section
/-!
DEFINITION. The farrier's plans (R204-R215, R331): the loss probe, what a plan computes, the farrier record, how a plan is
applied, and planned substitutions.
-/

namespace Sys2Proof.Machine

/-! ### Measurements (R204, R206, R207) -/

/-- WORN and CRITICAL of a bay from its LOSS and offset drifts (R207); a bay newly either sets PG_EVT.WORN (R217). -/
def State.refreshWear (s : State) (b : Nat) : State :=
  let loss := s.get (BAY_WEAR.LOSS b)
  let o0 := s.getI (BAY_WEAR.OFS0 b)
  let o1 := s.getI (BAY_WEAR.OFS1 b)
  let v := s.bay b
  let drift := max o0.natAbs o1.natAbs
  let worn := decide (s.get FAR_WEAR_TH.LOSS_WORN ≤ loss) || decide (s.get FAR_WEAR_TH.OFS_WORN ≤ drift)
  let crit := decide (s.get FAR_WEAR_TH.LOSS_CRIT ≤ loss) || decide (s.get FAR_WEAR_TH.OFS_CRIT ≤ drift)
    || decide (31 ≤ (v.ofsBase0 + o0).natAbs) || decide (31 ≤ (v.ofsBase1 + o1).natAbs)
  let new := worn && !s.on (BAY_WEAR.WORN b) || crit && !s.on (BAY_WEAR.CRITICAL b)
  let s := (s.put (BAY_WEAR.WORN b) worn.toNat).put (BAY_WEAR.CRITICAL b) crit.toNat
  if new then s.evt pgFAR 6 else s

/-- A bay's dissipation as percent of its baseline, saturating at 255 (R204, R207). -/
def lossPercent (mw base : Nat) : Nat := min 255 (100 * mw / base)

/-- Whether i_y stands below 10 % of LIMIT, at each superframe (R204). -/
def State.noteQuiet (s : State) (y : Nat) : State :=
  let v := s.yard y
  let quiet := decide (10 * s.iy y < (s.limit20 y : Int))
  if quiet = v.quietAt.isSome then s else s.setYard y { v with quietAt := if quiet then some s.mono else none }

/-- The loss probe may run on a bay: in RUN, its yard lightly loaded for 100 µs, not warmed for another use, within the limits of
warming (R204, R279). -/
def State.probeAllowed (s : State) (b : Nat) : Bool :=
  let y := s.get (BAY_STATE.YARD b)
  Config.bayFitted b && s.inWayOn && decide (y < Config.yardCount) && s.get (BAY_STATE.STATE b) == 3
    && decide (10 * s.iy y < (s.limit20 y : Int)) && (s.yard y).quietAt.any (fun t => decide (t + ns 100000 ≤ s.mono))
    && (s.yard y).warmUse == 0 && s.heatAllowed y && decide (b ∈ s.heatable y) && decide ((s.hotBays y).length < s.heatRoom y)

/-- LOSS_PROBE: the bay has been alternated between RUN and HEAT at the probe's level, ten times in 10 ms (R204, R280); its
dissipation becomes its loss. -/
def lossProbeEff (b mw : Nat) (s : State) : State :=
  if !s.probeAllowed b then s
  else
    let s := (List.range 10).foldl (fun s _ => (s.sendHeat b (s.get THM_WARM.PROBE)).endHeatBay b) s
    let s := s.modBay b fun v => { v with lossMw := some mw, probed := some (s.mono, s.heatLevel b (s.get THM_WARM.PROBE)) }
    let base := (s.bay b).lossBase
    if base = 0 then s else (s.put (BAY_WEAR.LOSS b) (lossPercent mw base)).refreshWear b

/-- A mean in 2^-46 counts to the nearest count. -/
def wholeCounts (f : Nat) : Nat := (f + 2 ^ 45) / 2 ^ 46

/-- Mean of offsets summed over a plan period, if there is one. -/
def ofsMean (sum : Int) (n : Nat) : Option Int := if n = 0 then none else some (roundDiv sum n)

/-- A bay's offset averages end their plan period: baselines at the first plan, drifts afterwards (R204, R206). -/
def State.takeOffsets (s : State) (b : Nat) (first : Bool) : State :=
  let v := s.bay b
  let m0 := ofsMean v.ofsSum0 v.ofsCnt0
  let m1 := ofsMean v.ofsSum1 v.ofsCnt1
  let s := s.setBay b { v with
    ofsSum0 := 0, ofsCnt0 := 0, ofsSum1 := 0, ofsCnt1 := 0
    ofsBase0 := if first then m0.getD 0 else v.ofsBase0, ofsBase1 := if first then m1.getD 0 else v.ofsBase1
    lossBase := if v.lossBase = 0 then v.lossMw.getD 0 else v.lossBase }
  if first then s
  else
    let s := match m0 with | some m => s.putI (BAY_WEAR.OFS0 b) (m - v.ofsBase0) | none => s
    let s := match m1 with | some m => s.putI (BAY_WEAR.OFS1 b) (m - v.ofsBase1) | none => s
    s.refreshWear b

/-- A yard's ring-oscillator mean, in 2^-46 counts, ends its plan period; a yard without a baseline takes it as f0, to the nearest
count that the record holds (R204, R206, R215). -/
def State.takeSpeed (s : State) (y : Nat) : State :=
  let v := s.yard y
  let mean : Option Nat := if v.fnCnt = 0 then v.fnMean else some (v.fnSum / v.fnCnt).toNat
  s.setYard y { v with fnSum := 0, fnCnt := 0, fnMean := mean, f0 := if v.f0 = 0 then wholeCounts (mean.getD 0) else v.f0 }

/-! ### What a plan computes (R209) -/

/-- FLOOR, FMAX and whether the clamp to point 0 limits FMAX, for a yard. -/
def State.planYard (s : State) (y : Nat) : Nat × Nat × Bool :=
  let v := s.yard y
  let fl := s.get (FAR_YSTAT.FLOOR y)
  let fm := s.get (FAR_YSTAT.FMAX y)
  let p0 := s.get (CAP_OPP.FRATIO 0)
  let d : Nat := match v.fnMean with | some f => if v.f0 = 0 then 0 else 10000 - 10000 * f / (v.f0 * 2 ^ 46) | none => 0
  let need := ceilDiv (d * s.get FAR_PLAN.KV) 1250
  let need := match v.rpl with | some r => if r < s.get FAR_PLAN.RPL_MIN then max need (fl + 2) else need | none => need
  let need := max fl (min need (fl + s.get FAR_PLAN.MAXSTEP))
  if 32 < need then
    let drop := s.get FAR_PLAN.FPC * (need - 32)
    (32, max p0 (fm - drop), decide (fm < p0 + drop) || fm == p0)
  else (need, fm, false)

/-- The worn bays of a plan, critical first, then the largest loss (R209). -/
def State.wornBays (s : State) : List Nat :=
  let l := (List.range Config.bayCount).filter fun b =>
    let y := s.get (BAY_STATE.YARD b)
    (s.on (BAY_WEAR.WORN b) || s.on (BAY_WEAR.CRITICAL b)) && s.get (BAY_STATE.STATE b) != 6 && s.get (BAY_STATE.STATE b) != 0
      && decide (y < Config.yardCount) && !s.on (YRD_STATUS.YARD_FENCED y)
  let before (a b : Nat) : Bool :=
    let ca := s.get (BAY_WEAR.CRITICAL a)
    let cb := s.get (BAY_WEAR.CRITICAL b)
    decide (cb < ca) || ca == cb && decide (s.get (BAY_WEAR.LOSS b) ≤ s.get (BAY_WEAR.LOSS a))
  sortBy before l

/-- The state with the remounts already planned for taken out of reach. -/
def State.withPlanned (s : State) : State :=
  s.subst.foldl (fun s p => s.modBay p.2 fun v => { v with assigned := some 127 }) s

/-- plan_substitution (R209, R212, R213): a remount by R77 if the reserve stays, or for a critical bay the last one. -/
def State.planSubst (s : State) (b : Nat) : State :=
  let y := s.get (BAY_STATE.YARD b)
  let s' := s.withPlanned
  let free := (s'.freeRemounts y).length
  match s'.chooseRemount y with
  | some r =>
    if s.get FAR_PLAN.RESERVE + 1 ≤ free ∨ s.on (BAY_WEAR.CRITICAL b) then { s with subst := s.subst ++ [(b, r)] }
    else { s with unspared := s.unspared ++ [b] }
  | none => { s with unspared := s.unspared ++ [b] }

/-- A yard's plan. -/
def State.planFor (s : State) (y : Nat) : State :=
  let (fl, fm, low) := s.planYard y
  s.setYard y { s.yard y with planFloor := fl, planFmax := fm, planLow := low }

/-- The yards a plan looks at. -/
def State.planned (s : State) : List Nat := (List.range Config.yardCount).filter fun y => !s.on (YRD_STATUS.YARD_FENCED y)

/-- A plan under way stands still: outside way-on service (R208; DEDUCED, assumption log 38), and while Oteus holds course (R380). -/
def State.planStands (s : State) : Bool := !s.inWayOn || s.courseHeld

/-- FAR_PLAN_COMPUTED: the plan is computed and committing begins; the first plan with no record only takes baselines
(R206, R209, R210 step 1). A plan that is computed, written or applied when one service core comes to carry both service roles goes on
(R29 postpones replanning and says no more: DESIGN CHOICE, assumption log 39). -/
def farComputedEff (s : State) : State :=
  match s.far with
  | .planning =>
    if s.planStands then s
    else
    let first := !s.farBased
    let s := { s with subst := [], unspared := [], far := .writing, farPlans := s.farPlans + 1, farBased := true }
    let s := (s.takeEfficiency 0).takeEfficiency 1
    let s := (List.range Config.yardCount).foldl State.takeSpeed s
    let s := ((List.range Config.bayCount).filter Config.bayFitted).foldl (fun s b => s.takeOffsets b first) s
    let s := s.planned.foldl (fun s y =>
      if first then s.setYard y { s.yard y with planFloor := s.get (FAR_YSTAT.FLOOR y), planFmax := s.get (FAR_YSTAT.FMAX y), planLow := false }
      else s.planFor y) s
    let s := if first then s else s.wornBays.foldl State.planSubst s
    s.put FAR_STATUS.STATE 3
  | _ => s

/-! ### The farrier record (R215) -/

/-- Yard y's 16 bytes. -/
def State.farYardBytes (s : State) (y : Nat) : List Byte :=
  if Config.yardCount ≤ y then List.replicate 16 0
  else
    let v := s.yard y
    let flags := s.get (FAR_YSTAT.FENCED y) + 2 * s.get (FAR_YSTAT.BOND y) + 4 * s.get (FAR_YSTAT.NOSPARE y)
    le 1 (s.get (FAR_YSTAT.FLOOR y)) ++ le 1 (s.get (FAR_YSTAT.FMAX y)) ++ le 1 (s.get (FAR_YSTAT.DERATE y)) ++ le 1 flags
      ++ le 2 v.f0 ++ le 1 (min 255 (v.rpl.getD 255)) ++ le 1 0
      ++ (List.range 4).flatMap fun p => le 2 (s.get (FAR_ZP.ZREF y p))

/-- Bay b's 8 bytes; a bay whose substitution is planned is listed as substituted. -/
def State.farBayBytes (s : State) (b : Nat) : List Byte :=
  let v := s.bay b
  let sub := v.substituted || s.subst.any (fun p => p.1 == b) || s.substWait.any (fun p => p.1 == b)
  let flags := v.failFenced.toNat + 2 * s.get (BAY_WEAR.WORN b) + 4 * sub.toNat
  le 2 (min 65535 v.lossBase) ++ le 1 (unsigned 8 v.ofsBase0) ++ le 1 (unsigned 8 v.ofsBase1) ++ le 1 flags ++ le 3 0

/-- The record's bytes, with its CRC-32. -/
def State.farBytes (s : State) (seq : Nat) : List Byte :=
  let body := le 4 1 ++ le 4 seq ++ le 4 s.opSecs ++ le 4 s.farPlans ++ List.replicate 48 0
    ++ (List.range 128).flatMap s.farYardBytes ++ (List.range 1280).flatMap s.farBayBytes
  body ++ le 4 (crc32 body)

/-- Where copies A and B stand (R357). -/
def farCopy (b : Bool) : Nat := if b then 0x250000 else 0x240000

/-- Sequence of a copy whose CRC passes (R215). -/
def State.farCopySeq (s : State) (b : Bool) : Option Nat :=
  let bytes := s.flashBytes (farCopy b) 12356
  if ofLe (bytes.take 4) = 1 ∧ ofLe (bytes.drop 12352) = crc32 (bytes.take 12352) then some (ofLe ((bytes.drop 4).take 4)) else none

/-- The copy in use: the higher sequence whose CRC passes. -/
def State.farCurrent (s : State) : Option Bool :=
  match s.farCopySeq false, s.farCopySeq true with
  | none, none => none
  | some _, none => some false
  | none, some _ => some true
  | some a, some b => some (decide (a < b))

/-- The record is written to the copy not last written (R210 step 2). -/
def State.writeFarrier (s : State) : State :=
  let seq := s.farSeq + 1
  let at_ := match s.farCurrent with | some b => farCopy !b | none => farCopy false
  { s.writeFlash at_ (s.farBytes seq) with farSeq := seq, farRecord := true, farDirty := false }

/-! ### Starting a plan (R208) -/

/-- What postpones a plan: one service core carries both service roles (R29), or Oteus holds course (R380). -/
def State.planPostponed (s : State) : Bool :=
  s.on HLM_STATUS.SC0_OUT || s.on HLM_STATUS.SC1_OUT || s.on HLM_STATUS.HELM_OUT || s.courseHeld

/-- A plan starts, and with it the turns that measure the second bandgaps (R204). -/
def State.beginPlan (s : State) : State :=
  let s := (List.range Config.clusterCount).foldl (fun s n => s.setCluster n { s.cluster n with refTurn := true }) s
  { s with far := .planning }.put FAR_STATUS.STATE 2

/-- A start: BUSY while a plan runs or waits, or outside way-on service; postponed, or begun. -/
def State.startPlan (s : State) (tag : Option CmdTag) : State × Bool :=
  if !s.inWayOn ∨ s.far ≠ .idle ∨ s.get FAR_STATUS.STATE ≠ 0 then (s.put FAR_STATUS.RESULT 2, false)
  else
    if s.planPostponed then ({ s with planTag := tag }.put FAR_STATUS.STATE 5, true) else ({ s with farTag := tag }.beginPlan, true)

/-- A postponed plan starts once nothing postpones it, and no FAR_RECORD command writes the record. -/
def State.resumePlan (s : State) : State :=
  if s.get FAR_STATUS.STATE = 5 ∧ !s.planPostponed ∧ s.inWayOn ∧ s.far = .idle then
    { s with farTag := s.planTag, planTag := none }.beginPlan
  else s

/-- FAR_PLAN_PERIODIC; it also takes up a plan that was postponed. -/
def farPeriodicEff (s : State) : State :=
  let s := s.resumePlan
  if s.on FAR_CTRL.AUTO then (s.startPlan none).1 else s

/-! ### Applying (R210, R212, R331) -/

/-- A yard's new floor enters VIDeff, or waits for the end of the maintenance state, or in D3 and D4 for the wake (R210 step 3); `s0` is
the state before the floor changed. -/
def State.applyFloor (s s0 : State) (y : Nat) : State := (s.setYard y { s.yard y with floorWait := true }).freeFloor s0 y

/-- FLOOR, FMAX and FMAX_LOW of the plan (R209, R210 step 3). -/
def State.applyYard (s : State) (y : Nat) : State :=
  let v := s.yard y
  let s0 := s
  let s := (s.put (FAR_YSTAT.FLOOR y) v.planFloor).put (FAR_YSTAT.FMAX y) v.planFmax
  let s := if v.planLow then s.put (FAR_YSTAT.FMAX_LOW y) 1 else s
  if v.planFloor = s0.get (FAR_YSTAT.FLOOR y) then s else s.applyFloor s0 y

/-- Speed orders lower a yard that runs above its FMAX (R210 step 4). -/
def State.lowerToFmax (s : State) (y : Nat) : State :=
  if s.get (FAR_YSTAT.FMAX y) < (s.yard y).fratio then s.orderLower y else s

/-- Bays kept without a spare, and the flags of their yards, as the plan found them (R213). -/
def State.applySpares (s : State) : State :=
  let s := ((List.range Config.bayCount).filter fun b => (s.bay b).nospare != s.unspared.contains b).foldl
    (fun s b => s.modBay b fun v => { v with nospare := !v.nospare }) s
  s.planned.foldl (fun s y =>
    s.put (FAR_YSTAT.NOSPARE y) ((s.baysOf y).any fun b => (s.bay b).nospare).toNat) s

/-- The plan has ended (R210 step 6). -/
def State.planDone (s : State) : State :=
  let s := (s.put FAR_STATUS.STATE 0).put FAR_STATUS.RESULT 1
  let s := ((s.evt pgFAR 4).put FAR_LAST.SECONDS s.opSecs).bump FAR_CNT_PLANS.COUNT
  { s with far := .idle, farTag := none }.finishOpt s.farTag stDone 0 0

/-- A planned substitution begins if its remount is still free (R212). A skipped one leaves the record to be corrected. -/
def State.nextSubst : List (Nat × Nat) → State → State
  | [], s => { s with subst := [] }.planDone
  | (b, r) :: t, s =>
    let y := s.get (BAY_STATE.YARD b)
    if (s.freeRemounts y).contains r ∧ s.get (BAY_STATE.STATE b) ≠ 6 then
      let s : State := { s.assignRemount y r none with substWait := s.substWait ++ [(b, r)] }
      if s.domState y ≤ 2 then { s with subst := t } else State.nextSubst t s
    else State.nextSubst t { s with farDirty := true }

/-- The worn bay is fenced once its remount is in RUN (R212). -/
def State.substituteOne (s : State) (p : Nat × Nat) : State :=
  let (b, r) := p
  let y := s.get (BAY_STATE.YARD b)
  let v := s.bay r
  let keep : State := { s with substWait := s.substWait ++ [p] }
  if v.assigned = some y ∨ v.st = .connect ∨ v.connStep ≠ 0 then keep
  else if v.st = .run ∧ v.yard = y then
    (((s.sendBay b (bayStateWord · 4)).modBay b fun v => { v with substituted := true })).bump FAR_CNT_SUBST.COUNT
  else { s with farDirty := true }

/-- Substitutions under way are looked at, and the next one begins when none is under way in a yard in D0-D2. -/
def State.substStep (s : State) : State :=
  let s := s.substWait.foldl State.substituteOne { s with substWait := [] }
  match s.far with
  | .applying =>
    if s.planStands then s
    else if s.substWait.any (fun p => decide (s.domState (s.get (BAY_STATE.YARD p.1)) ≤ 2)) then s else State.nextSubst s.subst s
  | _ => s

/-- A FAR_RECORD command's changes (R331), as the record is to hold them. -/
def State.applyRecord (s : State) (y : Nat) (clear : Bool) (base : Option (Nat × Nat)) : State :=
  let s := if clear then
      ((s.put (FAR_YSTAT.DERATE y) 64).put (Fld.bit FAR_BOND.YARD y) 0).put (FAR_YSTAT.BOND y) 0
    else s
  match base with
  | none => s
  | some (fl, fm) =>
    let v := s.yard y
    (s.setYard y { v with f0 := match v.fnMean with | some f => wholeCounts f | none => v.f0 }).put (FAR_YSTAT.FLOOR y) fl |>.put (FAR_YSTAT.FMAX y) fm

/-- The record could not be written: FAR_COMMIT_FAIL, nothing applied (R210). -/
def State.commitFailed (s : State) : State :=
  ((s.logEvent 0x010E []).evt pgFAR 8)

/-- FAR_RECORD_COMMIT: of a plan, of a FAR_RECORD command, or of changes made outside both. -/
def farCommitEff (ok : Bool) (s : State) : State :=
  match s.far with
  | .writing =>
    if s.planStands then s
    else if !ok then
      let s := { s.commitFailed with subst := [], unspared := [], far := .idle, farTag := none }.finishOpt s.farTag stFailed 0 0
      (s.put FAR_STATUS.STATE 0).put FAR_STATUS.RESULT 3
    else
      let ys := s.planned
      let s := (s.put FAR_STATUS.STATE 4).applySpares
      let s := { (ys.foldl State.applyYard s).writeFarrier with far := .applying }
      let s := (List.range Config.yardCount).foldl (fun s y => (s.setYard y { s.yard y with rpl := none }).lowerToFmax y) s
      s.substStep
  | .byCommand y clear base =>
    if !ok then ({ s.commitFailed with far := .idle, farTag := none }.finishOpt s.farTag stFailed 0 0).resumePlan
    else
      let s0 := s
      let s := { (s.applyRecord y clear base).writeFarrier with far := .idle, farTag := none }.finishOpt s.farTag stDone 0 0
      let s := if s.get (FAR_YSTAT.FLOOR y) = s0.get (FAR_YSTAT.FLOOR y) then s else s.applyFloor s0 y
      (s.lowerToFmax y).resumePlan
  | .idle => if s.farDirty then (if ok then s.writeFarrier else s.commitFailed) else s
  | _ => s

/-- FAR_RECORD (R331): its checks are those of its range; the write of the record begins, unless a plan runs. -/
def State.startRecord (s : State) (y : Nat) (clear : Bool) (base : Option (Nat × Nat)) (tag : Option CmdTag) : State × Bool :=
  if s.far ≠ .idle then (s, false) else ({ s with far := .byCommand y clear base, farTag := tag }, true)

/-- A timed step of a switch-in, and what a planned substitution makes of it. -/
def connectStepAll (b : Nat) (ok : Bool) (s : State) : State := (connectStep b ok s).substStep

/-- SUPERFRAME, the yards that stand lightly loaded, and the substitutions that wait. -/
def superframeStep (seg : Nat) (s : State) : State :=
  (((List.range Config.yardCount).filter fun y => firstSeg y == seg).foldl State.noteQuiet (superframeAll seg s)).substStep

/-! ### The commands -/

/-- SUPERFRAME. -/
def execSuperframe (seg : Nat) (s : State) : Out :=
  s.after (superframeStep seg s)

/-- REMOUNT_CONNECT_STEP. -/
def execRemountConnectStep (bay : Nat) (ok : Bool) (s : State) : Out :=
  s.after (connectStepAll bay ok s)

/-- FAR_PLAN_PERIODIC. -/
def execFarPlanPeriodic (s : State) : Out :=
  s.after (farPeriodicEff s)

/-- FAR_PLAN_COMPUTED. -/
def execFarPlanComputed (s : State) : Out :=
  s.after (farComputedEff s)

/-- FAR_RECORD_COMMIT. -/
def execFarRecordCommit (ok : Bool) (s : State) : Out :=
  s.after (farCommitEff ok s)

/-- LOSS_PROBE. -/
def execLossProbe (bay : Nat) (dissipationMw : Nat) (s : State) : Out :=
  s.after (lossProbeEff bay dissipationMw s)

end Sys2Proof.Machine
end

