-- ==== Sys2Proof/Machine/Stages.lean ====
section
/-!
DEFINITION. The board stages (R286-R305): the rails' states, tracking, the phases' pulses and what STG_PWM and STG_EN drive,
balance, protections, the loss of a rail, and the intermediate bus.
-/

namespace Sys2Proof.Machine

/-! ### Pins (R292, R295) -/

/-- What STG_PWM of a phase drives. -/
inductive Pwm where
  | low | high | hiZ
deriving DecidableEq, Repr

/-- STG_EN is high but for THERMTRIP: from the start of ON_RAMP to the end of OFF_RAMP, the off delay among them (R295, R296). -/
def State.regulates (s : State) (r : Nat) : Bool :=
  let st := s.get (STG_RAIL.STATE r)
  st == 2 || st == 3 || st == 4 || st == 5

/-- STG_EN of a rail; THERMTRIP holds it low (R276). -/
def State.stgEn (s : State) (r : Nat) : Bool := s.regulates r && !s.on THM_STATUS.TRIP

/-- The controller of a rail drives its phases: ON_RAMP, ON or OFF_RAMP (R292 rank 1), but where V_ref on its way up lies below the
voltage of a pre-biased rail (R295). -/
def State.pwmDrives (s : State) (r : Nat) : Bool :=
  let st := s.get (STG_RAIL.STATE r)
  !s.on THM_STATUS.TRIP && (st == 3 || st == 5 || st == 2 && decide (s.vsns r ≤ s.vrefNow r))

/-- STG_PWM of a phase, by the ranks of R292; the bounds of ranks 5 and the fire are the comparators' (PHASE_FIRE, PULSE_END). -/
def State.pwm (s : State) (p : Nat) : Pwm :=
  let v := s.phase p
  if !s.pwmDrives (s.phaseRail p) || !s.on (STG_PH.IN_SERVICE p) then .hiZ
  else if v.pulse && v.tripped then .low
  else if v.floating || (s.rail (s.phaseRail p)).braking then .hiZ
  else if v.pulse then .high
  else .low

/-! ### Pulses (R290, R298, R305) -/

/-- CLK_S period, ns: 10 on the PLL, 40 on the backup oscillator (R24, R305). -/
def State.clkS (s : State) : Nat := if s.onPll then 10 else 40

/-- On-time of a fired phase in CLK_S cycles: T_on = (V_ref / V_ibus) / F_T × (1 + BAL / 128), rounded. V_ref counts 0.3125 mV,
V_ibus 5 mV, taken as at least 9.0 V; F_T is 300 kHz on the backup clocks (R290, R305). -/
def State.onCycles (s : State) (p : Nat) : Nat :=
  let r := s.phaseRail p
  let fsw := if s.onPll then s.get (STG_HYST.FSW r) else 30
  let ibus := 16 * (max 1800 s.ibus).toNat
  let bal : Int := 128 + (if s.onPll then s.getI (STG_PH_TRIM.BAL p) else 0)
  (roundDiv ((s.vrefNow r : Int) * 100000 * bal) (((ibus * fsw * 128 * s.clkS : Nat) : Int))).toNat

/-- The stagger of a rail, half nanoseconds. -/
def State.stagger (s : State) (r : Nat) : Nat :=
  let d := 10 * s.get (STG_HYST.STAGGER r)
  ns (if s.onPll then d else max 40 d)

/-- A phase may be fired: in service, off for 60 ns, held by no higher rank. -/
def State.mayFire (s : State) (p : Nat) : Bool :=
  let v := s.phase p
  s.on (STG_PH.IN_SERVICE p) && !v.pulse && (match v.offAt with | some t => decide (t + ns 60 ≤ s.mono) | none => true)
    && decide (-640 ≤ s.getI (STG_PH_MON.I p)) && !(s.rail (s.phaseRail p)).braking

/-- The next phase in rotation, from the one after the last fired, wrapping. -/
def State.nextFire (s : State) (r : Nat) : Option Nat :=
  let l := (s.railPhases r).filter s.mayFire
  match l.find? fun p => (s.rail r).lastPhase < p with
  | some p => some p
  | none => l.head?

/-- PHASE_FIRE: the next phase in rotation begins a pulse, once the stagger has passed (R290). -/
def phaseFireEff (r : Nat) (s : State) : State :=
  let v := s.rail r
  let wait : Bool := match v.fireAt with | some t => decide (s.mono < t + s.stagger r) | none => false
  if 2 ≤ r ∨ !s.pwmDrives r ∨ wait then s
  else
    match s.nextFire r with
    | none => s
    | some p =>
      (s.setRail r { v with lastPhase := p, fireAt := some s.mono }).setPhase p
        { s.phase p with pulse := true, ton := s.onCycles p, tripped := false, floating := false }

/-- PULSE_END: the high side turns off; a pulse without a trip resets the count of tripped ones (R290, R298). -/
def pulseEndEff (p : Nat) (s : State) : State :=
  let v := s.phase p
  if v.pulse then s.setPhase p { v with pulse := false, offAt := some s.mono, scRun := if v.tripped then v.scRun else 0, tripped := false }
  else s

/-- SHORT_CIRCUIT_TRIP (R298). -/
def scTripEff (p : Nat) (s : State) : State :=
  if !s.present p then s
  else
    let v := s.phase p
    let s := s.bump STG_CNT_SC.COUNT
    if !v.pulse ∨ v.tripped then s
    else
      let s := s.setPhase p { v with tripped := true, scRun := v.scRun + 1 }
      if v.scRun + 1 = 8 then
        ((((s.put (STG_PH.LATCHED p) 1).bump STG_CNT_LATCH.COUNT).evt pgSTG 0).raise 0x31 [p]).refreshService p
      else s

/-- Threshold of a phase's short-circuit comparator, mV × 2^20 × 176: 90 A (1,050 mV), or 72 A (960 mV) in over-temperature warning,
scaled by the correction of the cluster that converts the input (R277, R298). The comparator compares outside the model: its trip is
the command SHORT_CIRCUIT_TRIP. -/
def State.scThreshold (s : State) (p : Nat) : Int :=
  (if s.on (STG_PH.OT_WARN p) then 960 else 1050) * Tab.get (fun _ => scUnity) s.scScale (24 + p / 15)

/-- STG_PHCLR: LATCHED and FAILED of the phases named clear (R298, R303). -/
def State.phaseClear (s : State) (bits : Nat) : State :=
  ((List.range Config.stagePhases).filter (tb bits)).foldl (fun s p =>
    let s := ((s.put (STG_PH.LATCHED p) 0).put (STG_PH.FAILED p) 0).refreshService p
    s.setPhase p { s.phase p with scRun := 0 }) s

/-! ### Braking (R299) -/

/-- Braking is armed: the rail is up and not on its off ramp (R296, R299). -/
def State.brakeArmed (s : State) (r : Nat) : Bool :=
  let st := s.get (STG_RAIL.STATE r)
  st == 2 || st == 3 || st == 4

/-- BRAKE_ENTER. -/
def brakeEnterEff (r : Nat) (s : State) : State :=
  if 2 ≤ r ∨ !s.brakeArmed r ∨ (s.rail r).braking then s
  else (s.setRail r { s.rail r with braking := true }).bump STG_CNT_BRAKE.COUNT

/-- BRAKE_EXIT. -/
def brakeExitEff (r : Nat) (s : State) : State :=
  if 2 ≤ r then s else s.setRail r { s.rail r with braking := false }

/-! ### Start and stop (R295-R297) -/

/-- A restart of a rail clears its latches (R298). -/
def State.clearLatches (s : State) (r : Nat) : State :=
  (s.railPhases r).foldl (fun s p =>
    ((s.put (STG_PH.LATCHED p) 0).refreshService p).setPhase p { s.phase p with scRun := 0 }) s

/-- A rail enters ON_RAMP from the sensed voltage; `alone`: a tracker that restarts by itself (R295, R297). -/
def State.startRamp (s : State) (r : Nat) (alone : Bool) : State :=
  let s := s.clearLatches r
  let v := s.rail r
  (s.setRail r { v with vref := s.vsns r, vAt := s.mono, rampCode := s.get (STG_VOUT.CODE r), alone := alone, ovlLast := s.mono }).put
    (STG_RAIL.STATE r) 2

/-- A start of one rail: ON_DELAY from OFF or DEAD, back to ON_RAMP from the off delay or the off ramp (R295, R296). A rail
without a phase stays off (R289), and so does every rail while THERMTRIP is latched (R276). -/
def State.startRail (s : State) (r : Nat) : State :=
  let st := s.get (STG_RAIL.STATE r)
  let s := (s.put (STG_RAIL.ON r) 1).put (STG_RAIL.OFF_PENDING r) 0
  if s.railPhases r = [] ∨ s.on THM_STATUS.TRIP then s
  else if st = 0 then (s.clearLatches r).railState r 1
  else if st = 7 then
    let s := s.put STG_STATUS.DEAD (clearBit (s.get STG_STATUS.DEAD) r)
    let s := s.put (STG_RAIL_STAT.TRIES r) 0
    let s := if s.get STG_STATUS.DEAD = 0 then s.deassertSource 0x34 else s
    (s.clearLatches r).railState r 1
  else if st = 4 ∨ st = 5 then s.startRamp r false
  else s

/-- STG_RAIL.ON is set; with tracking PKG_A's start is PKG_B's (R297). -/
def State.railOn (s : State) (r : Nat) : State := (s.railGroup r).foldl State.startRail s

/-- STG_RAIL.ON is cleared: the rail stops once every domain on it is in D4 (R296). -/
def State.railOff (s : State) (r : Nat) : State :=
  let s := (s.railGroup r).foldl (fun s r =>
    let s := s.put (STG_RAIL.ON r) 0
    if s.get (STG_RAIL.STATE r) ∈ [1, 2, 3, 6] then s.put (STG_RAIL.OFF_PENDING r) 1 else s) s
  s.railOffCheck

/-- RAIL_DELAY_END: the on delay or the off delay ends and the ramp begins; a tracking PKG_B goes with PKG_A, and one that restarts while
PKG_A is ON uses its own ramp. -/
def railDelayEndEff (r : Nat) (s : State) : State :=
  if 2 ≤ r then s
  else if s.tracks r then (if s.get (STG_RAIL.STATE r) = 1 ∧ s.get (STG_RAIL.STATE 0) = 3 then s.startRamp r true else s)
  else
    match s.get (STG_RAIL.STATE r) with
    | 1 => ((s.railGroup r).filter fun q => s.get (STG_RAIL.STATE q) == 1).foldl (fun s q => s.startRamp q false) s
    | 4 =>
      ((s.railGroup r).filter fun q => s.get (STG_RAIL.STATE q) == 4).foldl (fun s q =>
        (s.setRail q { s.rail q with rampCode := s.get (STG_VOUT.CODE q), braking := false, alone := false }).railState q 5) s
    | _ => s

/-- A rail whose STG_EN goes low: pulses end, braking ends, overload ends. -/
def State.railDark (s : State) (r st : Nat) : State :=
  let s := (s.setRail r { s.rail r with vref := 0, vAt := s.mono, braking := false, ovlSince := none, ovlLast := s.mono }).put (STG_RAIL.STATE r) st
  (s.railPhases r).foldl (fun s p =>
    (s.put (STG_PH.OVERLOAD p) 0).setPhase p { s.phase p with pulse := false, tripped := false, oSum := 0, oCnt := 0 }) s

/-- The ramp of a rail is over: V_ref has met the command, or the master that the rail tracks is ON (R295, R297). -/
def State.rampMet (s : State) (r : Nat) : Bool :=
  s.vrefNow r == 8 * s.get (STG_VOUT.CODE r) || s.tracks r && s.get (STG_RAIL.STATE 0) == 3

/-- PKG_A's ramp has ended: a PKG_B whose own ramp ended before it goes on from the voltage it has tracked to (R297). -/
def State.trackOver (s : State) : State :=
  if s.following then s.setRail 1 { s.rail 1 with vref := s.vrefNow 1, vAt := s.mono } else s

/-- RAIL_RAMP_END: V_ref has met the command, or has reached 0 with the rail below 50 mV (R295, R296). -/
def railRampEndEff (r : Nat) (s : State) : State :=
  if 2 ≤ r then s
  else
    match s.get (STG_RAIL.STATE r) with
    | 2 =>
      if s.rampMet r then
        let s := if r = 0 then s.trackOver else s
        (s.setRail r { s.rail r with vref := s.vrefNow r, vAt := s.mono, alone := false }).put (STG_RAIL.STATE r) 3
      else s
    | 5 =>
      if s.tracks r ∨ 0 < s.vrefNow r ∨ 160 ≤ s.vsns r then s
      else ((s.railGroup r).filter fun q => s.get (STG_RAIL.STATE q) == 5).foldl (fun s q => s.railDark q 0) s
    | _ => s

/-! ### The command and its headroom (R293) -/

/-- The highest target of a yard in D0-D3 on a rail, with its floor offset. -/
def State.topTarget (s : State) (r : Nat) : Nat :=
  (((List.range Config.yardCount).filter fun y => Config.yardRail y == r && decide (s.domState y ≤ 3)).map fun y =>
    (if (s.yard y).retained then s.get PWS_RETV.CODE else s.get (YRD_VID.TARGET y)) + s.get (YRD_OFFSETS.FLOOR_OFS y)).foldl max 0

/-- A write of CODE is within its range and leaves the headroom its yards need. -/
def State.voutOk (s : State) (r code : Nat) : Bool := 320 ≤ code && code ≤ 760 && s.topTarget r ≤ headCode (8 * code)

/-- CODE takes a value: V_ref moves from where it stands; the yards' clamps follow. -/
def State.voutSet (s : State) (r code : Nat) : State :=
  (s.setRail r { s.rail r with vref := s.vrefNow r, vAt := s.mono }).put (STG_VOUT.CODE r) code

/-- A rate of V_ref is written (STG_SLEW, STG_SEQ_ON, STG_SEQ_OFF): it moves on from where it stands. -/
def State.rateWritten (s s0 : State) (r : Nat) : State := s.setRail r { s.rail r with vref := s0.vrefNow r, vAt := s.mono }

/-- The clamp of R293 changes a yard's value. -/
def State.headClamped (s : State) (y : Nat) : Bool :=
  match s.headroom (Config.yardRail y) with
  | some h => decide (h < min 520 (s.vidAsked y))
  | none => false

/-- STG_STATUS.HEADROOM of a rail. -/
def State.headBit (s : State) (r : Nat) : Bool :=
  (List.range Config.yardCount).any fun y => Config.yardRail y == r && s.headClamped y

/-- A yard whose VIDeff target the clamp moves is given its new set-point. -/
def State.headStep (s : State) (y : Nat) : State :=
  if 3 < s.domState y ∨ !((s.orderBays y).any fun b => (s.bay b).followsSet && (s.bay b).target != s.videff y)
      ∨ (s.dom y).step ≠ .stable then s
  else s.deliver y

/-- The balance trims of a rail (R291), which the backup clocks leave as they are, at 0 (R305). -/
def State.balance (s : State) (r : Nat) : State :=
  let ps := s.inService r
  let avg (p : Nat) : Int := let v := s.phase p; if v.iCnt = 0 then 0 else roundDiv v.iSum v.iCnt
  let mean := roundDiv ((ps.map avg).sum) (max 1 ps.length)
  let s' := ps.foldl (fun s p =>
    let d := avg p - mean
    let b := s.getI (STG_PH_TRIM.BAL p)
    if 32 < d then s.putI (STG_PH_TRIM.BAL p) (max (-32) (b - 1))
    else if d < -32 then s.putI (STG_PH_TRIM.BAL p) (min 32 (b + 1)) else s) s
  if s.onPll then s' else s

/-- BAL_UPDATE: the balance trims; set-points follow a headroom that moves (R293). -/
def balUpdateEff (s : State) : State :=
  let s := (s.balance 0).balance 1
  let s := (List.range Config.stagePhases).foldl (fun s p => s.setPhase p { s.phase p with iSum := 0, iCnt := 0 }) s
  (List.range Config.yardCount).foldl State.headStep s

/-! ### Power good (R294) -/

/-- PG of a rail changes. -/
def State.setPg (s : State) (r : Nat) (b : Bool) : State :=
  let pg := s.get STG_STATUS.PG
  if tb pg r = b then s else (s.put STG_STATUS.PG (if b then setBit pg r else clearBit pg r)).evt pgSTG 7

/-- STG_VSNS lies within a percentage of V_ref. -/
def State.vsnsWithin (s : State) (r pct : Nat) : Bool :=
  decide (100 * (max (s.vsns r) (s.vrefNow r) - min (s.vsns r) (s.vrefNow r)) ≤ pct * s.vrefNow r)

/-- PG_SET: the rail is ON and STG_VSNS within 3 % of V_ref. -/
def pgSetEff (r : Nat) (s : State) : State :=
  if 2 ≤ r ∨ s.get (STG_RAIL.STATE r) ≠ 3 ∨ !s.vsnsWithin r 3 then s else s.setPg r true

/-- STG_PG_LOST: STG_VSNS lies outside 8 % of V_ref, or STG_EN is low; a fault outside the off ramp and the rail-off states. -/
def pgLostEff (r : Nat) (s : State) : State :=
  if 2 ≤ r ∨ !tb (s.get STG_STATUS.PG) r ∨ s.regulates r ∧ s.vsnsWithin r 8 then s
  else
    let st := s.get (STG_RAIL.STATE r)
    let s := s.setPg r false
    if st = 2 ∨ st = 3 ∨ st = 4 then s.raise 0x30 [r, s.vsns r] else s

/-! ### Loss of a rail (R276, R301) -/

/-- A domain loses its power without a sequence: isolated, in reset, its bays OFF, in D4; its order ends. -/
def State.loseDomain (s : State) (d code : Nat) : State :=
  let s := match (s.dom d).order with | some o => s.endOrder d o code false 0 | none => s
  let s := s.modDom d fun m => { m with
    order := none, wake := false, forced := false, halt := false, ret := false, rstN := false, oscEn := false, memEn := false }
  let s := ((s.put (PWS_DOM.TARGET d) 4).put (PWS_DOM.ASSIST d) 0).setIso d true
  let s := s.setYard d { s.yard d with warmUse := 0, warmLevel := 0, retained := false }
  s.reachState d 4

/-- The domains of a rail that are not at rest in D4. -/
def State.powered (s : State) (r : Nat) : List Nat :=
  (List.range Config.yardCount).filter fun d => Config.yardRail d == r && !(s.domState d == 4 && s.domStable d)

/-- A bitmap of unit numbers in a 32-bit word. -/
def wordMap (l : List Nat) (j : Nat) : Nat := (l.filter fun d => d / 32 == j).foldl (fun m d => setBit m (d % 32)) 0

/-- R301 on a rail: its domains are lost, STG_RAIL_LOSS is logged. -/
def State.railLoss (s : State) (r : Nat) : State :=
  let l := s.powered r
  let s := l.foldl (fun s d => s.loseDomain d stFailed) s
  s.logEvent 0x0114 [r, wordMap l 0, wordMap l 1, wordMap l 2]

/-- A rail goes dark in a state and its domains are lost. -/
def State.railLost (s : State) (r st : Nat) : State := (s.railDark r st).railLoss r

/-! ### Overload and hiccup (R300) -/

/-- OVERLOAD_EVAL of a phase: its average over the window against its threshold. -/
def overloadEff (p : Nat) (s : State) : State :=
  let v := s.phase p
  if !s.present p ∨ v.oCnt = 0 then s
  else
    let r := s.phaseRail p
    let avg := roundDiv v.oSum v.oCnt
    let s := (s.setPhase p { v with oSum := 0, oCnt := 0 }).putI (STG_PH_AVG.IAVG p) avg |>.sample10 (STG_PH_AVG.IAVG p).key avg
    let high : Bool := decide (s.ovlTh p < 100 * avg)
    let s := if high ∧ !s.on (STG_PH.OVERLOAD p) then
        (((s.put (STG_PH.OVERLOAD p) 1).bump STG_CNT_OVL.COUNT).evt pgSTG 1).raise 0x32 [p, unsigned 32 avg]
      else s.put (STG_PH.OVERLOAD p) high.toNat
    let w := s.rail r
    if s.overloaded r then s.setRail r { w with ovlSince := some (w.ovlSince.getD s.mono), ovlLast := s.mono }
    else
      let s := s.setRail r { w with ovlSince := none }
      if s.get (STG_RAIL.STATE r) = 3 ∧ w.ovlLast + ns 1000000000 ≤ s.mono then s.put (STG_RAIL_STAT.TRIES r) 0 else s

/-- HICCUP: overload has lasted 10 ms; a try, or the end after the third (R300, R301). PKG_A takes a tracking PKG_B with it. -/
def hiccupEff (r : Nat) (s : State) : State :=
  let long : Bool := match (s.rail r).ovlSince with | some t => decide (t + ns 10000000 ≤ s.mono) | none => false
  if 2 ≤ r ∨ !s.overloaded r ∨ !long ∨ !(s.get (STG_RAIL.STATE r) ∈ [2, 3, 4]) then s
  else
    let tries := s.get (STG_RAIL_STAT.TRIES r)
    let others := ((s.railGroup r).filter fun q => q != r && s.regulates q)
    if tries < 3 then
      let s := ((s.put (STG_RAIL_STAT.TRIES r) (tries + 1)).bump STG_CNT_HICCUP.COUNT).evt pgSTG 2
      let s := s.railLost r 6
      let s := others.foldl (fun s q => s.railLost q 6) s
      s.raise 0x33 [r, tries + 1]
    else
      let s := (s.put STG_STATUS.DEAD (setBit (s.get STG_STATUS.DEAD) r)).evt pgSTG 3
      let s := s.railLost r 7
      let s := others.foldl (fun s q => s.railLost q 0) s
      (s.assertSource 0x34).raise 0x34 [r]

/-- HICCUP_RESTART: ON_RAMP without the delay; a tracking PKG_B that went with PKG_A comes back with it. -/
def hiccupRestartEff (r : Nat) (s : State) : State :=
  if 2 ≤ r ∨ s.get (STG_RAIL.STATE r) ≠ 6 ∨ s.on THM_STATUS.TRIP then s
  else if r = 1 ∧ s.tracking then (if s.get (STG_RAIL.STATE 0) = 3 then s.startRamp 1 true else s)
  else ((s.railGroup r).filter fun q => s.get (STG_RAIL.STATE q) == 6).foldl (fun s q => s.startRamp q false) s

/-! ### STG_FLT_N (R303) -/

/-- STG_FLT: a filtered low; the phases found not to respond are FAILED. How long the pin stays low no row tells: STG_STATUS.FLT reads a
free value from then on (assumption log 39). -/
def stgFltEff (failed : BitVec 30) (s : State) : State :=
  let l := (List.range Config.stagePhases).filter fun p => tb failed.toNat p && s.present p
  let s := (({ s with fltAt := some s.mono, fltDeclared := l != [] }.put STG_STATUS.FLT 1).bump STG_CNT_FLT.COUNT).evt pgSTG 6
  let s := l.foldl (fun s p => (s.put (STG_PH.FAILED p) 1).refreshService p) s
  s.raise 0x37 [wordMap l 0]

/-- STG_FLT_STUCK: the pin has stayed low for 10 ms since it was found low, and no phase was declared with it. -/
def stgFltStuckEff (s : State) : State :=
  if s.fltAt.isSome ∧ !s.fltDeclared then { s with fltAt := some s.mono }.raise 0x38 [] else s

/-! ### The intermediate bus (R304) -/

/-- The bus voltage, mV. -/
def State.ibusMv (s : State) : Nat := (5 * max 0 s.ibus).toNat

/-- STG_IBUS. -/
def stgIbusEff (s : State) : State := if 2160 ≤ s.ibus ∧ s.ibus ≤ 3000 then s else s.raise 0x39 [s.ibusMv]

/-- STG_IBUS_UV: both rails go off and their domains are lost; a rail that was commanded on is to restart. -/
def stgIbusUvEff (s : State) : State :=
  if 1800 ≤ s.ibus ∨ s.ibusLow then s
  else
    let s := { s with ibusLow := true }
    let s := [0, 1].foldl (fun s r =>
      let st := s.get (STG_RAIL.STATE r)
      if st = 0 ∨ st = 7 then s
      else
        let was := s.on (STG_RAIL.ON r)
        let s := s.railLost r 0
        s.setRail r { s.rail r with wasOn := was }) s
    s.raise 0x3A [s.ibusMv]

/-- IBUS_RECOVERY: each rail that was on restarts through ON_RAMP, without the delay; no try is counted. -/
def ibusRecoveryEff (s : State) : State :=
  if s.ibus ≤ 2000 ∨ !s.ibusLow then s
  else
    [0, 1].foldl (fun s r =>
      let w := s.rail r
      let s := s.setRail r { w with wasOn := false }
      if w.wasOn ∧ s.on (STG_RAIL.ON r) ∧ !s.on THM_STATUS.TRIP then s.startRamp r false else s) { s with ibusLow := false }

/-! ### The commands -/

/-- PHASE_FIRE. -/
def execPhaseFire (rail : Nat) (s : State) : Out :=
  s.after (phaseFireEff rail s)

/-- PULSE_END. -/
def execPulseEnd (phase : Nat) (s : State) : Out :=
  s.after (pulseEndEff phase s)

/-- SHORT_CIRCUIT_TRIP. -/
def execShortCircuitTrip (phase : Nat) (s : State) : Out :=
  s.after (scTripEff phase s)

/-- BRAKE_ENTER. -/
def execBrakeEnter (rail : Nat) (s : State) : Out :=
  s.after (brakeEnterEff rail s)

/-- BRAKE_EXIT. -/
def execBrakeExit (rail : Nat) (s : State) : Out :=
  s.after (brakeExitEff rail s)

/-- RAIL_DELAY_END. -/
def execRailDelayEnd (rail : Nat) (s : State) : Out :=
  s.after (railDelayEndEff rail s)

/-- RAIL_RAMP_END. -/
def execRailRampEnd (rail : Nat) (s : State) : Out :=
  s.after (railRampEndEff rail s)

/-- BAL_UPDATE. -/
def execBalUpdate (s : State) : Out :=
  s.after (balUpdateEff s)

/-- PG_SET. -/
def execPgSet (rail : Nat) (s : State) : Out :=
  s.after (pgSetEff rail s)

/-- STG_PG_LOST. -/
def execStgPgLost (rail : Nat) (s : State) : Out :=
  s.after (pgLostEff rail s)

/-- OVERLOAD_EVAL. -/
def execOverloadEval (phase : Nat) (s : State) : Out :=
  s.after (overloadEff phase s)

/-- HICCUP. -/
def execHiccup (rail : Nat) (s : State) : Out :=
  s.after (hiccupEff rail s)

/-- HICCUP_RESTART. -/
def execHiccupRestart (rail : Nat) (s : State) : Out :=
  s.after (hiccupRestartEff rail s)

/-- STG_FLT. -/
def execStgFlt (failed : BitVec 30) (s : State) : Out :=
  s.after (stgFltEff failed s)

/-- STG_FLT_STUCK. -/
def execStgFltStuck (s : State) : Out :=
  s.after (stgFltStuckEff s)

/-- STG_IBUS. -/
def execStgIbus (s : State) : Out :=
  s.after (stgIbusEff s)

/-- STG_IBUS_UV. -/
def execStgIbusUv (s : State) : Out :=
  s.after (stgIbusUvEff s)

/-- IBUS_RECOVERY. -/
def execIbusRecovery (s : State) : Out :=
  s.after (ibusRecoveryEff s)

end Sys2Proof.Machine
end

