-- ==== Sys2Proof/Machine/Thermal.lean ====
section
/-!
DEFINITION. Thermal sensing, protection and warming (R269-R283): the scan, the trip latch, compensation, sensor proofs,
preconditioning and station warming, and the cold start of bonded-array yards.
-/

namespace Sys2Proof.Machine

/-! ### Readings (R269, R272) -/

/-- A reading saturates at −40 °C and 150 °C, 1/16 °C. -/
def satTemp (x : Int) : Int := clampI (-640) 2400 x

/-- The scanner reads a sensor; the last ten readings are kept for proofs (R282). -/
def State.readSensor (s : State) (k : Nat) (x : Int) : State :=
  if sensorCount ≤ k then s
  else
    let t := satTemp x
    let s := s.putI (Fld.half THM_TEMP.reg k) t
    { s with lastTemps := Tab.set (fun _ => []) s.lastTemps k ((t :: Tab.get (fun _ => []) s.lastTemps k).take 10) }

/-- Median of a list that is not empty; the mean of the two middle values, rounded down, where their number is even. -/
def medianOf (l : List Int) : Int :=
  let a := sortBy (fun x y => decide (x ≤ y)) l
  let n := a.length
  if n % 2 = 1 then a.getD (n / 2) 0 else (a.getD (n / 2 - 1) 0 + a.getD (n / 2) 0) / 2

/-- A sensor is marked suspect; `m` is the median it was compared with (R272). -/
def State.markSensor (s : State) (k : Nat) (m : Int) : State :=
  if s.suspect k then s
  else
    let s := { s with devRun := Tab.set (fun _ => 0) s.devRun k 0 }.put (Fld.bit THM_SUSPECT.SENSOR k) 1
    ((s.bump THM_CNT_SUSPECT.COUNT).evt pgTHM 2).raise 0x29 [k, unsigned 32 (s.sensor k), unsigned 32 m]

/-- The cross-check of a sensor against the readings and marks at the start of the scan `s0`. -/
def State.crossCheck (s0 s : State) (k : Nat) : State :=
  let l := s0.readings (sensorNeighbours k)
  let m := medianOf l
  if s0.suspect k then s
  else if l.length < 3 ∨ (s0.sensor k - m).natAbs ≤ 4 * s.get THM_XCHK.DEV then { s with devRun := Tab.set (fun _ => 0) s.devRun k 0 }
  else
    let n := Tab.get (fun _ => 0) s.devRun k + 1
    let s := { s with devRun := Tab.set (fun _ => 0) s.devRun k n }
    if s.get THM_XCHK.HOLD ≤ n then s.markSensor k m else s

/-- THM_HOT_DIE and THM_HOT_BND: the hottest unsuspected sensor of a location, lowest index first. -/
def State.hotOf (s : State) (l : List Nat) : Option (Nat × Int) :=
  (l.filter fun k => !s.suspect k).foldl (fun b k =>
    match b with
    | none => some (k, s.sensor k)
    | some (j, t) => if t < s.sensor k then some (k, s.sensor k) else some (j, t)) none

def State.showHot (s : State) (sensor temp : Fld) (l : List Nat) : State :=
  match s.hotOf l with
  | some (k, t) => (s.put sensor k).putI temp t
  | none => s

/-- A yard without T_y is blind; the fault is raised as it becomes so (R273). -/
def State.blindCheck (s : State) (y : Nat) : State :=
  let b := (s.yardT y).isNone
  let was := (s.yard y).blind
  let s := if b = was then s else s.setYard y { s.yard y with blind := b }
  if b && !was then (s.evt pgTHM 3).raise 0x2A [y] else s

/-- The warning of a sensor (R274): logged once per crossing; HEAT ends in the yards it is mapped to. -/
def State.warnCheck (s : State) (k : Nat) : State :=
  if s.suspect k ∨ s.sensor k < ((16 * s.warnC k : Nat) : Int) then { s with warm := s.warm.filter (· != k) }
  else
    let s := if k ∈ s.warm then s
      else ({ s with warm := k :: s.warm }.bump THM_CNT_WARN.COUNT).evt pgTHM 0 |>.logEvent 0x0113 [k, unsigned 32 (s.sensor k)]
    ([s.get (THM_MAP.YARD_A k), s.get (THM_MAP.YARD_B k)].filter fun y => y < Config.yardCount).foldl State.endHeat s

/-! ### The trip latch (R276) -/

/-- OT_THERMTRIP latches: the rails lose STG_EN, every domain is isolated in D4, THM_TRIP is raised, and the pending byte tells it (R321). -/
def State.thermTrip (s : State) (k : Nat) : State :=
  let s := (((s.put THM_STATUS.TRIP 1).put THM_TRIP_SRC.SENSOR k).putI THM_TRIP_SRC.TEMP (s.sensor k)).evt pgTHM 6
  let s := [0, 1].foldl (fun s r => s.railDark r (if s.get (STG_RAIL.STATE r) = 7 then 7 else 0)) s
  let s := (s.powered 0 ++ s.powered 1).foldl (fun s d => s.loseDomain d stFailed) s
  let s := s.put PRT_MP.IBI_PEND (setBit (s.get PRT_MP.IBI_PEND) 3)
  (s.assertSource 0x2C).raise 0x2C [k, unsigned 32 (s.sensor k)]

/-- Two consecutive readings at or above the critical threshold trip the latch. -/
def State.critCheck (s : State) (k : Nat) : State :=
  let n := if !s.suspect k ∧ ((16 * s.critC k : Nat) : Int) ≤ s.sensor k then Tab.get (fun _ => 0) s.critRun k + 1 else 0
  let s := { s with critRun := Tab.set (fun _ => 0) s.critRun k (min 2 n) }
  if 2 ≤ n ∧ !s.on THM_STATUS.TRIP then s.thermTrip k else s

/-! ### Cold start (R281) -/

/-- A bonded-array wake in its warming hold: it ends when the coldest sensor reaches the target or the order turns; until
then the yard heats where R279 lets it. -/
def State.coldStep (s : State) (d : Nat) : State :=
  if !s.coldStart d then s
  else if !s.goesUp d then (s.endWarming d).resume d
  else if !s.tooCold d then s.warmingDone d
  else if (s.yard d).warmUse = 1 then s
  else
    let s := s.setYard d { s.yard d with warmUse := 2 }
    if s.heatAllowed d then s.heatYard d 8 Config.bayCount else s

/-- THM_COLD: the target is not reached in time, and the wake fails. -/
def thmColdEff (d : Nat) (s : State) : State :=
  if Config.yardCount ≤ d ∨ !s.coldStart d then s
  else
    let t := (s.yardCold d).getD 0
    ((s.raise 0x2B [d, unsigned 32 t]).endWarming d).failOrder d

/-- The yard of a sensor proof heats at L = 8, from when R279 allows it again (R279, R280). -/
def State.proofHeat (s : State) : State :=
  match s.proof with
  | some y => if s.inWayOn ∧ s.heatAllowed y then s.heatYard y 8 Config.bayCount else s
  | none => s

/-! ### The scan -/

/-- The readings as the running 10 ms window last holds them (R406). -/
def State.holdTemps (s : State) : State :=
  ((List.range sensorCount).foldl (fun s k => s.hold10 (Fld.half THM_TEMP.reg k).key (s.sensor k)) s
    |>.hold10 THM_HOT_DIE.TEMP.key (s.getI THM_HOT_DIE.TEMP)).hold10 THM_HOT_BND.TEMP.key (s.getI THM_HOT_BND.TEMP)

/-- THERMAL_SCAN (R269); the 100 µs of the clusters' diode means end with it (R171). -/
def thermalScanEff (temps : List (Nat × BitVec 16)) (s : State) : State :=
  let ks := List.range sensorCount
  let s := temps.foldl (fun s p => s.readSensor p.1 p.2.toInt) s
  let s := ks.foldl (State.crossCheck s) s
  let s := (s.showHot THM_HOT_DIE.SENSOR THM_HOT_DIE.TEMP (ks.take 256)).showHot THM_HOT_BND.SENSOR THM_HOT_BND.TEMP (ks.drop 256) |>.holdTemps
  let s := (List.range Config.yardCount).foldl State.blindCheck s
  let s := ks.foldl State.warnCheck s
  let s := ks.foldl State.critCheck s
  let s := (List.range Config.clusterCount).foldl State.tempMean s
  ((List.range Config.yardCount).foldl State.coldStep s).proofHeat

/-! ### Compensation (R277) -/

/-- THM_OSC_COMP entry j. -/
def State.oscEntry (s : State) (j : Nat) : Int :=
  s.getI (if j % 2 = 1 then THM_OSC_COMP.C_ODD (j / 2) else THM_OSC_COMP.C_EVEN (j / 2))

/-- The backup oscillator's trim at a temperature, 1/176 of 2^-20; beyond the table no result is stated: a free value. -/
def State.oscTrimAt (s : State) (t : Int) : Int × State :=
  let x := t + 640
  if 0 ≤ x ∧ x ≤ 15 * 176 then
    let j := min 14 (x / 176).toNat
    let f := x - 176 * j
    (s.oscEntry j * (176 - f) + s.oscEntry (j + 1) * f, s)
  else let (v, s) := s.fresh 9; ((v : Int), s)

/-- COMPENSATION_UPDATE: the oscillator's trim, and the short-circuit comparators of X24 and X25 scaled by
(2^20 + C(T) − C(TCAL)) / 2^20, kept in 1/176 of 2^-20. -/
def compensationEff (diode : Int) (s : State) : State :=
  let (v, s) := s.oscTrimAt diode
  let scale (n : Nat) : Int := scUnity + s.comp176 n (s.sxtT n) - s.comp176 n (s.getI (SXT_COMP_CFG.TCAL n))
  { s with oscTrim := v, scScale := Tab.set (fun _ => scUnity) (Tab.set (fun _ => scUnity) s.scScale 24 (scale 24)) 25 (scale 25) }

/-! ### Sensor proofs (R282) -/

/-- R279 allows at least one bay of a yard in HEAT now. -/
def State.mayHeat (s : State) (y : Nat) : Bool :=
  decide (y < Config.yardCount) && s.heatAllowed y && s.heatRoom y != 0 && (s.hotBays y != [] || s.heatable y != [])

/-- The sensors whose YARD_A is y. -/
def State.ownSensors (s : State) (y : Nat) : List Nat := (List.range sensorCount).filter fun k => s.get (THM_MAP.YARD_A k) == y

/-- A proof starts: the readings before heating are kept, the yard heats at L = 8. Answers whether it did. -/
def State.startProof (s : State) (y : Nat) : State × Bool :=
  if s.proof.isSome ∨ !s.inWayOn ∨ !s.mayHeat y then (s, false)
  else
    let base := (s.ownSensors y).foldl (fun t k => Tab.set (fun _ => []) t k (Tab.get (fun _ => []) s.lastTemps k)) []
    let s := { s with proof := some y, proofBase := base }
    let s := s.setYard y { s.yard y with warmUse := 1 }
    (s.heatYard y 8 Config.bayCount, true)

/-- THM_PROOF.GO: KERN or MGMT; BUSY where it cannot start. -/
def State.proofGo (s : State) (y : Nat) : State :=
  let (s, ok) := s.startProof y
  s.put THM_PROOF_RES.RESULT (if ok then 0 else 2)

/-- An automatic proof of a yard is due (R282): in the first hour of way-on, of the first yard not yet proved that R279 allows; after
that, of the YARD_A of a suspect sensor, once per hour. -/
def State.proofDue (s : State) (y : Nat) : Bool :=
  let hour := ns 3600000000000
  match s.wayOnAt with
  | none => false
  | some t =>
    if s.mono < t + hour then
      s.proved.all (·.1 != y) && ((List.range y).all fun z => s.proved.any (·.1 == z) || !s.mayHeat z)
    else ((s.ownSensors y).any s.suspect) && s.proved.all fun p => p.1 != y || decide (max p.2 t + hour ≤ s.mono)

/-- SENSOR_PROOF_AUTO. -/
def proofAutoEff (y : Nat) (s : State) : State :=
  if !s.proofDue y then s
  else
    let (s', ok) := s.startProof y
    if ok then { s' with proved := (s'.proved.filter (·.1 != y)) ++ [(y, s.mono)] } else s

/-- Mean of up to ten readings, in 1/2520 of 1/16 °C, so that it is exact. -/
def meanOf (l : List Int) : Int := if l = [] then 0 else 2520 * l.sum / l.length

/-- Rise of a sensor over its readings before heating, in the unit of `meanOf`. -/
def State.riseOf (s : State) (k : Nat) : Int :=
  meanOf (Tab.get (fun _ => []) s.lastTemps k) - meanOf (Tab.get (fun _ => []) s.proofBase k)

/-- A sensor passes its proof: its rise is large enough, and like that of its unsuspected neighbours mapped to the yard (R272,
R282). -/
def State.proves (s : State) (y k : Nat) : Bool :=
  let r := s.riseOf k
  let l := ((sensorNeighbours k).filter fun j => s.mapsTo j y && !s.suspect j).map s.riseOf
  decide (2520 * 4 * (s.get THM_PROOF_CFG.MIN_RISE : Int) ≤ r)
    && (l == [] || decide ((r - medianOf l).natAbs ≤ 2520 * 4 * s.get THM_PROOF_CFG.MAX_DIFF))

/-- The verdict on a sensor: `s0` is the state in which the proof ended. -/
def State.judgeSensor (s0 : State) (y : Nat) (s : State) (k : Nat) : State :=
  if s0.proves y k then
    ({ s with devRun := Tab.set (fun _ => 0) s.devRun k 0 }.put (Fld.bit THM_SUSPECT.SENSOR k) 0).bump THM_PROOF_RES.PROVED
  else (s.markSensor k (medianOf (s0.readings (sensorNeighbours k)))).bump THM_PROOF_RES.FAILED

/-- SENSOR_PROOF_END. -/
def proofEndEff (s : State) : State :=
  match s.proof with
  | none => s
  | some y =>
    let s := (s.ownSensors y).foldl (State.judgeSensor s y) s
    let s := { s.endWarming y with proof := none, proofBase := [] }
    (s.put THM_PROOF_RES.RESULT 1).evt pgTHM 4

/-! ### Preconditioning and station warming (R280) -/

/-- THM_PRECOND.GO: the yard must be in the maintenance state; one preconditioning runs at a time. -/
def State.precondGo (s : State) (y : Nat) : State :=
  let s := s.endPrecond
  if Config.yardCount ≤ y ∨ !s.on (Fld.bit SXT_MAINT_NOW.YARD y) then (s.put THM_PRECOND.RESULT 2).evt pgTHM 5
  else
    let v := s.yard y
    let s := s.setYard y { v with
      warmHeld := 0, warmSteps := 0, warmMet := false, warmUse := if v.warmUse = 0 ∨ v.warmUse = 4 then 3 else v.warmUse }
    { s with precond := some y }.put THM_PRECOND.RESULT 3

/-- The level follows a target: up below `lo`, down above `hi`, 1/16 °C. -/
def nextLevel (l : Nat) (t lo hi : Int) : Nat := if t < lo then min 8 (l + 1) else if hi < t then l - 1 else l

/-- A yard heats at its next level where R279 lets it. -/
def State.stepHeat (s : State) (y use : Nat) (lo hi : Int) : State :=
  let s := s.setYard y { s.yard y with warmUse := use }
  match s.yardT y with
  | none => s
  | some t =>
    let l := nextLevel (s.yard y).warmLevel t lo hi
    if s.heatAllowed y then s.heatYard y l Config.bayCount else s

/-- A step of preconditioning: the level, the time on target, and the end after 5 s without reaching it. -/
def State.precondStep (s : State) (y : Nat) : State :=
  let goal : Int := ((16 * s.get THM_PRECOND.TARGET : Nat) : Int)
  let on : Bool := match s.yardT y with | some t => decide ((t - goal).natAbs ≤ 32) | none => false
  let v := s.yard y
  let s := if v.warmUse = 1 ∨ v.warmUse = 2 then s else s.stepHeat y 3 goal goal
  let v := s.yard y
  let s := s.setYard y { v with warmHeld := if on then v.warmHeld + 1 else 0, warmSteps := v.warmSteps + 1, warmMet := v.warmMet || on }
  if s.get THM_PRECOND.RESULT ≠ 3 then s
  else if 100 ≤ (s.yard y).warmHeld then (s.put THM_PRECOND.RESULT 1).evt pgTHM 5
  else if 50000 ≤ v.warmSteps + 1 ∧ !(s.yard y).warmMet then ((s.put THM_PRECOND.RESULT 2).evt pgTHM 5).endPrecond
  else s

/-- Station warming applies (R280 rank 4). -/
def State.stationWarms (s : State) : Bool :=
  s.get CAP_STATUS.MODE_NOW == 2 && s.on THM_WARM_CTRL.STATION_EN && s.get CAP_STATUS.RUNG == 0
    && decide (s.cap.history.headD 0 ≤ 1000 * s.get CAP_DEV_NOW.IN_FORCE)

/-- A step of station warming on a logic yard that no higher use heats. -/
def State.stationStep (s : State) (y : Nat) : State :=
  let v := s.yard y
  let goal : Int := ((16 * s.get THM_WARM.STATION_TARGET : Nat) : Int)
  if !Config.isLogic y ∨ (v.warmUse ≠ 0 ∧ v.warmUse ≠ 4) then s
  else if s.stationWarms then s.stepHeat y 4 (goal - 32) goal
  else if v.warmUse = 4 then s.endWarming y else s

/-- WARMING_LEVEL_STEP. -/
def warmingStepEff (s : State) : State :=
  let s := match s.precond with | some y => s.precondStep y | none => s
  (List.range Config.yardCount).foldl State.stationStep s

/-! ### The commands -/

/-- THERMAL_SCAN. -/
def execThermalScan (temps : List (Nat × BitVec 16)) (s : State) : Out :=
  s.after (thermalScanEff temps s)

/-- COMPENSATION_UPDATE. -/
def execCompensationUpdate (diode : Int) (s : State) : Out :=
  s.after (compensationEff diode s)

/-- SENSOR_PROOF_AUTO. -/
def execSensorProofAuto (yard : Nat) (s : State) : Out :=
  s.after (proofAutoEff yard s)

/-- SENSOR_PROOF_END. -/
def execSensorProofEnd (s : State) : Out :=
  s.after (proofEndEff s)

/-- WARMING_LEVEL_STEP. -/
def execWarmingLevelStep (s : State) : Out :=
  s.after (warmingStepEff s)

/-- THM_COLD. -/
def execThmCold (dom : Nat) (s : State) : Out :=
  s.after (thmColdEff dom s)

end Sys2Proof.Machine
end

