-- ==== Sys2Proof/Machine/Logbook.lean ====
section
/-!
DEFINITION. The logbook (R388-R398): the form of a record and of a slot, where a record goes, time-keeping, tokens, the
freeze, reading and erasing.
-/

namespace Sys2Proof.Machine

/-! ### Records and slots (R388-R390) -/

/-- Where record i lies in flash (R388). -/
def recordAt (i : Nat) : Nat := 0x710000 + 32 * i

/-- First record of ranked sector k (R388). -/
def sectorFirst (k : Nat) : Nat := 8192 + 2048 * k

/-- Bytes 0-30 of a record (R389); byte 30 stays erased. -/
def State.recordBytes (s : State) (r : LogRec) : List Byte :=
  let body := le 2 r.code ++ le 1 (r.sev + r.flags) ++ le 1 r.src ++ le 4 r.secs ++ le 3 (s.get LOG_CYCLE.COUNT)
    ++ le 1 s.logSeq ++ (List.range 4).flatMap fun k => le 4 (r.p.getD k 0)
  body ++ le 2 (crc16 body) ++ [0xFF]

/-- How a slot reads (R390), coded as LOG_RD_RES.RESULT (R401). -/
def slotState (b : List Byte) : Nat :=
  if b.all (· == 0xFF) then 2
  else if b.getD 31 0 ≠ 0x5A then 3
  else if b.getD 30 0 = 0xFF ∧ ofLe ((b.drop 28).take 2) = crc16 (b.take 28) then 1
  else 4

/-- The 32 bytes of record i. -/
def State.slotBytes (s : State) (i : Nat) : List Byte := s.flashBytes (recordAt i) 32

/-- Slot i is EMPTY. -/
def State.slotEmpty (s : State) (i : Nat) : Bool := (s.slotBytes i).all (· == 0xFF)

/-- The first EMPTY slot among n from i on: the writer passes over any other (R390). -/
def State.firstEmpty (s : State) (i n : Nat) : Option Nat := (List.range' i n).find? s.slotEmpty

/-- The two program operations of a record (R390), the log's count and sequence. -/
def State.programRecord (s : State) (i : Nat) (r : LogRec) : State :=
  let s := s.program (recordAt i) (s.recordBytes r)
  let s := s.program (recordAt i + 31) [0x5A]
  { s with logSeq := (s.logSeq + 1) % 256 }.bump LOG_CNT_WRITTEN.COUNT

/-! ### Ranked sectors (R395, R396) -/

/-- LOG_SECT nibble of a sector: highest severity, or 8 erased. -/
def sectSev (k : Nat) : Fld := ⟨(LOG_SECT.SEV (k / 8)).addr, k % 8 * 4, 4⟩

/-- Age of a sector by its first record: power cycle, then operating seconds (R395). -/
def State.sectorAge (s : State) (k : Nat) : Nat :=
  let b := s.slotBytes (sectorFirst k)
  ofLe ((b.drop 8).take 3) * 2 ^ 32 + ofLe ((b.drop 4).take 4)

/-- The smallest of a list under a measure, the first among equals. -/
def minBy (f : Nat → Nat) (l : List Nat) : Option Nat :=
  l.foldl (fun b k => match b with | none => some k | some j => if f k < f j then some k else some j) none

/-- LOG_OLDEST: the oldest ranked sector that is not erased. -/
def State.refreshOldest (s : State) : State :=
  match minBy s.sectorAge ((List.range 60).filter fun k => s.get (sectSev k) != 8) with
  | some k => s.put LOG_OLDEST.SECTOR k
  | none => s.put LOG_OLDEST.SECTOR 0

/-- The lowest-numbered erased sector. -/
def State.erasedSector (s : State) : Option Nat := (List.range 60).find? fun k => s.get (sectSev k) == 8

/-- The victim (R395): the lowest highest severity, then the oldest, then the lowest number; never the sector being filled. -/
def State.victim (s : State) : Option Nat :=
  let l := (List.range 60).filter fun k => s.curSector != some k
  match minBy (fun k => s.get (sectSev k)) l with
  | none => none
  | some j => minBy s.sectorAge (l.filter fun k => s.get (sectSev k) == s.get (sectSev j))

/-- A sector is erased. -/
def State.eraseSector (s : State) (k : Nat) : State :=
  ((s.eraseFlash (recordAt (sectorFirst k)) 0x10000).put (sectSev k) 8).bump LOG_CNT_ERASE.COUNT

/-- A record goes into slot i of sector k, which is then the one being filled. -/
def State.rankRecord (s : State) (k i : Nat) (r : LogRec) : State :=
  let new := s.get (sectSev k) == 8
  let s := { s.programRecord i r with curSector := some k }
  let s := (s.put (sectSev k) (if new then r.sev else max (s.get (sectSev k)) r.sev)).put LOG_POS.NEXT (i + 1)
  if new then s.refreshOldest else s

/-- The ranked region is full: a first victim is chosen, or a record dropped. -/
def State.rankFull (s : State) : State :=
  if s.on LOG_STATUS.RANK_FULL then s else (s.put LOG_STATUS.RANK_FULL 1).evt pgLOG 3

/-- A record finds the current sector full (R395). -/
def State.nextSector (s : State) (r : LogRec) : State :=
  match s.erasedSector with
  | some k => s.rankRecord k (sectorFirst k) r
  | none =>
    let s := s.rankFull
    match s.victim with
    | none => s
    | some k =>
      if s.get (sectSev k) ≤ r.sev then (s.eraseSector k).rankRecord k (sectorFirst k) r
      else s.bump LOG_CNT_RANKDROP.COUNT

/-- A record for the ranked region. -/
def State.writeRanked (s : State) (r : LogRec) : State :=
  match s.curSector with
  | none => s.nextSector r
  | some k =>
    let from_ := max (sectorFirst k) (s.get LOG_POS.NEXT)
    match if from_ < sectorFirst k + 2048 then s.firstEmpty from_ (sectorFirst k + 2048 - from_) else none with
    | some i => s.rankRecord k i r
    | none => s.nextSector r

/-- The first-events region has no EMPTY slot left: it takes no record until it is erased. -/
def State.firstFull (s : State) : State :=
  let s := (s.put LOG_STATUS.FIRST_FULL 1).evt pgLOG 2
  match s.curSector, s.erasedSector with
  | none, some k => s.put LOG_POS.NEXT (sectorFirst k)
  | _, _ => s

/-- Where a record goes (R395): the first-events region while it has an EMPTY slot, then the ranked region. -/
def State.writeRecord (s : State) (r : LogRec) : State :=
  if s.on LOG_STATUS.FIRST_FULL then s.writeRanked r
  else
    match s.firstEmpty (s.get LOG_POS.NEXT) (8192 - s.get LOG_POS.NEXT) with
    | none => (s.firstFull).writeRanked r
    | some i =>
      let s := (s.programRecord i r).put LOG_POS.NEXT (i + 1)
      match s.firstEmpty (i + 1) (8192 - (i + 1)) with
      | none => s.firstFull
      | some _ => s

/-- Records wait in staging (R394). -/
def State.stagingWaits (s : State) : Bool :=
  s.on LOG_STATUS.FROZEN || s.logErase.isSome || s.on LOG_STATUS.SCANNING || s.flashOp != .none

/-- A program or an erase of the flash port is in progress. -/
def State.flashWrites (s : State) : Bool :=
  match s.flashOp with
  | .none => false
  | .fls op _ _ _ => op == 1 || op == 2

/-- The core that writes the logbook's records: the helm pair in boot and dead-slow service, then SC1, or SC0 where SC1 is out (R27, R30,
R394). -/
def State.logUnit (s : State) : Nat :=
  if s.get GLB_SERVICE.STATE ≤ 1 then 4 else if s.on HLM_STATUS.SC1_OUT then 5 else 6

/-- LOG_RECORD_PROGRAM: the oldest staged record is written. It stands at address 0 of the staging memory, where the core reads it
(DESIGN CHOICE, assumption log 39). -/
def logProgramEff (s : State) : State :=
  match s.log with
  | [] => s
  | r :: t =>
    if s.stagingWaits then s
    else
      let s := { s with log := t }.put LOG_STATUS.STAGED t.length
      match r.err with
      | none => s.writeRecord r
      | some false => (s.writeRecord r).memCe 9 0 { unit := s.logUnit, access := 1 }
      | some true => (s.bump LOG_CNT_STAGEDROP.COUNT).memUe 9 0

/-! ### Time-keeping and tokens (R391, R393) -/

/-- Time-keeping sectors A and B (R388), and their slots. -/
def tkAt (sector slot : Nat) : Nat := 0xB10000 + 0x10000 * sector + 8 * slot

/-- A slot of operating seconds and power-cycle count is written; a full sector is followed by the other, erased. -/
def State.saveTime (s : State) : State :=
  let s := if s.tkSlot < 8192 then s
    else
      let o := 1 - s.tkSector
      { s.eraseFlash (tkAt o 0) 0x10000 with tkSector := o, tkSlot := 0 }
  let s := s.program (tkAt s.tkSector s.tkSlot) (le 4 s.opSecs ++ le 3 (s.get LOG_CYCLE.COUNT) ++ [0x5A])
  { s with tkSlot := s.tkSlot + 1 }

/-- LOG_TIME_SAVE; nothing is programmed while the logbook is frozen (R397). -/
def timeSaveEff (s : State) : State :=
  let s := if s.on LOG_STATUS.FROZEN then s else s.saveTime
  (s.supp.map Prod.fst).foldl State.flushSupp s

/-- LOG_TOKEN_REFILL. -/
def tokenRefillEff (s : State) : State :=
  { s with tokens := (s.tokens.map fun e => (e.1, min 64 (e.2 + 1))).filter fun e => e.2 != 64 }

/-! ### The freeze (R397) -/

/-- The freeze takes effect once no program or erase is in progress. -/
def State.freezeNow (s : State) : State :=
  if s.on LOG_CTRL.FREEZE ∧ !s.on LOG_STATUS.FROZEN ∧ !s.flashWrites ∧ s.logErase = none then
    let s := { s with frozenStaged := 0, frozenDropped := 0 }
    let s := (s.put LOG_STATUS.FROZEN 1).evt pgLOG 1
    { s with logTag := none }.finishOpt s.logTag stDone 0 0
  else s

/-- FREEZE is set; a freeze while frozen changes nothing. -/
def State.freezeLog (s : State) (tag : Option CmdTag) : State :=
  if s.on LOG_STATUS.FROZEN then s.finishOpt tag stDone 0 0
  else { s.put LOG_CTRL.FREEZE 1 with logTag := tag }.freezeNow

/-- The freeze is released: what is staged will carry STAGED, and a LOG_FREEZE record follows. -/
def State.releaseLog (s : State) : State :=
  let s := s.put LOG_CTRL.FREEZE 0
  if !s.on LOG_STATUS.FROZEN then { s with logTag := none }.finishOpt s.logTag stDone 0 0
  else
    let mark (r : LogRec) : LogRec := { r with flags := r.flags ||| 0x10 }
    let (n, d) := (s.frozenStaged, s.frozenDropped)
    ({ s with log := s.log.map mark }.put LOG_STATUS.FROZEN 0).logEvent 0x0206 [0, n, d]

/-- LOG_FREEZE_EXPIRY: FREEZE_MAX seconds have passed; 0 is no limit. -/
def freezeExpiryEff (s : State) : State :=
  if s.on LOG_STATUS.FROZEN ∧ s.on LOG_CTRL.FREEZE_MAX then s.releaseLog else s

/-! ### Reading and erasing (R398) -/

/-- LOG_RD.GO: a record by index, its words and its state; BUSY while the flash port or a logbook erase is at work. -/
def State.logRead (s : State) (i : Nat) : State :=
  let s := s.put LOG_RD_RES.INDEX i
  if s.flashOp ≠ .none ∨ s.logErase.isSome then (s.put LOG_RD_RES.RESULT 5).evt pgLOG 0
  else
    let b := s.slotBytes i
    let s := (List.range 8).foldl (fun s j => s.put (LOG_RD_DATA.DATA j) (ofLe ((b.drop (4 * j)).take 4))) s
    (s.put LOG_RD_RES.RESULT (slotState b)).evt pgLOG 0

/-- A keyed write of LOG_ERASE starts an erase. -/
def State.startErase (s : State) (region : Nat) : State :=
  if s.logErase.isSome then s else { s with logErase := some region }.put LOG_STATUS.ERASING 1

/-- LOG_ERASE_DONE; while the logbook is frozen no erase touches it. -/
def eraseDoneEff (s : State) : State :=
  match s.logErase with
  | none => s
  | some region =>
    if s.on LOG_STATUS.FROZEN then s
    else
      let s := s.eraseFlash 0x750000 (60 * 0x10000)
      let s := (List.range 60).foldl (fun s k => s.put (sectSev k) 8) s
      let s := (s.bumpBy LOG_CNT_ERASE.COUNT 60).put LOG_STATUS.RANK_FULL 0
      let s := if region = 2 then
          (((s.eraseFlash 0x710000 0x40000).bumpBy LOG_CNT_ERASE.COUNT 4).put LOG_STATUS.FIRST_FULL 0).put LOG_POS.NEXT 0
        else if s.on LOG_STATUS.FIRST_FULL then s.put LOG_POS.NEXT (sectorFirst 0) else s
      let s := { s with curSector := none, logErase := none }.put LOG_STATUS.ERASING 0
      (s.refreshOldest.logEvent 0x0207 [region]).freezeNow

/-! ### The start scan (R396) -/

/-- The scan of a ranked sector: its highest severity, or erased; slots that read TORN or CRC are counted. -/
def State.scanSector (s : State) (k : Nat) : State :=
  let states := (List.range 2048).map fun j => (j, slotState (s.slotBytes (sectorFirst k + j)))
  let bad := (states.filter fun p => p.2 == 3 || p.2 == 4).length
  let sevs := (states.filter fun p => p.2 == 1).map fun p => ((s.slotBytes (sectorFirst k + p.1)).getD 2 0).toNat % 8
  let s := s.bumpBy LOG_CNT_BADREC.COUNT bad
  s.put (sectSev k) (if states.all (fun p => p.2 == 2) then 8 else sevs.foldl max 0)

/-- The sector being filled: not erased, with an EMPTY slot; the newest by age where there are several. -/
def State.openSector (s : State) : Option Nat :=
  let l := (List.range 60).filter fun k => s.get (sectSev k) != 8 && (s.firstEmpty (sectorFirst k) 2048).isSome
  l.foldl (fun b k => match b with | none => some k | some j => if s.sectorAge j ≤ s.sectorAge k then some k else some j) none

/-- The largest sequence among the VALID records (R396). -/
def State.largestSeq (s : State) : Nat :=
  (((List.range 131072).filter fun i => slotState (s.slotBytes i) == 1).map fun i => ((s.slotBytes i).getD 11 0).toNat).foldl max 0

/-- LOG_SCAN: the next slot, the sectors' severities and ages, the largest sequence; staging then drains. -/
def State.scanLog (s : State) : State :=
  let s := { s with logTop := s.largestSeq }
  let first := (List.range 8192).map fun i => slotState (s.slotBytes i)
  let s := s.bumpBy LOG_CNT_BADREC.COUNT ((first.filter fun x => x == 3 || x == 4).length)
  let s := (List.range 60).foldl State.scanSector s
  let s := { s with curSector := s.openSector }
  let s := match s.firstEmpty 0 8192 with
    | some i => (s.put LOG_STATUS.FIRST_FULL 0).put LOG_POS.NEXT i
    | none =>
      let s := s.put LOG_STATUS.FIRST_FULL 1
      match s.curSector with
      | some k => s.put LOG_POS.NEXT ((s.firstEmpty (sectorFirst k) 2048).getD (sectorFirst k))
      | none => s.put LOG_POS.NEXT (sectorFirst (s.erasedSector.getD 0))
  (s.refreshOldest.put LOG_STATUS.SCANNING 0).evt pgLOG 5

/-- LOG_SCAN ends once, after the image read has ended with any result (R396). -/
def logScanEff (s : State) : State := if s.on LOG_STATUS.SCANNING ∧ s.on GLB_SERVICE.FW_RESULT then s.scanLog else s

/-! ### The commands -/

/-- LOG_RECORD_PROGRAM. -/
def execLogRecordProgram (s : State) : Out :=
  s.after (logProgramEff s)

/-- LOG_TIME_SAVE. -/
def execLogTimeSave (s : State) : Out :=
  s.after (timeSaveEff s)

/-- LOG_TOKEN_REFILL. -/
def execLogTokenRefill (s : State) : Out :=
  s.after (tokenRefillEff s)

/-- LOG_FREEZE_EXPIRY. -/
def execLogFreezeExpiry (s : State) : Out :=
  s.after (freezeExpiryEff s)

/-- LOG_ERASE_DONE. -/
def execLogEraseDone (s : State) : Out :=
  s.after (eraseDoneEff s)

/-- LOG_SCAN. -/
def execLogScan (s : State) : Out :=
  s.after (logScanEff s)

end Sys2Proof.Machine
end

