-- ==== Sys2Proof/Machine/Flash.lean ====
section
/-!
DEFINITION. The flash port and the boot image (R355, R356, R366, R369): rights by region, the operations of FLS_CTRL, and the
verification of a firmware image.
-/

namespace Sys2Proof.Machine

/-! ### The image (R355, R366) -/

/-- Image length L of the boot header. -/
def State.imageLen (s : State) : Nat := ofLe (s.flashBytes 8 4)

/-- Check 1: magic, format, header length, L. -/
def State.headerGood (s : State) : Bool :=
  let h := s.flashBytes 0 256
  h.take 4 == [0x4F, 0x54, 0x42, 0x48] && ofLe ((h.drop 4).take 2) == 1 && ofLe ((h.drop 6).take 2) == 256
    && s.imageLen % 16 == 0 && decide (4096 ≤ s.imageLen) && decide (s.imageLen ≤ 2097152)

/-- Check 4: the signature over header bytes 0x000-0x04F. -/
def State.signatureGood (s : State) : Bool :=
  let (x, y) := Config.vendorKey (ofLe (s.flashBytes 0x14 1))
  ecdsaOk x y (sha384 (s.flashBytes 0 0x50)) (ofBe (s.flashBytes 0x50 48)) (ofBe (s.flashBytes 0x80 48))

/-- Verification of the image, coded as GLB_SERVICE.FW_RESULT: the first check that fails gives the result. -/
def State.verifyImage (s : State) (readErr : Bool) : Nat :=
  if !s.headerGood then 2
  else if readErr then 6
  else if 2 ≤ ofLe (s.flashBytes 0x14 1) then 3
  else if !s.signatureGood then 4
  else if sha384 (s.flashBytes 0x10000 s.imageLen) ≠ s.flashBytes 0x20 48 then 5
  else 1

/-! ### Regions and rights (R356, R369) -/

/-- Who may program and erase a byte of flash. -/
inductive FlashRight where
  | both | mgmt | oteus
deriving DecidableEq, Repr

/-- The region of a byte. -/
def flashRight (a : Nat) : FlashRight :=
  if a < 0x210000 then .both else if a < 0x310000 then .mgmt else if a < 0x710000 then .both else if a < 0xB30000 then .oteus else .mgmt

/-- A class may change a byte. -/
def FlashRight.allows (r : FlashRight) (c : Cls) : Bool :=
  match r with
  | .both => c == .kern || c == .mgmt
  | .mgmt => c == .mgmt
  | .oteus => false

/-- The bytes an operation touches: offset and length. -/
def State.flsRange (s : State) (op : Nat) : Nat × Nat :=
  let a := s.get FLS_ADDR.ADDR
  if op = 2 then (a / 0x10000 * 0x10000, 0x10000) else (a, s.get FLS_LEN.LEN)

/-- A range has the rights: regions are wider than an operation, so its ends decide. -/
def rangeAllowed (c : Cls) (a n : Nat) : Bool := (flashRight a).allows c && (flashRight (a + n - 1)).allows c

/-- How a GO ends at once, if it does: 2 DENIED, 3 RANGE, 4 BUSY (R354, R369). -/
def State.flsRefusal (s : State) (op : Nat) (c : Cls) : Option Nat :=
  let (a, n) := s.flsRange op
  let len := s.get FLS_LEN.LEN
  if s.on FLS_STATUS.BUSY then some 4
  else if op = 3 then none
  else if (op = 1 ∨ op = 2) ∧ !s.on FLS_SFDP.OK then some 2
  else if 3 < op then some 3
  else if op ≠ 2 ∧ (len = 0 ∨ 256 < len) ∨ 0x2000000 < a + n ∨ op = 1 ∧ 256 < a % 256 + len then some 3
  else if op ≠ 0 ∧ !rangeAllowed c a n then some 2
  else none

/-- FLS_CTRL.GO: the operation keeps the bytes that its rights were judged by. -/
def State.flsGo (s : State) (op : Nat) (q : Requester) : State :=
  match s.flsRefusal op (clsOf q) with
  | some r => (s.put FLS_STATUS.RESULT r).evt pgFLS 0
  | none => { s with flashOp := .fls op q (s.flsRange op).1 (s.flsRange op).2 }.put FLS_STATUS.BUSY 1

/-- Byte k of FLS_BUF. -/
def bufByte (k : Nat) : Fld := Fld.byte FLS_BUF.DATA k

/-- What an operation on n bytes does to flash or to FLS_BUF. -/
def State.flsDo (s : State) (op a n : Nat) : State :=
  if op = 0 then (List.range n).foldl (fun s k => s.put (bufByte k) (s.flashAt (a + k)).toNat) s
  else if op = 1 then s.program a ((List.range n).map fun k => BitVec.ofNat 8 (s.get (bufByte k)))
  else if op = 2 then s.eraseFlash a n
  else s.put FLS_STATUS.VERIFY (s.verifyImage false)

/-- FLS_OP_DONE. -/
def flsDoneEff (err : Bool) (s : State) : State :=
  match s.flashOp with
  | .none => s
  | .fls op _ a n =>
    let s := if err then (if op = 3 then s.put FLS_STATUS.VERIFY (s.verifyImage true) else s) else s.flsDo op a n
    let s := { s with flashOp := .none }.put FLS_STATUS.BUSY 0
    ((s.put FLS_STATUS.RESULT (if err then 5 else 1)).evt pgFLS 0).freezeNow

/-! ### The commands -/

/-- FLS_OP_DONE. -/
def execFlsOpDone (err : Bool) (s : State) : Out :=
  s.after (flsDoneEff err s)

end Sys2Proof.Machine
end

