-- ==== Sys2Proof/Machine/Faults.lean ====
section
/-!
DEFINITION. The fault collector's own events (R371, R372, R377, R382, R383): broken pairs, acknowledgement, the end of
holding course, and injection.
-/

namespace Sys2Proof.Machine

/-- FLT_WIRE of a unit: its bit, the counter, the event, the fault (R372). -/
def State.wireBreak (s : State) (unit kind : Nat) : State :=
  let s := s.put (Fld.bit FLT_WIRE.UNIT unit) 1
  ((s.bump FLT_CNT_WIRE.COUNT).evt pgFLT 6).raise 0x04 [unit, kind]

/-- FLT_WIRE. -/
def fltWireEff (unit kind : Nat) (s : State) : State := if isUnit unit ∧ 1 ≤ kind ∧ kind ≤ 3 then s.wireBreak unit kind else s

/-- FLT_WIRE_CLEAR. -/
def fltWireClearEff (unit : Nat) (s : State) : State := if isUnit unit then s.put (Fld.bit FLT_WIRE.UNIT unit) 0 else s

/-- Acknowledgement of a class: FLT_PEND, and every FLT_ACT bit whose latest raising had that class (R377). -/
def State.ackClass (s : State) (c : Nat) : State :=
  let gone := s.act.filter fun (x : Nat × Nat) => x.2 == c
  let s := s.put (pendBit c) 0
  let s := gone.foldl (fun s (x : Nat × Nat) => s.put (Fld.bit FLT_ACT.CODE x.1) 0) s
  { s with act := s.act.filter fun (x : Nat × Nat) => x.2 != c }

/-- A write of FLT_PEND: bit 0 C, 1 K, 2 F. -/
def State.fltAck (s : State) (bits : Nat) : State :=
  (((List.range 3).filter (tb bits)).foldl State.ackClass s).refreshPair

/-- Holding course may end (R382): HOLD, no source asserting, fewer than 8 recoveries. -/
def State.mayRecover (s : State) : Bool := s.holding && !s.on FLT_STATUS.F_ASSERT && decide (s.get FLT_REC.COUNT < 8) && !s.on FLT_STATUS.LATCHED

/-- The quiet period has passed (R382). -/
def State.quietOver (s : State) : Bool := s.mayRecover && decide (s.quietFrom + ns (1000000000 * s.get FLT_QUIET.SECONDS) ≤ s.mono)

/-- Holding course ends: `how` 0 quiet period, 1 RESUME; floors that waited and postponed plans go on (R380, R382). -/
def State.recover (s : State) (how : Nat) : State :=
  let s := (s.put FLT_STATUS.HOLD 0).put FLT_REC.COUNT (s.get FLT_REC.COUNT + 1)
  let s := (s.logEvent 0x0204 [s.get FLT_REC.COUNT, how]).evt pgFLT 5
  let s := (List.range Config.yardCount).foldl (fun s y => s.freeFloor s y) s.refreshPair
  s.resumePlan

/-- A memory of R384. -/
def isMemory (m : Nat) : Bool := m < 10

/-- FLT_INJ.GO with a mode, a target and a code: whether it is taken (R383). -/
def State.injectOk (s : State) (mode target code : Nat) : Bool :=
  if mode ≤ 1 then !s.on FLT_INJ.ARMED && isMemory target
  else if mode = 2 then !s.on FLT_INJ.ARMED && isUnit target && code != 0x2C && unitRaises target code
  else !s.on FLT_INJ.ARMED && isUnit target

/-- FLT_INJ.GO that is taken: MODES 0 and 1 arm, 2 raises, 3 breaks a pair. A PLL_UNLOCK so raised counts with the others and is an event
of the CLK page (R426); the clocks stay as they are. -/
def State.injectGo (s : State) (mode target code : Nat) : State :=
  let s := s.bump FLT_CNT_INJ.COUNT
  if mode ≤ 1 then { s with inject := some (target, mode == 1) }.put FLT_INJ.ARMED 1
  else if mode = 2 then (if code = 0x01 then (s.bump CLK_CNT_UNLOCK.COUNT).evt pgCLK 0 else s).raiseWith code [] {} true
  else s.wireBreak target 1

/-! ### The commands -/

/-- FLT_WIRE. -/
def execFltWire (unit : Nat) (kind : Nat) (s : State) : Out :=
  s.after (fltWireEff unit kind s)

/-- FLT_WIRE_CLEAR. -/
def execFltWireClear (unit : Nat) (s : State) : Out :=
  s.after (fltWireClearEff unit s)

end Sys2Proof.Machine
end

