-- ==== Sys2Proof/Machine/Telemetry.lean ====
section
/-!
DEFINITION. Telemetry (R337-R346, R409): the streams' state, the access each stream makes next, descriptor reads and checks,
record writes and the close of a buffer, device and yard summaries; and what the block does by itself between commands.
-/

namespace Sys2Proof.Machine

/-! ### Stream state (R348) -/

def tdmStopped : Nat := 0
def tdmRunning : Nat := 1
def tdmWaiting : Nat := 2
def tdmError : Nat := 3

/-- TDM_STATUS.STATE of a stream. -/
def tdmF (t : Nat) : Fld := ⟨TDM_STATUS.STATE.addr, 2 * t, 2⟩

def State.tdmState (s : State) (t : Nat) : Nat := s.get (tdmF t)

/-- A change of a stream. -/
def State.modStream (s : State) (t : Nat) (f : Tdm → Tdm) : State := s.setStream t (f (s.stream t))

/-- A stream begins to wait (R340). -/
def State.tdmWait (s : State) (t : Nat) : State :=
  if s.tdmState t = tdmWaiting then s else (s.put (tdmF t) tdmWaiting).evt pgTDM 1

/-! ### The access a stream makes next (R338-R340, R409) -/

/-- An access of a stream: a read of a descriptor for the first time, the second look at bytes 0-3 of the descriptor in use,
a look for a successor of the descriptor that ended the chain, the write of a record, the write of bytes 24-31. -/
inductive TdmAct where
  | none
  | fetch (addr : Nat)
  | look (addr : Nat)
  | successor (addr : Nat)
  | record (addr len : Nat)
  | close (addr : Nat)
deriving DecidableEq, Repr

/-- The bounce-buffer region holds a range, or ACTIVE reads 0 (R409). -/
def State.bounceOk (s : State) (a n : Nat) : Bool :=
  !s.active || (decide (s.get64 SEC_BOUNCE_BASE_LO.BASE ≤ a) && decide (a + n ≤ s.get64 SEC_BOUNCE_LIMIT_LO.LIMIT))

/-- A descriptor's buffer and its own 32 bytes lie within the region (R409). -/
def State.descOk (s : State) (a : Nat) (d : Descriptor) : Bool := s.bounceOk d.buffer.toNat d.length && s.bounceOk a 32

/-- A descriptor as its 32 bytes in host memory spell it (R339). -/
def Descriptor.ofBytes (l : List Byte) : Descriptor :=
  let at_ (o n : Nat) : Nat := ofLe ((l.drop o).take n)
  { gen := BitVec.ofNat 16 (at_ 0 2), valid := tb (at_ 2 1) 0, irq := tb (at_ 2 1) 1, length := at_ 4 4
    buffer := BitVec.ofNat 64 (at_ 8 8), next := BitVec.ofNat 64 (at_ 16 8) }

/-- Bytes 24-31, which Oteus writes as it closes a buffer (R339): bytes used, GEN of the copy used, FILLED, CLOSED by STOP. A buffer that
ACTIVE bars is closed with neither (DESIGN CHOICE, assumption log 39). -/
def Tdm.closeBytes (d : Tdm) (e : Descriptor) : List Byte :=
  let filled := match d.staged with | r :: _ => decide (e.length < d.used + r.bytes.length) | [] => false
  le 4 d.used ++ le 2 e.gen.toNat ++ le 1 ((filled && !d.stopping).toNat + 2 * d.stopping.toNat) ++ le 1 0

/-- The buffer in use is closed next: STOP was written, the next record does not fit, or ACTIVE bars it and the records staged
before the rise are written (R338, R339, R409). -/
def State.closes (s : State) (d : Tdm) (a : Nat) (e : Descriptor) : Bool :=
  d.stopping || (!s.descOk a e && d.before == 0)
    || (match d.staged with | r :: _ => decide (e.length < d.used + r.bytes.length) | [] => false)

/-- A read ahead: up to 8 descriptors beyond the one in use, along a chain whose last copy is valid (R340). -/
def Tdm.ahead (d : Tdm) : TdmAct :=
  match d.desc.getLast? with
  | some (_, e) => if d.desc.length < 9 ∧ e.valid ∧ e.next.toNat ≠ 0 then .fetch e.next.toNat else .none
  | none => .none

/-- The access of a stream that runs, or reads again while it waits. -/
def State.tdmAct (s : State) (t : Nat) : TdmAct :=
  let d := s.stream t
  let st := s.tdmState t
  if st = tdmStopped ∨ st = tdmError ∨ (st = tdmWaiting ∧ !d.polling) then .none
  else
    match d.desc with
    | [] => if d.next ≠ 0 then .fetch d.next else if st = tdmWaiting then .successor d.last else .none
    | (a, e) :: _ =>
      if !d.checked then (if d.staged ≠ [] ∨ st = tdmWaiting then .look a else d.ahead)
      else if s.closes d a e then .close a
      else
        match d.staged with
        | r :: _ => .record (e.buffer.toNat + d.used) r.bytes.length
        | [] => d.ahead

/-- Address, length and access type (R378) of an access; none makes none. -/
def TdmAct.range : TdmAct → Option (Nat × Nat × Nat)
  | .none => Option.none
  | .fetch a => some (a, 32, 4)
  | .look a => some (a, 4, 4)
  | .successor a => some (a, 32, 4)
  | .record a n => some (a, n, 5)
  | .close a => some (a + 24, 8, 5)

/-- An access outside the window or answered with an error: the stream stops in ERROR, the access is not retried, TDM_ERR is
raised (R337). -/
def State.tdmFail (s : State) (t : Nat) (outside : Bool) : State :=
  match (s.tdmAct t).range with
  | none => s
  | some (a, _, k) =>
    let s := match s.tdmAct t with
      | .record _ _ => s.modStream t fun d => { d with staged := d.staged.tail, before := d.before - 1 }
      | _ => s
    (s.put (tdmF t) tdmError).tdmErr 2 a 10 k outside

/-- The access a stream makes next lies outside the window (R337). -/
def State.tdmOutside (s : State) (t : Nat) : Bool :=
  match (s.tdmAct t).range with
  | some (a, n, _) => !s.inWindow a n
  | none => false

/-- A stream about to make an access outside the window stops in ERROR (R337). -/
def State.tdmKick (s : State) (t : Nat) : State := if s.tdmOutside t then s.tdmFail t true else s

/-! ### GO and STOP (R338) -/

/-- GO: from stopped or ERROR the stream starts at its head descriptor; while it runs or waits the write does nothing. -/
def State.tdmGo (s : State) (t : Nat) : State :=
  let st := s.tdmState t
  if st = tdmRunning ∨ st = tdmWaiting then s
  else
    let head := s.get64 (TDM_STR_HEAD_LO.ADDR t)
    let s := s.modStream t fun d =>
      { d with desc := [], next := head, used := 0, checked := false, stopping := false, polling := false, before := 0 }
    ((s.put64 (TDM_STR_CUR_LO.ADDR t) head).put (tdmF t) tdmRunning).tdmKick t

/-- STOP: the buffer in use is closed; a stream with none in use stops. -/
def State.tdmStop (s : State) (t : Nat) : State :=
  let st := s.tdmState t
  if st = tdmStopped ∨ st = tdmError then s
  else if st = tdmRunning ∧ (s.stream t).checked then (s.modStream t fun d => { d with stopping := true }).tdmKick t
  else s.put (tdmF t) tdmStopped

/-! ### Reads (R340, R409) -/

/-- The stream holds a new copy of a descriptor: the one in use if it held none. -/
def State.tdmHold (s : State) (t a : Nat) (e : Descriptor) : State :=
  let s := if (s.stream t).desc = [] then (s.put64 (TDM_STR_CUR_LO.ADDR t) a).put (tdmF t) tdmRunning else s
  s.modStream t fun d => { d with desc := d.desc ++ [(a, e)], next := 0, polling := false }

/-- The second look at the descriptor in use (R340). -/
def State.tdmLook (s : State) (t a : Nat) (held e : Descriptor) : State :=
  if e.gen ≠ held.gen then
    ((s.modStream t fun d => { d with desc := [], next := a, polling := false }).put (tdmF t) tdmRunning).bump TDM_CNT_REFETCH.COUNT
  else
    let bounced := e.valid && !s.descOk a held
    let s := s.modStream t fun d => { d with polling := false }
    if bounced then ((s.tdmWait t).bump SEC_CNT_BOUNCEWAIT.COUNT).evt pgSEC 2
    else if e.valid then (s.modStream t fun d => { d with checked := true, used := 0 }).put (tdmF t) tdmRunning
    else s.tdmWait t

/-- A descriptor read returns (R340). -/
def State.tdmRead (s : State) (t : Nat) (e : Descriptor) : State :=
  match s.tdmAct t with
  | .fetch a => s.tdmHold t a e
  | .look a => match (s.stream t).desc with
    | (_, h) :: _ => s.tdmLook t a h e
    | [] => s
  | .successor _ =>
    let s := s.modStream t fun d => { d with polling := false, next := e.next.toNat }
    if e.next.toNat = 0 then s else s.put (tdmF t) tdmRunning
  | _ => s

/-- DESCRIPTOR_FETCH_DONE. -/
def descriptorFetchEff (t : Nat) (e : Descriptor) (err : Bool) (s : State) : State :=
  match (s.tdmAct t).range with
  | some (_, _, 4) =>
    if s.tdmOutside t then s.tdmFail t true
    else if err then s.tdmFail t false
    else (s.tdmRead t e).tdmKick t
  | _ => s

/-- DESCRIPTOR_POLL. -/
def descriptorPollEff (t : Nat) (s : State) : State :=
  if s.tdmState t = tdmWaiting then (s.modStream t fun d => { d with polling := true }).tdmKick t else s

/-! ### Writes (R332, R339, R341) -/

/-- A record has been written. -/
def State.tdmWrote (s : State) (t : Nat) : State :=
  match (s.stream t).staged with
  | [] => s
  | r :: l =>
    let s := s.modStream t fun d => { d with staged := l, used := d.used + r.bytes.length, before := d.before - 1 }
    let s := (s.put (TDM_STR_SEQ.COUNT t) (s.get (TDM_STR_SEQ.COUNT t) + 1)).bump TDM_CNT_BURSTS.COUNT
    match r.entry with
    | some c => s.modEntry c fun e => { e with recSent := true }
    | none => s

/-- Bytes 24-31 have been written: the buffer is closed, and the stream moves to the next descriptor, stops, or waits at the end
of the chain. -/
def State.tdmClosed (s : State) (t : Nat) : State :=
  let d := s.stream t
  match d.desc with
  | [] => s
  | (a, e) :: rest =>
    let s := s.bump TDM_CNT_BURSTS.COUNT
    let s := if e.irq then s.evt pgTDM 0 else s
    let n := e.next.toNat
    let s := s.setStream t { d with desc := rest, used := 0, checked := false, stopping := false, before := 0
                                    next := if rest = [] then n else 0, last := a, wrote := d.closeBytes e }
    let s := if n = 0 then s else s.put64 (TDM_STR_CUR_LO.ADDR t) n
    if d.stopping then s.put (tdmF t) tdmStopped
    else if n = 0 then s.tdmWait t
    else s

/-- TDM_WRITE_RESPONSE. -/
def tdmWriteEff (t : Nat) (err : Bool) (s : State) : State :=
  if s.tdmOutside t then s.tdmFail t true
  else
    match s.tdmAct t with
    | .record _ _ => if err then s.tdmFail t false else (s.tdmWrote t).tdmKick t
    | .close _ => if err then s.tdmFail t false else (s.tdmClosed t).tdmKick t
    | _ => s

/-! ### Summaries (R338, R344, R345, R406) -/

/-- Voltage of a rail, mV. -/
def State.railMv (s : State) (r : Nat) : Nat := s.vsns r * 5 / 16

/-- Rounding down to a multiple. -/
def floorTo (m x : Int) : Int := x / m * m

/-- The body of a device summary: bytes 4 to 61; coarsened while ACTIVE (R344, R406). -/
def State.deviceBody (s : State) : List Byte :=
  let on (f : Fld) (k : Nat) : Nat := s.get f * 2 ^ k
  let n := max 1 (s.get TDM_PERIOD.DEV)
  let h := s.cap.history.take n
  let power : Nat := if s.active then (floorTo 8 (s.coarse CAP_POWER.P.key / 1000)).toNat else if h = [] then 0 else h.sum / (1000 * h.length)
  let amp (f : Fld) : Nat := if s.active then (floorTo 5 (s.coarse f.key / 16)).toNat else s.get f
  let temp (f : Fld) : Nat := unsigned 16 (if s.active then floorTo 16 (s.coarse f.key) else s.getI f)
  let credit : Nat := if s.active then 0 else s.get CAP_CREDIT.CREDIT
  let unattr : Nat := s.get64 CAP_UNATTR_LO.E
  le 1 (s.get CAP_STATUS.MODE_NOW) ++ le 1 (s.get CAP_STATUS.RUNG)
    ++ le 1 (on CAP_STATUS.UNMET 0 + on CAP_STATUS.DEFERRED 1 + on CAP_STATUS.EXCURSION 2 + s.stationOk.toNat * 8)
    ++ le 1 s.openColls.length ++ le 8 s.sysTime ++ le 2 power ++ le 2 (s.get CAP_DEV_NOW.IN_FORCE) ++ le 4 credit
    ++ le 2 (amp CAP_RAIL_NOW.PKGA) ++ le 2 (amp CAP_RAIL_NOW.PKGB) ++ le 2 (s.railMv 0) ++ le 2 (s.railMv 1) ++ le 2 s.ibusMv
    ++ le 2 (temp THM_HOT_DIE.TEMP) ++ le 2 (temp THM_HOT_BND.TEMP) ++ le 2 0
    ++ le 8 (if s.active then unattr / 1000000 * 1000000 else unattr) ++ le 4 s.recSeq ++ le 10 0

/-- The body of a yard summary: bytes 4 to 29 (R345); `t` is T_y. -/
def State.yardBody (s : State) (y : Nat) (t : Int) : List Byte :=
  let v := s.yard y
  let mean : Nat := if v.repN = 0 then 0 else (max 0 v.repI / (5 * (v.repN : Int))).toNat
  le 1 y ++ le 1 (s.domState y + 8 * s.get (yRung y)) ++ le 1 (s.ownerByte y) ++ le 1 (s.activePhases y) ++ le 2 (s.videff y)
    ++ le 2 mean ++ le 2 (unsigned 16 t) ++ le 1 (s.runBays y).length
    ++ le 1 (s.dreClass y % 4 + v.repHands.toNat * 4 + s.get (YRD_STATUS.BELOW_MIN y) * 8)
    ++ le 4 s.recSeq ++ le 8 s.sysTime ++ le 2 (min 65535 v.repMiss)

/-- The yard summary of a yard, and its sums start anew. -/
def State.yardSummary (s : State) (y : Nat) : State :=
  let (t, s) := s.tempNow y
  let s := { s.stage 2 0x0031 0 (s.yardBody y t) (s.ownerOf y) none with recSeq := (s.recSeq + 1) % 2 ^ 32 }
  s.setYard y { s.yard y with repI := 0, repN := 0, repMiss := 0
                              repHands := (s.baysOf y).any fun b => s.on (BAY_STATE.ALL_HANDS b) }

/-- The yards TDM_YSEL selects. -/
def State.yardsSelected (s : State) : List Nat := (List.range Config.yardCount).filter fun y => s.on (Fld.bit TDM_YSEL.YARD y)

/-- DEVICE_SUMMARY: a device period has ended at a cap-loop boundary. Yard summaries follow every TDM_PERIOD.YARD of them, and are
not generated while ACTIVE. -/
def deviceSummaryEff (s : State) : State :=
  if !s.inWayOn then s
  else
    let s := { s.stage 2 0x0030 s.active.toNat s.deviceBody none none with recSeq := (s.recSeq + 1) % 2 ^ 32 }
    if s.yardCount + 1 < s.get TDM_PERIOD.YARD then { s with yardCount := s.yardCount + 1 }
    else
      let s := { s with yardCount := 0 }
      (if s.active then s else s.yardsSelected.foldl State.yardSummary s).tdmKick 2

/-! ### The commands -/

/-- DEVICE_SUMMARY. -/
def execDeviceSummary (s : State) : Out :=
  s.after (deviceSummaryEff s)

/-- DESCRIPTOR_FETCH_DONE. -/
def execDescriptorFetchDone (t : Nat) (d : Descriptor) (err : Bool) (s : State) : Out :=
  s.after (descriptorFetchEff t d err s)

/-- DESCRIPTOR_POLL. -/
def execDescriptorPoll (t : Nat) (s : State) : Out :=
  s.after (descriptorPollEff t s)

/-- TDM_WRITE_RESPONSE. -/
def execTdmWriteResponse (t : Nat) (err : Bool) (s : State) : Out :=
  s.after (tdmWriteEff t err s)

end Sys2Proof.Machine
end

