-- ==== Sys2Proof/Machine/Pmbus.lean ====
section
/-!
DEFINITION. The PMBus host (R306-R309): the device table and its scans, polls and their decoding, alerts, raw reads.
-/

namespace Sys2Proof.Machine

/-! ### Number formats (R306) -/

/-- The integer part of m × Y × 2^N. -/
def scaled (m : Nat) (y n : Int) : Int := if 0 ≤ n then m * y * 2 ^ n.toNat else m * y / 2 ^ (-n).toNat

/-- A LINEAR11 word in units of 1/m. -/
def linear11 (m : Nat) (w : BitVec 16) : Int := scaled m (signed 11 (w.toNat % 2048)) (signed 5 (w.toNat / 2048))

/-- A LINEAR16 word, mV, under VOUT_MODE; none where it selects another format. -/
def linear16 (mode : Byte) (w : BitVec 16) : Option Nat :=
  if mode.toNat / 32 = 0 then some (scaled 1000 w.toNat (signed 5 (mode.toNat % 32))).toNat else none

/-- An unsigned 16-bit field saturates at both ends. -/
def sat16 (x : Int) : Nat := min 65535 x.toNat

/-! ### The device table (R307) -/

/-- Addresses a scan reads. -/
def scanned (a : Nat) : Bool := 8 ≤ a && a ≤ 0x77 && a != 0x0C && a != 0x28 && a != 0x37 && a != 0x61

/-- Words of an entry, PMB_DEV to PMB_TEMP. -/
def pmbWord (n i : Nat) : Nat := (PMB_DEV.reg n).addr + 4 * i

/-- An entry of the table: its six words, its misses, the time of its last good poll. -/
structure PmbEntry where
  words : List Word := []
  miss : Nat := 0
  good : Nat := 0
deriving DecidableEq, Repr

def State.pmbMissed (s : State) (n : Nat) : Nat := Tab.get (fun _ => 0) s.pmbMiss n
def State.pmbGoodAt (s : State) (n : Nat) : Nat := Tab.get (fun _ => 0) s.pmbGood n

/-- Entry n holds a device. -/
def State.pmbUsed (s : State) (n : Nat) : Bool := n == 0 || s.on (PMB_DEV.ADDR n)

/-- What the table holds for an address; an empty entry for a new one. -/
def State.pmbEntry (s : State) (a : Nat) : PmbEntry :=
  match (List.range 16).find? fun n => s.get (PMB_DEV.ADDR n) == a with
  | some n => ⟨(List.range 6).map fun i => s.word (pmbWord n i), s.pmbMissed n, s.pmbGoodAt n⟩
  | none => ⟨[BitVec.ofNat 32 a], 0, 0⟩

/-- Entry n takes what an entry holds. -/
def State.putEntry (s : State) (n : Nat) (e : PmbEntry) : State :=
  let s := (List.range 6).foldl (fun s i => s.setWord (pmbWord n i) (e.words.getD i 0)) s
  { s with pmbMiss := Tab.set (fun _ => 0) s.pmbMiss n e.miss, pmbGood := Tab.set (fun _ => 0) s.pmbGood n e.good }

/-- A device after a scan: it answered, or it is missing and counts; the third miss in a row loses it. -/
def State.scanEntry (s : State) (n : Nat) (found : List (Nat × Byte × Byte)) : State :=
  let a := s.get (PMB_DEV.ADDR n)
  match found.find? fun f => f.1 == a with
  | some (_, rev, cap) =>
    let s := { s with pmbMiss := Tab.set (fun _ => 0) s.pmbMiss n 0 }
    ((s.put (PMB_DEV.PRESENT n) 1).put (PMB_DEV.REV n) rev.toNat).put (PMB_DEV.CAP n) cap.toNat
  | none =>
    let m := min 3 (s.pmbMissed n + 1)
    let s := { s with pmbMiss := Tab.set (fun _ => 0) s.pmbMiss n m }
    let gone := m = 3 ∧ s.on (PMB_DEV.PRESENT n)
    let s := if gone then (s.put (PMB_DEV.PRESENT n) 0).evt pgPMB 1 else s
    if gone ∨ n = 0 then s.raise 0x3B [a] else s

/-- PMBUS_SCAN: the table is filled, entry 0 for the bus converter, the others in ascending address order. -/
def pmbusScanEff (found : List (Nat × Byte × Byte)) (s : State) : State :=
  let conv := s.get PMB_CFG.BUSCONV
  let found := found.filter fun f => scanned f.1
  let known := ((List.range 16).filter s.pmbUsed).map fun n => s.get (PMB_DEV.ADDR n)
  let others := ((List.range 128).filter fun a => a != conv && a != 0 && (known.contains a || found.any fun f => f.1 == a)).take 15
  let entries := (conv :: others).map s.pmbEntry
  let s := { s with pmbScan := false }
  let s := (List.range 16).foldl (fun s n => s.putEntry n (entries.getD n {})) s
  let s := (List.range (1 + others.length)).foldl (fun s n => s.scanEntry n found) s
  let s := s.put PMB_STATUS.BUSCONV_OK (found.any fun f => f.1 == conv).toNat
  s.put PMB_STATUS.DEVICES ((List.range 16).filter fun n => s.on (PMB_DEV.PRESENT n)).length

/-- PMB_SCAN.GO: a scan is asked for now. -/
def State.scanGo (s : State) : State := { s with pmbScan := true }

/-! ### Polls (R306, R308, R406) -/

/-- Bits VOUT, IOUT, INPUT and TEMPERATURE of STATUS_WORD, at the places PMBus gives them. -/
def converterFault (w : BitVec 16) : Bool := tb w.toNat 15 || tb w.toNat 14 || tb w.toNat 13 || tb w.toNat 2

/-- The readings of a device are shown, and enter the means of R406. -/
def State.showPoll (s : State) (n : Nat) (r : PmbReading) : State :=
  let show_ (s : State) (f : Fld) (v : Nat) : State := (s.put f v).sample10 f.key v
  let s := (s.put (PMB_DEV_STAT.STATUS_WORD n) r.statusWord.toNat).put (PMB_V.VIN n) (sat16 (linear11 1000 r.vin))
  let s := s.put (PMB_V.VOUT n) (match linear16 r.voutMode r.vout with | some v => min 65534 v | none => 65535)
  let s := show_ s (PMB_I.IIN n) (sat16 (linear11 100 r.iin))
  let s := show_ s (PMB_I.IOUT n) (sat16 (linear11 100 r.iout))
  let s := show_ s (PMB_P.PIN n) (sat16 (linear11 1 r.pin))
  let s := show_ s (PMB_P.POUT n) (sat16 (linear11 1 r.pout))
  s.putI (PMB_TEMP.TEMP n) (clampI (-32768) 32767 (linear11 16 r.temp))

/-- The bus converter's output voltage differs from OT_IBUS_SNS by more than 3 %. -/
def State.ibusMismatch (s : State) (r : PmbReading) : Bool :=
  match linear16 r.voutMode r.vout with
  | some v => decide (3 * s.ibusMv < 100 * (max v s.ibusMv - min v s.ibusMv))
  | none => false

/-- What a poll of the bus converter raises. -/
def State.checkConverter (s : State) (r : PmbReading) : State :=
  let s := if converterFault r.statusWord then (s.evt pgPMB 2).raise 0x3C [r.statusWord.toNat] else s
  let m := if s.ibusMismatch r then min 3 (s.pmbMismatch + 1) else 0
  let s := { s with pmbMismatch := m }
  if m = 3 then (s.evt pgPMB 2).raise 0x3D [(linear16 r.voutMode r.vout).getD 0, s.ibusMv] else s

/-- A poll read STATUS_WORD 0: alerts of the device are taken again. -/
def State.alertOver (s : State) (a : Nat) : State :=
  let l := s.pmbAlerted.filter (· != a)
  { s with pmbAlerted := l }

/-- PMBUS_POLL of an entry of the table. -/
def pmbusPollEff (n : Nat) (r : PmbReading) (s : State) : State :=
  if 16 ≤ n ∨ !s.pmbUsed n then s
  else
    let s := s.bumpBy PMB_CNT_PEC.COUNT r.pecErrors
    if !r.answered then s.bump PMB_CNT_NACK.COUNT
    else
      let s := s.showPoll n r
      let s := { s with pmbGood := Tab.set (fun _ => 0) s.pmbGood n (s.mono + 1) }
      let s := if r.statusWord = 0 then s.alertOver (s.get (PMB_DEV.ADDR n)) else s
      if n = 0 then s.checkConverter r else s

/-- PMB_AGE of an entry: milliseconds since its last good poll; 0, its reset value, before the first (R312). -/
def State.pmbAge (s : State) (n : Nat) : Nat :=
  if s.pmbGoodAt n = 0 then 0 else min (2 ^ 32 - 1) ((s.mono + 1 - s.pmbGoodAt n) / 2000000)

/-! ### Alerts (R308) -/

/-- PMB_ALERT: the pin fell; the device at the alert response address is logged, unless its alerts are not taken. When the pin rises again
no row tells: PMB_STATUS.ALERT reads a free value from then on (assumption log 39). -/
def pmbAlertEff (addr : Nat) (status : BitVec 16) (s : State) : State :=
  let s := { s with alertAt := some s.mono }.put PMB_STATUS.ALERT 1
  if addr ∈ s.pmbAlerted then s
  else
    let s := { s with pmbAlerted := s.pmbAlerted ++ [addr] }
    let s := match (List.range 16).find? fun n => s.pmbUsed n && s.get (PMB_DEV.ADDR n) == addr with
      | some n => s.put (PMB_DEV_STAT.STATUS_WORD n) status.toNat
      | none => s
    ((s.bump PMB_CNT_ALERT.COUNT).evt pgPMB 0).logEvent 0x0115 [addr, status.toNat]

/-! ### Raw reads (R309) -/

/-- PMB_RAW.GO, its fields already stored: a read is requested, or the GO ends BUSY. -/
def State.rawGo (s : State) : State :=
  match s.pmbRaw with
  | some _ => (s.put PMB_RAW_RES.RESULT 4).evt pgPMB 3
  | none => { s with pmbRaw := some (s.on PMB_RAW.WORD, s.get PMB_RAW.ADDR, BitVec.ofNat 8 (s.get PMB_RAW.CMD)) }

/-- PMB_RAW_DONE: the pending read ends; a byte fills the low half of DATA. -/
def pmbRawDoneEff (res : RawResult) (data : BitVec 16) (s : State) : State :=
  match s.pmbRaw with
  | none => s
  | some (word, _, _) =>
    let s := { s with pmbRaw := none }
    let (code, v, s) : Nat × Nat × State := match res with
      | .done => (1, if word then data.toNat else data.toNat % 256, s)
      | .nack => (2, 0, s.bump PMB_CNT_NACK.COUNT)
      | .pec => (3, 0, s.bump PMB_CNT_PEC.COUNT)
    ((s.put PMB_RAW_RES.RESULT code).put PMB_RAW_RES.DATA v).evt pgPMB 3

/-! ### The commands -/

/-- PMBUS_SCAN. -/
def execPmbusScan (found : List (Nat × Byte × Byte)) (s : State) : Out :=
  s.after (pmbusScanEff found s)

/-- PMBUS_POLL. -/
def execPmbusPoll (n : Nat) (r : PmbReading) (s : State) : Out :=
  s.after (pmbusPollEff n r s)

/-- PMB_ALERT. -/
def execPmbAlert (addr : Nat) (status : BitVec 16) (s : State) : Out :=
  s.after (pmbAlertEff addr status s)

/-- PMB_RAW_DONE. -/
def execPmbRawDone (res : RawResult) (data : BitVec 16) (s : State) : Out :=
  s.after (pmbRawDoneEff res data s)

end Sys2Proof.Machine
end

