-- ==== Sys2Proof/Machine/Reset.lean ====
section
/-!
DEFINITION. The three resets (R48, R49, R364, R365): what each stops, keeps and returns to its reset value, and the part of
start-up that runs before dead-slow service (R352 steps 0 to 4): memory tests, flash parameters, the records read from
flash, phase discovery.
-/

namespace Sys2Proof.Machine

/-! ### What every reset does (R321, R365, R421, R423) -/

/-- Pages whose header holds an unlock. -/
def headerPages : List Nat := (List.range 0x6B).filter hasHeader

/-- Every expert unlock is withdrawn (R421). -/
def State.clearUnlocks (s : State) : State :=
  let s := headerPages.foldl (fun s p => s.setWord (p * 0x1000 + 0xC) 0) s
  ((s.put GLB_XREC_YRD.PAGE 0).put GLB_XREC_BAY.PAGE 0).put GLB_XREC_COEF.PAGE 0

/-- Every telemetry stream stops (R365). -/
def State.stopStreams (s : State) : State :=
  (List.range 3).foldl (fun s t => (s.modStream t fun d => { d with stopping := false, polling := false }).put (tdmF t) tdmStopped) s

/-- Unlocks, read latches, the management port's result, pending in-band interrupts, telemetry streams. -/
def State.anyReset (s : State) : State :=
  ({ s.clearUnlocks.stopStreams with latches := [], mp := .none, dbg := 0, dbgHeld := none }).put PRT_MP.IBI_PEND 0

/-- The reset that runs (R364): 2 a power-on or a block reset, until dead-slow service begins or start-up is held (R381);
1 control-plane; 0 none. -/
def State.resetRuns (s : State) : Nat :=
  if s.blkReset || (s.inBoot && !s.on FLT_STATUS.STARTUP_HELD) then 2 else if s.cpReset then 1 else 0

/-- Errors injected into the memories that a reset initialises are gone (R383, R384). -/
def State.dropErrors (s : State) (mems : List Nat) : State :=
  { s with armedErr := s.armedErr.filter fun (e : Nat × Nat × Bool) => !mems.contains e.1 }

/-! ### Memory tests (R384, R386) -/

/-- A page of the model store is retired, with the frame that holds it (R387). -/
def State.retireStorePage (s : State) (p : Nat) : State := (s.put (Fld.bit FLT_MS_RETIRE.PAGE p) 1).retireFrames

/-- A memory test failure. -/
def State.memTestFail (s : State) (f : MemFail) : State :=
  let a : FaultAccess := { addr := f.page * 4096, unit := 16, access := 6 }
  if !f.checker ∧ f.memory = 7 ∧ f.page < 64 then
    (s.put (Fld.bit (fun j => if j = 0 then SXT_CAPRAM_RETIRE_LO.PAGE else SXT_CAPRAM_RETIRE_HI.PAGE) f.page) 1).raiseWith
      0x0C [7, f.page] a false
  else if !f.checker ∧ f.memory = 6 ∧ f.page < 128 then (s.retireStorePage f.page).raiseWith 0x0C [6, f.page] a false
  else (s.assertSource 0x0D).raiseWith 0x0D [f.memory, f.page] a false

/-- The memories of a list are tested, and fail as the last start's inputs say (R386; for a control-plane reset DESIGN CHOICE, assumption
log 39). -/
def State.memTest (s : State) (l : List Nat) : State := (s.startIn.memFail.filter fun f => l.contains f.memory).foldl State.memTestFail s

/-! ### Control-plane reset (R364, R365) -/

/-- A control-plane reset starts, or is discarded and logged while a reset runs (R364). Commits latched in a takeover are discarded (R335),
and the cores' memories are initialised (R384). -/
def State.cpResetGo (s : State) : State :=
  if s.resetRuns ≠ 0 then s.logEvent 0x0202 [s.get GLB_SERVICE.LAST_RESET]
  else
    let s := { s.anyReset with cpReset := true, taking := false, latched := [] }.dropErrors [0, 1, 2]
    let s := (s.put GLB_SERVICE.LAST_RESET 0).put HLM_STATUS.reg 0
    (s.logEvent 0x0202 [0]).memTest [0, 1, 2]

/-! ### The memories at a start (R353, R384) -/

/-- The memories a reset initialises are tested and zero-filled; `por` adds the journal and logbook staging (R384). -/
def State.memInit (s : State) (por : Bool) : State :=
  let l := [0, 1, 2, 3, 5, 6, 7, 8] ++ if por then [4, 9] else []
  ({ s with store := [], capram := [] }.dropErrors l).memTest l

/-! ### Flash parameters and the records in flash (R352 step 2) -/

/-- SFDP and the flash's identity (R354). -/
def State.readSfdp (s : State) : State :=
  let s := s.put FLS_JEDEC.ID (s.startIn.jedec % 2 ^ 24)
  match s.startIn.sfdpMissing with
  | none => s.put FLS_SFDP.OK 1
  | some p => s.raise 0x0F [p]

/-- The board configuration record (R287). -/
def State.boardRecord (s : State) : List Byte := s.flashBytes 0x210000 64

/-- A field of the board record, little-endian. -/
def recField (l : List Byte) (at_ n : Nat) : Nat := ofLe ((l.drop at_).take n)

/-- What is wrong with the board record (R288): 0 missing, 1 CRC, 2 a rail without a fitted phase. -/
def boardFault (l : List Byte) : Option Nat :=
  if recField l 0 2 ≠ 1 ∨ recField l 2 2 ≠ 64 then some 0
  else if recField l 60 4 ≠ crc32 (l.take 60) then some 1
  else
    let fitted (r : Nat) : Bool := (List.range Config.stagePhases).any fun p => tb (recField l 8 4) p && (tb (recField l 4 4) p).toNat == r
    if fitted 0 && fitted 1 then none else some 2

/-- The record is loaded. A block reset leaves the rails, and with them the rail map, the rail voltages and tracking, as they
are (R305). -/
def State.loadBoard (s : State) (por : Bool) : State :=
  let l := s.boardRecord
  match boardFault l with
  | some why =>
    let s := { s with noRecord := true }.raise 0x2E [why]
    if !por && (List.range 2).all fun r => s.railPhases r == [] || s.on (STG_RAIL.ON r) then s else s.assertSource 0x2E
  | none =>
    let s := if por then
        ((s.put STG_RAILMAP.PKGB (recField l 4 4)).put STG_TRACK.MODE (recField l 32 1)).put (STG_VOUT.CODE 0) (recField l 12 2)
          |>.put (STG_VOUT.CODE 1) (recField l 14 2)
      else s
    let s := (s.setWord (STG_SEQ_ON.RAMP 0).addr (BitVec.ofNat 32 (recField l 16 4))).setWord (STG_SEQ_OFF.RAMP 0).addr (BitVec.ofNat 32 (recField l 20 4))
    let s := (s.setWord (STG_SEQ_ON.RAMP 1).addr (BitVec.ofNat 32 (recField l 24 4))).setWord (STG_SEQ_OFF.RAMP 1).addr (BitVec.ofNat 32 (recField l 28 4))
    let s := (s.put PMB_CFG.BUSCONV (recField l 33 1)).put PMB_CFG.SPEED (recField l 34 1)
    (s.put (STG_OVL.TH 0) (recField l 35 1)).put (STG_OVL.TH 1) (recField l 36 1)

/-- Yard y's part of the farrier record (R215). -/
def State.loadFarYard (l : List Byte) (s : State) (y : Nat) : State :=
  let o := 64 + 16 * y
  let flags := recField l (o + 3) 1
  let s := (s.put (FAR_YSTAT.FLOOR y) (recField l o 1)).put (FAR_YSTAT.FMAX y) (recField l (o + 1) 1)
  let s := (s.put (FAR_YSTAT.DERATE y) (recField l (o + 2) 1)).put (YRD_OFFSETS.FLOOR_OFS y) (recField l o 1)
  let s := s.put (FAR_YSTAT.BOND y) (flags / 2 % 2)
  let s := s.put (Fld.bit FAR_BOND.YARD y) (flags / 2 % 2)
  let rpl := recField l (o + 6) 1
  let s := s.setYard y { s.yard y with f0 := recField l (o + 4) 2, rpl := if rpl = 255 then none else some rpl }
  (List.range 4).foldl (fun s p => s.put (FAR_ZP.ZREF y p) (recField l (o + 8 + 2 * p) 2)) s

/-- Bay b's part of the farrier record (R215). -/
def State.loadFarBay (l : List Byte) (s : State) (b : Nat) : State :=
  let o := 2112 + 8 * b
  let flags := recField l (o + 4) 1
  s.modBay b fun v =>
    { v with lossBase := recField l o 2, ofsBase0 := signed 8 (recField l (o + 2) 1), ofsBase1 := signed 8 (recField l (o + 3) 1)
             failFenced := tb flags 0, substituted := tb flags 2 }

/-- A recorded substitution is made again at its yard's next wake (R212, R76). -/
def State.remakeSubst (s : State) (b : Nat) : State :=
  if !(s.bay b).substituted then s
  else
    match Config.serviceYard b with
    | none => s
    | some y =>
      match s.chooseRemount y with
      | none => s
      | some r => { s.assignRemount y r none with substWait := s.substWait ++ [(b, r)] }

/-- The farrier record in use is loaded (R215, R431): what R207 and R216 give a reset value of 0 stays 0. -/
def State.loadFarrier (s : State) : State :=
  match s.farCurrent with
  | none => { s with farRecord := false }
  | some k =>
    let l := s.flashBytes (farCopy k) 12356
    let s := { s with farRecord := true, farBased := true, farSeq := recField l 4 4, farPlans := recField l 12 4 }
    let s := (List.range Config.yardCount).foldl (State.loadFarYard l) s
    let bays := (List.range Config.bayCount).filter Config.bayFitted
    bays.foldl State.remakeSubst (bays.foldl (State.loadFarBay l) s)

/-- The newest marked time-keeping slot of a sector (R391): its index. -/
def State.lastSlot (s : State) (sector : Nat) : Option Nat :=
  ((List.range 8192).filter fun k => s.flashAt (tkAt sector k + 7) == 0x5A).getLast?

/-- The time of a slot, for comparison: power-cycle count, operating seconds. -/
def State.slotTime (s : State) (sector k : Nat) : Nat × Nat :=
  (ofLe (s.flashBytes (tkAt sector k + 4) 3), ofLe (s.flashBytes (tkAt sector k) 4))

/-- Operating seconds and the power-cycle count at a power-on reset (R391). -/
def State.loadTimeKeeping (s : State) : State :=
  let best : Option (Nat × Nat) :=
    match s.lastSlot 0, s.lastSlot 1 with
    | none, none => none
    | some a, none => some (0, a)
    | none, some b => some (1, b)
    | some a, some b =>
      let (c0, t0) := s.slotTime 0 a
      let (c1, t1) := s.slotTime 1 b
      if c1 < c0 ∨ c1 = c0 ∧ t1 ≤ t0 then some (0, a) else some (1, b)
  match best with
  | none =>
    let s := (s.eraseFlash (tkAt 0 0) 0x10000).eraseFlash (tkAt 1 0) 0x10000
    ({ s with opBase := 0, opFrom := s.mono, tkSector := 0, tkSlot := 0 }.put LOG_CYCLE.COUNT 1).saveTime
  | some (sec, k) =>
    let (c, t) := s.slotTime sec k
    ({ s with opBase := t, opFrom := s.mono, tkSector := sec, tkSlot := k + 1 }.put LOG_CYCLE.COUNT (c + 1)).saveTime

/-! ### Phase discovery (R43, R289) -/

/-- A phase is discovered by the idle level of its STG_IMON input, mV. -/
def State.discover (s : State) (p : Nat) : State :=
  let mv := s.startIn.imonMv.getD p 0
  let here := 570 ≤ mv && mv ≤ 630
  let s := if here then s.put STG_PRESENT.PHASE (setBit (s.get STG_PRESENT.PHASE) p) else s
  let listed := boardFault s.boardRecord == none && tb (recField s.boardRecord 8 4) p != here
  if (!here ∧ 100 ≤ mv) ∨ listed then (s.evt pgSTG 8).raise 0x2D [p, mv] else s

/-- Discovery, and STG_NORAIL for a rail with no phase. -/
def State.discoverAll (s : State) : State :=
  let s := (List.range Config.stagePhases).foldl State.discover s
  let s := (List.range Config.stagePhases).foldl State.refreshService s
  (List.range 2).foldl (fun s r => if s.railPhases r = [] then ((s.evt pgSTG 8).assertSource 0x2F).raise 0x2F [r] else s) s

/-! ### The start, up to dead-slow service (R352 steps 0-4) -/

/-- THM_TRIP is raised again by a collector that comes out of a reset with the latch set (R276, R381). -/
def State.reraiseTrip (s : State) : State :=
  if s.on THM_STATUS.TRIP then
    (s.assertSource 0x2C).raise 0x2C [s.get THM_TRIP_SRC.SENSOR, s.get THM_TRIP_SRC.TEMP]
  else s

/-- The image as it stands in flash, memory tests, flash parameters, the records, at a power-on reset discovery and the logbook's time, which the records raised before
it is loaded take too (R391). -/
def State.startUp (s : State) (por : Bool) : State :=
  let s := { s with porStart := por, boot := s.flash.filter fun e => e.1 < 0x210000 }
  let s := if por then { s with startAt := s.mono }.loadTimeKeeping else { s with startAt := s.mono }
  let s := (s.reraiseTrip.memInit por).readSfdp
  let s := if por then s.logEvent 0x0201 [s.get LOG_CYCLE.COUNT] else s
  let s := s.loadBoard por
  let s := (List.range Config.clusterCount).foldl State.loadSxt s
  let s := s.loadFarrier
  if por then s.discoverAll else s

/-! ### Power-on reset (R48-R50, R365) -/

/-- What a power-on reset keeps: the queue, the flash, elapsed time, the levels on the block's inputs, the model's counter of
free values. OT_SO_REQ takes the level of OT_SO_ACK, and an order that was not acknowledged is dropped, here and at a block reset (DESIGN
CHOICE, assumption log 39). -/
def State.powerOn (s : State) (i : StartInputs) (aon : Bool) : State :=
  let r : State := { State.reset with
    pending := s.pending, flash := s.flash, mono := s.mono, tbValid := s.tbValid, soAck := s.soAck, soReq := s.soAck
    free := s.free, startIn := i, fltAt := s.fltAt, alertAt := s.alertAt }
  let r := (List.range Config.yardCount).foldl (fun r d =>
    let m := s.dom d
    r.setDom d { isoAck := m.isoAck, oscRdy := m.oscRdy, memRdy := m.memRdy, logicRdy := m.logicRdy, wakePin := m.wakePin }) r
  let r := if aon ∨ !s.on THM_STATUS.TRIP then r
    else (r.put THM_STATUS.TRIP 1).put THM_TRIP_SRC.reg (s.get THM_TRIP_SRC.reg)
  r.startUp true

/-- POWER_ON_RESET. A low pulse of 1-2 µs on OT_PORST_N may or may not reset (R48): a free value. -/
def powerOnResetEff (src : PorSource) (lowNs : Nat) (i : StartInputs) (s : State) : State :=
  match src with
  | .vddAon => s.powerOn i true
  | .vddA18 => s.powerOn i false
  | .porstN =>
    if lowNs < 1000 then s
    else if 2000 ≤ lowNs then s.powerOn i false
    else
      let (v, s) := s.fresh 11
      if v % 2 = 1 then s.powerOn i false else s

/-- The OT_THERMTRIP pad: the latch, or undriven while OT_VDDA_18 is below its threshold (R49). -/
def State.thermtripPad (s : State) (vdda18Low : Bool) : Option Bool := if vdda18Low then none else some (s.on THM_STATUS.TRIP)

/-- AON_DETECTOR_TRIP (R49). -/
def aonTripEff (s : State) : State :=
  ((s.put THM_STATUS.TRIP 0).put THM_TRIP_SRC.reg 0).deassertSource 0x2C

/-! ### Block reset (R235, R364, R365) -/

/-- Registers that keep their values at a block reset (R365, R399, R305, R335). -/
def keptAtBlock (a : Nat) : Bool :=
  let page := a / 0x1000
  let o := a % 0x1000
  if bayHome ≤ a then false
  else if 0x20 ≤ page && page < 0x28 then a % 0x100 == 0x40 || a % 0x100 == 0x44
  else if page = 3 || page = 4 then o == 0x40 || (0x400 ≤ o && o < 0x800)
  else if page = 5 then true
  else if page = 9 then 0x4C ≤ o && o < 0x5C
  else if page = 0xA then o == 0x44 || o == 0x48 || o == 0x5C || (0x420 ≤ o && o < 0x460)
  else if page = 0xB then o == 0x40 || o == 0x44 || o == 0x58 || (0x60 ≤ o && o < 0x88)
  else if page = 0xC then !(o == 0x40 || o == 0x44 || (0x70 ≤ o && o < 0xA0) || o == 0xA0 || o == 0xA4)
  else if page = 0xD then o == 0x58
  else if page = 0x11 then 0x40 ≤ o && o < 0x400
  else a == CLK_STATUS.LOCK.addr || a == GLB_SERVICE.LAST_RESET.addr

/-- Commands that were running end ABORTED, but a farrier command whose record has been written, which ends DONE (R335). -/
def State.endRunning (s : State) : State :=
  let done : Option CmdTag := match s.far with | .applying => s.farTag | _ => none
  (s.journal.filter fun e => match e.state with | .started _ => true | _ => false).foldl
    (fun s e =>
      let t : CmdTag := ⟨e.win, e.slot, e.seq⟩
      s.finish t (if done = some t then stDone else stAborted) 0 0) s

/-- Every domain rests in D4. -/
def State.allOff (s : State) : Bool := (List.range Config.yardCount).all fun d => s.atRest d && s.domState d == 4

/-- A sense point after a block reset: marks of this power cycle and its first window stay (R197, R200). -/
def Point.kept (p : Point) : Point := { marks := p.marks, seen := p.seen }

/-- The registers and the engines return to reset, and start-up runs to the end of step 4 (R364, R365). -/
def State.blockRest (s : State) : State :=
  let r : State := { State.reset with
    pending := s.pending, flash := s.flash, mono := s.mono, sysTime := s.sysTime, sysHalf := s.sysHalf
    tbValid := s.tbValid, tbSeen := s.tbSeen, tbLoaded := s.tbLoaded, soAck := s.soAck, soReq := s.soAck, free := s.free
    lockAt := s.lockAt, opBase := s.opBase, opFrom := s.opFrom, tkSector := s.tkSector, tkSlot := s.tkSlot, startIn := s.startIn
    regs := s.regs.filter fun e => keptAtBlock e.1
    rails := s.rails, phases := s.phases, journal := s.journal, tdm := s.tdm, recSeq := s.recSeq
    epochs := s.epochs, lastEpoch := s.lastEpoch, ibus := s.ibus, ibusLow := s.ibusLow
    fltAt := s.fltAt, fltDeclared := s.fltDeclared, alertAt := s.alertAt
    log := s.log, tokens := s.tokens, supp := s.supp, logSeq := s.logSeq, logErase := s.logErase
    lastTemps := s.lastTemps, wayOnAt := s.wayOnAt, proved := s.proved, armedErr := s.armedErr, takeover := s.takeover
    assertF := s.assertF.filter fun c => c == 0x2F || c == 0x34 }
  let r := (List.range Config.yardCount).foldl (fun r d =>
    let m := s.dom d
    let r := r.setDom d
      { isoAck := m.isoAck, oscRdy := m.oscRdy, memRdy := m.memRdy, logicRdy := m.logicRdy, wakePin := m.wakePin, rewake := m.rewake }
    let pts := (s.yard d).pts.map Point.kept
    let r := r.setYard d { pts := pts }
    r.put (YRD_FB.SUSPECT d) ((List.range 4).foldl (fun x p => if 3 ≤ (pts.getD p {}).marks then setBit x p else x) 0)) r
  let r := ((r.put CLK_STATUS.SOURCE 0).put GLB_SERVICE.STATE 0).put GLB_SERVICE.FW_RESULT 0
  let r := r.zeroBal
  let r := (r.put LOG_STATUS.STAGED r.log.length).put LOG_STATUS.ERASING r.logErase.isSome.toNat
  (r.refreshAssert.capChanged.startUp false).refreshPair

/-- A block reset starts: work stops, every domain goes to D4 with forced waits, and then the registers return to reset; or it
is discarded and logged while one of its rank or above runs (R364). -/
def State.blockResetGo (s : State) (i : StartInputs) : State :=
  if s.resetRuns = 2 then s.logEvent 0x0202 [s.get GLB_SERVICE.LAST_RESET]
  else
    let s := { s.anyReset with cpReset := false, blkReset := true, startIn := i, hn := [], soQueue := [], soFly := none, soReq := s.soAck }
    let s := { s with taking := false, latched := [], kept := [] }
    let s := ((s.put GLB_SERVICE.STATE 0).put GLB_SERVICE.LAST_RESET 1).put CLK_STATUS.SOURCE 0
    let s := { (s.logEvent 0x0202 [1]).endRunning with r26 := false }
    let s := (List.range Config.yardCount).foldl State.endHeat s
    let s := (List.range Config.yardCount).foldl (fun s d =>
      if s.domState d = 4 ∧ s.atRest d then s.modDom d fun m => { m with rewake := false }
      else
        let s := s.modDom d fun m => { m with rewake := decide (s.domState d ≠ 4) && !s.on (YRD_STATUS.YARD_FENCED d) }
        (s.placeOrder d 4 .oteus false none).1) s
    let s := s.refreshPair
    if s.allOff then s.blockRest else s

/-! ### The commands -/

/-- POWER_ON_RESET. -/
def execPowerOnReset (src : PorSource) (lowNs : Nat) (i : StartInputs) (s : State) : Out :=
  s.after (powerOnResetEff src lowNs i s)

/-- AON_DETECTOR_TRIP. -/
def execAonDetectorTrip (s : State) : Out := s.after (aonTripEff s)

end Sys2Proof.Machine
end

