-- ==== Sys2Proof/Machine/Regs.lean ====
section
/-!
DEFINITION. Writes of registers (R7-R9, R34, R314, R315, R416-R423): the authority of a requester, the judgement of a write
field by field, PG_ERR, and what a write that takes effect sets going in each unit.
-/

namespace Sys2Proof.Machine

/-! ### Addresses (R415, DEDUCED, assumption log 4) -/

/-- The home address of an aperture offset: BAY records have a region of their own in the model. -/
def homeAddr (a : Nat) : Nat := if 0x30000 ≤ a ∧ a < 0x40000 then bayHome + (a - 0x30000) else a

/-- The aperture offset of a home address, as PG_ERR shows it. -/
def apertureAddr (a : Nat) : Nat := if bayHome ≤ a then 0x30000 + (a - bayHome) else a

/-- The page number of a home address. -/
def pageOf (a : Nat) : Nat := if bayHome ≤ a then 0x30 + (a - bayHome) / 0x1000 else a / 0x1000

/-- The records of a home address: 0 BAY, 1 YRD, 2 coefficient store, as GLB_XREC numbers them; none elsewhere (R420). -/
def recordRegion (a : Nat) : Option Nat :=
  if bayHome ≤ a then some 1
  else if 0x20000 ≤ a ∧ a < 0x28000 then some 0
  else if 0x40000 ≤ a ∧ a < 0x48000 then some 2
  else none

/-- The bitmap of unlocked pages of a record region, and its page count (R415, R420). -/
def xrecBits (region : Nat) : Fld :=
  if region = 0 then GLB_XREC_YRD.PAGE else if region = 1 then GLB_XREC_BAY.PAGE else GLB_XREC_COEF.PAGE

def xrecPages (region : Nat) : Nat := if region = 1 then 20 else 8

/-- UNLOCKED and BY of a page with a header (R417). -/
def unlockedF (page : Nat) : Fld := ⟨page * 0x1000 + 0xC, 8, 1⟩
def unlockedBy (page : Nat) : Fld := ⟨page * 0x1000 + 0xC, 4, 2⟩

/-- Expert access is unlocked at a home address (R419, R420). -/
def State.unlocked (s : State) (a : Nat) : Bool :=
  match recordRegion a with
  | some 0 => tb (s.get GLB_XREC_YRD.PAGE) ((a - 0x20000) / 0x1000)
  | some 1 => tb (s.get GLB_XREC_BAY.PAGE) ((a - bayHome) / 0x1000)
  | some _ => tb (s.get GLB_XREC_COEF.PAGE) ((a - 0x40000) / 0x1000)
  | none => s.on (unlockedF (a / 0x1000))

/-- The page whose PG_ERR records a write (R416). -/
def errPage (a : Nat) : Nat :=
  let p := a / 0x1000
  if bayHome ≤ a then pgGLB else if p = 5 then pgCMK else if hasHeader p then p * 0x1000 else pgGLB

/-! ### Authority (R314) -/

/-- The registers a debug write may reach. -/
def dbgWritable (a : Nat) : Bool := a == PWS_REQ.reg.addr || a == FLT_INJ.reg.addr || a == FLT_INJ_PIN.reg.addr

/-- A class may write RW and WO fields at a home address. -/
def mayWriteAt (c : Cls) (a : Nat) : Bool :=
  match pageOf a with
  | 3 => c == .mgmt
  | 4 => c == .kern
  | 5 => c == .kern || c == .user
  | 0xE => c == .sec
  | _ => c == .mgmt || c == .kern || (c == .dbg && dbgWritable a)

/-- A class may read at a home address; the capture RAM is not for SEC. -/
def mayReadAt (c : Cls) (a : Nat) : Bool :=
  match pageOf a with
  | 3 => c == .mgmt
  | 4 => c == .mgmt || c == .kern
  | 5 => c == .mgmt || c == .kern || c == .user
  | 0xE => c == .mgmt || c == .kern || c == .sec
  | p =>
    if bayHome ≤ a ∨ p < 0x100 then c == .mgmt || c == .kern || c == .sec || c == .dbg
    else c == .mgmt || c == .kern || c == .dbg

/-- A class may write a field: the page, and what its access code or its description asks for besides. Where the row "Unlock
expert access" of R314 (MGMT and KERN, any page) and its rows for the CMD, CMK and SEC pages disagree, the page's row is taken,
so that nobody unlocks the SEC page (DESIGN CHOICE, assumption log 38). -/
def mayWriteField (c : Cls) (a : Nat) (f : FSpec) : Bool :=
  mayWriteAt c a &&
    match f.acc with
    | .rwm => c == .mgmt
    | .rwx => c == .mgmt || c == .kern
    | .h2m => c == .kern
    | _ =>
      if a % 0x1000 = 0xC ∧ hasHeader (a / 0x1000) ∧ a < bayHome then c == .mgmt || c == .kern
      else if a = CAP_JOB.reg.addr ∧ 30 ≤ f.lo then c == .kern
      else if (CAP_YOWN.OWNER 0).addr ≤ a ∧ a < (CAP_YOWN.OWNER 0).addr + 0x80 then c == .kern
      else true

/-! ### Ranges (R8) -/

/-- The fields whose descriptions give a range of values: page (0x20 YRD, 0x30 BAY, 0x51 cluster), offset of the register's
row, lowest bit, least and greatest value. -/
def ranges : List (Nat × Nat × Nat × Nat × Nat) := [
  (0x20, 0x40, 0, 40, 520), (0x20, 0x80, 4, 0, 2), (0x20, 0xC4, 16, 1, 255), (0x20, 0xC8, 8, 1, 255), (0x20, 0xC8, 0, 1, 20),
  (0x20, 0xCC, 0, 8, 48), (0x20, 0xD0, 8, 50, 100), (0x20, 0xD0, 0, 50, 100), (0x20, 0xD4, 16, 1, 255),
  (0x30, 0x28, 0, 0, 14), (0x30, 0x30, 0, 8, 48),
  (0x07, 0x400, 0, 0, 24), (0x07, 0x408, 0, 1, 16), (0x08, 0x48, 4, 0, 2), (0x09, 0x40C, 0, 40, 160),
  (0x0A, 0x404, 16, 0, 1900), (0x0A, 0x404, 8, 0, 50), (0x0A, 0x414, 0, 1, 100),
  (0x0B, 0x900, 8, 0, 100), (0x0B, 0x900, 0, 0, 95), (0x0B, 0x904, 8, 0, 90), (0x0B, 0x904, 0, 0, 85),
  (0x0B, 0x908, 8, 2, 255), (0x0B, 0x914, 8, 10, 255), (0x0B, 0x914, 0, 0, 30),
  (0x0C, 0x4C, 0, 1, 600), (0x0F, 0x48, 0, 1, 168), (0x0F, 0xC04, 8, 2, 64),
  (0x10, 0x54, 8, 1, 255), (0x10, 0x54, 0, 1, 100), (0x10, 0x80, 2, 1, 255),
  (0x11, 0x4C, 0, 0, 2), (0x11, 0x84, 0, 320, 760), (0x11, 0x88, 0, 1, 100)] ++ [
  (0x11, 0x400, 16, 0, 10000), (0x11, 0x400, 0, 1, 500), (0x11, 0x404, 16, 0, 10000), (0x11, 0x404, 0, 1, 500),
  (0x11, 0x408, 16, 1, 10), (0x11, 0x408, 8, 30, 100), (0x11, 0x408, 0, 1, 16), (0x11, 0x40C, 8, 0, 50), (0x11, 0x40C, 0, 10, 60),
  (0x11, 0x410, 24, 1, 255), (0x11, 0x410, 16, 2, 50), (0x11, 0x410, 0, 40, 70),
  (0x12, 0x44, 8, 1, 255), (0x13, 0x48, 0, 1, 256), (0x14, 0x400, 0, 50, 90)]

/-- The page as `ranges` names it, and the offset of the row, of a home address. -/
def rowKey (a : Nat) : Nat × Nat :=
  let p := a / 0x1000
  let o := a % 0x1000
  let row (o : Nat) (l : List RegRow) : Nat := match findRow o l with | some r => r.off | none => o
  if bayHome ≤ a then (0x30, a % 0x40)
  else if 0x20 ≤ p ∧ p < 0x28 then (0x20, a % 0x100)
  else if 0x40 ≤ p ∧ p < 0x48 then (0x40, a % 0x20)
  else if 0x51 ≤ p then (0x51, if o < 0x40 then o else row o sxtnRows)
  else (p, if o < 0x40 then o else row o (pageRows p))

/-- A value is in the range its description gives. -/
def inRange (k : Nat × Nat) (lo v : Nat) : Bool :=
  match ranges.find? fun r => r.1 == k.1 && r.2.1 == k.2 && r.2.2.1 == lo with
  | some (_, _, _, least, greatest) => least ≤ v && v ≤ greatest
  | none => true

/-! ### Command slots (R322-R324) -/

/-- The window and slot of a slot's byte (R322). -/
def slotAt (a : Nat) : Option (Window × Nat) :=
  if 0x3400 ≤ a ∧ a < 0x3800 then some (.cmd, (a - 0x3400) / 0x40)
  else if 0x4400 ≤ a ∧ a < 0x4800 then some (.cmk, (a - 0x4400) / 0x40)
  else if 0x5000 ≤ a ∧ a < 0x6000 then some (.cmu, (a - 0x5000) / 0x40)
  else none

/-- A slot holds a command short of its final status (R324, R347). -/
def State.slotBusy (s : State) (w : Window) (slot : Nat) : Bool :=
  s.journal.any fun e => decide (e.win = w ∧ e.slot = slot) && !e.isFinal

/-! ### Rules of range and state (R8), by page -/

/-- A user of the telemetry DMA master is at work: a stream of its own, a Sextant stream to host memory, a bundle fetch (R337). -/
def State.masterUsed (s : State) : Bool :=
  ((List.range 3).any fun t => s.tdmState t == tdmRunning || s.tdmState t == tdmWaiting)
    || ((List.range Config.clusterCount).any fun n => [0, 1].any fun m => s.strBusy n m && s.get (SXT_STR_CTRL.DEST n m) == 1)
    || s.load.any fun l => l.src == 1

/-- GLB and the common header: keys, kinds and pages (R364, R419, R420). -/
def ruleKeys (nv : Fld → Nat) (c : Cls) (a : Nat) : Option Nat :=
  if a = GLB_RESET.KEY.addr then
    if nv GLB_RESET.KIND = 2 ∧ c ≠ .mgmt then some 1 else if nv GLB_RESET.KEY ≠ 0xB007 then some 3 else none
  else if a = GLB_XREC.KEY.addr then
    let r := nv GLB_XREC.REGION
    if nv GLB_XREC.KEY ≠ 0x0E17 ∨ r < 3 ∧ xrecPages r ≤ nv GLB_XREC.PAGE then some 3 else none
  else if nv ⟨a, 16, 16⟩ ≠ 0x0E17 then some 3 else none

/-- YRD records (R73, R102, R111, R184, R241). -/
def State.ruleYrd (s : State) (nv : Fld → Nat) (y o lo v : Nat) : Option Nat :=
  if o = 0x40 then (if s.inMaint y ∨ Config.isLogic y ∧ s.domState y ≤ 1 then some 5 else none)
  else if o = 0x80 ∧ lo = 0 then (if s.on (CTL.VALID y v) then none else some 5)
  else if o = 0x80 ∧ lo = 3 then (if s.inMaint y then some 5 else none)
  else if o = 0xC4 ∧ lo ≤ 8 then (if nv (YRD_SHED_TH.ADD y) ≤ nv (YRD_SHED_TH.SHED y) then some 3 else none)
  else none

/-- The coefficient store (R102). -/
def State.ruleCoef (s : State) (nv : Fld → Nat) (a : Nat) : Option Nat :=
  let y := (a - 0x40000) / 0x100
  let k := a % 0x100 / 0x20
  let bad := a % 0x20 = 0x1C ∧ nv (CTL.VALID y k) = 1
    ∧ (2 ≤ nv (CTL.LAW y k) ∨ signed 12 (nv (CTL.OUT_MAX y k)) < signed 12 (nv (CTL.OUT_MIN y k)))
  if bad then some 3
  else if s.get (YRD_LOOP_NOW.SET_NOW y) = k ∨ s.get (YRD_LOOP.SET y) = k then some 5
  else none

/-- PWS: orders of the debug port (R230), bias bands and codes (R228). -/
def rulePws (nv : Fld → Nat) (c : Cls) (o v : Nat) : Option Nat :=
  if o = 0x44 ∧ c = .dbg ∧ nv PWS_REQ.GO = 1 ∧ (nv PWS_REQ.STATE = 2 ∨ nv PWS_REQ.STATE = 3) then some 1
  else if o = 0x410 ∧ !(nv PWS_BIAS_BAND.LO < nv PWS_BIAS_BAND.MID && nv PWS_BIAS_BAND.MID < nv PWS_BIAS_BAND.HI) then some 3
  else if o = 0x414 ∧ v % 4 = 3 then some 3
  else none

/-- Valid points of a table of operating points never fall with rising index (R241). -/
def risingPoints (f : Nat → Nat) : List Nat → Bool
  | p :: q :: t => decide (f p ≤ f q) && risingPoints f (q :: t)
  | _ => true

/-- CAP (R240, R241, R257). -/
def State.ruleCap (s : State) (nv : Fld → Nat) (c : Cls) (a o lo v : Nat) : Option Nat :=
  if o = 0x44 ∧ lo = 0 ∧ c = .kern ∧ s.on CAP_MODE.LOCK then some 5
  else if o = 0x408 ∧ !s.on (CAP_OPP.VALID v) then some 3
  else if o = 0x100 then
    if 64 < v then some 3 else if Config.isPrivate ((a - (CAP_YOWN.OWNER 0).addr) + lo / 8) then none else some 5
  else if o = 0x420 then
    let l := (List.range 16).filter fun n => nv (CAP_OPP.VALID n) = 1
    if risingPoints (fun n => nv (CAP_OPP.VID n)) l && risingPoints (fun n => nv (CAP_OPP.FRATIO n)) l then none else some 3
  else none

/-- FLT_INJ with GO: a GO while ARMED is ignored; with a TARGET that names nothing, GO and TARGET; with a CODE the unit does not
raise, the whole write (R383). -/
def State.ruleInj (s : State) (nv : Fld → Nat) (lo : Nat) : Option Nat :=
  let mode := nv FLT_INJ.MODE
  let target := nv FLT_INJ.TARGET
  if s.on FLT_INJ.ARMED then (if lo = 31 then some 5 else none)
  else if s.injectOk mode target (nv FLT_INJ.CODE) then none
  else if mode = 2 ∧ isUnit target ∨ lo = FLT_INJ.GO.lo ∨ lo = FLT_INJ.TARGET.lo then some 3
  else none

/-- FLT and LOG (R382, R383, R398). -/
def State.ruleFltLog (s : State) (nv : Fld → Nat) (a lo v : Nat) : Option Nat :=
  if a = FLT_CTRL.RESUME.addr then (if v = 1 ∧ !s.mayRecover then some 5 else none)
  else if a = FLT_INJ.GO.addr ∧ nv FLT_INJ.GO = 1 then s.ruleInj nv lo
  else if a = LOG_ERASE.KEY.addr ∧ (nv LOG_ERASE.KEY ≠ 0x10C5 ∨ nv LOG_ERASE.REGION = 0 ∨ 2 < nv LOG_ERASE.REGION) then some 3
  else none

/-- FAR_SUSCLR (R197): the points it names can all be cleared. -/
def State.ruleSusclr (s : State) (nv : Fld → Nat) (lo : Nat) : Option Nat :=
  let y := nv FAR_SUSCLR.YARD
  if lo ≠ 15 ∨ nv FAR_SUSCLR.GO = 0 then none
  else if Config.yardCount ≤ y then some 3
  else if ((List.range Config.sensePoints).filter (tb (nv FAR_SUSCLR.POINTS))).all fun p => (s.clearSuspect y p).2 then none
  else some 5

/-- STG (R293, R297, R299). -/
def State.ruleStg (s : State) (nv : Fld → Nat) (a o v : Nat) : Option Nat :=
  let off := s.get (STG_RAIL.STATE 0) == 0 && s.get (STG_RAIL.STATE 1) == 0
  let r := (a - (STG_RAIL.reg 0).addr) / 0x20
  if (o = 0x48 ∨ o = 0x4C) ∧ !off then some 5
  else if o = 0x80 ∧ r = 1 ∧ s.tracking then some 5
  else if o = 0x84 ∧ !s.voutOk r v then some 5
  else if o = 0x40C ∧ nv (STG_BRAKE.ON ((a - (STG_BRAKE.reg 0).addr) / 0x20)) ≤ nv (STG_BRAKE.OFF ((a - (STG_BRAKE.reg 0).addr) / 0x20)) then some 3
  else none

/-- A cluster's page (R173, R174). -/
def State.ruleSxt (s : State) (nv : Fld → Nat) (a o lo : Nat) : Option Nat :=
  let n := pageOf a - 0x51
  let x := a % 0x1000
  if o = 0x400 then
    let ch := (x - 0x400) / 0x10
    if signed 16 (nv (SXT_CH_WIN.LO n ch)) ≤ signed 16 (nv (SXT_CH_WIN.HI n ch)) then none else some 3
  else if 0x80 ≤ o ∧ o ≤ 0x9C ∧ !(o = 0x80 ∧ lo ≤ 1) ∧ s.strBusy n ((x - 0x80) / 0x40) then some 5
  else none

/-- BAY records: a GO names a remount, and a yard on the side it names (R76). -/
def ruleBay (b o lo v : Nat) : Option Nat :=
  if o = 0x2C ∧ lo = 2 ∧ v = 1 ∧ (Config.remountLow b).isNone then some 5 else none

/-- A write of thermal thresholds that would leave one above its table's value, or throttle at or below warning, is ignored as a
whole (R274). -/
def badTh (nv : Fld → Nat) (throt warn : Fld) (throtMax warnMax : Nat) : Bool :=
  decide (throtMax < nv throt) || decide (warnMax < nv warn) || decide (nv throt ≤ nv warn)

/-- The first range or state rule that refuses a field of a write, as its REASON: 3 a value or range, 5 a state. -/
def State.ruleOf (s : State) (nv : Fld → Nat) (c : Cls) (a lo v : Nat) : Option Nat :=
  let k := rowKey a
  if !inRange k lo v then some 3
  else if k.1 = 0x20 then s.ruleYrd nv ((a - 0x20000) / 0x100) k.2 lo v
  else if k.1 = 0x40 then s.ruleCoef nv a
  else if k.1 = 0x30 then ruleBay ((a - bayHome) / 0x40) k.2 lo v
  else
    match slotAt a with
    | some (w, slot) => if s.slotBusy w slot ∨ w = .cmu ∧ !s.on (CMK_USLOT.EN slot) then some 5 else none
    | none =>
      if k.2 = 0xC ∨ a = GLB_RESET.KEY.addr ∨ a = GLB_XREC.KEY.addr then ruleKeys nv c a
      else if k.2 < 0x40 then none
      else if k.1 = 0x51 then s.ruleSxt nv a k.2 lo
      else if k = (0x04, 0x80) then (let n := (a - (CMK_USLOT.reg 0).addr) / 4
        if lo = 0 ∧ v ≠ s.get (CMK_USLOT.CONTEXT n) ∧ s.slotBusy .cmu n then some 5 else none)
      else if k = (0x08, 0x600) then (if tb (s.get DRE_KEYVALID.VALID) ((a - (DRE_KEY.KEY 0).addr) / 0x60) then some 5 else none)
      else if k.1 = 0x09 then rulePws nv c k.2 v
      else if k.1 = 0x0A then s.ruleCap nv c a k.2 lo v
      else if k = (0x0B, 0x900) then (if badTh nv THM_TH_DIE.THROT THM_TH_DIE.WARN 100 95 then some 3 else none)
      else if k = (0x0B, 0x904) then (if badTh nv THM_TH_BND.THROT THM_TH_BND.WARN 90 85 then some 3 else none)
      else if k.1 = 0x0C ∨ k.1 = 0x0D then s.ruleFltLog nv a lo v
      else if k.1 = 0x0E then (if 0x54 ≤ k.2 ∧ k.2 ≤ 0x60 ∧ s.active then some 5 else none)
      else if k = (0x0F, 0x54) then s.ruleSusclr nv lo
      else if k.1 = 0x10 then
        if 0x44 ≤ k.2 ∧ k.2 ≤ 0x50 ∧ s.masterUsed then some 5
        else if k.2 = 0x80 ∧ lo = 0 ∧ v = 1 ∧ !s.inWayOn then some 5
        else if (k.2 = 0x84 ∨ k.2 = 0x88) ∧ (let t := s.tdmState ((a % 0x1000 - 0x80) / 0x20); t = tdmRunning ∨ t = tdmWaiting) then some 5
        else none
      else if k.1 = 0x11 then s.ruleStg nv a k.2 v
      else none

/-! ### The judgement of a field (R8) -/

/-- What a write does to a field it covers: sets it, acts without storing a value, meets a read-only field, or is refused. -/
inductive Verdict where
  | set (v : Nat)
  | act
  | ro
  | no (reason : Nat)
deriving DecidableEq, Repr

/-- Words of a write: home addresses and data. -/
abbrev Words := List (Nat × Word)

/-- The word a write offers, or the one that stands. -/
def State.newWord (s : State) (ws : Words) (a : Nat) : Word :=
  match ws.find? fun e => e.1 == a with
  | some e => e.2
  | none => s.word a

/-- A field as a write would leave it. -/
def State.newVal (s : State) (ws : Words) (f : Fld) : Nat := (s.newWord ws f.addr).field f.lo f.w

/-- The field is read-only: by its code, or for the unit it stands for (R78, R102, R188, R241, R324). -/
def isRo (a : Nat) (f : FSpec) : Bool :=
  let k := rowKey a
  f.acc == .ro || (k == (0x30, 0x30) && Config.anchorOf ((a - bayHome) / 0x40) == 0)
    || (k.1 == 0x40 && a % 0x100 / 0x20 == 0) || (k == (0x0A, 0x420) && a % 0x1000 == 0x420)
    || (k == (0x51, 0x408) && 32 ≤ (a % 0x1000 - 0x400) / 0x10)
    || ((slotAt a).isSome && 0x30 ≤ a % 0x40 && a % 0x40 < 0x3C)

/-- The field is kept by the action a write sets going, not stored by the write itself. -/
def byAction (a : Nat) (f : FSpec) : Bool :=
  f.acc == .wo || a == FLT_PEND.C.addr || a == FLT_CTRL.RESUME.addr || a == LOG_ERASE.KEY.addr || a == SEC_CONF0.CTX.addr
    || a == SEC_CONF1.CTX.addr || a == (STG_RAIL.ON 0).addr || a == (STG_RAIL.ON 1).addr || a == (STG_VOUT.CODE 0).addr
    || a == (STG_VOUT.CODE 1).addr || (a == LOG_CTRL.FREEZE.addr && f.lo == 0)
    || ((CAP_YOWN.OWNER 0).addr ≤ a && a < (CAP_YOWN.OWNER 0).addr + 0x80)
    || (0x5000 ≤ a && a < 0x6000 && a % 0x40 == 0x3C)

/-- The PG_EVTEN bits that are not reserved, by page (R9, R417). -/
def evtBits (p : Nat) : Nat :=
  match p with
  | 0x00 => 0x7 | 0x01 => 0x3 | 0x02 => 0x1 | 0x03 => 0x3 | 0x04 => 0xF | 0x06 => 0x1 | 0x07 => 0x7 | 0x08 => 0x7 | 0x09 => 0x3F
  | 0x0A => 0xFF | 0x0B => 0x7F | 0x0C => 0xFF | 0x0D => 0x3F | 0x0E => 0x7 | 0x0F => 0x1FF | 0x10 => 0xF | 0x11 => 0x1FF
  | 0x12 => 0xF | 0x13 => 0x1 | 0x14 => 0x7F | 0x50 => 0x3
  | _ => 0x7F

/-- The value a field takes from the value written: reserved bits stay 0 (R9), weights have a floor (R163). -/
def stored (a v : Nat) : Nat :=
  if a < bayHome ∧ hasHeader (a / 0x1000) ∧ a % 0x1000 = 0x18 then Nat.land v (evtBits (a / 0x1000))
  else if (slotAt a).isSome ∧ a % 0x40 = 0 then v % 2 ^ 18
  else if rowKey a = (0x51, 0x40C) then storedWeight ((a % 0x1000 - 0x400) / 0x10) v
  else v

/-- The judgement of one field, admission apart (R8). -/
def State.judge (s : State) (q : Requester) (ws : Words) (a : Nat) (f : FSpec) : Verdict :=
  let c := clsOf q
  let v := (s.newWord ws a).field f.lo f.w
  if isRo a f ∨ f.acc = .h2m ∧ c = .mgmt then .ro
  else if !mayWriteField c a f then .no 1
  else if f.acc == .rwx && !s.unlocked a then .no 2
  else
    match s.ruleOf (s.newVal ws) c a f.lo v with
    | some r => .no r
    | none =>
      if s.holding ∧ q.port ≠ .mp ∧ (slotAt a).isNone then .no 5
      else if byAction a f then .act
      else if f.acc = .w1c then .set (andNot f.w ((s.word a).field f.lo f.w) v)
      else .set (stored a v)

/-- The word with the fields of a write that are set. -/
def applied (w : Word) (l : List (FSpec × Verdict)) : Word :=
  l.foldl (fun w p => match p.2 with | .set v => w.withField p.1.lo p.1.w v | _ => w) w

/-- A field that admission watches: SET, PERIOD and CLASS of YRD_LOOP, MASK of YRD_FB (R89). -/
def watched (a : Nat) (f : FSpec) : Bool :=
  let k := rowKey a
  (k == (0x20, 0x80) && (f.lo == 0 || f.lo == 4 || f.lo == 6)) || (k == (0x20, 0x90) && f.lo == 0)

/-- The judgement of a word's fields: a change that would fail admission is refused in every field it watches (R89, R90), with
REASON 3, since no REASON names admission (DESIGN CHOICE, assumption log 38). The answer says whether that happened. -/
def State.judgeWord (s : State) (q : Requester) (ws : Words) (a : Nat) : List (FSpec × Verdict) × Bool :=
  let l := (fieldsAt a).map fun f => (f, s.judge q ws a f)
  if !l.any (fun p => watched a p.1) then (l, false)
  else
    let s' := s.setWord a (applied (s.word a) l)
    if s'.loopConfig true = s.loopConfig true ∨ s'.admits then (l, false)
    else (l.map fun p => match p.2 with | .set _ => (if watched a p.1 then (p.1, .no 3) else p) | _ => p, true)

/-! ### PG_ERR (R422) -/

/-- PORT of PG_ERR (R417). -/
def portCode : Port → Nat
  | .rp => 0
  | .mp => 1
  | .dbg => 2

/-- A refused access is captured in a page's PG_ERR, or sets OVERFLOW. -/
def State.pgErr (s : State) (pg : Nat) (q : Requester) (reason addr : Nat) : State :=
  let w := s.word (pg + 0x1C)
  if w.field 31 1 = 1 then s.setWord (pg + 0x1C) (w.withField 30 1 1)
  else s.setWord (pg + 0x1C) (pack [(1, 31), (w.field 30 1, 30), (classCode q, 27), (reason, 24), (portCode q.port, 22), (addr % 2 ^ 21, 0)])

/-- The REASON a write is recorded with, if it is: the lowest of the refusals; with none, and nothing set, 0, or 6 where every
word is reserved (R8, R416). -/
def recordReason (c : Cls) (a : Nat) (l : List (FSpec × Verdict)) : Option Nat :=
  let rs := l.filterMap fun p => match p.2 with | .no r => some r | _ => none
  let took := l.any fun p => match p.2 with | .set _ => true | .act => true | _ => false
  match rs.min? with
  | some r => some r
  | none => if took then none else if l = [] then some (if mayWriteAt c a then 6 else 1) else some 0

/-! ### What a write sets going -/

/-- Bits of a word that a write of it changed to 1. -/
def raised (old new : Word) : List Nat := (List.range 32).filter fun k => tb new.toNat k && !tb old.toNat k

/-- Bits of a word that differ. -/
def changed (old new : Word) : List Nat := (List.range 32).filter fun k => tb new.toNat k != tb old.toNat k

/-- PG_ACCESS (R419): unlock by a class, or lock. -/
def State.pageAccess (s : State) (page op : Nat) (c : Cls) : State :=
  if op = 1 then (s.put (unlockedF page) 1).put (unlockedBy page) (if c = .kern then 1 else 2)
  else if op = 2 then (s.put (unlockedF page) 0).put (unlockedBy page) 0
  else s

/-- GLB_XREC (R420). -/
def State.recordAccess (s : State) (region page op : Nat) : State :=
  let f := xrecBits region
  if 3 ≤ region then s
  else if op = 1 then s.put f (setBit (s.get f) page)
  else if op = 2 then s.put f (clearBit (s.get f) page)
  else s

/-- CMK_USLOT (R323): a changed CONTEXT empties the slot and retires its journal entry. -/
def State.uslotWritten (s : State) (slot : Nat) (old : Nat) : State :=
  let s :=
    if s.get (CMK_USLOT.CONTEXT slot) = old then s
    else
      let s := (List.range 16).foldl (fun s k => s.setWord (slotBase .cmu slot + 4 * k) 0) s
      { s with journal := s.journal.filter fun e => !decide (e.win = .cmu ∧ e.slot = slot) }
  s.confEdge

/-- The source of an order placed through PWS_REQ (R230, R231). -/
def orderSrc : Cls → OrderSrc
  | .mgmt => .mgmt
  | .dbg => .dbg
  | _ => .kernReg

/-- Source assertions that software's writes end (R381): STG_NOREC once ON has been set on every rail with a fitted phase,
STG_NORAIL once every rail has a present phase. -/
def State.railsReady (s : State) : State :=
  if (List.range 2).all fun r => s.railPhases r == [] || s.on (STG_RAIL.ON r) then s.deassertSource 0x2E else s

def State.railMapped (s : State) : State :=
  let s := (List.range Config.stagePhases).foldl State.refreshService s
  if (List.range 2).all fun r => s.railPhases r != [] then s.deassertSource 0x2F else s

/-- BAY_CTRL.ORDER (R63, R78, R431): no RELEASE takes effect on a bay with a phase recorded FAILED. -/
def State.bayOrder (s : State) (b order : Nat) : State :=
  if order = 1 then s.sendBay b (bayStateWord · 4)
  else if order = 2 then
    if s.get (PhF b false) = 5 ∨ s.get (PhF b true) = 5 then s else s.sendBay b (bayStateWord · 5)
  else if order = 3 then
    let p0 := s.get (BAY_STATE.PH0_STATE b) == 4
    let p1 := s.get (BAY_STATE.PH1_STATE b) == 4
    if p0 || p1 then s.sendBay b (phaseWord · p1 p0 3) else s
  else s

/-- BAY_REMOUNT.GO (R76): REMOUNT CONNECT or DISCONNECT to a remount. A connect to a yard in D3 or D4 waits for its wake, ordered once
or again; a disconnect ends a command that was connecting the remount. -/
def State.remountGo (s : State) (b : Nat) (connect side : Bool) (tag : Option CmdTag) : State :=
  match remountYard b side with
  | none => s
  | some y =>
    if connect then
      if (s.bay b).assigned.isNone ∧ s.get (BAY_STATE.STATE b) = 1 then s.assignRemount y b tag
      else
        let s := if (s.bay b).assigned = some y then s.modBay b fun v => { v with cmdTags := v.cmdTags ++ tag.toList } else s
        if s.joinable y then s.sendBay b fun slot => remountWord slot side true else s
    else
      let s := s.finishAll (s.bay b).cmdTags stFailed
      (s.modBay b fun v => { v with assigned := none, cmdTags := tag.toList }).sendBay b fun slot => remountWord slot side false

/-- Holding course ends (R382), and start-up that was held goes on from step 5 of R352 (R381): `how` 0 quiet period, 1 RESUME. -/
def State.endHold (s : State) (how : Nat) : State := (s.recover how).put FLT_STATUS.STARTUP_HELD 0

/-- Units' pages: what the fields taken set going. `s0` is the state before the write. -/
def State.afterPage (s s0 : State) (q : Requester) (a : Nat) (w : Word) (got : Nat → Bool) : State :=
  let k := rowKey a
  let c := clsOf q
  let go (lo : Nat) : Bool := got lo && w.field lo 1 == 1
  let i (base stride : Nat) : Nat := (a % 0x1000 - base) / stride
  if k.2 = 0xC ∧ k.1 ≠ 0x30 ∧ k.1 ≠ 0x20 ∧ k.1 ≠ 0x40 then (if got 0 then s.pageAccess (a / 0x1000) (w.field 0 2) c else s)
  else if a = GLB_RESET.KEY.addr then
    if !got 0 then s else if w.field 0 2 = 1 then s.cpResetGo else if w.field 0 2 = 2 then s.blockResetGo s.startIn else s
  else if a = GLB_XREC.KEY.addr then (if got 0 then s.recordAccess (w.field 14 2) (w.field 8 5) (w.field 0 2) else s)
  else if k = (0x02, 0x100) then (if got 0 then s.put PRT_MP.IBI_PEND (setBit (s.get PRT_MP.IBI_PEND) 4) else s)
  else if k = (0x02, 0x180) then (if got 0 then s.evt pgPRT 0 else s)
  else if k = (0x04, 0x80) then s.uslotWritten (i 0x80 4) (s0.get (CMK_USLOT.CONTEXT (i 0x80 4)))
  else if a = DRE_CTRL.RUN.addr then s.runWritten
  else if a = DRE_LOAD.GO.addr then
    if !go 8 then s
    else if !s.inWayOn then s.put DRE_LOAD_RES.RESULT ldBusy
    else (s.loadGo (s.get DRE_LOAD.SLOT) (s.get DRE_LOAD.SRC) (s.get64 DRE_LOAD_ADDR_LO.ADDR) none).1
  else if a = PWS_REQ.GO.addr then (if go 31 then s.orderByReg (s.get PWS_REQ.DOMAIN) (s.get PWS_REQ.STATE) (orderSrc c) else s)
  else if a = PWS_RETV.CODE.addr then (List.range Config.yardCount).foldl (fun s y => s.redeliver s0 y) s
  else if a = PWS_BIAS_BAND.LO.addr ∨ a = PWS_BIAS_MAP.RET.addr ∨ a = PWS_ASSIST_TH.CODE.addr then
    (List.range Config.yardCount).foldl State.biasWritten s
  else if k = (0x09, 0x5C) then
    ((raised (s0.word a) (s.word a)).map (32 * i 0x5C 4 + ·)).foldl State.pinCheck s
  else if a = CAP_DEV.KERN.addr then s.capChanged
  else if k = (0x0A, 0x80) then
    let s := if got 0 then s.ctxCapChanged (2 * i 0x80 4) else s
    if got 16 then s.ctxCapChanged (2 * i 0x80 4 + 1) else s
  else if k = (0x0A, 0x420) then
    if s.cap.oppOld.any fun e => e.1 == a then s else { s with cap := { s.cap with oppOld := (a, s0.word a) :: s.cap.oppOld } }
  else if a = CAP_JOB.GO.addr then
    if !go 31 then s
    else if w.field 30 1 = 1 then (s.jobEnd (s.get CAP_JOB.CONTEXT) (s.get CAP_JOB.TAG)).1
    else (s.jobBegin (s.get CAP_JOB.CONTEXT) (s.get CAP_JOB.TAG)).1
  else if k = (0x0A, 0x100) then
    ([0, 8, 16, 24].filter got).foldl (fun s lo => s.setOwner (4 * i 0x100 4 + lo / 8) (w.field lo 7)) s
  else if a = THM_PROOF.GO.addr then (if go 7 then s.proofGo (s.get THM_PROOF.YARD) else s)
  else if a = THM_PRECOND.GO.addr then
    let s := if go 29 then s.endPrecond else s
    if go 28 then s.precondGo (s.get THM_PRECOND.YARD) else s
  else if a = FLT_PEND.C.addr then s.fltAck (([0, 1, 2].filter go).map (2 ^ ·)).sum
  else if a = FLT_CTRL.RESUME.addr then (if go 0 then s.endHold 1 else s)
  else if k = (0x0C, 0x90) then s.retireFrames
  else if a = FLT_INJ.GO.addr then (if go 31 then s.injectGo (s.get FLT_INJ.MODE) (s.get FLT_INJ.TARGET) (s.get FLT_INJ.CODE) else s)
  else if a = FLT_INJ_PIN.PIN.addr then s.refreshPair
  else if a = LOG_CTRL.FREEZE.addr then
    if !got 0 ∨ w.field 0 1 = s.get LOG_CTRL.FREEZE then s else if w.field 0 1 = 1 then s.freezeLog none else s.releaseLog
  else if a = LOG_ERASE.KEY.addr then (if got 0 then s.startErase (w.field 0 2) else s)
  else if a = LOG_RD.GO.addr then (if go 31 then s.logRead (s.get LOG_RD.INDEX) else s)
  else if a = SEC_CONF0.CTX.addr ∨ a = SEC_CONF1.CTX.addr then
    if !got 0 then s
    else (changed (s0.word a) w).foldl (fun s k =>
      let c := k + (if a = SEC_CONF1.CTX.addr then 32 else 0)
      if tb w.toNat k then s.confSet c else s.confClear c) s
  else if a = FAR_CTRL.GO.addr then (if go 0 then (s.startPlan none).1 else s)
  else if a = FAR_SUSCLR.GO.addr then
    if w.field 15 1 = 0 ∨ Config.yardCount ≤ w.field 8 7 ∨ !got 0 then s
    else ((List.range Config.sensePoints).filter (tb (w.field 0 4))).foldl (fun s p => (s.clearSuspect (w.field 8 7) p).1) s
  else if a = FAR_WEAR_TH.LOSS_WORN.addr then ((List.range Config.bayCount).filter Config.bayFitted).foldl State.refreshWear s
  else if k = (0x0F, 0x400) then (if got 0 then s.endPause (i 0x400 16) else s)
  else if k = (0x10, 0x80) then
    let t := i 0x80 0x20
    let s := if go 1 then s.tdmStop t else s
    if go 0 then s.tdmGo t else s
  else if a = STG_RAILMAP.PKGB.addr then s.railMapped
  else if a = STG_PHCLR.CLR.addr then (if got 0 then s.phaseClear (w.field 0 30) else s)
  else if k = (0x11, 0x80) then
    if !got 0 then s else if w.field 0 1 = 1 then (s.railOn (i 0x80 0x20)).railsReady else s.railOff (i 0x80 0x20)
  else if k = (0x11, 0x84) then (if got 0 then s.voutSet (i 0x84 0x20) (w.field 0 10) else s)
  else if k = (0x11, 0x88) then s.rateWritten s0 (i 0x80 0x20)
  else if k = (0x11, 0x400) ∨ k = (0x11, 0x404) then s.rateWritten s0 (i 0x400 0x20)
  else if a = PMB_SCAN.GO.addr then (if go 0 then s.scanGo else s)
  else if a = PMB_RAW.GO.addr then (if go 31 then s.rawGo else s)
  else if a = FLS_CTRL.GO.addr then (if go 31 then s.flsGo (s.get FLS_CTRL.OP) q else s)
  else if k = (0x50, 0x48) then
    (((changed (s0.word a) (s.word a)).map (32 * i 0x48 4 + ·)).filter (· < Config.yardCount)).foldl State.maintWritten s
  else s

/-- Clusters. -/
def State.afterSxt (s : State) (a : Nat) (w : Word) (got : Nat → Bool) : State :=
  let n := a / 0x1000 - 0x51
  let o := (rowKey a).2
  let x := a % 0x1000
  let go (lo : Nat) : Bool := got lo && w.field lo 1 == 1
  if o = 0x48 then (if go 6 then s.urgGo n else s)
  else if o = 0x80 then
    let m := (x - 0x80) / 0x40
    let s := if go 1 then s.strStop n m [] else s
    if go 0 ∧ !s.strBusy n m then (s.strGo n m none).1 else s
  else if o = 0x400 ∨ o = 0x404 then (if got 0 || got 8 || got 16 then s.windowWritten n ((x - 0x400) / 0x10) else s)
  else if o = 0x40C then (if got 0 then s.weightWritten n else s)
  else if o = 0x840 then
    if !got 0 then s
    else
      match w.field 0 3 with
      | 1 => (s.calZero n none).1
      | 2 => s.calFull n none
      | 3 => s.calAbort n
      | _ => s
  else s

/-- YRD records (R73, R117): a SETPOINT goes out where the VIDeff target or the slew code has changed, one for both. -/
def State.afterYrd (s s0 : State) (a : Nat) (w : Word) (got : Nat → Bool) : State :=
  let y := (a - 0x20000) / 0x100
  let o := a % 0x100
  if !got 0 then s
  else if o = 0x40 then s.redeliver s0 y
  else if o = 0x44 then
    (if s.videff y = s0.videff y ∧ s.get (YRD_SLEW.SLEW y) ≠ s0.get (YRD_SLEW.SLEW y) then s.deliver y else s)
  else if o = 0xCC then s.sendDroop y (w.field 0 6)
  else s

/-- BAY records (R68, R76, R117). -/
def State.afterBay (s : State) (a : Nat) (w : Word) (got : Nat → Bool) : State :=
  let b := (a - bayHome) / 0x40
  let o := a % 0x40
  if o = 8 then (if got 0 then s.bayOrder b (w.field 0 2) else s)
  else if o = 0x28 then (if got 0 then s.sendBay b fun slot => cfgWrWord slot 2 (w.field 0 4) else s)
  else if o = 0x30 then (if got 0 then s.sendBay b fun slot => cfgWrWord slot 3 (w.field 0 6) else s)
  else if o = 0x2C ∧ got 2 ∧ w.field 2 1 = 1 then s.remountGo b (s.on (BAY_REMOUNT.CONNECT b)) (s.on (BAY_REMOUNT.SIDE b)) none
  else s

/-- What the fields of a word that a write took set going. -/
def State.afterWord (s s0 : State) (q : Requester) (a : Nat) (w : Word) (got : Nat → Bool) : State :=
  let k := (rowKey a).1
  if k = 0x30 then (s.memWritten 8 (a / 8)).afterBay a w got
  else if k = 0x20 then (s.memWritten 8 (a / 8)).afterYrd s0 a w got
  else if k = 0x40 then s.memWritten 5 (a / 8)
  else if k = 0x51 ∧ 0x40 ≤ a % 0x1000 then s.afterSxt a w got
  else if k = 0x05 then s
  else s.afterPage s0 q a w got

/-! ### The write -/

/-- A write into the model store window (R138): only the spare frame takes it. -/
def State.storeWrite (s : State) (q : Requester) (req : Nat) (ws : Words) : State :=
  let a := req - 0x80000
  let refuse (r : Nat) : State := s.pgErr pgGLB q r req
  if a < 0x2000 then refuse (if mayWriteAt (clsOf q) req then 6 else 1)
  else if (a - 0x2000) / 0xE000 ≠ s.get DRE_STATUS.SPARE then refuse 0
  else if !mayWriteAt (clsOf q) req then refuse 1
  else if s.holding ∧ q.port ≠ .mp then refuse 5
  else ws.foldl (fun s e =>
    ((le 4 e.2.toNat).zipIdx.foldl (fun s p => s.setStore (e.1 - 0x80000 + p.2) p.1) s).memWritten 6 ((e.1 - 0x80000) / 8)) s

/-- A write of words at consecutive home addresses, requested at an aperture offset (R8). The answer lists the fields taken:
home address, lowest bit. -/
def State.regWrite (s : State) (q : Requester) (req : Nat) (ws : Words) : State × List (Nat × Nat) :=
  if 0x80000 ≤ req ∧ req < 0x100000 then (s.storeWrite q req ws, [])
  else if 0x100000 ≤ req then (s.pgErr pgGLB q (if req < 0x140000 then 0 else if mayWriteAt (clsOf q) req then 6 else 1) req, [])
  else
    let judged := ws.map fun e => (e, s.judgeWord q ws e.1)
    let all := judged.flatMap fun j => j.2.1
    let a0 := (ws.headD (0, 0)).1
    let s0 := s
    let s := match recordReason (clsOf q) a0 all with | some r => s.pgErr (errPage a0) q r req | none => s
    let s := if judged.any fun j => j.2.2 then s.admitRefused else s
    let s := judged.foldl (fun s j => s.setWord j.1.1 (applied (s.word j.1.1) j.2.1)) s
    let got (l : List (FSpec × Verdict)) (lo : Nat) : Bool := l.any fun p => p.1.lo == lo &&
      match p.2 with | .set _ => true | .act => true | _ => false
    let s := judged.foldl (fun s j =>
      if (fieldsAt j.1.1).any fun f => got j.2.1 f.lo
      then s.afterWord s0 q j.1.1 j.1.2 (got j.2.1) else s) s
    (s, judged.flatMap fun j => ((fieldsAt j.1.1).filter fun f => got j.2.1 f.lo).map fun f => (j.1.1, f.lo))

/-! ### Writes of single fields by a command (R328, R329) -/

/-- The status a command ends with where the register write would be refused (R329). -/
def refusalStatus (reason : Nat) : Nat :=
  if reason = 1 ∨ reason = 2 then stRefusedAuth else if reason = 3 then stRefusedRange else stRefusedBusy

/-- A command sets fields, all of them or none, as register writes of its requester would: 0 where they are set, else the status
it is refused with. PG_ERR records nothing. -/
def State.fieldWrite (s : State) (q : Requester) (l : List (Fld × Nat)) : State × Nat :=
  let addrs := (l.map fun p => p.1.addr).eraseDups
  let ws : Words := addrs.map fun a =>
    (a, (l.filter fun p => p.1.addr == a).foldl (fun w p => w.withField p.1.lo p.1.w p.2) (s.word a))
  let js := l.filterMap fun p =>
    ((fieldsAt p.1.addr).find? fun f => decide (f.lo ≤ p.1.lo ∧ p.1.lo < f.lo + f.w)).map fun f => (p.1.addr, f, s.judge q ws p.1.addr f)
  let reasons := js.filterMap fun j => match j.2.2 with | .no r => some r | .ro => some 3 | _ => none
  match reasons.min? with
  | some r => (s, refusalStatus r)
  | none =>
    let s' := js.foldl (fun s j => s.setWord j.1 (applied (s.word j.1) [j.2])) s
    if js.any (fun j => watched j.1 j.2.1) ∧ s'.loopConfig true ≠ s.loopConfig true ∧ !s'.admits then (s.admitRefused, stRefusedRange)
    else
      (ws.foldl (fun t e => t.afterWord s q e.1 e.2 fun lo => js.any fun j => j.1 == e.1 && j.2.1.lo == lo) s', 0)

end Sys2Proof.Machine
end

