-- ==== Sys2Proof/Machine/Commands.lean ====
section
/-!
DEFINITION. The command windows (R322-R336): the commit of a slot and its checks, the journal, and the commands.
-/

namespace Sys2Proof.Machine

/-! ### A command as the journal holds it (R324, R332) -/

/-- A field of an operand: bits lo … lo + w − 1 of OPk. -/
def Entry.op (e : Entry) (k lo w : Nat) : Nat := (e.ops.getD k 0).toNat / 2 ^ lo % 2 ^ w

/-- The requester a command's writes are made by: MGMT for CMD, KERN for CMK, USER authority for CMU (R322). -/
def winReq (w : Window) : Requester :=
  match w with
  | .cmd => ⟨.mp, 0⟩
  | .cmk => ⟨.rp, 1⟩
  | .cmu => ⟨.rp, 2⟩

/-- The word of the journal memory that holds a slot's entry (R384). -/
def journalWord (w : Window) (slot : Nat) : Nat :=
  match w with
  | .cmd => slot
  | .cmk => 16 + slot
  | .cmu => 32 + slot

/-- An entry made of the 64 bytes of a slot, as they stand at its commit. -/
def State.slotEntry (s : State) (w : Window) (slot : Nat) (seq : Word) : Entry :=
  let b := slotBase w slot
  let head := s.word b
  { win := w, slot := slot, seq := seq, opcode := head.field 0 16, flags := BitVec.ofNat 8 (head.field 16 2), tag := s.word (b + 4)
    ops := (List.range 5).map fun k => (s.word (b + 12 + 8 * k)) ++ (s.word (b + 8 + 8 * k))
    state := .accepted, status := stAccepted, result := 0, at_ := s.sysTime, recSent := false, late := false }

/-! ### LAST (R325) -/

/-- The word that holds LAST of a window, or of a CMU slot. -/
def lastAddr (w : Window) (slot : Nat) : Nat :=
  match w with
  | .cmd => 0x3040
  | .cmk => 0x4040
  | .cmu => slotBase .cmu slot + 0x3C

/-! ### The checks (R325, R328, R361, R380) -/

/-- The opcodes of R328. -/
def opcodes : List Nat := [0, 1, 0x100, 0x101, 0x102, 0x200, 0x201, 0x300, 0x301, 0x302, 0x400, 0x401, 0x402, 0x500, 0x501, 0x600]

/-- Check 2: the opcode is permitted for the window, and for CMU for the slot's context and in the user mask. -/
def State.permitted (s : State) (e : Entry) : Bool :=
  match e.win with
  | .cmd => !(e.opcode == 0x302 || (e.opcode == 0x301 && e.op 0 16 1 == 1))
  | .cmk => !(e.opcode == 0x501 || (e.opcode == 1 && e.op 0 0 2 == 0))
  | .cmu =>
    if e.opcode = 0 then true
    else if e.opcode = 0x200 then
      let d := e.op 0 0 7
      let t := e.op 0 8 3
      decide (Config.yardCount ≤ d ∨ 4 < t) || (decide (t ≤ 1) && s.on (Fld.bit PWS_USER_MASK.DOMAIN d))
    else if e.opcode = 0x302 then e.op 0 0 6 == s.get (CMK_USLOT.CONTEXT e.slot)
    else !(opcodes.contains e.opcode)

/-- The rings a CAPTURE may name, and its source (R174, R180, R183, R328). -/
def captureRange (e : Entry) : Bool :=
  let n := e.op 0 0 5
  let base := (e.ops.getD 1 0).toNat
  let log2 := e.op 0 16 5
  let trig := e.op 0 12 3
  let count := e.op 2 0 25
  decide (n % 2 = 0 ∧ n < Config.clusterCount) && decide (e.op 0 6 6 < 32)
    && Config.chKind (n + e.op 0 5 1) (e.op 0 6 6) != .absent
    && decide (trig ≤ 3) && decide (1 ≤ count ∧ count ≤ 2 ^ 24)
    && (trig != 2 || Config.chKind (n + e.op 0 34 1) (e.op 0 28 6) != .absent) && (trig != 3 || decide (e.op 0 21 7 < Config.yardCount))
    && (if e.op 0 15 1 = 0 then decide (12 ≤ log2 ∧ log2 ≤ 18 ∧ base % 2 ^ log2 = 0 ∧ base + 2 ^ log2 ≤ 262144)
        else decide (12 ≤ log2 ∧ log2 ≤ 30 ∧ base % 4096 = 0))

/-- Check 3: a listed opcode, operands in range, units present. -/
def State.operandsOk (s : State) (e : Entry) : Bool :=
  let yard := decide (e.op 0 0 7 < Config.yardCount)
  match e.opcode with
  | 0x000 => true
  | 0x001 => e.op 0 0 2 != 3
  | 0x100 => yard && decide (40 ≤ e.op 0 16 10 ∧ e.op 0 16 10 ≤ 520)
  | 0x101 => yard && !(e.op 0 26 1 == 1 && e.op 1 4 2 == 3)
  | 0x102 => (Config.remountLow (e.op 0 0 11)).isSome
  | 0x200 => yard && decide (e.op 0 8 3 ≤ 4)
  | 0x201 => yard
  | 0x300 | 0x301 | 0x302 | 0x500 | 0x600 => true
  | 0x400 => e.op 0 4 2 != 3
  | 0x401 => captureRange e
  | 0x402 => decide (e.op 0 0 5 < Config.clusterCount) && (e.op 0 5 2 == 1 || e.op 0 5 2 == 2)
  | 0x501 => yard && decide (e.op 0 16 6 ≤ 32) && (e.op 0 9 1 == 0 || decide (s.get (CAP_OPP.FRATIO 0) ≤ e.op 0 24 8))
  | _ => false

/-- Check 4 (R361, R380): the status detail of a refusal, if it is one. -/
def State.notNow (s : State) (e : Entry) : Option Nat :=
  if !s.inWayOn ∧ !([0, 1, 0x100, 0x200, 0x201].contains e.opcode) then some 0
  else if s.holding ∧ e.win ≠ .cmd then some 0xF0
  else none

/-- The outcome of checks 2 to 4: status and detail; ACCEPTED where none refuses. -/
def State.outcome (s : State) (e : Entry) : Nat × Nat :=
  if !s.permitted e then (stRefusedAuth, 0)
  else if !s.operandsOk e then (stRefusedRange, 0)
  else match s.notNow e with | some d => (stRefusedBusy, d) | none => (stAccepted, 0)

/-! ### ABORT (R330) -/

/-- The entry an ABORT names. -/
def State.abortTarget (s : State) (a : Entry) : Option Entry :=
  let w : Window := match a.op 0 0 2 with | 0 => .cmd | 1 => .cmk | _ => .cmu
  s.journal.find? fun e => decide (e.win = w) && (decide (w ≠ .cmu) || e.slot == a.op 0 2 6) && e.seq.toNat == a.op 0 32 32

/-- A running capture or calibration is stopped at once: whether it was. -/
def State.stopRunning (s : State) (e : Entry) : State × Bool :=
  let n := e.op 0 0 5
  if e.opcode = 0x401 then
    if (s.cluster n).ss0.tag = some e.cmdTag ∧ s.strBusy n 0 then (s.strStop n 0 [], true) else (s, false)
  else if e.opcode = 0x402 then
    let st := s.get (SXT_CAL.STATE n)
    if (s.cluster n).calTag = some e.cmdTag ∧ 1 ≤ st ∧ st ≤ 3 then (s.calAbort n, true) else (s, false)
  else (s, false)

/-- ABORT of a started command: a domain order stops at its next step and ends the ABORT with it; a capture or a calibration stops now;
any other command goes on, and the ABORT comes too late. -/
def State.abortStarted (s : State) (t : CmdTag) (e : Entry) : State :=
  let (s', held) := if e.opcode = 0x200 then s.abortDom (e.op 0 0 7) e.cmdTag t else (s, false)
  if held then s'
  else
    let (s', ok) := s.stopRunning e
    if ok then s'.finish t stDone 0 0 else (s.modEntry e.cmdTag fun e => { e with late := true }).finish t stDone 1 0

/-- ABORT, a command of tag t, acts on the command it names. -/
def State.abortCmd (s : State) (t : CmdTag) (a : Entry) : State :=
  match s.abortTarget a with
  | none => s.finish t stRefusedRange 0 0
  | some e =>
    match e.state with
    | .refused => s.finish t stRefusedRange 0 0
    | .final => s.finish t stDone 1 0
    | .accepted => (s.finish e.cmdTag stAborted 0 0).finish t stDone 0 0
    | .started _ => s.abortStarted t e

/-! ### What each command does at its start (R328) -/

/-- SET_LOOP: the fields selected, with their values. -/
def loopFields (e : Entry) : List (Fld × Nat) :=
  let y := e.op 0 0 7
  let all : List (Nat × Fld × Nat) := [(24, YRD_LOOP.SET y, e.op 1 0 3), (25, YRD_LOOP.MODE y, e.op 1 3 1), (26, YRD_LOOP.PERIOD y, e.op 1 4 2),
    (27, YRD_LOOP.CLASS y, e.op 1 6 1), (28, YRD_LOOP.SUP y, e.op 1 7 2), (29, YRD_FB.MASK y, e.op 1 9 4)]
  (all.filter fun f => e.op 0 f.1 1 == 1).map Prod.snd

/-- A command that ends in its start. -/
def State.ended (s : State) (t : CmdTag) (code : Nat) (result : Word := 0) : State := s.finish t (if code = 0 then stDone else code) 0 result

/-- REMOUNT: BAY_REMOUNT with GO; a connect needs a remount that is OFF and not assigned to its other neighbour (R76 step 0), a disconnect one that is in a yard or on its way. -/
def State.remountCmd (s : State) (t : CmdTag) (e : Entry) : State :=
  let b := e.op 0 0 11
  let connect := e.op 0 13 1 == 1
  let side := e.op 0 12 1 == 1
  let (s', code) := s.fieldWrite (winReq e.win) [(BAY_REMOUNT.CONNECT b, e.op 0 13 1), (BAY_REMOUNT.SIDE b, e.op 0 12 1)]
  if code ≠ 0 then s'.ended t code
  else
    let st := s'.get (BAY_STATE.STATE b)
    if connect then
      let free := (s'.bay b).assigned.isNone || (s'.bay b).assigned == remountYard b side
      if st = 1 ∧ free then s'.remountGo b true side (some t) else s'.ended t stRefusedBusy
    else
      if st = 1 then ((s'.finishAll (s'.bay b).cmdTags stFailed).modBay b fun v => { v with assigned := none, cmdTags := [] }).ended t 0
      else if st = 6 ∨ (s'.bay b).discStep ≠ 0 then s'.ended t stRefusedBusy
      else s'.remountGo b false side (some t)

/-- DOMAIN_STATE: an order of the window's source (R230, R231). -/
def State.domainCmd (s : State) (t : CmdTag) (e : Entry) : State :=
  let src : OrderSrc := match e.win with | .cmd => .mgmt | .cmk => .kernCmd | .cmu => .user
  let d := e.op 0 0 7
  let (s, code) := s.placeOrder d (e.op 0 8 3) src false (some t)
  let s := if code = stAccepted ∨ code = stDone then s else s.ended t code
  s.pinCheck d

/-- MAINT: the SXT_MAINT bit; DONE once SXT_MAINT_NOW shows it. -/
def State.maintCmd (s : State) (t : CmdTag) (e : Entry) : State :=
  let y := e.op 0 0 7
  let (s, code) := s.fieldWrite (winReq e.win) [(Fld.bit SXT_MAINT.YARD y, e.op 0 8 1)]
  if code ≠ 0 then s.ended t code
  else
    if s.get (Fld.bit SXT_MAINT_NOW.YARD y) = e.op 0 8 1 then s.ended t 0
    else s.setYard y { s.yard y with maintTags := (s.yard y).maintTags ++ [t] }

/-- JOB: CAP_JOB with GO. -/
def State.jobCmd (s : State) (t : CmdTag) (e : Entry) : State :=
  let c := e.op 0 0 6
  let tag := e.op 0 16 16
  let s := (s.put CAP_JOB.CONTEXT c).put CAP_JOB.TAG tag
  let (s, code) := if e.op 0 8 1 = 1 then s.jobEnd c tag else s.jobBegin c tag
  s.ended t code

/-- BUNDLE_LOAD: DRE_LOAD with GO. -/
def State.bundleCmd (s : State) (t : CmdTag) (e : Entry) : State :=
  let s := (s.put DRE_LOAD.SRC (e.op 0 4 2)).put DRE_LOAD.SLOT (e.op 0 0 3)
  let a := (e.ops.getD 1 0).toNat
  let (s, ok) := (s.put64 DRE_LOAD_ADDR_LO.ADDR a).loadGo (e.op 0 0 3) (e.op 0 4 2) a (some t)
  if ok then s else s.ended t stRefusedBusy

/-- CAPTURE: SS0 of the even cluster. -/
def State.captureCmd (s : State) (t : CmdTag) (e : Entry) : State :=
  let n := e.op 0 0 5
  if s.strBusy n 0 then s.ended t stRefusedBusy
  else
    let s := (s.put (SXT_STR_CTRL.SRC n 0) 1).put (SXT_STR_CTRL.CAP_ODD n 0) (e.op 0 5 1)
    let s := (s.put (SXT_STR_CTRL.CHANNEL n 0) (e.op 0 6 6)).put (SXT_STR_CTRL.TRIG n 0) (e.op 0 12 3)
    let s := (s.put (SXT_STR_CTRL.DEST n 0) (e.op 0 15 1)).put (SXT_STR_SIZE.LOG2 n 0) (e.op 0 16 5)
    let s := (s.put (SXT_STR_CTRL.TRIG_YARD n 0) (e.op 0 21 7)).put (SXT_STR_CTRL.TRIG_CHAN n 0) (e.op 0 28 6)
    let s := (s.put (SXT_STR_CTRL.TRIG_ODD n 0) (e.op 0 34 1)).put (SXT_STR_COUNT.COUNT n 0) (e.op 2 0 25)
    let s := (s.put64 (SXT_STR_BASE_LO.BASE n 0) (e.ops.getD 1 0).toNat).put64 (SXT_STR_TTIME_LO.TIME n 0) (e.ops.getD 3 0).toNat
    let (s, ok) := s.strGo n 0 (some t)
    if ok then s else s.ended t stRefusedBusy

/-- SYSCAL: STEP 1, or STEP 2 once zero has been measured. -/
def State.syscalCmd (s : State) (t : CmdTag) (e : Entry) : State :=
  let n := e.op 0 0 5
  if e.op 0 5 2 = 1 then
    let (s, ok) := s.calZero n (some t)
    if ok then s else s.ended t stRefusedBusy
  else if s.get (SXT_CAL.STATE n) = 2 then s.calFull n (some t)
  else s.ended t stRefusedBusy

/-- LOG_FREEZE (R397); a freeze already waited for by a command refuses another. -/
def State.freezeCmd (s : State) (t : CmdTag) (e : Entry) : State :=
  if e.op 0 0 1 = 0 then s.releaseLog.ended t 0
  else if s.logTag.isSome then s.ended t stRefusedBusy
  else s.freezeLog (some t)

/-- FAR_RECORD (R331). -/
def State.recordCmd (s : State) (t : CmdTag) (e : Entry) : State :=
  let (s, ok) := s.startRecord (e.op 0 0 7) (e.op 0 8 1 == 1) (if e.op 0 9 1 = 1 then some (e.op 0 16 6, e.op 0 24 8) else none) (some t)
  if ok then s else s.ended t stRefusedBusy

/-- An accepted command starts (R326, R333): its entry is STARTED at step 1, and the command acts. -/
def State.startCmd (s : State) (t : CmdTag) : State :=
  match s.entry t with
  | none => s
  | some e =>
    if e.state ≠ .accepted then s
    else
      let q := winReq e.win
      let s := s.modEntry t fun e => { e with state := .started 1 }
      let y := e.op 0 0 7
      let set (l : List (Fld × Nat)) : State := let (s, code) := s.fieldWrite q l; s.ended t code
      match e.opcode with
      | 0x000 => s.ended t 0
      | 0x001 => s.abortCmd t e
      | 0x100 => set [(YRD_VID.TARGET y, e.op 0 16 10), (YRD_SLEW.SLEW y, e.op 0 32 4)]
      | 0x101 =>
        let (s, code) := s.fieldWrite q (loopFields e)
        s.ended t code (if code = 0 then BitVec.ofNat 32 (s.tilStatus.field 16 7) else 0)
      | 0x102 => s.remountCmd t e
      | 0x200 => s.domainCmd t e
      | 0x201 => s.maintCmd t e
      | 0x300 => set [(CAP_MODE.MODE, e.op 0 0 2)]
      | 0x301 =>
        if e.op 0 16 1 = 1 then set [(ctxCapF (e.op 0 24 6), e.op 0 0 16)]
        else set [(if e.win = .cmd then CAP_DEV.MGMT else CAP_DEV.KERN, e.op 0 0 16)]
      | 0x302 => s.jobCmd t e
      | 0x400 => s.bundleCmd t e
      | 0x401 => s.captureCmd t e
      | 0x402 => s.syscalCmd t e
      | 0x500 => let (s, ok) := s.startPlan (some t); if ok then s else s.ended t stRefusedBusy
      | 0x501 => s.recordCmd t e
      | _ => s.freezeCmd t e

/-- Accepted commands that have not started do, in journal order, where a core serves (R326, R335, R336). -/
def State.startAccepted (s : State) : State :=
  if s.unserved then s
  else (s.journal.filter fun e => decide (e.state = .accepted)).foldl (fun s e => s.startCmd e.cmdTag) s

/-! ### The commit (R325, R327, R332) -/

/-- A refusal at commit is counted and set as the window's event; a REFUSED_SEQ counts as well in CMx_CNT_SEQERR. -/
def State.countRefusal (s : State) (w : Window) (seqErr : Bool) : State :=
  match w with
  | .cmd => (if seqErr then s.bump ⟨0x3E08, 0, 32⟩ else s).bump ⟨0x3E04, 0, 32⟩ |>.evt pgCMD 1
  | .cmk => (if seqErr then s.bump ⟨0x4E08, 0, 32⟩ else s).bump ⟨0x4E04, 0, 32⟩ |>.evt pgCMK 1
  | .cmu => (s.bump CMK_CNT_USER_REFUSED.COUNT).evt pgCMK 3

/-- An acceptance is counted. -/
def acceptCounter (w : Window) : Fld :=
  match w with
  | .cmd => ⟨0x3E00, 0, 32⟩
  | .cmk => ⟨0x4E00, 0, 32⟩
  | .cmu => CMK_CNT_USER_ACCEPT.COUNT

/-- The helm cores take a commit of a slot. -/
def State.takeCommit (s : State) (w : Window) (slot : Nat) (seq : Word) : State :=
  let status (s : State) (v : Nat) : State := s.setWord (slotBase w slot + 0x30) (BitVec.ofNat 32 v)
  if seq ≠ s.word (lastAddr w slot) + 1 ∨ w ≠ .cmu ∧ slot ≠ seq.toNat % 16 then (status s stRefusedSeq).countRefusal w true
  else
    let e := s.slotEntry w slot seq
    let (code, detail) := s.outcome e
    let ok := code = stAccepted
    let e := { e with state := if ok then .accepted else .refused, status := code + detail * 256 }
    let s := s.setWord (lastAddr w slot) seq
    let s := { s with journal := (s.journal.filter fun e => !decide (e.win = w ∧ e.slot = slot)) ++ [e] }
    let s := (status s (code + detail * 256)).memWritten 4 (journalWord w slot)
    if ok then (s.bump (acceptCounter w)).startCmd ⟨w, slot, seq⟩ else s.countRefusal w false

/-- The commits latched with one more: one per slot, which keeps its place and takes the later SEQ (R336; DESIGN CHOICE, assumption
log 31). -/
def latchCommit (l : List (Window × Nat × Word)) (w : Window) (slot : Nat) (seq : Word) : List (Window × Nat × Word) :=
  if l.any fun c => decide (c.1 = w ∧ c.2.1 = slot) then l.map fun c => if c.1 = w ∧ c.2.1 = slot then (w, slot, seq) else c
  else l ++ [(w, slot, seq)]

/-- The SEQ write of a slot commits it: STATUS reads 0 until a core takes the commit, which during a takeover is latched (R324, R336). -/
def State.commit (s : State) (w : Window) (slot : Nat) (seq : Word) : State :=
  let s := s.setWord (slotBase w slot + 0x30) 0
  if s.taking then { s with latched := latchCommit s.latched w slot seq } else s.takeCommit w slot seq

/-! ### Reissue after a takeover or a control-plane reset (R333, R335) -/

/-- The commands whose orders engines hold: domain sequencers, clusters, the DRE loader, the farrier, remounts on their way, maintenance
orders, the logbook's freeze (R333). -/
def State.engineTags (s : State) : List CmdTag :=
  (s.doms.flatMap fun e => match e.2.order with | some o => o.tag.toList ++ o.aborters | none => [])
    ++ (s.clusters.flatMap fun e => e.2.ss0.tag.toList ++ e.2.calTag.toList)
    ++ (match s.load with | some l => l.tag.toList | none => []) ++ s.farTag.toList ++ s.planTag.toList ++ s.logTag.toList
    ++ (s.bays.flatMap fun e => e.2.cmdTags) ++ s.yards.flatMap fun e => e.2.maintTags

/-- The core reissues the step that a started command stands at: an engine that holds an order with its tag ignores it, and the outcome
of one that has ended ends the command. -/
def State.reissue (s : State) (e : Entry) : State :=
  match s.kept.find? fun k => decide (k.tag = e.cmdTag) with
  | some k => { s with kept := s.kept.filter fun k => !decide (k.tag = e.cmdTag) }.finish e.cmdTag k.code k.detail k.result k.late
  | none =>
    match e.state with
    | .started _ =>
      if e.cmdTag ∈ s.engineTags then s else (s.modEntry e.cmdTag fun e => { e with state := .accepted }).startCmd e.cmdTag
    | _ => s

/-- A core serves again: outcomes kept are read and orders reissued, accepted commands start, and latched commits are taken in order
(R333, R335, R336). -/
def State.serve (s : State) : State :=
  let s := (s.journal.foldl State.reissue s).startAccepted
  s.latched.foldl (fun s c => s.takeCommit c.1 c.2.1 c.2.2) { s with latched := [] }

/-! ### Accesses that meet a check error (R384, R385) -/

/-- The protected memory that holds a home address, and the 64-bit word there: coefficient store, model store, records. -/
def memoryOf (a : Nat) : Option (Nat × Nat) :=
  if bayHome ≤ a ∨ 0x20000 ≤ a ∧ a < 0x28000 then some (8, a / 8)
  else if 0x40000 ≤ a ∧ a < 0x48000 then some (5, a / 8)
  else if 0x80000 ≤ a ∧ a < 0x100000 then some (6, (a - 0x80000) / 8)
  else none

/-- The unit that makes a port's accesses (R371). -/
def portUnit (q : Requester) : Nat := match q.port with | .rp => 1 | _ => 3

/-- An access made over a port: access type 1 read, 2 write (R378). -/
def portAccess (q : Requester) (addr access : Nat) : FaultAccess := ⟨addr, portUnit q, access, rclassOf q⟩

/-- No check error stands in a word any more. -/
def State.errorGone (s : State) (mem word : Nat) : State :=
  { s with armedErr := s.armedErr.filter fun e => !(e.1 == mem && e.2.1 == word) }

/-- A read of a protected word at a home address: a single error is corrected and written back; an uncorrectable one sets
FLT_MEM_UE, and a register-record word is rewritten (R385). The answer: the read failed. -/
def State.memRead (s : State) (q : Requester) (a access : Nat) : State × Bool :=
  match memoryOf a with
  | none => (s, false)
  | some (mem, word) =>
    let at_ := portAccess q (apertureAddr a) access
    match s.memError mem word with
    | none => (s, false)
    | some false => ((s.errorGone mem word).memCe mem at_.addr at_, false)
    | some true =>
      let s := s.memUe mem (memOffset mem at_.addr)
      (if mem = 8 then (s.errorGone mem word).raiseWith 0x0A [at_.addr] at_ false else s, true)

/-! ### Writes over the ports -/

/-- A write of registers that is performed, with the commits of the slots whose SEQ word it set. -/
def State.busStore (s : State) (q : Requester) (req : Nat) (ws : Words) : State :=
  let (s, took) := s.regWrite q req ws
  (ws.filter fun e => e.1 % 0x40 == 0x3C && took.contains (e.1, 0)).foldl
    (fun s e => match slotAt e.1 with | some (w, slot) => s.commit w slot e.2 | none => s) s

/-- The management port takes a request it cannot perform yet; it holds one at a time (R319, R320). -/
def State.mpHold (s : State) (bytes : List Byte) : State :=
  match s.mp with
  | .pending _ => s
  | _ => { s with mp := .pending bytes }

/-- The private write that makes a write (R320). -/
def mpWriteBytes (req : Nat) (ws : Words) : List Byte :=
  le 1 (if ws.length = 1 then 0x20 else 0x21) ++ le 3 req ++ ws.flatMap fun e => le 4 e.2.toNat

/-- A write of one word or of an aligned pair of words over a port: none is performed while a control-plane reset runs (R319),
nor over the debug port while ACTIVE reads 1 (R408); a partial write of a protected word first reads it (R385). -/
def State.portWrite (s : State) (q : Requester) (req : Nat) (ws : Words) : State :=
  if s.cpReset ∧ q.port = .rp then s
  else if s.cpReset ∧ q.port = .mp then s.mpHold (mpWriteBytes req ws)
  else if q.port = .dbg ∧ s.active then s.pgErr (errPage (homeAddr req)) q 1 req
  else if ws.length = 1 ∧ mayWriteAt (clsOf q) (homeAddr req) then
    let (s, bad) := s.memRead q (homeAddr req) 2
    if bad then s else s.busStore q req ws
  else s.busStore q req ws

/-- A 32-bit write of a register, by its home address, from a requester. -/
def State.wordWrite (s : State) (q : Requester) (home : Nat) (w : Word) : State := s.portWrite q (apertureAddr home) [(home, w)]

/-- A command written to a slot and committed: six 64-bit writes and the SEQ write. -/
def State.cmdWrite (s : State) (opcode : Nat) (c : Cmd) : State :=
  if (match c.win with | .cmu => 64 | _ => 16) ≤ c.slot then s
  else
    let b := slotBase c.win c.slot
    let pair (k : Nat) (v : BitVec 64) (s : State) : State :=
      s.portWrite c.q (b + k) [(b + k, v.extractLsb' 0 32), (b + k + 4, v.extractLsb' 32 32)]
    let head : Word := BitVec.ofNat 32 (opcode + c.flags.toNat * 2 ^ 16)
    let s := pair 0 (c.tag ++ head) s
    let s := pair 0x28 c.op4 (pair 0x20 c.op3 (pair 0x18 c.op2 (pair 0x10 c.op1 (pair 8 c.op0 s))))
    s.portWrite c.q (b + 0x3C) [(b + 0x3C, c.seq)]

/-! ### The commands -/

/-- NOP (R328). -/
def execNop (c : Cmd) (s : State) : Out := s.after (s.cmdWrite 0x0000 c)

/-- ABORT (R328). -/
def execAbort (c : Cmd) (s : State) : Out := s.after (s.cmdWrite 0x0001 c)

/-- SET_VID (R328). -/
def execSetVid (c : Cmd) (s : State) : Out := s.after (s.cmdWrite 0x0100 c)

/-- SET_LOOP (R328). -/
def execSetLoop (c : Cmd) (s : State) : Out := s.after (s.cmdWrite 0x0101 c)

/-- REMOUNT (R328). -/
def execRemount (c : Cmd) (s : State) : Out := s.after (s.cmdWrite 0x0102 c)

/-- DOMAIN_STATE (R328). -/
def execDomainState (c : Cmd) (s : State) : Out := s.after (s.cmdWrite 0x0200 c)

/-- MAINT (R328). -/
def execMaint (c : Cmd) (s : State) : Out := s.after (s.cmdWrite 0x0201 c)

/-- SET_MODE (R328). -/
def execSetMode (c : Cmd) (s : State) : Out := s.after (s.cmdWrite 0x0300 c)

/-- SET_CAP (R328). -/
def execSetCap (c : Cmd) (s : State) : Out := s.after (s.cmdWrite 0x0301 c)

/-- JOB (R328). -/
def execJob (c : Cmd) (s : State) : Out := s.after (s.cmdWrite 0x0302 c)

/-- BUNDLE_LOAD (R328). -/
def execBundleLoad (c : Cmd) (s : State) : Out := s.after (s.cmdWrite 0x0400 c)

/-- CAPTURE (R328). -/
def execCapture (c : Cmd) (s : State) : Out := s.after (s.cmdWrite 0x0401 c)

/-- SYSCAL (R328). -/
def execSyscal (c : Cmd) (s : State) : Out := s.after (s.cmdWrite 0x0402 c)

/-- FAR_PLAN (R328). -/
def execFarPlan (c : Cmd) (s : State) : Out := s.after (s.cmdWrite 0x0500 c)

/-- FAR_RECORD (R328). -/
def execFarRecord (c : Cmd) (s : State) : Out := s.after (s.cmdWrite 0x0501 c)

/-- LOG_FREEZE (R328). -/
def execLogFreeze (c : Cmd) (s : State) : Out := s.after (s.cmdWrite 0x0600 c)

end Sys2Proof.Machine
end

