-- ==== Sys2Proof/Machine/Reads.lean ====
section
/-!
DEFINITION. Reads of registers (R9, R314-R316, R406-R408, R416, R423): the word a register shows at a read, the forms it
takes while ACTIVE reads 1, the read latches of paired registers, the windows of the model store and the capture RAM.
-/

namespace Sys2Proof.Machine

/-! ### The word a register shows -/

/-- A word with fields replaced. -/
def showing (w : Word) (l : List (Fld × Nat)) : Word := l.foldl (fun w p => w.withField p.1.lo p.1.w p.2) w

/-- The word stored, without what is reserved or write-only (R7, R9); 0 at a reserved offset or in an absent unit (R416). -/
def State.storedWord (s : State) (a : Nat) : Word :=
  pack (((fieldsAt a).filter fun f => f.acc != .wo).map fun f => ((s.word a).field f.lo f.w, f.lo))

/-- Bits k of a range where a test holds. -/
def bitsWhere (n : Nat) (p : Nat → Bool) : Nat := (((List.range n).filter p).map (2 ^ ·)).sum

/-- YRD_STATUS, YRD_VID, YRD_ILIM, YRD_LOOP_NOW and YRD_FB show figures of the moment (R56, R73, R79, R88). -/
def State.shownYrd (s : State) (a : Nat) (w : Word) : Word :=
  let y := (a - 0x20000) / 0x100
  let at_ (st : Nat) : List Nat := (s.baysOf y).filter fun b => s.get (BAY_STATE.STATE b) == st
  match a % 0x100 with
  | 0x0C => showing w [(YRD_STATUS.RUN_BAYS y, (s.runBays y).length), (YRD_STATUS.FENCED_BAYS y, (at_ 6).length),
      (YRD_STATUS.REMOUNTS_IN y, ((s.baysOf y).filter fun b => (Config.remountLow b).isSome && s.get (BAY_STATE.STATE b) != 6).length),
      (YRD_STATUS.ACTIVE_PHASES y, s.activePhases y)]
  | 0x40 => showing w [(YRD_VID.EFFECTIVE y, s.videff y)]
  | 0x48 => showing w [(YRD_ILIM.LIMIT y, s.ilimit y), (YRD_ILIM.CURRENT y, s.yardCurrent y)]
  | 0x84 => showing w [(YRD_LOOP_NOW.CLASS_NOW y, s.classNow y)]
  | 0x90 => showing w [(YRD_FB.PHASE y, s.phaseOf y)]
  | _ => w

/-- A cluster's SXT_TEMP and SXT_SL_STAT (R171, R190). -/
def State.shownSxt (s : State) (n o : Nat) (w : Word) : Word :=
  if o = 0x44 then showing w [(SXT_TEMP.T n, unsigned 16 (s.sxtT n))]
  else if 0x70C ≤ o ∧ o < 0x750 ∧ o % 0x10 = 0xC then
    let sl := (o - 0x700) / 0x10
    showing w [(SXT_SL_STAT.STATE n sl, s.sliceState n sl)]
  else w

/-- BAY_REF shows the code a bay has slewed to (R73, R78). -/
def State.shownBay (s : State) (a : Nat) (w : Word) : Word :=
  let b := (a - bayHome) / 0x40
  if a % 0x40 = 0x18 then showing w [(BAY_REF.VID_NOW b, s.bayVid b)] else w

/-- An input pin found low at a time: low then, and afterwards as the pin stands, a free value (R303, R308). -/
def State.pinIsLow (s : State) (pin : Nat) (at_ : Option Nat) : Bool :=
  match at_ with
  | none => false
  | some t => t == s.mono || Config.pinLow pin s.mono

/-- STG_STATUS, STG_RAIL, STG_RAIL_STAT and STG_VSNS (R286, R293, R303, R311). -/
def State.shownStg (s : State) (o : Nat) (w : Word) : Word :=
  let r := (o - 0x80) / 0x20
  if o = 0x40 then
    showing w [(STG_STATUS.FLT, (s.pinIsLow 0 s.fltAt).toNat), (STG_STATUS.PHA, (s.inService 0).length), (STG_STATUS.PHB, (s.inService 1).length), (STG_STATUS.HEADROOM, bitsWhere 2 s.headBit)]
  else if o = 0x80 ∨ o = 0xA0 then showing w [(STG_RAIL.NOW r, s.vrefNow r / 8)]
  else if o = 0x8C ∨ o = 0xAC then showing w [(STG_RAIL_STAT.LIMIT r, s.railLimitA r)]
  else if o = 0x90 ∨ o = 0xB0 then showing w [(STG_VSNS.V r, s.vsns r)]
  else w

/-- THM_STATUS (R282). -/
def State.shownThm (s : State) (w : Word) : Word :=
  let yards (p : Nat → Bool) : Nat := ((List.range Config.yardCount).filter p).length
  showing w [(THM_STATUS.THROTTLED, yards fun y => s.on (yRung y)),
    (THM_STATUS.SUSPECTS, ((List.range sensorCount).filter s.suspect).length),
    (THM_STATUS.HEATING, yards fun y => (s.baysOf y).any fun b => s.get (BAY_STATE.STATE b) == 4)]

/-- FAR_SUMMARY (R217). -/
def State.shownFar (s : State) (w : Word) : Word :=
  let bays (p : Nat → Bool) : Nat := ((List.range Config.bayCount).filter p).length
  showing w [(FAR_SUMMARY.WORN_BAYS, bays fun b => s.on (BAY_WEAR.WORN b)), (FAR_SUMMARY.FENCED_BAYS, bays fun b => s.get (BAY_STATE.STATE b) == 6),
    (FAR_SUMMARY.FENCED_YARDS, ((List.range Config.yardCount).filter fun y => s.on (YRD_STATUS.YARD_FENCED y)).length)]

/-- SEC_STATUS, SEC_RES0 and SEC_RES1 (R403, R411). -/
def State.shownSec (s : State) (o : Nat) (w : Word) : Word :=
  if o = 0x40 then
    showing w [(SEC_STATUS.ACTIVE, s.active.toNat), (SEC_STATUS.SCRUBBING, (s.scrubs ≠ [] : Bool).toNat),
      (SEC_STATUS.CONF_RESIDENT, ((List.range Config.contexts).filter fun c => s.confidential c && s.resident c).length),
      (SEC_STATUS.SCRUB_QUEUED, s.scrubs.length)]
  else if o = 0x4C then BitVec.ofNat 32 (bitsWhere 32 s.resident)
  else if o = 0x50 then BitVec.ofNat 32 (bitsWhere 32 fun k => s.resident (32 + k))
  else w

/-- PIL_STATUS and PIL_COLL (R152). -/
def State.shownPil (s : State) (o : Nat) (w : Word) : Word :=
  if o = 0x40 then showing w [(PIL_STATUS.QUEUED, s.due.length), (PIL_STATUS.OPEN_COLL, s.openColls.length)]
  else if o = 0x44 then showing w [(PIL_COLL.OPEN, bitsWhere 16 s.openColls.contains)]
  else w

/-- DRE_STATUS and DRE_YSTAT (R151, R153). -/
def State.shownDre (s : State) (o : Nat) (w : Word) : Word :=
  if o = 0x44 then showing w [(DRE_STATUS.RUNNING, s.dreOn.toNat), (DRE_STATUS.LOAD, s.dreLoad)]
  else if 0x100 ≤ o ∧ o < 0x300 then
    let y := (o - 0x100) / 4
    if y < Config.yardCount then showing w [(DRE_YSTAT.CLASS y, s.dreClass y)] else w
  else w

/-- CMx_STATUS (R347): commands of the window accepted and not final, journal entries in use. -/
def State.shownCmx (s : State) (pg : Nat) (w : Word) : Word :=
  let mine (e : Entry) : Bool := e.win == (if pg = pgCMD then .cmd else .cmk) && !e.isFinal
  showing w [(CMx_STATUS.JOURNAL pg, s.journal.length), (CMx_STATUS.PENDING pg, (s.journal.filter mine).length)]

/-- The rest of the single registers that show a figure of the moment. -/
def State.shownOne (s : State) (a : Nat) (w : Word) : Word :=
  if a = GLB_EVTSUM.PAGE.addr then s.glbEvtsum
  else if a = PRT_RP.OUTSTANDING.addr then showing w [(PRT_RP.OUTSTANDING, s.rpOut.length)]
  else if a = PWS_STATUS.MOVING.addr then s.pwsStatus
  else if a = CAP_STATUS.STATION_OK.addr then showing w [(CAP_STATUS.STATION_OK, s.stationOk.toNat)]
  else if a = THM_STATUS.TRIP.addr then s.shownThm w
  else if a = FAR_SUMMARY.WORN_BAYS.addr then s.shownFar w
  else if a = LOG_TIME.SECONDS.addr then BitVec.ofNat 32 s.opSecs
  else if a = SXT_EVTSUM.CLUSTER.addr then s.sxtEvtsum
  else w

/-- The word that a read at a home address would return in full (R7). -/
def State.liveWord (s : State) (a : Nat) : Word :=
  let w := s.storedWord a
  let page := a / 0x1000
  let o := a % 0x1000
  if fieldsAt a = [] then 0
  else if bayHome ≤ a then s.shownBay a w
  else if 0x20 ≤ page ∧ page < 0x28 then s.shownYrd a w
  else if !hasHeader page then w
  else if o = 0x10 then s.pgStat (page * 0x1000)
  else if o < 0x40 then w
  else if 0x51 ≤ page then s.shownSxt (page - 0x51) o w
  else
    match page with
    | 0x03 | 0x04 => if o = 0x44 then s.shownCmx (page * 0x1000) w else w
    | 0x07 => s.shownPil o w
    | 0x08 => s.shownDre o w
    | 0x0E => s.shownSec o w
    | 0x11 => s.shownStg o w
    | 0x12 =>
      if o = 0x40 then showing w [(PMB_STATUS.ALERT, (s.pinIsLow 1 s.alertAt).toNat)]
      else if 0x80 ≤ o ∧ o < 0x280 ∧ o % 0x20 = 0x18 then BitVec.ofNat 32 (s.pmbAge ((o - 0x80) / 0x20)) else w
    | 0x14 => if a = TIL_STATUS.LANES.addr then s.tilStatus else if a = TIL_BOUND.STD_WAIT.addr then s.tilBound else w
    | _ => s.shownOne a w

/-! ### What MGMT and KERN see while ACTIVE reads 1 (R406) -/

/-- The bits of a register that are hidden. -/
def hiddenBits (a : Nat) : Word :=
  let o := a % 0x100
  if fieldsAt a = [] then 0
  else if bayHome ≤ a then (if [0x10, 0x14, 0x18, 0x34, 0x38].contains (a % 0x40) then 0xFFFFFFFF else 0)
  else if 0x20000 ≤ a ∧ a < 0x28000 then
    if o = 0x0C then 0x007F8000
    else if o = 0x48 then 0xFFFF0000
    else if o = 0x4C then 0x001F1F00
    else if o = 0xDC then 0xFFFF0000
    else if o = 0x8C ∨ o = 0xD8 ∨ [(YRD_CNT_ALLHANDS.COUNT 0).addr, (YRD_CNT_SAT.COUNT 0).addr, (YRD_CNT_OVERRUN.COUNT 0).addr,
        (YRD_CNT_KEELMISS.COUNT 0).addr].contains (0x20000 + o) then 0xFFFFFFFF
    else 0
  else if (CAP_YRUNG.YARD 0).addr ≤ a ∧ a < (CAP_YRUNG.YARD 0).addr + 0x60 then 0xFFFFFFFF
  else if (CAP_YOWN.OWNER 0).addr ≤ a ∧ a < (CAP_YOWN.OWNER 0).addr + 0x80 then 0xFFFFFFFF
  else if (DRE_YSTAT.reg 0).addr ≤ a ∧ a < (DRE_YSTAT.reg 0).addr + 0x200 then 0xFFFFFFFF
  else if a = PIL_LAST_LO.NOTICE.addr ∨ a = PIL_LAST_HI.NOTICE.addr then 0xFFFFFFFF
  else if 0x51000 ≤ a ∧ a < 0x69000 then
    let x := a % 0x1000
    if (0x100 ≤ x ∧ x < 0x190) ∨ x = (SXT_URG_RES.reg 0).addr % 0x1000 ∨ x = (SXT_URG_TIME_LO.TIME 0).addr % 0x1000
        ∨ x = (SXT_URG_TIME_HI.TIME 0).addr % 0x1000 then 0xFFFFFFFF else 0
  else 0

/-- A field in its coarsened form: the last window's figure, rounded down to a multiple; its samples count `den` to the field's unit. -/
def State.coarsened (s : State) (w : Word) (f : Fld) (m : Int) (den : Int := 1) : Word :=
  w.withField f.lo f.w (unsigned f.w (floorTo m (s.coarse f.key / den)))

/-- A register in its coarsened form (R406): currents in the register's own unit for 5 A (PMBus: 10 mA for 1 A), temperatures
in 1/16 °C. -/
def State.coarseForm (s : State) (a : Nat) (w : Word) : Word :=
  let two (f g : Fld) (m : Int) (den : Int := 1) : Word := s.coarsened (s.coarsened w f m den) g m den
  let page := a / 0x1000
  let o := a % 0x1000
  if fieldsAt a = [] then w
  else if a = CAP_POWER.P.addr then s.coarsened w CAP_POWER.P 8 1000
  else if a = CAP_CREDIT.CREDIT.addr then 0
  else if a = CAP_RAIL_NOW.PKGA.addr then two CAP_RAIL_NOW.PKGA CAP_RAIL_NOW.PKGB 5 16
  else if a = CAP_UNATTR_LO.E.addr ∨ a = CAP_UNATTR_HI.E.addr then
    let e := s.get64 CAP_UNATTR_LO.E / 1000000 * 1000000
    BitVec.ofNat 32 (if a = CAP_UNATTR_LO.E.addr then e else e / 2 ^ 32)
  else if (CAP_CTX_E_LO.E 0).addr ≤ a ∧ a < (CAP_CTX_E_LO.E 0).addr + 8 * Config.contexts then
    (if s.confidential ((a - (CAP_CTX_E_LO.E 0).addr) / 8) then 0 else w)
  else if page = 0x0B ∧ (THM_TEMP.reg 0).addr ≤ a ∧ a < (THM_TEMP.reg 0).addr + 4 * (sensorCount / 2) then
    let j := (a - (THM_TEMP.reg 0).addr) / 4
    two (THM_TEMP.EVEN j) (THM_TEMP.ODD j) 16
  else if a = THM_HOT_DIE.TEMP.addr then s.coarsened w THM_HOT_DIE.TEMP 16
  else if a = THM_HOT_BND.TEMP.addr then s.coarsened w THM_HOT_BND.TEMP 16
  else if page = 0x11 ∧ 0x200 ≤ o ∧ o < 0x200 + 0x10 * Config.stagePhases then
    let p := (o - 0x200) / 0x10
    if o % 0x10 = 4 then s.coarsened (s.coarsened w (STG_PH_MON.I p) 80) (STG_PH_MON.TEMP p) 16
    else if o % 0x10 = 8 then s.coarsened w (STG_PH_AVG.IAVG p) 80
    else w
  else if page = 0x12 ∧ 0x80 ≤ o ∧ o < 0x280 then
    let n := (o - 0x80) / 0x20
    if o % 0x20 = 0xC then two (PMB_I.IOUT n) (PMB_I.IIN n) 100
    else if o % 0x20 = 0x10 then two (PMB_P.POUT n) (PMB_P.PIN n) 8
    else w
  else w

/-- A class sees the coarsened and hidden forms. -/
def State.restricted (s : State) (c : Cls) : Bool := s.active && (c == .mgmt || c == .kern)

/-- The word as a class sees it. -/
def State.seenWord (s : State) (c : Cls) (a : Nat) : Word :=
  if s.restricted c then s.coarseForm a (s.liveWord a) &&& ~~~ hiddenBits a else s.liveWord a

/-- A read of a hidden field is counted. -/
def State.countHidden (s : State) (c : Cls) (as : List Nat) : State :=
  if s.restricted c && as.any (fun a => hiddenBits a != 0) then s.bump SEC_CNT_HIDDEN.COUNT else s

/-! ### Read latches of paired registers (R423) -/

/-- The registers whose names end in _LO: home address of the first, stride, number. -/
def loRows : List (Nat × Nat × Nat) :=
  [(PIL_LAST_LO.NOTICE.addr, 8, 1), (DRE_LOAD_ADDR_LO.ADDR.addr, 8, 1), (CAP_UNATTR_LO.E.addr, 8, 1), ((CAP_CTX_E_LO.E 0).addr, 8, 64),
    (FLT_FIRST_ADDR_LO.ADDR.addr, 8, 1), (FLT_FIRST_TIME_LO.TIME.addr, 8, 1), (SEC_BOUNCE_BASE_LO.BASE.addr, 8, 1),
    (SEC_BOUNCE_LIMIT_LO.LIMIT.addr, 8, 1), (TDM_WIN_BASE_LO.BASE.addr, 8, 1), (TDM_WIN_LIMIT_LO.LIMIT.addr, 8, 1),
    ((TDM_STR_HEAD_LO.ADDR 0).addr, 0x20, 3), ((TDM_STR_CUR_LO.ADDR 0).addr, 0x20, 3), (SXT_CAPRAM_RETIRE_LO.PAGE.addr, 8, 1)]

/-- The register at a home address has a partner whose name ends in _HI, in the word after it. -/
def isLo (a : Nat) : Bool :=
  loRows.any (fun r => r.1 ≤ a && a < r.1 + r.2.1 * r.2.2 && (a - r.1) % r.2.1 == 0)
    || (decide (0x51 ≤ a / 0x1000 ∧ a / 0x1000 ≤ 0x6A) && [(SXT_URG_TIME_LO.TIME 0).addr, (SXT_STR_BASE_LO.BASE 0 0).addr,
        (SXT_STR_BASE_LO.BASE 0 1).addr, (SXT_STR_TTIME_LO.TIME 0 0).addr, (SXT_STR_TTIME_LO.TIME 0 1).addr].contains (0x51000 + a % 0x1000))

/-- Key of a port's latch of a register. -/
def latchKey (p : Port) (a : Nat) : Nat := portCode p * 2 ^ 22 + a

/-- Key of a port's latch of a register's coarsened form. -/
def coarseKey (p : Port) (a : Nat) : Nat := latchKey p a + 2 ^ 30

/-- A 32-bit read of a word: _LO latches _HI for its port, in full and in its coarsened form (R406); _HI returns what was latched, once,
in the form of the class that reads it. -/
def State.latchedRead (s : State) (q : Requester) (a : Nat) : State × Word :=
  let c := clsOf q
  let dflt : Nat → Option Word := fun _ => none
  if isLo a then
    let h := s.liveWord (a + 4)
    let l := Tab.set dflt s.latches (latchKey q.port (a + 4)) (some h)
    ({ s with latches := Tab.set dflt l (coarseKey q.port (a + 4)) (some (s.coarseForm (a + 4) h)) }, s.seenWord c a)
  else if a % 4 = 0 ∧ 4 ≤ a ∧ isLo (a - 4) then
    match Tab.get dflt s.latches (latchKey q.port a), Tab.get dflt s.latches (coarseKey q.port a) with
    | some v, some r =>
      ({ s with latches := Tab.set dflt (Tab.set dflt s.latches (latchKey q.port a) none) (coarseKey q.port a) none },
        if s.restricted c then r &&& ~~~ hiddenBits a else v)
    | _, _ => (s, s.seenWord c a)
  else (s, s.seenWord c a)

/-! ### Reads over the ports -/

/-- What a read answers: the low word, the high word of a 64-bit read, and whether it found an uncorrectable error. -/
abbrev ReadAns := Word × Word × Bool

/-- The data of a read that found an uncorrectable error is stated nowhere: a free value. -/
def State.badRead (s : State) : State × ReadAns :=
  let (v, s) := s.fresh 13
  (s, BitVec.ofNat 32 v, BitVec.ofNat 32 (v / 2 ^ 32), true)

/-- Bytes of a window as a little-endian word (R6). -/
def wordOf (f : Nat → Byte) (a : Nat) : Word := BitVec.ofNat 32 (ofLe ((List.range 4).map fun k => f (a + k)))

/-- A read of the capture RAM window (R178, R407). -/
def State.capRead (s : State) (q : Requester) (req : Nat) (wide : Bool) : State × ReadAns :=
  let o := req - 0x100000
  if s.active then (s, 0, 0, false)
  else
    let at_ := portAccess q req 1
    match s.memError 7 (o / 8) with
    | some true =>
      let s := ((s.memUe 7 o).put SXT_CAPRAM_ERR.UE_SEEN 1).put SXT_CAPRAM_ERR.PAGE (o / 4096)
      (((s.bump SXT_CNT_CAPRAM_UE.COUNT).evt pgSXT 0).logEvent 0x010D [o / 4096]).badRead
    | e =>
      let s := if e = some false then ((s.errorGone 7 (o / 8)).bump SXT_CNT_CAPRAM_CE.COUNT).memCe 7 req at_ else s
      (s, wordOf s.capAt o, if wide then wordOf s.capAt (o + 4) else 0, false)

/-- A read of the model store window (R138). -/
def State.storeRead (s : State) (q : Requester) (req : Nat) (wide : Bool) : State × ReadAns :=
  let o := req - 0x80000
  if o < 0x2000 then (s, 0, 0, false)
  else
    let (s, bad) := s.memRead q req 1
    if bad then s.badRead else (s, wordOf s.storeAt o, if wide then wordOf s.storeAt (o + 4) else 0, false)

/-- A read of registers. -/
def State.regRead (s : State) (q : Requester) (a : Nat) (wide : Bool) : State × ReadAns :=
  let (s, bad) := s.memRead q a 1
  if bad then s.badRead
  else
    let s := s.countHidden (clsOf q) (if wide then [a, a + 4] else [a])
    if wide then (s, s.seenWord (clsOf q) a, s.seenWord (clsOf q) (a + 4), false)
    else
      let (s, w) := s.latchedRead q a
      (s, w, 0, false)

/-- A read over a port at an aperture offset. Every debug access while ACTIVE reads 1, and one that the class may not make, is recorded
(R315, R408); one that is misaligned is not performed (R34); they return 0. -/
def State.portRead (s : State) (q : Requester) (req : Nat) (wide : Bool) : State × ReadAns :=
  if q.port = .dbg ∧ s.active then (s.pgErr (errPage (homeAddr req)) q 1 req, 0, 0, false)
  else if req % (if wide then 8 else 4) ≠ 0 then (s, 0, 0, false)
  else if !mayReadAt (clsOf q) (homeAddr req) then (s.pgErr (errPage (homeAddr req)) q 1 req, 0, 0, false)
  else if 0x140000 ≤ req then (s, 0, 0, false)
  else if 0x100000 ≤ req then s.capRead q req wide
  else if 0x80000 ≤ req then s.storeRead q req wide
  else s.regRead q (homeAddr req) wide

end Sys2Proof.Machine
end

