-- ==== Sys2Proof/Machine/Ports.lean ====
section
/-!
DEFINITION. The ports: register-port requests and responses (R34-R36, R317-R319), management-port transfers and in-band
interrupts (R320, R321), the debug port (R316); and the commands that are writes of one register.
-/

namespace Sys2Proof.Machine

/-! ### The register port (R34-R36, R318) -/

/-- The slow target of an address (R318): 0 flash, 1 logbook, 2 PMBus, 3 I3C bridge. -/
def slowTarget (a : Nat) : Option Nat :=
  if a / 0x1000 = 0x13 then some 0
  else if a / 0x1000 = 0x0D then some 1
  else if a / 0x1000 = 0x12 then some 2
  else if 0x2100 ≤ a ∧ a < 0x2200 then some 3
  else none

/-- The bound of a slow target's response, half nanoseconds (R318). -/
def slowBound (k : Nat) : Nat :=
  match k with
  | 0 => ns 25000
  | 1 => ns 50000
  | 2 => ns 5000
  | _ => ns 10000

/-- The requester of a register-port request. -/
def reqOf (r : RpReq) : Requester := ⟨.rp, r.stamp⟩

/-- The words a write's strobes select, with the data on their lanes; or the REASON for which it is performed on none (R34). -/
def reqWords (r : RpReq) : Nat × Words :=
  let a := r.addr.toNat
  let h := homeAddr a
  let low := r.data.extractLsb' 0 32
  let high := r.data.extractLsb' 32 32
  if r.strobes = 0xFF then (if a % 8 = 0 then (0, [(h, low), (h + 4, high)]) else (7, []))
  else if r.strobes = 0x0F then (if a % 8 = 0 then (0, [(h, low)]) else if a % 4 = 0 then (4, []) else (7, []))
  else if r.strobes = 0xF0 then (if a % 8 = 4 then (0, [(h, high)]) else if a % 4 = 0 then (4, []) else (7, []))
  else (4, [])

/-- A write that arrives is performed, or recorded where it is performed on no word. -/
def reqWrite (r : RpReq) (s : State) : State :=
  let a := r.addr.toNat
  match reqWords r with
  | (0, ws) => s.portWrite (reqOf r) a ws
  | (reason, _) => s.pgErr (errPage (homeAddr a)) (reqOf r) (if mayWriteAt (clsOf (reqOf r)) (homeAddr a) then reason else 1) a

/-- A read that arrives: OT_RP_RSP and the lanes of OT_RP_RDATA. -/
def reqRead (r : RpReq) (s : State) : State × Nat × BitVec 64 :=
  let a := r.addr.toNat
  let (s, lo, hi, bad) := s.portRead (reqOf r) a r.wide
  (s, if bad then 2 else 0, if r.wide then hi ++ lo else if a % 8 = 4 then lo ++ (0 : Word) else (0 : Word) ++ lo)

/-- A response. -/
def State.answer (s : State) (r : RpReq) (rsp : Nat) (data : Option (BitVec 64)) : State := { s with rpRsp := some ⟨r.tag, rsp, data⟩ }

/-- A request that reuses a tag still outstanding (R36). -/
def State.tagReused (s : State) (r : RpReq) (access : Nat) : State :=
  let s := (s.bump PRT_CNT_TAGREUSE.COUNT).raiseWith 0x02 [r.tag.toNat, r.addr.toNat] (portAccess (reqOf r) r.addr.toNat access) false
  s.answer r 2 none

/-- The responses whose time has come are out. -/
def State.responded (s : State) : State := { s with rpOut := s.rpOut.filter fun e => decide (s.mono < e.due) }

/-- A request is taken as outstanding: a slow target answers at its bound, a fast one with the command (DEDUCED, assumption log 34). -/
def State.takeRequest (s : State) (r : RpReq) : State :=
  let k := slowTarget r.addr.toNat
  { s with rpOut := s.rpOut ++ [⟨r.tag, k, match k with | some k => s.mono + slowBound k | none => s.mono⟩] }

/-- OT_RP_REQ_READY: low while 16 requests are outstanding (R34). -/
def State.rpReady (s : State) : Bool := decide (s.rpOut.length < 16)

/-- Two requests to the slow target of an address are outstanding (R318). -/
def State.slowFull (s : State) (a : Nat) : Bool :=
  match slowTarget a with
  | some k => 2 ≤ (s.rpOut.filter fun e => e.slow == some k).length
  | none => false

/-- What keeps a request from being performed: a control-plane reset, a tag in use, a full slow target. -/
def State.turnedAway (s : State) (r : RpReq) (access : Nat) : Option State :=
  if s.cpReset then some (s.answer r 1 none)
  else if s.rpOut.any fun e => e.tag == r.tag then some (s.tagReused r access)
  else if s.slowFull r.addr.toNat then some ((s.bump PRT_CNT_RETRY.COUNT).answer r 1 none)
  else none

/-- REGISTER_WRITE. A request presented while OT_RP_REQ_READY is low is not taken (R34). -/
def registerWriteEff (r : RpReq) (s : State) : State :=
  let s := s.responded
  if !s.rpReady then s
  else
    match s.turnedAway r 2 with
    | some t => t
    | none => ((reqWrite r (s.takeRequest r)).answer r 0 none).responded

/-- REGISTER_READ, likewise. -/
def registerReadEff (r : RpReq) (s : State) : State :=
  let s := s.responded
  if !s.rpReady then s
  else
    match s.turnedAway r 1 with
    | some t => t
    | none =>
      let (s, rsp, data) := reqRead r (s.takeRequest r)
      (s.answer r rsp (some data)).responded

/-! ### The management port (R320, R321) -/

/-- The form of a private write: a command byte of the four, and the length it asks for. -/
def mpFormOk (bytes : List Byte) : Bool :=
  match bytes with
  | 0x10 :: t => t.length == 3
  | 0x11 :: t => t.length == 3
  | 0x20 :: t => t.length == 7
  | 0x21 :: t => t.length == 11
  | _ => false

/-- The static address of the management port, 0b1110_1xx with the levels of its straps (R51). -/
def State.staticAddr (s : State) : BitVec 7 := (0b11101 : BitVec 5) ++ s.startIn.straps

/-- A dynamic address reaches the port: by ENTDAA, or by SETDASA at its static address (R51). -/
def State.takesAddr (s : State) : DynAddrKind → Bool
  | .setdasa a => a == s.staticAddr
  | .entdaa => true

/-- A request of the management port is performed, and its result kept; a reset that a write starts leaves no result (R320). -/
def State.mpPerform (s : State) (bytes : List Byte) : State :=
  let q : Requester := ⟨.mp, 0⟩
  let op := (bytes.headD 0).toNat
  let a := ofLe (bytes.tail.take 3) % 2 ^ 21
  let h := homeAddr a
  let word (k : Nat) : Word := BitVec.ofNat 32 (ofLe ((bytes.drop k).take 4))
  let wide := op % 2 = 1
  if op < 0x20 then
    let (s, lo, hi, bad) := s.portRead q a wide
    { s with mp := .done (if bad then 2 else 0) (le 4 lo.toNat ++ if wide then le 4 hi.toNat else []) }
  else
    let s := { s with mp := .done 0 [] }
    if a % (if wide then 8 else 4) ≠ 0 then s.pgErr (errPage h) q (if mayWriteAt .mgmt h then 7 else 1) a
    else s.portWrite q a (if wide then [(h, word 4), (h + 4, word 8)] else [(h, word 4)])

/-- The request held through a control-plane reset is performed. -/
def State.mpHeld (s : State) : State :=
  match s.mp with
  | .pending bytes => s.mpPerform bytes
  | _ => s

/-- MP_PRIVATE_WRITE. One that arrives while a request is held is not acknowledged. -/
def mpWriteEff (bytes : List Byte) (s : State) : State :=
  match s.mp with
  | .pending _ => s
  | _ =>
    if !mpFormOk bytes then { s with mp := .malformed }
    else if s.cpReset then { s with mp := .pending bytes }
    else s.mpPerform bytes

/-- The bytes a private read returns (R320). -/
def MpResult.bytes (r : MpResult) : List Byte :=
  match r with
  | .done status data => BitVec.ofNat 8 status :: data
  | .pending _ => [3]
  | .malformed => [4]
  | .none => [5]

/-- The port may raise an in-band interrupt, and has one to raise (R321). -/
def State.mayInterrupt (s : State) : Bool := s.on PRT_MP.IBI_PEND && s.on PRT_MP.IBI_EN && s.on PRT_MP.DYN_ADDR && !s.mpDisec

/-! ### The debug port (R316, R408) -/

/-- The data register as a capture shows it: busy, response, data, and the address, width and direction of the access. -/
def captured (busy : Bool) (rsp : Nat) (data : BitVec 64) (dr : BitVec 90) : BitVec 90 :=
  BitVec.ofBool busy ++ BitVec.ofNat 2 rsp ++ data ++ dr.extractLsb' 0 23

/-- An access is made, with its result as the next capture returns it: data 0 while ACTIVE reads 1 (R408). A write states no data for the
capture: a free value. -/
def State.otAccess (s : State) (dr : BitVec 90) : State :=
  let q : Requester := ⟨.dbg, 0⟩
  let a := (dr.extractLsb' 0 21).toNat
  let wide := dr.getLsbD 22
  let h := homeAddr a
  let (s, data, rsp) : State × BitVec 64 × Nat :=
    if dr.getLsbD 21 then
      let lo := dr.extractLsb' 23 32
      let s :=
        if a % (if wide then 8 else 4) ≠ 0 then s.pgErr (errPage h) q (if mayWriteAt .dbg h ∧ !s.active then 7 else 1) a
        else s.portWrite q a (if wide then [(h, lo), (h + 4, dr.extractLsb' 55 32)] else [(h, lo)])
      if s.active then (s, 0, 0)
      else
        let (v, s) := s.fresh 14
        (s, BitVec.ofNat 64 v, 0)
    else
      let (s, lo, hi, bad) := s.portRead q a wide
      (s, hi ++ lo, if bad then 2 else 0)
  { s with dbg := captured false rsp data dr }

/-- OT_ACCESS_UPDATE: an access starts, and has ended before the next command; while a control-plane reset runs it is held, with busy 1
(R319; DESIGN CHOICE, assumption log 39). An Update-DR while busy is ignored. -/
def otAccessEff (dr : BitVec 90) (s : State) : State :=
  if s.dbgHeld.isSome then s
  else if s.cpReset then { s with dbgHeld := some dr, dbg := captured true 0 0 dr }
  else s.otAccess dr

/-- The access held through a control-plane reset is made. -/
def State.dbgGo (s : State) : State :=
  match s.dbgHeld with
  | some dr => { s with dbgHeld := none }.otAccess dr
  | none => s

/-! ### Writes of one register -/

/-- The word that stands at a field's address, with bits of it replaced: what a write that means one field carries. -/
def State.wordWith (s : State) (f : Fld) (v : Nat) : Word := (s.word f.addr).withField f.lo f.w v

/-- A write to a unit's register; a unit number beyond the last names no register. -/
def State.unitWrite (s : State) (q : Requester) (present : Bool) (f : Fld) (w : Word) : State := if present then s.wordWrite q f.addr w else s

/-- GLB_XREC: key, region, page, OP (R420). -/
def xrecWord (region page op : Nat) : Word := pack [(0x0E17, 16), (region % 4, 14), (page % 32, 8), (op, 0)]

/-- FLT_INJ with GO (R383). -/
def injWord (mode target code : Nat) : Word := pack [(1, 31), (mode, 24), (target % 256, 16), (code % 65536, 0)]

/-- SEC_CONF0 or SEC_CONF1 with a context's bit replaced. -/
def State.confWrite (s : State) (q : Requester) (ctx bit : Nat) : State :=
  let f : Fld := ⟨(if ctx < 32 then SEC_CONF0.CTX else SEC_CONF1.CTX).addr, ctx % 32, 1⟩
  s.unitWrite q (decide (ctx < Config.contexts)) f (s.wordWith f bit)

/-- FLS_CTRL with GO (R369). -/
def State.flsWrite (s : State) (q : Requester) (op : Nat) : State := s.wordWrite q FLS_CTRL.GO.addr (pack [(1, 31), (op, 0)])

/-- STOP of a stream, which first takes the samples since its last burst (R176). -/
def streamStopEff (q : Requester) (cl m : Nat) (codes : List (BitVec 10)) (s : State) : State :=
  let f := SXT_STR_CTRL.STOP cl m
  let present := decide (cl < Config.clusterCount ∧ m < 2)
  let s := if present ∧ s.strBusy cl m then s.gatherFrom cl m codes else s
  s.unitWrite q present f (s.wordWith f 1)

/-! ### The commands -/

/-- REGISTER_WRITE. -/
def execRegisterWrite (r : RpReq) (s : State) : Out := s.after (registerWriteEff r s)

/-- REGISTER_READ. -/
def execRegisterRead (r : RpReq) (s : State) : Out := s.after (registerReadEff r s)

/-- MP_PRIVATE_WRITE. -/
def execMpPrivateWrite (bytes : List Byte) (s : State) : Out := s.after (mpWriteEff bytes s)

/-- MP_PRIVATE_READ: the bytes returned stand in `mpRead`. -/
def execMpPrivateRead (s : State) : Out := s.after { s with mpRead := s.mp.bytes }

/-- I3C_DYNAMIC_ADDRESS: SETDASA and ENTDAA alike give the address (R51). -/
def execI3cDynamicAddress (how : DynAddrKind) (addr : BitVec 7) (s : State) : Out :=
  s.after (if s.takesAddr how then s.put PRT_MP.DYN_ADDR addr.toNat else s)

/-- I3C_DISEC_ENEC. -/
def execI3cDisecEnec (enable : Bool) (s : State) : Out := s.after { s with mpDisec := !enable }

/-- IBI_RAISE: an acknowledgement clears the pending bits that the data byte carried. -/
def execIbiRaise (ack : Bool) (s : State) : Out := s.after (if s.mayInterrupt && ack then s.put PRT_MP.IBI_PEND 0 else s)

/-- OT_ACCESS_UPDATE. -/
def execOtAccessUpdate (dr : BitVec 90) (s : State) : Out := s.after (otAccessEff dr s)

/-- CONVERSION_DONE. -/
def execConversionDone (cl : Nat) (slice : Nat) (ch : Nat) (code : BitVec 10) (loop : Bool) (s : State) : Out :=
  s.after (s.convert cl slice ch code loop)

/-- QUIET_PERIOD_EXPIRY. -/
def execQuietPeriodExpiry (s : State) : Out := s.after (if s.quietOver then s.endHold 0 else s)

/-- STREAM_STOP. -/
def execStreamStop (q : Requester) (cl : Nat) (m : Nat) (codes : List (BitVec 10)) (s : State) : Out := s.after (streamStopEff q cl m codes s)

/-- FAR_CTRL_GO. -/
def execFarCtrlGo (q : Requester) (s : State) : Out :=
  s.after (s.wordWrite q FAR_CTRL.GO.addr (s.wordWith FAR_CTRL.GO 1))

/-- PRT_H2M_WRITE. -/
def execPrtH2mWrite (q : Requester) (idx : Nat) (data : Word) (s : State) : Out :=
  s.after (s.unitWrite q (decide (idx < 32)) (PRT_H2M.DATA idx) data)

/-- PG_UNLOCK. -/
def execPgUnlock (q : Requester) (page : Nat) (s : State) : Out :=
  s.after (s.unitWrite q (hasHeader page) (PG_ACCESS.OP (page * 0x1000)) 0x0E170001)

/-- PG_LOCK. -/
def execPgLock (q : Requester) (page : Nat) (s : State) : Out :=
  s.after (s.unitWrite q (hasHeader page) (PG_ACCESS.OP (page * 0x1000)) 0x0E170002)

/-- XREC_UNLOCK. -/
def execXrecUnlock (q : Requester) (region : Nat) (page : Nat) (s : State) : Out :=
  s.after (s.wordWrite q GLB_XREC.KEY.addr (xrecWord region page 1))

/-- XREC_LOCK. -/
def execXrecLock (q : Requester) (region : Nat) (page : Nat) (s : State) : Out :=
  s.after (s.wordWrite q GLB_XREC.KEY.addr (xrecWord region page 2))

/-- CAP_YOWN_WRITE. -/
def execCapYownWrite (q : Requester) (j : Nat) (data : Word) (s : State) : Out :=
  s.after (s.unitWrite q (decide (j < 32)) (CAP_YOWN.OWNER j) data)

/-- DRE_LOAD_GO. -/
def execDreLoadGo (q : Requester) (slot : Nat) (src : Nat) (s : State) : Out :=
  s.after (s.wordWrite q DRE_LOAD.GO.addr (pack [(1, 8), (src % 4, 4), (slot % 8, 0)]))

/-- DRE_CTRL_RUN_WRITE. -/
def execDreCtrlRunWrite (q : Requester) (run : Bool) (s : State) : Out :=
  s.after (s.wordWrite q DRE_CTRL.RUN.addr (pack [(run.toNat, 0)]))

/-- BAY_CTRL_FENCE. -/
def execBayCtrlFence (q : Requester) (bay : Nat) (s : State) : Out :=
  s.after (s.unitWrite q (decide (bay < Config.bayCount)) (BAY_CTRL.ORDER bay) 1)

/-- BAY_CTRL_RELEASE. -/
def execBayCtrlRelease (q : Requester) (bay : Nat) (s : State) : Out :=
  s.after (s.unitWrite q (decide (bay < Config.bayCount)) (BAY_CTRL.ORDER bay) 2)

/-- BAY_CTRL_CLEAR_TRIP. -/
def execBayCtrlClearTrip (q : Requester) (bay : Nat) (s : State) : Out :=
  s.after (s.unitWrite q (decide (bay < Config.bayCount)) (BAY_CTRL.ORDER bay) 3)

/-- BAY_REMOUNT_GO. -/
def execBayRemountGo (q : Requester) (bay : Nat) (connect : Bool) (side : Bool) (s : State) : Out :=
  s.after (s.unitWrite q (decide (bay < Config.bayCount)) (BAY_REMOUNT.GO bay) (pack [(1, 2), (connect.toNat, 1), (side.toNat, 0)]))

/-- BAY_DROOP_WRITE. -/
def execBayDroopWrite (q : Requester) (bay : Nat) (th : Nat) (s : State) : Out :=
  s.after (s.unitWrite q (decide (bay < Config.bayCount)) (BAY_DROOP.TH bay) (pack [(th % 64, 0)]))

/-- YRD_DROOP_WRITE. -/
def execYrdDroopWrite (q : Requester) (yard : Nat) (th : Nat) (s : State) : Out :=
  s.after (s.unitWrite q (decide (yard < Config.yardCount)) (YRD_DROOP.TH yard) (pack [(th % 64, 0)]))

/-- YRD_VID_WRITE. -/
def execYrdVidWrite (q : Requester) (yard : Nat) (code : Nat) (s : State) : Out :=
  s.after (s.unitWrite q (decide (yard < Config.yardCount)) (YRD_VID.TARGET yard) (pack [(code % 1024, 0)]))

/-- YRD_LOOP_WRITE. -/
def execYrdLoopWrite (q : Requester) (yard : Nat) (data : Word) (s : State) : Out :=
  s.after (s.unitWrite q (decide (yard < Config.yardCount)) (YRD_LOOP.SET yard) data)

/-- WINDOW_CONFIG_WRITE. -/
def execWindowConfigWrite (q : Requester) (cl : Nat) (ch : Nat) (cfg : Bool) (data : Word) (s : State) : Out :=
  s.after (s.unitWrite q (decide (cl < Config.clusterCount ∧ ch < 36)) (if cfg then SXT_CH_WCFG.EN cl ch else SXT_CH_WIN.LO cl ch) data)

/-- SCAN_WEIGHT_WRITE. -/
def execScanWeightWrite (q : Requester) (cl : Nat) (ch : Nat) (weight : Nat) (s : State) : Out :=
  s.after (s.unitWrite q (decide (cl < Config.clusterCount ∧ ch < 36)) (SXT_CH_SCAN.WEIGHT cl ch) (pack [(weight % 256, 0)]))

/-- SXT_URG_GO. -/
def execSxtUrgGo (q : Requester) (cl : Nat) (ch : Nat) (s : State) : Out :=
  s.after (s.unitWrite q (decide (cl < Config.clusterCount)) (SXT_URG.GO cl) (pack [(1, 6), (ch % 64, 0)]))

/-- STREAM_GO. -/
def execStreamGo (q : Requester) (cl : Nat) (m : Nat) (ctrl : Word) (s : State) : Out :=
  s.after (s.unitWrite q (decide (cl < Config.clusterCount ∧ m < 2)) (SXT_STR_CTRL.GO cl m) (ctrl.withField 0 1 1))

/-- SXT_MAINT_WRITE. -/
def execSxtMaintWrite (q : Requester) (j : Nat) (data : Word) (s : State) : Out :=
  s.after (s.unitWrite q (decide (j < 4)) (SXT_MAINT.YARD j) data)

/-- SXT_CAL_ZERO. -/
def execSxtCalZero (q : Requester) (cl : Nat) (s : State) : Out :=
  s.after (s.unitWrite q (decide (cl < Config.clusterCount)) (SXT_CAL.STEP cl) 1)

/-- SXT_CAL_FULL_SCALE. -/
def execSxtCalFullScale (q : Requester) (cl : Nat) (s : State) : Out :=
  s.after (s.unitWrite q (decide (cl < Config.clusterCount)) (SXT_CAL.STEP cl) 2)

/-- SXT_CAL_ABORT. -/
def execSxtCalAbort (q : Requester) (cl : Nat) (s : State) : Out :=
  s.after (s.unitWrite q (decide (cl < Config.clusterCount)) (SXT_CAL.STEP cl) 3)

/-- FAR_SUSCLR_GO. -/
def execFarSusclrGo (q : Requester) (yard : Nat) (points : BitVec 4) (s : State) : Out :=
  s.after (s.wordWrite q FAR_SUSCLR.GO.addr (pack [(1, 15), (yard % 128, 8), (points.toNat, 0)]))

/-- PWS_REQ_GO. -/
def execPwsReqGo (q : Requester) (dom : Nat) (st : Nat) (s : State) : Out :=
  s.after (s.wordWrite q PWS_REQ.GO.addr (pack [(1, 31), (dom % 128, 8), (st % 8, 0)]))

/-- CAP_JOB_BEGIN. -/
def execCapJobBegin (q : Requester) (ctx : Nat) (tag : Nat) (s : State) : Out :=
  s.after (s.wordWrite q CAP_JOB.GO.addr (pack [(1, 31), (ctx % 64, 16), (tag % 65536, 0)]))

/-- CAP_JOB_END. -/
def execCapJobEnd (q : Requester) (ctx : Nat) (tag : Nat) (s : State) : Out :=
  s.after (s.wordWrite q CAP_JOB.GO.addr (pack [(1, 31), (1, 30), (ctx % 64, 16), (tag % 65536, 0)]))

/-- THM_PROOF_GO. -/
def execThmProofGo (q : Requester) (yard : Nat) (s : State) : Out :=
  s.after (s.wordWrite q THM_PROOF.GO.addr (pack [(1, 7), (yard % 128, 0)]))

/-- THM_PRECOND_GO. -/
def execThmPrecondGo (q : Requester) (yard : Nat) (target : Nat) (s : State) : Out :=
  s.after (s.wordWrite q THM_PRECOND.GO.addr (pack [(1, 28), (target % 128, 8), (yard % 128, 0)]))

/-- THM_PRECOND_STOP. -/
def execThmPrecondStop (q : Requester) (s : State) : Out :=
  s.after (s.wordWrite q THM_PRECOND.STOP.addr (s.wordWith THM_PRECOND.STOP 1))

/-- STG_RAIL_ON_SET. -/
def execStgRailOnSet (q : Requester) (rail : Nat) (s : State) : Out :=
  s.after (s.unitWrite q (decide (rail < 2)) (STG_RAIL.ON rail) 1)

/-- STG_RAIL_ON_CLEAR. -/
def execStgRailOnClear (q : Requester) (rail : Nat) (s : State) : Out :=
  s.after (s.unitWrite q (decide (rail < 2)) (STG_RAIL.ON rail) 0)

/-- STG_VOUT_WRITE. -/
def execStgVoutWrite (q : Requester) (rail : Nat) (code : Nat) (s : State) : Out :=
  s.after (s.unitWrite q (decide (rail < 2)) (STG_VOUT.CODE rail) (pack [(code % 1024, 0)]))

/-- STG_PHCLR_WRITE. -/
def execStgPhclrWrite (q : Requester) (data : Word) (s : State) : Out :=
  s.after (s.wordWrite q STG_PHCLR.CLR.addr data)

/-- PMB_SCAN_GO. -/
def execPmbScanGo (q : Requester) (s : State) : Out :=
  s.after (s.wordWrite q PMB_SCAN.GO.addr 1)

/-- PMB_RAW_GO. -/
def execPmbRawGo (q : Requester) (word : Bool) (addr : Nat) (cmd : Byte) (s : State) : Out :=
  s.after (s.wordWrite q PMB_RAW.GO.addr (pack [(1, 31), (word.toNat, 30), (addr % 128, 8), (cmd.toNat, 0)]))

/-- CMK_USLOT_WRITE. -/
def execCmkUslotWrite (q : Requester) (n : Nat) (data : Word) (s : State) : Out :=
  s.after (s.unitWrite q (decide (n < 64)) (CMK_USLOT.EN n) data)

/-- TDM_STREAM_GO. -/
def execTdmStreamGo (q : Requester) (t : Nat) (s : State) : Out :=
  s.after (s.unitWrite q (decide (t < 3)) (TDM_STR_CTRL.GO t) (s.wordWith (TDM_STR_CTRL.GO t) 1))

/-- TDM_STREAM_STOP. -/
def execTdmStreamStop (q : Requester) (t : Nat) (s : State) : Out :=
  s.after (s.unitWrite q (decide (t < 3)) (TDM_STR_CTRL.STOP t) (s.wordWith (TDM_STR_CTRL.STOP t) 1))

/-- FLT_PEND_ACK. -/
def execFltPendAck (q : Requester) (bits : BitVec 3) (s : State) : Out :=
  s.after (s.wordWrite q FLT_PEND.C.addr (pack [(bits.toNat, 0)]))

/-- FLT_RESUME. -/
def execFltResume (q : Requester) (s : State) : Out :=
  s.after (s.wordWrite q FLT_CTRL.RESUME.addr 1)

/-- FLT_INJ_SINGLE. -/
def execFltInjSingle (q : Requester) (mem : Nat) (s : State) : Out :=
  s.after (s.wordWrite q FLT_INJ.GO.addr (injWord 0 mem 0))

/-- FLT_INJ_DOUBLE. -/
def execFltInjDouble (q : Requester) (mem : Nat) (s : State) : Out :=
  s.after (s.wordWrite q FLT_INJ.GO.addr (injWord 1 mem 0))

/-- FLT_INJ_RAISE. -/
def execFltInjRaise (q : Requester) (unit : Nat) (code : Nat) (s : State) : Out :=
  s.after (s.wordWrite q FLT_INJ.GO.addr (injWord 2 unit code))

/-- FLT_INJ_BREAK. -/
def execFltInjBreak (q : Requester) (unit : Nat) (s : State) : Out :=
  s.after (s.wordWrite q FLT_INJ.GO.addr (injWord 3 unit 0))

/-- FLT_INJ_PIN_WRITE. -/
def execFltInjPinWrite (q : Requester) (pin : Nat) (s : State) : Out :=
  s.after (s.wordWrite q FLT_INJ_PIN.PIN.addr (pack [(pin % 4, 0)]))

/-- LOG_CTRL_FREEZE. -/
def execLogCtrlFreeze (q : Requester) (s : State) : Out :=
  s.after (s.wordWrite q LOG_CTRL.FREEZE.addr (s.wordWith LOG_CTRL.FREEZE 1))

/-- LOG_CTRL_RELEASE. -/
def execLogCtrlRelease (q : Requester) (s : State) : Out :=
  s.after (s.wordWrite q LOG_CTRL.FREEZE.addr (s.wordWith LOG_CTRL.FREEZE 0))

/-- LOG_RD_GO. -/
def execLogRdGo (q : Requester) (idx : Nat) (s : State) : Out :=
  s.after (s.wordWrite q LOG_RD.GO.addr (pack [(1, 31), (idx % 131072, 0)]))

/-- LOG_ERASE_RANKED. -/
def execLogEraseRanked (q : Requester) (s : State) : Out :=
  s.after (s.wordWrite q LOG_ERASE.KEY.addr 0x10C50001)

/-- LOG_ERASE_ALL. -/
def execLogEraseAll (q : Requester) (s : State) : Out :=
  s.after (s.wordWrite q LOG_ERASE.KEY.addr 0x10C50002)

/-- FLS_READ. -/
def execFlsRead (q : Requester) (s : State) : Out :=
  s.after (s.flsWrite q 0)

/-- FLS_PROGRAM. -/
def execFlsProgram (q : Requester) (s : State) : Out :=
  s.after (s.flsWrite q 1)

/-- FLS_ERASE. -/
def execFlsErase (q : Requester) (s : State) : Out :=
  s.after (s.flsWrite q 2)

/-- FLS_VERIFY. -/
def execFlsVerify (q : Requester) (s : State) : Out :=
  s.after (s.flsWrite q 3)

/-- SEC_CONF_SET. -/
def execSecConfSet (q : Requester) (ctx : Nat) (s : State) : Out :=
  s.after (s.confWrite q ctx 1)

/-- SEC_CONF_CLEAR. -/
def execSecConfClear (q : Requester) (ctx : Nat) (s : State) : Out :=
  s.after (s.confWrite q ctx 0)

end Sys2Proof.Machine
end

