-- ==== Sys2Proof/Machine/Start.lean ====
section
/-!
DEFINITION. Start-up from step 5 of R352 on, the image, roll-call, the way-on sequence, the loss and return of the PLL, the
end of a control-plane reset, and the takeovers of the helm cores (R25-R30, R335, R351-R366).
-/

namespace Sys2Proof.Machine

/-! ### Dead-slow service (R352 step 5, R379, R381) -/

/-- A class F fault is outstanding: Oteus holds course, or a class F source asserts (R352, R363, R381). -/
def State.outstandingF (s : State) : Bool := s.holding || s.on FLT_STATUS.F_ASSERT || s.on THM_STATUS.TRIP

/-- Both rails are started at a power-on reset, a tracking PKG_B with PKG_A; none without a board record (R288, R352, R364). -/
def State.startRails (s : State) : State :=
  if !s.porStart ∨ s.noRecord then s
  else [0, 1].foldl (fun s r => if s.tracks r then s else s.railOn r) { s with porStart := false }

/-- DEAD_SLOW_ENTRY. A block reset whose domains have all come to rest first returns registers and engines to reset (R364). -/
def deadSlowEff (s : State) : State :=
  let s := if s.blkReset && s.allOff then s.blockRest else s
  if !s.inBoot ∨ s.blkReset ∨ s.outstandingF then s
  else ((s.put GLB_SERVICE.STATE 1).evt pgGLB 2).startRails.refreshPair

/-! ### The firmware image (R352 steps 3, 9, 10; R366) -/

/-- Instruction RAM takes the image, and the helm pair reads it to verify it: a check error injected into the RAM goes into its
first word and is found there; an uncorrectable one starts a control-plane reset (R364, R384, R385). The answer: one was found. -/
def State.loadImage (s : State) : State × Bool :=
  let s := s.memWritten 3 0
  let a : FaultAccess := { addr := 0, unit := 4, access := 1 }
  match s.memError 3 0 with
  | none => (s, false)
  | some false => ((s.errorGone 3 0).memCe 3 0 a, false)
  | some true => ((((s.errorGone 3 0).memUe 3 0).raiseWith 0x08 [0] a false).cpResetGo, true)

/-- What verification reads, in the place of flash: the boot header and the image as this start loaded them. -/
def State.loaded (s : State) : State := { s with flash := s.boot }

/-- Byte k of instruction RAM: the image, and zero in what the image does not occupy (R353). -/
def State.iramAt (s : State) (k : Nat) : Byte := if k < s.loaded.imageLen then s.loaded.flashAt (0x10000 + k) else 0

/-- IMAGE_READ_END: the one attempt of this start; a valid image is kept for the way-on sequence. What flash has taken since the start
does not count (R367). Bytes that instruction RAM cannot deliver have no right digest. -/
def imageReadEff (readErr : Bool) (s : State) : State :=
  if s.on GLB_SERVICE.FW_RESULT ∨ 2 ≤ s.get GLB_SERVICE.STATE then s
  else
    let v := ofLe (s.loaded.flashBytes 0xC 4)
    let seen := s.loaded.verifyImage readErr
    let (s, bad) := s.loadImage
    let r := if bad ∧ seen = 1 then 5 else seen
    let s := s.put GLB_SERVICE.FW_RESULT r
    if r = 1 then { s with image := some v } else (s.evt pgGLB 1).raise 0x10 [r, v]

/-! ### Roll-call (R360) -/

/-- Bay register 6 for a round trip in ps, in steps of 312.5 ps. -/
def equalFor (tRt : Nat) : Nat := (300000 - 10 * tRt) / 3125

/-- A bay that roll-call leaves fenced. -/
def State.fenceBay (s : State) (b : Nat) : State := (s.modBay b fun v => { v with st := .fenced }).recState b

/-- A bay that does not answer, or answers too late: fenced, FBB_ROLLCALL, a remount for its yard's first wake; the round trip
of a bay that does not answer is not stated and is a free value. -/
def State.rollFail (s : State) (b : Nat) (tRt : Option Nat) : State :=
  let s := (s.modBay b fun v => { v with failFenced := true, silent := tRt.isNone }).fenceBay b
  let (t, s) := match tRt with | some t => (t, s) | none => s.fresh 12
  let s := { s with farDirty := true }.raise 0x12 [b, t]
  match Config.serviceYard b with
  | some y => (s.bump (YRD_CNT_BAYFAIL.COUNT y)).autoRemount y
  | none => s

/-- The round trip of a bay, if it answers: one of the exceptions, or that of all others. -/
def roundTrip (tRt : Nat) (exceptions : List (Nat × Option Nat)) (b : Nat) : Option Nat :=
  match exceptions.find? fun e => e.1 == b with
  | some e => e.2
  | none => some tRt

/-- One bay of roll-call. -/
def State.rollBay (tRt : Nat) (exceptions : List (Nat × Option Nat)) (s : State) (b : Nat) : State :=
  if (s.bay b).failFenced then s.fenceBay b
  else
    match roundTrip tRt exceptions b with
    | some t => if 28000 < t then s.rollFail b (some t) else s.modBay b fun v => { v with equal := equalFor t }
    | none => s.rollFail b none

/-- Bays a yard may still run: its service bays not fenced, and the remounts assigned to it. -/
def State.usableBays (s : State) (y : Nat) : List Nat :=
  (reach y).filter fun b => s.get (BAY_STATE.STATE b) != 6 && (Config.serviceYard b == some y || (s.bay b).assigned == some y)

/-- The fitted bays. -/
def fittedBays : List Nat := (List.range Config.bayCount).filter Config.bayFitted

/-- ROLL_CALL: the whole of step 8 of R352, with the words it exchanges. Yards left below their minimum are fenced (R214). Without the
PLL in lock the timing is to be repeated (R360). -/
def rollCallEff (tRt : Nat) (exceptions : List (Nat × Option Nat)) (s : State) : State :=
  if s.rollCalled ∨ s.inBoot ∨ s.get STG_STATUS.PG ≠ 3 then s
  else
    let s := { s with rollCalled := true, rollAgain := if s.on CLK_STATUS.LOCK then none else some (tRt, exceptions) }
    let s := fittedBays.foldl (State.rollBay tRt exceptions) s
    (List.range Config.yardCount).foldl (fun s y => if (s.usableBays y).length < Config.minBays y then s.fenceYard y else s) s

/-! ### The way-on sequence (R363) -/

/-- Words of set k of a coefficient record, reserved bits cleared; a CTL that R102 refuses is loaded with VALID 0 (R359). -/
def recordSet (l : List Byte) (k : Nat) : List Nat :=
  let w (i : Nat) : Nat := recField l (32 * (k - 1) + 4 * i) 4
  let ctl := w 7
  let bad := 2 ≤ ctl / 2 ^ 30 ∨ signed 12 (ctl / 2 ^ 16 % 2 ^ 12) < signed 12 (ctl % 2 ^ 12)
  (List.range 7).map (fun i => w i % 2 ^ 24) ++ [Nat.land (if bad then clearBit ctl 29 else ctl) 0xEFFF0FFF]

/-- A record that holds: CRC, a set to select in 1-6, that set valid (R359). -/
def recordHolds (l : List Byte) : Bool :=
  let k := recField l 192 1
  recField l 252 4 == crc32 (l.take 252) && decide (1 ≤ k ∧ k ≤ 6) && tb ((recordSet l k).getD 7 0) 29

/-- Sets 1-6 and YRD_LOOP.SET of a yard from its record, or set 7 (R104, R359). -/
def State.loadCoefs (s : State) (y : Nat) : State :=
  let l := s.flashBytes (0x260000 + 0x100 * y) 256
  if !recordHolds l then s.put (YRD_LOOP.SET y) 7
  else
    let s := [1, 2, 3, 4, 5, 6].foldl (fun s k =>
      (recordSet l k).zipIdx.foldl (fun s p =>
        let a := 0x40000 + 0x100 * y + 0x20 * k + 4 * p.2
        (s.setWord a (BitVec.ofNat 32 p.1)).memWritten 5 (a / 8)) s) s
    s.put (YRD_LOOP.SET y) (recField l 192 1)

/-- Item 3 of R360 is repeated for every bay that is not fenced, where the PLL was not locked in roll-call. A bay's round trip is what it
was then (DESIGN CHOICE, assumption log 39). -/
def State.timeAgain (s : State) : State :=
  match s.rollAgain with
  | none => s
  | some (tRt, ex) =>
    (fittedBays.filter fun b => s.get (BAY_STATE.STATE b) != 6).foldl
      (fun s b => match roundTrip tRt ex b with | some t => s.modBay b fun v => { v with equal := equalFor t } | none => s)
      { s with rollAgain := none }

/-- Steps 2 and 3: the clocks run from the PLL, roll-call's timing is repeated where it must be, the coefficient records are loaded. -/
def State.toPll (s : State) : State :=
  (List.range Config.yardCount).foldl State.loadCoefs
    ({ s.gatherAll with r26 := false, sysHalf := false }.put CLK_STATUS.SOURCE 1).timeAgain

/-- Steps 6 and 7: the cap loop's power sums start anew, STATE becomes 3, commands that waited start (R335); a plan that waited goes
on, and with no farrier record the plan that takes baselines starts (R206, R208). -/
def State.enterWayOn (s : State) : State :=
  let s := (List.range Config.yardCount).foldl (fun s y =>
    s.setYard y { s.yard y with pSum := 0, pCnt := 0, open_ := {}, openAt := s.mono }) s
  let s := { s with wayOnAt := some (s.wayOnAt.getD s.mono) }
  let s := ((s.put GLB_SERVICE.STATE 3).evt pgGLB 0).startAccepted
  let s := s.resumePlan
  if !s.farRecord ∧ s.far = .idle ∧ s.get FAR_STATUS.STATE = 0 then (s.startPlan none).1 else s

/-- Domains that were on when a block reset began are ordered to D0, in index order (R364). -/
def State.rewakeAll (s : State) : State :=
  (List.range Config.yardCount).foldl (fun s d =>
    if !(s.dom d).rewake then s
    else
      let s := s.modDom d fun m => { m with rewake := false }
      if s.on (YRD_STATUS.YARD_FENCED d) then s else (s.placeOrder d 0 .oteus false none).1) s

/-- The conditions of R363: a verified image, the PLL in lock for 10 ms, no class F fault. -/
def State.mayWayOn (s : State) : Bool :=
  s.image.isSome && s.on CLK_STATUS.LOCK && decide (s.lockAt + ns 10000000 ≤ s.mono) && !s.outstandingF

/-! ### The PLL (R25, R26, R363) -/

/-- PLL_LOCK: the PLL has locked. -/
def pllLockEff (s : State) : State := if s.on CLK_STATUS.LOCK then s else { s with lockAt := s.mono }.put CLK_STATUS.LOCK 1

/-- PLL_UNLOCK. Clocks that run from the backup oscillator lose nothing but the lock. -/
def pllUnlockEff (diff : Nat) (s : State) : State :=
  if !s.onPll then s.put CLK_STATUS.LOCK 0
  else
    let s := ((s.bump CLK_CNT_UNLOCK.COUNT).evt pgCLK 0).raise 0x01 [diff]
    let s := { s with r26 := true }.stopDre
    let s := s.gatherAll
    let s := ((s.put CLK_STATUS.LOCK 0).put CLK_STATUS.SOURCE 0).put GLB_SERVICE.STATE 2
    let s : State := { s with jobs := s.jobs.map fun j => if j.isOpen then { j with noattr := true } else j }
    ((List.range Config.yardCount).foldl State.orderNow s.zeroBal).refreshStation

/-- The return to way-on after a loss of the PLL: steps 1 to 3, 6 and 7 (R363). -/
def State.pllReturn (s : State) : State := ((((s.bump CLK_CNT_RELOCK.COUNT).evt pgCLK 1).logEvent 0x0101 []).toPll).enterWayOn

/-- PLL_RELOCK: lock has been held for 10 ms; a class F fault holds the return back (R363). -/
def pllRelockEff (s : State) : State :=
  if !s.r26 then s
  else
    let s := pllLockEff s
    if s.outstandingF then s else s.pllReturn

/-! ### The way-on sequence -/

/-- WAY_ON_TRANSITION: the seven steps (R352 steps 10-12, R363), or the return that a class F fault held back. -/
def wayOnEff (s : State) : State :=
  if s.r26 ∧ s.mayWayOn then s.pllReturn
  else if s.get GLB_SERVICE.STATE ≠ 1 ∨ !s.mayWayOn then s
  else
    let s := (s.put GLB_SERVICE.STATE 2).toPll
    let s := (s.put HLM_FW_VER.VERSION (s.image.getD 0)).loadIndex
    let s := (s.put DRE_CTRL.RUN 1).put GLB_START_MS.MS (min 65535 ((s.mono - s.startAt) / 2000000))
    s.enterWayOn.rewakeAll

/-! ### The journal (R332, R385) -/

/-- A core reads an entry: a single error is corrected, an uncorrectable one ends the command FAILED with DETAIL 0xFE. -/
def State.readEntry (core : Nat) (s : State) (e : Entry) : State :=
  let w := journalWord e.win e.slot
  let a : FaultAccess := { addr := 96 * w, unit := core, access := 1 }
  match s.memError 4 w with
  | none => s
  | some false => ((s.errorGone 4 w).bump HLM_CNT_JOURNAL_CE.COUNT).memCe 4 a.addr a
  | some true =>
    let s := ((s.errorGone 4 w).bump HLM_CNT_JOURNAL_UE.COUNT).memUe 4 a.addr
    (s.raiseWith 0x09 [w] a false).finish ⟨e.win, e.slot, e.seq⟩ stFailed 0xFE 0

/-- A core reads the whole journal. -/
def State.readJournal (s : State) (core : Nat) : State := s.journal.foldl (State.readEntry core) s

/-! ### End of a control-plane reset (R319, R335, R365) -/

/-- The slots of a window. -/
def slotCount : Window → Nat
  | .cmd => 16
  | .cmk => 16
  | .cmu => 64

/-- A slot restored from its journal entry: the command, STATUS, RESULT and SEQ; one without an entry reads 0. -/
def State.restoreSlot (w : Window) (s : State) (slot : Nat) : State :=
  let b := slotBase w slot
  let s := (List.range 16).foldl (fun s k => if w = .cmu ∧ k = 15 then s else s.setWord (b + 4 * k) 0) s
  match s.journal.find? fun e => decide (e.win = w ∧ e.slot = slot) with
  | none => s
  | some e =>
    let s := (s.setWord b (BitVec.ofNat 32 (e.opcode + e.flags.toNat * 2 ^ 16))).setWord (b + 4) e.tag
    let s := e.ops.zipIdx.foldl (fun s p => s.put64 ⟨b + 8 + 8 * p.2, 0, 32⟩ p.1.toNat) s
    (s.writeStatus w slot e.status e.result).setWord (b + 0x3C) e.seq

/-- CONTROL_PLANE_RESET_END: the helm pair is back in service, a latched thermal trip is raised again (R276), the windows are
restored, running commands go on and accepted ones start, and the requests that the management and debug ports hold are performed. -/
def cpResetEndEff (s : State) : State :=
  if !s.cpReset then s
  else
    let s := { s with cpReset := false }.reraiseTrip.readJournal 4
    let s := [Window.cmd, .cmk, .cmu].foldl (fun s w => (List.range (slotCount w)).foldl (State.restoreSlot w) s) s
    s.serve.mpHeld.dbgGo.resumePlan

/-! ### Takeovers (R29, R30) -/

/-- The fault of a core that leaves service, by unit: 4 the helm pair, 5 and 6 the service cores. An error in a core's memory is found by
a data read: instructions come from instruction RAM (R378; DESIGN CHOICE, assumption log 39). -/
def State.coreFault (s : State) (unit : Nat) (cause : CoreFault) : State :=
  match cause with
  | .lockstep pc => s.raise 0x05 [pc]
  | .watchdog => s.raise 0x06 [unit]
  | .memUe addr => (s.memUe (unit - 4) addr).raiseWith 0x07 [unit - 4, addr] { addr := addr, unit := unit, access := 1 } false

/-- The work of the helm pair passes to a service core; no core serves until the takeover is over (R29, R336). -/
def State.takeOver (s : State) : State :=
  let exec := if s.on HLM_STATUS.SC0_OUT then 2 else 1
  let s := ((s.put HLM_STATUS.EXEC exec).bump HLM_CNT_TAKEOVER.COUNT).evt pgHLM 0
  { s with takeover := some s.mono, taking := true }

/-- 50 µs after the failure was detected, the whole of its bound, the core that takes over serves, and resumes from the journal (R29,
R335; DESIGN CHOICE, assumption log 31). -/
def State.takeoverEnd (s : State) : State :=
  if s.taking ∧ s.takeover.any (fun t => decide (t + ns 50000 ≤ s.mono)) then
    ({ s with taking := false }.readJournal (4 + s.get HLM_STATUS.EXEC)).serve
  else s

/-- HELM_PAIR_FAILURE. A pair already out of service does nothing more. -/
def helmFailEff (cause : CoreFault) (s : State) : State :=
  if s.on HLM_STATUS.HELM_OUT then s else ((s.coreFault 4 cause).put HLM_STATUS.HELM_OUT 1).takeOver

/-- The service core that stages telemetry: SC0, or SC1 where it has taken over the service work of SC0 (R27, R29, R30). -/
def State.stagingCore (s : State) : Nat :=
  if s.on HLM_STATUS.SC0_OUT || (s.on HLM_STATUS.HELM_OUT && s.get HLM_STATUS.EXEC == 1) then 1 else 0

/-- The records that a failed core was staging are lost, and counted in what follows (R30, R341). -/
def State.loseStaged (s : State) (t : Nat) : State :=
  let n := ((s.stream t).staged.map Rec.standsFor).sum
  if n = 0 then s
  else ((s.modStream t fun d => { d with staged := [], lost := d.lost + n }).bumpBy (TDM_STR_LOST.COUNT t) n).evt pgTDM 3

/-- SERVICE_CORE_FAILURE: core 0 is SC0, 1 SC1. With both out, a control-plane reset starts (R364). -/
def serviceFailEff (core : Nat) (cause : CoreFault) (s : State) : State :=
  let out := if core = 0 then HLM_STATUS.SC0_OUT else HLM_STATUS.SC1_OUT
  if 2 ≤ core ∨ s.on out then s
  else
    let staging := s.stagingCore
    let s := (s.coreFault (5 + core) cause).put out 1
    let s := if core = staging then (List.range 3).foldl State.loseStaged s else s
    if s.on HLM_STATUS.SC0_OUT && s.on HLM_STATUS.SC1_OUT then s.cpResetGo
    else if s.get HLM_STATUS.EXEC = core + 1 then s.takeOver
    else s

/-! ### What passes without a command -/

/-- A core in service writes and reads its tightly coupled memory, memory 0 the helm pair's, 1 SC0's, 2 SC1's (R384): an injected error
goes into its first word in one cycle and is found in a later one (DESIGN CHOICE, assumption log 39). -/
def State.coreWork (s : State) (m : Nat) : State :=
  if s.cpReset ∨ s.on (if m = 0 then HLM_STATUS.HELM_OUT else if m = 1 then HLM_STATUS.SC0_OUT else HLM_STATUS.SC1_OUT) then s
  else if (s.armedFor m).isSome then s.memWritten m 0
  else
    match s.memError m 0 with
    | none => s
    | some false => (s.errorGone m 0).memCe m 0 { unit := 4 + m, access := 1 }
    | some true => if m = 0 then helmFailEff (.memUe 0) (s.errorGone 0 0) else serviceFailEff (m - 1) (.memUe 0) (s.errorGone m 0)

/-- What the block does by itself in one CLK_B cycle without a command: time passes, a stream about to make an access outside
the window stops, each domain's wake pin and the end of its wake's deferral are looked at, the cores use their memories, and a takeover
may end (R29, R123, R233, R383). -/
def State.idle (s : State) : State :=
  ((List.range 3).foldl State.coreWork
    ((List.range Config.yardCount).foldl State.domCycle ((List.range 3).foldl State.tdmKick s.tick))).takeoverEnd

/-! ### The commands -/

/-- DEAD_SLOW_ENTRY. -/
def execDeadSlowEntry (s : State) : Out := s.after (deadSlowEff s)

/-- IMAGE_READ_END. -/
def execImageReadEnd (readErr : Bool) (s : State) : Out := s.after (imageReadEff readErr s)

/-- ROLL_CALL. -/
def execRollCall (tRt : Nat) (exceptions : List (Nat × Option Nat)) (s : State) : Out := s.after (rollCallEff tRt exceptions s)

/-- WAY_ON_TRANSITION. -/
def execWayOnTransition (s : State) : Out := s.after (wayOnEff s)

/-- PLL_LOCK. -/
def execPllLock (s : State) : Out := s.after (pllLockEff s)

/-- PLL_UNLOCK. -/
def execPllUnlock (diff : Nat) (s : State) : Out := s.after (pllUnlockEff diff s)

/-- PLL_RELOCK. -/
def execPllRelock (s : State) : Out := s.after (pllRelockEff s)

/-- GLB_RESET_CONTROL_PLANE: GLB_RESET written with KIND 1. -/
def execGlbResetControlPlane (q : Requester) (s : State) : Out := s.after (s.wordWrite q GLB_RESET.KEY.addr 0xB0070001)

/-- CONTROL_PLANE_RESET_END. -/
def execControlPlaneResetEnd (s : State) : Out := s.after (cpResetEndEff s)

/-- GLB_RESET_BLOCK: GLB_RESET written with KIND 2; `i` is what the start that follows finds outside. -/
def execGlbResetBlock (q : Requester) (i : StartInputs) (s : State) : Out :=
  s.after ({ s with startIn := i }.wordWrite q GLB_RESET.KEY.addr 0xB0070002)

/-- HELM_PAIR_FAILURE. -/
def execHelmPairFailure (cause : CoreFault) (s : State) : Out := s.after (helmFailEff cause s)

/-- SERVICE_CORE_FAILURE. -/
def execServiceCoreFailure (core : Nat) (cause : CoreFault) (s : State) : Out := s.after (serviceFailEff core cause s)

end Sys2Proof.Machine
end

