-- ==== Sys2Proof/Machine/Dispatch.lean ====
section
/-!
DEFINITION. The dispatch: one arm per command.
-/

namespace Sys2Proof.Machine

/-- The effect of a command on everything but the queue. -/
def exec (i : Instr) (s : State) : Host.Outcome State Fault Refusal :=
  match i with
  | .powerOnReset src lowNs inputs => Sys2Proof.Machine.execPowerOnReset src lowNs inputs s
  | .aonDetectorTrip => Sys2Proof.Machine.execAonDetectorTrip s
  | .deadSlowEntry => Sys2Proof.Machine.execDeadSlowEntry s
  | .imageReadEnd readErr => Sys2Proof.Machine.execImageReadEnd readErr s
  | .rollCall tRt exceptions => Sys2Proof.Machine.execRollCall tRt exceptions s
  | .wayOnTransition => Sys2Proof.Machine.execWayOnTransition s
  | .logScan => Sys2Proof.Machine.execLogScan s
  | .pllLock => Sys2Proof.Machine.execPllLock s
  | .pllUnlock diff => Sys2Proof.Machine.execPllUnlock diff s
  | .pllRelock => Sys2Proof.Machine.execPllRelock s
  | .glbResetControlPlane q => Sys2Proof.Machine.execGlbResetControlPlane q s
  | .controlPlaneResetEnd => Sys2Proof.Machine.execControlPlaneResetEnd s
  | .glbResetBlock q inputs => Sys2Proof.Machine.execGlbResetBlock q inputs s
  | .helmPairFailure cause => Sys2Proof.Machine.execHelmPairFailure cause s
  | .serviceCoreFailure core cause => Sys2Proof.Machine.execServiceCoreFailure core cause s
  | .registerWrite r => Sys2Proof.Machine.execRegisterWrite r s
  | .mpPrivateWrite bytes => Sys2Proof.Machine.execMpPrivateWrite bytes s
  | .mpPrivateRead => Sys2Proof.Machine.execMpPrivateRead s
  | .i3cDynamicAddress how addr => Sys2Proof.Machine.execI3cDynamicAddress how addr s
  | .i3cDisecEnec enable => Sys2Proof.Machine.execI3cDisecEnec enable s
  | .ibiRaise ack => Sys2Proof.Machine.execIbiRaise ack s
  | .otAccessUpdate dr => Sys2Proof.Machine.execOtAccessUpdate dr s
  | .prtH2mWrite q idx data => Sys2Proof.Machine.execPrtH2mWrite q idx data s
  | .pgUnlock q page => Sys2Proof.Machine.execPgUnlock q page s
  | .pgLock q page => Sys2Proof.Machine.execPgLock q page s
  | .xrecUnlock q region page => Sys2Proof.Machine.execXrecUnlock q region page s
  | .xrecLock q region page => Sys2Proof.Machine.execXrecLock q region page s
  | .pilotNotice n => Sys2Proof.Machine.execPilotNotice n s
  | .collBegin n => Sys2Proof.Machine.execCollBegin n s
  | .collEnd n => Sys2Proof.Machine.execCollEnd n s
  | .holdAck n => Sys2Proof.Machine.execHoldAck n s
  | .collectiveOpen k => Sys2Proof.Machine.execCollectiveOpen k s
  | .collectiveClose k => Sys2Proof.Machine.execCollectiveClose k s
  | .ownershipChange yard => Sys2Proof.Machine.execOwnershipChange yard s
  | .capYownWrite q j data => Sys2Proof.Machine.execCapYownWrite q j data s
  | .gatherEnd yard => Sys2Proof.Machine.execGatherEnd yard s
  | .coolEnd yard => Sys2Proof.Machine.execCoolEnd yard s
  | .inferenceDispatch => Sys2Proof.Machine.execInferenceDispatch s
  | .forecastComplete ue => Sys2Proof.Machine.execForecastComplete ue s
  | .presetApply yard => Sys2Proof.Machine.execPresetApply yard s
  | .presetHorizon yard => Sys2Proof.Machine.execPresetHorizon yard s
  | .presetEnd yard => Sys2Proof.Machine.execPresetEnd yard s
  | .preraiseEnd yard => Sys2Proof.Machine.execPreraiseEnd yard s
  | .dreLoadGo q slot src => Sys2Proof.Machine.execDreLoadGo q slot src s
  | .bundleFetchDone hostBytes readErr => Sys2Proof.Machine.execBundleFetchDone hostBytes readErr s
  | .dreCtrlRunWrite q run => Sys2Proof.Machine.execDreCtrlRunWrite q run s
  | .activityRecord yard beats => Sys2Proof.Machine.execActivityRecord yard beats s
  | .activityTick => Sys2Proof.Machine.execActivityTick s
  | .tbStrobe time valid => Sys2Proof.Machine.execTbStrobe time valid s
  | .tbValidLoss => Sys2Proof.Machine.execTbValidLoss s
  | .speedOrderPlace => Sys2Proof.Machine.execSpeedOrderPlace s
  | .soDone yard => Sys2Proof.Machine.execSoDone yard s
  | .soTimeout => Sys2Proof.Machine.execSoTimeout s
  | .vfWaitExpiry yard => Sys2Proof.Machine.execVfWaitExpiry yard s
  | .hostNoticeTaken => Sys2Proof.Machine.execHostNoticeTaken s
  | .ccpEpochMessage beats => Sys2Proof.Machine.execCcpEpochMessage beats s
  | .ccpCancel beats => Sys2Proof.Machine.execCcpCancel beats s
  | .epochApply => Sys2Proof.Machine.execEpochApply s
  | .superframe seg => Sys2Proof.Machine.execSuperframe seg s
  | .sync seg sfn shareCrc crc => Sys2Proof.Machine.execSync seg sfn shareCrc crc s
  | .syncLost bay badCrc => Sys2Proof.Machine.execSyncLost bay badCrc s
  | .sharingApply bay words => Sys2Proof.Machine.execSharingApply bay words s
  | .trim seg yard trim crc => Sys2Proof.Machine.execTrim seg yard trim crc s
  | .setpoint seg yard code slew crc => Sys2Proof.Machine.execSetpoint seg yard code slew crc s
  | .preset seg yard prebias crc => Sys2Proof.Machine.execPreset seg yard prebias crc s
  | .add seg slot ph1 ph0 crc => Sys2Proof.Machine.execAdd seg slot ph1 ph0 crc s
  | .shedPrep seg slot ph1 ph0 crc => Sys2Proof.Machine.execShedPrep seg slot ph1 ph0 crc s
  | .cancel seg slot ph1 ph0 crc => Sys2Proof.Machine.execCancel seg slot ph1 ph0 crc s
  | .clearTrip seg slot ph1 ph0 crc => Sys2Proof.Machine.execClearTrip seg slot ph1 ph0 crc s
  | .bayStateOff seg slot crc => Sys2Proof.Machine.execBayStateOff seg slot crc s
  | .bayStateReady seg slot crc => Sys2Proof.Machine.execBayStateReady seg slot crc s
  | .bayStateRun seg slot crc => Sys2Proof.Machine.execBayStateRun seg slot crc s
  | .bayStateHeat seg slot crc => Sys2Proof.Machine.execBayStateHeat seg slot crc s
  | .bayStateFence seg slot crc => Sys2Proof.Machine.execBayStateFence seg slot crc s
  | .bayStateRelease seg slot crc => Sys2Proof.Machine.execBayStateRelease seg slot crc s
  | .remountConnect seg slot side crc => Sys2Proof.Machine.execRemountConnect seg slot side crc s
  | .remountDisconnect seg slot side crc => Sys2Proof.Machine.execRemountDisconnect seg slot side crc s
  | .remountConnectStep bay ok => Sys2Proof.Machine.execRemountConnectStep bay ok s
  | .remountDisconnectStep bay => Sys2Proof.Machine.execRemountDisconnectStep bay s
  | .cfgWr seg slot reg data crc => Sys2Proof.Machine.execCfgWr seg slot reg data crc s
  | .cfgRd seg slot reg crc => Sys2Proof.Machine.execCfgRd seg slot reg crc s
  | .currentReport seg sfn reports => Sys2Proof.Machine.execCurrentReport seg sfn reports s
  | .event seg slot word => Sys2Proof.Machine.execEvent seg slot word s
  | .rdRsp seg slot word => Sys2Proof.Machine.execRdRsp seg slot word s
  | .fbbSegment seg => Sys2Proof.Machine.execFbbSegment seg s
  | .holdReqTimeout yard => Sys2Proof.Machine.execHoldReqTimeout yard s
  | .tripHoldEnd yard => Sys2Proof.Machine.execTripHoldEnd yard s
  | .autoClearTrip bay ph => Sys2Proof.Machine.execAutoClearTrip bay ph s
  | .phaseCountDecision yard => Sys2Proof.Machine.execPhaseCountDecision yard s
  | .sharingJob bay lane residueOk => Sys2Proof.Machine.execSharingJob bay lane residueOk s
  | .sharingDeadlineMiss bay => Sys2Proof.Machine.execSharingDeadlineMiss bay s
  | .supervisionJob yard lane residueOk => Sys2Proof.Machine.execSupervisionJob yard lane residueOk s
  | .droopTrip bay => Sys2Proof.Machine.execDroopTrip bay s
  | .droopClear bay => Sys2Proof.Machine.execDroopClear bay s
  | .allHandsEnd bay => Sys2Proof.Machine.execAllHandsEnd bay s
  | .shedStop bay ph => Sys2Proof.Machine.execShedStop bay ph s
  | .phaseCold bay ph => Sys2Proof.Machine.execPhaseCold bay ph s
  | .tripped bay ph => Sys2Proof.Machine.execTripped bay ph s
  | .bayOverload bay => Sys2Proof.Machine.execBayOverload bay s
  | .inputLow bay => Sys2Proof.Machine.execInputLow bay s
  | .outputHigh bay => Sys2Proof.Machine.execOutputHigh bay s
  | .protectReturn bay => Sys2Proof.Machine.execProtectReturn bay s
  | .phaseFailed bay ph kind => Sys2Proof.Machine.execPhaseFailed bay ph kind s
  | .bayCtrlFence q bay => Sys2Proof.Machine.execBayCtrlFence q bay s
  | .bayCtrlRelease q bay => Sys2Proof.Machine.execBayCtrlRelease q bay s
  | .bayCtrlClearTrip q bay => Sys2Proof.Machine.execBayCtrlClearTrip q bay s
  | .bayRemountGo q bay connect side => Sys2Proof.Machine.execBayRemountGo q bay connect side s
  | .bayDroopWrite q bay th => Sys2Proof.Machine.execBayDroopWrite q bay th s
  | .yrdDroopWrite q yard th => Sys2Proof.Machine.execYrdDroopWrite q yard th s
  | .yrdVidWrite q yard code => Sys2Proof.Machine.execYrdVidWrite q yard code s
  | .yrdLoopWrite q yard data => Sys2Proof.Machine.execYrdLoopWrite q yard data s
  | .samplingInstant yard => Sys2Proof.Machine.execSamplingInstant yard s
  | .errorQueued yard => Sys2Proof.Machine.execErrorQueued yard s
  | .lawJobDispatch lane waitNs => Sys2Proof.Machine.execLawJobDispatch lane waitNs s
  | .lawJobComplete yard residueOk ce ue => Sys2Proof.Machine.execLawJobComplete yard residueOk ce ue s
  | .keelHandover yard => Sys2Proof.Machine.execKeelHandover yard s
  | .keelMiss yard => Sys2Proof.Machine.execKeelMiss yard s
  | .conversionDone cl slice ch code loop => Sys2Proof.Machine.execConversionDone cl slice ch code loop s
  | .windowConfigWrite q cl ch cfg data => Sys2Proof.Machine.execWindowConfigWrite q cl ch cfg data s
  | .scanWeightWrite q cl ch weight => Sys2Proof.Machine.execScanWeightWrite q cl ch weight s
  | .estimatorTurnEnd cl slice sumGnd sumRef skew => Sys2Proof.Machine.execEstimatorTurnEnd cl slice sumGnd sumRef skew s
  | .tempSubstitution cl => Sys2Proof.Machine.execTempSubstitution cl s
  | .sxtUrgGo q cl ch => Sys2Proof.Machine.execSxtUrgGo q cl ch s
  | .urgentStart cl slice waitCycles restart => Sys2Proof.Machine.execUrgentStart cl slice waitCycles restart s
  | .urgentDone cl code => Sys2Proof.Machine.execUrgentDone cl code s
  | .urgentTimeout cl => Sys2Proof.Machine.execUrgentTimeout cl s
  | .streamGo q cl m ctrl => Sys2Proof.Machine.execStreamGo q cl m ctrl s
  | .streamStop q cl m lastSample => Sys2Proof.Machine.execStreamStop q cl m lastSample s
  | .streamBurstWritten cl m samples dropped => Sys2Proof.Machine.execStreamBurstWritten cl m samples dropped s
  | .streamTrigger cl sample => Sys2Proof.Machine.execStreamTrigger cl sample s
  | .sxtMaintWrite q j data => Sys2Proof.Machine.execSxtMaintWrite q j data s
  | .sxtCalZero q cl => Sys2Proof.Machine.execSxtCalZero q cl s
  | .sxtCalFullScale q cl => Sys2Proof.Machine.execSxtCalFullScale q cl s
  | .sxtCalAbort q cl => Sys2Proof.Machine.execSxtCalAbort q cl s
  | .syscalChannelDone cl mean => Sys2Proof.Machine.execSyscalChannelDone cl mean s
  | .syscalRecordWritten cl => Sys2Proof.Machine.execSyscalRecordWritten cl s
  | .syscalTimeout cl => Sys2Proof.Machine.execSyscalTimeout cl s
  | .farSusclrGo q yard points => Sys2Proof.Machine.execFarSusclrGo q yard points s
  | .zpathWindow yard => Sys2Proof.Machine.execZpathWindow yard s
  | .farPlanPeriodic => Sys2Proof.Machine.execFarPlanPeriodic s
  | .farCtrlGo q => Sys2Proof.Machine.execFarCtrlGo q s
  | .farPlanComputed => Sys2Proof.Machine.execFarPlanComputed s
  | .farRecordCommit ok => Sys2Proof.Machine.execFarRecordCommit ok s
  | .lossProbe bay dissipationMw => Sys2Proof.Machine.execLossProbe bay dissipationMw s
  | .pwsReqGo q dom st => Sys2Proof.Machine.execPwsReqGo q dom st s
  | .domainWakePin dom level => Sys2Proof.Machine.execDomainWakePin dom level s
  | .wakeDriverBias dom => Sys2Proof.Machine.execWakeDriverBias dom s
  | .wakeBiasSettle dom => Sys2Proof.Machine.execWakeBiasSettle dom s
  | .slewEnd yard => Sys2Proof.Machine.execSlewEnd yard s
  | .domainReadyInput dom sig level => Sys2Proof.Machine.execDomainReadyInput dom sig level s
  | .pwsWakeTimeout dom => Sys2Proof.Machine.execPwsWakeTimeout dom s
  | .pwsIsoTimeout dom => Sys2Proof.Machine.execPwsIsoTimeout dom s
  | .pwsSaveTimeout dom => Sys2Proof.Machine.execPwsSaveTimeout dom s
  | .pwsRdyLost dom sig => Sys2Proof.Machine.execPwsRdyLost dom sig s
  | .capLoopBoundary overrun => Sys2Proof.Machine.execCapLoopBoundary overrun s
  | .currentLayerEval => Sys2Proof.Machine.execCurrentLayerEval s
  | .capJobBegin q ctx tag => Sys2Proof.Machine.execCapJobBegin q ctx tag s
  | .capJobEnd q ctx tag => Sys2Proof.Machine.execCapJobEnd q ctx tag s
  | .jobRecord => Sys2Proof.Machine.execJobRecord s
  | .attributionIntervalClose yard => Sys2Proof.Machine.execAttributionIntervalClose yard s
  | .attributionRun => Sys2Proof.Machine.execAttributionRun s
  | .settlement => Sys2Proof.Machine.execSettlement s
  | .thermalScan temps => Sys2Proof.Machine.execThermalScan temps s
  | .compensationUpdate diode => Sys2Proof.Machine.execCompensationUpdate diode s
  | .thmProofGo q yard => Sys2Proof.Machine.execThmProofGo q yard s
  | .sensorProofAuto yard => Sys2Proof.Machine.execSensorProofAuto yard s
  | .sensorProofEnd => Sys2Proof.Machine.execSensorProofEnd s
  | .thmPrecondGo q yard target => Sys2Proof.Machine.execThmPrecondGo q yard target s
  | .thmPrecondStop q => Sys2Proof.Machine.execThmPrecondStop q s
  | .warmingLevelStep => Sys2Proof.Machine.execWarmingLevelStep s
  | .thmCold dom => Sys2Proof.Machine.execThmCold dom s
  | .stgRailOnSet q rail => Sys2Proof.Machine.execStgRailOnSet q rail s
  | .stgRailOnClear q rail => Sys2Proof.Machine.execStgRailOnClear q rail s
  | .railDelayEnd rail => Sys2Proof.Machine.execRailDelayEnd rail s
  | .railRampEnd rail => Sys2Proof.Machine.execRailRampEnd rail s
  | .stgVoutWrite q rail code => Sys2Proof.Machine.execStgVoutWrite q rail code s
  | .pgSet rail => Sys2Proof.Machine.execPgSet rail s
  | .stgPgLost rail => Sys2Proof.Machine.execStgPgLost rail s
  | .balUpdate => Sys2Proof.Machine.execBalUpdate s
  | .shortCircuitTrip phase => Sys2Proof.Machine.execShortCircuitTrip phase s
  | .brakeEnter rail => Sys2Proof.Machine.execBrakeEnter rail s
  | .brakeExit rail => Sys2Proof.Machine.execBrakeExit rail s
  | .overloadEval phase => Sys2Proof.Machine.execOverloadEval phase s
  | .hiccup rail => Sys2Proof.Machine.execHiccup rail s
  | .hiccupRestart rail => Sys2Proof.Machine.execHiccupRestart rail s
  | .stgFlt failed => Sys2Proof.Machine.execStgFlt failed s
  | .stgFltStuck => Sys2Proof.Machine.execStgFltStuck s
  | .stgPhclrWrite q data => Sys2Proof.Machine.execStgPhclrWrite q data s
  | .stgIbus => Sys2Proof.Machine.execStgIbus s
  | .stgIbusUv => Sys2Proof.Machine.execStgIbusUv s
  | .ibusRecovery => Sys2Proof.Machine.execIbusRecovery s
  | .pmbusScan found => Sys2Proof.Machine.execPmbusScan found s
  | .pmbScanGo q => Sys2Proof.Machine.execPmbScanGo q s
  | .pmbusPoll n r => Sys2Proof.Machine.execPmbusPoll n r s
  | .pmbAlert addr status => Sys2Proof.Machine.execPmbAlert addr status s
  | .pmbRawGo q word addr cmd => Sys2Proof.Machine.execPmbRawGo q word addr cmd s
  | .pmbRawDone res data => Sys2Proof.Machine.execPmbRawDone res data s
  | .nop c => Sys2Proof.Machine.execNop c s
  | .abort c => Sys2Proof.Machine.execAbort c s
  | .setVid c => Sys2Proof.Machine.execSetVid c s
  | .setLoop c => Sys2Proof.Machine.execSetLoop c s
  | .remount c => Sys2Proof.Machine.execRemount c s
  | .domainState c => Sys2Proof.Machine.execDomainState c s
  | .maint c => Sys2Proof.Machine.execMaint c s
  | .setMode c => Sys2Proof.Machine.execSetMode c s
  | .setCap c => Sys2Proof.Machine.execSetCap c s
  | .job c => Sys2Proof.Machine.execJob c s
  | .bundleLoad c => Sys2Proof.Machine.execBundleLoad c s
  | .capture c => Sys2Proof.Machine.execCapture c s
  | .syscal c => Sys2Proof.Machine.execSyscal c s
  | .farPlan c => Sys2Proof.Machine.execFarPlan c s
  | .farRecord c => Sys2Proof.Machine.execFarRecord c s
  | .logFreeze c => Sys2Proof.Machine.execLogFreeze c s
  | .cmkUslotWrite q n data => Sys2Proof.Machine.execCmkUslotWrite q n data s
  | .tdmStreamGo q t => Sys2Proof.Machine.execTdmStreamGo q t s
  | .tdmStreamStop q t => Sys2Proof.Machine.execTdmStreamStop q t s
  | .descriptorFetchDone t d err => Sys2Proof.Machine.execDescriptorFetchDone t d err s
  | .descriptorPoll t => Sys2Proof.Machine.execDescriptorPoll t s
  | .tdmWriteResponse t err => Sys2Proof.Machine.execTdmWriteResponse t err s
  | .deviceSummary => Sys2Proof.Machine.execDeviceSummary s
  | .fltWire unit kind => Sys2Proof.Machine.execFltWire unit kind s
  | .fltWireClear unit => Sys2Proof.Machine.execFltWireClear unit s
  | .fltPendAck q bits => Sys2Proof.Machine.execFltPendAck q bits s
  | .fltResume q => Sys2Proof.Machine.execFltResume q s
  | .quietPeriodExpiry => Sys2Proof.Machine.execQuietPeriodExpiry s
  | .fltInjSingle q mem => Sys2Proof.Machine.execFltInjSingle q mem s
  | .fltInjDouble q mem => Sys2Proof.Machine.execFltInjDouble q mem s
  | .fltInjRaise q unit code => Sys2Proof.Machine.execFltInjRaise q unit code s
  | .fltInjBreak q unit => Sys2Proof.Machine.execFltInjBreak q unit s
  | .fltInjPinWrite q pin => Sys2Proof.Machine.execFltInjPinWrite q pin s
  | .logRecordProgram => Sys2Proof.Machine.execLogRecordProgram s
  | .logTimeSave => Sys2Proof.Machine.execLogTimeSave s
  | .logTokenRefill => Sys2Proof.Machine.execLogTokenRefill s
  | .logCtrlFreeze q => Sys2Proof.Machine.execLogCtrlFreeze q s
  | .logCtrlRelease q => Sys2Proof.Machine.execLogCtrlRelease q s
  | .logFreezeExpiry => Sys2Proof.Machine.execLogFreezeExpiry s
  | .logRdGo q idx => Sys2Proof.Machine.execLogRdGo q idx s
  | .logEraseRanked q => Sys2Proof.Machine.execLogEraseRanked q s
  | .logEraseAll q => Sys2Proof.Machine.execLogEraseAll q s
  | .logEraseDone => Sys2Proof.Machine.execLogEraseDone s
  | .flsRead q => Sys2Proof.Machine.execFlsRead q s
  | .flsProgram q => Sys2Proof.Machine.execFlsProgram q s
  | .flsErase q => Sys2Proof.Machine.execFlsErase q s
  | .flsVerify q => Sys2Proof.Machine.execFlsVerify q s
  | .flsOpDone err => Sys2Proof.Machine.execFlsOpDone err s
  | .secConfSet q ctx => Sys2Proof.Machine.execSecConfSet q ctx s
  | .secConfClear q ctx => Sys2Proof.Machine.execSecConfClear q ctx s
  | .scrub => Sys2Proof.Machine.execScrub s
  | .tbValidReturn => Sys2Proof.Machine.execTbValidReturn s
  | .soAck => Sys2Proof.Machine.execSoAck s
  | .phaseFire rail => Sys2Proof.Machine.execPhaseFire rail s
  | .pulseEnd phase => Sys2Proof.Machine.execPulseEnd phase s
  | .registerRead r => Sys2Proof.Machine.execRegisterRead r s

end Sys2Proof.Machine
end

