-- ==== Sys2Proof/WellFormed.lean ====
section
/-!
DEFINITION. Which commands are well formed: each number lies in the range its unit or its field has. `exec` needs no such
premise: a command that names an absent unit has no effect (DEDUCED, assumption log 3).
-/

namespace Sys2Proof

/-- Only the register port carries a stamp (R35). -/
def Requester.wf (q : Requester) : Bool := q.port == .rp || q.stamp == 0

/-- A committed command names a slot of its window. -/
def Cmd.wf (c : Cmd) : Bool :=
  decide (c.slot < (match c.win with | .cmd => 16 | .cmk => 16 | .cmu => 64))

/-- Every number of a command lies in its range. -/
def Instr.wf : Instr → Bool
  | .powerOnReset _ _ _ => true
  | .aonDetectorTrip => true
  | .deadSlowEntry => true
  | .imageReadEnd _ => true
  | .rollCall _ _ => true
  | .wayOnTransition => true
  | .logScan => true
  | .pllLock => true
  | .pllUnlock _ => true
  | .pllRelock => true
  | .glbResetControlPlane q => q.wf
  | .controlPlaneResetEnd => true
  | .glbResetBlock q _ => q.wf
  | .helmPairFailure _ => true
  | .serviceCoreFailure core _ => decide (core < 2)
  | .registerWrite _ => true
  | .mpPrivateWrite _ => true
  | .mpPrivateRead => true
  | .i3cDynamicAddress _ _ => true
  | .i3cDisecEnec _ => true
  | .ibiRaise _ => true
  | .otAccessUpdate _ => true
  | .prtH2mWrite q idx _ => q.wf && decide (idx < 32)
  | .pgUnlock q page => q.wf && decide (page < 0x6B)
  | .pgLock q page => q.wf && decide (page < 0x6B)
  | .xrecUnlock q region page => q.wf && decide (region < 3) && decide (page < 20)
  | .xrecLock q region page => q.wf && decide (region < 3) && decide (page < 20)
  | .pilotNotice _ => true
  | .collBegin _ => true
  | .collEnd _ => true
  | .holdAck _ => true
  | .collectiveOpen k => decide (k < 16)
  | .collectiveClose k => decide (k < 16)
  | .ownershipChange yard => decide (yard < Config.yardCount)
  | .capYownWrite q j _ => q.wf && decide (j < 32)
  | .gatherEnd yard => decide (yard < Config.yardCount)
  | .coolEnd yard => decide (yard < Config.yardCount)
  | .inferenceDispatch => true
  | .forecastComplete _ => true
  | .presetApply yard => decide (yard < Config.yardCount)
  | .presetHorizon yard => decide (yard < Config.yardCount)
  | .presetEnd yard => decide (yard < Config.yardCount)
  | .preraiseEnd yard => decide (yard < Config.yardCount)
  | .dreLoadGo q slot src => q.wf && decide (slot < 8) && decide (src < 3)
  | .bundleFetchDone _ _ => true
  | .dreCtrlRunWrite q _ => q.wf
  | .activityRecord yard _ => decide (yard < Config.yardCount)
  | .activityTick => true
  | .tbStrobe _ _ => true
  | .tbValidLoss => true
  | .speedOrderPlace => true
  | .soDone yard => decide (yard < Config.yardCount)
  | .soTimeout => true
  | .vfWaitExpiry yard => decide (yard < Config.yardCount)
  | .hostNoticeTaken => true
  | .ccpEpochMessage _ => true
  | .ccpCancel _ => true
  | .epochApply => true
  | .superframe seg => decide (seg < Config.segments)
  | .sync seg _ _ _ => decide (seg < Config.segments)
  | .syncLost bay _ => decide (bay < Config.bayCount)
  | .sharingApply bay _ => decide (bay < Config.bayCount)
  | .trim seg yard _ _ => decide (seg < Config.segments) && decide (yard < 128)
  | .setpoint seg yard code slew _ => decide (seg < Config.segments) && decide (yard < 128) && decide (code < 1024) && decide (slew < 16)
  | .preset seg yard prebias _ => decide (seg < Config.segments) && decide (yard < 128) && decide (prebias < 32)
  | .add seg slot _ _ _ => decide (seg < Config.segments) && decide (slot < 80)
  | .shedPrep seg slot _ _ _ => decide (seg < Config.segments) && decide (slot < 80)
  | .cancel seg slot _ _ _ => decide (seg < Config.segments) && decide (slot < 80)
  | .clearTrip seg slot _ _ _ => decide (seg < Config.segments) && decide (slot < 80)
  | .bayStateOff seg slot _ => decide (seg < Config.segments) && decide (slot < 80)
  | .bayStateReady seg slot _ => decide (seg < Config.segments) && decide (slot < 80)
  | .bayStateRun seg slot _ => decide (seg < Config.segments) && decide (slot < 80)
  | .bayStateHeat seg slot _ => decide (seg < Config.segments) && decide (slot < 80)
  | .bayStateFence seg slot _ => decide (seg < Config.segments) && decide (slot < 80)
  | .bayStateRelease seg slot _ => decide (seg < Config.segments) && decide (slot < 80)
  | .remountConnect seg slot _ _ => decide (seg < Config.segments) && decide (slot < 80)
  | .remountDisconnect seg slot _ _ => decide (seg < Config.segments) && decide (slot < 80)
  | .remountConnectStep bay _ => decide (bay < Config.bayCount)
  | .remountDisconnectStep bay => decide (bay < Config.bayCount)
  | .cfgWr seg slot reg _ _ => decide (seg < Config.segments) && decide (slot < 80) && decide (reg < 32)
  | .cfgRd seg slot reg _ => decide (seg < Config.segments) && decide (slot < 80) && decide (reg < 32)
  | .currentReport seg _ _ => decide (seg < Config.segments)
  | .event seg slot _ => decide (seg < Config.segments) && decide (slot < 80)
  | .rdRsp seg slot _ => decide (seg < Config.segments) && decide (slot < 80)
  | .fbbSegment seg => decide (seg < Config.segments)
  | .holdReqTimeout yard => decide (yard < Config.yardCount)
  | .tripHoldEnd yard => decide (yard < Config.yardCount)
  | .autoClearTrip bay _ => decide (bay < Config.bayCount)
  | .phaseCountDecision yard => decide (yard < Config.yardCount)
  | .sharingJob bay lane _ => decide (bay < Config.bayCount) && decide (lane < 24)
  | .sharingDeadlineMiss bay => decide (bay < Config.bayCount)
  | .supervisionJob yard lane _ => decide (yard < Config.yardCount) && decide (lane < 24)
  | .droopTrip bay => decide (bay < Config.bayCount)
  | .droopClear bay => decide (bay < Config.bayCount)
  | .allHandsEnd bay => decide (bay < Config.bayCount)
  | .shedStop bay _ => decide (bay < Config.bayCount)
  | .phaseCold bay _ => decide (bay < Config.bayCount)
  | .tripped bay _ => decide (bay < Config.bayCount)
  | .bayOverload bay => decide (bay < Config.bayCount)
  | .inputLow bay => decide (bay < Config.bayCount)
  | .outputHigh bay => decide (bay < Config.bayCount)
  | .protectReturn bay => decide (bay < Config.bayCount)
  | .phaseFailed bay _ _ => decide (bay < Config.bayCount)
  | .bayCtrlFence q bay => q.wf && decide (bay < Config.bayCount)
  | .bayCtrlRelease q bay => q.wf && decide (bay < Config.bayCount)
  | .bayCtrlClearTrip q bay => q.wf && decide (bay < Config.bayCount)
  | .bayRemountGo q bay _ _ => q.wf && decide (bay < Config.bayCount)
  | .bayDroopWrite q bay th => q.wf && decide (bay < Config.bayCount) && decide (th < 64)
  | .yrdDroopWrite q yard th => q.wf && decide (yard < Config.yardCount) && decide (th < 64)
  | .yrdVidWrite q yard code => q.wf && decide (yard < Config.yardCount) && decide (code < 1024)
  | .yrdLoopWrite q yard _ => q.wf && decide (yard < Config.yardCount)
  | .samplingInstant yard => decide (yard < Config.yardCount)
  | .errorQueued yard => decide (yard < Config.yardCount)
  | .lawJobDispatch lane _ => decide (lane < 24)
  | .lawJobComplete yard _ _ _ => decide (yard < Config.yardCount)
  | .keelHandover yard => decide (yard < Config.yardCount)
  | .keelMiss yard => decide (yard < Config.yardCount)
  | .conversionDone cl slice ch _ _ => decide (cl < Config.clusterCount) && decide (slice < 5) && decide (ch < 36)
  | .windowConfigWrite q cl ch _ _ => q.wf && decide (cl < Config.clusterCount) && decide (ch < 36)
  | .scanWeightWrite q cl ch weight => q.wf && decide (cl < Config.clusterCount) && decide (ch < 36) && decide (weight < 128)
  | .estimatorTurnEnd cl slice _ _ _ => decide (cl < Config.clusterCount) && decide (slice < 5)
  | .tempSubstitution cl => decide (cl < Config.clusterCount)
  | .sxtUrgGo q cl ch => q.wf && decide (cl < Config.clusterCount) && decide (ch < 64)
  | .urgentStart cl slice _ _ => decide (cl < Config.clusterCount) && decide (slice < 5)
  | .urgentDone cl _ => decide (cl < Config.clusterCount)
  | .urgentTimeout cl => decide (cl < Config.clusterCount)
  | .streamGo q cl m _ => q.wf && decide (cl < Config.clusterCount) && decide (m < 2)
  | .streamStop q cl m _ => q.wf && decide (cl < Config.clusterCount) && decide (m < 2)
  | .streamBurstWritten cl m _ _ => decide (cl < Config.clusterCount) && decide (m < 2)
  | .streamTrigger cl _ => decide (cl < Config.clusterCount)
  | .sxtMaintWrite q j _ => q.wf && decide (j < 4)
  | .sxtCalZero q cl => q.wf && decide (cl < Config.clusterCount)
  | .sxtCalFullScale q cl => q.wf && decide (cl < Config.clusterCount)
  | .sxtCalAbort q cl => q.wf && decide (cl < Config.clusterCount)
  | .syscalChannelDone cl _ => decide (cl < Config.clusterCount)
  | .syscalRecordWritten cl => decide (cl < Config.clusterCount)
  | .syscalTimeout cl => decide (cl < Config.clusterCount)
  | .farSusclrGo q yard _ => q.wf && decide (yard < 128)
  | .zpathWindow yard => decide (yard < Config.yardCount)
  | .farPlanPeriodic => true
  | .farCtrlGo q => q.wf
  | .farPlanComputed => true
  | .farRecordCommit _ => true
  | .lossProbe bay _ => decide (bay < Config.bayCount)
  | .pwsReqGo q dom st => q.wf && decide (dom < 128) && decide (st < 8)
  | .domainWakePin dom _ => decide (dom < Config.yardCount)
  | .wakeDriverBias dom => decide (dom < Config.yardCount)
  | .wakeBiasSettle dom => decide (dom < Config.yardCount)
  | .slewEnd yard => decide (yard < Config.yardCount)
  | .domainReadyInput dom _ _ => decide (dom < Config.yardCount)
  | .pwsWakeTimeout dom => decide (dom < Config.yardCount)
  | .pwsIsoTimeout dom => decide (dom < Config.yardCount)
  | .pwsSaveTimeout dom => decide (dom < Config.yardCount)
  | .pwsRdyLost dom _ => decide (dom < Config.yardCount)
  | .capLoopBoundary _ => true
  | .currentLayerEval => true
  | .capJobBegin q ctx tag => q.wf && decide (ctx < Config.contexts) && decide (tag < 32768)
  | .capJobEnd q ctx tag => q.wf && decide (ctx < Config.contexts) && decide (tag < 32768)
  | .jobRecord => true
  | .attributionIntervalClose yard => decide (yard < Config.yardCount)
  | .attributionRun => true
  | .settlement => true
  | .thermalScan _ => true
  | .compensationUpdate _ => true
  | .thmProofGo q yard => q.wf && decide (yard < 128)
  | .sensorProofAuto yard => decide (yard < Config.yardCount)
  | .sensorProofEnd => true
  | .thmPrecondGo q yard target => q.wf && decide (yard < Config.yardCount) && decide (target < 128)
  | .thmPrecondStop q => q.wf
  | .warmingLevelStep => true
  | .thmCold dom => decide (dom < Config.yardCount)
  | .stgRailOnSet q rail => q.wf && decide (rail < 2)
  | .stgRailOnClear q rail => q.wf && decide (rail < 2)
  | .railDelayEnd rail => decide (rail < 2)
  | .railRampEnd rail => decide (rail < 2)
  | .stgVoutWrite q rail code => q.wf && decide (rail < 2) && decide (code < 1024)
  | .pgSet rail => decide (rail < 2)
  | .stgPgLost rail => decide (rail < 2)
  | .balUpdate => true
  | .shortCircuitTrip phase => decide (phase < Config.stagePhases)
  | .brakeEnter rail => decide (rail < 2)
  | .brakeExit rail => decide (rail < 2)
  | .overloadEval phase => decide (phase < Config.stagePhases)
  | .hiccup rail => decide (rail < 2)
  | .hiccupRestart rail => decide (rail < 2)
  | .stgFlt _ => true
  | .stgFltStuck => true
  | .stgPhclrWrite q _ => q.wf
  | .stgIbus => true
  | .stgIbusUv => true
  | .ibusRecovery => true
  | .pmbusScan _ => true
  | .pmbScanGo q => q.wf
  | .pmbusPoll n _ => decide (n < 16)
  | .pmbAlert addr _ => decide (addr < 128)
  | .pmbRawGo q _ addr _ => q.wf && decide (addr < 128)
  | .pmbRawDone _ _ => true
  | .nop c => c.wf
  | .abort c => c.wf
  | .setVid c => c.wf
  | .setLoop c => c.wf
  | .remount c => c.wf
  | .domainState c => c.wf
  | .maint c => c.wf
  | .setMode c => c.wf
  | .setCap c => c.wf
  | .job c => c.wf
  | .bundleLoad c => c.wf
  | .capture c => c.wf
  | .syscal c => c.wf
  | .farPlan c => c.wf
  | .farRecord c => c.wf
  | .logFreeze c => c.wf
  | .cmkUslotWrite q n _ => q.wf && decide (n < 64)
  | .tdmStreamGo q t => q.wf && decide (t < 3)
  | .tdmStreamStop q t => q.wf && decide (t < 3)
  | .descriptorFetchDone t _ _ => decide (t < 3)
  | .descriptorPoll t => decide (t < 3)
  | .tdmWriteResponse t _ => decide (t < 3)
  | .deviceSummary => true
  | .fltWire unit kind => decide (unit < 80) && decide (kind < 4)
  | .fltWireClear unit => decide (unit < 80)
  | .fltPendAck q _ => q.wf
  | .fltResume q => q.wf
  | .quietPeriodExpiry => true
  | .fltInjSingle q mem => q.wf && decide (mem < 16)
  | .fltInjDouble q mem => q.wf && decide (mem < 16)
  | .fltInjRaise q unit code => q.wf && decide (unit < 256) && decide (code < 128)
  | .fltInjBreak q unit => q.wf && decide (unit < 256)
  | .fltInjPinWrite q pin => q.wf && decide (pin < 4)
  | .logRecordProgram => true
  | .logTimeSave => true
  | .logTokenRefill => true
  | .logCtrlFreeze q => q.wf
  | .logCtrlRelease q => q.wf
  | .logFreezeExpiry => true
  | .logRdGo q _ => q.wf
  | .logEraseRanked q => q.wf
  | .logEraseAll q => q.wf
  | .logEraseDone => true
  | .flsRead q => q.wf
  | .flsProgram q => q.wf
  | .flsErase q => q.wf
  | .flsVerify q => q.wf
  | .flsOpDone _ => true
  | .secConfSet q ctx => q.wf && decide (ctx < Config.contexts)
  | .secConfClear q ctx => q.wf && decide (ctx < Config.contexts)
  | .scrub => true
  | .tbValidReturn => true
  | .soAck => true
  | .phaseFire rail => decide (rail < 2)
  | .pulseEnd phase => decide (phase < Config.stagePhases)
  | .registerRead _ => true

end Sys2Proof
end

