-- ==== Sys2Proof/Safety.lean ====
section
/-!
DEFINITION. What a sound state is, in the terms statements use: every table of State in its canonical form, the wires
that follow the state, and what two states have in common.
-/

namespace Sys2Proof.Machine

/-- Registers, units, collectives, token buckets and memories are each held in canonical form: keys strictly rising, no entry equal to
its default. -/
structure State.Canonical (s : State) : Prop where
  regs : Tab.wf resetWord s.regs = true
  bays : Tab.wf bayInit s.bays = true
  yards : Tab.wf (fun _ => ({} : Yard)) s.yards = true
  doms : Tab.wf (fun _ => ({} : Dom)) s.doms = true
  clusters : Tab.wf (fun _ => ({} : Cluster)) s.clusters = true
  rails : Tab.wf (fun _ => ({} : Rail)) s.rails = true
  phases : Tab.wf (fun _ => ({} : BPhase)) s.phases = true
  ctxs : Tab.wf (fun _ => ({} : Ctx)) s.ctxs = true
  tdm : Tab.wf (fun _ => ({} : Tdm)) s.tdm = true
  colls : Tab.wf (fun _ => (none : Option Coll)) s.colls = true
  tokens : Tab.wf (fun _ => 64) s.tokens = true
  flash : Tab.wf (fun _ => (0xFF : Byte)) s.flash = true
  store : Tab.wf (fun _ => (0 : Byte)) s.store = true
  capram : Tab.wf (fun _ => (0 : Byte)) s.capram = true
  boot : Tab.wf (fun _ => (0xFF : Byte)) s.boot = true

/-- Every waiting command is well formed. -/
def State.PendingOk (s : State) : Prop := ∀ c ∈ s.pending, c.wf = true

/-- The wires follow the state: FLT_STATUS.F_ASSERT reads 1 while a class F source asserts (R381), and FLT_STATUS.PIN is the
level of the OT_FLT pair (R379). -/
abbrev State.Wired (s : State) : Prop :=
  s.get FLT_STATUS.F_ASSERT = (if s.assertF = [] then 0 else 1) ∧ s.get FLT_STATUS.PIN = s.fltPair

/-- Every register outside a list reads in t as in s, but for the wires: PIN and F_ASSERT of FLT_STATUS, and bit 0 of
PRT_MP.IBI_PEND, which a change of the pair sets (R321). -/
def State.KeepsRegs (s t : State) (l : List Nat) : Prop :=
  ∀ a, a ∉ l →
    if a = FLT_STATUS.reg.addr then t.word a &&& 0xFFFFFFCD = s.word a &&& 0xFFFFFFCD
    else if a = PRT_MP.reg.addr then t.word a &&& 0xFFFEFFFF = s.word a &&& 0xFFFEFFFF
    else t.word a = s.word a

/-- The pages that the fault collector may write: the page of the port that interrupts, the command windows, whose unstarted
commands a holding course ends, the confidential state's, which may end with them, the collector's own, the logbook's and the telemetry's
(R321, R373, R380, R394, R405). -/
def faultPages : List Nat := [2, 3, 4, 5, 0xC, 0xD, 0xE, 0x10]

/-- The pages of the yards' records (R415). -/
def yardPages : List Nat := (List.range 6).map fun k => 0x20 + k

/-- The pages of the coefficient store (R415). -/
def coefPages : List Nat := (List.range 8).map fun k => 0x40 + k

/-- The pages of the Sextant and of its clusters (R415). -/
def sextantPages : List Nat := (List.range 27).map fun k => 0x50 + k

/-- The pages that the loss of a domain may write besides: its order's and its state's, its yard's owner, the streams and scrubs
that end with a confidential context, the yard's fencing, the rails it held up, the yards' records (R257, R296, R301, R405). -/
def lossPages : List Nat :=
  [9, 0xA, 0xF, 0x11] ++ faultPages ++ yardPages ++ sextantPages

/-- Every register outside a list of pages and a list of addresses reads in t as in s. -/
def State.KeepsPages (s t : State) (pages l : List Nat) : Prop := ∀ a, a / 0x1000 ∉ pages → a ∉ l → t.word a = s.word a

/-- Every byte of flash, of the model store and of capture RAM reads in t as in s. -/
def State.KeepsMem (s t : State) : Prop :=
  ∀ a, t.flashAt a = s.flashAt a ∧ t.storeAt a = s.storeAt a ∧ t.capAt a = s.capAt a

/-- Every bay, yard, domain, Sextant cluster, rail, stage phase, context and telemetry stream is in t as in s. -/
def State.KeepsUnits (s t : State) : Prop :=
  ∀ k, t.bay k = s.bay k ∧ t.yard k = s.yard k ∧ t.dom k = s.dom k ∧ t.cluster k = s.cluster k ∧ t.rail k = s.rail k
    ∧ t.phase k = s.phase k ∧ t.ctx k = s.ctx k ∧ t.stream k = s.stream k

/-- A requester's write reaches the registers at an address: no control-plane reset runs (R319), the debug port is not shut
(R408), Oteus holds no course or the requester is MGMT (R380), and the class may write there (R314). -/
abbrev State.Takes (s : State) (q : Requester) (a : Nat) : Prop :=
  s.cpReset = false ∧ (q.port = .dbg → s.active = false) ∧ (q.port ≠ .mp → s.holding = false) ∧ mayWriteAt (clsOf q) a = true

/-- No check error stands in the word of the record memories that holds a register (R384, R385). -/
abbrev State.RecordSound (s : State) (a : Nat) : Prop := (memoryOf a).all (fun p => (s.memError p.1 p.2).isNone) = true

/-- A request of the management port is held (R319, R320). -/
def State.requestHeld (s : State) : Bool :=
  match s.mp with
  | .pending _ => true
  | _ => false

/-! ### Commands in slots (R322-R328) -/

/-- A command's slot takes it and its sequence is due (R323-R325): a core serves, the writes reach the slot, no command runs in it, a CMU slot is
enabled, and SEQ follows LAST; a CMD or CMK slot is the one SEQ names. -/
abbrev State.Commits (s : State) (c : Cmd) : Prop :=
  c.slot < slotCount c.win ∧ s.cpReset = false ∧ s.taking = false ∧ mayWriteAt (clsOf c.q) (slotBase c.win c.slot) = true
    ∧ s.slotBusy c.win c.slot = false ∧ (c.win = .cmu → s.on (CMK_USLOT.EN c.slot) = true)
    ∧ c.seq = s.word (lastAddr c.win c.slot) + 1 ∧ (c.win = .cmu ∨ c.slot = c.seq.toNat % 16)

/-- The tag of a command. -/
def cmdTagOf (c : Cmd) : CmdTag := ⟨c.win, c.slot, c.seq⟩

/-- The journal entry that a command of an opcode makes at its commit (R332). -/
def State.cmdEntry (s : State) (opcode : Nat) (c : Cmd) : Entry :=
  { win := c.win, slot := c.slot, seq := c.seq, opcode := opcode, flags := BitVec.ofNat 8 (c.flags.toNat % 4), tag := c.tag
    ops := [c.op0, c.op1, c.op2, c.op3, c.op4], state := .accepted, status := stAccepted, result := 0, at_ := s.sysTime
    recSent := false, late := false }

/-- The counter of a window's refusals (R327). -/
def refusedCounter : Window → Fld
  | .cmd => ⟨0x3E04, 0, 32⟩
  | .cmk => ⟨0x4E04, 0, 32⟩
  | .cmu => CMK_CNT_USER_REFUSED.COUNT

/-- The registers that any command may change: its slot, LAST, its window's counters and events, the in-band interrupt, the record
stream's lost count, and an injection that its journal word met (R324, R327, R341, R383). -/
def commandRegs (c : Cmd) : List Nat :=
  (List.range 16).map (fun k => slotBase c.win c.slot + 4 * k)
    ++ [lastAddr c.win c.slot, (acceptCounter c.win).addr, (refusedCounter c.win).addr, (refusedCounter c.win).addr + 4, winPage c.win + 0x14,
      PRT_MP.reg.addr, (TDM_STR_LOST.COUNT 0).addr, pgTDM + 0x14, FLT_INJ.reg.addr]

/-- A command stands in t with a status and a result: in its slot, in LAST, and in its journal entry (R324, R325, R332). -/
abbrev State.Shows (t : State) (c : Cmd) (status : Nat) (result : Nat) : Prop :=
  t.word (slotBase c.win c.slot + 0x30) = BitVec.ofNat 32 status ∧ t.word (slotBase c.win c.slot + 0x34) = BitVec.ofNat 32 result
    ∧ t.word (lastAddr c.win c.slot) = c.seq
    ∧ (t.entry (cmdTagOf c)).map (fun e => (e.status, e.result)) = some (status, BitVec.ofNat 32 result)

/-- An accepted command shows ACCEPTED while it runs, and its journal entry is started (R324, R326). -/
abbrev State.Runs (t : State) (c : Cmd) : Prop :=
  t.word (slotBase c.win c.slot + 0x30) = BitVec.ofNat 32 stAccepted ∧ t.word (lastAddr c.win c.slot) = c.seq
    ∧ (t.entry (cmdTagOf c)).map (fun e => (e.state, e.status)) = some (.started 1, stAccepted)

/-- Bays, yards, domains, clusters, rails, phases and contexts are in t as in s. -/
def State.KeepsPlant (s t : State) : Prop :=
  ∀ k, t.bay k = s.bay k ∧ t.yard k = s.yard k ∧ t.dom k = s.dom k ∧ t.cluster k = s.cluster k ∧ t.rail k = s.rail k
    ∧ t.phase k = s.phase k ∧ t.ctx k = s.ctx k

/-- The commands written through slots, with their opcodes (R328). -/
def commandRows : List ((Cmd → Instr) × Nat) :=
  [(.nop, 0), (.abort, 1), (.setVid, 0x100), (.setLoop, 0x101), (.remount, 0x102), (.domainState, 0x200), (.maint, 0x201),
    (.setMode, 0x300), (.setCap, 0x301), (.job, 0x302), (.bundleLoad, 0x400), (.capture, 0x401), (.syscal, 0x402),
    (.farPlan, 0x500), (.farRecord, 0x501), (.logFreeze, 0x600)]

end Sys2Proof.Machine
end

