-- ==== Sys2Proof/Certificates/Slice0/Obligations.lean ====
section
/-!
DEFINITION. The statements for the provers: what the rules of spec/ say that the commands do, as propositions about
`exec`, `step` and State.
-/

open Sys2Proof Sys2Proof.Machine

/-- For every command c, every queue rest and every state s, the step of s with c in front of rest is exec of c on s with
the queue rest. The queue is the model's choice (assumption log 1). Rests on spec/00_scope.md (commands come from
outside), R323. -/
def Obligations.StepExecutesFrontCommand : Prop :=
  ∀ (c : Instr) (rest : List Instr) (s : State), step { s with pending := c :: rest } = exec c { s with pending := rest }

/-- From every state with an empty queue, step answers a next state with an empty queue in which the elapsed time (half
nanoseconds) has grown by 5 on the PLL and by 80 on the backup oscillator. On the backup oscillator system time grows
by 40 ns, modulo 2^64. That a step on an empty queue is one such cycle is the model's choice (assumption log 1). Rests
on R24, R38. -/
def Obligations.IdleStepPassesOneCycle : Prop :=
  ∀ s : State, s.pending = [] →
  ∃ t, step s = .next t ∧ t.pending = [] ∧ t.mono = s.mono + (if s.onPll then 5 else 80)
    ∧ (s.onPll = false → t.sysTime = (s.sysTime + 40) % 2 ^ 64)
    ∧ (s.onPll = true → t.sysTime = if s.sysHalf then (s.sysTime + 5) % 2 ^ 64 else s.sysTime)

/-- For every command c and every state s, exec c s answers a next state, and its queue is the queue of s. That no command
of the table ends in a fault or a refusal is the model's reading (assumption log 37); the queue is the model's choice
(assumption log 1). Rests on spec/00_scope.md (commands come from outside). -/
def Obligations.EveryCommandCompletesAndKeepsTheQueue : Prop :=
  ∀ (c : Instr) (s : State), ∃ t, exec c s = .next t ∧ t.pending = s.pending

/-- For every state s, whatever it holds: if step s answers a next state t, then in t FLT_STATUS.F_ASSERT is 1 exactly
while a class F source asserts (0 otherwise), and FLT_STATUS.PIN is the level the pair takes: both low, both high or
fault while FLT_INJ_PIN asks for it, else fault (2) before dead-slow service, during a block reset, while HOLD reads 1
or FLT_PEND.K or FLT_PEND.F is set, else normal (1). That the wires settle within the command is the model's choice
(assumption log 1). Rests on R379, R381. -/
def Obligations.EveryStepSettlesTheFaultWires : Prop :=
  ∀ s t : State, step s = .next t →
  t.get FLT_STATUS.F_ASSERT = (if t.assertF = [] then 0 else 1) ∧
  t.get FLT_STATUS.PIN =
    (if t.get FLT_INJ_PIN.PIN = 1 then 0 else if t.get FLT_INJ_PIN.PIN = 2 then 3 else if t.get FLT_INJ_PIN.PIN = 3 then 2
     else if t.get GLB_SERVICE.STATE = 0 ∨ t.blkReset = true ∨ t.get FLT_STATUS.HOLD ≠ 0 ∨ t.get FLT_PEND.K ≠ 0 ∨ t.get FLT_PEND.F ≠ 0
     then 2 else 1)

/-- State.reset holds every table in canonical form, its wires follow the fault state, its queue is empty; GLB_SERVICE
reads STATE 0 and LAST_RESET 2, CLK_STATUS reads SOURCE 0 and PRT_MP.IBI_EN reads 1. What holds no reset value in the
spec is the model's choice (assumption log 35). Rests on R349, R368, R426. -/
def Obligations.ResetStateMeetsTheInvariants : Prop :=
  State.reset.Canonical ∧ State.reset.Wired ∧ State.reset.pending = [] ∧ State.reset.get GLB_SERVICE.STATE = 0
  ∧ State.reset.get GLB_SERVICE.LAST_RESET = 2 ∧ State.reset.get CLK_STATUS.SOURCE = 0 ∧ State.reset.get PRT_MP.IBI_EN = 1

/-- POWER_ON_RESET from either detector or from a low pulse of 2 us or more leaves STATE BOOT, the clocks on the backup
oscillator and the queue; it keeps the trip latch but for VDD_AON, which clears it; a pulse below 1 us changes
nothing. AON_DETECTOR_TRIP clears THM_STATUS.TRIP and THM_TRIP_SRC and ends the assertion of THM_TRIP, and changes no
other register, unit or memory. GLB_RESET with KIND 1, with no reset running, starts a control-plane reset: LAST_RESET
0, HLM_STATUS 0, record unlocks withdrawn; bays, yards, domains, clusters, rails, phases, contexts and memories stay.
Its end, with every command of the journal final or held by its engine (which ignores the order reissued), no outcome
kept, no commit latched, no request held, the trip latch clear and no error injected into the journal, leaves the
journal and restores each CMD slot's STATUS from it. GLB_RESET with KIND 2 by MGMT with every domain at rest in D4
leaves STATE 0, LAST_RESET 1 and SOURCE 0. What a control-plane or block reset keeps beyond the rules' words
(assumption log 31), the inputs GLB_RESET_BLOCK carries and when journal errors are found (33), and the one step of a
command, whose reissue meets its engine's tag or a kept outcome (39), are the model's reading. Rests on R48, R49,
R319, R333, R335, R364, R365, R284, R368, R425, R426, R349. -/
def Obligations.ResetsDoWhatTheyStopAndKeep : Prop :=
  (∀ src lowNs i (s : State),
      (src ≠ .porstN ∨ 2000 ≤ lowNs) →
      ∃ t, exec (.powerOnReset src lowNs i) s = .next t ∧
        t.pending = s.pending ∧
        t.get GLB_SERVICE.STATE = 0 ∧
        t.get CLK_STATUS.SOURCE = 0 ∧
        (t.get THM_STATUS.TRIP = (if src = .vddAon then 0 else s.get THM_STATUS.TRIP)) ∧
        (src ≠ .vddAon → s.get THM_STATUS.TRIP = 1 → t.get THM_TRIP_SRC.reg = s.get THM_TRIP_SRC.reg)) ∧
  (∀ lowNs i (s : State),
      lowNs < 1000 →
      ∃ t, exec (.powerOnReset .porstN lowNs i) s = .next t ∧
        s.KeepsRegs t [] ∧
        s.KeepsMem t ∧
        s.KeepsUnits t) ∧
  (∀ (s : State),
      ∃ t, exec (.aonDetectorTrip) s = .next t ∧
        t.get THM_STATUS.TRIP = 0 ∧
        t.get THM_TRIP_SRC.reg = 0 ∧
        0x2C ∉ t.assertF ∧
        s.KeepsRegs t [THM_STATUS.reg.addr, THM_TRIP_SRC.reg.addr] ∧
        s.KeepsMem t ∧
        s.KeepsUnits t) ∧
  (∀ q (s : State),
      s.Takes q GLB_RESET.KEY.addr →
      s.resetRuns = 0 →
      ∃ t, exec (.glbResetControlPlane q) s = .next t ∧
        t.cpReset = true ∧
        t.get GLB_SERVICE.LAST_RESET = 0 ∧
        t.get HLM_STATUS.reg = 0 ∧
        t.get GLB_XREC_YRD.PAGE = 0 ∧
        t.get GLB_XREC_BAY.PAGE = 0 ∧
        t.get GLB_XREC_COEF.PAGE = 0 ∧
        t.bays = s.bays ∧
        t.yards = s.yards ∧
        t.doms = s.doms ∧
        t.clusters = s.clusters ∧
        t.rails = s.rails ∧
        t.phases = s.phases ∧
        t.ctxs = s.ctxs ∧
        (s.KeepsPages t faultPages (headerPages.map (fun p => p * 0x1000 + 0xC) ++ [GLB_SERVICE.reg.addr, HLM_STATUS.reg.addr, GLB_XREC_YRD.PAGE.addr, GLB_XREC_BAY.PAGE.addr, GLB_XREC_COEF.PAGE.addr])) ∧
        s.KeepsMem t) ∧
  (∀ (s : State),
      s.cpReset = true →
      s.get THM_STATUS.TRIP = 0 →
      (∀ e ∈ s.journal, e.isFinal = true ∨ e.state ≠ .accepted ∧ e.cmdTag ∈ s.engineTags) →
      s.kept = [] →
      s.latched = [] →
      s.requestHeld = false →
      s.dbgHeld = none →
      (∀ e ∈ s.armedErr, e.1 ≠ 4) →
      ∃ t, exec (.controlPlaneResetEnd) s = .next t ∧
        t.cpReset = false ∧
        t.journal = s.journal ∧
        (∀ k < 16, ∀ e, (s.journal.find? fun e => decide (e.win = .cmd ∧ e.slot = k)) = some e →
          t.word (0x3400 + 0x40 * k + 0x30) = BitVec.ofNat 32 e.status) ∧
        (∀ k < 16, (s.journal.find? fun e => decide (e.win = .cmd ∧ e.slot = k)).isNone = true → t.word (0x3400 + 0x40 * k + 0x30) = 0)) ∧
  (∀ q i (s : State),
      s.Takes q GLB_RESET.KEY.addr →
      clsOf q = .mgmt →
      s.resetRuns ≠ 2 →
      s.allOff = true →
      ∃ t, exec (.glbResetBlock q i) s = .next t ∧
        t.get GLB_SERVICE.STATE = 0 ∧
        t.get GLB_SERVICE.LAST_RESET = 1 ∧
        t.get CLK_STATUS.SOURCE = 0)

/-- DEAD_SLOW_ENTRY in BOOT with no block reset and no class F fault outstanding sets GLB_SERVICE.STATE to 1.
IMAGE_READ_END, once per start, before way-on and with no error injected into instruction RAM, puts the result of
verifying the header and image that the start loaded, not what flash holds since, into FW_RESULT, and keeps a valid
image's version; no unit or memory changes. ROLL_CALL with the rails good, every bay answering within 28 ns and every
yard above its minimum gives each fitted bay the equalising delay of its round trip and changes no register.
WAY_ON_TRANSITION in dead-slow service with a valid image, the PLL locked for 10 ms and no class F fault outstanding
(no command waiting to start, no domain to wake again) ends in STATE 3 with the clocks on the PLL, the image's version
in HLM_FW_VER and the DRE running; after a loss of the PLL whose return a fault held back it ends in STATE 3 on the
PLL. One command for the whole transition, the held-back return through it, and what counts as an outstanding class F
fault are the model's reading (assumption log 33). So are the byte 0xFF of flash that nothing wrote (9) and the round
trips that the repeat of item 3 of R360 finds (39). Rests on R26, R349, R352, R355, R360, R361, R363, R366, R367,
R368, R426, R155. -/
def Obligations.StartUpReachesWayOn : Prop :=
  (∀ (s : State),
      s.inBoot = true →
      s.blkReset = false →
      s.outstandingF = false →
      ∃ t, exec (.deadSlowEntry) s = .next t ∧
        t.get GLB_SERVICE.STATE = 1 ∧
        s.KeepsPages t ([0, 0x11] ++ faultPages) [] ∧
        s.KeepsMem t) ∧
  (∀ readErr (s : State),
      s.get GLB_SERVICE.FW_RESULT = 0 →
      s.get GLB_SERVICE.STATE < 2 →
      s.armedFor 3 = none →
      ∃ t, exec (.imageReadEnd readErr) s = .next t ∧
        t.get GLB_SERVICE.FW_RESULT = s.loaded.verifyImage readErr ∧
        (t.image = (if s.loaded.verifyImage readErr = 1 then some (ofLe (s.loaded.flashBytes 0xC 4)) else s.image)) ∧
        s.KeepsPages t (0 :: faultPages) [] ∧
        s.KeepsPlant t ∧
        s.KeepsMem t) ∧
  (∀ tRt (s : State),
      s.rollCalled = false →
      s.inBoot = false →
      s.get STG_STATUS.PG = 3 →
      tRt ≤ 28000 →
      (∀ b < Config.bayCount, (s.bay b).failFenced = false) →
      (∀ y < Config.yardCount, Config.minBays y ≤ (s.usableBays y).length) →
      ∃ t, exec (.rollCall tRt []) s = .next t ∧
        t.rollCalled = true ∧
        (∀ b < Config.bayCount, Config.bayFitted b = true → (t.bay b).equal = (300000 - 10 * tRt) / 3125) ∧
        s.KeepsRegs t []) ∧
  (∀ (s : State),
      s.r26 = false →
      s.get GLB_SERVICE.STATE = 1 →
      s.mayWayOn = true →
      (∀ e ∈ s.journal, e.state ≠ .accepted) →
      (∀ d < Config.yardCount, (s.dom d).rewake = false) →
      ∃ t, exec (.wayOnTransition) s = .next t ∧
        t.get GLB_SERVICE.STATE = 3 ∧
        t.get CLK_STATUS.SOURCE = 1 ∧
        t.get HLM_FW_VER.VERSION = s.image.getD 0 % 2 ^ 32 ∧
        t.get DRE_CTRL.RUN = 1 ∧
        s.KeepsPages t ([0, 1, 6, 8, 0xF] ++ coefPages ++ yardPages ++ sextantPages ++ faultPages) []) ∧
  (∀ (s : State),
      s.r26 = true →
      s.mayWayOn = true →
      (∀ e ∈ s.journal, e.state ≠ .accepted) →
      ∃ t, exec (.wayOnTransition) s = .next t ∧
        t.r26 = false ∧
        t.get GLB_SERVICE.STATE = 3 ∧
        t.get CLK_STATUS.SOURCE = 1 ∧
        s.KeepsPages t ([0, 1, 0xF] ++ coefPages ++ yardPages ++ sextantPages ++ faultPages) [] ∧
        s.KeepsMem t)

/-- PLL_LOCK sets CLK_STATUS.LOCK and changes no other register. PLL_UNLOCK on the PLL counts in CLK_CNT_UNLOCK, clears
LOCK and SOURCE, sets GLB_SERVICE.STATE to 2 and the stages' balance trims to 0; on the backup oscillator it clears
LOCK alone. PLL_RELOCK after such a loss, with no class F fault outstanding and no command waiting to start, sets
LOCK, SOURCE 1 and STATE 3 and counts in CLK_CNT_RELOCK. HELM_PAIR_FAILURE sets HLM_STATUS.HELM_OUT, passes the work
to SC0, or to SC1 where SC0 is out, counts in HLM_CNT_TAKEOVER and starts a takeover, in which the journal stays as it
is but for commands that holding course ends. SERVICE_CORE_FAILURE of a core that does not execute for the pair, the
other core in service, sets its OUT bit and starts no control-plane reset. STATE 2 while the reduced service lasts,
and a PLL_UNLOCK on the backup oscillator that clears LOCK alone, are the model's reading (assumption log 33). So are
the length of a takeover and the change of core in one step (31), and that a core's error is found by a data read
(39). Rests on R25, R26, R29, R30, R305, R336, R363, R426, R349, R418, R368, R310. -/
def Obligations.ClockLossAndTakeover : Prop :=
  (∀ (s : State),
      ∃ t, exec (.pllLock) s = .next t ∧
        t.get CLK_STATUS.LOCK = 1 ∧
        s.KeepsRegs t [CLK_STATUS.reg.addr] ∧
        t.get CLK_STATUS.SOURCE = s.get CLK_STATUS.SOURCE ∧
        s.KeepsMem t ∧
        s.KeepsUnits t) ∧
  (∀ diff (s : State),
      s.get CLK_STATUS.SOURCE = 0 →
      ∃ t, exec (.pllUnlock diff) s = .next t ∧
        t.get CLK_STATUS.LOCK = 0 ∧
        s.KeepsRegs t [CLK_STATUS.reg.addr] ∧
        t.r26 = s.r26 ∧
        s.KeepsMem t ∧
        s.KeepsUnits t) ∧
  (∀ diff (s : State),
      s.get CLK_STATUS.SOURCE = 1 →
      ∃ t, exec (.pllUnlock diff) s = .next t ∧
        t.r26 = true ∧
        t.get CLK_STATUS.LOCK = 0 ∧
        t.get CLK_STATUS.SOURCE = 0 ∧
        t.get GLB_SERVICE.STATE = 2 ∧
        (∀ p < Config.stagePhases, t.getI (STG_PH_TRIM.BAL p) = 0) ∧
        t.get CLK_CNT_UNLOCK.COUNT = min (s.get CLK_CNT_UNLOCK.COUNT + 1) 0xFFFFFFFF ∧
        s.KeepsPages t ([0, 1, 9, 0xA, 0x11] ++ yardPages ++ sextantPages ++ faultPages) [] ∧
        s.KeepsMem t) ∧
  (∀ (s : State),
      s.r26 = true →
      s.outstandingF = false →
      (∀ e ∈ s.journal, e.state ≠ .accepted) →
      ∃ t, exec (.pllRelock) s = .next t ∧
        t.r26 = false ∧
        t.get CLK_STATUS.LOCK = 1 ∧
        t.get CLK_STATUS.SOURCE = 1 ∧
        t.get GLB_SERVICE.STATE = 3 ∧
        t.get CLK_CNT_RELOCK.COUNT = min (s.get CLK_CNT_RELOCK.COUNT + 1) 0xFFFFFFFF ∧
        s.KeepsPages t ([0, 1, 0xF] ++ coefPages ++ yardPages ++ sextantPages ++ faultPages) [] ∧
        s.KeepsMem t) ∧
  (∀ cause (s : State),
      s.get HLM_STATUS.HELM_OUT = 0 →
      ∃ t, exec (.helmPairFailure cause) s = .next t ∧
        t.get HLM_STATUS.HELM_OUT = 1 ∧
        (t.get HLM_STATUS.EXEC = (if s.get HLM_STATUS.SC0_OUT = 0 then 1 else 2)) ∧
        t.get HLM_CNT_TAKEOVER.COUNT = min (s.get HLM_CNT_TAKEOVER.COUNT + 1) 0xFFFFFFFF ∧
        t.takeover = some s.mono ∧
        t.taking = true ∧
        s.KeepsPages t (6 :: faultPages) [] ∧
        s.KeepsPlant t ∧
        s.KeepsMem t) ∧
  (∀ cause (s : State),
      s.get HLM_STATUS.SC1_OUT = 0 →
      s.get HLM_STATUS.SC0_OUT = 0 →
      s.get HLM_STATUS.EXEC ≠ 2 →
      ∃ t, exec (.serviceCoreFailure 1 cause) s = .next t ∧
        t.get HLM_STATUS.SC1_OUT = 1 ∧
        t.cpReset = s.cpReset ∧
        s.KeepsPages t (6 :: faultPages) [] ∧
        s.KeepsPlant t ∧
        s.KeepsMem t) ∧
  (∀ cause (s : State),
      s.get HLM_STATUS.SC0_OUT = 0 →
      s.get HLM_STATUS.SC1_OUT = 0 →
      s.get HLM_STATUS.EXEC ≠ 1 →
      ∃ t, exec (.serviceCoreFailure 0 cause) s = .next t ∧
        t.get HLM_STATUS.SC0_OUT = 1 ∧
        t.cpReset = s.cpReset ∧
        s.KeepsPages t (6 :: faultPages) [] ∧
        s.KeepsPlant t ∧
        s.KeepsMem t)

/-- While 16 requests are outstanding a request is not taken: no response, no register changes. Otherwise one during a
control-plane reset receives RETRY and changes no register. One that finds two requests of its slow target outstanding
receives RETRY and counts in PRT_CNT_RETRY. One that reuses an outstanding tag receives DATA_ERR and counts in
PRT_CNT_TAGREUSE. Any other write is answered OKAY; with strobes that do not agree with its address, or an address
that is no multiple of the width, it changes only PG_ERR of one page. Any other read is answered with the words of the
aperture on the lanes that the write strobes would use; a read that is not aligned returns 0 with OKAY and changes no
register. A KERN write of PG_EVTEN of the PIL page stores the bits that are not reserved. The time at which a response
leaves is not modelled (assumption log 34). Rests on R8, R9, R34, R36, R318, R319, R417, R423, R349, R418. -/
def Obligations.RegisterPortAnswersAndLanes : Prop :=
  (∀ r (s : State),
      s.responded.rpReady = false →
      ∃ t, exec (.registerWrite r) s = .next t ∧
        t.rpRsp = s.rpRsp ∧
        s.KeepsRegs t [] ∧
        s.KeepsMem t ∧
        s.KeepsUnits t) ∧
  (∀ r (s : State),
      s.responded.rpReady = false →
      ∃ t, exec (.registerRead r) s = .next t ∧
        t.rpRsp = s.rpRsp ∧
        s.KeepsRegs t [] ∧
        s.KeepsMem t ∧
        s.KeepsUnits t) ∧
  (∀ r (s : State),
      s.responded.rpReady = true →
      s.cpReset = true →
      ∃ t, exec (.registerWrite r) s = .next t ∧
        t.rpRsp = some ⟨r.tag, 1, none⟩ ∧
        s.KeepsRegs t [] ∧
        s.KeepsMem t ∧
        s.KeepsUnits t) ∧
  (∀ r (s : State),
      s.responded.rpReady = true →
      s.cpReset = true →
      ∃ t, exec (.registerRead r) s = .next t ∧
        t.rpRsp = some ⟨r.tag, 1, none⟩ ∧
        s.KeepsRegs t [] ∧
        s.KeepsMem t ∧
        s.KeepsUnits t) ∧
  (∀ r (s : State),
      s.responded.rpReady = true →
      s.cpReset = false →
      (s.responded.rpOut.any fun e => e.tag == r.tag) = true →
      ∃ t, exec (.registerWrite r) s = .next t ∧
        t.rpRsp = some ⟨r.tag, 2, none⟩ ∧
        t.get PRT_CNT_TAGREUSE.COUNT = min (s.get PRT_CNT_TAGREUSE.COUNT + 1) 0xFFFFFFFF ∧
        s.KeepsPages t faultPages [] ∧
        s.KeepsPlant t ∧
        s.KeepsMem t) ∧
  (∀ r (s : State),
      s.responded.rpReady = true →
      s.cpReset = false →
      (s.responded.rpOut.any fun e => e.tag == r.tag) = true →
      ∃ t, exec (.registerRead r) s = .next t ∧
        t.rpRsp = some ⟨r.tag, 2, none⟩ ∧
        t.get PRT_CNT_TAGREUSE.COUNT = min (s.get PRT_CNT_TAGREUSE.COUNT + 1) 0xFFFFFFFF ∧
        s.KeepsPages t faultPages [] ∧
        s.KeepsPlant t ∧
        s.KeepsMem t) ∧
  (∀ r (s : State),
      s.responded.rpReady = true →
      s.cpReset = false →
      (s.responded.rpOut.any fun e => e.tag == r.tag) = false →
      s.responded.slowFull r.addr.toNat = true →
      ∃ t, exec (.registerWrite r) s = .next t ∧
        t.rpRsp = some ⟨r.tag, 1, none⟩ ∧
        t.get PRT_CNT_RETRY.COUNT = min (s.get PRT_CNT_RETRY.COUNT + 1) 0xFFFFFFFF ∧
        s.KeepsRegs t [PRT_CNT_RETRY.COUNT.addr] ∧
        s.KeepsMem t ∧
        s.KeepsUnits t) ∧
  (∀ r (s : State),
      s.responded.rpReady = true →
      s.cpReset = false →
      (s.responded.rpOut.any fun e => e.tag == r.tag) = false →
      s.responded.slowFull r.addr.toNat = true →
      ∃ t, exec (.registerRead r) s = .next t ∧
        t.rpRsp = some ⟨r.tag, 1, none⟩ ∧
        t.get PRT_CNT_RETRY.COUNT = min (s.get PRT_CNT_RETRY.COUNT + 1) 0xFFFFFFFF ∧
        s.KeepsRegs t [PRT_CNT_RETRY.COUNT.addr] ∧
        s.KeepsMem t ∧
        s.KeepsUnits t) ∧
  (∀ r (s : State),
      s.responded.rpReady = true →
      s.cpReset = false →
      (s.responded.rpOut.any fun e => e.tag == r.tag) = false →
      s.responded.slowFull r.addr.toNat = false →
      ∃ t, exec (.registerWrite r) s = .next t ∧
        t.rpRsp = some ⟨r.tag, 0, none⟩) ∧
  (∀ r (s : State),
      s.responded.rpReady = true →
      s.cpReset = false →
      (s.responded.rpOut.any fun e => e.tag == r.tag) = false →
      s.responded.slowFull r.addr.toNat = false →
      (r.strobes = 0xFF → r.addr.toNat % 8 ≠ 0) →
      (r.strobes = 0x0F → r.addr.toNat % 8 ≠ 0) →
      (r.strobes = 0xF0 → r.addr.toNat % 8 ≠ 4) →
      ∃ t, exec (.registerWrite r) s = .next t ∧
        t.rpRsp = some ⟨r.tag, 0, none⟩ ∧
        s.KeepsRegs t [errPage (homeAddr r.addr.toNat) + 0x1C] ∧
        s.KeepsMem t ∧
        s.KeepsUnits t) ∧
  (∀ r (s : State),
      s.responded.rpReady = true →
      s.cpReset = false →
      (s.responded.rpOut.any fun e => e.tag == r.tag) = false →
      s.responded.slowFull r.addr.toNat = false →
      r.addr.toNat % (if r.wide then 8 else 4) ≠ 0 →
      ∃ t, exec (.registerRead r) s = .next t ∧
        t.rpRsp = some ⟨r.tag, 0, some 0⟩ ∧
        s.KeepsRegs t [] ∧
        s.KeepsMem t ∧
        s.KeepsUnits t) ∧
  (∀ r u lo hi bad (s : State),
      s.responded.rpReady = true →
      s.cpReset = false →
      (s.responded.rpOut.any fun e => e.tag == r.tag) = false →
      s.responded.slowFull r.addr.toNat = false →
      (s.responded.takeRequest r).portRead ⟨.rp, r.stamp⟩ r.addr.toNat r.wide = (u, lo, hi, bad) →
      ∃ t, exec (.registerRead r) s = .next t ∧
        (t.rpRsp = some ⟨r.tag, if bad then 2 else 0, some (if r.wide then hi ++ lo else if r.addr.toNat % 8 = 4 then lo ++ (0 : Word) else (0 : Word) ++ lo)⟩)) ∧
  (∀ r (s : State),
      s.responded.rpReady = true →
      s.cpReset = false →
      s.holding = false →
      (s.responded.rpOut.any fun e => e.tag == r.tag) = false →
      r.addr = 0x7018 →
      r.strobes = 0x0F →
      r.stamp = 1 →
      ∃ t, exec (.registerWrite r) s = .next t ∧
        t.rpRsp = some ⟨r.tag, 0, none⟩ ∧
        t.word 0x7018 = r.data.extractLsb' 0 32 &&& 0x7 ∧
        s.KeepsRegs t [0x7018] ∧
        s.KeepsMem t ∧
        s.KeepsUnits t)

/-- MP_PRIVATE_WRITE of the wrong form performs nothing and leaves MALFORMED; of a right form it is held as PENDING during
a control-plane reset, and otherwise it is performed: a read leaves its status and its data, least significant byte
first, and a write of PG_EVTEN of the PIL page stores its word. One that arrives while a request is held changes
nothing. MP_PRIVATE_READ returns the status byte and the data: 3 while a request is held, 4 after a malformed write, 5
where none was taken since the last reset; it changes no register. I3C_DYNAMIC_ADDRESS gives the address by ENTDAA, or
by SETDASA at the static address of the straps, and at another static address it changes nothing; DISEC and ENEC
disable and enable target interrupts. IBI_RAISE, acknowledged while the port may interrupt, clears IBI_PEND; not
acknowledged it changes nothing. OT_ACCESS_UPDATE with a read keeps the data, the response and the request for the
next capture; a write of FLT_INJ_PIN, no confidential context active, stores PIN; while busy it changes nothing. That
an access comes to its end within its command, and is held with busy 1 while a control-plane reset runs, is the
model's choice (assumption log 39). That one request is held at a time is the model's reading (assumption log 34).
Rests on R51, R316, R319, R320, R321, R349, R399. -/
def Obligations.ManagementAndDebugPorts : Prop :=
  (∀ bytes (s : State),
      s.requestHeld = false →
      mpFormOk bytes = false →
      ∃ t, exec (.mpPrivateWrite bytes) s = .next t ∧
        t.mp = .malformed ∧
        s.KeepsRegs t [] ∧
        s.KeepsMem t ∧
        s.KeepsUnits t) ∧
  (∀ bytes (s : State),
      s.requestHeld = false →
      mpFormOk bytes = true →
      s.cpReset = true →
      ∃ t, exec (.mpPrivateWrite bytes) s = .next t ∧
        t.mp = .pending bytes ∧
        s.KeepsRegs t [] ∧
        s.KeepsMem t ∧
        s.KeepsUnits t) ∧
  (∀ bytes u lo hi bad (s : State),
      s.requestHeld = false →
      mpFormOk bytes = true →
      s.cpReset = false →
      bytes.headD 0 = 0x10 →
      s.portRead ⟨.mp, 0⟩ (ofLe (bytes.tail.take 3) % 2 ^ 21) false = (u, lo, hi, bad) →
      ∃ t, exec (.mpPrivateWrite bytes) s = .next t ∧
        (t.mp = .done (if bad then 2 else 0) (le 4 lo.toNat))) ∧
  (∀ bytes u lo hi bad (s : State),
      s.requestHeld = false →
      mpFormOk bytes = true →
      s.cpReset = false →
      bytes.headD 0 = 0x11 →
      s.portRead ⟨.mp, 0⟩ (ofLe (bytes.tail.take 3) % 2 ^ 21) true = (u, lo, hi, bad) →
      ∃ t, exec (.mpPrivateWrite bytes) s = .next t ∧
        (t.mp = .done (if bad then 2 else 0) (le 4 lo.toNat ++ le 4 hi.toNat))) ∧
  (∀ (b0 b1 b2 b3 : Byte) (s : State),
      s.requestHeld = false →
      s.cpReset = false →
      ∃ t, exec (.mpPrivateWrite [0x20, 0x18, 0x70, 0, b0, b1, b2, b3]) s = .next t ∧
        t.mp = .done 0 [] ∧
        t.word 0x7018 = b3 ++ b2 ++ b1 ++ b0 &&& 0x7 ∧
        s.KeepsRegs t [0x7018] ∧
        s.KeepsMem t ∧
        s.KeepsUnits t) ∧
  (∀ bytes held (s : State),
      s.mp = .pending held →
      ∃ t, exec (.mpPrivateWrite bytes) s = .next t ∧
        t.mp = .pending held ∧
        s.KeepsRegs t [] ∧
        s.KeepsMem t ∧
        s.KeepsUnits t) ∧
  (∀ (s : State),
      ∃ t, exec (.mpPrivateRead) s = .next t ∧
        t.mp = s.mp ∧
        s.KeepsRegs t [] ∧
        s.KeepsMem t ∧
        s.KeepsUnits t ∧
        (∀ st data, s.mp = .done st data → t.mpRead = BitVec.ofNat 8 st :: data) ∧
        (∀ b, s.mp = .pending b → t.mpRead = [3]) ∧
        (s.mp = .malformed → t.mpRead = [4]) ∧
        (s.mp = .none → t.mpRead = [5])) ∧
  (∀ how addr (s : State),
      s.takesAddr how = true →
      ∃ t, exec (.i3cDynamicAddress how addr) s = .next t ∧
        t.get PRT_MP.DYN_ADDR = addr.toNat ∧
        t.get PRT_MP.IBI_EN = s.get PRT_MP.IBI_EN ∧
        s.KeepsRegs t [PRT_MP.reg.addr] ∧
        s.KeepsMem t ∧
        s.KeepsUnits t) ∧
  (∀ how addr (s : State),
      s.takesAddr how = false →
      ∃ t, exec (.i3cDynamicAddress how addr) s = .next t ∧
        s.KeepsRegs t [] ∧
        s.KeepsMem t ∧
        s.KeepsUnits t) ∧
  (∀ enable (s : State),
      ∃ t, exec (.i3cDisecEnec enable) s = .next t ∧
        t.mpDisec = !enable ∧
        s.KeepsRegs t [] ∧
        s.KeepsMem t ∧
        s.KeepsUnits t) ∧
  (∀ (s : State),
      s.Wired →
      s.mayInterrupt = true →
      ∃ t, exec (.ibiRaise true) s = .next t ∧
        t.get PRT_MP.IBI_PEND = 0 ∧
        s.KeepsRegs t [PRT_MP.reg.addr] ∧
        s.KeepsMem t ∧
        s.KeepsUnits t) ∧
  (∀ (s : State),
      ∃ t, exec (.ibiRaise false) s = .next t ∧
        t.mp = s.mp ∧
        s.KeepsRegs t [] ∧
        s.KeepsMem t ∧
        s.KeepsUnits t) ∧
  (∀ dr (s : State),
      s.cpReset = true →
      s.dbgHeld = none →
      ∃ t, exec (.otAccessUpdate dr) s = .next t ∧
        t.dbg.getLsbD 89 = true ∧
        t.dbg.extractLsb' 0 23 = dr.extractLsb' 0 23 ∧
        t.dbgHeld = some dr ∧
        s.KeepsRegs t [] ∧
        s.KeepsMem t ∧
        s.KeepsUnits t) ∧
  (∀ dr held (s : State),
      s.dbgHeld = some held →
      ∃ t, exec (.otAccessUpdate dr) s = .next t ∧
        t.dbg = s.dbg ∧
        t.dbgHeld = s.dbgHeld ∧
        s.KeepsRegs t [] ∧
        s.KeepsMem t ∧
        s.KeepsUnits t) ∧
  (∀ dr u lo hi bad (s : State),
      s.cpReset = false →
      s.dbgHeld = none →
      dr.getLsbD 21 = false →
      s.portRead ⟨.dbg, 0⟩ (dr.extractLsb' 0 21).toNat (dr.getLsbD 22) = (u, lo, hi, bad) →
      ∃ t, exec (.otAccessUpdate dr) s = .next t ∧
        t.dbg.getLsbD 89 = false ∧
        t.dbg.extractLsb' 0 23 = dr.extractLsb' 0 23 ∧
        t.dbg.extractLsb' 23 64 = hi ++ lo ∧
        (t.dbg.extractLsb' 87 2 = if bad then 2 else 0)) ∧
  (∀ dr (s : State),
      dr.extractLsb' 0 23 = 0x20C0A4 →
      s.cpReset = false →
      s.dbgHeld = none →
      s.active = false →
      s.holding = false →
      ∃ t, exec (.otAccessUpdate dr) s = .next t ∧
        t.dbg.extractLsb' 0 23 = 0x20C0A4 ∧
        t.dbg.extractLsb' 87 2 = 0 ∧
        t.get FLT_INJ_PIN.PIN = (dr.extractLsb' 23 2).toNat ∧
        s.KeepsRegs t [FLT_INJ_PIN.PIN.addr] ∧
        s.KeepsMem t ∧
        s.KeepsUnits t)

/-- A write of 0x0E17_0001 to PG_ACCESS of a page with a header by KERN or MGMT where its class may write unlocks the page
and BY names the class; 0x0E17_0002 locks it; no other register changes. GLB_XREC with the same KEY and OP sets or
clears the bit of one page of a record region and leaves the other bits. PRT_H2M written by KERN stores the word and
sets bit 4 of PRT_MP.IBI_PEND. The order of the checks of a write is the model's reading (assumption log 32). Rests on
R321, R349, R419, R420. -/
def Obligations.ExpertAccessAndMailbox : Prop :=
  (∀ q page (s : State),
      s.Takes q (page * 0x1000 + 0xC) →
      hasHeader page = true →
      (clsOf q = .mgmt ∨ clsOf q = .kern) →
      ∃ t, exec (.pgUnlock q page) s = .next t ∧
        t.get (unlockedF page) = 1 ∧
        (t.get (unlockedBy page) = (if clsOf q = .kern then 1 else 2)) ∧
        s.KeepsRegs t [page * 0x1000 + 0xC] ∧
        s.KeepsMem t ∧
        s.KeepsUnits t) ∧
  (∀ q page (s : State),
      s.Takes q (page * 0x1000 + 0xC) →
      hasHeader page = true →
      (clsOf q = .mgmt ∨ clsOf q = .kern) →
      ∃ t, exec (.pgLock q page) s = .next t ∧
        t.get (unlockedF page) = 0 ∧
        t.get (unlockedBy page) = 0 ∧
        s.KeepsRegs t [page * 0x1000 + 0xC] ∧
        s.KeepsMem t ∧
        s.KeepsUnits t) ∧
  (∀ q region page (s : State),
      s.Takes q GLB_XREC.KEY.addr →
      (clsOf q = .mgmt ∨ clsOf q = .kern) →
      region < 3 →
      page < xrecPages region →
      ∃ t, exec (.xrecUnlock q region page) s = .next t ∧
        (∀ k, tb (t.get (xrecBits region)) k = (k == page || tb (s.get (xrecBits region)) k)) ∧
        s.KeepsRegs t [(xrecBits region).addr] ∧
        s.KeepsMem t ∧
        s.KeepsUnits t) ∧
  (∀ q region page (s : State),
      s.Takes q GLB_XREC.KEY.addr →
      (clsOf q = .mgmt ∨ clsOf q = .kern) →
      region < 3 →
      page < xrecPages region →
      ∃ t, exec (.xrecLock q region page) s = .next t ∧
        (∀ k, tb (t.get (xrecBits region)) k = (k != page && tb (s.get (xrecBits region)) k)) ∧
        s.KeepsRegs t [(xrecBits region).addr] ∧
        s.KeepsMem t ∧
        s.KeepsUnits t) ∧
  (∀ q idx data (s : State),
      s.Takes q (PRT_H2M.DATA idx).addr →
      clsOf q = .kern →
      idx < 32 →
      ∃ t, exec (.prtH2mWrite q idx data) s = .next t ∧
        t.word (PRT_H2M.DATA idx).addr = data ∧
        tb (t.get PRT_MP.IBI_PEND) 4 = true ∧
        s.KeepsRegs t [(PRT_H2M.DATA idx).addr, PRT_MP.reg.addr] ∧
        s.KeepsMem t ∧
        s.KeepsUnits t)

/-- With the DRE running, a well-formed START, PHASE, END or IDLE notice for a yard that is not fenced counts in
PIL_CNT_ACCEPT, stands in PIL_LAST, and enters the yard's coalescer: IDLE starts a gather with it, GATHER appends it
and counts in PIL_CNT_COALESCED, COOL appends it to the pending set. A COLL_BEGIN of the whole device with a free
entry and no like collective open announces one; a COLL_END gives the matching open entry its close, or the announced
one that opens by then (assumption log 21); COLLECTIVE_OPEN puts the announced collective that opens first into a free
entry and COLLECTIVE_CLOSE frees an ended one; HOLD_ACK of the whole device counts in CAP_CNT_HOLDACK. No memory
changes, and no register but the counters and PIL_LAST. Rests on R33, R125, R126, R129, R130, R256, R154, R418, R267. -/
def Obligations.PilotNoticesAndCollectives : Prop :=
  (∀ n (s : State),
      s.dreOn = true →
      noticeBad n = false →
      1 ≤ n.kind.toNat →
      n.kind.toNat ≤ 4 →
      s.get (YRD_STATUS.YARD_FENCED n.yard.toNat) = 0 →
      (s.yard n.yard.toNat).coal = .idle →
      ∃ t, exec (.pilotNotice n) s = .next t ∧
        t.get PIL_CNT_ACCEPT.COUNT = min (s.get PIL_CNT_ACCEPT.COUNT + 1) 0xFFFFFFFF ∧
        t.get64 PIL_LAST_LO.NOTICE = noticeBits n ∧
        (t.yard n.yard.toNat).coal = .gather ∧
        (t.yard n.yard.toNat).gathered = [⟨n, s.sysTime + 50 * n.lead.toNat, s.order, false⟩] ∧
        (∀ y, y ≠ n.yard.toNat → t.yard y = s.yard y) ∧
        s.KeepsRegs t [PIL_CNT_ACCEPT.COUNT.addr, PIL_LAST_LO.NOTICE.addr, PIL_LAST_LO.NOTICE.addr + 4, PIL_CNT_COALESCED.COUNT.addr] ∧
        s.KeepsMem t) ∧
  (∀ n (s : State),
      s.dreOn = true →
      noticeBad n = false →
      1 ≤ n.kind.toNat →
      n.kind.toNat ≤ 4 →
      s.get (YRD_STATUS.YARD_FENCED n.yard.toNat) = 0 →
      (s.yard n.yard.toNat).coal = .gather →
      ∃ t, exec (.pilotNotice n) s = .next t ∧
        t.get PIL_CNT_ACCEPT.COUNT = min (s.get PIL_CNT_ACCEPT.COUNT + 1) 0xFFFFFFFF ∧
        t.get64 PIL_LAST_LO.NOTICE = noticeBits n ∧
        (t.yard n.yard.toNat).coal = .gather ∧
        (t.yard n.yard.toNat).gathered = (s.yard n.yard.toNat).gathered ++ [⟨n, s.sysTime + 50 * n.lead.toNat, s.order, false⟩] ∧
        t.get PIL_CNT_COALESCED.COUNT = min (s.get PIL_CNT_COALESCED.COUNT + 1) 0xFFFFFFFF ∧
        (∀ y, y ≠ n.yard.toNat → t.yard y = s.yard y) ∧
        s.KeepsRegs t [PIL_CNT_ACCEPT.COUNT.addr, PIL_LAST_LO.NOTICE.addr, PIL_LAST_LO.NOTICE.addr + 4, PIL_CNT_COALESCED.COUNT.addr] ∧
        s.KeepsMem t) ∧
  (∀ n (s : State),
      s.dreOn = true →
      noticeBad n = false →
      1 ≤ n.kind.toNat →
      n.kind.toNat ≤ 4 →
      s.get (YRD_STATUS.YARD_FENCED n.yard.toNat) = 0 →
      (s.yard n.yard.toNat).coal = .cool →
      ∃ t, exec (.pilotNotice n) s = .next t ∧
        t.get PIL_CNT_ACCEPT.COUNT = min (s.get PIL_CNT_ACCEPT.COUNT + 1) 0xFFFFFFFF ∧
        t.get64 PIL_LAST_LO.NOTICE = noticeBits n ∧
        (t.yard n.yard.toNat).coal = .cool ∧
        (t.yard n.yard.toNat).pendingSet = (s.yard n.yard.toNat).pendingSet ++ [⟨n, s.sysTime + 50 * n.lead.toNat, s.order, false⟩] ∧
        (∀ y, y ≠ n.yard.toNat → t.yard y = s.yard y) ∧
        s.KeepsRegs t [PIL_CNT_ACCEPT.COUNT.addr, PIL_LAST_LO.NOTICE.addr, PIL_LAST_LO.NOTICE.addr + 4, PIL_CNT_COALESCED.COUNT.addr] ∧
        s.KeepsMem t) ∧
  (∀ n k (s : State),
      s.dreOn = true →
      n.yard = 127 →
      s.findColl n.context.toNat n.tag.toNat = none →
      s.freeColl = some k →
      ∃ t, exec (.collBegin n) s = .next t ∧
        t.collPend = s.collPend ++ [⟨n.context.toNat, n.tag.toNat, s.sysTime + 50 * n.lead.toNat, none, 0⟩] ∧
        t.colls = s.colls ∧
        t.get PIL_CNT_ACCEPT.COUNT = min (s.get PIL_CNT_ACCEPT.COUNT + 1) 0xFFFFFFFF ∧
        s.KeepsRegs t [PIL_CNT_ACCEPT.COUNT.addr, PIL_LAST_LO.NOTICE.addr, PIL_LAST_LO.NOTICE.addr + 4] ∧
        s.KeepsMem t ∧
        s.KeepsUnits t) ∧
  (∀ n k c (s : State),
      s.dreOn = true →
      n.yard = 127 →
      s.findColl n.context.toNat n.tag.toNat = some k →
      s.coll k = some c →
      c.closes = none →
      ∃ t, exec (.collEnd n) s = .next t ∧
        t.coll k = some { c with closes := some (s.sysTime + 50 * n.lead.toNat) } ∧
        (∀ j, j ≠ k → t.coll j = s.coll j) ∧
        t.get PIL_CNT_ACCEPT.COUNT = min (s.get PIL_CNT_ACCEPT.COUNT + 1) 0xFFFFFFFF ∧
        s.KeepsRegs t [PIL_CNT_ACCEPT.COUNT.addr, PIL_LAST_LO.NOTICE.addr, PIL_LAST_LO.NOTICE.addr + 4] ∧
        s.KeepsMem t ∧
        s.KeepsUnits t) ∧
  (∀ n c (s : State),
      s.dreOn = true →
      n.yard = 127 →
      s.findColl n.context.toNat n.tag.toNat = none →
      s.announced n.context.toNat n.tag.toNat (s.sysTime + 50 * n.lead.toNat) = some c →
      ∃ t, exec (.collEnd n) s = .next t ∧
        (t.collPend = s.collPend.map (fun d => if d = c then d.closing (s.sysTime + 50 * n.lead.toNat) else d)) ∧
        t.colls = s.colls ∧
        t.get PIL_CNT_ACCEPT.COUNT = min (s.get PIL_CNT_ACCEPT.COUNT + 1) 0xFFFFFFFF ∧
        s.KeepsRegs t [PIL_CNT_ACCEPT.COUNT.addr, PIL_LAST_LO.NOTICE.addr, PIL_LAST_LO.NOTICE.addr + 4] ∧
        s.KeepsMem t ∧
        s.KeepsUnits t) ∧
  (∀ k c (s : State),
      s.nextColl = some c →
      s.findColl c.ctx c.tag = none →
      k < 16 →
      s.coll k = none →
      ∃ t, exec (.collectiveOpen k) s = .next t ∧
        t.coll k = some { c with openedAt := s.mono } ∧
        t.collPend = s.collPend.erase c ∧
        (∀ j, j ≠ k → t.coll j = s.coll j) ∧
        s.KeepsRegs t [] ∧
        s.KeepsMem t ∧
        s.KeepsUnits t) ∧
  (∀ k c (s : State),
      s.coll k = some c →
      c.closes.isSome = true →
      ∃ t, exec (.collectiveClose k) s = .next t ∧
        t.coll k = none ∧
        (∀ j, j ≠ k → t.coll j = s.coll j) ∧
        s.KeepsRegs t [] ∧
        s.KeepsMem t ∧
        s.KeepsUnits t) ∧
  (∀ n (s : State),
      s.dreOn = true →
      n.yard = 127 →
      ∃ t, exec (.holdAck n) s = .next t ∧
        t.get CAP_CNT_HOLDACK.COUNT = min (s.get CAP_CNT_HOLDACK.COUNT + 1) 0xFFFFFFFF ∧
        s.KeepsRegs t [PIL_CNT_ACCEPT.COUNT.addr, PIL_LAST_LO.NOTICE.addr, PIL_LAST_LO.NOTICE.addr + 4, CAP_CNT_HOLDACK.COUNT.addr] ∧
        s.KeepsMem t ∧
        s.KeepsUnits t)

/-- The waiting notice with the first effective time takes effect: for a START or PHASE notice the owner byte of a private
yard that is neither in D4 nor fenced is the notice's context; for an END or IDLE notice whose context is the owner it
is 64, none. A KERN write of a CAP_YOWN word of four private yards, with no byte above 64, leaves each of the four
owner bytes as written, and 64 in a yard in D4 or fenced. A yard in D4 or fenced that a START or PHASE notice names is
unowned, and stays so where it was: that a yard in D4 or fenced is unowned whatever names an owner, a notice or the
write of CAP_YOWN, is the model's reading (assumption log 19). Rests on R257, R267, R79. -/
def Obligations.OwnersChangeAsNoticesAndKernSay : Prop :=
  (∀ y eff kind c (s : State),
      y < Config.yardCount →
      Config.isPrivate y = true →
      (s.yard y).ownNext = some (eff, kind, c) →
      s.domState y ≠ 4 →
      s.get (YRD_STATUS.YARD_FENCED y) = 0 →
      c < 64 →
      (kind = 1 ∨ kind = 3) →
      ∃ t, exec (.ownershipChange y) s = .next t ∧
        t.get (Fld.byte CAP_YOWN.OWNER y) = c ∧
        (t.yard y).ownPend = (s.yard y).ownPend.erase (eff, kind, c) ∧
        s.KeepsPages t lossPages [] ∧
        s.KeepsMem t) ∧
  (∀ y eff kind c (s : State),
      y < Config.yardCount →
      Config.isPrivate y = true →
      (s.yard y).ownNext = some (eff, kind, c) →
      s.domState y ≠ 4 →
      s.get (YRD_STATUS.YARD_FENCED y) = 0 →
      c < 64 →
      (kind = 2 ∨ kind = 4) →
      s.ownerByte y = c →
      ∃ t, exec (.ownershipChange y) s = .next t ∧
        t.get (Fld.byte CAP_YOWN.OWNER y) = 64 ∧
        (t.yard y).ownPend = (s.yard y).ownPend.erase (eff, kind, c) ∧
        s.KeepsPages t lossPages [] ∧
        s.KeepsMem t) ∧
  (∀ y eff kind c (s : State),
      y < Config.yardCount →
      Config.isPrivate y = true →
      (s.yard y).ownNext = some (eff, kind, c) →
      (s.domState y = 4 ∨ s.get (YRD_STATUS.YARD_FENCED y) ≠ 0) →
      s.get (Fld.byte CAP_YOWN.OWNER y) = 64 →
      ∃ t, exec (.ownershipChange y) s = .next t ∧
        t.get (Fld.byte CAP_YOWN.OWNER y) = 64 ∧
        (t.yard y).ownPend = (s.yard y).ownPend.erase (eff, kind, c) ∧
        s.KeepsRegs t [] ∧
        s.KeepsMem t) ∧
  (∀ y eff kind c (s : State),
      y < Config.yardCount →
      Config.isPrivate y = true →
      (s.yard y).ownNext = some (eff, kind, c) →
      (s.domState y = 4 ∨ s.get (YRD_STATUS.YARD_FENCED y) ≠ 0) →
      (kind = 1 ∨ kind = 3) →
      s.get (Fld.byte CAP_YOWN.OWNER y) ≤ 64 →
      ∃ t, exec (.ownershipChange y) s = .next t ∧
        t.get (Fld.byte CAP_YOWN.OWNER y) = 64 ∧
        (t.yard y).ownPend = (s.yard y).ownPend.erase (eff, kind, c) ∧
        s.KeepsPages t lossPages [] ∧
        s.KeepsMem t) ∧
  (∀ q (j : Nat) (data : Word) (s : State),
      s.Takes q (CAP_YOWN.OWNER j).addr →
      clsOf q = .kern →
      (∀ k : Nat, k < 4 → Config.isPrivate (4 * j + k) = true) →
      (∀ k : Nat, k < 4 → data.field (8 * k) 8 ≤ 64) →
      (∀ k : Nat, k < 4 → s.get (Fld.byte CAP_YOWN.OWNER (4 * j + k)) ≤ 64) →
      ∃ t, exec (.capYownWrite q j data) s = .next t ∧
        (∀ k : Nat, k < 4 → t.get (Fld.byte CAP_YOWN.OWNER (4 * j + k)) = (if s.domState (4 * j + k) = 4 ∨ s.get (YRD_STATUS.YARD_FENCED (4 * j + k)) ≠ 0 then 64 else data.field (8 * k) 8)) ∧
        s.KeepsPages t lossPages [] ∧
        s.KeepsMem t)

/-- GATHER_END of a gathering coalescer with notices moves it to COOL with an empty gathered set and queues one inference
of the yard with its 64 source values and its horizon. COOL_END with an empty pending set returns it to IDLE; with
notices it queues an inference and stays in COOL with an empty pending set. With the DRE running and no inference in
flight, the due inference accepted first is dispatched: served by its slot it runs the slot's model on its sources and
counts in DRE_CNT_INFER; not served it is dropped and counts in PIL_CNT_DISCARD. FORECAST_COMPLETE without a governing
notice counts in PIL_CNT_LATE; in time, for a yard not held by maintenance, it waits for the later of now and horizon
minus LEAD x 50 ns; with an uncorrectable error the slot is emptied. Which of equal times governs, and that inputs are
formed at the dispatch, are the model's reading (assumption log 18), and so are sources 43 and 46 where R133 gives no
value (39). Rests on R23, R130, R134, R145, R146, R148, R155, R154, R418, R399. -/
def Obligations.CoalescersFormInputsAndInferencesRun : Prop :=
  (∀ y (s : State),
      (s.yard y).coal = .gather →
      (s.yard y).gathered ≠ [] →
      ∃ t, exec (.gatherEnd y) s = .next t ∧
        (t.yard y).coal = .cool ∧
        (t.yard y).gathered = [] ∧
        ((t.due.map (fun d => (d.yard, d.sources, d.horizon))) = (s.due.map (fun d => (d.yard, d.sources, d.horizon))) ++ [(y, (List.range 64).map (s.source y (s.yard y).gathered), (governing s.sysTime (s.yard y).gathered).map (fun e => e.eff))]) ∧
        (∀ z, z ≠ y → t.yard z = s.yard z) ∧
        s.KeepsRegs t [] ∧
        s.KeepsMem t) ∧
  (∀ y (s : State),
      (s.yard y).coal = .cool →
      (s.yard y).pendingSet = [] →
      ∃ t, exec (.coolEnd y) s = .next t ∧
        (t.yard y).coal = .idle ∧
        t.due = s.due ∧
        (∀ z, z ≠ y → t.yard z = s.yard z) ∧
        s.KeepsRegs t [] ∧
        s.KeepsMem t) ∧
  (∀ y (s : State),
      (s.yard y).coal = .cool →
      (s.yard y).pendingSet ≠ [] →
      ∃ t, exec (.coolEnd y) s = .next t ∧
        (t.yard y).coal = .cool ∧
        (t.yard y).pendingSet = [] ∧
        ((t.due.map (fun d => (d.yard, d.sources, d.horizon))) = (s.due.map (fun d => (d.yard, d.sources, d.horizon))) ++ [(y, (List.range 64).map (s.source y (s.yard y).pendingSet), (governing s.sysTime (s.yard y).pendingSet).map (fun e => e.eff))]) ∧
        (∀ z, z ≠ y → t.yard z = s.yard z) ∧
        s.KeepsRegs t [] ∧
        s.KeepsMem t) ∧
  (∀ e (s : State),
      s.dreOn = true →
      s.fly = none →
      firstInference s.due = some e →
      s.slotServes (s.ymap e.yard) e.yard = true →
      ∃ t, exec (.inferenceDispatch) s = .next t ∧
        t.fly = some { e with slot := s.ymap e.yard, frame := s.get (DRE_SLOT_STAT.FRAME (s.ymap e.yard)), outs := (s.runModel (s.get (DRE_SLOT_STAT.FRAME (s.ymap e.yard))) e.sources).1, commits := s.commits } ∧
        (t.due = s.due.filter (fun x => x.order != e.order)) ∧
        t.get DRE_CNT_INFER.COUNT = min (s.get DRE_CNT_INFER.COUNT + 1) 0xFFFFFFFF ∧
        s.KeepsRegs t [DRE_CNT_INFER.COUNT.addr, DRE_CNT_SAT.COUNT.addr] ∧
        s.KeepsMem t) ∧
  (∀ e (s : State),
      s.dreOn = true →
      s.fly = none →
      firstInference s.due = some e →
      s.slotServes (s.ymap e.yard) e.yard = false →
      ∃ t, exec (.inferenceDispatch) s = .next t ∧
        t.fly = none ∧
        (t.due = s.due.filter (fun x => x.order != e.order)) ∧
        t.get PIL_CNT_DISCARD.COUNT = min (s.get PIL_CNT_DISCARD.COUNT + 1) 0xFFFFFFFF ∧
        s.KeepsRegs t [PIL_CNT_DISCARD.COUNT.addr] ∧
        s.KeepsMem t ∧
        s.KeepsUnits t) ∧
  (∀ e (s : State),
      s.fly = some e →
      e.horizon = none →
      ∃ t, exec (.forecastComplete false) s = .next t ∧
        t.fly = none ∧
        t.get PIL_CNT_LATE.COUNT = min (s.get PIL_CNT_LATE.COUNT + 1) 0xFFFFFFFF ∧
        (t.yard e.yard).waiting = (s.yard e.yard).waiting ∧
        s.KeepsRegs t [PIL_CNT_LATE.COUNT.addr, pgPIL + 0x14] ∧
        s.KeepsMem t) ∧
  (∀ e h (s : State),
      s.fly = some e →
      e.horizon = some h →
      s.sysTime ≤ h →
      (s.yard e.yard).maintHold = false →
      ∃ t, exec (.forecastComplete false) s = .next t ∧
        t.fly = none ∧
        ((t.yard e.yard).waiting.map (fun c => (c.f, c.horizon, c.apply)) = (s.yard e.yard).waiting.map (fun c => (c.f, c.horizon, c.apply)) ++ [(e.outs, h, max s.sysTime (h - 50 * s.get PIL_PRESET.LEAD))]) ∧
        s.KeepsRegs t [] ∧
        s.KeepsMem t) ∧
  (∀ e (s : State),
      s.fly = some e →
      e.slot < 8 →
      ∃ t, exec (.forecastComplete true) s = .next t ∧
        t.fly = none ∧
        t.get (DRE_SLOT_STAT.VALID e.slot) = 0 ∧
        t.get (Fld.bit FLT_ACT.CODE 0x17) = 1 ∧
        s.KeepsPages t (8 :: faultPages) [] ∧
        s.KeepsMem t)

/-- PRESET_APPLY of the one waiting forecast of a running yard, with course not held and the horizon still ahead, makes
each preset in force the larger of its value and the one computed of the forecast at that moment, after HEAT has ended
where the forecast is high; in a yard that is not running the forecast is held. PRESET_HORIZON makes the presets in
force those of the forecast applied last once its horizon has passed. PRESET_END, HOLD_AFTER after the horizon, ends
floor and pre-bias and leaves the pre-raise; PRERAISE_END ends the pre-raise and leaves floor and pre-bias. Memories
stay. How a held forecast is computed anew is the model's reading (assumption log 18). Rests on R147, R148, R149,
R150, R279, R365, R380. -/
def Obligations.PresetsApplyAndEnd : Prop :=
  (∀ y c p (s : State),
      y < Config.yardCount →
      (s.yard y).waiting = [c] →
      s.courseHeld = false →
      s.running y = true →
      s.sysTime < c.horizon →
      (let w := s.setYard y { s.yard y with waiting := [] }; if s.get THM_WARM_LIM.LOAD * s.limit20 y < 100 * fpk c.f then w.endHeat y else w).presetsOf y c.f = p →
      ∃ t, exec (.presetApply y) s = .next t ∧
        (t.yard y).waiting = [] ∧
        (t.yard y).presets = ⟨max (s.yard y).presets.floor p.floor, max (s.yard y).presets.prebias p.prebias, max (s.yard y).presets.raise p.raise⟩ ∧
        s.KeepsPages t (9 :: yardPages ++ faultPages) [] ∧
        s.KeepsMem t) ∧
  (∀ y c (s : State),
      (s.yard y).waiting = [c] →
      s.courseHeld = false →
      s.running y = false →
      ∃ t, exec (.presetApply y) s = .next t ∧
        (t.yard y).waiting = [] ∧
        (t.yard y).held = (s.yard y).held ++ [c] ∧
        (t.yard y).presets = (s.yard y).presets ∧
        s.KeepsRegs t [] ∧
        s.KeepsMem t) ∧
  (∀ y c (s : State),
      y < Config.yardCount →
      (s.yard y).cur = some c →
      c.horizon ≤ s.sysTime →
      ∃ t, exec (.presetHorizon y) s = .next t ∧
        (t.yard y).presets = c.p ∧
        s.KeepsPages t (9 :: yardPages ++ faultPages) [] ∧
        s.KeepsMem t) ∧
  (∀ y c (s : State),
      y < Config.yardCount →
      (s.yard y).cur = some c →
      s.presetsEnd c ≤ s.sysTime →
      ∃ t, exec (.presetEnd y) s = .next t ∧
        (t.yard y).presets = { (s.yard y).presets with floor := 0, prebias := 0 } ∧
        (t.yard y).cur = none ∧
        s.KeepsPages t (9 :: yardPages ++ faultPages) [] ∧
        s.KeepsMem t) ∧
  (∀ y (s : State),
      y < Config.yardCount →
      ∃ t, exec (.preraiseEnd y) s = .next t ∧
        (t.yard y).presets = { (s.yard y).presets with raise := 0 } ∧
        s.KeepsPages t (9 :: yardPages ++ faultPages) [] ∧
        s.KeepsMem t)

/-- DRE_LOAD.GO in way-on service with no load running and a sound spare frame starts a load: LOAD_STATE 1, RESULT 0, and
the load names slot and source. A source read error ends the load with RESULT 7 and LOAD_STATE 0, an event and a count
in DRE_CNT_LOADFAIL. A write of 0 to DRE_CTRL.RUN closes every open collective and drops every staged activity record,
and keeps whatever else the yards hold (the model's choice, assumption log 39); a write of 1 leaves the collectives.
An activity record of four beats in order, with the DRE running, is staged for its yard; at the tick a yard with a
staged record takes its counts, and a yard without one counts in DRE_YSTAT.STALE. That no tick counts while the DRE is
stopped is the model's choice (assumption log 38), and that a load is taken in way-on service only its reading (32).
Rests on R33, R37, R129, R142, R155, R418. -/
def Obligations.BundlesLoadAndActivityIsTaken : Prop :=
  (∀ q slot src (s : State),
      s.Takes q DRE_LOAD.GO.addr →
      src ≤ 2 →
      slot < 8 →
      s.inWayOn = true →
      s.get DRE_STATUS.LOAD_STATE = 0 →
      s.get DRE_STATUS.SPARE < 9 →
      ∃ t, exec (.dreLoadGo q slot src) s = .next t ∧
        t.load = some ⟨slot, src, s.get64 DRE_LOAD_ADDR_LO.ADDR, none⟩ ∧
        t.get DRE_STATUS.LOAD_STATE = 1 ∧
        t.get DRE_LOAD_RES.RESULT = 0 ∧
        s.KeepsRegs t [DRE_LOAD.GO.addr, DRE_STATUS.LOAD_STATE.addr, DRE_LOAD_RES.RESULT.addr] ∧
        s.KeepsMem t ∧
        s.KeepsUnits t) ∧
  (∀ l host (s : State),
      s.load = some l →
      l.src = 1 →
      ∃ t, exec (.bundleFetchDone host true) s = .next t ∧
        t.load = none ∧
        t.get DRE_STATUS.LOAD_STATE = 0 ∧
        t.get DRE_LOAD_RES.RESULT = 7 ∧
        t.get DRE_CNT_LOADFAIL.COUNT = min (s.get DRE_CNT_LOADFAIL.COUNT + 1) 0xFFFFFFFF ∧
        s.KeepsPages t (8 :: faultPages) [] ∧
        s.KeepsPlant t ∧
        s.KeepsMem t) ∧
  (∀ q (s : State),
      s.Takes q DRE_CTRL.RUN.addr →
      ∃ t, exec (.dreCtrlRunWrite q false) s = .next t ∧
        t.get DRE_CTRL.RUN = 0 ∧
        t.openColls = [] ∧
        (∀ y < Config.yardCount, t.yard y = { s.yard y with stage := none, stageOld := false }) ∧
        s.KeepsRegs t [DRE_CTRL.RUN.addr] ∧
        s.KeepsMem t) ∧
  (∀ q (s : State),
      s.Takes q DRE_CTRL.RUN.addr →
      ∃ t, exec (.dreCtrlRunWrite q true) s = .next t ∧
        t.get DRE_CTRL.RUN = 1 ∧
        t.colls = s.colls ∧
        s.KeepsRegs t [DRE_CTRL.RUN.addr] ∧
        s.KeepsMem t ∧
        s.KeepsUnits t) ∧
  (∀ y beats (s : State),
      y < Config.yardCount →
      s.dreOn = true →
      beats.map (fun b => b.1.toNat) = [0, 1, 2, 3] →
      ∃ t, exec (.activityRecord y beats) s = .next t ∧
        (t.yard y).stage = some (activityCounts (beats.map Prod.snd)) ∧
        (∀ z, z ≠ y → t.yard z = s.yard z) ∧
        s.KeepsRegs t [] ∧
        s.KeepsMem t) ∧
  (∀ (s : State),
      s.dreOn = true →
      ∃ t, exec (.activityTick) s = .next t ∧
        (∀ y < Config.yardCount, (s.yard y).stage.isSome = true → (s.yard y).stageOld = false → some (t.yard y).counts = (s.yard y).stage ∧ (t.yard y).stage = none) ∧
        (∀ y < Config.yardCount, (s.yard y).stage = none → t.get (DRE_YSTAT.STALE y) = min (s.get (DRE_YSTAT.STALE y) + 1) (2 ^ (DRE_YSTAT.STALE y).w - 1)) ∧
        (s.KeepsRegs t ((List.range Config.yardCount).map (fun y => (DRE_YSTAT.STALE y).addr))) ∧
        s.KeepsMem t)

/-- A strobe with OT_TB_VALID high and no epoch pending loads system time with its time plus 20 ns, modulo 2^64; a step of
at most 100 ns, or the first load, changes no register. A strobe with OT_TB_VALID low, and TB_VALID_LOSS, leave system
time and mark the time base invalid; TB_VALID_RETURN marks it valid, and with no epoch pending changes no register.
HOST_NOTICE_TAKEN removes the oldest notice. No unit and no memory changes. That TB_VALID_RETURN and a strobe apply
what has come due is the model's reading (assumption log 21), and so is that the queue counts the notice presented
(13). Rests on R38, R40. -/
def Obligations.TimeBaseAndHostNotices : Prop :=
  (∀ (time : BitVec 64) (s : State),
      s.epochs = [] →
      ∃ t, exec (.tbStrobe time true) s = .next t ∧
        t.sysTime = (time.toNat + 20) % 2 ^ 64 ∧
        t.tbValid = true ∧
        t.tbLoaded = true ∧
        (s.tbLoaded = false ∨ (time.toNat + 20) % 2 ^ 64 - s.sysTime + (s.sysTime - (time.toNat + 20) % 2 ^ 64) ≤ 100 → s.KeepsRegs t []) ∧
        s.KeepsMem t ∧
        s.KeepsUnits t) ∧
  (∀ time (s : State),
      ∃ t, exec (.tbStrobe time false) s = .next t ∧
        t.tbValid = false ∧
        t.sysTime = s.sysTime ∧
        s.KeepsMem t ∧
        s.KeepsUnits t) ∧
  (∀ (s : State),
      ∃ t, exec (.tbValidLoss) s = .next t ∧
        t.tbValid = false ∧
        t.sysTime = s.sysTime ∧
        s.KeepsMem t ∧
        s.KeepsUnits t) ∧
  (∀ (s : State),
      s.epochs = [] →
      ∃ t, exec (.tbValidReturn) s = .next t ∧
        t.tbValid = true ∧
        t.sysTime = s.sysTime ∧
        s.KeepsRegs t [] ∧
        s.KeepsMem t ∧
        s.KeepsUnits t) ∧
  (∀ (s : State),
      ∃ t, exec (.hostNoticeTaken) s = .next t ∧
        t.hn = s.hn.drop 1 ∧
        s.KeepsRegs t [] ∧
        s.KeepsMem t ∧
        s.KeepsUnits t)

/-- With no order in flight and OT_SO_REQ equal to OT_SO_ACK, SPEED_ORDER_PLACE puts the next request on the port, toggles
OT_SO_REQ and takes it out of the queue. SO_ACK makes OT_SO_ACK equal OT_SO_REQ. SO_DONE of the order in flight ends
it and makes its frequency and issue rate the yard's; an order that lowers a voltage, with course not held, then sets
YRD_VID.TARGET, but in a yard in the maintenance state, whose set-point stays; a request of the yard that waited for
the order is then judged. SO_TIMEOUT raises its fault and repeats the order once with a new toggle of OT_SO_REQ,
whatever the level of OT_SO_ACK (assumption log 38); after the repeat the yard's frequency is unknown. VF_WAIT_EXPIRY
of a raise still held sets bit 4 of YRD_SHED_EVT and keeps it waiting. Rests on R39, R120, R121, R184, R79, R399,
R124. -/
def Obligations.SpeedOrdersHandshake : Prop :=
  (∀ r (s : State),
      s.soFly = none →
      s.soReq = s.soAck →
      s.nextSpeed = some r →
      ∃ t, exec (.speedOrderPlace) s = .next t ∧
        t.soFly = some ⟨r, false⟩ ∧
        t.soReq = !s.soReq ∧
        (t.yard r.yard).lastOrder = some r ∧
        (t.soQueue = s.soQueue.filter (fun q => q.yard != r.yard)) ∧
        s.KeepsRegs t [] ∧
        s.KeepsMem t) ∧
  (∀ (s : State),
      ∃ t, exec (.soAck) s = .next t ∧
        t.soAck = s.soReq ∧
        s.KeepsRegs t [] ∧
        s.KeepsMem t ∧
        s.KeepsUnits t) ∧
  (∀ f (s : State),
      s.soFly = some f →
      f.req.vid = none →
      (s.yard f.req.yard).speedNext = none →
      ∃ t, exec (.soDone f.req.yard) s = .next t ∧
        t.soFly = none ∧
        (t.yard f.req.yard).fratio = f.req.fratio ∧
        (t.yard f.req.yard).thr = f.req.thr ∧
        (t.yard f.req.yard).fUnknown = false ∧
        s.KeepsRegs t [(PWS_DOM.reg f.req.yard).addr] ∧
        s.KeepsMem t) ∧
  (∀ f code (s : State),
      s.soFly = some f →
      f.req.vid = some code →
      f.req.yard < Config.yardCount →
      code < 1024 →
      s.courseHeld = false →
      (s.yard f.req.yard).speedNext = none →
      ∃ t, exec (.soDone f.req.yard) s = .next t ∧
        t.soFly = none ∧
        (t.yard f.req.yard).fratio = f.req.fratio ∧
        (t.get (YRD_VID.TARGET f.req.yard) = (if s.inMaint f.req.yard then s.get (YRD_VID.TARGET f.req.yard) else code)) ∧
        s.KeepsRegs t [(YRD_VID.reg f.req.yard).addr, (PWS_DOM.reg f.req.yard).addr] ∧
        s.KeepsMem t) ∧
  (∀ f (s : State),
      s.soFly = some f →
      f.again = false →
      ∃ t, exec (.soTimeout) s = .next t ∧
        t.soFly = some ⟨f.req, true⟩ ∧
        t.soReq = !s.soReq ∧
        t.get (Fld.bit FLT_ACT.CODE 3) = 1 ∧
        s.KeepsPages t faultPages [] ∧
        s.KeepsPlant t ∧
        s.KeepsMem t) ∧
  (∀ f (s : State),
      s.soFly = some f →
      f.again = true →
      (s.yard f.req.yard).speedNext = none →
      ∃ t, exec (.soTimeout) s = .next t ∧
        t.soFly = none ∧
        (t.yard f.req.yard).fUnknown = true ∧
        t.get (Fld.bit FLT_ACT.CODE 3) = 1 ∧
        s.KeepsPages t faultPages [] ∧
        s.KeepsMem t) ∧
  (∀ f q (s : State),
      s.soFly = some f →
      (s.yard f.req.yard).speedNext = some q →
      ∃ t, exec (.soDone f.req.yard) s = .next t ∧
        t.soFly = none ∧
        (t.yard f.req.yard).speedNext = none ∧
        s.KeepsMem t) ∧
  (∀ y w (s : State),
      (s.yard y).vfWait = some w →
      ∃ t, exec (.vfWaitExpiry y) s = .next t ∧
        tb (t.get (YRD_SHED_EVT.EVT y)) 4 = true ∧
        (t.yard y).vfWait = some w ∧
        s.KeepsRegs t [(YRD_SHED_EVT.EVT y).addr] ∧
        s.KeepsMem t ∧
        s.KeepsUnits t)

/-- A CCP message with good beats, a type 1 to 3, a device number that fits, a number above the last, a time within the
lead, fewer than eight pending and a valid time base is queued, and its number becomes the last; a message with a bad
beat changes no pending epoch and counts in CAP_CNT_CCPDROP. CANCEL of a pending number, its time within the lead and
fewer than eight pending, removes it. EPOCH_APPLY with the time base valid and course not held takes out the due
epoch: a MODE epoch, not under LOCK, writes CAP_MODE.MODE; a device cap epoch writes CAP_DEV_INST, a context cap epoch
the context's cap. That EPOCH_APPLY takes the earliest, of equal times the lowest number, and what case 4 of R252
leaves of CANCEL, are the model's reading (assumption logs 20 and 21). Rests on R240, R252, R253, R267, R418. -/
def Obligations.EpochsQueueCancelAndApply : Prop :=
  (∀ b (s : State),
      1 ≤ beatField b 0 56 8 →
      beatField b 0 56 8 ≤ 3 →
      s.ccpCheck b true = 0 →
      s.lastEpoch.all (fun l => decide (l < beatField b 0 0 32)) = true →
      s.sysTime ≤ beatField b 1 0 64 →
      beatField b 1 0 64 ≤ s.sysTime + 1000000 * s.get CAP_EPOCH.MAX_LEAD →
      s.epochs.length < 8 →
      s.tbValid = true →
      ∃ t, exec (.ccpEpochMessage b) s = .next t ∧
        t.lastEpoch = some (beatField b 0 0 32) ∧
        t.epochs = s.epochs ++ [⟨beatField b 0 56 8, beatField b 0 0 32, beatField b 1 0 64, beatField b 2 26 6, beatField b 2 0 16⟩] ∧
        s.KeepsRegs t [] ∧
        s.KeepsMem t ∧
        s.KeepsUnits t) ∧
  (∀ b (s : State),
      beatField b 0 56 8 ≠ 4 →
      b.any (fun x => !x.2) = true →
      ∃ t, exec (.ccpEpochMessage b) s = .next t ∧
        t.epochs = s.epochs ∧
        t.lastEpoch = s.lastEpoch ∧
        t.get CAP_CNT_CCPDROP.COUNT = min (s.get CAP_CNT_CCPDROP.COUNT + 1) 0xFFFFFFFF ∧
        s.KeepsMem t ∧
        s.KeepsUnits t) ∧
  (∀ b (s : State),
      s.ccpCheck b true = 0 →
      s.tbValid = true →
      beatField b 1 0 64 ≤ s.sysTime + 1000000 * s.get CAP_EPOCH.MAX_LEAD →
      s.epochs.length < 8 →
      s.epochs.any (fun e => e.number == beatField b 0 0 32) = true →
      ∃ t, exec (.ccpCancel b) s = .next t ∧
        (t.epochs = s.epochs.filter (fun e => e.number != beatField b 0 0 32)) ∧
        t.lastEpoch = s.lastEpoch ∧
        s.KeepsRegs t [] ∧
        s.KeepsMem t ∧
        s.KeepsUnits t) ∧
  (∀ e (s : State),
      s.tbValid = true →
      s.courseHeld = false →
      s.dueEpoch = some e →
      e.type = 3 →
      e.value ≤ 3 →
      s.get CAP_MODE.LOCK = 0 →
      ∃ t, exec (.epochApply) s = .next t ∧
        (t.epochs = s.epochs.filter (fun x => x.number != e.number)) ∧
        t.get CAP_MODE.MODE = e.value ∧
        t.get CAP_CNT_EPOCH.COUNT = min (s.get CAP_CNT_EPOCH.COUNT + 1) 0xFFFFFFFF ∧
        s.KeepsRegs t [CAP_MODE.reg.addr, CAP_CNT_EPOCH.COUNT.addr, pgCAP + 0x14] ∧
        s.KeepsMem t ∧
        s.KeepsUnits t) ∧
  (∀ e (s : State),
      s.tbValid = true →
      s.courseHeld = false →
      s.dueEpoch = some e →
      e.type = 1 →
      ∃ t, exec (.epochApply) s = .next t ∧
        (t.epochs = s.epochs.filter (fun x => x.number != e.number)) ∧
        t.get CAP_DEV_INST.INST = e.value % 2 ^ CAP_DEV_INST.INST.w ∧
        t.get CAP_CNT_EPOCH.COUNT = min (s.get CAP_CNT_EPOCH.COUNT + 1) 0xFFFFFFFF ∧
        s.KeepsPages t (0xA :: faultPages) [] ∧
        s.KeepsMem t) ∧
  (∀ e (s : State),
      s.tbValid = true →
      s.courseHeld = false →
      s.dueEpoch = some e →
      e.type = 2 →
      e.ctx < 64 →
      e.value < 65536 →
      ∃ t, exec (.epochApply) s = .next t ∧
        (t.epochs = s.epochs.filter (fun x => x.number != e.number)) ∧
        t.get (ctxCapF e.ctx) = e.value ∧
        t.get CAP_CNT_EPOCH.COUNT = min (s.get CAP_CNT_EPOCH.COUNT + 1) 0xFFFFFFFF ∧
        s.KeepsPages t (0xA :: faultPages) [] ∧
        s.KeepsMem t)

/-- SUPERFRAME, with no wake, release, warming, claim of a remount or substitution to attend to on its segment, sends SYNC
with the CRC of the ten sharing words, the words, and the keep-alive read of the next bay in RUN, and advances the
frame number modulo 256. A SYNC with a right CRC gives every bay of the segment that is not silent the CRC-16, clears
its misses and ends its holding; a missed SYNC counts, and the fourth in a row makes the bay hold. Sharing words that
match the CRC-16 change the share offsets of a bay not in all hands by its two deltas; words that do not count in
BAY_CNT_ERR.BUS and change no offset. TRIM, SETPOINT and PRESET with a right CRC act on each listening bay of the
segment with the yard's index that follows them: at once, or stored while it is in all hands. With a wrong CRC a word
of these changes no trim and counts in BAY_CNT_ERR.BUS of every listening bay of the segment. That a decode acts on
what it spells, and sharing words carry deltas by position (assumption log 7), that a stored SETPOINT whose horizon
has passed takes its code without the pre-raise, and that a pre-bias of 21 to 31 is taken as it stands (39), are the
model's choices. Rests on R57, R61, R66, R67, R68, R72, R73, R78. -/
def Obligations.YardWordsReachTheirBays : Prop :=
  (∀ seg (s : State),
      seg < Config.segments →
      (∀ y < Config.yardCount, firstSeg y = seg → (s.dom y).step ≠ .waitSuper ∧ s.hotBays y = [] ∧ ∀ b ∈ reach y, (s.bay b).releasing = false) →
      s.substWait = [] →
      s.far ≠ .applying →
      (seg = 0 → s.claims = []) →
      ∃ t, exec (.superframe seg) s = .next t ∧
        (t.sent = s.sent.filter (fun e => !(e.share && e.seg == seg)) ++ [⟨seg, syncWord (Tab.get (fun _ => 0) s.sfn seg) (shareCrc (s.sharingWords seg)), false⟩] ++ (s.sharingWords seg).map (Sent.mk seg · true) ++ (match s.nextKeepAlive seg with | some b => [⟨seg, cfgRdWord (b % 80) 0, false⟩] | none => [])) ∧
        (Tab.get (fun _ => 0) t.sfn seg = (Tab.get (fun _ => 0) s.sfn seg + 1) % 256) ∧
        s.KeepsRegs t [] ∧
        s.KeepsMem t) ∧
  (∀ seg sfn share crc (s : State),
      fbbOk (withCrc (syncWord sfn.toNat share.toNat) crc) = true →
      ∃ t, exec (.sync seg sfn share crc) s = .next t ∧
        (∀ b ∈ segBays seg, (s.bay b).silent = false → (t.bay b).syncCrc = some share ∧ (t.bay b).missed = 0 ∧ (t.bay b).holding = false ∧ (t.bay b).events = (if (s.bay b).holding then (s.bay b).events ||| 1 else (s.bay b).events)) ∧
        s.KeepsRegs t [] ∧
        s.KeepsMem t) ∧
  (∀ b (s : State),
      Config.bayFitted b = true →
      (s.bay b).silent = false →
      ∃ t, exec (.syncLost b false) s = .next t ∧
        (t.bay b).missed = (s.bay b).missed + 1 ∧
        (t.bay b).syncCrc = none ∧
        (t.bay b).holding = ((s.bay b).holding || decide (4 ≤ (s.bay b).missed + 1)) ∧
        (t.bay b).events = (s.bay b).events ||| 1 ∧
        (∀ c, c ≠ b → t.bay c = s.bay c) ∧
        s.KeepsRegs t [(BAY_REF.reg b).addr] ∧
        s.KeepsMem t) ∧
  (∀ b words c (s : State),
      Config.bayFitted b = true →
      (s.bay b).silent = false →
      (s.bay b).holding = false →
      (s.bay b).syncCrc = some c →
      shareCrc words = c.toNat →
      (s.bay b).allHands = false →
      ∃ t, exec (.sharingApply b words) s = .next t ∧
        t.getI (BAY_SHARE.PH0_OFS b) = applyDelta (s.getI (BAY_SHARE.PH0_OFS b)) ((words.getD (b % 80 / 8) 0).field (4 * (b % 8)) 2) ∧
        t.getI (BAY_SHARE.PH1_OFS b) = applyDelta (s.getI (BAY_SHARE.PH1_OFS b)) ((words.getD (b % 80 / 8) 0).field (4 * (b % 8) + 2) 2) ∧
        s.KeepsRegs t [(BAY_SHARE.reg b).addr] ∧
        s.KeepsMem t ∧
        s.KeepsUnits t) ∧
  (∀ b words c (s : State),
      Config.bayFitted b = true →
      (s.bay b).silent = false →
      (s.bay b).holding = false →
      (s.bay b).syncCrc = some c →
      shareCrc words ≠ c.toNat →
      ∃ t, exec (.sharingApply b words) s = .next t ∧
        t.get (BAY_CNT_ERR.BUS b) = min (s.get (BAY_CNT_ERR.BUS b) + 1) (2 ^ (BAY_CNT_ERR.BUS b).w - 1) ∧
        (t.bay b).events = (s.bay b).events ||| 2 ∧
        (∀ c, c ≠ b → t.bay c = s.bay c) ∧
        s.KeepsRegs t [(BAY_CNT_ERR.BUS b).addr] ∧
        s.KeepsMem t) ∧
  (∀ seg y (v : BitVec 12) crc b (s : State),
      fbbOk (withCrc (trimWord y v.toInt) crc) = true →
      b ∈ s.listeners seg →
      (s.bay b).yard = y % 128 →
      (s.bay b).followsTrim = true →
      ∃ t, exec (.trim seg y v crc) s = .next t ∧
        ((s.bay b).allHands = false → t.get (BAY_REF.TRIM b) = v.toNat) ∧
        ((s.bay b).allHands = true → (t.bay b).storedTrim = some v ∧ t.get (BAY_REF.TRIM b) = s.get (BAY_REF.TRIM b)) ∧
        (s.KeepsRegs t ((s.listeners seg).map (fun c => (BAY_REF.reg c).addr))) ∧
        s.KeepsMem t) ∧
  (∀ seg y (v : BitVec 12) crc b (s : State),
      fbbOk (withCrc (trimWord y v.toInt) crc) = false →
      b ∈ s.listeners seg →
      ∃ t, exec (.trim seg y v crc) s = .next t ∧
        t.get (BAY_REF.TRIM b) = s.get (BAY_REF.TRIM b) ∧
        t.get (BAY_CNT_ERR.BUS b) = min (s.get (BAY_CNT_ERR.BUS b) + 1) (2 ^ (BAY_CNT_ERR.BUS b).w - 1) ∧
        (t.bay b).events = (s.bay b).events ||| 2 ∧
        (s.KeepsRegs t ((s.listeners seg).map (fun c => (BAY_CNT_ERR.BUS c).addr))) ∧
        s.KeepsMem t) ∧
  (∀ seg y code slew crc b (s : State),
      fbbOk (withCrc (setpointWord y code slew) crc) = true →
      b ∈ s.listeners seg →
      (s.bay b).yard = y % 128 →
      (s.bay b).followsSet = true →
      ∃ t, exec (.setpoint seg y code slew crc) s = .next t ∧
        ((s.bay b).allHands = false → (t.bay b).target = code % 1024 ∧ (t.bay b).slew = slew % 16) ∧
        ((s.bay b).allHands = true → (t.bay b).storedSet = some (s.storedSet (y % 128) (code % 1024) (slew % 16)) ∧ (t.bay b).target = (s.bay b).target) ∧
        (s.KeepsRegs t ((s.listeners seg).map (fun c => (BAY_REF.reg c).addr))) ∧
        s.KeepsMem t) ∧
  (∀ seg y p crc b (s : State),
      fbbOk (withCrc (presetWord y p) crc) = true →
      b ∈ s.listeners seg →
      (s.bay b).yard = y % 128 →
      (s.bay b).followsTrim = true →
      ∃ t, exec (.preset seg y p crc) s = .next t ∧
        ((s.bay b).allHands = false → t.get (BAY_REF.PREBIAS b) = p % 32) ∧
        ((s.bay b).allHands = true → (t.bay b).storedPre = some (p % 32, s.presetHorizon (y % 128) (p % 32)) ∧ t.get (BAY_REF.PREBIAS b) = s.get (BAY_REF.PREBIAS b)) ∧
        (s.KeepsRegs t ((s.listeners seg).map (fun c => (BAY_REF.reg c).addr))) ∧
        s.KeepsMem t)

/-- A PHASE word with a right CRC reaches the bay of its slot where it listens. ADD in RUN, outside all hands, makes each
phase it names ACTIVE, in the bay and, where it is not recorded FAILED, in Oteus's record, but for one TRIPPED or
FAILED, and leaves the other phase; in all hands it is stored. SHED_PREP makes a named ACTIVE phase SHED_PREP and is
discarded in all hands; CANCEL makes a named SHED_PREP phase ACTIVE; CLEAR_TRIP makes a named TRIPPED phase COLD. The
last three change only the bay's record and no other bay. That a decode acts on what it spells is the model's choice
(assumption log 7). Rests on R60, R61, R63, R67. -/
def Obligations.PhaseOrdersActOnNamedPhases : Prop :=
  (∀ seg slot ph1 ph0 crc b (s : State),
      fbbOk (withCrc (phaseWord slot ph1 ph0 0) crc) = true →
      b = 80 * seg + slot →
      b ∈ s.listeners seg →
      (s.bay b).st = .run →
      (s.bay b).allHands = false →
      ∃ t, exec (.add seg slot ph1 ph0 crc) s = .next t ∧
        (∀ ph, ((s.bay b).ph ph).st.out = false → (if ph then ph1 else ph0) = true → ((t.bay b).ph ph).st = .active ∧ (s.get (PhF b ph) ≠ 5 → t.get (PhF b ph) = 2)) ∧
        (∀ ph, (if ph then ph1 else ph0) = false → (t.bay b).ph ph = (s.bay b).ph ph) ∧
        (∀ c, c ≠ b → t.bay c = s.bay c) ∧
        s.KeepsPages t (yardPages ++ faultPages) [(BAY_STATE.reg b).addr, (BAY_REF.reg b).addr] ∧
        s.KeepsMem t) ∧
  (∀ seg slot ph1 ph0 crc b (s : State),
      fbbOk (withCrc (phaseWord slot ph1 ph0 0) crc) = true →
      b = 80 * seg + slot →
      b ∈ s.listeners seg →
      (s.bay b).st = .run →
      (s.bay b).allHands = true →
      ∃ t, exec (.add seg slot ph1 ph0 crc) s = .next t ∧
        (∀ ph, ((s.bay b).ph ph).st.out = false → (if ph then ph1 else ph0) = true → ((t.bay b).ph ph).addStored = true ∧ ((t.bay b).ph ph).st = ((s.bay b).ph ph).st) ∧
        (∀ ph, (if ph then ph1 else ph0) = false → (t.bay b).ph ph = (s.bay b).ph ph) ∧
        (∀ c, c ≠ b → t.bay c = s.bay c) ∧
        s.KeepsPages t (yardPages ++ faultPages) [(BAY_STATE.reg b).addr, (BAY_REF.reg b).addr] ∧
        s.KeepsMem t) ∧
  (∀ seg slot ph1 ph0 crc b (s : State),
      fbbOk (withCrc (phaseWord slot ph1 ph0 1) crc) = true →
      b = 80 * seg + slot →
      b ∈ s.listeners seg →
      (s.bay b).st ≠ .fenced →
      (s.bay b).st ≠ .connect →
      (s.bay b).st ≠ .absent →
      ∃ t, exec (.shedPrep seg slot ph1 ph0 crc) s = .next t ∧
        (∀ ph, (if ph then ph1 else ph0) = true → ((s.bay b).ph ph).st = .active → ((t.bay b).ph ph).st = (if (s.bay b).allHands then .active else .shedPrep) ∧ ((s.bay b).allHands = false → s.get (PhF b ph) ≠ 5 → t.get (PhF b ph) = 3)) ∧
        (∀ c, c ≠ b → t.bay c = s.bay c) ∧
        s.KeepsRegs t [(BAY_STATE.reg b).addr] ∧
        s.KeepsMem t) ∧
  (∀ seg slot ph1 ph0 crc b (s : State),
      fbbOk (withCrc (phaseWord slot ph1 ph0 2) crc) = true →
      b = 80 * seg + slot →
      b ∈ s.listeners seg →
      (s.bay b).st ≠ .fenced →
      (s.bay b).st ≠ .connect →
      (s.bay b).st ≠ .absent →
      ∃ t, exec (.cancel seg slot ph1 ph0 crc) s = .next t ∧
        (∀ ph, (if ph then ph1 else ph0) = true → ((s.bay b).ph ph).st = .shedPrep → ((t.bay b).ph ph).st = .active ∧ ((s.bay b).allHands = false → s.get (PhF b ph) ≠ 5 → t.get (PhF b ph) = 2)) ∧
        (∀ c, c ≠ b → t.bay c = s.bay c) ∧
        s.KeepsRegs t [(BAY_STATE.reg b).addr] ∧
        s.KeepsMem t) ∧
  (∀ seg slot ph1 ph0 crc b (s : State),
      fbbOk (withCrc (phaseWord slot ph1 ph0 3) crc) = true →
      b = 80 * seg + slot →
      b ∈ s.listeners seg →
      (s.bay b).st ≠ .fenced →
      (s.bay b).st ≠ .connect →
      (s.bay b).st ≠ .absent →
      ∃ t, exec (.clearTrip seg slot ph1 ph0 crc) s = .next t ∧
        (∀ ph, (if ph then ph1 else ph0) = true → ((s.bay b).ph ph).st = .tripped → ((t.bay b).ph ph).st = .cold ∧ (s.get (PhF b ph) ≠ 5 → t.get (PhF b ph) = 0)) ∧
        (∀ c, c ≠ b → t.bay c = s.bay c) ∧
        s.KeepsRegs t [(BAY_STATE.reg b).addr] ∧
        s.KeepsMem t)

/-- A BAY_STATE word with a right CRC reaches the bay of its slot where it listens. OFF from any state but FENCED and
CONNECT leaves the bay OFF with TRIM and VID_NOW 0 (assumption log 2); READY from OFF, READY, RUN or HEAT leaves it
READY; RUN from OFF, READY or HEAT, with phase 0 neither TRIPPED nor FAILED, leaves it in RUN with phase 0 ACTIVE, and
with phase 0 out but phase 1 not, with phase 1 ACTIVE; HEAT from READY or RUN leaves it in HEAT, outside all hands
with each phase that is not out WARM; FENCE from any state but CONNECT leaves it FENCED; RELEASE of a fenced bay with
no phase FAILED or recorded FAILED and no disconnect running leaves it OFF with its service yard. Each is shown in
BAY_STATE.STATE, and no other bay changes. That the phases of a bay in HEAT have the code of WARM is the model's
choice (39), and that a decode acts on what it spells (7). Rests on R59, R67, R278, R430, R431, R78. -/
def Obligations.BayStateOrdersMoveTheBay : Prop :=
  (∀ seg slot crc b (s : State),
      fbbOk (withCrc (bayStateWord slot 0) crc) = true →
      b = 80 * seg + slot →
      b ∈ s.listeners seg →
      (s.bay b).st ≠ .fenced →
      (s.bay b).st ≠ .connect →
      (s.bay b).st ≠ .absent →
      ∃ t, exec (.bayStateOff seg slot crc) s = .next t ∧
        (t.bay b).st = .off ∧
        t.get (BAY_STATE.STATE b) = 1 ∧
        (∀ c, c ≠ b → t.bay c = s.bay c) ∧
        s.KeepsPages t (yardPages ++ faultPages) [(BAY_STATE.reg b).addr, (BAY_REF.reg b).addr] ∧
        s.KeepsMem t ∧
        t.get (BAY_REF.TRIM b) = 0 ∧
        t.get (BAY_REF.VID_NOW b) = 0) ∧
  (∀ seg slot crc b (s : State),
      fbbOk (withCrc (bayStateWord slot 1) crc) = true →
      b = 80 * seg + slot →
      b ∈ s.listeners seg →
      ((s.bay b).st = .off ∨ (s.bay b).st = .ready ∨ (s.bay b).st = .run ∨ (s.bay b).st = .heat) →
      ∃ t, exec (.bayStateReady seg slot crc) s = .next t ∧
        (t.bay b).st = .ready ∧
        t.get (BAY_STATE.STATE b) = 2 ∧
        (∀ c, c ≠ b → t.bay c = s.bay c) ∧
        s.KeepsPages t (yardPages ++ faultPages) [(BAY_STATE.reg b).addr, (BAY_REF.reg b).addr] ∧
        s.KeepsMem t) ∧
  (∀ seg slot crc b (s : State),
      fbbOk (withCrc (bayStateWord slot 2) crc) = true →
      b = 80 * seg + slot →
      b ∈ s.listeners seg →
      ((s.bay b).st = .off ∨ (s.bay b).st = .ready ∨ (s.bay b).st = .heat) →
      (s.bay b).p0.st.out = false →
      ∃ t, exec (.bayStateRun seg slot crc) s = .next t ∧
        (t.bay b).st = .run ∧
        t.get (BAY_STATE.STATE b) = 3 ∧
        (∀ c, c ≠ b → t.bay c = s.bay c) ∧
        s.KeepsPages t (yardPages ++ faultPages) [(BAY_STATE.reg b).addr, (BAY_REF.reg b).addr] ∧
        s.KeepsMem t ∧
        (t.bay b).p0.st = .active ∧
        (t.bay b).p1 = (s.bay b).p1) ∧
  (∀ seg slot crc b (s : State),
      fbbOk (withCrc (bayStateWord slot 2) crc) = true →
      b = 80 * seg + slot →
      b ∈ s.listeners seg →
      ((s.bay b).st = .off ∨ (s.bay b).st = .ready ∨ (s.bay b).st = .heat) →
      (s.bay b).p0.st.out = true →
      (s.bay b).p1.st.out = false →
      ∃ t, exec (.bayStateRun seg slot crc) s = .next t ∧
        (t.bay b).st = .run ∧
        t.get (BAY_STATE.STATE b) = 3 ∧
        (∀ c, c ≠ b → t.bay c = s.bay c) ∧
        s.KeepsPages t (yardPages ++ faultPages) [(BAY_STATE.reg b).addr, (BAY_REF.reg b).addr] ∧
        s.KeepsMem t ∧
        (t.bay b).p1.st = .active ∧
        (t.bay b).p0 = (s.bay b).p0) ∧
  (∀ seg slot crc b (s : State),
      fbbOk (withCrc (bayStateWord slot 3) crc) = true →
      b = 80 * seg + slot →
      b ∈ s.listeners seg →
      ((s.bay b).st = .ready ∨ (s.bay b).st = .run) →
      ∃ t, exec (.bayStateHeat seg slot crc) s = .next t ∧
        (t.bay b).st = .heat ∧
        t.get (BAY_STATE.STATE b) = 4 ∧
        (∀ c, c ≠ b → t.bay c = s.bay c) ∧
        s.KeepsPages t (yardPages ++ faultPages) [(BAY_STATE.reg b).addr, (BAY_REF.reg b).addr] ∧
        s.KeepsMem t ∧
        ((s.bay b).allHands = false → ∀ ph, ((s.bay b).ph ph).st.out = false → ((t.bay b).ph ph).st = .warm)) ∧
  (∀ seg slot crc b (s : State),
      fbbOk (withCrc (bayStateWord slot 4) crc) = true →
      b = 80 * seg + slot →
      b ∈ s.listeners seg →
      (s.bay b).st ≠ .fenced →
      (s.bay b).st ≠ .connect →
      (s.bay b).st ≠ .absent →
      ∃ t, exec (.bayStateFence seg slot crc) s = .next t ∧
        (t.bay b).st = .fenced ∧
        t.get (BAY_STATE.STATE b) = 6 ∧
        (∀ c, c ≠ b → t.bay c = s.bay c) ∧
        s.KeepsPages t (yardPages ++ faultPages) [(BAY_STATE.reg b).addr, (BAY_REF.reg b).addr] ∧
        s.KeepsMem t ∧
        (∀ ph, ((s.bay b).ph ph).st.out = false → ((t.bay b).ph ph).st = .cold)) ∧
  (∀ seg slot crc b (s : State),
      fbbOk (withCrc (bayStateWord slot 5) crc) = true →
      b = 80 * seg + slot →
      b ∈ s.listeners seg →
      (s.bay b).st = .fenced →
      (s.bay b).p0.st ≠ .failed →
      (s.bay b).p1.st ≠ .failed →
      s.get (PhF b false) ≠ 5 →
      s.get (PhF b true) ≠ 5 →
      (s.bay b).discStep = 0 →
      ∃ t, exec (.bayStateRelease seg slot crc) s = .next t ∧
        (t.bay b).st = .off ∧
        t.get (BAY_STATE.STATE b) = 1 ∧
        (∀ c, c ≠ b → t.bay c = s.bay c) ∧
        s.KeepsPages t (yardPages ++ faultPages) [(BAY_STATE.reg b).addr, (BAY_REF.reg b).addr] ∧
        s.KeepsMem t ∧
        (t.bay b).yard = (Config.serviceYard b).getD 127)

/-- REMOUNT CONNECT brings a remount that is OFF, has no yard and is not assigned to its other neighbour into CONNECT
towards the neighbour on the side named, whose state allows it. REMOUNT DISCONNECT of a connected remount not already
leaving, and not in CONNECT, starts its disconnect. The switch-in, with no substitution waiting and the bay not
holding course, goes from step 0 to 1 and 2, at step 3 it takes the yard's index, shown in BAY_STATE.YARD; at step 4
the yard's SETPOINT and PRESET go out on its segments, unless its all hands, an unknown frequency, a silent segment or
its ramp down withholds them, the bay is in RUN with phase 0 ACTIVE and its share offsets are zero; from there it ends
and counts in YRD_CNT_REMOUNT. With its condition failed, step 1 is not taken (the model's choice, assumption log 39),
and step 3 leaves the bay OFF with PROT set. The disconnect gives up the yard at its first step, opens the switch at
the second and ends OFF, or FENCED where the bay was fenced. That the steps come as commands is assumption log 2, and
claims of one remount are settled as log 38 says. Rests on R39, R61, R67, R69, R72, R73, R76, R78, R79. -/
def Obligations.RemountsSwitchInAndOut : Prop :=
  (∀ seg slot side crc b y (s : State),
      fbbOk (withCrc (remountWord slot side true) crc) = true →
      b = 80 * seg + slot →
      b ∈ s.listeners seg →
      remountYard b side = some y →
      (s.bay b).st = .off →
      (s.bay b).discStep = 0 →
      (s.bay b).yard = 127 →
      ((s.bay b).assigned = none ∨ (s.bay b).assigned = some y) →
      s.joinable y = true →
      ∃ t, exec (.remountConnect seg slot side crc) s = .next t ∧
        (t.bay b).st = .connect ∧
        (t.bay b).connStep = 0 ∧
        (t.bay b).connTo = y ∧
        t.get (BAY_STATE.STATE b) = 7 ∧
        (∀ c, c ≠ b → t.bay c = s.bay c) ∧
        s.KeepsPages t (yardPages ++ faultPages) [(BAY_STATE.reg b).addr, (BAY_REF.reg b).addr] ∧
        s.KeepsMem t) ∧
  (∀ seg slot side crc b (s : State),
      fbbOk (withCrc (remountWord slot side false) crc) = true →
      b = 80 * seg + slot →
      b ∈ s.listeners seg →
      (Config.remountLow b).isSome = true →
      (s.bay b).st ≠ .connect →
      (s.bay b).yard ≠ 127 →
      (s.bay b).discStep = 0 →
      ∃ t, exec (.remountDisconnect seg slot side crc) s = .next t ∧
        (t.bay b).discStep = 1 ∧
        ((t.bay b).discTo = (if (s.bay b).st = .fenced then .fenced else .off)) ∧
        (∀ c, c ≠ b → t.bay c = s.bay c) ∧
        s.KeepsPages t (yardPages ++ faultPages) [(BAY_STATE.reg b).addr, (BAY_REF.reg b).addr] ∧
        s.KeepsMem t) ∧
  (∀ b (s : State),
      (s.bay b).st = .connect →
      (s.bay b).discStep = 0 →
      (s.bay b).holding = false →
      (s.bay b).connStep = 0 →
      s.substWait = [] →
      s.far ≠ .applying →
      ∃ t, exec (.remountConnectStep b false) s = .next t ∧
        (t.bay b).connStep = 0 ∧
        (t.bay b).st = .connect ∧
        (∀ c, c ≠ b → t.bay c = s.bay c) ∧
        s.KeepsRegs t [] ∧
        s.KeepsMem t) ∧
  (∀ b (s : State),
      (s.bay b).st = .connect →
      (s.bay b).discStep = 0 →
      (s.bay b).holding = false →
      (s.bay b).connStep = 0 →
      s.substWait = [] →
      s.far ≠ .applying →
      ∃ t, exec (.remountConnectStep b true) s = .next t ∧
        (t.bay b).connStep = 1 ∧
        (∀ c, c ≠ b → t.bay c = s.bay c) ∧
        s.KeepsRegs t [] ∧
        s.KeepsMem t) ∧
  (∀ b ok (s : State),
      (s.bay b).st = .connect →
      (s.bay b).discStep = 0 →
      (s.bay b).holding = false →
      (s.bay b).connStep = 1 →
      s.substWait = [] →
      s.far ≠ .applying →
      ∃ t, exec (.remountConnectStep b ok) s = .next t ∧
        (t.bay b).connStep = 2 ∧
        (∀ c, c ≠ b → t.bay c = s.bay c) ∧
        s.KeepsRegs t [] ∧
        s.KeepsMem t) ∧
  (∀ b (s : State),
      (s.bay b).st = .connect →
      (s.bay b).discStep = 0 →
      (s.bay b).holding = false →
      (s.bay b).connStep = 2 →
      (s.bay b).cmdTags = [] →
      s.substWait = [] →
      s.far ≠ .applying →
      ∃ t, exec (.remountConnectStep b false) s = .next t ∧
        (t.bay b).st = .off ∧
        (t.bay b).connStep = 0 ∧
        (t.bay b).events = (s.bay b).events ||| 0x10 ∧
        t.get (BAY_STATE.STATE b) = 1 ∧
        (∀ c, c ≠ b → t.bay c = s.bay c) ∧
        s.KeepsPages t (yardPages ++ faultPages) [(BAY_STATE.reg b).addr, (BAY_REF.reg b).addr] ∧
        s.KeepsMem t) ∧
  (∀ b y ok (s : State),
      (s.bay b).st = .connect →
      (s.bay b).discStep = 0 →
      (s.bay b).holding = false →
      (s.bay b).connStep = 3 →
      (s.bay b).connTo = y →
      (s.bay b).p0.st.out = false →
      s.get (YRD_STATUS.ALL_HANDS y) = 0 →
      (s.yard y).fUnknown = false →
      s.setFrozen y = false →
      s.setLow y = false →
      s.substWait = [] →
      s.far ≠ .applying →
      ∃ t, exec (.remountConnectStep b ok) s = .next t ∧
        (t.bay b).st = .run ∧
        (t.bay b).connStep = 4 ∧
        (t.bay b).p0.st = .active ∧
        (t.bay b).p1 = (s.bay b).p1 ∧
        t.get (BAY_STATE.STATE b) = 3 ∧
        t.getI (BAY_SHARE.PH0_OFS b) = 0 ∧
        t.getI (BAY_SHARE.PH1_OFS b) = 0 ∧
        t.sent = s.sent ++ (s.segsOf y).map (Sent.mk · (setpointWord y (s.videff y) (s.slewCode y)) false) ++ (s.segsOf y).map (Sent.mk · (presetWord y (s.get (YRD_OFFSETS.PREBIAS y))) false) ∧
        (∀ c, c ≠ b → t.bay c = s.bay c) ∧
        s.KeepsPages t (yardPages ++ faultPages) [(BAY_STATE.reg b).addr, (BAY_REF.reg b).addr, (BAY_SHARE.reg b).addr] ∧
        s.KeepsMem t) ∧
  (∀ b (s : State),
      (s.bay b).st = .connect →
      (s.bay b).discStep = 0 →
      (s.bay b).holding = false →
      (s.bay b).connStep = 2 →
      (s.bay b).connTo < Config.yardCount →
      s.substWait = [] →
      s.far ≠ .applying →
      ∃ t, exec (.remountConnectStep b true) s = .next t ∧
        (t.bay b).connStep = 3 ∧
        (t.bay b).yard = (s.bay b).connTo ∧
        t.get (BAY_STATE.YARD b) = (s.bay b).connTo ∧
        (∀ c, c ≠ b → t.bay c = s.bay c) ∧
        s.KeepsPages t (yardPages ++ faultPages) [(BAY_STATE.reg b).addr, (BAY_REF.reg b).addr] ∧
        s.KeepsMem t) ∧
  (∀ b ok (s : State),
      (s.bay b).st = .run →
      (s.bay b).connStep = 4 →
      (s.bay b).connTo < Config.yardCount →
      s.substWait = [] →
      s.far ≠ .applying →
      ∃ t, exec (.remountConnectStep b ok) s = .next t ∧
        (t.bay b).connStep = 0 ∧
        t.get (YRD_CNT_REMOUNT.COUNT (s.bay b).connTo) = min (s.get (YRD_CNT_REMOUNT.COUNT (s.bay b).connTo) + 1) (2 ^ (YRD_CNT_REMOUNT.COUNT (s.bay b).connTo).w - 1) ∧
        (∀ c, c ≠ b → t.bay c = s.bay c) ∧
        s.KeepsPages t (yardPages ++ faultPages) [(BAY_STATE.reg b).addr, (BAY_REF.reg b).addr] ∧
        s.KeepsMem t) ∧
  (∀ b (s : State),
      (s.bay b).discStep = 1 →
      ∃ t, exec (.remountDisconnectStep b) s = .next t ∧
        (t.bay b).discStep = 2 ∧
        (t.bay b).yard = 127 ∧
        t.get (BAY_STATE.YARD b) = 127 ∧
        (∀ c, c ≠ b → t.bay c = s.bay c) ∧
        s.KeepsPages t (yardPages ++ faultPages) [(BAY_STATE.reg b).addr, (BAY_REF.reg b).addr] ∧
        s.KeepsMem t) ∧
  (∀ b (s : State),
      (s.bay b).discStep = 2 →
      ∃ t, exec (.remountDisconnectStep b) s = .next t ∧
        (t.bay b).discStep = 3 ∧
        (∀ c, c ≠ b → t.bay c = s.bay c) ∧
        s.KeepsRegs t [] ∧
        s.KeepsMem t) ∧
  (∀ b (s : State),
      (s.bay b).discStep = 3 →
      ∃ t, exec (.remountDisconnectStep b) s = .next t ∧
        (t.bay b).discStep = 0 ∧
        (t.bay b).st = (s.bay b).discTo ∧
        (∀ c, c ≠ b → t.bay c = s.bay c) ∧
        s.KeepsPages t (yardPages ++ faultPages) [(BAY_STATE.reg b).addr, (BAY_REF.reg b).addr] ∧
        s.KeepsMem t)

/-- CFG_WR with a right CRC writes the bay register it names of the bay of its slot: 1 clears events, 2 the window width,
3 the droop threshold, 4 and 5 the share offsets, 6 the delay equalisation; CFG_RD makes that bay answer with the
register. A report with right parity, zero where the bay is OFF, FENCED or drives no lane, sets PH0_I, PH1_I and SFN
of BAY_IMON and ends the run of parity failures; one with wrong parity counts and leaves BAY_IMON, and the third in a
row makes Oteus record both phases FAILED with kind 3 and order the bay FENCED. The EVENT word that a bay with unsent
events and no answer pending drives sets those events in BAY_EVT.EVT and records TRIPPED and FAILED phases; with TRIP
the yard's ALL_HANDS and that of its bays in all hands reads 1 and the trip hold starts; with PROT of a bay in PROTECT
its state reads 5; with a wrong CRC it makes Oteus send CFG_RD of register 0 to the bay; another word does not arrive
(the model's choice, assumption log 38). The RD_RSP word of the pending answer takes it. A segment silent for four
keep-alive superframes raises FBB_SEGMENT and is then held dead until a word is heard from it. That a value outside
the stated range of bay registers 2 to 5 is stored is the model's choice (39), and that a decode acts on what it
spells (7). Rests on R61, R62, R64, R68, R70, R71, R72, R114, R118, R78, R79, R124. -/
def Obligations.BayRegistersReportsAndAnswers : Prop :=
  (∀ seg slot reg (data : BitVec 12) crc b (s : State),
      fbbOk (withCrc (cfgWrWord slot reg data.toNat) crc) = true →
      b = 80 * seg + slot →
      b ∈ s.listeners seg →
      ∃ t, exec (.cfgWr seg slot reg data crc) s = .next t ∧
        (reg = 1 → (t.bay b).events = (s.bay b).events &&& ~~~(BitVec.ofNat 8 data.toNat)) ∧
        (reg = 2 → (t.bay b).win = data.toNat % 16) ∧
        (reg = 3 → (t.bay b).th = data.toNat % 64) ∧
        (reg = 4 → t.get (BAY_SHARE.PH0_OFS b) = data.toNat % 64) ∧
        (reg = 5 → t.get (BAY_SHARE.PH1_OFS b) = data.toNat % 64) ∧
        (reg = 6 → (t.bay b).equal = data.toNat) ∧
        (∀ c, c ≠ b → t.bay c = s.bay c) ∧
        s.KeepsRegs t [(BAY_SHARE.reg b).addr] ∧
        s.KeepsMem t) ∧
  (∀ seg slot reg crc b (s : State),
      fbbOk (withCrc (cfgRdWord slot reg) crc) = true →
      b = 80 * seg + slot →
      b ∈ s.listeners seg →
      ∃ t, exec (.cfgRd seg slot reg crc) s = .next t ∧
        (t.bay b).answer = some reg ∧
        (∀ c, c ≠ b → t.bay c = s.bay c) ∧
        s.KeepsRegs t [] ∧
        s.KeepsMem t) ∧
  (∀ seg (sfn : BitVec 8) (reports : List (Nat × BitVec 16 × Bool)) (s : State),
      seg < Config.segments →
      (reports.map (·.1)).Nodup →
      reports.all (fun r => parityOk (if s.reportsZero (80 * seg + r.1) then 0 else r.2.1) r.2.2) = true →
      ∃ t, exec (.currentReport seg sfn reports) s = .next t ∧
        (∀ r ∈ reports, r.1 < 80 → Config.bayFitted (80 * seg + r.1) = true →
          t.get (BAY_IMON.PH0_I (80 * seg + r.1)) = (if s.reportsZero (80 * seg + r.1) then 0 else r.2.1.toNat % 256)
          ∧ t.get (BAY_IMON.PH1_I (80 * seg + r.1)) = (if s.reportsZero (80 * seg + r.1) then 0 else r.2.1.toNat / 256)
          ∧ t.get (BAY_IMON.SFN (80 * seg + r.1)) = sfn.toNat ∧ (t.bay (80 * seg + r.1)).parityRun = 0) ∧
        s.KeepsMem t) ∧
  (∀ seg (sfn : BitVec 8) slot bits par (s : State),
      seg < Config.segments →
      slot < 80 →
      Config.bayFitted (80 * seg + slot) = true →
      parityOk (if s.reportsZero (80 * seg + slot) then 0 else bits) par = false →
      (s.bay (80 * seg + slot)).parityRun < 2 →
      ∃ t, exec (.currentReport seg sfn [(slot, bits, par)]) s = .next t ∧
        t.get (BAY_CNT_ERR.PARITY (80 * seg + slot)) = min (s.get (BAY_CNT_ERR.PARITY (80 * seg + slot)) + 1) 65535 ∧
        (t.bay (80 * seg + slot)).parityRun = (s.bay (80 * seg + slot)).parityRun + 1 ∧
        t.word (BAY_IMON.reg (80 * seg + slot)).addr = s.word (BAY_IMON.reg (80 * seg + slot)).addr ∧
        s.KeepsMem t) ∧
  (∀ seg (sfn : BitVec 8) slot bits par (s : State),
      seg < Config.segments →
      slot < 80 →
      Config.bayFitted (80 * seg + slot) = true →
      parityOk (if s.reportsZero (80 * seg + slot) then 0 else bits) par = false →
      (s.bay (80 * seg + slot)).parityRun = 2 →
      (s.bay (80 * seg + slot)).failFenced = false →
      ∃ t, exec (.currentReport seg sfn [(slot, bits, par)]) s = .next t ∧
        t.get (PhF (80 * seg + slot) false) = 5 ∧
        t.get (PhF (80 * seg + slot) true) = 5 ∧
        t.get (BAY_STATE.FAIL_KIND (80 * seg + slot)) = 3 ∧
        (t.bay (80 * seg + slot)).failFenced = true ∧
        (⟨seg, bayStateWord slot 4, false⟩ : Sent) ∈ t.sent ∧
        t.word (BAY_IMON.reg (80 * seg + slot)).addr = s.word (BAY_IMON.reg (80 * seg + slot)).addr ∧
        s.KeepsMem t) ∧
  (∀ seg slot (w : Word) b (s : State),
      b = 80 * seg + slot →
      slot < 80 →
      s.drives b = true →
      (s.bay b).unsent ≠ 0 →
      (s.bay b).answer = none →
      fbbOk w = true →
      w = s.eventWord b →
      seg ∉ s.segDead →
      (s.bay b).unsent.toNat < 32 →
      (s.bay b).st ≠ .protect →
      s.phSt (b, false) ≠ 5 →
      s.phSt (b, true) ≠ 5 →
      ∃ t, exec (.event seg slot w) s = .next t ∧
        t.get (BAY_EVT.EVT b) = Nat.lor (s.get (BAY_EVT.EVT b)) (s.bay b).unsent.toNat ∧
        (t.bay b).unsent = 0 ∧
        (t.get (PhF b false) = (if (s.bay b).p0.st = .tripped then 4 else s.get (PhF b false))) ∧
        (t.get (PhF b true) = (if (s.bay b).p1.st = .tripped then 4 else s.get (PhF b true))) ∧
        (∀ c, c ≠ b → t.bay c = s.bay c) ∧
        s.KeepsRegs t [(BAY_EVT.reg b).addr, (BAY_STATE.reg b).addr] ∧
        s.KeepsMem t) ∧
  (∀ seg slot (w : Word) b (s : State),
      b = 80 * seg + slot →
      slot < 80 →
      s.drives b = true →
      (s.bay b).unsent ≠ 0 →
      (s.bay b).answer = none →
      fbbOk w = true →
      w = s.eventWord b →
      seg ∉ s.segDead →
      (s.bay b).unsent = 0x20 →
      (s.bay b).st ≠ .protect →
      (s.bay b).failFenced = true →
      (s.bay b).failKind < 4 →
      ∃ t, exec (.event seg slot w) s = .next t ∧
        t.get (PhF b false) = 5 ∧
        t.get (BAY_STATE.FAIL_KIND b) = (s.bay b).failKind ∧
        s.KeepsMem t) ∧
  (∀ seg slot (w : Word) b y (s : State),
      b = 80 * seg + slot →
      slot < 80 →
      s.drives b = true →
      (s.bay b).unsent ≠ 0 →
      (s.bay b).answer = none →
      fbbOk w = true →
      w = s.eventWord b →
      seg ∉ s.segDead →
      (s.bay b).unsent = 0x80 →
      (s.bay b).st ≠ .protect →
      (s.bay b).p0.st ≠ .tripped →
      (s.bay b).p1.st ≠ .tripped →
      s.get (BAY_STATE.YARD b) = y →
      y < Config.yardCount →
      ∃ t, exec (.event seg slot w) s = .next t ∧
        t.get (BAY_EVT.EVT b) = Nat.lor (s.get (BAY_EVT.EVT b)) 0x80 ∧
        t.get (YRD_STATUS.ALL_HANDS y) = 1 ∧
        (∀ c ∈ reach y, (s.bay c).yard = y → (s.bay c).allHands = true → t.get (BAY_STATE.ALL_HANDS c) = 1) ∧
        (t.yard y).tripHold = true ∧
        (t.yard y).tripAt = s.mono ∧
        t.get (YRD_SHARE_STAT.LAST_CAUSE y) = 3 ∧
        s.KeepsMem t) ∧
  (∀ seg slot (w : Word) b y (s : State),
      b = 80 * seg + slot →
      slot < 80 →
      s.drives b = true →
      (s.bay b).unsent ≠ 0 →
      (s.bay b).answer = none →
      fbbOk w = true →
      w = s.eventWord b →
      seg ∉ s.segDead →
      (s.bay b).unsent = 0x10 →
      (s.bay b).st = .protect →
      (s.bay b).p0.st ≠ .tripped →
      (s.bay b).p1.st ≠ .tripped →
      s.get (BAY_STATE.YARD b) = y →
      ∃ t, exec (.event seg slot w) s = .next t ∧
        t.get (BAY_EVT.EVT b) = Nat.lor (s.get (BAY_EVT.EVT b)) 0x10 ∧
        t.get (BAY_STATE.STATE b) = 5 ∧
        (∀ c, c ≠ b → t.bay c = s.bay c) ∧
        s.KeepsPages t (yardPages ++ faultPages) [(BAY_EVT.reg b).addr, (BAY_STATE.reg b).addr] ∧
        s.KeepsMem t) ∧
  (∀ seg slot (w : Word) b (s : State),
      b = 80 * seg + slot →
      slot < 80 →
      s.drives b = true →
      (s.bay b).unsent ≠ 0 →
      (s.bay b).answer = none →
      fbbOk w = false →
      ∃ t, exec (.event seg slot w) s = .next t ∧
        t.sent = s.sent ++ [⟨seg, cfgRdWord slot 0, false⟩] ∧
        (t.bay b).recover = true ∧
        (t.bay b).unsent = 0 ∧
        s.KeepsRegs t [] ∧
        s.KeepsMem t) ∧
  (∀ seg slot (w : Word) b (s : State),
      b = 80 * seg + slot →
      fbbOk w = true →
      w ≠ s.eventWord b →
      ∃ t, exec (.event seg slot w) s = .next t ∧
        t.bays = s.bays ∧
        t.sent = s.sent ∧
        s.KeepsRegs t [] ∧
        s.KeepsMem t) ∧
  (∀ seg slot (w : Word) b reg (s : State),
      b = 80 * seg + slot →
      slot < 80 →
      s.drives b = true →
      (s.bay b).answer = some reg →
      fbbOk w = true →
      w = s.rspWord b reg →
      seg ∉ s.segDead →
      (s.bay b).recover = false →
      ∃ t, exec (.rdRsp seg slot w) s = .next t ∧
        (t.bay b).answer = none ∧
        (∀ c, c ≠ b → t.bay c = s.bay c) ∧
        s.KeepsRegs t [] ∧
        s.KeepsMem t) ∧
  (∀ seg (s : State),
      seg < Config.segments →
      seg ∉ s.segDead →
      4 ≤ Tab.get (fun _ => 0) s.silent seg →
      ∃ t, exec (.fbbSegment seg) s = .next t ∧
        t.segDead = s.segDead ++ [seg] ∧
        t.get (Fld.bit FLT_ACT.CODE 0x11) = 1 ∧
        t.bays = s.bays ∧
        t.yards = s.yards ∧
        s.KeepsPages t faultPages [] ∧
        s.KeepsMem t)

/-- DROOP_TRIP of an anchor on a yard whose net is low trips its comparator, sets TRIP, and brings every bay of the yard
not in a disconnect into all hands, with each phase that is neither TRIPPED nor FAILED ACTIVE where the bay is not
fenced, in PROTECT or absent. DROOP_CLEAR clears the comparator. ALL_HANDS_END, with the net low, returns each phase
to its state before, clears ALL_HANDS and applies the stored TRIM, SETPOINT and PRESET, but a PRESET, and the pre-
raise of a SETPOINT, whose horizon has passed (the model's choice of the code it then holds, assumption log 39).
SHED_STOP makes a SHED_PREP phase WARM and PHASE_COLD a WARM phase COLD, neither in a bay that holds course; TRIPPED
turns a conducting phase off. OVERLOAD sets only its event. INPUT_LOW and OUTPUT_HIGH bring the bay into PROTECT with
both phases off, of a fenced bay, or one in PROTECT already, they only set its event, and PROTECT_RETURN brings it
back, with BAY_STATE taking the prior state at once (the model's choice, assumption log 38), a READY bay with an
ACTIVE phase to RUN. PHASE_FAILED turns the phase off and reports its kind, but warming operation raises no
IMPLAUSIBLE. Rests on R22, R60, R61, R62, R64, R72, R78. -/
def Obligations.BaysActByThemselves : Prop :=
  (∀ b (s : State),
      Config.anchorOf b ≠ 0 →
      (s.bay b).compTripped = false →
      s.net (s.bay b).yard = false →
      ∃ t, exec (.droopTrip b) s = .next t ∧
        (t.bay b).compTripped = true ∧
        (t.bay b).events = (s.bay b).events ||| 0x80 ∧
        (∀ c ∈ reach (s.bay b).yard, (s.bay c).yard = (s.bay b).yard → (s.bay c).discStep = 0 → (t.bay c).allHands = true ∧
          ((s.bay c).allHands = false → (s.bay c).st ≠ .fenced → (s.bay c).st ≠ .protect → (s.bay c).st ≠ .absent →
            ∀ ph, ((s.bay c).ph ph).st.out = false → ((t.bay c).ph ph).st = .active)) ∧
        (s.KeepsRegs t ((YRD_CNT_ALLHANDS.COUNT (s.bay b).yard).addr :: ((reach (s.bay b).yard).map (fun c => (BAY_CNT_TRIP.TRIPS c).addr) ++ (reach (s.bay b).yard).map (fun c => (BAY_REF.reg c).addr)))) ∧
        s.KeepsMem t) ∧
  (∀ b (s : State),
      ∃ t, exec (.droopClear b) s = .next t ∧
        (t.bay b).compTripped = false ∧
        (∀ c, c ≠ b → t.bay c = s.bay c) ∧
        s.KeepsRegs t [] ∧
        s.KeepsMem t) ∧
  (∀ b (s : State),
      (s.bay b).allHands = true →
      s.net (s.bay b).yard = false →
      ∃ t, exec (.allHandsEnd b) s = .next t ∧
        (t.bay b).allHands = false ∧
        t.get (BAY_STATE.ALL_HANDS b) = 0 ∧
        ((s.bay b).st ≠ .fenced → (s.bay b).st ≠ .protect → (s.bay b).st ≠ .absent → (s.bay b).discStep = 0 → ∀ ph, ((s.bay b).ph ph).st.out = false →
          ((s.bay b).ph ph).addStored = false → ((t.bay b).ph ph).st = ((s.bay b).ph ph).saved) ∧
        (t.get (BAY_REF.TRIM b) = (match (s.bay b).storedTrim with | some v => v.toNat | none => s.get (BAY_REF.TRIM b))) ∧
        (t.get (BAY_REF.PREBIAS b) = (match (s.bay b).storedPre with | some p => (if p.2.all (s.sysTime ≤ ·) then p.1 % 32 else s.get (BAY_REF.PREBIAS b)) | none => s.get (BAY_REF.PREBIAS b))) ∧
        ((t.bay b).target = (match (s.bay b).storedSet with | some x => x.inForce s.sysTime | none => (s.bay b).target)) ∧
        (∀ c, c ≠ b → t.bay c = s.bay c) ∧
        s.KeepsPages t (yardPages ++ faultPages) [(BAY_STATE.reg b).addr, (BAY_REF.reg b).addr] ∧
        s.KeepsMem t) ∧
  (∀ b ph (s : State),
      (s.bay b).holding = true →
      ∃ t, exec (.shedStop b ph) s = .next t ∧
        t.bays = s.bays ∧
        s.KeepsRegs t [] ∧
        s.KeepsMem t) ∧
  (∀ b ph (s : State),
      (s.bay b).holding = true →
      ∃ t, exec (.phaseCold b ph) s = .next t ∧
        t.bays = s.bays ∧
        s.KeepsRegs t [] ∧
        s.KeepsMem t) ∧
  (∀ b ph (s : State),
      ((s.bay b).ph ph).st = .shedPrep →
      (s.bay b).holding = false →
      ∃ t, exec (.shedStop b ph) s = .next t ∧
        ((t.bay b).ph ph).st = .warm ∧
        (t.bay b).ph (!ph) = (s.bay b).ph (!ph) ∧
        ((s.bay b).allHands = false → s.get (PhF b ph) ≠ 5 → t.get (PhF b ph) = 1) ∧
        (∀ c, c ≠ b → t.bay c = s.bay c) ∧
        s.KeepsRegs t [(BAY_STATE.reg b).addr] ∧
        s.KeepsMem t) ∧
  (∀ b ph (s : State),
      ((s.bay b).ph ph).st = .warm →
      (s.bay b).holding = false →
      ∃ t, exec (.phaseCold b ph) s = .next t ∧
        ((t.bay b).ph ph).st = .cold ∧
        (t.bay b).ph (!ph) = (s.bay b).ph (!ph) ∧
        ((s.bay b).allHands = false → s.get (PhF b ph) ≠ 5 → t.get (PhF b ph) = 0) ∧
        (∀ c, c ≠ b → t.bay c = s.bay c) ∧
        s.KeepsRegs t [(BAY_STATE.reg b).addr] ∧
        s.KeepsMem t) ∧
  (∀ b ph (s : State),
      (((s.bay b).ph ph).st = .active ∨ ((s.bay b).ph ph).st = .shedPrep) →
      ∃ t, exec (.tripped b ph) s = .next t ∧
        ((t.bay b).ph ph).st = .tripped ∧
        ((t.bay b).ph ph).trips = (s.mono :: ((s.bay b).ph ph).trips).take 3 ∧
        (t.bay b).ph (!ph) = (s.bay b).ph (!ph) ∧
        (t.bay b).events = (s.bay b).events ||| 0x10 ∧
        (∀ c, c ≠ b → t.bay c = s.bay c) ∧
        s.KeepsRegs t [] ∧
        s.KeepsMem t) ∧
  (∀ b (s : State),
      Config.bayFitted b = true →
      ∃ t, exec (.bayOverload b) s = .next t ∧
        (t.bay b).events = (s.bay b).events ||| 8 ∧
        (t.bay b).st = (s.bay b).st ∧
        (t.bay b).p0 = (s.bay b).p0 ∧
        (t.bay b).p1 = (s.bay b).p1 ∧
        (∀ c, c ≠ b → t.bay c = s.bay c) ∧
        s.KeepsRegs t [] ∧
        s.KeepsMem t) ∧
  (∀ b (s : State),
      (s.bay b).st ≠ .absent →
      (s.bay b).st ≠ .fenced →
      (s.bay b).st ≠ .protect →
      ∃ t, exec (.inputLow b) s = .next t ∧
        (t.bay b).st = .protect ∧
        (t.bay b).prior = (s.bay b).st ∧
        (t.bay b).events = (s.bay b).events ||| 0x10 ∧
        (∀ ph, ((s.bay b).ph ph).st.out = false → ((t.bay b).ph ph).st = .cold) ∧
        (∀ c, c ≠ b → t.bay c = s.bay c) ∧
        s.KeepsRegs t [(BAY_REF.reg b).addr] ∧
        s.KeepsMem t) ∧
  (∀ b (s : State),
      Config.anchorOf b ≠ 0 →
      (s.bay b).st ≠ .absent →
      (s.bay b).st ≠ .fenced →
      (s.bay b).st ≠ .protect →
      ∃ t, exec (.outputHigh b) s = .next t ∧
        (t.bay b).st = .protect ∧
        (t.bay b).prior = (s.bay b).st ∧
        (t.bay b).events = (s.bay b).events ||| 0x10 ∧
        (∀ ph, ((s.bay b).ph ph).st.out = false → ((t.bay b).ph ph).st = .cold) ∧
        (∀ c, c ≠ b → t.bay c = s.bay c) ∧
        s.KeepsRegs t [(BAY_REF.reg b).addr] ∧
        s.KeepsMem t) ∧
  (∀ b (s : State),
      (s.bay b).st = .protect →
      ∃ t, exec (.inputLow b) s = .next t ∧
        (t.bay b).st = .protect ∧
        (t.bay b).prior = (s.bay b).prior ∧
        (t.bay b).events = (s.bay b).events ||| 0x10 ∧
        (∀ c, c ≠ b → t.bay c = s.bay c) ∧
        s.KeepsRegs t [] ∧
        s.KeepsMem t) ∧
  (∀ b (s : State),
      (s.bay b).st = .fenced →
      ∃ t, exec (.inputLow b) s = .next t ∧
        (t.bay b).st = .fenced ∧
        (t.bay b).p0 = (s.bay b).p0 ∧
        (t.bay b).p1 = (s.bay b).p1 ∧
        (t.bay b).events = (s.bay b).events ||| 0x10 ∧
        (∀ c, c ≠ b → t.bay c = s.bay c) ∧
        s.KeepsRegs t [] ∧
        s.KeepsMem t) ∧
  (∀ b (s : State),
      Config.anchorOf b ≠ 0 →
      (s.bay b).st = .fenced →
      ∃ t, exec (.outputHigh b) s = .next t ∧
        (t.bay b).st = .fenced ∧
        (t.bay b).p0 = (s.bay b).p0 ∧
        (t.bay b).p1 = (s.bay b).p1 ∧
        (t.bay b).events = (s.bay b).events ||| 0x10 ∧
        (∀ c, c ≠ b → t.bay c = s.bay c) ∧
        s.KeepsRegs t [] ∧
        s.KeepsMem t) ∧
  (∀ b (s : State),
      (s.bay b).st = .protect →
      (s.bay b).prior ≠ .protect →
      ((s.bay b).prior ≠ .ready ∨ (s.bay b).allHands = true) →
      ∃ t, exec (.protectReturn b) s = .next t ∧
        (t.bay b).st = (s.bay b).prior ∧
        t.get (BAY_STATE.STATE b) = (s.bay b).prior.code ∧
        (∀ c, c ≠ b → t.bay c = s.bay c) ∧
        s.KeepsMem t) ∧
  (∀ b (s : State),
      (s.bay b).st = .protect →
      (s.bay b).prior = .ready →
      (s.bay b).allHands = false →
      (s.bay b).prior0 ≠ .active →
      (s.bay b).prior1 ≠ .active →
      ∃ t, exec (.protectReturn b) s = .next t ∧
        (t.bay b).st = .ready ∧
        t.get (BAY_STATE.STATE b) = 2 ∧
        (∀ c, c ≠ b → t.bay c = s.bay c) ∧
        s.KeepsMem t) ∧
  (∀ b (s : State),
      (s.bay b).st = .protect →
      (s.bay b).prior = .ready →
      (s.bay b).allHands = false →
      (s.bay b).prior0 = .active →
      (s.bay b).p0.st.out = false →
      ∃ t, exec (.protectReturn b) s = .next t ∧
        (t.bay b).st = .run ∧
        t.get (BAY_STATE.STATE b) = 3 ∧
        (t.bay b).p0.st = .active ∧
        (∀ c, c ≠ b → t.bay c = s.bay c) ∧
        s.KeepsMem t) ∧
  (∀ b ph (s : State),
      (s.bay b).st = .heat →
      ∃ t, exec (.phaseFailed b ph .implausible) s = .next t ∧
        t.bays = s.bays ∧
        s.KeepsRegs t [] ∧
        s.KeepsMem t) ∧
  (∀ b ph kind (s : State),
      (s.bay b).st ≠ .absent →
      ((s.bay b).ph ph).st ≠ .failed →
      (kind ≠ .implausible ∨ (s.bay b).st ≠ .heat) →
      ∃ t, exec (.phaseFailed b ph kind) s = .next t ∧
        ((t.bay b).ph ph).st = .failed ∧
        (t.bay b).failKind = failCode kind ∧
        (t.bay b).ph (!ph) = (s.bay b).ph (!ph) ∧
        ((t.bay b).events = (s.bay b).events ||| (if ph then 0x40 else 0x20)) ∧
        (∀ c, c ≠ b → t.bay c = s.bay c) ∧
        s.KeepsRegs t [] ∧
        s.KeepsMem t)

/-- A write of BAY_CTRL.ORDER that its requester may make sends BAY_STATE FENCE for 1, RELEASE for 2, and for 3 CLEAR_TRIP
naming each phase recorded TRIPPED, nothing where there is none. BAY_REMOUNT.GO, with the page unlocked, sends REMOUNT
of the side and direction it names; a connect of a free remount that is OFF assigns it, at the order (assumption log
23), to a yard it may join. BAY_DROOP.TH of an anchor and YRD_DROOP.TH, from 8 to 48, are stored and sent by CFG_WR to
bay register 3 of the anchor, of every anchor of the yard. YRD_VID.TARGET takes a code from 40 to 520 outside the
maintenance state, but not on a logic yard in D0 or D1, where the write is refused; a changed target goes out as
SETPOINT unless it is withheld. YRD_LOOP takes its fields where the change is admitted; where it is not, SET, PERIOD
and CLASS stay and the refusal counts. The grounds of refused fields are log 32. Rests on R63, R73, R76, R78, R89,
R90, R117, R431, R105, R79, R106, R124. -/
def Obligations.RecordWritesReachTheBays : Prop :=
  (∀ q b (s : State),
      b < Config.bayCount →
      s.Takes q ((BAY_CTRL.reg b).addr) →
      s.RecordSound ((BAY_CTRL.reg b).addr) →
      ∃ t, exec (.bayCtrlFence q b) s = .next t ∧
        t.sent = s.sent ++ [⟨b / 80, bayStateWord (b % 80) 4, false⟩] ∧
        s.KeepsRegs t [FLT_INJ.GO.addr] ∧
        s.KeepsMem t ∧
        s.KeepsUnits t) ∧
  (∀ q b (s : State),
      b < Config.bayCount →
      s.Takes q ((BAY_CTRL.reg b).addr) →
      s.RecordSound ((BAY_CTRL.reg b).addr) →
      ∃ t, exec (.bayCtrlRelease q b) s = .next t ∧
        t.sent = s.sent ++ [⟨b / 80, bayStateWord (b % 80) 5, false⟩] ∧
        s.KeepsRegs t [FLT_INJ.GO.addr] ∧
        s.KeepsMem t ∧
        s.KeepsUnits t) ∧
  (∀ q b (s : State),
      b < Config.bayCount →
      s.Takes q ((BAY_CTRL.reg b).addr) →
      s.RecordSound ((BAY_CTRL.reg b).addr) →
      ∃ t, exec (.bayCtrlClearTrip q b) s = .next t ∧
        (t.sent = s.sent ++ (if s.phSt (b, false) = 4 ∨ s.phSt (b, true) = 4 then
          [⟨b / 80, phaseWord (b % 80) (s.phSt (b, true) == 4) (s.phSt (b, false) == 4) 3, false⟩] else [])) ∧
        s.KeepsRegs t [FLT_INJ.GO.addr] ∧
        s.KeepsMem t ∧
        s.KeepsUnits t) ∧
  (∀ q b side y (s : State),
      b < Config.bayCount →
      s.Takes q ((BAY_REMOUNT.reg b).addr) →
      s.RecordSound ((BAY_REMOUNT.reg b).addr) →
      s.unlocked (BAY_REMOUNT.reg b).addr = true →
      remountYard b side = some y →
      (s.bay b).cmdTags = [] →
      ∃ t, exec (.bayRemountGo q b false side) s = .next t ∧
        t.sent = s.sent ++ [⟨b / 80, remountWord (b % 80) side false, false⟩] ∧
        (t.bay b).assigned = none ∧
        t.get (BAY_REMOUNT.CONNECT b) = 0 ∧
        t.get (BAY_REMOUNT.SIDE b) = side.toNat ∧
        s.KeepsRegs t [FLT_INJ.GO.addr, (BAY_REMOUNT.reg b).addr] ∧
        s.KeepsMem t) ∧
  (∀ q b side y (s : State),
      b < Config.bayCount →
      s.Takes q ((BAY_REMOUNT.reg b).addr) →
      s.RecordSound ((BAY_REMOUNT.reg b).addr) →
      s.unlocked (BAY_REMOUNT.reg b).addr = true →
      remountYard b side = some y →
      (s.bay b).assigned = none →
      s.get (BAY_STATE.STATE b) = 1 →
      s.joinable y = true →
      ∃ t, exec (.bayRemountGo q b true side) s = .next t ∧
        t.sent = s.sent ++ [⟨b / 80, remountWord (b % 80) side true, false⟩] ∧
        (t.bay b).assigned = some y ∧
        t.get (BAY_REMOUNT.CONNECT b) = 1 ∧
        t.get (BAY_REMOUNT.SIDE b) = side.toNat ∧
        s.KeepsRegs t [FLT_INJ.GO.addr, (BAY_REMOUNT.reg b).addr] ∧
        s.KeepsMem t) ∧
  (∀ q b th (s : State),
      b < Config.bayCount →
      Config.anchorOf b ≠ 0 →
      8 ≤ th →
      th ≤ 48 →
      s.Takes q ((BAY_DROOP.reg b).addr) →
      s.RecordSound ((BAY_DROOP.reg b).addr) →
      s.unlocked (BAY_DROOP.reg b).addr = true →
      ∃ t, exec (.bayDroopWrite q b th) s = .next t ∧
        t.get (BAY_DROOP.TH b) = th ∧
        t.sent = s.sent ++ [⟨b / 80, cfgWrWord (b % 80) 3 th, false⟩] ∧
        s.KeepsRegs t [FLT_INJ.GO.addr, (BAY_DROOP.reg b).addr] ∧
        s.KeepsMem t ∧
        s.KeepsUnits t) ∧
  (∀ q y th (s : State),
      y < Config.yardCount →
      8 ≤ th →
      th ≤ 48 →
      s.Takes q ((YRD_DROOP.reg y).addr) →
      s.RecordSound ((YRD_DROOP.reg y).addr) →
      ∃ t, exec (.yrdDroopWrite q y th) s = .next t ∧
        t.get (YRD_DROOP.TH y) = th ∧
        (∀ p < 4, t.get (BAY_DROOP.TH (Config.anchorBay y p)) = th) ∧
        (t.sent = s.sent ++ (List.range 4).map (fun p => ⟨Config.anchorBay y p / 80, cfgWrWord (Config.anchorBay y p % 80) 3 th, false⟩)) ∧
        (s.KeepsRegs t (FLT_INJ.GO.addr :: (YRD_DROOP.reg y).addr :: (List.range 4).map (fun p => (BAY_DROOP.reg (Config.anchorBay y p)).addr))) ∧
        s.KeepsMem t ∧
        s.KeepsUnits t) ∧
  (∀ q y code (s : State),
      y < Config.yardCount →
      40 ≤ code →
      code ≤ 520 →
      s.inMaint y = false →
      (Config.isLogic y = false ∨ 2 ≤ s.domState y) →
      s.Takes q ((YRD_VID.reg y).addr) →
      s.RecordSound ((YRD_VID.reg y).addr) →
      ∃ t, exec (.yrdVidWrite q y code) s = .next t ∧
        t.get (YRD_VID.TARGET y) = code ∧
        (t.sent = s.sent ++ (if t.videff y = s.videff y ∨ s.setFrozen y ∨ s.setLow y ∨ s.withheld y (t.videff y) then [] else
          (s.segsOf y).map fun g => ⟨g, setpointWord y (t.videff y) (t.slewCode y), false⟩)) ∧
        s.KeepsRegs t [FLT_INJ.GO.addr, (YRD_VID.reg y).addr, (PWS_DOM.reg y).addr] ∧
        s.KeepsMem t ∧
        t.bays = s.bays ∧
        (t.yard y).setHeld = ((s.yard y).setHeld || (decide (t.videff y ≠ s.videff y) && !s.setFrozen y && !s.setLow y && s.withheld y (t.videff y)))) ∧
  (∀ q y code (s : State),
      y < Config.yardCount →
      Config.isLogic y = true →
      s.domState y ≤ 1 →
      s.Takes q ((YRD_VID.reg y).addr) →
      s.RecordSound ((YRD_VID.reg y).addr) →
      ∃ t, exec (.yrdVidWrite q y code) s = .next t ∧
        t.get (YRD_VID.TARGET y) = s.get (YRD_VID.TARGET y) ∧
        t.sent = s.sent ∧
        s.KeepsRegs t [pgGLB + 0x1C] ∧
        s.KeepsMem t ∧
        s.KeepsUnits t) ∧
  (∀ q y (data : Word) (s : State),
      y < Config.yardCount →
      data.field 4 2 ≤ 2 →
      s.on (CTL.VALID y (data.field 0 3)) = true →
      s.inMaint y = false →
      s.unlocked (YRD_LOOP.reg y).addr = true →
      (s.judgeWord q [((YRD_LOOP.reg y).addr, data)] (YRD_LOOP.reg y).addr).2 = false →
      s.Takes q ((YRD_LOOP.reg y).addr) →
      s.RecordSound ((YRD_LOOP.reg y).addr) →
      ∃ t, exec (.yrdLoopWrite q y data) s = .next t ∧
        t.get (YRD_LOOP.SET y) = data.field 0 3 ∧
        t.get (YRD_LOOP.MODE y) = data.field 3 1 ∧
        t.get (YRD_LOOP.PERIOD y) = data.field 4 2 ∧
        t.get (YRD_LOOP.CLASS y) = data.field 6 1 ∧
        t.get (YRD_LOOP.SUP y) = data.field 7 2 ∧
        s.KeepsRegs t [FLT_INJ.GO.addr, (YRD_LOOP.reg y).addr] ∧
        s.KeepsMem t ∧
        s.KeepsUnits t) ∧
  (∀ q y (data : Word) (s : State),
      y < Config.yardCount →
      (s.judgeWord q [((YRD_LOOP.reg y).addr, data)] (YRD_LOOP.reg y).addr).2 = true →
      s.Takes q ((YRD_LOOP.reg y).addr) →
      s.RecordSound ((YRD_LOOP.reg y).addr) →
      ∃ t, exec (.yrdLoopWrite q y data) s = .next t ∧
        t.get (YRD_LOOP.SET y) = s.get (YRD_LOOP.SET y) ∧
        t.get (YRD_LOOP.PERIOD y) = s.get (YRD_LOOP.PERIOD y) ∧
        t.get (YRD_LOOP.CLASS y) = s.get (YRD_LOOP.CLASS y) ∧
        t.get TIL_CNT_REFUSED.COUNT = min (s.get TIL_CNT_REFUSED.COUNT + 1) 0xFFFFFFFF ∧
        s.KeepsMem t ∧
        s.KeepsUnits t)

/-- At a sampling instant of a yard with jobs and a feedback point, with no residual outside the band and no oscillation
complete, no all hands, no order of R199 and nothing waiting for the instant, the set, period, class and mode due
become those in force, and the sample's plan is HAND in mode 1, where the hand value differs from the last trim, a
hold period where AUTO resumes or the set, period or class changes, else the control law. ERROR_QUEUED delivers the
sample's points, writes the saturated error and queues the plan's job with the set of its instant, behind a keel hold
period that still waits; a standard yard's hand value goes out, or is withheld while the yard is in all hands.
LAW_JOB_DISPATCH takes the first job in order to the lane and keeps the largest wait. LAW_JOB_COMPLETE writes the
histories and sends the trim of a standard yard not in all hands, or keeps it for the hand-over of a keel yard 45 ns
after its error; a failed residue check makes the period a hold period with the deadline of its own error.
KEEL_HANDOVER, outside all hands, sends the trim that is due; KEEL_MISS makes an undispatched job past its deadline a
hold period and counts it. The instants at which forcing and residuals act, and the rounding of quotients (assumption
log 16), the wait taken as its bound (10), and the points that R84 and R86 leave open (38) are the model's reading.
Rests on R61, R81, R83, R86, R91, R93, R94, R95, R98, R99, R100, R432. -/
def Obligations.TillerRunsTheLoop : Prop :=
  (∀ y (s : State),
      s.hasJobs y = true →
      s.fbPoints y ≠ [] →
      (s.yard y).pts.all (fun p => !s.outside p.r) = true →
      (s.yard y).crossings.length + 1 < s.get FAR_OSC.COUNT →
      s.on (YRD_STATUS.ALL_HANDS y) = false →
      (s.yard y).supOrder = none →
      (s.yard y).noFb = false →
      (s.yard y).hSoft = false →
      s.on (Fld.bit SXT_MAINT.YARD y) = false →
      (s.yard y).maintHold = false →
      (s.dom y).step ≠ .regulator →
      (s.yard y).held = [] →
      (s.yard y).vfWait = none →
      s.strBusy (y / 4 / 2 * 2) 0 = false →
      -2048 ≤ s.lastTrim y →
      s.lastTrim y < 2048 →
      ∃ t, exec (.samplingInstant y) s = .next t ∧
        t.get (YRD_LOOP_NOW.SET_NOW y) = s.setDue y ∧
        t.get (YRD_LOOP_NOW.PERIOD_NOW y) = s.periodDue y ∧
        t.get (YRD_LOOP_NOW.CLASS_NOW y) = s.classDue y ∧
        t.get (YRD_LOOP_NOW.MODE_NOW y) = s.modeDue y ∧
        ((t.yard y).plan = (if s.modeDue y = 1 then
            (if s.get (YRD_LOOP_NOW.MODE_NOW y) = 0 ∨ s.getI (YRD_HAND.TRIM y) = s.lastTrim y then .none else .hand (s.getI (YRD_HAND.TRIM y)))
          else if s.get (YRD_LOOP_NOW.MODE_NOW y) = 1 then .hold (some (s.getI (YRD_HAND.TRIM y))) false
          else if s.setDue y ≠ s.get (YRD_LOOP_NOW.SET_NOW y) ∨ s.periodDue y ≠ s.get (YRD_LOOP_NOW.PERIOD_NOW y)
            ∨ s.classDue y ≠ s.get (YRD_LOOP_NOW.CLASS_NOW y) then .hold none false
          else .law)) ∧
        (t.yard y).vset = 1280 + 4 * (s.vidNow y : Int) ∧
        (t.yard y).got = [] ∧
        (t.yard y).out = (s.yard y).out ∧
        s.KeepsRegs t [(YRD_LOOP_NOW.reg y).addr, (YRD_LOOP_EVT.reg y).addr, (YRD_HAND.reg y).addr] ∧
        s.KeepsMem t) ∧
  (∀ y (s : State),
      s.hasJobs y = true →
      s.fbPoints y ≠ [] →
      (s.yard y).plan = .law →
      ((s.yard y).queued = none ∨ s.classNow y = 0) →
      ∃ t, exec (.errorQueued y) s = .next t ∧
        t.getI (YRD_OUT.ERR y) = satSigned 16 ((s.yard y).vset - (s.deliverPoints y).feedback y) ∧
        (t.yard y).queued = some (.law (satSigned 16 ((s.yard y).vset - (s.deliverPoints y).feedback y))) ∧
        (t.yard y).qAt = s.mono ∧
        (t.yard y).qSet = s.get (YRD_LOOP_NOW.SET_NOW y) ∧
        (t.yard y).got = [] ∧
        s.KeepsRegs t [(YRD_OUT.reg y).addr, (YRD_LOOP_EVT.reg y).addr, (YRD_CNT_OVERRUN.COUNT y).addr, TIL_CNT_OVERRUN.COUNT.addr, pgTIL + 0x14] ∧
        s.KeepsMem t) ∧
  (∀ y h top (s : State),
      s.hasJobs y = true →
      s.fbPoints y ≠ [] →
      (s.yard y).plan = .hold h top →
      ((s.yard y).queued = none ∨ s.classNow y = 0) →
      ∃ t, exec (.errorQueued y) s = .next t ∧
        t.getI (YRD_OUT.ERR y) = satSigned 16 ((s.yard y).vset - (s.deliverPoints y).feedback y) ∧
        (t.yard y).queued = some (.hold h top) ∧
        (t.yard y).qAt = s.mono ∧
        s.KeepsRegs t [(YRD_OUT.reg y).addr, (YRD_LOOP_EVT.reg y).addr, (YRD_CNT_OVERRUN.COUNT y).addr, TIL_CNT_OVERRUN.COUNT.addr, pgTIL + 0x14] ∧
        s.KeepsMem t) ∧
  (∀ y j (s : State),
      s.hasJobs y = true →
      s.fbPoints y ≠ [] →
      (s.yard y).plan = .law →
      (s.yard y).queued = some j →
      s.classNow y = 1 →
      ∃ t, exec (.errorQueued y) s = .next t ∧
        (t.yard y).next = some (.law (satSigned 16 ((s.yard y).vset - (s.deliverPoints y).feedback y)), s.mono, s.get (YRD_LOOP_NOW.SET_NOW y)) ∧
        (t.yard y).queued = some j ∧
        (t.yard y).qAt = (s.yard y).qAt ∧
        s.KeepsRegs t [(YRD_OUT.reg y).addr] ∧
        s.KeepsMem t) ∧
  (∀ y h (s : State),
      s.hasJobs y = true →
      s.fbPoints y ≠ [] →
      (s.yard y).plan = .hand h →
      s.classNow y = 0 →
      s.get (YRD_STATUS.ALL_HANDS y) = 0 →
      ∃ t, exec (.errorQueued y) s = .next t ∧
        t.get (YRD_OUT.TRIM y) = unsigned 12 h ∧
        (t.yard y).queued = (s.yard y).queued ∧
        (t.sent = s.sent ++ (s.segsOf y).map fun g => ⟨g, trimWord y h, false⟩) ∧
        s.KeepsRegs t [(YRD_OUT.reg y).addr] ∧
        s.KeepsMem t) ∧
  (∀ y h (s : State),
      s.hasJobs y = true →
      s.fbPoints y ≠ [] →
      (s.yard y).plan = .hand h →
      s.classNow y = 0 →
      s.get (YRD_STATUS.ALL_HANDS y) = 1 →
      ∃ t, exec (.errorQueued y) s = .next t ∧
        (t.yard y).trimHeld = some h ∧
        t.get (YRD_OUT.TRIM y) = s.get (YRD_OUT.TRIM y) ∧
        t.sent = s.sent ∧
        s.KeepsRegs t [(YRD_OUT.reg y).addr] ∧
        s.KeepsMem t) ∧
  (∀ lane wait y (s : State),
      lane < Config.lanes →
      tb (s.get TIL_LANES.RETIRED) lane = false →
      s.nextJob = some y →
      ∃ t, exec (.lawJobDispatch lane wait) s = .next t ∧
        (t.yard y).queued = (s.yard y).next.map (·.1) ∧
        (t.yard y).flying = (s.yard y).queued ∧
        (t.yard y).flyAt = (s.yard y).qAt ∧
        (t.yard y).flySet = (s.yard y).qSet ∧
        (t.yard y).lane = lane ∧
        (∀ z, z ≠ y → t.yard z = s.yard z) ∧
        (t.get (if s.classNow y = 1 then TIL_WAIT_MAX.KEEL else TIL_WAIT_MAX.STD) =
          max (s.get (if s.classNow y = 1 then TIL_WAIT_MAX.KEEL else TIL_WAIT_MAX.STD)) (s.waitSeen (s.classNow y) wait)) ∧
        s.KeepsRegs t [TIL_WAIT_MAX.reg.addr] ∧
        s.KeepsMem t) ∧
  (∀ y e (s : State),
      (s.yard y).flying = some (.law e) →
      s.classNow y = 0 →
      s.get (YRD_STATUS.ALL_HANDS y) = 0 →
      ∃ t, exec (.lawJobComplete y true false false) s = .next t ∧
        (t.yard y).flying = none ∧
        (t.yard y).s1 = (lawJob (s.coefs y (s.yard y).flySet) e (s.yard y).s1 (s.yard y).s2 (s.yard y).s3).s1 ∧
        (t.yard y).s2 = (lawJob (s.coefs y (s.yard y).flySet) e (s.yard y).s1 (s.yard y).s2 (s.yard y).s3).s2 ∧
        (t.yard y).s3 = (lawJob (s.coefs y (s.yard y).flySet) e (s.yard y).s1 (s.yard y).s2 (s.yard y).s3).s3 ∧
        t.get (YRD_OUT.TRIM y) = unsigned 12 (lawJob (s.coefs y (s.yard y).flySet) e (s.yard y).s1 (s.yard y).s2 (s.yard y).s3).trim ∧
        (t.sent = s.sent ++ (s.segsOf y).map fun g =>
          ⟨g, trimWord y (lawJob (s.coefs y (s.yard y).flySet) e (s.yard y).s1 (s.yard y).s2 (s.yard y).s3).trim, false⟩) ∧
        s.KeepsRegs t [(YRD_OUT.reg y).addr, (YRD_LOOP_EVT.reg y).addr, (YRD_CNT_SAT.COUNT y).addr] ∧
        s.KeepsMem t) ∧
  (∀ y e (s : State),
      (s.yard y).flying = some (.law e) →
      s.classNow y = 1 →
      ∃ t, exec (.lawJobComplete y true false false) s = .next t ∧
        (t.yard y).flying = none ∧
        (t.yard y).out = (s.yard y).out ++ [((lawJob (s.coefs y (s.yard y).flySet) e (s.yard y).s1 (s.yard y).s2 (s.yard y).s3).trim, (s.yard y).flyAt + ns 45)] ∧
        t.sent = s.sent ∧
        s.KeepsRegs t [(YRD_LOOP_EVT.reg y).addr, (YRD_CNT_SAT.COUNT y).addr] ∧
        s.KeepsMem t) ∧
  (∀ y j ue (s : State),
      (s.yard y).flying = some j →
      ∃ t, exec (.lawJobComplete y false false ue) s = .next t ∧
        (t.yard y).flying = none ∧
        ((t.yard y).queued = some (match j with | .hold h true => .hold h true | _ => .hold none false)) ∧
        (t.yard y).qAt = (s.yard y).flyAt ∧
        t.get (YRD_LOOP_NOW.HOLD y) = 1 ∧
        t.get TIL_CNT_LANEERR.COUNT = min (s.get TIL_CNT_LANEERR.COUNT + 1) 0xFFFFFFFF ∧
        (t.yard y).s1 = (s.yard y).s1 ∧
        s.KeepsMem t) ∧
  (∀ y v due rest (s : State),
      (s.yard y).out = (v, due) :: rest →
      due ≤ s.mono →
      s.get (YRD_STATUS.ALL_HANDS y) = 0 →
      ∃ t, exec (.keelHandover y) s = .next t ∧
        (t.yard y).out = rest ∧
        t.get (YRD_OUT.TRIM y) = unsigned 12 v ∧
        (t.sent = s.sent ++ (s.segsOf y).map fun g => ⟨g, trimWord y v, false⟩) ∧
        s.KeepsRegs t [(YRD_OUT.reg y).addr] ∧
        s.KeepsMem t) ∧
  (∀ y j (s : State),
      (s.yard y).queued = some j →
      s.classNow y = 1 →
      (s.yard y).late = false →
      s.jobDeadline y ≤ s.mono →
      ∃ t, exec (.keelMiss y) s = .next t ∧
        ((t.yard y).queued = some (match j with | .hold h true => .hold h true | _ => .hold none false)) ∧
        (t.yard y).late = true ∧
        (t.yard y).qAt = (s.yard y).qAt ∧
        t.get (YRD_LOOP_NOW.HOLD y) = 1 ∧
        t.get TIL_CNT_KEELMISS.COUNT = min (s.get TIL_CNT_KEELMISS.COUNT + 1) 0xFFFFFFFF ∧
        s.KeepsRegs t [(YRD_LOOP_NOW.reg y).addr, (YRD_LOOP_EVT.reg y).addr, (YRD_CNT_KEELMISS.COUNT y).addr, TIL_CNT_KEELMISS.COUNT.addr, pgTIL + 0x14] ∧
        s.KeepsMem t)

/-- HOLD_REQ_TIMEOUT ends the wait of a yard below its minimum: Oteus orders its domain to D4 and keeps the number of its
bays in RUN (assumption log 23). TRIP_HOLD_END releases the trip hold. AUTO_CLEAR_TRIP sends CLEAR_TRIP for a TRIPPED
phase, unless its third trip came within a second of its first. PHASE_COUNT_DECISION of a yard in D0-D2 with bays in
RUN shows the mean current per phase (0 for a negative mean: assumption log 38) and a count wanted that is not above
the phases available. SHARING_JOB of a bay in RUN, where its turn in the order of R92 has come, computes its two
deltas, or with a failed residue check holds both at zero and counts a lane error; SHARING_DEADLINE_MISS holds both at
zero and counts. SUPERVISION_JOB, in its turn, computes each point's expected drop and accumulators and adds the
yard's power, or with a failed residue check leaves them and counts a miss; the periods missed since the yard's last
job are counted. The average of a bay is log 14, the counters of supervision log 24. Rests on R63, R91, R92, R109,
R113, R114, R192, R214, R106, R418, R78, R124. -/
def Obligations.SharingAndSupervisionJobsRun : Prop :=
  (∀ y (s : State),
      y < Config.yardCount →
      (s.yard y).belowMin = .waiting →
      (s.dom y).step ≠ .stable →
      (s.dom y).order = none →
      ∃ t, exec (.holdReqTimeout y) s = .next t ∧
        (t.yard y).belowMin = .poweringDown ∧
        (t.yard y).fenceRun = (s.runBays y).length ∧
        (t.dom y).order = some ⟨4, .oteus, s.mono, true, false, none, []⟩ ∧
        t.get (PWS_DOM.TARGET y) = 4 ∧
        s.KeepsRegs t [(PWS_DOM.reg y).addr] ∧
        s.KeepsMem t) ∧
  (∀ y (s : State),
      ∃ t, exec (.tripHoldEnd y) s = .next t ∧
        (t.yard y).tripHold = false ∧
        (t.yard y).warmBlocked = false ∧
        (∀ z, z ≠ y → t.yard z = s.yard z) ∧
        s.KeepsRegs t [] ∧
        s.KeepsMem t) ∧
  (∀ b ph (s : State),
      Config.bayFitted b = true →
      s.phSt (b, ph) = 4 →
      ((s.bay b).ph ph).tripsOut = false →
      ∃ t, exec (.autoClearTrip b ph) s = .next t ∧
        t.sent = s.sent ++ [⟨b / 80, phaseWord (b % 80) ph (!ph) 3, false⟩] ∧
        s.KeepsRegs t [] ∧
        s.KeepsMem t ∧
        s.KeepsUnits t) ∧
  (∀ b ph (s : State),
      ((s.bay b).ph ph).tripsOut = true →
      ∃ t, exec (.autoClearTrip b ph) s = .next t ∧
        t.sent = s.sent ∧
        s.KeepsRegs t [] ∧
        s.KeepsMem t ∧
        s.KeepsUnits t) ∧
  (∀ y (s : State),
      y < Config.yardCount →
      s.domState y ≤ 2 →
      s.runBays y ≠ [] →
      ∃ t, exec (.phaseCountDecision y) s = .next t ∧
        t.get (YRD_SHARE_STAT.PER_PHASE y) = min 255 (max 0 (perPhase (s.shareCurrent y) ((s.actPhases y).length + (s.prepPhases y).length))).toNat ∧
        t.get (YRD_SHARE_STAT.WANT y) ≤ (s.availPhases y).length ∧
        t.bays = s.bays ∧
        s.KeepsRegs t [(YRD_SHARE_STAT.reg y).addr, (YRD_SHED_EVT.reg y).addr] ∧
        s.KeepsMem t) ∧
  (∀ b lane (s : State),
      b < Config.bayCount →
      s.shareReady b = true →
      s.shareTurn b = true →
      s.get (BAY_STATE.YARD b) < Config.yardCount →
      ∃ t, exec (.sharingJob b lane true) s = .next t ∧
        (t.bay b).p0.delta = s.shareDelta (s.get (BAY_STATE.YARD b)) (b, false) ∧
        (t.bay b).p1.delta = s.shareDelta (s.get (BAY_STATE.YARD b)) (b, true) ∧
        (∀ ph, ((t.bay b).ph ph).st = ((s.bay b).ph ph).st ∧ ((t.bay b).ph ph).fresh = (((s.bay b).ph ph).fresh && s.shareHeld (s.get (BAY_STATE.YARD b)))) ∧
        (t.bay b).shared = true ∧
        (∀ c, c ≠ b → t.bay c = s.bay c) ∧
        s.KeepsRegs t [(BAY_IAVG.IAVG b).addr] ∧
        s.KeepsMem t) ∧
  (∀ b lane (s : State),
      b < Config.bayCount →
      s.shareReady b = true →
      s.shareTurn b = true →
      ∃ t, exec (.sharingJob b lane false) s = .next t ∧
        (t.bay b).p0 = (let p := (s.bay b).p0; { p with delta := 0 }) ∧
        (t.bay b).p1 = (let p := (s.bay b).p1; { p with delta := 0 }) ∧
        (t.bay b).shared = true ∧
        t.get TIL_CNT_LANEERR.COUNT = min (s.get TIL_CNT_LANEERR.COUNT + 1) 0xFFFFFFFF ∧
        s.KeepsMem t) ∧
  (∀ b (s : State),
      b < Config.bayCount →
      s.shareReady b = true →
      s.shareLimit (b / 80) ≤ s.mono →
      ∃ t, exec (.sharingDeadlineMiss b) s = .next t ∧
        (t.bay b).p0 = (let p := (s.bay b).p0; { p with delta := 0 }) ∧
        (t.bay b).p1 = (let p := (s.bay b).p1; { p with delta := 0 }) ∧
        (t.bay b).shared = true ∧
        t.get TIL_CNT_SHAREMISS.COUNT = min (s.get TIL_CNT_SHAREMISS.COUNT + 1) 0xFFFFFFFF ∧
        s.KeepsRegs t [TIL_CNT_SHAREMISS.COUNT.addr] ∧
        s.KeepsMem t) ∧
  (∀ y lane (s : State),
      s.supReady y = true →
      s.supTurn y = true →
      ∃ t, exec (.supervisionJob y lane true) s = .next t ∧
        ((t.yard y).pts = (s.yard y).pts.zipIdx.map (fun x => s.superPoint y x.2 x.1)) ∧
        (t.yard y).pSum = (s.yard y).pSum + (s.yard y).vfb * (s.yard y).iy ∧
        (t.yard y).pCnt = (s.yard y).pCnt + 1 ∧
        (t.yard y).supAt = some s.supPeriod ∧
        (t.get TIL_CNT_SUPMISS.COUNT = min (s.get TIL_CNT_SUPMISS.COUNT + ((s.yard y).supAt.elim 0 fun q => s.supPeriod - (q + 1))) 0xFFFFFFFF) ∧
        s.KeepsRegs t [TIL_CNT_SUPMISS.COUNT.addr] ∧
        s.KeepsMem t) ∧
  (∀ y lane (s : State),
      s.supReady y = true →
      s.supTurn y = true →
      ∃ t, exec (.supervisionJob y lane false) s = .next t ∧
        (t.yard y).pts = (s.yard y).pts ∧
        (t.get TIL_CNT_SUPMISS.COUNT = min (s.get TIL_CNT_SUPMISS.COUNT + ((s.yard y).supAt.elim 0 fun q => s.supPeriod - (q + 1)) + 1) 0xFFFFFFFF) ∧
        t.get TIL_CNT_LANEERR.COUNT = min (s.get TIL_CNT_LANEERR.COUNT + 1) 0xFFFFFFFF ∧
        s.KeepsMem t)

/-- CONVERSION_DONE of the die channel that a slice in service converts writes the corrected value and advances its
sequence; a loop sample is also held for the yard's delivery. Where nothing is booked the slice begins the channel
that the scan credits pick and charges it. While EN is 1 the comparator moves by R172 on that value. A write of
SXT_CH_WIN with LO not above HI, or of SXT_CH_WCFG, on an unlocked page is stored and returns the comparator to IN
with its counts at zero. A write of a scan weight is stored, never below 4 for channels 32-35, and zeroes every
credit. ESTIMATOR_TURN_END in the rotating form, once the turn has had its slots, with results inside their limits
moves offset and gain an eighth of the way, clears the rejections and puts the next slice out; with a result outside
them the turn is rejected, counted and raised; before what it needs is gathered it changes nothing (assumption log 2).
TEMP_SUBSTITUTION, 1 ms after the diode and the sensor began to differ by more than 6 degrees, takes the sensor's
reading and raises SXT_TEMP. How slots follow one another in the model is its own reading (assumption log 17). The
rounding of a slope is log 38, and that TEMP_SUB returns to 0 at a reset alone, and a group's order, log 39. Rests on
R157, R162, R163, R166, R167, R168, R169, R171, R172, R190, R399, R418. -/
def Obligations.SextantConvertsAndCompares : Prop :=
  (∀ cl slice ch (code : BitVec 10) loop (s : State),
      cl < 24 →
      ch < 16 →
      tb (s.get (SXT_STATUS.IN_SERVICE cl)) slice = true →
      s.converting cl slice = some (ch, loop) →
      s.calConnected cl ch = false →
      s.get (SXT_CH_WCFG.EN cl ch) = 0 →
      ∃ t, exec (.conversionDone cl slice ch code loop) s = .next t ∧
        t.getI (SXT_VAL.VALUE cl ch) = s.sxtV cl ch (s.sxtU cl slice code.toNat) ∧
        t.get (SXT_VAL.SEQ cl ch) = (s.get (SXT_VAL.SEQ cl ch) + 1) % 256 ∧
        (loop = true → 4 ≤ s.slicesIn cl → (t.yard (4 * cl + ch / 4)).got = (s.yard (4 * cl + ch / 4)).got ++ [(ch % 4, s.sxtV cl ch (s.sxtU cl slice code.toNat))]) ∧
        (loop = false → t.yards = s.yards) ∧
        s.KeepsRegs t ([(SXT_VAL.reg cl ch).addr] ++ [pgX cl + 0x14, (SXT_STR_DROP.COUNT cl 0).addr, (SXT_STR_DROPAT.INDEX cl 0).addr, (SXT_STR_DROP.COUNT cl 1).addr, (SXT_STR_DROPAT.INDEX cl 1).addr]) ∧
        s.KeepsMem t) ∧
  (∀ cl slice ch (code : BitVec 10) (s : State),
      cl < 24 →
      ch < 16 →
      tb (s.get (SXT_STATUS.IN_SERVICE cl)) slice = true →
      (s.cluster cl).flight[slice]? = some (some (ch, false)) →
      s.converts cl slice = true →
      (s.cluster cl).booked = [] →
      s.calMeasures cl = false →
      ∃ t, exec (.conversionDone cl slice ch code false) s = .next t ∧
        (t.cluster cl).flight.getD slice none = some (s.scanPick cl, false) ∧
        (t.cluster cl).credit = ((s.scanSlot cl (s.scanPick cl)).cluster cl).credit ∧
        (t.cluster cl).order = (s.cluster cl).order.erase slice ++ [slice] ∧
        s.KeepsMem t) ∧
  (∀ cl slice ch (code : BitVec 10) loop (s : State),
      cl < 24 →
      ch < 16 →
      tb (s.get (SXT_STATUS.IN_SERVICE cl)) slice = true →
      s.converting cl slice = some (ch, loop) →
      s.calConnected cl ch = false →
      s.get (SXT_CH_WCFG.EN cl ch) = 1 →
      ∃ t, exec (.conversionDone cl slice ch code loop) s = .next t ∧
        t.get (SXT_VAL.WSTATE cl ch) = (winStep (s.get (SXT_VAL.WSTATE cl ch)) ((s.cluster cl).persist.getD ch (0, 0)) (s.sxtV cl ch (s.sxtU cl slice code.toNat))
          (s.getI (SXT_CH_WIN.LO cl ch)) (s.getI (SXT_CH_WIN.HI cl ch)) (s.get (SXT_CH_WCFG.HYST cl ch)) (s.get (SXT_CH_WCFG.PERSIST cl ch) + 1)
          (s.on (SXT_CH_WCFG.RET_EN cl ch))).st % 4 ∧
        s.KeepsRegs t ([(SXT_VAL.reg cl ch).addr, (SXT_WIN_EVT0.CH cl).addr, (SXT_CNT_WIN.COUNT cl).addr, pgX cl + 0x14] ++ [pgX cl + 0x14, (SXT_STR_DROP.COUNT cl 0).addr, (SXT_STR_DROPAT.INDEX cl 0).addr, (SXT_STR_DROP.COUNT cl 1).addr, (SXT_STR_DROPAT.INDEX cl 1).addr]) ∧
        s.KeepsMem t) ∧
  (∀ q cl ch (data : Word) (s : State),
      cl < Config.clusterCount →
      ch < 36 →
      s.Takes q ((SXT_CH_WCFG.reg cl ch).addr) →
      s.unlocked (SXT_CH_WCFG.reg cl ch).addr = true →
      ∃ t, exec (.windowConfigWrite q cl ch true data) s = .next t ∧
        t.get (SXT_CH_WCFG.HYST cl ch) = data.field 0 8 ∧
        t.get (SXT_CH_WCFG.PERSIST cl ch) = data.field 8 4 ∧
        t.get (SXT_CH_WCFG.EN cl ch) = data.field 12 1 ∧
        t.get (SXT_CH_WCFG.RET_EN cl ch) = data.field 13 1 ∧
        t.get (SXT_VAL.WSTATE cl ch) = 0 ∧
        (t.cluster cl).persist.getD ch (0, 0) = (0, 0) ∧
        s.KeepsRegs t [(SXT_CH_WCFG.reg cl ch).addr, (SXT_VAL.reg cl ch).addr] ∧
        s.KeepsMem t) ∧
  (∀ q cl ch (data : Word) (s : State),
      cl < Config.clusterCount →
      ch < 36 →
      signed 16 (data.field 0 16) ≤ signed 16 (data.field 16 16) →
      s.Takes q ((SXT_CH_WIN.reg cl ch).addr) →
      s.unlocked (SXT_CH_WIN.reg cl ch).addr = true →
      ∃ t, exec (.windowConfigWrite q cl ch false data) s = .next t ∧
        t.word (SXT_CH_WIN.reg cl ch).addr = data ∧
        t.get (SXT_VAL.WSTATE cl ch) = 0 ∧
        (t.cluster cl).persist.getD ch (0, 0) = (0, 0) ∧
        s.KeepsRegs t [(SXT_CH_WIN.reg cl ch).addr, (SXT_VAL.reg cl ch).addr] ∧
        s.KeepsMem t) ∧
  (∀ q cl ch w (s : State),
      cl < Config.clusterCount →
      ch < 36 →
      w < 256 →
      s.Takes q ((SXT_CH_SCAN.reg cl ch).addr) →
      s.unlocked (SXT_CH_SCAN.reg cl ch).addr = true →
      ∃ t, exec (.scanWeightWrite q cl ch w) s = .next t ∧
        (t.get (SXT_CH_SCAN.WEIGHT cl ch) = (if 32 ≤ ch then max 4 w else w)) ∧
        (t.cluster cl).credit = List.replicate 36 0 ∧
        (t.cluster cl).urg = (s.cluster cl).urg ∧
        s.KeepsRegs t [(SXT_CH_SCAN.reg cl ch).addr] ∧
        s.KeepsMem t) ∧
  (∀ cl slice gnd ref (skew : Int) (s : State),
      cl < Config.clusterCount →
      slice < 5 →
      tb (s.get (SXT_STATUS.IN_SERVICE cl)) slice = true →
      s.get (SXT_STATUS.INLINE cl) = 0 →
      s.get (SXT_STATUS.CAPTURE cl) = 0 →
      s.get (SXT_STATUS.OUT cl) = slice →
      s.turnReady cl slice = true →
      s.estFrozen cl = false →
      (s.cluster cl).refTurn = false →
      -2047 ≤ gnd.sum / 2048 →
      gnd.sum / 2048 ≤ 2047 →
      gnd.sum / 2048 ≠ ref.sum / 2048 →
      12288 ≤ (s.refTarget cl + (ref.sum / 2048 - gnd.sum / 2048) / 2) / (ref.sum / 2048 - gnd.sum / 2048) →
      (s.refTarget cl + (ref.sum / 2048 - gnd.sum / 2048) / 2) / (ref.sum / 2048 - gnd.sum / 2048) ≤ 20480 →
      ∃ t, exec (.estimatorTurnEnd cl slice gnd ref skew) s = .next t ∧
        t.get (SXT_SL_OFS.OFS cl slice) = unsigned 12 (approach (s.getI (SXT_SL_OFS.OFS cl slice)) (gnd.sum / 2048)) ∧
        t.get (SXT_SL_GAIN.GAIN cl slice) = unsigned 16 (approach (s.get (SXT_SL_GAIN.GAIN cl slice))
          ((s.refTarget cl + (ref.sum / 2048 - gnd.sum / 2048) / 2) / (ref.sum / 2048 - gnd.sum / 2048))) ∧
        t.get (SXT_SL_STAT.REJECTS cl slice) = 0 ∧
        t.get (SXT_STATUS.OUT cl) = (slice + 1) % 5 ∧
        s.KeepsRegs t [(SXT_STATUS.reg cl).addr, (SXT_SL_OFS.reg cl slice).addr, (SXT_SL_GAIN.reg cl slice).addr, (SXT_SL_DLY.reg cl slice).addr, (SXT_SL_STAT.reg cl slice).addr] ∧
        s.KeepsMem t) ∧
  (∀ cl slice gnd ref (skew : Int) (s : State),
      cl < Config.clusterCount →
      slice < 5 →
      tb (s.get (SXT_STATUS.IN_SERVICE cl)) slice = true →
      s.get (SXT_STATUS.INLINE cl) = 0 →
      s.get (SXT_STATUS.CAPTURE cl) = 0 →
      s.get (SXT_STATUS.OUT cl) = slice →
      s.turnReady cl slice = true →
      s.estFrozen cl = false →
      (s.cluster cl).refTurn = false →
      2047 < gnd.sum / 2048 →
      gnd.sum / 2048 ≠ ref.sum / 2048 →
      s.get (SXT_SL_STAT.REJECTS cl slice) < 2 →
      ∃ t, exec (.estimatorTurnEnd cl slice gnd ref skew) s = .next t ∧
        t.get (SXT_SL_STAT.REJECTS cl slice) = s.get (SXT_SL_STAT.REJECTS cl slice) + 1 ∧
        t.get (SXT_CNT_CALREJ.COUNT cl) = min (s.get (SXT_CNT_CALREJ.COUNT cl) + 1) 0xFFFFFFFF ∧
        t.get (Fld.bit FLT_ACT.CODE 0x18) = 1 ∧
        t.get (SXT_STATUS.OUT cl) = (slice + 1) % 5 ∧
        t.get (SXT_STATUS.IN_SERVICE cl) = s.get (SXT_STATUS.IN_SERVICE cl) ∧
        s.KeepsPages t faultPages [(SXT_STATUS.reg cl).addr, (SXT_SL_STAT.reg cl slice).addr, (SXT_CNT_CALREJ.COUNT cl).addr, pgX cl + 0x14] ∧
        s.KeepsMem t) ∧
  (∀ cl slice gnd ref (skew : Int) (s : State),
      s.turnReady cl slice = false →
      s.get (SXT_STATUS.CAPTURE cl) = 0 →
      ∃ t, exec (.estimatorTurnEnd cl slice gnd ref skew) s = .next t ∧
        t.clusters = s.clusters ∧
        s.KeepsRegs t [] ∧
        s.KeepsMem t) ∧
  (∀ cl since (s : State),
      cl < Config.clusterCount →
      s.get (SXT_STATUS.TEMP_SUB cl) = 0 →
      (s.cluster cl).tOff = some since →
      since + ns 1000000 ≤ s.mono →
      ∃ t, exec (.tempSubstitution cl) s = .next t ∧
        t.get (SXT_STATUS.TEMP_SUB cl) = 1 ∧
        t.getI (SXT_TEMP.T cl) = s.sensor (s.get (SXT_COMP_CFG.TSENS cl)) ∧
        t.get (Fld.bit FLT_ACT.CODE 0x1B) = 1 ∧
        s.KeepsPages t faultPages [(SXT_STATUS.reg cl).addr, (SXT_TEMP.reg cl).addr] ∧
        s.KeepsMem t)

/-- A write of SXT_URG.GO for a present channel the state allows makes the request wait, with a request running it ends
BUSY. URGENT_START with the slice, the wait and the restart that the model computes (assumption log 39) starts it and
counts, and counts the dropped scan conversion unless restarted; URGENT_DONE writes value, wait, slice and time and
ends DONE; URGENT_TIMEOUT, 1 us after the request, ends TIMEOUT and counts. STREAM_GO of a channel stream to capture
RAM with its ring in limits starts it at once with its counters at zero; of an absent channel it shows state 5.
STREAM_STOP writes what a busy stream has gathered and ends it ABORTED, or DONE with ABORT_LATE where its last sample
is taken in the same CLK_B cycle. A burst of a channel stream to capture RAM writes 32 gathered samples round the
ring, low byte first, and no other byte, and moves WPTR and WRAPS; one to host memory in the window, which the state
does not hold, takes its 32 samples, moves WPTR and WRAPS and counts in TDM_CNT_BURSTS, and one answered with an error
raises TDM_ERR and is not retried. STREAM_TRIGGER starts an armed capture at the sample of its event, or at its time.
Which slice, wait and restart the state gives is the model's reading (17). Rests on R164, R165, R174, R175, R176,
R177, R183, R337, R348, R190, R418, R399. -/
def Obligations.UrgentConversionsAndStreamsRun : Prop :=
  (∀ q cl ch (s : State),
      cl < Config.clusterCount →
      ch < 64 →
      s.Takes q ((SXT_URG.reg cl).addr) →
      (s.cluster cl).urg = .none →
      Config.chKind cl ch ≠ .absent →
      s.get (SXT_STATUS.CAPTURE cl) = 0 →
      s.onPll = true →
      (s.active = false ∨ confKind cl ch = false) →
      ∃ t, exec (.sxtUrgGo q cl ch) s = .next t ∧
        (t.cluster cl).urg = .waiting ch s.mono ∧
        t.get (SXT_URG.CHANNEL cl) = ch ∧
        s.KeepsRegs t [(SXT_URG.reg cl).addr] ∧
        s.KeepsMem t) ∧
  (∀ q cl ch (s : State),
      cl < Config.clusterCount →
      ch < 64 →
      s.Takes q ((SXT_URG.reg cl).addr) →
      (s.cluster cl).urg ≠ .none →
      ∃ t, exec (.sxtUrgGo q cl ch) s = .next t ∧
        (t.cluster cl).urg = (s.cluster cl).urg ∧
        t.get (SXT_URG_RES.RESULT cl) = 3 ∧
        s.KeepsRegs t [(SXT_URG.reg cl).addr, (SXT_URG_RES.reg cl).addr, pgX cl + 0x14] ∧
        s.KeepsMem t) ∧
  (∀ cl slice wait restart ch at_ (s : State),
      cl < Config.clusterCount →
      (s.cluster cl).urg = .waiting ch at_ →
      s.urgentSlice cl = some slice →
      wait = (s.mono - at_) / 5 →
      restart = s.urgentRestarts cl slice →
      ∃ t, exec (.urgentStart cl slice wait restart) s = .next t ∧
        (t.cluster cl).urg = .running ch slice wait s.sysTime ∧
        t.get (SXT_CNT_URGENT.COUNT cl) = min (s.get (SXT_CNT_URGENT.COUNT cl) + 1) 0xFFFFFFFF ∧
        (t.get (SXT_CNT_ABORTDROP.COUNT cl) = (if restart then s.get (SXT_CNT_ABORTDROP.COUNT cl) else min (s.get (SXT_CNT_ABORTDROP.COUNT cl) + 1) 0xFFFFFFFF)) ∧
        s.KeepsRegs t [(SXT_CNT_URGENT.COUNT cl).addr, (SXT_CNT_ABORTDROP.COUNT cl).addr] ∧
        s.KeepsMem t) ∧
  (∀ cl slice wait restart (s : State),
      wait ≠ (match (s.cluster cl).urg with | .waiting _ at_ => (s.mono - at_) / 5 | _ => wait + 1) →
      ∃ t, exec (.urgentStart cl slice wait restart) s = .next t ∧
        t.clusters = s.clusters ∧
        s.KeepsRegs t [] ∧
        s.KeepsMem t) ∧
  (∀ cl (code : BitVec 10) ch slice wait at_ (s : State),
      cl < 24 →
      ch < 16 →
      slice < 8 →
      (s.cluster cl).urg = .running ch slice wait at_ →
      s.calConnected cl ch = false →
      s.get (SXT_CH_WCFG.EN cl ch) = 0 →
      ∃ t, exec (.urgentDone cl code) s = .next t ∧
        (t.cluster cl).urg = .none ∧
        t.get (SXT_URG_RES.RESULT cl) = 1 ∧
        t.getI (SXT_URG_RES.VALUE cl) = s.sxtV cl ch (s.sxtU cl slice code.toNat) ∧
        t.getI (SXT_VAL.VALUE cl ch) = s.sxtV cl ch (s.sxtU cl slice code.toNat) ∧
        t.get (SXT_URG_RES.WAIT cl) = min 511 wait ∧
        t.get (SXT_URG_RES.SLICE cl) = slice ∧
        t.get64 (SXT_URG_TIME_LO.TIME cl) = at_ % 2 ^ 64 ∧
        s.KeepsRegs t ([(SXT_VAL.reg cl ch).addr, (SXT_URG_RES.reg cl).addr, (SXT_URG_TIME_LO.TIME cl).addr, (SXT_URG_TIME_HI.TIME cl).addr] ++ [pgX cl + 0x14, (SXT_STR_DROP.COUNT cl 0).addr, (SXT_STR_DROPAT.INDEX cl 0).addr, (SXT_STR_DROP.COUNT cl 1).addr, (SXT_STR_DROPAT.INDEX cl 1).addr]) ∧
        s.KeepsMem t) ∧
  (∀ cl ch at_ (s : State),
      cl < Config.clusterCount →
      (s.cluster cl).urg = .waiting ch at_ →
      at_ + ns 1000 ≤ s.mono →
      ∃ t, exec (.urgentTimeout cl) s = .next t ∧
        (t.cluster cl).urg = .none ∧
        t.get (SXT_URG_RES.RESULT cl) = 2 ∧
        t.get (SXT_CNT_URGTIMEOUT.COUNT cl) = min (s.get (SXT_CNT_URGTIMEOUT.COUNT cl) + 1) 0xFFFFFFFF ∧
        s.KeepsRegs t [(SXT_URG_RES.reg cl).addr, (SXT_CNT_URGTIMEOUT.COUNT cl).addr, pgX cl + 0x14] ∧
        s.KeepsMem t) ∧
  (∀ q cl m (ctrl : Word) (s : State),
      cl < Config.clusterCount →
      m < 2 →
      s.Takes q ((SXT_STR_CTRL.reg cl m).addr) →
      s.strBusy cl m = false →
      ctrl.field 1 1 = 0 →
      ctrl.field 2 1 = 0 →
      ctrl.field 3 2 = 0 →
      Config.chKind cl (ctrl.field 8 6) ≠ .absent →
      s.active = false →
      12 ≤ s.get (SXT_STR_SIZE.LOG2 cl m) →
      s.get (SXT_STR_SIZE.LOG2 cl m) ≤ 18 →
      s.get64 (SXT_STR_BASE_LO.BASE cl m) % 2 ^ s.get (SXT_STR_SIZE.LOG2 cl m) = 0 →
      s.get64 (SXT_STR_BASE_LO.BASE cl m) + 2 ^ s.get (SXT_STR_SIZE.LOG2 cl m) ≤ 262144 →
      s.get64 SXT_CAPRAM_RETIRE_LO.PAGE = 0 →
      s.get (SXT_STR_COUNT.COUNT cl m) ≤ 2 ^ 24 →
      ∃ t, exec (.streamGo q cl m ctrl) s = .next t ∧
        t.get (SXT_STR_STAT.STATE cl m) = 2 ∧
        (t.cluster cl).str m = { trigAt := some 0, goAt := s.mono, edgeAt := s.mono } ∧
        t.get (SXT_STR_CTRL.CHANNEL cl m) = ctrl.field 8 6 ∧
        t.get (SXT_STR_WPTR.WPTR cl m) = 0 ∧
        t.get (SXT_STR_WRAPS.WRAPS cl m) = 0 ∧
        t.get (SXT_STR_DROP.COUNT cl m) = 0 ∧
        s.KeepsRegs t [(SXT_STR_CTRL.reg cl m).addr, (SXT_STR_STAT.reg cl m).addr, (SXT_STR_WPTR.WPTR cl m).addr, (SXT_STR_WRAPS.WRAPS cl m).addr, (SXT_STR_TRIGPOS.POS cl m).addr, (SXT_STR_DROP.COUNT cl m).addr, (SXT_STR_DROPAT.INDEX cl m).addr] ∧
        s.KeepsMem t) ∧
  (∀ q cl m (ctrl : Word) (s : State),
      cl < Config.clusterCount →
      m < 2 →
      s.Takes q ((SXT_STR_CTRL.reg cl m).addr) →
      s.strBusy cl m = false →
      ctrl.field 1 1 = 0 →
      ctrl.field 2 1 = 0 →
      ctrl.field 3 2 = 0 →
      Config.chKind cl (ctrl.field 8 6) = .absent →
      ∃ t, exec (.streamGo q cl m ctrl) s = .next t ∧
        t.get (SXT_STR_STAT.STATE cl m) = 5 ∧
        t.cluster cl = s.cluster cl ∧
        s.KeepsRegs t [(SXT_STR_CTRL.reg cl m).addr, (SXT_STR_STAT.reg cl m).addr] ∧
        s.KeepsMem t) ∧
  (∀ q cl m (codes : List (BitVec 10)) e (s : State),
      cl < Config.clusterCount →
      m < 2 →
      s.Takes q ((SXT_STR_CTRL.reg cl m).addr) →
      s.strBusy cl m = true →
      1 ≤ s.get (SXT_STR_SIZE.LOG2 cl m) →
      ((s.gatherFrom cl m codes).strComplete cl m = false ∨ (s.gatherFrom cl m codes).lastNow cl m = false) →
      ((s.gatherFrom cl m codes).cluster cl).str m = e →
      ∃ t, exec (.streamStop q cl m codes) s = .next t ∧
        t.get (SXT_STR_STAT.STATE cl m) = 4 ∧
        ((t.cluster cl).str m).tag = none ∧
        ((t.cluster cl).str m).written = e.written + e.gathered.length ∧
        ((t.cluster cl).str m).gathered = [] ∧
        (∀ a, a < s.get64 (SXT_STR_BASE_LO.BASE cl m) ∨ s.get64 (SXT_STR_BASE_LO.BASE cl m) + 2 ^ s.get (SXT_STR_SIZE.LOG2 cl m) ≤ a → t.capAt a = s.capAt a) ∧
        (∀ a, t.flashAt a = s.flashAt a ∧ t.storeAt a = s.storeAt a)) ∧
  (∀ q cl m (codes : List (BitVec 10)) (s : State),
      cl < Config.clusterCount →
      m < 2 →
      s.Takes q ((SXT_STR_CTRL.reg cl m).addr) →
      s.strBusy cl m = true →
      1 ≤ s.get (SXT_STR_SIZE.LOG2 cl m) →
      (s.gatherFrom cl m codes).strComplete cl m = true →
      (s.gatherFrom cl m codes).lastNow cl m = true →
      ∃ t, exec (.streamStop q cl m codes) s = .next t ∧
        t.get (SXT_STR_STAT.STATE cl m) = 3 ∧
        t.get (SXT_STR_STAT.ABORT_LATE cl m) = 1 ∧
        ((t.cluster cl).str m).tag = none ∧
        ((t.cluster cl).str m).gathered = [] ∧
        (∀ a, a < s.get64 (SXT_STR_BASE_LO.BASE cl m) ∨ s.get64 (SXT_STR_BASE_LO.BASE cl m) + 2 ^ s.get (SXT_STR_SIZE.LOG2 cl m) ≤ a → t.capAt a = s.capAt a) ∧
        (∀ a, t.flashAt a = s.flashAt a ∧ t.storeAt a = s.storeAt a)) ∧
  (∀ cl m e (codes : List (BitVec 10)) err (s : State),
      cl < Config.clusterCount →
      m < 2 →
      s.get (SXT_STR_STAT.STATE cl m) = 2 →
      s.get (SXT_STR_CTRL.SRC cl m) = 0 →
      s.get (SXT_STR_COUNT.COUNT cl m) = 0 →
      ((s.gather cl m).cluster cl).str m = e →
      32 ≤ e.gathered.length →
      s.get (SXT_STR_CTRL.DEST cl m) = 0 →
      ∃ t, exec (.streamBurstWritten cl m codes err) s = .next t ∧
        ((t.cluster cl).str m).written = e.written + 32 ∧
        ((t.cluster cl).str m).gathered = e.gathered.drop 32 ∧
        t.get (SXT_STR_WPTR.WPTR cl m) = 2 * (e.written + 32) % 2 ^ s.get (SXT_STR_SIZE.LOG2 cl m) ∧
        t.get (SXT_STR_WRAPS.WRAPS cl m) = 2 * (e.written + 32) / 2 ^ s.get (SXT_STR_SIZE.LOG2 cl m) % 2 ^ 32 ∧
        (∀ a, (∀ k < 32, ∀ o, o = s.get64 (SXT_STR_BASE_LO.BASE cl m) + 2 * (e.written + k) % 2 ^ s.get (SXT_STR_SIZE.LOG2 cl m) →
          a ≠ o ∧ a ≠ o + 1) → t.capAt a = s.capAt a) ∧
        (∀ a, t.flashAt a = s.flashAt a ∧ t.storeAt a = s.storeAt a) ∧
        s.KeepsRegs t ([(SXT_STR_WPTR.WPTR cl m).addr, (SXT_STR_WRAPS.WRAPS cl m).addr, FLT_INJ.GO.addr] ++ [pgX cl + 0x14, (SXT_STR_DROP.COUNT cl 0).addr, (SXT_STR_DROPAT.INDEX cl 0).addr, (SXT_STR_DROP.COUNT cl 1).addr, (SXT_STR_DROPAT.INDEX cl 1).addr])) ∧
  (∀ cl m k (x : BitVec 16) e (codes : List (BitVec 10)) err (s : State),
      cl < Config.clusterCount →
      m < 2 →
      s.get (SXT_STR_STAT.STATE cl m) = 2 →
      s.get (SXT_STR_CTRL.SRC cl m) = 0 →
      s.get (SXT_STR_COUNT.COUNT cl m) = 0 →
      ((s.gather cl m).cluster cl).str m = e →
      32 ≤ e.gathered.length →
      s.get (SXT_STR_CTRL.DEST cl m) = 0 →
      12 ≤ s.get (SXT_STR_SIZE.LOG2 cl m) →
      k < 32 →
      e.gathered[k]? = some x →
      ∃ t, exec (.streamBurstWritten cl m codes err) s = .next t ∧
        t.capAt (s.get64 (SXT_STR_BASE_LO.BASE cl m) + 2 * (e.written + k) % 2 ^ s.get (SXT_STR_SIZE.LOG2 cl m)) = x.extractLsb' 0 8 ∧
        t.capAt (s.get64 (SXT_STR_BASE_LO.BASE cl m) + 2 * (e.written + k) % 2 ^ s.get (SXT_STR_SIZE.LOG2 cl m) + 1) = x.extractLsb' 8 8) ∧
  (∀ cl m e (codes : List (BitVec 10)) (s : State),
      cl < Config.clusterCount →
      m < 2 →
      s.get (SXT_STR_STAT.STATE cl m) = 2 →
      s.get (SXT_STR_CTRL.SRC cl m) = 0 →
      s.get (SXT_STR_COUNT.COUNT cl m) = 0 →
      ((s.gather cl m).cluster cl).str m = e →
      32 ≤ e.gathered.length →
      s.get (SXT_STR_CTRL.DEST cl m) = 1 →
      s.inWindow (s.get64 (SXT_STR_BASE_LO.BASE cl m) + 2 * e.written % 2 ^ s.get (SXT_STR_SIZE.LOG2 cl m)) 64 = true →
      ∃ t, exec (.streamBurstWritten cl m codes false) s = .next t ∧
        ((t.cluster cl).str m).written = e.written + 32 ∧
        ((t.cluster cl).str m).gathered = e.gathered.drop 32 ∧
        t.get (SXT_STR_WPTR.WPTR cl m) = 2 * (e.written + 32) % 2 ^ s.get (SXT_STR_SIZE.LOG2 cl m) ∧
        t.get (SXT_STR_WRAPS.WRAPS cl m) = 2 * (e.written + 32) / 2 ^ s.get (SXT_STR_SIZE.LOG2 cl m) % 2 ^ 32 ∧
        t.get TDM_CNT_BURSTS.COUNT = min (s.get TDM_CNT_BURSTS.COUNT + 1) 0xFFFFFFFF ∧
        t.get (SXT_STR_DROP.COUNT cl m) = (s.gather cl m).get (SXT_STR_DROP.COUNT cl m) ∧
        s.KeepsRegs t ([(SXT_STR_WPTR.WPTR cl m).addr, (SXT_STR_WRAPS.WRAPS cl m).addr, TDM_CNT_BURSTS.COUNT.addr] ++ [pgX cl + 0x14, (SXT_STR_DROP.COUNT cl 0).addr, (SXT_STR_DROPAT.INDEX cl 0).addr, (SXT_STR_DROP.COUNT cl 1).addr, (SXT_STR_DROPAT.INDEX cl 1).addr]) ∧
        s.KeepsMem t) ∧
  (∀ cl m e (codes : List (BitVec 10)) (s : State),
      cl < Config.clusterCount →
      m < 2 →
      s.get (SXT_STR_STAT.STATE cl m) = 2 →
      s.get (SXT_STR_CTRL.SRC cl m) = 0 →
      s.get (SXT_STR_COUNT.COUNT cl m) = 0 →
      ((s.gather cl m).cluster cl).str m = e →
      32 ≤ e.gathered.length →
      s.get (SXT_STR_CTRL.DEST cl m) = 1 →
      ∃ t, exec (.streamBurstWritten cl m codes true) s = .next t ∧
        ((t.cluster cl).str m).written = e.written + 32 ∧
        ((t.cluster cl).str m).gathered = e.gathered.drop 32 ∧
        t.get (SXT_STR_WPTR.WPTR cl m) = 2 * (e.written + 32) % 2 ^ s.get (SXT_STR_SIZE.LOG2 cl m) ∧
        t.get (SXT_STR_WRAPS.WRAPS cl m) = 2 * (e.written + 32) / 2 ^ s.get (SXT_STR_SIZE.LOG2 cl m) % 2 ^ 32 ∧
        t.get TDM_CNT_BURSTS.COUNT = s.get TDM_CNT_BURSTS.COUNT ∧
        t.get (Fld.bit FLT_ACT.CODE 0x0E) = 1 ∧
        s.KeepsMem t) ∧
  (∀ cl sample (s : State),
      cl < Config.clusterCount →
      s.get (SXT_STR_STAT.STATE cl 0) = 1 →
      s.get (SXT_STR_CTRL.TRIG cl 0) ≠ 1 →
      (s.cluster cl).ss0.seen = some sample →
      ∃ t, exec (.streamTrigger cl sample) s = .next t ∧
        t.get (SXT_STR_STAT.STATE cl 0) = 2 ∧
        t.get (SXT_STR_STAT.TRIGGERED cl 0) = 1 ∧
        t.get (SXT_STR_TRIGPOS.POS cl 0) = 2 * (sample - ((s.cluster cl).ss0.taken - (s.cluster cl).ss0.written - (s.cluster cl).ss0.gathered.length)) % 2 ^ s.get (SXT_STR_SIZE.LOG2 cl 0) ∧
        s.KeepsRegs t [(SXT_STR_STAT.reg cl 0).addr, (SXT_STR_TRIGPOS.POS cl 0).addr] ∧
        s.KeepsMem t) ∧
  (∀ cl sample (s : State),
      cl < Config.clusterCount →
      s.get (SXT_STR_STAT.STATE cl 0) = 1 →
      s.get (SXT_STR_CTRL.TRIG cl 0) = 1 →
      s.get64 (SXT_STR_TTIME_LO.TIME cl 0) ≤ s.sysTime →
      ∃ t, exec (.streamTrigger cl sample) s = .next t ∧
        t.get (SXT_STR_STAT.STATE cl 0) = 2 ∧
        (t.cluster cl).ss0.trigAt = some 0 ∧
        s.KeepsRegs t [(SXT_STR_STAT.reg cl 0).addr] ∧
        s.KeepsMem t)

/-- A write of SXT_MAINT that raises one yard's bit while its domain is stable in D3 or D4 brings the yard into the
maintenance state at once: HAND is asked for, and SXT_MAINT_NOW shows it. SXT_CAL step 1, where a calibration may
start, connects the first channel and clears the result, elsewhere RESULT reads 3; step 2 goes on from state 2 to 3;
step 3 before state 4 ends it with RESULT 4. SYSCAL_CHANNEL_DONE keeps the mean and goes to the next channel, from the
last one to state 2, or to state 4 with the coefficients applied and TCAL recorded. SYSCAL_RECORD_WRITTEN writes the
older copy of the Sextant records, or the first where none is, and no other byte of flash, and sets RESULT.
SYSCAL_TIMEOUT in state 2 ends it with RESULT 4. That RESULT is cleared at the start, what STEP 1 on the calibrating
cluster does and for which reference the coefficients hold are the model's choices (assumption log 39); flash that
nothing wrote reads 0xFF (9). Rests on R184, R185, R186, R187, R188, R190, R189, R105. -/
def Obligations.CalibrationAndMaintenanceRun : Prop :=
  (∀ q j (data : Word) k y (s : State),
      j < 3 →
      y = 32 * j + k →
      y < Config.yardCount →
      s.Takes q ((SXT_MAINT.YARD j).addr) →
      changed (s.word (SXT_MAINT.YARD j).addr) data = [k] →
      tb data.toNat k = true →
      3 ≤ s.domState y →
      s.domStable y = true →
      (s.yard y).maintHold = false →
      ∃ t, exec (.sxtMaintWrite q j data) s = .next t ∧
        t.get (SXT_MAINT.YARD j) = data.toNat ∧
        (t.yard y).maintHold = true ∧
        (t.yard y).savedMode = s.on (YRD_LOOP.MODE y) ∧
        t.get (YRD_LOOP.MODE y) = 1 ∧
        t.get (Fld.bit SXT_MAINT_NOW.YARD y) = 1 ∧
        s.KeepsMem t) ∧
  (∀ q cl (s : State),
      cl < Config.clusterCount →
      s.Takes q ((SXT_CAL.reg cl).addr) →
      s.calAllowed cl = true →
      ∃ t, exec (.sxtCalZero q cl) s = .next t ∧
        t.get (SXT_CAL.STATE cl) = 1 ∧
        t.get (SXT_CAL.RESULT cl) = 0 ∧
        t.get (SXT_STATUS.CAL_RUN cl) = 1 ∧
        (t.cluster cl).calCh = (externalChannels cl).headD 0 ∧
        (t.cluster cl).calU0 = [] ∧
        s.KeepsRegs t [(SXT_CAL.reg cl).addr, (SXT_STATUS.reg cl).addr] ∧
        s.KeepsMem t) ∧
  (∀ q cl (s : State),
      cl < Config.clusterCount →
      s.Takes q ((SXT_CAL.reg cl).addr) →
      s.calAllowed cl = false →
      ∃ t, exec (.sxtCalZero q cl) s = .next t ∧
        t.get (SXT_CAL.RESULT cl) = 3 ∧
        t.get (SXT_CAL.STATE cl) = s.get (SXT_CAL.STATE cl) ∧
        s.KeepsRegs t [(SXT_CAL.reg cl).addr] ∧
        s.KeepsMem t ∧
        s.KeepsUnits t) ∧
  (∀ q cl (s : State),
      cl < Config.clusterCount →
      s.Takes q ((SXT_CAL.reg cl).addr) →
      s.get (SXT_CAL.STATE cl) = 2 →
      ∃ t, exec (.sxtCalFullScale q cl) s = .next t ∧
        t.get (SXT_CAL.STATE cl) = 3 ∧
        (t.cluster cl).calCh = (externalChannels cl).headD 0 ∧
        (t.cluster cl).calU0 = (s.cluster cl).calU0 ∧
        s.KeepsRegs t [(SXT_CAL.reg cl).addr] ∧
        s.KeepsMem t) ∧
  (∀ q cl (s : State),
      cl < Config.clusterCount →
      s.Takes q ((SXT_CAL.reg cl).addr) →
      1 ≤ s.get (SXT_CAL.STATE cl) →
      s.get (SXT_CAL.STATE cl) ≤ 3 →
      (s.cluster cl).calTag = none →
      ∃ t, exec (.sxtCalAbort q cl) s = .next t ∧
        t.get (SXT_CAL.STATE cl) = 0 ∧
        t.get (SXT_CAL.RESULT cl) = 4 ∧
        t.get (SXT_STATUS.CAL_RUN cl) = 0 ∧
        s.KeepsRegs t [(SXT_CAL.reg cl).addr, (SXT_STATUS.reg cl).addr, pgX cl + 0x14] ∧
        s.KeepsMem t) ∧
  (∀ cl (mean : Int) ch (s : State),
      cl < Config.clusterCount →
      s.get (SXT_CAL.STATE cl) = 1 →
      (externalChannels cl).find? (fun c => decide ((s.cluster cl).calCh < c)) = some ch →
      ∃ t, exec (.syscalChannelDone cl mean) s = .next t ∧
        (t.cluster cl).calU0 = (s.cluster cl).calU0 ++ [mean] ∧
        (t.cluster cl).calCh = ch ∧
        s.KeepsRegs t [] ∧
        s.KeepsMem t) ∧
  (∀ cl (mean : Int) (s : State),
      cl < Config.clusterCount →
      s.get (SXT_CAL.STATE cl) = 1 →
      (externalChannels cl).find? (fun c => decide ((s.cluster cl).calCh < c)) = none →
      (s.cluster cl).calTag = none →
      ∃ t, exec (.syscalChannelDone cl mean) s = .next t ∧
        (t.cluster cl).calU0 = (s.cluster cl).calU0 ++ [mean] ∧
        t.get (SXT_CAL.STATE cl) = 2 ∧
        s.KeepsRegs t [(SXT_CAL.reg cl).addr] ∧
        s.KeepsMem t) ∧
  (∀ cl (mean : Int) (s : State),
      cl < Config.clusterCount →
      s.get (SXT_CAL.STATE cl) = 3 →
      (externalChannels cl).find? (fun c => decide ((s.cluster cl).calCh < c)) = none →
      ∃ t, exec (.syscalChannelDone cl mean) s = .next t ∧
        (t.cluster cl).calU1 = (s.cluster cl).calU1 ++ [mean] ∧
        t.get (SXT_CAL.STATE cl) = 4 ∧
        t.get (SXT_COMP_CFG.TCAL cl) = unsigned 16 (s.sxtT cl) ∧
        s.KeepsMem t) ∧
  (∀ cl (s : State),
      cl < Config.clusterCount →
      s.get (SXT_CAL.STATE cl) = 4 →
      (s.cluster cl).calTag = none →
      ∃ t, exec (.syscalRecordWritten cl) s = .next t ∧
        t.get (SXT_CAL.STATE cl) = 0 ∧
        (t.get (SXT_CAL.RESULT cl) = 1 ∨ t.get (SXT_CAL.RESULT cl) = 2) ∧
        (∀ base, base = sxtCopy (match s.copySeq (sxtCopy (s.newerCopy (sxtCopy 0) (sxtCopy 1))) with
            | none => 0 | some _ => 1 - s.newerCopy (sxtCopy 0) (sxtCopy 1)) →
          ∀ a, a < base ∨ base + 0x10000 ≤ a → t.flashAt a = s.flashAt a) ∧
        (∀ a, t.storeAt a = s.storeAt a ∧ t.capAt a = s.capAt a) ∧
        s.KeepsRegs t [(SXT_CAL.reg cl).addr, (SXT_STATUS.reg cl).addr, (SXT_CNT_SYSCAL.COUNT cl).addr, pgX cl + 0x14]) ∧
  (∀ cl (s : State),
      cl < Config.clusterCount →
      s.get (SXT_CAL.STATE cl) = 2 →
      (s.cluster cl).calTag = none →
      ∃ t, exec (.syscalTimeout cl) s = .next t ∧
        t.get (SXT_CAL.STATE cl) = 0 ∧
        t.get (SXT_CAL.RESULT cl) = 4 ∧
        t.get (SXT_STATUS.CAL_RUN cl) = 0 ∧
        s.KeepsRegs t [(SXT_CAL.reg cl).addr, (SXT_STATUS.reg cl).addr, pgX cl + 0x14] ∧
        s.KeepsMem t)

/-- FAR_SUSCLR.GO clears the suspect marks of the points it names where each can be cleared, and no other. ZPATH_WINDOW
with fewer than 1,000 samples on each unsuspected point rejects its windows, counts each of them (assumption log 24)
and empties the accumulators. FAR_CTRL.GO, and FAR_PLAN_PERIODIC with AUTO 1, start a plan in way-on service with none
running or postponed; GO during one shows BUSY. In way-on service, Oteus not holding course, FAR_PLAN_COMPUTED goes on
to writing; the first plan of all only takes baselines (assumption log 25) and changes no register but FAR_STATUS. A
commit that fails ends the plan FAILED, leaves flash and every floor, and is logged; a commit of changes made outside
a plan writes the copy not in use and no other byte of flash. LOSS_PROBE, which stands for the end of a probe
(assumption log 24), keeps the loss of a bay it may run on, and shows it as percent of the baseline where there is
one. That a plan stands still outside way-on service is log 38, and that a running plan goes on when one core carries
both roles log 39. Rests on R197, R200, R204, R206, R207, R208, R209, R210, R215, R216, R105, R190. -/
def Obligations.FarrierPlansAndCommits : Prop :=
  (∀ q y (points : BitVec 4) (s : State),
      y < Config.yardCount →
      s.Takes q (FAR_SUSCLR.reg.addr) →
      ((List.range 4).filter (tb points.toNat)).all (fun p => (s.clearSuspect y p).2) = true →
      ∃ t, exec (.farSusclrGo q y points) s = .next t ∧
        (∀ p < 4, tb (t.get (YRD_FB.SUSPECT y)) p = (tb (s.get (YRD_FB.SUSPECT y)) p && !tb points.toNat p)) ∧
        s.KeepsRegs t [FAR_SUSCLR.reg.addr, (YRD_FB.reg y).addr] ∧
        s.KeepsMem t ∧
        s.KeepsUnits t) ∧
  (∀ y (s : State),
      y < Config.yardCount →
      s.get (YRD_FB.SUSPECT y) = 0 →
      (s.yard y).pts.all (fun p => decide (p.n < 1000)) = true →
      ∃ t, exec (.zpathWindow y) s = .next t ∧
        t.get FAR_CNT_ZPREJ.COUNT = min (s.get FAR_CNT_ZPREJ.COUNT + 4) 0xFFFFFFFF ∧
        ((t.yard y).pts.all (fun p => p.n == 0 && p.si == 0 && p.sd == 0) = true) ∧
        (t.yard y).runChanged = false ∧
        (t.yard y).zT = s.sensor (s.get (SXT_COMP_CFG.TSENS (y / 4))) ∧
        s.KeepsRegs t [FAR_CNT_ZPREJ.COUNT.addr] ∧
        s.KeepsMem t) ∧
  (∀ (s : State),
      s.on FAR_CTRL.AUTO = true →
      s.inWayOn = true →
      s.far = .idle →
      s.get FAR_STATUS.STATE = 0 →
      s.planPostponed = false →
      ∃ t, exec (.farPlanPeriodic) s = .next t ∧
        t.far = .planning ∧
        t.get FAR_STATUS.STATE = 2 ∧
        (∀ n < Config.clusterCount, (t.cluster n).refTurn = true) ∧
        s.KeepsRegs t [FAR_STATUS.reg.addr] ∧
        s.KeepsMem t) ∧
  (∀ q (s : State),
      s.Takes q (FAR_CTRL.reg.addr) →
      s.inWayOn = true →
      s.far = .idle →
      s.get FAR_STATUS.STATE = 0 →
      s.planPostponed = false →
      ∃ t, exec (.farCtrlGo q) s = .next t ∧
        t.far = .planning ∧
        t.get FAR_STATUS.STATE = 2 ∧
        t.farTag = none ∧
        s.KeepsRegs t [FAR_STATUS.reg.addr, FAR_CTRL.reg.addr] ∧
        s.KeepsMem t) ∧
  (∀ q (s : State),
      s.Takes q (FAR_CTRL.reg.addr) →
      s.far ≠ .idle →
      ∃ t, exec (.farCtrlGo q) s = .next t ∧
        t.far = s.far ∧
        t.get FAR_STATUS.RESULT = 2 ∧
        s.KeepsRegs t [FAR_STATUS.reg.addr, FAR_CTRL.reg.addr] ∧
        s.KeepsMem t ∧
        s.KeepsUnits t) ∧
  (∀ (s : State),
      s.far = .planning →
      s.inWayOn = true →
      s.courseHeld = false →
      ∃ t, exec (.farPlanComputed) s = .next t ∧
        t.far = .writing ∧
        t.get FAR_STATUS.STATE = 3 ∧
        t.farPlans = s.farPlans + 1 ∧
        t.farBased = true ∧
        (s.farBased = false → s.KeepsRegs t [FAR_STATUS.reg.addr]) ∧
        t.sent = s.sent ∧
        s.KeepsMem t) ∧
  (∀ (s : State),
      s.far = .writing →
      s.inWayOn = true →
      s.courseHeld = false →
      s.farTag = none →
      ∃ t, exec (.farRecordCommit false) s = .next t ∧
        t.far = .idle ∧
        t.get FAR_STATUS.STATE = 0 ∧
        t.get FAR_STATUS.RESULT = 3 ∧
        t.subst = [] ∧
        (∀ y < Config.yardCount, t.get (FAR_YSTAT.FLOOR y) = s.get (FAR_YSTAT.FLOOR y)) ∧
        s.KeepsPages t faultPages [FAR_STATUS.reg.addr, pgFAR + 0x14] ∧
        s.KeepsMem t ∧
        t.yards = s.yards) ∧
  (∀ (s : State),
      s.far = .idle →
      s.farDirty = true →
      ∃ t, exec (.farRecordCommit true) s = .next t ∧
        t.farSeq = s.farSeq + 1 ∧
        t.farRecord = true ∧
        t.farDirty = false ∧
        (∀ base, base = (match s.farCurrent with | some b => farCopy !b | none => farCopy false) →
          ∀ a, a < base ∨ base + 12356 ≤ a → t.flashAt a = s.flashAt a) ∧
        (∀ a, t.storeAt a = s.storeAt a ∧ t.capAt a = s.capAt a) ∧
        s.KeepsRegs t [] ∧
        s.KeepsUnits t) ∧
  (∀ b mw (s : State),
      s.probeAllowed b = true →
      ∃ t, exec (.lossProbe b mw) s = .next t ∧
        (t.bay b).lossMw = some mw ∧
        ((s.bay b).lossBase = 0 → s.KeepsRegs t [THM_CNT_HEAT.COUNT.addr]) ∧
        ((s.bay b).lossBase ≠ 0 → t.get (BAY_WEAR.LOSS b) = lossPercent mw (s.bay b).lossBase) ∧
        s.KeepsRegs t [(BAY_WEAR.reg b).addr, THM_CNT_HEAT.COUNT.addr, pgFAR + 0x14] ∧
        s.KeepsMem t)

/-- PWS_REQ.GO with a state above 4 is refused with REFUSED_RANGE and counted; an order in range that nothing refuses
takes the place of PWS_DOM.TARGET and is shown accepted while a step runs, and from stable D0 an order to D1 raises
isolation. OT_DOM_WAKE low does nothing; high on a stable D1 domain that may wake orders D0, which lowers isolation.
WAKE_DRIVER_BIAS and WAKE_BIAS_SETTLE go on to the ramp. At SLEW_END each bay that follows set-points, neither holding
course nor in all hands, and has reached its target rests there. A ready signal is taken; the one that ends the last
step of a wake puts the domain in D0 and records the wake. A budget that runs out raises PWS_WAKE, PWS_ISO or PWS_SAVE
and fails the order; a ready signal lost in D0 or D1 raises PWS_RDY_LOST and counts. The corners of wakes and power-
downs, and the code of the lost signal, are the model's reading (assumption log 22). Rests on R221, R223, R224, R227,
R230, R231, R232, R233, R236, R237, R418, R399. -/
def Obligations.DomainsFollowOrdersAndSignals : Prop :=
  (∀ q d st (s : State),
      d < Config.yardCount →
      4 < st →
      st < 8 →
      s.Takes q (PWS_REQ.reg.addr) →
      (s.dom d).wakePin = false →
      ∃ t, exec (.pwsReqGo q d st) s = .next t ∧
        t.get PWS_REQ_RES.DOMAIN = d ∧
        t.get PWS_REQ_RES.STATUS = stRefusedRange ∧
        t.get PWS_CNT_REFUSED.COUNT = min (s.get PWS_CNT_REFUSED.COUNT + 1) 0xFFFFFFFF ∧
        s.KeepsRegs t [PWS_REQ.reg.addr, PWS_REQ_RES.reg.addr, PWS_CNT_REFUSED.COUNT.addr, pgPWS + 0x14] ∧
        s.KeepsMem t ∧
        s.KeepsUnits t) ∧
  (∀ q d st (s : State),
      d < Config.yardCount →
      st < 8 →
      s.Takes q (PWS_REQ.reg.addr) →
      s.orderRefusal d st (orderSrc (clsOf q)) = none →
      (s.dom d).order = none →
      (s.dom d).step ≠ .stable →
      ∃ t, exec (.pwsReqGo q d st) s = .next t ∧
        (t.dom d).order = some ⟨st, orderSrc (clsOf q), s.mono, false, true, none, []⟩ ∧
        t.get (PWS_DOM.TARGET d) = st ∧
        t.get PWS_REQ_RES.DOMAIN = d ∧
        t.get PWS_REQ_RES.STATUS = stAccepted ∧
        s.KeepsRegs t [PWS_REQ.reg.addr, PWS_REQ_RES.reg.addr, (PWS_DOM.reg d).addr] ∧
        s.KeepsMem t) ∧
  (∀ q d (s : State),
      d < Config.yardCount →
      s.Takes q (PWS_REQ.reg.addr) →
      s.orderRefusal d 1 (orderSrc (clsOf q)) = none →
      s.domStable d = true →
      s.domState d = 0 →
      s.on (PWS_DOM.ISO d) = false →
      (s.dom d).isoAck = false →
      ∃ t, exec (.pwsReqGo q d 1) s = .next t ∧
        (t.dom d).step = .dnIso ∧
        t.get (PWS_DOM.ISO d) = 1 ∧
        t.get (PWS_DOM.TARGET d) = 1 ∧
        t.get (PWS_DOM.STATE d) = 0 ∧
        t.get (PWS_DOM.STEP d) = 5 ∧
        t.get PWS_REQ_RES.STATUS = stAccepted ∧
        s.KeepsRegs t [PWS_REQ.reg.addr, PWS_REQ_RES.reg.addr, (PWS_DOM.reg d).addr] ∧
        s.KeepsMem t) ∧
  (∀ d (s : State),
      d < Config.yardCount →
      ∃ t, exec (.domainWakePin d false) s = .next t ∧
        (t.dom d).wakePin = false ∧
        (∀ e, e ≠ d → t.dom e = s.dom e) ∧
        s.KeepsRegs t [] ∧
        s.KeepsMem t) ∧
  (∀ d (s : State),
      d < Config.yardCount →
      s.on (Fld.bit PWS_WAKE_EN.DOMAIN d) = true →
      s.domStable d = true →
      s.domState d = 1 →
      s.orderRefusal d 0 .wakePin = none →
      (s.dom d).reg = true →
      (s.dom d).oscEn = true →
      (s.dom d).memEn = true →
      (s.dom d).rstN = true →
      (s.dom d).ret = false →
      s.on (PWS_DOM.ISO d) = true →
      (s.dom d).isoAck = true →
      ∃ t, exec (.domainWakePin d true) s = .next t ∧
        (t.dom d).wakePin = true ∧
        (t.dom d).order = some ⟨0, .wakePin, s.mono, false, false, none, []⟩ ∧
        (t.dom d).step = .isolation ∧
        t.get (PWS_DOM.ISO d) = 0 ∧
        t.get (PWS_DOM.TARGET d) = 0 ∧
        t.get PWS_CNT_WAKEPIN.COUNT = min (s.get PWS_CNT_WAKEPIN.COUNT + 1) 0xFFFFFFFF ∧
        s.KeepsRegs t [(PWS_DOM.reg d).addr, PWS_CNT_WAKEPIN.COUNT.addr, pgPWS + 0x14] ∧
        s.KeepsMem t) ∧
  (∀ d (s : State),
      (s.dom d).step = .bias →
      s.goesUp d = true →
      ∃ t, exec (.wakeDriverBias d) s = .next t ∧
        (t.dom d).step = .ramp ∧
        (t.dom d).volt = .full ∧
        (t.yard d).hSoft = true ∧
        t.get (PWS_DOM.STEP d) = 1 ∧
        (s.KeepsRegs t ((PWS_DOM.reg d).addr :: (YRD_OFFSETS.reg d).addr :: (s.orderBays d).map fun c => (BAY_REF.reg c).addr)) ∧
        s.KeepsMem t) ∧
  (∀ d (s : State),
      (s.dom d).step = .biasSettle →
      s.goesUp d = true →
      ∃ t, exec (.wakeBiasSettle d) s = .next t ∧
        (t.dom d).step = .ramp ∧
        (t.dom d).volt = .full ∧
        (t.yard d).retained = false ∧
        s.KeepsRegs t [(PWS_DOM.reg d).addr] ∧
        s.KeepsMem t) ∧
  (∀ y b (s : State),
      y < Config.yardCount →
      b ∈ reach y →
      (s.bay b).yard = y →
      (s.bay b).followsSet = true →
      (s.bay b).holding = false →
      (s.bay b).allHands = false →
      s.bayCode b = ((s.bay b).target : Int) →
      (s.dom y).step ≠ .ramp →
      (s.dom y).step ≠ .dnRamp →
      ∃ t, exec (.slewEnd y) s = .next t ∧
        t.get (BAY_REF.VID_NOW b) = (s.bay b).target % 1024 ∧
        (t.bay b).softStart = false ∧
        (t.bay b).st = (s.bay b).st ∧
        (s.KeepsRegs t ((PWS_DOM.reg y).addr :: (reach y).map fun c => (BAY_REF.reg c).addr)) ∧
        s.KeepsMem t) ∧
  (∀ d sig level (s : State),
      d < Config.yardCount →
      (s.modDom d fun m => m.signal sig level).stepDone d = false →
      ∃ t, exec (.domainReadyInput d sig level) s = .next t ∧
        t.dom d = (s.dom d).signal sig level ∧
        (∀ e, e ≠ d → t.dom e = s.dom e) ∧
        s.KeepsRegs t [] ∧
        s.KeepsMem t) ∧
  (∀ d o (s : State),
      d < Config.yardCount →
      (s.dom d).step = .isolation →
      s.get (PWS_DOM.TARGET d) = 0 →
      s.on (PWS_DOM.ISO d) = false →
      (s.dom d).reg = true →
      (s.dom d).oscEn = true →
      (s.dom d).memEn = true →
      (s.dom d).rstN = true →
      (s.dom d).ret = false →
      (s.dom d).order = some o →
      (s.dom d).wake = true →
      o.byReg = false →
      o.tag = none →
      (s.yard d).held = [] →
      ∃ t, exec (.domainReadyInput d .isoAck false) s = .next t ∧
        (t.dom d).step = .stable ∧
        (t.dom d).order = none ∧
        (t.dom d).wake = false ∧
        t.get (PWS_DOM.STATE d) = 0 ∧
        t.get (PWS_DOM.STEP d) = 0 ∧
        t.get (PWS_DOM.WAKE_SRC d) = o.src.code ∧
        t.get PWS_CNT_WAKE.COUNT = min (s.get PWS_CNT_WAKE.COUNT + 1) 0xFFFFFFFF ∧
        s.KeepsPages t (9 :: faultPages) [] ∧
        s.KeepsMem t) ∧
  (∀ d o (s : State),
      d < Config.yardCount →
      (s.dom d).step.waitsUp = true →
      (s.dom d).forced = false →
      (s.dom d).order = some o →
      ∃ t, exec (.pwsWakeTimeout d) s = .next t ∧
        t.get (Fld.bit FLT_ACT.CODE 0x25) = 1 ∧
        t.get PWS_CNT_FAIL.COUNT = min (s.get PWS_CNT_FAIL.COUNT + 1) 0xFFFFFFFF ∧
        s.KeepsPages t (0xB :: lossPages) [] ∧
        s.KeepsMem t) ∧
  (∀ d o (s : State),
      d < Config.yardCount →
      (s.dom d).step = .dnIso →
      (s.dom d).forced = false →
      (s.dom d).order = some o →
      ∃ t, exec (.pwsIsoTimeout d) s = .next t ∧
        t.get (Fld.bit FLT_ACT.CODE 0x26) = 1 ∧
        t.get PWS_CNT_FAIL.COUNT = min (s.get PWS_CNT_FAIL.COUNT + 1) 0xFFFFFFFF ∧
        s.KeepsPages t (0xB :: lossPages) [] ∧
        s.KeepsMem t) ∧
  (∀ d o (s : State),
      d < Config.yardCount →
      (s.dom d).step.waitsSave = true →
      (s.dom d).forced = false →
      (s.dom d).order = some o →
      ∃ t, exec (.pwsSaveTimeout d) s = .next t ∧
        t.get (Fld.bit FLT_ACT.CODE 0x27) = 1 ∧
        t.get PWS_CNT_FAIL.COUNT = min (s.get PWS_CNT_FAIL.COUNT + 1) 0xFFFFFFFF ∧
        s.KeepsPages t (0xB :: lossPages) [] ∧
        s.KeepsMem t) ∧
  (∀ d sig (s : State),
      d < Config.yardCount →
      s.domState d ≤ 1 →
      s.atRest d = true →
      ((sig = .oscRdy ∧ (s.dom d).oscRdy = false ∨ sig = .memRdy ∧ (s.dom d).memRdy = false ∨ sig = .logicRdy ∧ (s.dom d).logicRdy = false
        ∨ sig = .isoAck ∧ (s.dom d).isoAck = true ∧ s.domState d = 0)) →
      ∃ t, exec (.pwsRdyLost d sig) s = .next t ∧
        t.get (Fld.bit FLT_ACT.CODE 0x28) = 1 ∧
        t.get PWS_CNT_RDYLOST.COUNT = min (s.get PWS_CNT_RDYLOST.COUNT + 1) 0xFFFFFFFF ∧
        t.doms = s.doms ∧
        s.KeepsPages t faultPages [PWS_CNT_RDYLOST.COUNT.addr, pgPWS + 0x14] ∧
        s.KeepsMem t)

/-- In way-on service, Oteus not holding course, with no device cap deferred and the mode in force the one asked for, a
cap-loop boundary puts the period's device power at the front of its history, shows it in CAP_POWER, and sets the
device rung and the periods since it tightened by R247. A boundary that overran counts in CAP_CNT_LOOPMISS and leaves
the rung. CURRENT_LAYER_EVAL starts every yard's window anew, tightens a yard by one eighth below the rate in effect
where its peak or its 1 ms average exceeds its limit, leaves the other yards' steps, and shows each rail's current.
What the layers do at the edges of way-on service and of a deferral is the model's reading (assumption log 20), and so
are the excess an episode reports and the first settlement (38). Rests on R28, R244, R245, R247, R267, R418. -/
def Obligations.CapLoopAndCurrentLayersAct : Prop :=
  (∀ p (s : State),
      s.inWayOn = true →
      s.courseHeld = false →
      s.cap.defer = none →
      s.get CAP_MODE.MODE = s.get CAP_STATUS.MODE_NOW →
      p = ((List.range Config.yardCount).map s.yardMw).sum + ((List.range Config.yardCount).map s.yardHeat).sum →
      ∃ t, exec (.capLoopBoundary false) s = .next t ∧
        t.cap.oppOld = [] ∧
        t.cap.history = (p :: s.cap.history).take 100 ∧
        t.get CAP_POWER.P = min 65535 (p / 1000) ∧
        t.get CAP_DEV_NOW.IN_FORCE = s.get CAP_DEV_NOW.IN_FORCE ∧
        ((t.get CAP_STATUS.RUNG, t.cap.since) = capRung (s.get CAP_STATUS.RUNG) s.cap.since p (1000 * s.get CAP_DEV_NOW.IN_FORCE) (1000 * s.get CAP_EXC.EXC_MAX)
          (s.get CAP_TUNE.STEP2) (s.get CAP_TUNE.HYST) (s.get CAP_TUNE.RELEASE_WAIT) ({ s with cap := { s.cap with oppOld := [] } } : State).lowestRung
          (s.get CAP_STATUS.MODE_NOW ≠ 3 && decide (0 < t.credit10) && decide ((t.cap.history.filter fun x => decide (1000 * s.get CAP_DEV_NOW.IN_FORCE < x)).length < s.get CAP_EXC.EXC_TIME))) ∧
        (∀ y, (t.yard y).pSum = 0 ∧ (t.yard y).pCnt = 0 ∨ Config.yardCount ≤ y) ∧
        (s.KeepsPages t (9 :: 0xA :: 0xB :: faultPages ++ (List.range 6).map (fun k => 0x20 + k)) []) ∧
        s.KeepsMem t) ∧
  (∀ (s : State),
      s.inWayOn = true →
      ∃ t, exec (.capLoopBoundary true) s = .next t ∧
        t.get CAP_CNT_LOOPMISS.COUNT = min (s.get CAP_CNT_LOOPMISS.COUNT + 1) 0xFFFFFFFF ∧
        t.get CAP_STATUS.RUNG = s.get CAP_STATUS.RUNG ∧
        t.sent = s.sent ∧
        t.soQueue = s.soQueue ∧
        s.KeepsRegs t [CAP_CNT_LOOPMISS.COUNT.addr, CAP_POWER.P.addr, pgCAP + 0x14] ∧
        s.KeepsMem t) ∧
  (∀ (s : State),
      ∃ t, exec (.currentLayerEval) s = .next t ∧
        (∀ y < Config.yardCount, (t.yard y).iyPart = (0, 0) ∧ (t.yard y).iyPeak = 0 ∧ (t.yard y).iyParts = ((s.yard y).iyPart :: (s.yard y).iyParts).take 100 ∧
          (t.yard y).tightened = (decide ((s.get CAP_ILIM.PEAK : Int) * s.limit20 y < 100 * (s.yard y).iyPeak)
            || decide ((s.limit20 y : Int) * (t.yard y).avg.2 < (t.yard y).avg.1)) ∧
          (t.yard y).curSteps = (if (t.yard y).tightened = true ∧ (s.yard y).curSteps < 7 then stepFrom (s.yard y).curSteps (s.yard y).thr else (s.yard y).curSteps)) ∧
        t.get CAP_RAIL_NOW.PKGA = min 65535 (max 0 (s.railIMon 0) / 16).toNat ∧
        t.get CAP_RAIL_NOW.PKGB = min 65535 (max 0 (s.railIMon 1) / 16).toNat ∧
        (s.KeepsPages t (9 :: 0xA :: faultPages ++ (List.range 6).map (fun k => 0x20 + k)) []) ∧
        s.KeepsMem t)

/-- CAP_JOB.GO begins a job of a context that has none open, and answers DONE; it is refused as busy where one is open. GO
with END ends the open job, and is refused where none is. The shown results are in CAP_JOB_RES. JOB_RECORD takes the
job that ended first off the list and stages its record on stream 1, or counts it lost where 16 records wait. An
interval's end in way-on service queues it with its owner and time. ATTRIBUTION_RUN runs the energy model on the
interval that closed first and counts. SETTLEMENT of ended periods outside way-on service, and in it where no interval
was estimated, adds the measured rail energies, in whole micro-joules (assumption log 19), to CAP_UNATTR and empties
them; energies measured outside way-on service go there in both. That a job record is staged whether or not its stream
runs is log 29. Rests on R258, R259, R260, R261, R262, R266, R267, R155, R348, R418. -/
def Obligations.JobsAndEnergyAreAccounted : Prop :=
  (∀ q c tag (s : State),
      c < 64 →
      tag < 65536 →
      clsOf q = .kern →
      s.Takes q (CAP_JOB.reg.addr) →
      s.openJob c = none →
      s.confidential c = false →
      s.wasActive = s.active →
      ∃ t, exec (.capJobBegin q c tag) s = .next t ∧
        t.jobs = s.jobs ++ [{ id := s.jobNext, ctx := c, tag := tag, begin_ := s.sysTime, noattr := !s.inWayOn, station := s.stationOk, unmet := s.on CAP_STATUS.UNMET }] ∧
        t.jobNext = s.jobNext + 1 ∧
        t.get CAP_JOB_RES.CONTEXT = c ∧
        t.get CAP_JOB_RES.STATUS = stDone ∧
        s.KeepsRegs t [CAP_JOB.reg.addr, CAP_JOB_RES.reg.addr, CAP_CNT_ATTRMERGE.COUNT.addr] ∧
        s.KeepsMem t) ∧
  (∀ q c tag j (s : State),
      c < 64 →
      tag < 65536 →
      clsOf q = .kern →
      s.Takes q (CAP_JOB.reg.addr) →
      s.openJob c = some j →
      ∃ t, exec (.capJobBegin q c tag) s = .next t ∧
        t.jobs = s.jobs ∧
        t.get CAP_JOB_RES.CONTEXT = c ∧
        t.get CAP_JOB_RES.STATUS = stRefusedBusy ∧
        s.KeepsRegs t [CAP_JOB.reg.addr, CAP_JOB_RES.reg.addr] ∧
        s.KeepsMem t ∧
        s.KeepsUnits t) ∧
  (∀ q c tag j (s : State),
      c < 64 →
      tag < 65536 →
      clsOf q = .kern →
      s.Takes q (CAP_JOB.reg.addr) →
      s.openJob c = some j →
      s.confidential c = false →
      s.wasActive = s.active →
      ∃ t, exec (.capJobEnd q c tag) s = .next t ∧
        (t.jobs = s.refreshStation.jobs.map (fun k => if k.id = j.id then { k with isOpen := false, tag := tag, end_ := s.sysTime, conf := false } else k)) ∧
        t.get CAP_JOB_RES.CONTEXT = c ∧
        t.get CAP_JOB_RES.STATUS = stDone ∧
        s.KeepsRegs t [CAP_JOB.reg.addr, CAP_JOB_RES.reg.addr, CAP_STATUS.reg.addr, CAP_CNT_ATTRMERGE.COUNT.addr] ∧
        s.KeepsMem t) ∧
  (∀ q c tag (s : State),
      c < 64 →
      tag < 65536 →
      clsOf q = .kern →
      s.Takes q (CAP_JOB.reg.addr) →
      s.openJob c = none →
      ∃ t, exec (.capJobEnd q c tag) s = .next t ∧
        t.jobs = s.jobs ∧
        t.get CAP_JOB_RES.CONTEXT = c ∧
        t.get CAP_JOB_RES.STATUS = stRefusedRange ∧
        s.KeepsRegs t [CAP_JOB.reg.addr, CAP_JOB_RES.reg.addr] ∧
        s.KeepsMem t ∧
        s.KeepsUnits t) ∧
  (∀ j r (s : State),
      s.jobs.find? (fun j => !j.isOpen) = some j →
      j.conf = false →
      (s.stream 1).staged.length < 16 →
      (s.stream 1).lost = 0 →
      r = ⟨tdmRecord 0x0021 (jobFlags j) (jobBody j j.e j.ePriv j.eShared (match s.attrSlot with | some k => s.get (DRE_SLOT_ID.MODEL_ID k) | none => 0) s.recSeq (min 65535 (j.peak / 1000))), some j.ctx, none⟩ →
      stagedBytes ((s.stream 1).staged ++ [r]) ≤ 4096 →
      ∃ t, exec (.jobRecord) s = .next t ∧
        (t.jobs = s.jobs.filter (fun k => k.id != j.id)) ∧
        (t.stream 1).staged = (s.stream 1).staged ++ [r] ∧
        t.recSeq = s.recSeq + 1 ∧
        s.KeepsRegs t [pgCAP + 0x14] ∧
        s.KeepsMem t) ∧
  (∀ j (s : State),
      s.jobs.find? (fun j => !j.isOpen) = some j →
      j.conf = false →
      16 ≤ (s.stream 1).staged.length →
      ∃ t, exec (.jobRecord) s = .next t ∧
        (t.jobs = s.jobs.filter (fun k => k.id != j.id)) ∧
        (t.stream 1).staged = (s.stream 1).staged ∧
        (t.stream 1).lost = (s.stream 1).lost + 1 ∧
        t.get (TDM_STR_LOST.COUNT 1) = min (s.get (TDM_STR_LOST.COUNT 1) + 1) 0xFFFFFFFF ∧
        t.get CAP_CNT_RECLOST.COUNT = min (s.get CAP_CNT_RECLOST.COUNT + 1) 0xFFFFFFFF ∧
        s.KeepsRegs t [(TDM_STR_LOST.COUNT 1).addr, CAP_CNT_RECLOST.COUNT.addr, pgTDM + 0x14] ∧
        s.KeepsMem t) ∧
  (∀ y tmp (s : State),
      y < Config.yardCount →
      Config.isPrivate y = true →
      s.inWayOn = true →
      s.yardT y = some tmp →
      (s.yard y).closed.length < 4 →
      (s.yard y).open_.n ≠ 0 →
      ∃ t, exec (.attributionIntervalClose y) s = .next t ∧
        (∀ o us, o = s.ownerByte y → us = (s.mono - (s.yard y).openAt) / ns 1000 →
          (t.yard y).closed = (s.yard y).closed ++ [{ (s.yard y).open_ with owner := o, job := (s.openJob o).map (fun j => j.id), us := us, period := (s.sysTime - 1000 * us) / 1000000, temp := tmp / 16, order := s.closeSeq }]) ∧
        (t.yard y).open_ = {} ∧
        (t.yard y).openAt = s.mono ∧
        (∀ z, z ≠ y → t.yard z = s.yard z) ∧
        s.KeepsRegs t [] ∧
        s.KeepsMem t) ∧
  (∀ k y i (s : State),
      s.dreOn = true →
      s.fly = none →
      s.due = [] →
      s.attrSlot = some k →
      s.oldestClosed = some y →
      (s.yard y).closed.head? = some i →
      ∃ t, exec (.attributionRun) s = .next t ∧
        (t.estimates = s.estimates ++ [⟨y, i.owner, i.job, i.us, i.period,
            (List.range 4).map (fun j => (max 0 ((s.runModel (s.get (DRE_SLOT_STAT.FRAME k)) ((List.range 64).map (i.source y))).1.getD j 0)).toNat * i.us), i.merged⟩]) ∧
        (t.yard y).closed = (s.yard y).closed.tail ∧
        t.get DRE_CNT_ATTRIB.COUNT = min (s.get DRE_CNT_ATTRIB.COUNT + 1) 0xFFFFFFFF ∧
        s.KeepsRegs t [DRE_CNT_ATTRIB.COUNT.addr, DRE_CNT_SAT.COUNT.addr] ∧
        s.KeepsMem t) ∧
  (∀ p e (s : State),
      1000000 ≤ s.sysTime →
      s.inWayOn = false →
      p = s.sysTime / 1000000 - 1 →
      e = (List.range 2).foldl (fun e r => e + railMicro (takePeriods p (s.rail r).eSum).1 + railMicro (takePeriods p (s.rail r).uSum).1) 0 →
      ∃ t, exec (.settlement) s = .next t ∧
        t.get64 CAP_UNATTR_LO.E = (s.get64 CAP_UNATTR_LO.E + e) % 2 ^ 64 ∧
        (∀ r < 2, (t.rail r).eSum = (takePeriods p (s.rail r).eSum).2 ∧ (t.rail r).uSum = (takePeriods p (s.rail r).uSum).2) ∧
        s.KeepsRegs t [CAP_UNATTR_LO.E.addr, CAP_UNATTR_LO.E.addr + 4] ∧
        s.KeepsMem t) ∧
  (∀ p e (s : State),
      1000000 ≤ s.sysTime →
      s.inWayOn = true →
      s.estimates = [] →
      (List.range Config.yardCount).all (fun y => (s.yard y).closed == []) = true →
      p = s.sysTime / 1000000 - 1 →
      e = (List.range 2).foldl (fun e r => e + railMicro (takePeriods p (s.rail r).eSum).1 + railMicro (takePeriods p (s.rail r).uSum).1) 0 →
      ∃ t, exec (.settlement) s = .next t ∧
        t.get64 CAP_UNATTR_LO.E = (s.get64 CAP_UNATTR_LO.E + e) % 2 ^ 64 ∧
        (∀ r < 2, (t.rail r).eSum = (takePeriods p (s.rail r).eSum).2 ∧ (t.rail r).uSum = (takePeriods p (s.rail r).uSum).2) ∧
        s.KeepsRegs t [CAP_UNATTR_LO.E.addr, CAP_UNATTR_LO.E.addr + 4] ∧
        s.KeepsMem t)

/-- A thermal scan keeps for each sensor reported its reading saturated at −40 °C and 150 °C, and leaves the readings of
the others and all memory. Where no unsuspected sensor has reached its warning or critical threshold no cold start
runs and no sensor proof, it changes only the thermal page, the clusters' temperatures and what a suspect sensor or a
blind yard raises, never a domain, a rail or the trip latch. An unsuspected sensor with too few unsuspected neighbours
to be cross-checked, critical in the scan before and in this one, trips the latch: TRIP, THM_TRIP asserting F, both
rails dark, every domain in D4. THM_COLD in a warming hold raises THM_COLD and ends it. COMPENSATION_UPDATE
interpolates the backup oscillator's trim in its 16-entry table at the diode's reading and scales the short-circuit
thresholds of X24 and X25 by (2^20 + C(T) − C(TCAL)) / 2^20 (R277). Saturation, medians and two readings in a row are
the model's reading (assumption log 27); the 100 us means end at the scans (38). Rests on R269, R272, R274, R276,
R277, R281, R310, R284, R399, R237, R190. -/
def Obligations.ThermalScanReadsAndTrips : Prop :=
  (∀ temps (s : State),
      (temps.map (·.1)).Nodup →
      temps.all (fun p => decide (p.1 < sensorCount)) = true →
      ∃ t, exec (.thermalScan temps) s = .next t ∧
        (∀ p ∈ temps, t.sensor p.1 = satTemp p.2.toInt) ∧
        (∀ k < sensorCount, k ∉ temps.map (·.1) → t.sensor k = s.sensor k) ∧
        s.KeepsMem t) ∧
  (∀ temps (u s : State),
      (temps.map (·.1)).Nodup →
      u = temps.foldl (fun s p => s.readSensor p.1 p.2.toInt) s →
      (List.range sensorCount).all (fun k => u.suspect k || (decide (u.sensor k < (16 * u.warnC k : Nat)) && decide (u.sensor k < (16 * u.critC k : Nat)))) = true →
      (List.range Config.yardCount).all (fun d => !s.coldStart d) = true →
      s.proof = none →
      ∃ t, exec (.thermalScan temps) s = .next t ∧
        t.get THM_STATUS.TRIP = s.get THM_STATUS.TRIP ∧
        t.doms = s.doms ∧
        t.rails = s.rails ∧
        t.bays = s.bays ∧
        s.KeepsPages t (0xB :: sextantPages ++ faultPages) [] ∧
        s.KeepsMem t) ∧
  (∀ temps k (u s : State),
      (temps.map (·.1)).Nodup →
      u = temps.foldl (fun s p => s.readSensor p.1 p.2.toInt) s →
      k < sensorCount →
      s.suspect k = false →
      (u.readings (sensorNeighbours k)).length < 3 →
      ((16 * u.critC k : Nat) : Int) ≤ u.sensor k →
      Tab.get (fun _ => 0) s.critRun k = 1 →
      s.on THM_STATUS.TRIP = false →
      ∃ t, exec (.thermalScan temps) s = .next t ∧
        t.get THM_STATUS.TRIP = 1 ∧
        t.get (Fld.bit FLT_ACT.CODE 0x2C) = 1 ∧
        0x2C ∈ t.assertF ∧
        (t.get (STG_RAIL.STATE 0) = 0 ∨ t.get (STG_RAIL.STATE 0) = 7) ∧
        (t.get (STG_RAIL.STATE 1) = 0 ∨ t.get (STG_RAIL.STATE 1) = 7) ∧
        (∀ d < Config.yardCount, t.get (PWS_DOM.STATE d) = 4) ∧
        s.KeepsPages t (0xB :: lossPages) [] ∧
        s.KeepsMem t) ∧
  (∀ d (s : State),
      d < Config.yardCount →
      s.coldStart d = true →
      (s.dom d).wakePin = false →
      ∃ t, exec (.thmCold d) s = .next t ∧
        t.get (Fld.bit FLT_ACT.CODE 0x2B) = 1 ∧
        (t.yard d).warmUse = 0 ∧
        (t.dom d).order = none ∧
        t.get (PWS_DOM.TARGET d) = (s.dom d).from_ % 8 ∧
        s.KeepsPages t (0xB :: lossPages) [] ∧
        s.KeepsMem t) ∧
  (∀ diode (s : State),
      -640 ≤ diode →
      diode ≤ 2000 →
      ∃ t, exec (.compensationUpdate diode) s = .next t ∧
        t.oscTrim = (let j := min 14 ((diode + 640) / 176).toNat; s.oscEntry j * (176 - (diode + 640 - 176 * j)) + s.oscEntry (j + 1) * (diode + 640 - 176 * j)) ∧
        (∀ n, n = 24 ∨ n = 25 → Tab.get (fun _ => scUnity) t.scScale n = 2 ^ 20 * 176 + s.comp176 n (s.sxtT n) - s.comp176 n (s.getI (SXT_COMP_CFG.TCAL n))) ∧
        s.KeepsRegs t [] ∧
        s.KeepsUnits t ∧
        s.KeepsMem t)

/-- A sensor proof starts, by THM_PROOF.GO or, where it is due, by itself, in way-on service where no other runs and the
yard may heat: the yard heats at level 8 as its highest use; GO where it cannot start shows BUSY and heats nothing. At
its end each sensor of the yard is cleared of suspicion where it passes and marked where it does not, the heating ends
and RESULT reads 1. THM_PRECOND.GO starts preconditioning of a yard in the maintenance state and refuses any other;
STOP ends it. A warming step with station warming on puts every logic yard that no higher use heats to it, and with
station warming off ends it. The readings a proof compares and the order in which bays enter and leave HEAT are the
model's reading (assumption log 27). Rests on R279, R280, R282, R284. -/
def Obligations.WarmingFollowsItsOrders : Prop :=
  (∀ q y (s : State),
      y < Config.yardCount →
      s.Takes q (THM_PROOF.reg.addr) →
      s.proof = none →
      s.inWayOn = true →
      s.mayHeat y = true →
      ∃ t, exec (.thmProofGo q y) s = .next t ∧
        t.proof = some y ∧
        t.get THM_PROOF_RES.RESULT = 0 ∧
        (t.yard y).warmUse = 1 ∧
        (t.yard y).warmLevel = 8 ∧
        (∀ z, z ≠ y → t.yard z = s.yard z) ∧
        s.KeepsRegs t [THM_PROOF.reg.addr, THM_PROOF_RES.reg.addr, THM_CNT_HEAT.COUNT.addr] ∧
        s.KeepsMem t) ∧
  (∀ q y (s : State),
      y < 128 →
      s.Takes q (THM_PROOF.reg.addr) →
      ((s.proof ≠ none ∨ s.inWayOn = false ∨ s.mayHeat y = false)) →
      ∃ t, exec (.thmProofGo q y) s = .next t ∧
        t.proof = s.proof ∧
        t.get THM_PROOF_RES.RESULT = 2 ∧
        s.KeepsRegs t [THM_PROOF.reg.addr, THM_PROOF_RES.reg.addr] ∧
        s.KeepsUnits t ∧
        s.KeepsMem t) ∧
  (∀ y (s : State),
      s.proofDue y = true →
      s.proof = none →
      s.inWayOn = true →
      s.mayHeat y = true →
      ∃ t, exec (.sensorProofAuto y) s = .next t ∧
        t.proof = some y ∧
        t.proved = s.proved.filter (·.1 != y) ++ [(y, s.mono)] ∧
        (t.yard y).warmUse = 1 ∧
        (t.yard y).warmLevel = 8 ∧
        (∀ z, z ≠ y → t.yard z = s.yard z) ∧
        s.KeepsRegs t [THM_CNT_HEAT.COUNT.addr] ∧
        s.KeepsMem t) ∧
  (∀ y (s : State),
      y < Config.yardCount →
      s.proof = some y →
      ∃ t, exec (.sensorProofEnd) s = .next t ∧
        t.proof = none ∧
        t.get THM_PROOF_RES.RESULT = 1 ∧
        (∀ k ∈ s.ownSensors y, t.get (Fld.bit THM_SUSPECT.SENSOR k) = if s.proves y k then 0 else 1) ∧
        (t.yard y).warmUse = 0 ∧
        (t.yard y).warmLevel = 0 ∧
        s.KeepsPages t (0xB :: faultPages) [] ∧
        s.KeepsMem t) ∧
  (∀ q y target (s : State),
      y < Config.yardCount →
      target < 128 →
      s.Takes q (THM_PRECOND.reg.addr) →
      s.precond = none →
      s.on (Fld.bit SXT_MAINT_NOW.YARD y) = true →
      ∃ t, exec (.thmPrecondGo q y target) s = .next t ∧
        t.precond = some y ∧
        t.get THM_PRECOND.RESULT = 3 ∧
        t.get THM_PRECOND.TARGET = target ∧
        t.get THM_PRECOND.YARD = y ∧
        (t.yard y).warmSteps = 0 ∧
        (∀ z, z ≠ y → t.yard z = s.yard z) ∧
        s.KeepsRegs t [THM_PRECOND.reg.addr] ∧
        s.KeepsMem t) ∧
  (∀ q y target (s : State),
      y < Config.yardCount →
      target < 128 →
      s.Takes q (THM_PRECOND.reg.addr) →
      s.precond = none →
      s.on (Fld.bit SXT_MAINT_NOW.YARD y) = false →
      ∃ t, exec (.thmPrecondGo q y target) s = .next t ∧
        t.precond = none ∧
        t.get THM_PRECOND.RESULT = 2 ∧
        s.KeepsRegs t [THM_PRECOND.reg.addr, pgTHM + 0x14] ∧
        s.KeepsUnits t ∧
        s.KeepsMem t) ∧
  (∀ q y (s : State),
      s.Takes q (THM_PRECOND.reg.addr) →
      s.precond = some y →
      s.get THM_PRECOND.GO = 0 →
      ∃ t, exec (.thmPrecondStop q) s = .next t ∧
        t.precond = none ∧
        t.get THM_PRECOND.RESULT ≠ 3 ∧
        (∀ z, z ≠ y → t.yard z = s.yard z) ∧
        ((s.yard y).warmUse = 3 → (t.yard y).warmUse = 0) ∧
        s.KeepsRegs t [THM_PRECOND.reg.addr] ∧
        s.KeepsMem t) ∧
  (∀ (s : State),
      s.precond = none →
      s.stationWarms = true →
      ∃ t, exec (.warmingLevelStep) s = .next t ∧
        (∀ y < Config.yardCount, Config.isLogic y = true → (s.yard y).warmUse = 0 ∨ (s.yard y).warmUse = 4 → (t.yard y).warmUse = 4) ∧
        s.KeepsRegs t [THM_CNT_HEAT.COUNT.addr] ∧
        s.KeepsMem t) ∧
  (∀ (s : State),
      s.precond = none →
      s.stationWarms = false →
      ∃ t, exec (.warmingLevelStep) s = .next t ∧
        (∀ y < Config.yardCount, Config.isLogic y = true → (s.yard y).warmUse = 4 → (t.yard y).warmUse = 0 ∧ (t.yard y).warmLevel = 0) ∧
        s.KeepsRegs t [] ∧
        s.KeepsMem t)

/-- MGMT's write of STG_RAIL.ON starts a rail that is off into its on delay; its clear takes a rail that is on into its
off delay where every domain on it is in D4, and else waits in OFF_PENDING. The end of the on delay begins the ramp
from the sensed voltage with latches clear; the end of the off delay the ramp down; the end of the ramp is ON at the
command, or OFF. STG_VOUT takes a code in range that leaves headroom; another in range is refused and recorded. PG_SET
in ON sets PG; STG_PG_LOST of a rail ON out of 8 % of its command clears its PG bit and raises STG_PG_LOST. PHASE_FIRE
fires the next phase in rotation, PULSE_END ends its pulse. Braking enters where armed and exits. BAL_UPDATE trims
each phase in service by one step toward the mean. All for rails that do not track. The rounding of the on delay and
orders in the middle of a ramp are the model's reading (assumption log 26), and that a rail which is off gives no
headroom code (38). Rests on R290, R291, R293, R294, R295, R296, R299, R310, R399, R418. -/
def Obligations.RailsStartStopAndSlew : Prop :=
  (∀ q r (s : State),
      r < 2 →
      s.Takes q ((STG_RAIL.reg r).addr) →
      clsOf q = .mgmt →
      s.tracking = false →
      s.get (STG_RAIL.STATE r) = 0 →
      s.railPhases r ≠ [] →
      s.on THM_STATUS.TRIP = false →
      ∃ t, exec (.stgRailOnSet q r) s = .next t ∧
        t.get (STG_RAIL.ON r) = 1 ∧
        t.get (STG_RAIL.OFF_PENDING r) = 0 ∧
        t.get (STG_RAIL.STATE r) = 1 ∧
        (∀ p ∈ s.railPhases r, t.get (STG_PH.LATCHED p) = 0) ∧
        (∀ u, u ≠ r → t.rail u = s.rail u) ∧
        (s.KeepsRegs t ((STG_RAIL.reg r).addr :: (s.railPhases r).flatMap (fun p => [(STG_PH.reg p).addr, (STG_PH_TRIM.reg p).addr]))) ∧
        s.KeepsMem t) ∧
  (∀ q r (s : State),
      r < 2 →
      s.Takes q ((STG_RAIL.reg r).addr) →
      clsOf q = .mgmt →
      s.tracking = false →
      s.get (STG_RAIL.STATE r) = 3 →
      (List.range Config.yardCount).all (fun d => Config.yardRail d != r || (s.domState d == 4 && s.domStable d)) = true →
      ∃ t, exec (.stgRailOnClear q r) s = .next t ∧
        t.get (STG_RAIL.ON r) = 0 ∧
        t.get (STG_RAIL.OFF_PENDING r) = 0 ∧
        t.get (STG_RAIL.STATE r) = 4 ∧
        s.KeepsRegs t [(STG_RAIL.reg 0).addr, (STG_RAIL.reg 1).addr] ∧
        s.KeepsMem t) ∧
  (∀ q r d (s : State),
      r < 2 →
      s.Takes q ((STG_RAIL.reg r).addr) →
      clsOf q = .mgmt →
      s.tracking = false →
      s.get (STG_RAIL.STATE r) = 3 →
      d < Config.yardCount →
      Config.yardRail d = r →
      s.domState d ≠ 4 →
      ∃ t, exec (.stgRailOnClear q r) s = .next t ∧
        t.get (STG_RAIL.ON r) = 0 ∧
        t.get (STG_RAIL.OFF_PENDING r) = 1 ∧
        t.get (STG_RAIL.STATE r) = 3 ∧
        s.KeepsRegs t [(STG_RAIL.reg 0).addr, (STG_RAIL.reg 1).addr] ∧
        s.KeepsMem t) ∧
  (∀ r (s : State),
      r < 2 →
      s.tracking = false →
      s.get (STG_RAIL.STATE r) = 1 →
      ∃ t, exec (.railDelayEnd r) s = .next t ∧
        t.get (STG_RAIL.STATE r) = 2 ∧
        (t.rail r).vref = s.vsns r ∧
        (t.rail r).vAt = s.mono ∧
        (t.rail r).rampCode = s.get (STG_VOUT.CODE r) ∧
        (∀ p ∈ s.railPhases r, t.get (STG_PH.LATCHED p) = 0 ∧ (t.phase p).scRun = 0) ∧
        (∀ u, u ≠ r → t.rail u = s.rail u) ∧
        (s.KeepsRegs t ((STG_RAIL.reg r).addr :: (s.railPhases r).flatMap (fun p => [(STG_PH.reg p).addr, (STG_PH_TRIM.reg p).addr]))) ∧
        s.KeepsMem t) ∧
  (∀ r (s : State),
      r < 2 →
      s.tracking = false →
      s.get (STG_RAIL.STATE r) = 4 →
      ∃ t, exec (.railDelayEnd r) s = .next t ∧
        t.get (STG_RAIL.STATE r) = 5 ∧
        (t.rail r).vref = s.vrefNow r ∧
        (t.rail r).rampCode = s.get (STG_VOUT.CODE r) ∧
        (t.rail r).braking = false ∧
        (∀ u, u ≠ r → t.rail u = s.rail u) ∧
        s.KeepsRegs t [(STG_RAIL.reg r).addr] ∧
        s.KeepsMem t) ∧
  (∀ r (s : State),
      r < 2 →
      s.get (STG_RAIL.STATE r) = 2 →
      s.rampMet r = true →
      ∃ t, exec (.railRampEnd r) s = .next t ∧
        t.get (STG_RAIL.STATE r) = 3 ∧
        (t.rail r).vref = s.vrefNow r ∧
        (t.rail r).alone = false ∧
        (∀ u, u ≠ r → t.rail u = s.rail u) ∧
        s.KeepsRegs t [(STG_RAIL.reg r).addr] ∧
        s.KeepsMem t) ∧
  (∀ r (s : State),
      r < 2 →
      s.tracking = false →
      s.get (STG_RAIL.STATE r) = 5 →
      s.vrefNow r = 0 →
      s.vsns r < 160 →
      ∃ t, exec (.railRampEnd r) s = .next t ∧
        t.get (STG_RAIL.STATE r) = 0 ∧
        (t.rail r).vref = 0 ∧
        (∀ p ∈ s.railPhases r, (t.phase p).pulse = false ∧ t.get (STG_PH.OVERLOAD p) = 0) ∧
        (∀ u, u ≠ r → t.rail u = s.rail u) ∧
        (s.KeepsRegs t ((STG_RAIL.reg r).addr :: (s.railPhases r).map (fun p => (STG_PH.reg p).addr))) ∧
        s.KeepsMem t) ∧
  (∀ q r c (s : State),
      r < 2 →
      s.Takes q ((STG_VOUT.reg r).addr) →
      c < 1024 →
      s.voutOk r c = true →
      ∃ t, exec (.stgVoutWrite q r c) s = .next t ∧
        t.get (STG_VOUT.CODE r) = c ∧
        (t.rail r).vref = s.vrefNow r ∧
        (t.rail r).vAt = s.mono ∧
        (∀ u, u ≠ r → t.rail u = s.rail u) ∧
        s.KeepsRegs t [(STG_VOUT.reg r).addr] ∧
        s.KeepsMem t) ∧
  (∀ q r c (s : State),
      r < 2 →
      s.Takes q ((STG_VOUT.reg r).addr) →
      320 ≤ c →
      c ≤ 760 →
      s.voutOk r c = false →
      ∃ t, exec (.stgVoutWrite q r c) s = .next t ∧
        t.get (STG_VOUT.CODE r) = s.get (STG_VOUT.CODE r) ∧
        (t.word (pgSTG + 0x1C)).field 31 1 = 1 ∧
        ((s.word (pgSTG + 0x1C)).field 31 1 = 0 → (t.word (pgSTG + 0x1C)).field 24 3 = 5) ∧
        s.KeepsRegs t [pgSTG + 0x1C] ∧
        s.KeepsUnits t ∧
        s.KeepsMem t) ∧
  (∀ r (s : State),
      r < 2 →
      s.get (STG_RAIL.STATE r) = 3 →
      s.vsnsWithin r 3 = true →
      tb (s.get STG_STATUS.PG) r = false →
      ∃ t, exec (.pgSet r) s = .next t ∧
        tb (t.get STG_STATUS.PG) r = true ∧
        tb (t.get STG_STATUS.PG) (1 - r) = tb (s.get STG_STATUS.PG) (1 - r) ∧
        s.KeepsRegs t [STG_STATUS.reg.addr, pgSTG + 0x14] ∧
        s.KeepsUnits t ∧
        s.KeepsMem t) ∧
  (∀ r (s : State),
      r < 2 →
      s.get (STG_RAIL.STATE r) = 3 →
      s.vsnsWithin r 8 = false →
      tb (s.get STG_STATUS.PG) r = true →
      ∃ t, exec (.stgPgLost r) s = .next t ∧
        tb (t.get STG_STATUS.PG) r = false ∧
        t.get (Fld.bit FLT_ACT.CODE 0x30) = 1 ∧
        s.KeepsPages t faultPages [STG_STATUS.reg.addr, pgSTG + 0x14] ∧
        s.KeepsUnits t ∧
        s.KeepsMem t) ∧
  (∀ r p (s : State),
      r < 2 →
      s.pwmDrives r = true →
      (s.rail r).fireAt.all (fun u => decide (u + s.stagger r ≤ s.mono)) = true →
      s.nextFire r = some p →
      ∃ t, exec (.phaseFire r) s = .next t ∧
        (t.phase p).pulse = true ∧
        (t.phase p).ton = s.onCycles p ∧
        (t.phase p).tripped = false ∧
        (t.rail r).lastPhase = p ∧
        (t.rail r).fireAt = some s.mono ∧
        (∀ z, z ≠ p → t.phase z = s.phase z) ∧
        (∀ u, u ≠ r → t.rail u = s.rail u) ∧
        s.KeepsRegs t [] ∧
        s.KeepsMem t) ∧
  (∀ p (s : State),
      (s.phase p).pulse = true →
      ∃ t, exec (.pulseEnd p) s = .next t ∧
        (t.phase p).pulse = false ∧
        (t.phase p).offAt = some s.mono ∧
        ((t.phase p).scRun = (if (s.phase p).tripped then (s.phase p).scRun else 0)) ∧
        (∀ z, z ≠ p → t.phase z = s.phase z) ∧
        s.KeepsRegs t [] ∧
        s.KeepsMem t) ∧
  (∀ r (s : State),
      r < 2 →
      s.brakeArmed r = true →
      (s.rail r).braking = false →
      ∃ t, exec (.brakeEnter r) s = .next t ∧
        t.rail r = { s.rail r with braking := true } ∧
        t.get STG_CNT_BRAKE.COUNT = min (s.get STG_CNT_BRAKE.COUNT + 1) 0xFFFFFFFF ∧
        (∀ u, u ≠ r → t.rail u = s.rail u) ∧
        s.KeepsRegs t [STG_CNT_BRAKE.COUNT.addr] ∧
        s.KeepsMem t) ∧
  (∀ r (s : State),
      r < 2 →
      ∃ t, exec (.brakeExit r) s = .next t ∧
        t.rail r = { s.rail r with braking := false } ∧
        (∀ u, u ≠ r → t.rail u = s.rail u) ∧
        s.KeepsRegs t [] ∧
        s.KeepsMem t) ∧
  (∀ (s : State),
      s.onPll = true →
      ∃ t, exec (.balUpdate) s = .next t ∧
        (∀ r < 2, ∀ p ∈ s.inService r, ∀ avg : Nat → Int, (∀ k, avg k = if (s.phase k).iCnt = 0 then 0 else roundDiv (s.phase k).iSum (s.phase k).iCnt) →
          ∀ d b : Int, d = avg p - roundDiv ((s.inService r).map avg).sum (max 1 (s.inService r).length) → b = s.getI (STG_PH_TRIM.BAL p) →
            t.getI (STG_PH_TRIM.BAL p) = if 32 < d then max (-32) (b - 1) else if d < -32 then min 32 (b + 1) else b) ∧
        (∀ p < Config.stagePhases, (t.phase p).iSum = 0 ∧ (t.phase p).iCnt = 0) ∧
        (s.KeepsRegs t ((List.range Config.yardCount).map (fun d => (PWS_DOM.reg d).addr) ++ (List.range Config.stagePhases).map (fun p => (STG_PH_TRIM.reg p).addr))) ∧
        s.KeepsMem t)

/-- A short-circuit trip of a pulsing phase cuts its pulse and counts, and the eighth in a row latches the phase, takes it
out of service and raises STG_LATCH. OVERLOAD_EVAL keeps the average and raises STG_OVL as it passes the threshold.
Overload of 10 ms is a hiccup: the first three tries take a rail with no OFF pending and its domains down and count,
the next leaves the rail DEAD and asserts F. A hiccup restart ramps from the sensed voltage. A low STG_FLT_N shows in
STG_STATUS.FLT (while low: assumption log 39), marks the phases found failed and raises STG_FLT; one with no phase
declared raises STG_FLT_STUCK after 10 ms. STG_PHCLR clears the phases it names. A bus out of range raises STG_IBUS,
one below 9.0 V takes both rails, no OFF pending, down and raises STG_IBUS_UV, and its recovery restarts the rails
that were on. How a restart and the bus's recovery run is log 26. Rests on R298, R300, R301, R303, R304, R310, R399,
R418, R237. -/
def Obligations.BoardProtectionsAct : Prop :=
  (∀ p (s : State),
      s.present p = true →
      p < 30 →
      (s.phase p).pulse = true →
      (s.phase p).tripped = false →
      (s.phase p).scRun ≠ 7 →
      ∃ t, exec (.shortCircuitTrip p) s = .next t ∧
        (t.phase p).tripped = true ∧
        (t.phase p).scRun = (s.phase p).scRun + 1 ∧
        t.get STG_CNT_SC.COUNT = min (s.get STG_CNT_SC.COUNT + 1) 0xFFFFFFFF ∧
        (∀ z, z ≠ p → t.phase z = s.phase z) ∧
        s.KeepsRegs t [STG_CNT_SC.COUNT.addr] ∧
        s.KeepsMem t) ∧
  (∀ p (s : State),
      s.present p = true →
      p < 30 →
      (s.phase p).pulse = true →
      (s.phase p).tripped = false →
      (s.phase p).scRun = 7 →
      ∃ t, exec (.shortCircuitTrip p) s = .next t ∧
        (t.phase p).tripped = true ∧
        t.get (STG_PH.LATCHED p) = 1 ∧
        t.get (STG_PH.IN_SERVICE p) = 0 ∧
        t.get STG_CNT_SC.COUNT = min (s.get STG_CNT_SC.COUNT + 1) 0xFFFFFFFF ∧
        t.get STG_CNT_LATCH.COUNT = min (s.get STG_CNT_LATCH.COUNT + 1) 0xFFFFFFFF ∧
        t.get (Fld.bit FLT_ACT.CODE 0x31) = 1 ∧
        s.KeepsPages t faultPages [STG_CNT_SC.COUNT.addr, STG_CNT_LATCH.COUNT.addr, (STG_PH.reg p).addr, pgSTG + 0x14] ∧
        s.KeepsMem t) ∧
  (∀ p avg (s : State),
      s.present p = true →
      p < 30 →
      (s.phase p).oCnt ≠ 0 →
      avg = roundDiv (s.phase p).oSum (s.phase p).oCnt →
      -32768 ≤ avg →
      avg < 32768 →
      s.ovlTh p < 100 * avg →
      s.on (STG_PH.OVERLOAD p) = false →
      ∃ t, exec (.overloadEval p) s = .next t ∧
        t.getI (STG_PH_AVG.IAVG p) = avg ∧
        t.get (STG_PH.OVERLOAD p) = 1 ∧
        t.get STG_CNT_OVL.COUNT = min (s.get STG_CNT_OVL.COUNT + 1) 0xFFFFFFFF ∧
        t.get (Fld.bit FLT_ACT.CODE 0x32) = 1 ∧
        (t.rail (s.phaseRail p)).ovlSince = some ((s.rail (s.phaseRail p)).ovlSince.getD s.mono) ∧
        (t.phase p).oCnt = 0 ∧
        s.KeepsPages t faultPages [STG_CNT_OVL.COUNT.addr, (STG_PH.reg p).addr, (STG_PH_AVG.reg p).addr, pgSTG + 0x14] ∧
        s.KeepsMem t) ∧
  (∀ p avg (s : State),
      s.present p = true →
      p < 30 →
      (s.phase p).oCnt ≠ 0 →
      avg = roundDiv (s.phase p).oSum (s.phase p).oCnt →
      -32768 ≤ avg →
      avg < 32768 →
      100 * avg ≤ s.ovlTh p →
      ∃ t, exec (.overloadEval p) s = .next t ∧
        t.getI (STG_PH_AVG.IAVG p) = avg ∧
        t.get (STG_PH.OVERLOAD p) = 0 ∧
        (t.phase p).oCnt = 0 ∧
        s.KeepsRegs t [(STG_PH.reg p).addr, (STG_PH_AVG.reg p).addr, (STG_RAIL_STAT.reg (s.phaseRail p)).addr] ∧
        s.KeepsMem t) ∧
  (∀ r u (s : State),
      r < 2 →
      s.tracking = false →
      s.overloaded r = true →
      (s.rail r).ovlSince = some u →
      u + ns 10000000 ≤ s.mono →
      ((s.get (STG_RAIL.STATE r) = 2 ∨ s.get (STG_RAIL.STATE r) = 3 ∨ s.get (STG_RAIL.STATE r) = 4)) →
      s.get (STG_RAIL_STAT.TRIES r) < 3 →
      s.get (STG_RAIL.OFF_PENDING r) = 0 →
      ∃ t, exec (.hiccup r) s = .next t ∧
        t.get (STG_RAIL.STATE r) = 6 ∧
        t.get (STG_RAIL_STAT.TRIES r) = s.get (STG_RAIL_STAT.TRIES r) + 1 ∧
        t.get STG_CNT_HICCUP.COUNT = min (s.get STG_CNT_HICCUP.COUNT + 1) 0xFFFFFFFF ∧
        t.get (Fld.bit FLT_ACT.CODE 0x33) = 1 ∧
        (∀ d < Config.yardCount, Config.yardRail d = r → t.get (PWS_DOM.STATE d) = 4) ∧
        (t.rail r).vref = 0 ∧
        s.KeepsPages t lossPages [] ∧
        s.KeepsMem t) ∧
  (∀ r u (s : State),
      r < 2 →
      s.tracking = false →
      s.overloaded r = true →
      (s.rail r).ovlSince = some u →
      u + ns 10000000 ≤ s.mono →
      ((s.get (STG_RAIL.STATE r) = 2 ∨ s.get (STG_RAIL.STATE r) = 3 ∨ s.get (STG_RAIL.STATE r) = 4)) →
      s.get (STG_RAIL_STAT.TRIES r) = 3 →
      ∃ t, exec (.hiccup r) s = .next t ∧
        t.get (STG_RAIL.STATE r) = 7 ∧
        tb (t.get STG_STATUS.DEAD) r = true ∧
        0x34 ∈ t.assertF ∧
        t.get (Fld.bit FLT_ACT.CODE 0x34) = 1 ∧
        (∀ d < Config.yardCount, Config.yardRail d = r → t.get (PWS_DOM.STATE d) = 4) ∧
        s.KeepsPages t lossPages [] ∧
        s.KeepsMem t) ∧
  (∀ r (s : State),
      r < 2 →
      s.tracking = false →
      s.get (STG_RAIL.STATE r) = 6 →
      s.on THM_STATUS.TRIP = false →
      ∃ t, exec (.hiccupRestart r) s = .next t ∧
        t.get (STG_RAIL.STATE r) = 2 ∧
        (t.rail r).vref = s.vsns r ∧
        (∀ p ∈ s.railPhases r, t.get (STG_PH.LATCHED p) = 0) ∧
        (∀ u, u ≠ r → t.rail u = s.rail u) ∧
        (s.KeepsRegs t ((STG_RAIL.reg r).addr :: (s.railPhases r).flatMap (fun p => [(STG_PH.reg p).addr, (STG_PH_TRIM.reg p).addr]))) ∧
        s.KeepsMem t) ∧
  (∀ (failed : BitVec 30) (s : State),
      ∃ t, exec (.stgFlt failed) s = .next t ∧
        t.fltAt = some s.mono ∧
        t.pinIsLow 0 t.fltAt = true ∧
        t.get STG_STATUS.FLT = 1 ∧
        t.get STG_CNT_FLT.COUNT = min (s.get STG_CNT_FLT.COUNT + 1) 0xFFFFFFFF ∧
        t.get (Fld.bit FLT_ACT.CODE 0x37) = 1 ∧
        (∀ p < Config.stagePhases, tb failed.toNat p = true → s.present p = true → t.get (STG_PH.FAILED p) = 1 ∧ t.get (STG_PH.IN_SERVICE p) = 0) ∧
        (s.KeepsPages t faultPages ([STG_CNT_FLT.COUNT.addr, STG_STATUS.reg.addr, pgSTG + 0x14] ++ (List.range Config.stagePhases).map (fun p => (STG_PH.reg p).addr))) ∧
        s.KeepsUnits t ∧
        s.KeepsMem t) ∧
  (∀ (s : State),
      s.fltAt.isSome = true →
      s.fltDeclared = false →
      ∃ t, exec (.stgFltStuck) s = .next t ∧
        t.get (Fld.bit FLT_ACT.CODE 0x38) = 1 ∧
        s.KeepsPages t faultPages [] ∧
        s.KeepsUnits t ∧
        s.KeepsMem t) ∧
  (∀ (s : State),
      s.fltDeclared = true →
      ∃ t, exec (.stgFltStuck) s = .next t ∧
        s.KeepsRegs t [] ∧
        s.KeepsUnits t ∧
        s.KeepsMem t) ∧
  (∀ q (data : Word) (s : State),
      s.Takes q (STG_PHCLR.reg.addr) →
      data.toNat < 2 ^ 30 →
      ∃ t, exec (.stgPhclrWrite q data) s = .next t ∧
        (∀ p < Config.stagePhases, tb data.toNat p = true → t.get (STG_PH.LATCHED p) = 0 ∧ t.get (STG_PH.FAILED p) = 0 ∧ (t.phase p).scRun = 0) ∧
        (∀ p < Config.stagePhases, tb data.toNat p = false → t.word (STG_PH.reg p).addr = s.word (STG_PH.reg p).addr ∧ t.phase p = s.phase p) ∧
        (s.KeepsRegs t ((List.range Config.stagePhases).flatMap (fun p => [(STG_PH.reg p).addr, (STG_PH_TRIM.reg p).addr]))) ∧
        s.KeepsMem t) ∧
  (∀ (s : State),
      ((s.ibus < 2160 ∨ 3000 < s.ibus)) →
      ∃ t, exec (.stgIbus) s = .next t ∧
        t.get (Fld.bit FLT_ACT.CODE 0x39) = 1 ∧
        s.KeepsPages t faultPages [] ∧
        s.KeepsUnits t ∧
        s.KeepsMem t) ∧
  (∀ (s : State),
      s.ibus < 1800 →
      s.ibusLow = false →
      s.get (STG_RAIL.OFF_PENDING 0) = 0 →
      s.get (STG_RAIL.OFF_PENDING 1) = 0 →
      ∃ t, exec (.stgIbusUv) s = .next t ∧
        t.ibusLow = true ∧
        t.get (Fld.bit FLT_ACT.CODE 0x3A) = 1 ∧
        (∀ r < 2, t.get (STG_RAIL.STATE r) = 0 ∨ t.get (STG_RAIL.STATE r) = 7) ∧
        (∀ r < 2, s.get (STG_RAIL.STATE r) ≠ 0 → s.get (STG_RAIL.STATE r) ≠ 7 → (t.rail r).wasOn = s.on (STG_RAIL.ON r)) ∧
        s.KeepsPages t lossPages [] ∧
        s.KeepsMem t) ∧
  (∀ (s : State),
      2000 < s.ibus →
      s.ibusLow = true →
      s.on THM_STATUS.TRIP = false →
      ∃ t, exec (.ibusRecovery) s = .next t ∧
        t.ibusLow = false ∧
        (∀ r < 2, (s.rail r).wasOn = true → s.on (STG_RAIL.ON r) = true → t.get (STG_RAIL.STATE r) = 2 ∧ (t.rail r).vref = s.vsns r) ∧
        (∀ r < 2, (t.rail r).wasOn = false) ∧
        (s.KeepsRegs t ([(STG_RAIL.reg 0).addr, (STG_RAIL.reg 1).addr] ++ (List.range Config.stagePhases).flatMap (fun p => [(STG_PH.reg p).addr, (STG_PH_TRIM.reg p).addr]))) ∧
        s.KeepsMem t)

/-- PMB_SCAN.GO asks for a scan. A scan keeps entry 0 for the bus converter: found, it is present with its revision and
capability and BUSCONV_OK reads 1; missing, BUSCONV_OK reads 0 and PMB_LOST is raised. A poll that is answered shows
STATUS_WORD and the converted readings; a poll of the converter with a fault bit (its place in STATUS_WORD: assumption
log 30) raises PMB_FAULT; one that is not answered counts. An alert shows in PMB_STATUS.ALERT (while the pin is low:
assumption log 39); of a device whose alerts are taken (again after a poll that read 0: assumption log 30) it counts
and is logged. PMB_RAW.GO starts a raw read or ends BUSY; the read ends DONE with its data, NACK or PEC, and counts.
The parameters of its log records are log 12. Rests on R306, R307, R308, R309, R312, R418, R399. -/
def Obligations.PmbusScansPollsAndAlerts : Prop :=
  (∀ q (s : State),
      s.Takes q (PMB_SCAN.reg.addr) →
      ∃ t, exec (.pmbScanGo q) s = .next t ∧
        t.pmbScan = true ∧
        s.KeepsRegs t [PMB_SCAN.reg.addr] ∧
        s.KeepsUnits t ∧
        s.KeepsMem t) ∧
  (∀ found a rev cap (s : State),
      found.find? (fun f => scanned f.1 && f.1 == s.get PMB_CFG.BUSCONV) = some (a, rev, cap) →
      ∃ t, exec (.pmbusScan found) s = .next t ∧
        t.get (PMB_DEV.ADDR 0) = s.get PMB_CFG.BUSCONV ∧
        t.get (PMB_DEV.PRESENT 0) = 1 ∧
        t.get (PMB_DEV.REV 0) = rev.toNat ∧
        t.get (PMB_DEV.CAP 0) = cap.toNat ∧
        t.get PMB_STATUS.BUSCONV_OK = 1 ∧
        t.pmbScan = false ∧
        s.KeepsPages t (0x12 :: faultPages) [] ∧
        s.KeepsUnits t ∧
        s.KeepsMem t) ∧
  (∀ found (s : State),
      found.find? (fun f => scanned f.1 && f.1 == s.get PMB_CFG.BUSCONV) = none →
      ∃ t, exec (.pmbusScan found) s = .next t ∧
        t.get PMB_STATUS.BUSCONV_OK = 0 ∧
        t.get (Fld.bit FLT_ACT.CODE 0x3B) = 1 ∧
        t.pmbScan = false ∧
        s.KeepsPages t (0x12 :: faultPages) [] ∧
        s.KeepsUnits t ∧
        s.KeepsMem t) ∧
  (∀ n r (s : State),
      n < 16 →
      n ≠ 0 →
      s.pmbUsed n = true →
      r.answered = true →
      ∃ t, exec (.pmbusPoll n r) s = .next t ∧
        t.get (PMB_DEV_STAT.STATUS_WORD n) = r.statusWord.toNat ∧
        t.get (PMB_V.VIN n) = sat16 (linear11 1000 r.vin) ∧
        (t.get (PMB_V.VOUT n) = (match linear16 r.voutMode r.vout with | some v => min 65534 v | none => 65535)) ∧
        t.get (PMB_I.IIN n) = sat16 (linear11 100 r.iin) ∧
        t.get (PMB_I.IOUT n) = sat16 (linear11 100 r.iout) ∧
        t.get (PMB_P.PIN n) = sat16 (linear11 1 r.pin) ∧
        t.get (PMB_P.POUT n) = sat16 (linear11 1 r.pout) ∧
        t.getI (PMB_TEMP.TEMP n) = clampI (-32768) 32767 (linear11 16 r.temp) ∧
        t.get PMB_CNT_PEC.COUNT = min (s.get PMB_CNT_PEC.COUNT + r.pecErrors) 0xFFFFFFFF ∧
        t.pmbAge n = 0 ∧
        s.KeepsRegs t (PMB_CNT_PEC.COUNT.addr :: [(PMB_DEV.reg n).addr, (PMB_DEV_STAT.reg n).addr, (PMB_V.reg n).addr, (PMB_I.reg n).addr, (PMB_P.reg n).addr, (PMB_TEMP.reg n).addr]) ∧
        s.KeepsUnits t ∧
        s.KeepsMem t) ∧
  (∀ r (s : State),
      r.answered = true →
      converterFault r.statusWord = true →
      ∃ t, exec (.pmbusPoll 0 r) s = .next t ∧
        t.get (PMB_DEV_STAT.STATUS_WORD 0) = r.statusWord.toNat ∧
        t.get (Fld.bit FLT_ACT.CODE 0x3C) = 1 ∧
        s.KeepsPages t (0x12 :: faultPages) [] ∧
        s.KeepsUnits t ∧
        s.KeepsMem t) ∧
  (∀ n r (s : State),
      n < 16 →
      s.pmbUsed n = true →
      r.answered = false →
      ∃ t, exec (.pmbusPoll n r) s = .next t ∧
        t.get PMB_CNT_NACK.COUNT = min (s.get PMB_CNT_NACK.COUNT + 1) 0xFFFFFFFF ∧
        t.get PMB_CNT_PEC.COUNT = min (s.get PMB_CNT_PEC.COUNT + r.pecErrors) 0xFFFFFFFF ∧
        s.KeepsRegs t [PMB_CNT_NACK.COUNT.addr, PMB_CNT_PEC.COUNT.addr] ∧
        s.KeepsUnits t ∧
        s.KeepsMem t) ∧
  (∀ a (status : BitVec 16) (s : State),
      a ∉ s.pmbAlerted →
      ∃ t, exec (.pmbAlert a status) s = .next t ∧
        t.alertAt = some s.mono ∧
        t.pinIsLow 1 t.alertAt = true ∧
        t.pmbAlerted = s.pmbAlerted ++ [a] ∧
        t.get PMB_CNT_ALERT.COUNT = min (s.get PMB_CNT_ALERT.COUNT + 1) 0xFFFFFFFF ∧
        s.KeepsPages t (0x12 :: faultPages) [] ∧
        s.KeepsUnits t ∧
        s.KeepsMem t) ∧
  (∀ a (status : BitVec 16) (s : State),
      a ∈ s.pmbAlerted →
      ∃ t, exec (.pmbAlert a status) s = .next t ∧
        t.alertAt = some s.mono ∧
        t.pinIsLow 1 t.alertAt = true ∧
        t.pmbAlerted = s.pmbAlerted ∧
        s.KeepsRegs t [PMB_STATUS.reg.addr] ∧
        s.KeepsUnits t ∧
        s.KeepsMem t) ∧
  (∀ q word a (c : Byte) (s : State),
      a < 128 →
      s.Takes q (PMB_RAW.reg.addr) →
      s.pmbRaw = none →
      ∃ t, exec (.pmbRawGo q word a c) s = .next t ∧
        t.pmbRaw = some (word, a, c) ∧
        s.KeepsRegs t [PMB_RAW.reg.addr] ∧
        s.KeepsUnits t ∧
        s.KeepsMem t) ∧
  (∀ q word a (c : Byte) (s : State),
      a < 128 →
      s.Takes q (PMB_RAW.reg.addr) →
      s.pmbRaw ≠ none →
      ∃ t, exec (.pmbRawGo q word a c) s = .next t ∧
        t.pmbRaw = s.pmbRaw ∧
        t.get PMB_RAW_RES.RESULT = 4 ∧
        s.KeepsRegs t [PMB_RAW.reg.addr, PMB_RAW_RES.reg.addr, pgPMB + 0x14] ∧
        s.KeepsUnits t ∧
        s.KeepsMem t) ∧
  (∀ data word a (c : Byte) (s : State),
      s.pmbRaw = some (word, a, c) →
      ∃ t, exec (.pmbRawDone .done data) s = .next t ∧
        t.pmbRaw = none ∧
        t.get PMB_RAW_RES.RESULT = 1 ∧
        (t.get PMB_RAW_RES.DATA = (if word then data.toNat else data.toNat % 256)) ∧
        s.KeepsRegs t [PMB_RAW_RES.reg.addr, pgPMB + 0x14] ∧
        s.KeepsUnits t ∧
        s.KeepsMem t) ∧
  (∀ (data : BitVec 16) word a (c : Byte) (s : State),
      s.pmbRaw = some (word, a, c) →
      ∃ t, exec (.pmbRawDone .nack data) s = .next t ∧
        t.pmbRaw = none ∧
        t.get PMB_RAW_RES.RESULT = 2 ∧
        t.get PMB_RAW_RES.DATA = 0 ∧
        t.get PMB_CNT_NACK.COUNT = min (s.get PMB_CNT_NACK.COUNT + 1) 0xFFFFFFFF ∧
        s.KeepsRegs t [PMB_RAW_RES.reg.addr, PMB_CNT_NACK.COUNT.addr, pgPMB + 0x14] ∧
        s.KeepsUnits t ∧
        s.KeepsMem t) ∧
  (∀ (data : BitVec 16) word a (c : Byte) (s : State),
      s.pmbRaw = some (word, a, c) →
      ∃ t, exec (.pmbRawDone .pec data) s = .next t ∧
        t.pmbRaw = none ∧
        t.get PMB_RAW_RES.RESULT = 3 ∧
        t.get PMB_RAW_RES.DATA = 0 ∧
        t.get PMB_CNT_PEC.COUNT = min (s.get PMB_CNT_PEC.COUNT + 1) 0xFFFFFFFF ∧
        s.KeepsRegs t [PMB_RAW_RES.reg.addr, PMB_CNT_PEC.COUNT.addr, pgPMB + 0x14] ∧
        s.KeepsUnits t ∧
        s.KeepsMem t)

/-- For every command of the windows: SEQ out of order, or a slot that SEQ does not name, shows REFUSED_SEQ, counts
(assumption log 8), and leaves LAST and the journal. A command that a later check refuses shows the status and detail
of the first check that does, in its slot and its journal entry, sets LAST and counts; it changes no register beside
its slot and its window's, no unit and no memory. NOP, accepted, ends DONE and changes nothing else. CMK_USLOT takes
EN and a context from KERN; a changed context empties the slot and retires its journal entry. Rests on R322, R323,
R324, R325, R327, R328, R332, R347, R418. -/
def Obligations.CommandsCommitOrAreRefused : Prop :=
  (∀ (p : (Cmd → Instr) × Nat) (c : Cmd) (s : State),
      p ∈ commandRows →
      c.slot < slotCount c.win →
      s.cpReset = false →
      s.taking = false →
      mayWriteAt (clsOf c.q) (slotBase c.win c.slot) = true →
      s.slotBusy c.win c.slot = false →
      ((c.win = .cmu → s.on (CMK_USLOT.EN c.slot) = true)) →
      ((c.seq ≠ s.word (lastAddr c.win c.slot) + 1 ∨ c.win ≠ .cmu ∧ c.slot ≠ c.seq.toNat % 16)) →
      ∃ t, exec (p.1 c) s = .next t ∧
        t.word (slotBase c.win c.slot + 0x30) = BitVec.ofNat 32 stRefusedSeq ∧
        t.word (lastAddr c.win c.slot) = s.word (lastAddr c.win c.slot) ∧
        t.get (refusedCounter c.win) = min (s.get (refusedCounter c.win) + 1) 0xFFFFFFFF ∧
        t.journal = s.journal ∧
        s.KeepsRegs t (commandRegs c) ∧
        s.KeepsUnits t ∧
        s.KeepsMem t) ∧
  (∀ (p : (Cmd → Instr) × Nat) (c : Cmd) code detail (s : State),
      p ∈ commandRows →
      s.Commits c →
      s.outcome (s.cmdEntry p.2 c) = (code, detail) →
      code ≠ stAccepted →
      ∃ t, exec (p.1 c) s = .next t ∧
        t.word (slotBase c.win c.slot + 0x30) = BitVec.ofNat 32 (code + 256 * detail) ∧
        t.word (lastAddr c.win c.slot) = c.seq ∧
        ((t.entry (cmdTagOf c)).map (fun e => (e.state, e.status)) = some (.refused, code + 256 * detail)) ∧
        t.get (refusedCounter c.win) = min (s.get (refusedCounter c.win) + 1) 0xFFFFFFFF ∧
        s.KeepsRegs t (commandRegs c) ∧
        s.KeepsUnits t ∧
        s.KeepsMem t) ∧
  (∀ (c : Cmd) (s : State),
      s.Commits c →
      s.outcome (s.cmdEntry 0 c) = (stAccepted, 0) →
      ∃ t, exec (.nop c) s = .next t ∧
        t.Shows c stDone 0 ∧
        t.get (acceptCounter c.win) = min (s.get (acceptCounter c.win) + 1) 0xFFFFFFFF ∧
        s.KeepsRegs t (commandRegs c) ∧
        s.KeepsPlant t ∧
        s.KeepsMem t) ∧
  (∀ (c : Cmd) (s : State),
      s.Commits c →
      s.outcome (s.cmdEntry 0 c) = (stAccepted, 0) →
      ∃ t, exec (.nop c) s = .next t ∧
        t.Shows c stDone 0) ∧
  (∀ q n (data : Word) (s : State),
      n < 64 →
      s.Takes q ((CMK_USLOT.reg n).addr) →
      data.toNat % 64 = s.get (CMK_USLOT.CONTEXT n) →
      s.active = s.wasActive →
      ({ s with regs := (s.put (CMK_USLOT.EN n) (data.toNat / 2 ^ 31)).regs } : State).active = s.wasActive →
      ∃ t, exec (.cmkUslotWrite q n data) s = .next t ∧
        t.get (CMK_USLOT.EN n) = data.toNat / 2 ^ 31 ∧
        t.get (CMK_USLOT.CONTEXT n) = data.toNat % 64 ∧
        t.journal = s.journal ∧
        s.KeepsRegs t [(CMK_USLOT.reg n).addr] ∧
        s.KeepsUnits t ∧
        s.KeepsMem t) ∧
  (∀ q n (data : Word) (s : State),
      n < 64 →
      s.Takes q ((CMK_USLOT.reg n).addr) →
      data.toNat % 64 ≠ s.get (CMK_USLOT.CONTEXT n) →
      s.slotBusy .cmu n = false →
      s.wasActive = false →
      s.get SEC_CONF0.CTX = 0 →
      s.get SEC_CONF1.CTX = 0 →
      s.scrubs = [] →
      ∃ t, exec (.cmkUslotWrite q n data) s = .next t ∧
        t.get (CMK_USLOT.EN n) = data.toNat / 2 ^ 31 ∧
        t.get (CMK_USLOT.CONTEXT n) = data.toNat % 64 ∧
        (t.journal = s.journal.filter (fun e => !decide (e.win = .cmu ∧ e.slot = n))) ∧
        (∀ k < 16, t.word (slotBase .cmu n + 4 * k) = 0) ∧
        (s.KeepsRegs t ((CMK_USLOT.reg n).addr :: (List.range 16).map (fun k => slotBase .cmu n + 4 * k))) ∧
        s.KeepsUnits t ∧
        s.KeepsMem t)

/-- SET_VID, SET_LOOP, SET_MODE, SET_CAP and JOB, accepted, make the register writes they stand for and end DONE (SET_VID
of a yard outside all hands whose frequency is known), SET_LOOP with the lane load as its result. A SET_CAP of the
device puts the least cap in force at once where no collective is open. REMOUNT to a locked record ends REFUSED_AUTH;
a connect to a remount that is OFF and free assigns it and runs, one to a remount that waits for the same yard waits
with it, and one to a remount that is not OFF, or is assigned to its other neighbour, ends REFUSED_BUSY. DOMAIN_STATE
that R230 and R231 do not refuse takes the place of the order and runs while a step runs; one they refuse ends with
the code they name. MAINT sets its bit and ends DONE where the state is already as asked. ABORT ends REFUSED_RANGE
where its target is gone, DONE with DETAIL 1 where the target is final or cannot be aborted, and marks the latter.
LOG_FREEZE of a release ends DONE, and of a freeze ends DONE with the log frozen where nothing holds flash. The order
of a command's checks, and that its outcome stands at once or with its engine, are the model's reading (assumption log
8). Rests on R76, R230, R231, R328, R330, R246, R397, R418, R267, R237, R401, R79. -/
def Obligations.CommandsDoWhatTheyName : Prop :=
  (∀ (c : Cmd) (s : State),
      s.Commits c →
      s.outcome (s.cmdEntry 1 c) = (stAccepted, 0) →
      s.abortTarget (s.cmdEntry 1 c) = none →
      ((c.op0.toNat % 4 ≠ winCode c.win ∨ c.op0.toNat / 2 ^ 32 ≠ c.seq.toNat)) →
      ∃ t, exec (.abort c) s = .next t ∧
        t.Shows c stRefusedRange 0 ∧
        t.get (acceptCounter c.win) = min (s.get (acceptCounter c.win) + 1) 0xFFFFFFFF ∧
        s.KeepsRegs t (commandRegs c) ∧
        s.KeepsPlant t ∧
        s.KeepsMem t) ∧
  (∀ (c : Cmd) e (s : State),
      s.Commits c →
      s.outcome (s.cmdEntry 1 c) = (stAccepted, 0) →
      s.abortTarget (s.cmdEntry 1 c) = some e →
      e.state = .final →
      ((e.win ≠ c.win ∨ e.slot ≠ c.slot)) →
      ∃ t, exec (.abort c) s = .next t ∧
        t.Shows c (stDone + 256) 0 ∧
        e ∈ t.journal ∧
        s.KeepsRegs t (commandRegs c) ∧
        s.KeepsPlant t ∧
        s.KeepsMem t) ∧
  (∀ (c : Cmd) e k (s : State),
      s.Commits c →
      s.outcome (s.cmdEntry 1 c) = (stAccepted, 0) →
      s.abortTarget (s.cmdEntry 1 c) = some e →
      e.state = .started k →
      e.opcode ≠ 0x200 →
      e.opcode ≠ 0x401 →
      e.opcode ≠ 0x402 →
      ((e.win ≠ c.win ∨ e.slot ≠ c.slot)) →
      ∃ t, exec (.abort c) s = .next t ∧
        t.Shows c (stDone + 256) 0 ∧
        ((t.entry ⟨e.win, e.slot, e.seq⟩).map (fun x => (x.state, x.late)) = some (.started k, true)) ∧
        s.KeepsRegs t (commandRegs c) ∧
        s.KeepsPlant t ∧
        s.KeepsMem t) ∧
  (∀ (c : Cmd) y v sl (s : State),
      s.Commits c →
      s.outcome (s.cmdEntry 0x100 c) = (stAccepted, 0) →
      y = c.op0.toNat % 128 →
      v = c.op0.toNat / 2 ^ 16 % 1024 →
      sl = c.op0.toNat / 2 ^ 32 % 16 →
      s.inMaint y = false →
      ((Config.isLogic y = true → 1 < s.domState y)) →
      s.on (YRD_STATUS.ALL_HANDS y) = false →
      (s.yard y).fUnknown = false →
      ∃ t, exec (.setVid c) s = .next t ∧
        t.get (YRD_VID.TARGET y) = v ∧
        t.get (YRD_SLEW.SLEW y) = sl ∧
        t.Shows c stDone 0 ∧
        t.get (acceptCounter c.win) = min (s.get (acceptCounter c.win) + 1) 0xFFFFFFFF ∧
        s.KeepsRegs t ([(YRD_VID.reg y).addr, (YRD_SLEW.reg y).addr, (PWS_DOM.reg y).addr] ++ commandRegs c) ∧
        s.KeepsPlant t ∧
        s.KeepsMem t) ∧
  (∀ (c : Cmd) (s : State),
      s.Commits c →
      s.outcome (s.cmdEntry 0x101 c) = (stAccepted, 0) →
      (s.fieldWrite (winReq c.win) (loopFields (s.cmdEntry 0x101 c))).2 = 0 →
      ∃ t, exec (.setLoop c) s = .next t ∧
        (∀ p ∈ loopFields (s.cmdEntry 0x101 c), t.get p.1 = p.2) ∧
        t.Shows c stDone (t.tilStatus.field 16 7) ∧
        s.KeepsRegs t ([(YRD_LOOP.reg (c.op0.toNat % 128)).addr, (YRD_FB.reg (c.op0.toNat % 128)).addr] ++ commandRegs c) ∧
        s.KeepsMem t) ∧
  (∀ (c : Cmd) code (s : State),
      s.Commits c →
      s.outcome (s.cmdEntry 0x101 c) = (stAccepted, 0) →
      code ≠ 0 →
      (s.fieldWrite (winReq c.win) (loopFields (s.cmdEntry 0x101 c))).2 = code →
      ∃ t, exec (.setLoop c) s = .next t ∧
        t.Shows c code 0 ∧
        s.KeepsRegs t ([TIL_CNT_REFUSED.COUNT.addr, pgTIL + 0x14] ++ commandRegs c) ∧
        s.KeepsPlant t ∧
        s.KeepsMem t) ∧
  (∀ (c : Cmd) b y (s : State),
      s.Commits c →
      s.outcome (s.cmdEntry 0x102 c) = (stAccepted, 0) →
      b = c.op0.toNat % 2048 →
      c.op0.toNat / 2 ^ 13 % 2 = 1 →
      remountYard b (c.op0.toNat / 2 ^ 12 % 2 == 1) = some y →
      s.get (BAY_STATE.STATE b) = 1 →
      (s.bay b).assigned = none →
      s.unlocked (BAY_REMOUNT.reg b).addr = true →
      ∃ t, exec (.remount c) s = .next t ∧
        t.Runs c ∧
        t.get (BAY_REMOUNT.CONNECT b) = 1 ∧
        t.get (BAY_REMOUNT.SIDE b) = c.op0.toNat / 2 ^ 12 % 2 ∧
        (t.bay b).assigned = some y ∧
        (t.bay b).cmdTags = [(cmdTagOf c)] ∧
        t.get (acceptCounter c.win) = min (s.get (acceptCounter c.win) + 1) 0xFFFFFFFF ∧
        s.KeepsRegs t ([(BAY_REMOUNT.reg b).addr] ++ commandRegs c) ∧
        s.KeepsMem t) ∧
  (∀ (c : Cmd) b (s : State),
      s.Commits c →
      s.outcome (s.cmdEntry 0x102 c) = (stAccepted, 0) →
      b = c.op0.toNat % 2048 →
      c.op0.toNat / 2 ^ 13 % 2 = 1 →
      ((s.get (BAY_STATE.STATE b) ≠ 1 ∨ (s.bay b).assigned ≠ none ∧ (s.bay b).assigned ≠ remountYard b (c.op0.toNat / 2 ^ 12 % 2 == 1))) →
      s.unlocked (BAY_REMOUNT.reg b).addr = true →
      ∃ t, exec (.remount c) s = .next t ∧
        t.Shows c stRefusedBusy 0 ∧
        s.KeepsRegs t ([(BAY_REMOUNT.reg b).addr] ++ commandRegs c) ∧
        s.KeepsPlant t ∧
        s.KeepsMem t) ∧
  (∀ (c : Cmd) b y (s : State),
      s.Commits c →
      s.outcome (s.cmdEntry 0x102 c) = (stAccepted, 0) →
      b = c.op0.toNat % 2048 →
      c.op0.toNat / 2 ^ 13 % 2 = 1 →
      remountYard b (c.op0.toNat / 2 ^ 12 % 2 == 1) = some y →
      s.get (BAY_STATE.STATE b) = 1 →
      (s.bay b).assigned = some y →
      s.joinable y = false →
      s.unlocked (BAY_REMOUNT.reg b).addr = true →
      ∃ t, exec (.remount c) s = .next t ∧
        t.Runs c ∧
        (t.bay b).assigned = some y ∧
        (t.bay b).cmdTags = (s.bay b).cmdTags ++ [(cmdTagOf c)] ∧
        t.get (acceptCounter c.win) = min (s.get (acceptCounter c.win) + 1) 0xFFFFFFFF ∧
        s.KeepsRegs t ([(BAY_REMOUNT.reg b).addr] ++ commandRegs c) ∧
        s.KeepsMem t) ∧
  (∀ (c : Cmd) b (s : State),
      s.Commits c →
      s.outcome (s.cmdEntry 0x102 c) = (stAccepted, 0) →
      b = c.op0.toNat % 2048 →
      s.unlocked (BAY_REMOUNT.reg b).addr = false →
      ∃ t, exec (.remount c) s = .next t ∧
        t.Shows c stRefusedAuth 0 ∧
        s.KeepsRegs t (commandRegs c) ∧
        s.KeepsPlant t ∧
        s.KeepsMem t) ∧
  (∀ (c : Cmd) d tt src (s : State),
      s.Commits c →
      s.outcome (s.cmdEntry 0x200 c) = (stAccepted, 0) →
      d = c.op0.toNat % 128 →
      tt = c.op0.toNat / 2 ^ 8 % 8 →
      src = (match c.win with | .cmd => OrderSrc.mgmt | .cmk => .kernCmd | .cmu => .user) →
      s.orderRefusal d tt src = none →
      (s.dom d).order = none →
      (s.dom d).step ≠ .stable →
      ∃ t, exec (.domainState c) s = .next t ∧
        t.Runs c ∧
        (t.dom d).order = some ⟨tt, src, s.mono, false, false, some (cmdTagOf c), []⟩ ∧
        t.get (PWS_DOM.TARGET d) = tt ∧
        t.get (acceptCounter c.win) = min (s.get (acceptCounter c.win) + 1) 0xFFFFFFFF ∧
        s.KeepsRegs t ([(PWS_DOM.reg d).addr] ++ commandRegs c) ∧
        s.KeepsMem t) ∧
  (∀ (c : Cmd) d tt src code (s : State),
      s.Commits c →
      s.outcome (s.cmdEntry 0x200 c) = (stAccepted, 0) →
      d = c.op0.toNat % 128 →
      tt = c.op0.toNat / 2 ^ 8 % 8 →
      src = (match c.win with | .cmd => OrderSrc.mgmt | .cmk => .kernCmd | .cmu => .user) →
      s.orderRefusal d tt src = some code →
      1 < code →
      (s.dom d).wakePin = false →
      ∃ t, exec (.domainState c) s = .next t ∧
        t.Shows c code 0 ∧
        t.get PWS_CNT_REFUSED.COUNT = min (s.get PWS_CNT_REFUSED.COUNT + 1) 0xFFFFFFFF ∧
        s.KeepsRegs t ([PWS_CNT_REFUSED.COUNT.addr, pgPWS + 0x14] ++ commandRegs c) ∧
        s.KeepsPlant t ∧
        s.KeepsMem t) ∧
  (∀ (c : Cmd) y b (s : State),
      s.Commits c →
      s.outcome (s.cmdEntry 0x201 c) = (stAccepted, 0) →
      y = c.op0.toNat % 128 →
      b = c.op0.toNat / 2 ^ 8 % 2 →
      s.get (Fld.bit SXT_MAINT.YARD y) = b →
      s.get (Fld.bit SXT_MAINT_NOW.YARD y) = b →
      ∃ t, exec (.maint c) s = .next t ∧
        t.Shows c stDone 0 ∧
        t.get (Fld.bit SXT_MAINT.YARD y) = b ∧
        t.get (acceptCounter c.win) = min (s.get (acceptCounter c.win) + 1) 0xFFFFFFFF ∧
        s.KeepsRegs t (commandRegs c) ∧
        s.KeepsPlant t ∧
        s.KeepsMem t) ∧
  (∀ (c : Cmd) y (s : State),
      s.Commits c →
      s.outcome (s.cmdEntry 0x201 c) = (stAccepted, 0) →
      y = c.op0.toNat % 128 →
      c.op0.toNat / 2 ^ 8 % 2 = 1 →
      s.get (Fld.bit SXT_MAINT.YARD y) = 0 →
      s.get (Fld.bit SXT_MAINT_NOW.YARD y) = 0 →
      s.domState y < 3 →
      (s.yard y).maintTags = [] →
      ∃ t, exec (.maint c) s = .next t ∧
        t.Runs c ∧
        t.get (Fld.bit SXT_MAINT.YARD y) = 1 ∧
        (t.yard y).maintTags = [(cmdTagOf c)] ∧
        t.get (acceptCounter c.win) = min (s.get (acceptCounter c.win) + 1) 0xFFFFFFFF ∧
        s.KeepsRegs t ([(Fld.bit SXT_MAINT.YARD y).addr] ++ commandRegs c) ∧
        s.KeepsMem t) ∧
  (∀ (c : Cmd) m (s : State),
      s.Commits c →
      s.outcome (s.cmdEntry 0x300 c) = (stAccepted, 0) →
      m = c.op0.toNat % 4 →
      ((c.win = .cmk → s.on CAP_MODE.LOCK = false)) →
      ∃ t, exec (.setMode c) s = .next t ∧
        t.get CAP_MODE.MODE = m ∧
        t.Shows c stDone 0 ∧
        t.get (acceptCounter c.win) = min (s.get (acceptCounter c.win) + 1) 0xFFFFFFFF ∧
        s.KeepsRegs t ([CAP_MODE.MODE.addr] ++ commandRegs c) ∧
        s.KeepsPlant t ∧
        s.KeepsMem t) ∧
  (∀ (c : Cmd) v (s : State),
      s.Commits c →
      s.outcome (s.cmdEntry 0x301 c) = (stAccepted, 0) →
      c.op0.toNat / 2 ^ 16 % 2 = 0 →
      v = c.op0.toNat % 65536 →
      s.cap.defer = none →
      s.defers = false →
      ∃ t, exec (.setCap c) s = .next t ∧
        (t.get (if c.win = .cmd then CAP_DEV.MGMT else CAP_DEV.KERN) = v) ∧
        t.get CAP_DEV_NOW.IN_FORCE = t.devTarget ∧
        t.Shows c stDone 0 ∧
        t.get (acceptCounter c.win) = min (s.get (acceptCounter c.win) + 1) 0xFFFFFFFF ∧
        s.KeepsRegs t ([CAP_DEV.MGMT.addr, CAP_DEV_NOW.IN_FORCE.addr, CAP_STATUS.RUNG.addr] ++ commandRegs c) ∧
        s.KeepsPlant t ∧
        s.KeepsMem t) ∧
  (∀ (c : Cmd) k v (s : State),
      s.Commits c →
      s.outcome (s.cmdEntry 0x301 c) = (stAccepted, 0) →
      c.op0.toNat / 2 ^ 16 % 2 = 1 →
      k = c.op0.toNat / 2 ^ 24 % 64 →
      v = c.op0.toNat % 65536 →
      s.defers = false →
      (s.ctx k).defer = none →
      ∃ t, exec (.setCap c) s = .next t ∧
        t.get (ctxCapF k) = v ∧
        (t.ctx k).cap = v ∧
        (∀ j, j ≠ k → t.ctx j = s.ctx j) ∧
        t.Shows c stDone 0 ∧
        t.get (acceptCounter c.win) = min (s.get (acceptCounter c.win) + 1) 0xFFFFFFFF ∧
        s.KeepsRegs t ([(ctxCapF k).addr, CAP_STATUS.RUNG.addr] ++ commandRegs c) ∧
        s.KeepsMem t) ∧
  (∀ (c : Cmd) k tag (s : State),
      s.Commits c →
      s.outcome (s.cmdEntry 0x302 c) = (stAccepted, 0) →
      c.op0.toNat / 2 ^ 8 % 2 = 0 →
      k = c.op0.toNat % 64 →
      tag = c.op0.toNat / 2 ^ 16 % 65536 →
      s.openJob k = none →
      s.confidential k = false →
      s.wasActive = s.active →
      ∃ t, exec (.job c) s = .next t ∧
        t.jobs = s.jobs ++ [{ id := s.jobNext, ctx := k, tag := tag, begin_ := s.sysTime, noattr := !s.inWayOn, station := s.stationOk, unmet := s.on CAP_STATUS.UNMET }] ∧
        t.Shows c stDone 0 ∧
        t.get CAP_JOB_RES.STATUS = stDone ∧
        s.KeepsRegs t ([CAP_JOB.reg.addr, CAP_JOB_RES.reg.addr, CAP_CNT_ATTRMERGE.COUNT.addr] ++ commandRegs c) ∧
        s.KeepsMem t) ∧
  (∀ (c : Cmd) (s : State),
      s.Commits c →
      s.outcome (s.cmdEntry 0x600 c) = (stAccepted, 0) →
      c.op0.toNat % 2 = 0 →
      s.on LOG_STATUS.FROZEN = false →
      s.logTag = none →
      ∃ t, exec (.logFreeze c) s = .next t ∧
        t.get LOG_CTRL.FREEZE = 0 ∧
        t.Shows c stDone 0 ∧
        t.get (acceptCounter c.win) = min (s.get (acceptCounter c.win) + 1) 0xFFFFFFFF ∧
        s.KeepsRegs t ([LOG_CTRL.reg.addr] ++ commandRegs c) ∧
        s.KeepsPlant t ∧
        s.KeepsMem t) ∧
  (∀ (c : Cmd) (s : State),
      s.Commits c →
      s.outcome (s.cmdEntry 0x600 c) = (stAccepted, 0) →
      c.op0.toNat % 2 = 1 →
      s.on LOG_STATUS.FROZEN = false →
      s.logTag = none →
      s.flashOp = .none →
      s.logErase = none →
      ∃ t, exec (.logFreeze c) s = .next t ∧
        t.get LOG_CTRL.FREEZE = 1 ∧
        t.get LOG_STATUS.FROZEN = 1 ∧
        t.Shows c stDone 0 ∧
        t.get (acceptCounter c.win) = min (s.get (acceptCounter c.win) + 1) 0xFFFFFFFF ∧
        s.KeepsRegs t ([LOG_CTRL.reg.addr, LOG_STATUS.reg.addr, pgLOG + 0x14] ++ commandRegs c) ∧
        s.KeepsPlant t ∧
        s.KeepsMem t)

/-- BUNDLE_LOAD, with no load running and a spare frame, begins the load of its bundle and runs; else it ends
REFUSED_BUSY. CAPTURE puts its operands into the first stream of its cluster and starts it, and ends REFUSED_BUSY
where the stream is busy. SYSCAL STEP 1 begins the measurement of zero where calibration is allowed, STEP 2 that of
full scale once zero is measured; else it ends REFUSED_BUSY. FAR_PLAN begins a plan in way-on service where none runs
or waits. FAR_RECORD begins its record's write where no plan runs, and else ends REFUSED_BUSY. Which refusals are
judged at the start is the model's reading (assumption log 8). Rests on R328, R331, R142, R183, R207, R190, R418,
R155, R216. -/
def Obligations.EngineCommandsStartTheirEngines : Prop :=
  (∀ (c : Cmd) (s : State),
      s.Commits c →
      s.outcome (s.cmdEntry 0x400 c) = (stAccepted, 0) →
      s.get DRE_STATUS.LOAD_STATE = 0 →
      s.get DRE_STATUS.SPARE < 9 →
      ∃ t, exec (.bundleLoad c) s = .next t ∧
        t.Runs c ∧
        t.load = some ⟨c.op0.toNat % 8, c.op0.toNat / 16 % 4, c.op1.toNat, some (cmdTagOf c)⟩ ∧
        t.get DRE_STATUS.LOAD_STATE = 1 ∧
        t.get DRE_LOAD_RES.RESULT = 0 ∧
        t.get (acceptCounter c.win) = min (s.get (acceptCounter c.win) + 1) 0xFFFFFFFF ∧
        s.KeepsRegs t ([DRE_LOAD.reg.addr, DRE_LOAD_ADDR_LO.ADDR.addr, DRE_LOAD_ADDR_LO.ADDR.addr + 4, DRE_STATUS.reg.addr, DRE_LOAD_RES.reg.addr] ++ commandRegs c) ∧
        s.KeepsPlant t ∧
        s.KeepsMem t) ∧
  (∀ (c : Cmd) (s : State),
      s.Commits c →
      s.outcome (s.cmdEntry 0x400 c) = (stAccepted, 0) →
      ((s.get DRE_STATUS.LOAD_STATE ≠ 0 ∨ 9 ≤ s.get DRE_STATUS.SPARE)) →
      ∃ t, exec (.bundleLoad c) s = .next t ∧
        t.Shows c stRefusedBusy 0 ∧
        t.load = s.load ∧
        s.KeepsRegs t ([DRE_LOAD.reg.addr, DRE_LOAD_ADDR_LO.ADDR.addr, DRE_LOAD_ADDR_LO.ADDR.addr + 4, DRE_LOAD_RES.reg.addr] ++ commandRegs c) ∧
        s.KeepsPlant t ∧
        s.KeepsMem t) ∧
  (∀ (c : Cmd) n (s : State),
      s.Commits c →
      s.outcome (s.cmdEntry 0x401 c) = (stAccepted, 0) →
      n = c.op0.toNat % 32 →
      s.strBusy n 0 = true →
      ∃ t, exec (.capture c) s = .next t ∧
        t.Shows c stRefusedBusy 0 ∧
        s.KeepsRegs t (commandRegs c) ∧
        s.KeepsPlant t ∧
        s.KeepsMem t) ∧
  (∀ (c : Cmd) n (s : State),
      s.Commits c →
      s.outcome (s.cmdEntry 0x401 c) = (stAccepted, 0) →
      n = c.op0.toNat % 32 →
      s.strBusy n 0 = false →
      s.captureOk n = true →
      s.active = false →
      c.op0.toNat / 2 ^ 12 % 8 = 0 →
      c.op0.toNat / 2 ^ 15 % 2 = 0 →
      ∃ t, exec (.capture c) s = .next t ∧
        t.Runs c ∧
        t.get (SXT_STR_STAT.STATE n 0) = 2 ∧
        t.get (SXT_STR_CTRL.CHANNEL n 0) = c.op0.toNat / 64 % 64 ∧
        t.get (SXT_STR_COUNT.COUNT n 0) = c.op2.toNat % 2 ^ 25 ∧
        t.get64 (SXT_STR_BASE_LO.BASE n 0) = c.op1.toNat ∧
        t.get (SXT_STR_SIZE.LOG2 n 0) = c.op0.toNat / 2 ^ 16 % 32 ∧
        (t.cluster n).ss0.tag = some (cmdTagOf c) ∧
        t.get (acceptCounter c.win) = min (s.get (acceptCounter c.win) + 1) 0xFFFFFFFF ∧
        s.KeepsPages t [0x50, 0x51 + n, 0x52 + n, 2, 3, 4, 5, 0xC, 0x10] [] ∧
        s.KeepsMem t) ∧
  (∀ (c : Cmd) n (s : State),
      s.Commits c →
      s.outcome (s.cmdEntry 0x402 c) = (stAccepted, 0) →
      n = c.op0.toNat % 32 →
      c.op0.toNat / 32 % 4 = 1 →
      s.calAllowed n = true →
      ∃ t, exec (.syscal c) s = .next t ∧
        t.Runs c ∧
        t.get (SXT_CAL.STATE n) = 1 ∧
        t.get (SXT_CAL.RESULT n) = 0 ∧
        (t.cluster n).calTag = some (cmdTagOf c) ∧
        (t.cluster n).calCh = (externalChannels n).headD 0 ∧
        t.get (acceptCounter c.win) = min (s.get (acceptCounter c.win) + 1) 0xFFFFFFFF ∧
        s.KeepsRegs t ([(SXT_CAL.reg n).addr, (SXT_STATUS.reg n).addr] ++ commandRegs c) ∧
        s.KeepsMem t) ∧
  (∀ (c : Cmd) n (s : State),
      s.Commits c →
      s.outcome (s.cmdEntry 0x402 c) = (stAccepted, 0) →
      n = c.op0.toNat % 32 →
      c.op0.toNat / 32 % 4 = 2 →
      s.get (SXT_CAL.STATE n) = 2 →
      ∃ t, exec (.syscal c) s = .next t ∧
        t.Runs c ∧
        t.get (SXT_CAL.STATE n) = 3 ∧
        (t.cluster n).calTag = some (cmdTagOf c) ∧
        t.get (acceptCounter c.win) = min (s.get (acceptCounter c.win) + 1) 0xFFFFFFFF ∧
        s.KeepsRegs t ([(SXT_CAL.reg n).addr] ++ commandRegs c) ∧
        s.KeepsMem t) ∧
  (∀ (c : Cmd) n (s : State),
      s.Commits c →
      s.outcome (s.cmdEntry 0x402 c) = (stAccepted, 0) →
      n = c.op0.toNat % 32 →
      ((c.op0.toNat / 32 % 4 = 1 ∧ s.calAllowed n = false ∨ c.op0.toNat / 32 % 4 = 2 ∧ s.get (SXT_CAL.STATE n) ≠ 2)) →
      ∃ t, exec (.syscal c) s = .next t ∧
        t.Shows c stRefusedBusy 0 ∧
        s.KeepsRegs t ([(SXT_CAL.reg n).addr] ++ commandRegs c) ∧
        s.KeepsPlant t ∧
        s.KeepsMem t) ∧
  (∀ (c : Cmd) (s : State),
      s.Commits c →
      s.outcome (s.cmdEntry 0x500 c) = (stAccepted, 0) →
      s.inWayOn = true →
      s.far = .idle →
      s.get FAR_STATUS.STATE = 0 →
      s.planPostponed = false →
      ∃ t, exec (.farPlan c) s = .next t ∧
        t.Runs c ∧
        t.far = .planning ∧
        t.get FAR_STATUS.STATE = 2 ∧
        t.farTag = some (cmdTagOf c) ∧
        t.get (acceptCounter c.win) = min (s.get (acceptCounter c.win) + 1) 0xFFFFFFFF ∧
        s.KeepsRegs t ([FAR_STATUS.reg.addr] ++ commandRegs c) ∧
        s.KeepsMem t) ∧
  (∀ (c : Cmd) (s : State),
      s.Commits c →
      s.outcome (s.cmdEntry 0x501 c) = (stAccepted, 0) →
      s.far = .idle →
      ∃ t, exec (.farRecord c) s = .next t ∧
        t.Runs c ∧
        (t.far = .byCommand (c.op0.toNat % 128) (c.op0.toNat / 2 ^ 8 % 2 == 1) (if c.op0.toNat / 2 ^ 9 % 2 = 1 then some (c.op0.toNat / 2 ^ 16 % 64, c.op0.toNat / 2 ^ 24 % 256) else none)) ∧
        t.farTag = some (cmdTagOf c) ∧
        t.get (acceptCounter c.win) = min (s.get (acceptCounter c.win) + 1) 0xFFFFFFFF ∧
        s.KeepsRegs t (commandRegs c) ∧
        s.KeepsPlant t ∧
        s.KeepsMem t) ∧
  (∀ (c : Cmd) (s : State),
      s.Commits c →
      s.outcome (s.cmdEntry 0x501 c) = (stAccepted, 0) →
      s.far ≠ .idle →
      ∃ t, exec (.farRecord c) s = .next t ∧
        t.Shows c stRefusedBusy 0 ∧
        s.KeepsRegs t (commandRegs c) ∧
        s.KeepsPlant t ∧
        s.KeepsMem t)

/-- GO in way-on service starts a stopped stream at its head descriptor; where that lies outside the window the stream
ends in ERROR and TDM_ERR is raised; GO of a stream that runs or waits does nothing, and outside way-on service GO
ends in the page's error record, busy. STOP of a stream with no buffer in use stops it, and one in use is closed next.
A descriptor read holds the copy; a second look with the same generation and VALID takes the buffer into use, another
generation reads anew and counts; an error ends in ERROR. A poll makes a waiting stream read again. A write response
passes the record written and counts one burst (assumption log 29); the close of a stopping stream stops it.
DEVICE_SUMMARY in way-on service stages the device's record. That GO is taken in way-on service alone is log 32. Rests
on R337, R338, R339, R340, R341, R344, R361, R348, R418, R399. -/
def Obligations.TelemetryStreamsRun : Prop :=
  (∀ q k (s : State),
      k < 3 →
      s.Takes q ((TDM_STR_CTRL.reg k).addr) →
      s.inWayOn = true →
      s.get (TDM_STR_CTRL.STOP k) = 0 →
      1 ≤ s.get (TDM_STR_CTRL.POLL k) →
      ((s.tdmState k = tdmStopped ∨ s.tdmState k = tdmError)) →
      ((s.get64 (TDM_STR_HEAD_LO.ADDR k) = 0 ∨ s.inWindow (s.get64 (TDM_STR_HEAD_LO.ADDR k)) 32 = true)) →
      ∃ t, exec (.tdmStreamGo q k) s = .next t ∧
        t.tdmState k = tdmRunning ∧
        t.get64 (TDM_STR_CUR_LO.ADDR k) = s.get64 (TDM_STR_HEAD_LO.ADDR k) ∧
        (t.stream k).next = s.get64 (TDM_STR_HEAD_LO.ADDR k) ∧
        (t.stream k).desc = [] ∧
        (t.stream k).staged = (s.stream k).staged ∧
        (∀ j, j ≠ k → t.stream j = s.stream j) ∧
        s.KeepsRegs t [(TDM_STR_CTRL.reg k).addr, (TDM_STR_CUR_LO.ADDR k).addr, (TDM_STR_CUR_LO.ADDR k).addr + 4, TDM_STATUS.reg.addr] ∧
        s.KeepsPlant t ∧
        s.KeepsMem t) ∧
  (∀ q k (s : State),
      k < 3 →
      s.Takes q ((TDM_STR_CTRL.reg k).addr) →
      s.inWayOn = true →
      s.get (TDM_STR_CTRL.STOP k) = 0 →
      1 ≤ s.get (TDM_STR_CTRL.POLL k) →
      ((s.tdmState k = tdmStopped ∨ s.tdmState k = tdmError)) →
      s.get64 (TDM_STR_HEAD_LO.ADDR k) ≠ 0 →
      s.inWindow (s.get64 (TDM_STR_HEAD_LO.ADDR k)) 32 = false →
      ∃ t, exec (.tdmStreamGo q k) s = .next t ∧
        t.tdmState k = tdmError ∧
        t.get TDM_CNT_WINERR.COUNT = min (s.get TDM_CNT_WINERR.COUNT + 1) 0xFFFFFFFF ∧
        t.get (Fld.bit FLT_ACT.CODE 0x0E) = 1 ∧
        s.KeepsPages t faultPages [] ∧
        s.KeepsPlant t ∧
        s.KeepsMem t) ∧
  (∀ q k (s : State),
      k < 3 →
      s.Takes q ((TDM_STR_CTRL.reg k).addr) →
      s.inWayOn = true →
      s.get (TDM_STR_CTRL.STOP k) = 0 →
      1 ≤ s.get (TDM_STR_CTRL.POLL k) →
      ((s.tdmState k = tdmRunning ∨ s.tdmState k = tdmWaiting)) →
      ∃ t, exec (.tdmStreamGo q k) s = .next t ∧
        t.tdm = s.tdm ∧
        s.KeepsRegs t [(TDM_STR_CTRL.reg k).addr] ∧
        s.KeepsPlant t ∧
        s.KeepsMem t) ∧
  (∀ q k (s : State),
      k < 3 →
      s.Takes q ((TDM_STR_CTRL.reg k).addr) →
      s.inWayOn = false →
      s.get (TDM_STR_CTRL.STOP k) = 0 →
      1 ≤ s.get (TDM_STR_CTRL.POLL k) →
      (s.word (pgTDM + 0x1C)).field 31 1 = 0 →
      ∃ t, exec (.tdmStreamGo q k) s = .next t ∧
        t.tdm = s.tdm ∧
        t.tdmState k = s.tdmState k ∧
        (t.word (pgTDM + 0x1C)).field 24 3 = 5 ∧
        s.KeepsRegs t [(TDM_STR_CTRL.reg k).addr, pgTDM + 0x1C] ∧
        s.KeepsPlant t ∧
        s.KeepsMem t) ∧
  (∀ q k (s : State),
      k < 3 →
      s.Takes q ((TDM_STR_CTRL.reg k).addr) →
      s.get (TDM_STR_CTRL.GO k) = 0 →
      1 ≤ s.get (TDM_STR_CTRL.POLL k) →
      ((s.tdmState k = tdmWaiting ∨ s.tdmState k = tdmRunning ∧ (s.stream k).checked = false)) →
      ∃ t, exec (.tdmStreamStop q k) s = .next t ∧
        t.tdmState k = tdmStopped ∧
        t.tdm = s.tdm ∧
        s.KeepsRegs t [(TDM_STR_CTRL.reg k).addr, TDM_STATUS.reg.addr] ∧
        s.KeepsPlant t ∧
        s.KeepsMem t) ∧
  (∀ q k a e (s : State),
      k < 3 →
      s.Takes q ((TDM_STR_CTRL.reg k).addr) →
      s.get (TDM_STR_CTRL.GO k) = 0 →
      1 ≤ s.get (TDM_STR_CTRL.POLL k) →
      s.tdmState k = tdmRunning →
      (s.stream k).checked = true →
      (s.stream k).desc.head? = some (a, e) →
      s.inWindow (a + 24) 8 = true →
      ∃ t, exec (.tdmStreamStop q k) s = .next t ∧
        t.tdmState k = tdmRunning ∧
        (t.stream k).stopping = true ∧
        (t.stream k).staged = (s.stream k).staged ∧
        (∀ j, j ≠ k → t.stream j = s.stream j) ∧
        s.KeepsRegs t [(TDM_STR_CTRL.reg k).addr] ∧
        s.KeepsPlant t ∧
        s.KeepsMem t) ∧
  (∀ k a e (s : State),
      k < 3 →
      s.tdmAct k = .fetch a →
      (s.stream k).desc = [] →
      (s.stream k).checked = false →
      s.inWindow a 32 = true →
      s.inWindow a 4 = true →
      ((e.next.toNat = 0 ∨ s.inWindow e.next.toNat 32 = true)) →
      ∃ t, exec (.descriptorFetchDone k e false) s = .next t ∧
        (t.stream k).desc = [(a, e)] ∧
        (t.stream k).next = 0 ∧
        (t.stream k).polling = false ∧
        t.tdmState k = tdmRunning ∧
        t.get64 (TDM_STR_CUR_LO.ADDR k) = a % 2 ^ 64 ∧
        (∀ j, j ≠ k → t.stream j = s.stream j) ∧
        s.KeepsRegs t [(TDM_STR_CUR_LO.ADDR k).addr, (TDM_STR_CUR_LO.ADDR k).addr + 4, TDM_STATUS.reg.addr] ∧
        s.KeepsPlant t ∧
        s.KeepsMem t) ∧
  (∀ k a h e (s : State),
      k < 3 →
      s.tdmAct k = .look a →
      (s.stream k).desc = [(a, h)] →
      (s.stream k).staged = [] →
      (s.stream k).stopping = false →
      (s.stream k).before = 0 →
      s.active = false →
      s.inWindow a 4 = true →
      h.next.toNat = 0 →
      e.gen = h.gen →
      e.valid = true →
      ∃ t, exec (.descriptorFetchDone k e false) s = .next t ∧
        (t.stream k).checked = true ∧
        (t.stream k).used = 0 ∧
        (t.stream k).desc = [(a, h)] ∧
        t.tdmState k = tdmRunning ∧
        (∀ j, j ≠ k → t.stream j = s.stream j) ∧
        s.KeepsRegs t [TDM_STATUS.reg.addr] ∧
        s.KeepsPlant t ∧
        s.KeepsMem t) ∧
  (∀ k a h e (s : State),
      k < 3 →
      s.tdmAct k = .look a →
      (s.stream k).desc.head? = some (a, h) →
      a ≠ 0 →
      s.inWindow a 32 = true →
      s.inWindow a 4 = true →
      e.gen ≠ h.gen →
      ∃ t, exec (.descriptorFetchDone k e false) s = .next t ∧
        (t.stream k).desc = [] ∧
        (t.stream k).next = a ∧
        t.tdmState k = tdmRunning ∧
        t.get TDM_CNT_REFETCH.COUNT = min (s.get TDM_CNT_REFETCH.COUNT + 1) 0xFFFFFFFF ∧
        (∀ j, j ≠ k → t.stream j = s.stream j) ∧
        s.KeepsRegs t [TDM_STATUS.reg.addr, TDM_CNT_REFETCH.COUNT.addr] ∧
        s.KeepsPlant t ∧
        s.KeepsMem t) ∧
  (∀ k a n e (s : State),
      k < 3 →
      (s.tdmAct k).range = some (a, n, 4) →
      s.inWindow a n = true →
      ∃ t, exec (.descriptorFetchDone k e true) s = .next t ∧
        t.tdmState k = tdmError ∧
        t.get (Fld.bit FLT_ACT.CODE 0x0E) = 1 ∧
        (t.stream k).desc = (s.stream k).desc ∧
        s.KeepsPages t faultPages [] ∧
        s.KeepsPlant t ∧
        s.KeepsMem t) ∧
  (∀ k (s : State),
      k < 3 →
      s.tdmState k = tdmWaiting →
      (s.modStream k (fun d => { d with polling := true })).tdmOutside k = false →
      ∃ t, exec (.descriptorPoll k) s = .next t ∧
        t.stream k = { s.stream k with polling := true } ∧
        t.tdmState k = tdmWaiting ∧
        (∀ j, j ≠ k → t.stream j = s.stream j) ∧
        s.KeepsRegs t [] ∧
        s.KeepsPlant t ∧
        s.KeepsMem t) ∧
  (∀ k a e r (s : State),
      k < 3 →
      s.tdmState k = tdmRunning →
      (s.stream k).desc = [(a, e)] →
      (s.stream k).checked = true →
      (s.stream k).stopping = false →
      s.active = false →
      (s.stream k).staged = [r] →
      r.entry = none →
      (s.stream k).used + r.bytes.length ≤ e.length →
      s.inWindow (e.buffer.toNat + (s.stream k).used) r.bytes.length = true →
      e.next.toNat = 0 →
      ∃ t, exec (.tdmWriteResponse k false) s = .next t ∧
        (t.stream k).staged = [] ∧
        (t.stream k).used = (s.stream k).used + r.bytes.length ∧
        t.get (TDM_STR_SEQ.COUNT k) = (s.get (TDM_STR_SEQ.COUNT k) + 1) % 2 ^ 32 ∧
        t.get TDM_CNT_BURSTS.COUNT = min (s.get TDM_CNT_BURSTS.COUNT + 1) 0xFFFFFFFF ∧
        t.tdmState k = tdmRunning ∧
        (∀ j, j ≠ k → t.stream j = s.stream j) ∧
        s.KeepsRegs t [(TDM_STR_SEQ.COUNT k).addr, TDM_CNT_BURSTS.COUNT.addr] ∧
        s.KeepsPlant t ∧
        s.KeepsMem t) ∧
  (∀ k a e (s : State),
      k < 3 →
      s.tdmState k = tdmRunning →
      (s.stream k).desc = [(a, e)] →
      (s.stream k).checked = true →
      (s.stream k).stopping = true →
      s.inWindow (a + 24) 8 = true →
      e.next.toNat = 0 →
      ∃ t, exec (.tdmWriteResponse k false) s = .next t ∧
        t.tdmState k = tdmStopped ∧
        (t.stream k).desc = [] ∧
        (t.stream k).checked = false ∧
        (t.stream k).stopping = false ∧
        (t.stream k).last = a ∧
        (t.stream k).staged = (s.stream k).staged ∧
        t.get TDM_CNT_BURSTS.COUNT = min (s.get TDM_CNT_BURSTS.COUNT + 1) 0xFFFFFFFF ∧
        (∀ j, j ≠ k → t.stream j = s.stream j) ∧
        s.KeepsRegs t [TDM_STATUS.reg.addr, TDM_CNT_BURSTS.COUNT.addr, pgTDM + 0x14] ∧
        s.KeepsPlant t ∧
        s.KeepsMem t) ∧
  (∀ k a n (s : State),
      k < 3 →
      (s.tdmAct k).range = some (a, n, 5) →
      s.inWindow a n = true →
      ∃ t, exec (.tdmWriteResponse k true) s = .next t ∧
        t.tdmState k = tdmError ∧
        t.get (Fld.bit FLT_ACT.CODE 0x0E) = 1 ∧
        s.KeepsPages t faultPages [] ∧
        s.KeepsPlant t ∧
        s.KeepsMem t) ∧
  (∀ r (s : State),
      s.inWayOn = true →
      s.yardCount + 1 < s.get TDM_PERIOD.YARD →
      (s.stream 2).lost = 0 →
      r = ⟨tdmRecord 0x0030 s.active.toNat s.deviceBody, none, none⟩ →
      stagedBytes ((s.stream 2).staged ++ [r]) ≤ 4096 →
      ∃ t, exec (.deviceSummary) s = .next t ∧
        (t.stream 2).staged = (s.stream 2).staged ++ [r] ∧
        t.recSeq = (s.recSeq + 1) % 2 ^ 32 ∧
        t.yardCount = s.yardCount + 1 ∧
        (∀ j, j ≠ 2 → t.stream j = s.stream j) ∧
        s.KeepsRegs t [] ∧
        s.KeepsPlant t ∧
        s.KeepsMem t)

/-- A broken pair sets its FLT_WIRE bit, counts and raises FLT_WIRE, again where the bit is set (assumption log 38); its
repair clears the bit. A write of FLT_PEND clears the classes it names and every FLT_ACT bit whose latest raising had
one of them, and no other. RESUME by MGMT, and QUIET_PERIOD_EXPIRY once FLT_QUIET seconds have passed, end holding
course where it may end: HOLD and STARTUP_HELD read 0 and the recovery is counted; a RESUME where it may not is
refused and recorded. An injection that is allowed counts (assumption log 28) and arms the next write of its memory,
raises its code, or breaks its pair. FLT_INJ_PIN drives the pair. Rests on R371, R372, R377, R382, R383, R399, R418,
R426. -/
def Obligations.FaultCollectorFollowsItsOrders : Prop :=
  (∀ unit kind (s : State),
      isUnit unit = true →
      1 ≤ kind →
      kind ≤ 3 →
      ∃ t, exec (.fltWire unit kind) s = .next t ∧
        t.get (Fld.bit FLT_WIRE.UNIT unit) = 1 ∧
        t.get FLT_CNT_WIRE.COUNT = min (s.get FLT_CNT_WIRE.COUNT + 1) 0xFFFFFFFF ∧
        t.get (Fld.bit FLT_ACT.CODE 0x04) = 1 ∧
        s.KeepsPages t faultPages [] ∧
        s.KeepsPlant t ∧
        s.KeepsMem t) ∧
  (∀ unit (s : State),
      isUnit unit = true →
      ∃ t, exec (.fltWireClear unit) s = .next t ∧
        t.get (Fld.bit FLT_WIRE.UNIT unit) = 0 ∧
        s.KeepsRegs t [(Fld.bit FLT_WIRE.UNIT unit).addr] ∧
        s.KeepsUnits t ∧
        s.KeepsMem t) ∧
  (∀ q (bits : BitVec 3) (s : State),
      s.Takes q (FLT_PEND.C.addr) →
      ∃ t, exec (.fltPendAck q bits) s = .next t ∧
        (∀ c < 3, t.get (pendBit c) = if tb bits.toNat c then 0 else s.get (pendBit c)) ∧
        (∀ p ∈ s.act, tb bits.toNat p.2 = true → t.get (Fld.bit FLT_ACT.CODE p.1) = 0) ∧
        (t.act = s.act.filter (fun p => !tb bits.toNat p.2)) ∧
        (s.KeepsRegs t (FLT_PEND.reg.addr :: s.act.map (fun p => (Fld.bit FLT_ACT.CODE p.1).addr))) ∧
        s.KeepsUnits t ∧
        s.KeepsMem t) ∧
  (∀ q (s : State),
      s.Takes q (FLT_CTRL.RESUME.addr) →
      clsOf q = .mgmt →
      s.mayRecover = true →
      s.get FAR_STATUS.STATE ≠ 5 →
      ∃ t, exec (.fltResume q) s = .next t ∧
        t.get FLT_STATUS.HOLD = 0 ∧
        t.get FLT_STATUS.STARTUP_HELD = 0 ∧
        t.get FLT_REC.COUNT = s.get FLT_REC.COUNT + 1 ∧
        s.KeepsPages t faultPages [] ∧
        s.KeepsPlant t ∧
        s.KeepsMem t) ∧
  (∀ q (s : State),
      s.Takes q (FLT_CTRL.RESUME.addr) →
      clsOf q = .mgmt →
      s.mayRecover = false →
      ∃ t, exec (.fltResume q) s = .next t ∧
        t.get FLT_STATUS.HOLD = s.get FLT_STATUS.HOLD ∧
        (t.word (pgFLT + 0x1C)).field 31 1 = 1 ∧
        ((s.word (pgFLT + 0x1C)).field 31 1 = 0 → (t.word (pgFLT + 0x1C)).field 24 3 = 5) ∧
        s.KeepsRegs t [pgFLT + 0x1C] ∧
        s.KeepsUnits t ∧
        s.KeepsMem t) ∧
  (∀ (s : State),
      s.quietOver = true →
      s.get FAR_STATUS.STATE ≠ 5 →
      ∃ t, exec (.quietPeriodExpiry) s = .next t ∧
        t.get FLT_STATUS.HOLD = 0 ∧
        t.get FLT_STATUS.STARTUP_HELD = 0 ∧
        t.get FLT_REC.COUNT = s.get FLT_REC.COUNT + 1 ∧
        s.KeepsPages t faultPages [] ∧
        s.KeepsPlant t ∧
        s.KeepsMem t) ∧
  (∀ q mem (s : State),
      s.Takes q (FLT_INJ.GO.addr) →
      s.injectOk 0 mem 0 = true →
      ∃ t, exec (.fltInjSingle q mem) s = .next t ∧
        t.inject = some (mem, false) ∧
        t.get FLT_INJ.ARMED = 1 ∧
        t.get FLT_INJ.TARGET = mem ∧
        t.get FLT_CNT_INJ.COUNT = min (s.get FLT_CNT_INJ.COUNT + 1) 0xFFFFFFFF ∧
        s.KeepsRegs t [FLT_INJ.reg.addr, FLT_CNT_INJ.COUNT.addr] ∧
        s.KeepsUnits t ∧
        s.KeepsMem t) ∧
  (∀ q mem (s : State),
      s.Takes q (FLT_INJ.GO.addr) →
      s.injectOk 1 mem 0 = true →
      ∃ t, exec (.fltInjDouble q mem) s = .next t ∧
        t.inject = some (mem, true) ∧
        t.get FLT_INJ.ARMED = 1 ∧
        t.get FLT_INJ.TARGET = mem ∧
        t.get FLT_CNT_INJ.COUNT = min (s.get FLT_CNT_INJ.COUNT + 1) 0xFFFFFFFF ∧
        s.KeepsRegs t [FLT_INJ.reg.addr, FLT_CNT_INJ.COUNT.addr] ∧
        s.KeepsUnits t ∧
        s.KeepsMem t) ∧
  (∀ q unit code (s : State),
      s.Takes q (FLT_INJ.GO.addr) →
      s.injectOk 2 unit code = true →
      ∃ t, exec (.fltInjRaise q unit code) s = .next t ∧
        t.get (Fld.bit FLT_ACT.CODE code) = 1 ∧
        t.get FLT_CNT_INJ.COUNT = min (s.get FLT_CNT_INJ.COUNT + 1) 0xFFFFFFFF ∧
        (t.get CLK_CNT_UNLOCK.COUNT = (if code = 1 then min (s.get CLK_CNT_UNLOCK.COUNT + 1) 0xFFFFFFFF else s.get CLK_CNT_UNLOCK.COUNT)) ∧
        s.KeepsPages t faultPages [CLK_CNT_UNLOCK.COUNT.addr, pgCLK + 0x14] ∧
        s.KeepsPlant t ∧
        s.KeepsMem t) ∧
  (∀ q unit (s : State),
      s.Takes q (FLT_INJ.GO.addr) →
      s.injectOk 3 unit 0 = true →
      ∃ t, exec (.fltInjBreak q unit) s = .next t ∧
        t.get (Fld.bit FLT_WIRE.UNIT unit) = 1 ∧
        t.get (Fld.bit FLT_ACT.CODE 0x04) = 1 ∧
        t.get FLT_CNT_INJ.COUNT = min (s.get FLT_CNT_INJ.COUNT + 1) 0xFFFFFFFF ∧
        t.get FLT_CNT_WIRE.COUNT = min (s.get FLT_CNT_WIRE.COUNT + 1) 0xFFFFFFFF ∧
        s.KeepsPages t faultPages [] ∧
        s.KeepsPlant t ∧
        s.KeepsMem t) ∧
  (∀ q pin (s : State),
      pin < 4 →
      s.Takes q (FLT_INJ_PIN.PIN.addr) →
      ∃ t, exec (.fltInjPinWrite q pin) s = .next t ∧
        t.get FLT_INJ_PIN.PIN = pin ∧
        t.get FLT_STATUS.PIN = t.fltPair ∧
        s.KeepsRegs t [FLT_INJ_PIN.PIN.addr] ∧
        s.KeepsUnits t ∧
        s.KeepsMem t)

/-- The start scan, after the image read has ended, ends SCANNING with NEXT at the first empty slot of the first-events
region. LOG_RECORD_PROGRAM writes the oldest staged record whole (assumption log 28) to the next empty slot, moves
NEXT, counts, and changes no other byte of flash. LOG_TIME_SAVE writes one 8-byte slot. A token refill gives every
bucket one token up to 64. FREEZE freezes at once where nothing holds flash and else waits; its release and its expiry
unfreeze and mark what is staged. LOG_RD.GO shows the record and its state, or BUSY. A keyed LOG_ERASE starts its
erase, and its end leaves the region erased, reading 0xFF (assumption log 9), and every other byte of flash, and logs
it. Where the record being written stands is log 39, the order of parameters log 12. Rests on R389, R390, R391, R393,
R395, R396, R397, R398, R401, R418. -/
def Obligations.LogbookWritesFreezesAndErases : Prop :=
  (∀ i (s : State),
      s.on LOG_STATUS.SCANNING = true →
      s.get GLB_SERVICE.FW_RESULT ≠ 0 →
      s.firstEmpty 0 8192 = some i →
      ∃ t, exec (.logScan) s = .next t ∧
        t.get LOG_STATUS.SCANNING = 0 ∧
        t.get LOG_STATUS.FIRST_FULL = 0 ∧
        t.get LOG_POS.NEXT = i ∧
        s.KeepsPages t [0xD] [FLT_STATUS.reg.addr, PRT_MP.IBI_PEND.addr] ∧
        s.KeepsUnits t ∧
        s.KeepsMem t) ∧
  (∀ r i (s : State),
      s.log.head? = some r →
      s.stagingWaits = false →
      r.err = none →
      s.on LOG_STATUS.FIRST_FULL = false →
      s.firstEmpty (s.get LOG_POS.NEXT) (8192 - s.get LOG_POS.NEXT) = some i →
      (s.firstEmpty (i + 1) (8192 - (i + 1))).isSome = true →
      ∃ t, exec (.logRecordProgram) s = .next t ∧
        t.log = s.log.tail ∧
        t.get LOG_POS.NEXT = i + 1 ∧
        t.slotBytes i = s.recordBytes r ++ [0x5A] ∧
        (∀ a, a < recordAt i ∨ recordAt i + 32 ≤ a → t.flashAt a = s.flashAt a) ∧
        (∀ a, t.storeAt a = s.storeAt a ∧ t.capAt a = s.capAt a) ∧
        t.get LOG_CNT_WRITTEN.COUNT = min (s.get LOG_CNT_WRITTEN.COUNT + 1) 0xFFFFFFFF ∧
        s.KeepsRegs t [LOG_STATUS.reg.addr, LOG_POS.reg.addr, LOG_CNT_WRITTEN.COUNT.addr] ∧
        s.KeepsUnits t) ∧
  (∀ (s : State),
      s.on LOG_STATUS.FROZEN = false →
      s.tkSlot < 8192 →
      s.supp = [] →
      ∃ t, exec (.logTimeSave) s = .next t ∧
        t.tkSlot = s.tkSlot + 1 ∧
        (∀ a, a < tkAt s.tkSector s.tkSlot ∨ tkAt s.tkSector s.tkSlot + 8 ≤ a → t.flashAt a = s.flashAt a) ∧
        t.flashAt (tkAt s.tkSector s.tkSlot + 7) = s.flashAt (tkAt s.tkSector s.tkSlot + 7) &&& 0x5A ∧
        t.flashAt (tkAt s.tkSector s.tkSlot) = s.flashAt (tkAt s.tkSector s.tkSlot) &&& BitVec.ofNat 8 s.opSecs ∧
        (∀ a, t.storeAt a = s.storeAt a ∧ t.capAt a = s.capAt a) ∧
        s.KeepsRegs t [] ∧
        s.KeepsUnits t) ∧
  (∀ (s : State),
      Tab.wf (fun _ => 64) s.tokens = true →
      ∃ t, exec (.logTokenRefill) s = .next t ∧
        (∀ c, t.tokensOf c = min 64 (s.tokensOf c + 1)) ∧
        s.KeepsRegs t [] ∧
        s.KeepsUnits t ∧
        s.KeepsMem t) ∧
  (∀ q (s : State),
      s.Takes q (LOG_CTRL.FREEZE.addr) →
      s.on LOG_CTRL.FREEZE = false →
      s.on LOG_STATUS.FROZEN = false →
      s.logTag = none →
      s.flashOp = .none →
      s.logErase = none →
      ∃ t, exec (.logCtrlFreeze q) s = .next t ∧
        t.get LOG_CTRL.FREEZE = 1 ∧
        t.get LOG_STATUS.FROZEN = 1 ∧
        t.get LOG_CTRL.FREEZE_MAX = s.get LOG_CTRL.FREEZE_MAX ∧
        s.KeepsRegs t [LOG_CTRL.reg.addr, LOG_STATUS.reg.addr, pgLOG + 0x14] ∧
        s.KeepsUnits t ∧
        s.KeepsMem t) ∧
  (∀ q (s : State),
      s.Takes q (LOG_CTRL.FREEZE.addr) →
      s.on LOG_CTRL.FREEZE = false →
      s.on LOG_STATUS.FROZEN = false →
      ((s.flashOp ≠ .none ∨ s.logErase ≠ none)) →
      ∃ t, exec (.logCtrlFreeze q) s = .next t ∧
        t.get LOG_CTRL.FREEZE = 1 ∧
        t.get LOG_STATUS.FROZEN = 0 ∧
        s.KeepsRegs t [LOG_CTRL.reg.addr] ∧
        s.KeepsUnits t ∧
        s.KeepsMem t) ∧
  (∀ q (s : State),
      s.Takes q (LOG_CTRL.FREEZE.addr) →
      s.on LOG_CTRL.FREEZE = true →
      s.on LOG_STATUS.FROZEN = true →
      s.log.length < 255 →
      s.supp = [] →
      ∃ t, exec (.logCtrlRelease q) s = .next t ∧
        t.get LOG_CTRL.FREEZE = 0 ∧
        t.get LOG_STATUS.FROZEN = 0 ∧
        ((s.log.map (fun r => { r with flags := r.flags ||| 0x10 })) <+: t.log) ∧
        s.KeepsPages t faultPages [] ∧
        s.KeepsUnits t ∧
        s.KeepsMem t) ∧
  (∀ (s : State),
      s.on LOG_CTRL.FREEZE_MAX = true →
      s.on LOG_STATUS.FROZEN = true →
      s.log.length < 255 →
      s.supp = [] →
      ∃ t, exec (.logFreezeExpiry) s = .next t ∧
        t.get LOG_CTRL.FREEZE = 0 ∧
        t.get LOG_STATUS.FROZEN = 0 ∧
        ((s.log.map (fun r => { r with flags := r.flags ||| 0x10 })) <+: t.log) ∧
        s.KeepsPages t faultPages [] ∧
        s.KeepsUnits t ∧
        s.KeepsMem t) ∧
  (∀ q i (s : State),
      i < 131072 →
      s.Takes q (LOG_RD.GO.addr) →
      s.flashOp = .none →
      s.logErase = none →
      ∃ t, exec (.logRdGo q i) s = .next t ∧
        t.get LOG_RD_RES.INDEX = i ∧
        t.get LOG_RD_RES.RESULT = slotState (s.slotBytes i) ∧
        (∀ j < 8, t.get (LOG_RD_DATA.DATA j) = ofLe (((s.slotBytes i).drop (4 * j)).take 4)) ∧
        (s.KeepsRegs t ([LOG_RD.reg.addr, LOG_RD_RES.reg.addr, pgLOG + 0x14] ++ (List.range 8).map (fun j => (LOG_RD_DATA.DATA j).addr))) ∧
        s.KeepsUnits t ∧
        s.KeepsMem t) ∧
  (∀ q i (s : State),
      i < 131072 →
      s.Takes q (LOG_RD.GO.addr) →
      ((s.flashOp ≠ .none ∨ s.logErase ≠ none)) →
      ∃ t, exec (.logRdGo q i) s = .next t ∧
        t.get LOG_RD_RES.INDEX = i ∧
        t.get LOG_RD_RES.RESULT = 5 ∧
        s.KeepsRegs t [LOG_RD.reg.addr, LOG_RD_RES.reg.addr, pgLOG + 0x14] ∧
        s.KeepsUnits t ∧
        s.KeepsMem t) ∧
  (∀ q (s : State),
      s.Takes q (LOG_ERASE.KEY.addr) →
      clsOf q = .mgmt →
      s.logErase = none →
      ∃ t, exec (.logEraseRanked q) s = .next t ∧
        t.logErase = some 1 ∧
        t.get LOG_STATUS.ERASING = 1 ∧
        s.KeepsRegs t [LOG_STATUS.reg.addr] ∧
        s.KeepsUnits t ∧
        s.KeepsMem t) ∧
  (∀ q (s : State),
      s.Takes q (LOG_ERASE.KEY.addr) →
      clsOf q = .mgmt →
      s.logErase = none →
      ∃ t, exec (.logEraseAll q) s = .next t ∧
        t.logErase = some 2 ∧
        t.get LOG_STATUS.ERASING = 1 ∧
        s.KeepsRegs t [LOG_STATUS.reg.addr] ∧
        s.KeepsUnits t ∧
        s.KeepsMem t) ∧
  (∀ region (s : State),
      s.logErase = some region →
      s.on LOG_STATUS.FROZEN = false →
      ∃ t, exec (.logEraseDone) s = .next t ∧
        t.logErase = none ∧
        t.get LOG_STATUS.ERASING = 0 ∧
        (∀ a, 0x750000 ≤ a → a < 0xB10000 → t.flashAt a = 0xFF) ∧
        (region = 2 → ∀ a, 0x710000 ≤ a → a < 0x750000 → t.flashAt a = 0xFF) ∧
        (∀ a, a < (if region = 2 then 0x710000 else 0x750000) ∨ 0xB10000 ≤ a → t.flashAt a = s.flashAt a) ∧
        (∀ a, t.storeAt a = s.storeAt a ∧ t.capAt a = s.capAt a) ∧
        (∀ k < 60, t.get (sectSev k) = 8) ∧
        s.KeepsPages t faultPages [] ∧
        s.KeepsPlant t)

/-- FLS_CTRL.GO of a read, a program, an erase or a verify that nothing refuses starts the operation and reads BUSY; one
that is refused ends at once with its result, its range judged before its authority (assumption log 28). The end of a
read fills FLS_BUF from flash; of a program, the bytes from the address the operation was started with take the bits
of FLS_BUF that are 0 (assumption log 9); of an erase, its 64 KiB sector reads 0xFF; of a verify, VERIFY shows its
result; no other byte of flash changes. An operation that ends in an error shows ERROR and leaves flash. Rests on
R354, R366, R369. -/
def Obligations.FlashPortReadsAndWrites : Prop :=
  (∀ q (s : State),
      s.Takes q (FLS_CTRL.GO.addr) →
      s.flsRefusal 0 (clsOf q) = none →
      ∃ t, exec (.flsRead q) s = .next t ∧
        t.flashOp = .fls 0 q (s.flsRange 0).1 (s.flsRange 0).2 ∧
        t.get FLS_STATUS.BUSY = 1 ∧
        s.KeepsRegs t [FLS_CTRL.reg.addr, FLS_STATUS.reg.addr] ∧
        s.KeepsUnits t ∧
        s.KeepsMem t) ∧
  (∀ q (s : State),
      s.Takes q (FLS_CTRL.GO.addr) →
      s.flsRefusal 1 (clsOf q) = none →
      ∃ t, exec (.flsProgram q) s = .next t ∧
        t.flashOp = .fls 1 q (s.flsRange 1).1 (s.flsRange 1).2 ∧
        t.get FLS_STATUS.BUSY = 1 ∧
        s.KeepsRegs t [FLS_CTRL.reg.addr, FLS_STATUS.reg.addr] ∧
        s.KeepsUnits t ∧
        s.KeepsMem t) ∧
  (∀ q (s : State),
      s.Takes q (FLS_CTRL.GO.addr) →
      s.flsRefusal 2 (clsOf q) = none →
      ∃ t, exec (.flsErase q) s = .next t ∧
        t.flashOp = .fls 2 q (s.flsRange 2).1 (s.flsRange 2).2 ∧
        t.get FLS_STATUS.BUSY = 1 ∧
        s.KeepsRegs t [FLS_CTRL.reg.addr, FLS_STATUS.reg.addr] ∧
        s.KeepsUnits t ∧
        s.KeepsMem t) ∧
  (∀ q (s : State),
      s.Takes q (FLS_CTRL.GO.addr) →
      s.flsRefusal 3 (clsOf q) = none →
      ∃ t, exec (.flsVerify q) s = .next t ∧
        t.flashOp = .fls 3 q (s.flsRange 3).1 (s.flsRange 3).2 ∧
        t.get FLS_STATUS.BUSY = 1 ∧
        s.KeepsRegs t [FLS_CTRL.reg.addr, FLS_STATUS.reg.addr] ∧
        s.KeepsUnits t ∧
        s.KeepsMem t) ∧
  (∀ q r (s : State),
      s.Takes q (FLS_CTRL.GO.addr) →
      s.flsRefusal 0 (clsOf q) = some r →
      ∃ t, exec (.flsRead q) s = .next t ∧
        t.flashOp = s.flashOp ∧
        t.get FLS_STATUS.RESULT = r ∧
        t.get FLS_STATUS.BUSY = s.get FLS_STATUS.BUSY ∧
        s.KeepsRegs t [FLS_CTRL.reg.addr, FLS_STATUS.reg.addr, pgFLS + 0x14] ∧
        s.KeepsUnits t ∧
        s.KeepsMem t) ∧
  (∀ q r (s : State),
      s.Takes q (FLS_CTRL.GO.addr) →
      s.flsRefusal 1 (clsOf q) = some r →
      ∃ t, exec (.flsProgram q) s = .next t ∧
        t.flashOp = s.flashOp ∧
        t.get FLS_STATUS.RESULT = r ∧
        t.get FLS_STATUS.BUSY = s.get FLS_STATUS.BUSY ∧
        s.KeepsRegs t [FLS_CTRL.reg.addr, FLS_STATUS.reg.addr, pgFLS + 0x14] ∧
        s.KeepsUnits t ∧
        s.KeepsMem t) ∧
  (∀ q r (s : State),
      s.Takes q (FLS_CTRL.GO.addr) →
      s.flsRefusal 2 (clsOf q) = some r →
      ∃ t, exec (.flsErase q) s = .next t ∧
        t.flashOp = s.flashOp ∧
        t.get FLS_STATUS.RESULT = r ∧
        t.get FLS_STATUS.BUSY = s.get FLS_STATUS.BUSY ∧
        s.KeepsRegs t [FLS_CTRL.reg.addr, FLS_STATUS.reg.addr, pgFLS + 0x14] ∧
        s.KeepsUnits t ∧
        s.KeepsMem t) ∧
  (∀ q r (s : State),
      s.Takes q (FLS_CTRL.GO.addr) →
      s.flsRefusal 3 (clsOf q) = some r →
      ∃ t, exec (.flsVerify q) s = .next t ∧
        t.flashOp = s.flashOp ∧
        t.get FLS_STATUS.RESULT = r ∧
        t.get FLS_STATUS.BUSY = s.get FLS_STATUS.BUSY ∧
        s.KeepsRegs t [FLS_CTRL.reg.addr, FLS_STATUS.reg.addr, pgFLS + 0x14] ∧
        s.KeepsUnits t ∧
        s.KeepsMem t) ∧
  (∀ q a n (s : State),
      s.flashOp = .fls 0 q a n →
      s.get LOG_CTRL.FREEZE = 0 →
      n ≤ 256 →
      ∃ t, exec (.flsOpDone false) s = .next t ∧
        t.flashOp = .none ∧
        t.get FLS_STATUS.BUSY = 0 ∧
        t.get FLS_STATUS.RESULT = 1 ∧
        (∀ k < n, t.get (bufByte k) = (s.flashAt (a + k)).toNat) ∧
        (s.KeepsRegs t ([FLS_STATUS.reg.addr, pgFLS + 0x14] ++ (List.range 64).map (fun j => (FLS_BUF.DATA j).addr))) ∧
        s.KeepsUnits t ∧
        s.KeepsMem t) ∧
  (∀ q a n (s : State),
      s.flashOp = .fls 1 q a n →
      s.get LOG_CTRL.FREEZE = 0 →
      n ≤ 256 →
      ∃ t, exec (.flsOpDone false) s = .next t ∧
        t.flashOp = .none ∧
        t.get FLS_STATUS.RESULT = 1 ∧
        (∀ k < n, t.flashAt (a + k) = s.flashAt (a + k) &&& BitVec.ofNat 8 (s.get (bufByte k))) ∧
        (∀ x, x < a ∨ a + n ≤ x → t.flashAt x = s.flashAt x) ∧
        (∀ x, t.storeAt x = s.storeAt x ∧ t.capAt x = s.capAt x) ∧
        s.KeepsRegs t [FLS_STATUS.reg.addr, pgFLS + 0x14] ∧
        s.KeepsUnits t) ∧
  (∀ q a (s : State),
      s.flashOp = .fls 2 q a 0x10000 →
      s.get LOG_CTRL.FREEZE = 0 →
      ∃ t, exec (.flsOpDone false) s = .next t ∧
        t.flashOp = .none ∧
        t.get FLS_STATUS.RESULT = 1 ∧
        (∀ x, a ≤ x → x < a + 0x10000 → t.flashAt x = 0xFF) ∧
        (∀ x, x < a ∨ a + 0x10000 ≤ x → t.flashAt x = s.flashAt x) ∧
        (∀ x, t.storeAt x = s.storeAt x ∧ t.capAt x = s.capAt x) ∧
        s.KeepsRegs t [FLS_STATUS.reg.addr, pgFLS + 0x14] ∧
        s.KeepsUnits t) ∧
  (∀ q a n (s : State),
      s.flashOp = .fls 3 q a n →
      s.get LOG_CTRL.FREEZE = 0 →
      ∃ t, exec (.flsOpDone false) s = .next t ∧
        t.flashOp = .none ∧
        t.get FLS_STATUS.RESULT = 1 ∧
        t.get FLS_STATUS.VERIFY = s.verifyImage false % 8 ∧
        s.KeepsRegs t [FLS_STATUS.reg.addr, pgFLS + 0x14] ∧
        s.KeepsUnits t ∧
        s.KeepsMem t) ∧
  (∀ o q a n (s : State),
      s.flashOp = .fls o q a n →
      s.get LOG_CTRL.FREEZE = 0 →
      ∃ t, exec (.flsOpDone true) s = .next t ∧
        t.flashOp = .none ∧
        t.get FLS_STATUS.RESULT = 5 ∧
        t.get FLS_STATUS.BUSY = 0 ∧
        s.KeepsRegs t [FLS_STATUS.reg.addr, pgFLS + 0x14] ∧
        s.KeepsUnits t ∧
        s.KeepsMem t)

/-- SEC's write sets the bit of a context: where it is resident, ACTIVE rises with it. Clearing the bit of a context that
is not resident clears it at once, with what it carried; of one that is resident, scrubs of its yards and of its state
are asked for, which clear its yards' counts, forecasts and notices at once, and the bit stays. SCRUB ends the scrub
that waits first: the yard's counters are cleared, SEC_SCRUB_LAST shows it, it is counted, and a scrub of an unmarking
clears the context's bit. What an interval closed under a marked context leaves is log 19. Rests on R403, R404, R405,
R410, R413, R418, R155, R105. -/
def Obligations.ConfidentialContextsAndScrubs : Prop :=
  (∀ q c (s : State),
      c < 64 →
      s.Takes q ((confBit c).addr) →
      s.confidential c = false →
      s.resident c = false →
      s.wasActive = s.active →
      ∃ t, exec (.secConfSet q c) s = .next t ∧
        t.confidential c = true ∧
        t.wasActive = s.wasActive ∧
        s.KeepsRegs t [(confBit c).addr] ∧
        s.KeepsUnits t ∧
        s.KeepsMem t) ∧
  (∀ q c (s : State),
      c < 64 →
      s.Takes q ((confBit c).addr) →
      s.confidential c = false →
      s.resident c = true →
      ∃ t, exec (.secConfSet q c) s = .next t ∧
        t.confidential c = true ∧
        t.active = true ∧
        t.wasActive = true ∧
        (s.KeepsPages t ([0xE, 0x10] ++ [2, 3, 4, 5, 0xC, 0xD] ++ (List.range 27).map (fun k => 0x50 + k)) []) ∧
        s.KeepsMem t) ∧
  (∀ q c (s : State),
      c < 64 →
      s.Takes q ((confBit c).addr) →
      s.confidential c = true →
      s.resident c = false →
      s.wasActive = s.active →
      ∃ t, exec (.secConfClear q c) s = .next t ∧
        t.confidential c = false ∧
        (t.ctx c).carry = 0 ∧
        t.scrubs = s.scrubs ++ [⟨127, c, s.mono, false⟩] ∧
        (∀ j, j ≠ c → t.ctx j = s.ctx j) ∧
        s.KeepsRegs t [(confBit c).addr] ∧
        s.KeepsMem t) ∧
  (∀ q c (s : State),
      c < 64 →
      s.Takes q ((confBit c).addr) →
      s.confidential c = true →
      s.resident c = true →
      s.wasActive = true →
      ∃ t, exec (.secConfClear q c) s = .next t ∧
        t.confidential c = true ∧
        (t.scrubs = s.scrubs ++ ((List.range Config.yardCount).filter (fun y => s.ownerOf y == some c)).map (fun y => ⟨y, c, s.mono, false⟩) ++ [⟨127, c, s.mono, true⟩]) ∧
        s.KeepsRegs t [] ∧
        s.KeepsMem t) ∧
  (∀ q c (s : State),
      c < 64 →
      s.Takes q ((confBit c).addr) →
      s.confidential c = true →
      s.resident c = true →
      s.wasActive = true →
      ∃ t, exec (.secConfClear q c) s = .next t ∧
        (∀ y < Config.yardCount, s.ownerOf y = some c → (t.yard y).stageOld = true ∧ (t.yard y).counts = [] ∧ (t.yard y).prev1us = 0 ∧ (t.yard y).applied = none ∧
          (t.yard y).gathered = (s.yard y).gathered.filter (fun e => e.n.context.toNat != c) ∧ (t.yard y).pendingSet = (s.yard y).pendingSet.filter (fun e => e.n.context.toNat != c)) ∧
        (∀ y, s.ownerOf y ≠ some c → t.yard y = s.yard y)) ∧
  (∀ r (s : State),
      s.scrubs.head? = some r →
      r.yard < Config.yardCount →
      r.clear = false →
      r.ctx < 64 →
      s.wasActive = true →
      ∃ t, exec (.scrub) s = .next t ∧
        t.scrubs = s.scrubs.tail ∧
        t.get SEC_SCRUB_LAST.YARD = r.yard ∧
        t.get SEC_SCRUB_LAST.CONTEXT = r.ctx ∧
        t.get SEC_CNT_SCRUB.COUNT = min (s.get SEC_CNT_SCRUB.COUNT + 1) 0xFFFFFFFF ∧
        t.get (DRE_YSTAT.ERR r.yard) = 0 ∧
        t.get (YRD_CNT_SAT.COUNT r.yard) = 0 ∧
        t.yards = s.yards ∧
        (s.KeepsPages t ([7, 8, 0xE] ++ (List.range 6).map (fun k => 0x20 + k) ++ (List.range 20).map (fun k => 0x200 + k)) [FLT_STATUS.reg.addr, PRT_MP.IBI_PEND.addr]) ∧
        s.KeepsMem t) ∧
  (∀ r (s : State),
      s.scrubs.head? = some r →
      Config.yardCount ≤ r.yard →
      r.yard < 128 →
      r.clear = true →
      r.ctx < 64 →
      s.wasActive = true →
      ((s.scrubs.tail ≠ [] ∨ (List.range Config.contexts).any (fun c => c != r.ctx && s.confidential c && s.resident c) = true)) →
      ∃ t, exec (.scrub) s = .next t ∧
        t.scrubs = s.scrubs.tail ∧
        t.confidential r.ctx = false ∧
        (t.ctx r.ctx).carry = 0 ∧
        t.get SEC_SCRUB_LAST.YARD = r.yard ∧
        t.get SEC_CNT_SCRUB.COUNT = min (s.get SEC_CNT_SCRUB.COUNT + 1) 0xFFFFFFFF ∧
        s.KeepsRegs t [SEC_SCRUB_LAST.reg.addr, SEC_CNT_SCRUB.COUNT.addr, SEC_CNT_SCRUBLATE.COUNT.addr, (confBit r.ctx).addr, pgSEC + 0x14] ∧
        s.KeepsMem t)

/-- Whatever the state and the notice, a pilot notice of any kind is accepted: exec answers a next state and
PIL_CNT_ACCEPT counts it. In dead-slow service, and whenever the DRE is stopped, it is also counted in PIL_CNT_DISCARD
and nothing else of it stays but PIL_LAST: no unit and no memory changes. An activity record then changes no register,
no unit and no memory. Rests on R33. -/
def Obligations.PilotPortTakesEveryNotice : Prop :=
  (∀ n (s : State),
      ∃ t, exec (.pilotNotice n) s = .next t ∧
        t.get PIL_CNT_ACCEPT.COUNT = min (s.get PIL_CNT_ACCEPT.COUNT + 1) 0xFFFFFFFF) ∧
  (∀ n (s : State),
      (s.inWayOn = false ∨ s.get DRE_CTRL.RUN = 0) →
      ∃ t, exec (.pilotNotice n) s = .next t ∧
        t.get PIL_CNT_ACCEPT.COUNT = min (s.get PIL_CNT_ACCEPT.COUNT + 1) 0xFFFFFFFF ∧
        t.get PIL_CNT_DISCARD.COUNT = min (s.get PIL_CNT_DISCARD.COUNT + 1) 0xFFFFFFFF ∧
        s.KeepsRegs t [PIL_CNT_ACCEPT.COUNT.addr, PIL_LAST_LO.NOTICE.addr, PIL_LAST_LO.NOTICE.addr + 4, PIL_CNT_DISCARD.COUNT.addr] ∧
        s.KeepsMem t ∧
        s.KeepsUnits t) ∧
  (∀ y beats (s : State),
      (s.inWayOn = false ∨ s.get DRE_CTRL.RUN = 0) →
      ∃ t, exec (.activityRecord y beats) s = .next t ∧
        s.KeepsRegs t [] ∧
        s.KeepsMem t ∧
        s.KeepsUnits t)

/-- With the DRE running: a HOLD_ACK for a yard, not fenced, whose HOLD_REQ is outstanding ends that wait, and
CAP_CNT_HOLDACK stays; a HOLD_ACK with no HOLD_REQ outstanding, for a yard that is not fenced or for the whole device,
is discarded and counted in CAP_CNT_HOLDACK: no unit and no memory changes. Rests on R256. -/
def Obligations.HoldAckEndsTheWaitOrIsCounted : Prop :=
  (∀ n (s : State),
      s.dreOn = true →
      n.yard.toNat < Config.yardCount →
      s.get (YRD_STATUS.YARD_FENCED n.yard.toNat) = 0 →
      (s.yard n.yard.toNat).belowMin = .waiting →
      ∃ t, exec (.holdAck n) s = .next t ∧
        (t.yard n.yard.toNat).belowMin ≠ .waiting ∧
        t.get CAP_CNT_HOLDACK.COUNT = s.get CAP_CNT_HOLDACK.COUNT ∧
        s.KeepsMem t) ∧
  (∀ n (s : State),
      s.dreOn = true →
      (n.yard = 127 ∨ n.yard.toNat < Config.yardCount ∧ s.get (YRD_STATUS.YARD_FENCED n.yard.toNat) = 0) →
      (s.yard n.yard.toNat).belowMin ≠ .waiting →
      ∃ t, exec (.holdAck n) s = .next t ∧
        t.get CAP_CNT_HOLDACK.COUNT = min (s.get CAP_CNT_HOLDACK.COUNT + 1) 0xFFFFFFFF ∧
        s.KeepsRegs t [PIL_CNT_ACCEPT.COUNT.addr, PIL_LAST_LO.NOTICE.addr, PIL_LAST_LO.NOTICE.addr + 4, CAP_CNT_HOLDACK.COUNT.addr] ∧
        s.KeepsMem t ∧
        s.KeepsUnits t)

/-- When a gathered or pending set forms its inputs, the forecast's horizon is the effective time of the set's governing
notice: the earliest that has not passed; none where every effective time has passed, as for notices of lead 0. A
forecast that completes with no horizon, or after it, is dropped: no yard's waiting forecasts change, PIL_CNT_LATE
counts it, and bit 1 of the PIL page's PG_EVT is set. Rests on R146. -/
def Obligations.ForecastsWithoutHorizonAreDropped : Prop :=
  (∀ y e (s : State),
      (s.yard y).coal = .gather →
      e ∈ (s.yard y).gathered →
      s.sysTime < e.eff →
      (∀ x ∈ (s.yard y).gathered, s.sysTime < x.eff → e.eff ≤ x.eff) →
      ∃ t, exec (.gatherEnd y) s = .next t ∧
        (t.due.getLast?.map (fun d => (d.yard, d.horizon)) = some (y, some e.eff))) ∧
  (∀ y (s : State),
      (s.yard y).coal = .gather →
      (s.yard y).gathered ≠ [] →
      (∀ x ∈ (s.yard y).gathered, x.eff ≤ s.sysTime) →
      ∃ t, exec (.gatherEnd y) s = .next t ∧
        (t.due.getLast?.map (fun d => (d.yard, d.horizon)) = some (y, none))) ∧
  (∀ y e (s : State),
      (s.yard y).coal = .cool →
      e ∈ (s.yard y).pendingSet →
      s.sysTime < e.eff →
      (∀ x ∈ (s.yard y).pendingSet, s.sysTime < x.eff → e.eff ≤ x.eff) →
      ∃ t, exec (.coolEnd y) s = .next t ∧
        (t.due.getLast?.map (fun d => (d.yard, d.horizon)) = some (y, some e.eff))) ∧
  (∀ y (s : State),
      (s.yard y).coal = .cool →
      (s.yard y).pendingSet ≠ [] →
      (∀ x ∈ (s.yard y).pendingSet, x.eff ≤ s.sysTime) →
      ∃ t, exec (.coolEnd y) s = .next t ∧
        (t.due.getLast?.map (fun d => (d.yard, d.horizon)) = some (y, none))) ∧
  (∀ e (s : State),
      s.fly = some e →
      e.horizon.all (fun h => decide (h < s.sysTime)) = true →
      ∃ t, exec (.forecastComplete false) s = .next t ∧
        t.fly = none ∧
        (∀ y, (t.yard y).waiting = (s.yard y).waiting) ∧
        t.get PIL_CNT_LATE.COUNT = min (s.get PIL_CNT_LATE.COUNT + 1) 0xFFFFFFFF ∧
        tb (t.word (pgPIL + 0x14)).toNat 1 = true ∧
        s.KeepsRegs t [PIL_CNT_LATE.COUNT.addr, pgPIL + 0x14] ∧
        s.KeepsMem t)

/-- On a page with a header whose class may write there, and with Oteus holding no course for KERN: a write of 0x0E17_0001
to PG_ACCESS by KERN or MGMT unlocks the page and sets BY to the class, also when it was unlocked; 0x0E17_0002 locks
it. A write with another KEY changes only PG_ERR, with REASON 3; a write by any class but KERN or MGMT changes only
PG_ERR, with REASON 1. The response is OKAY. Rests on R419. -/
def Obligations.PagesUnlockByTheKeyAlone : Prop :=
  (∀ r (page : Nat) (s : State),
      s.responded.rpReady = true →
      s.cpReset = false →
      (s.responded.rpOut.any fun e => e.tag == r.tag) = false →
      s.responded.slowFull r.addr.toNat = false →
      hasHeader page = true →
      r.addr.toNat = page * 0x1000 + 0xC →
      r.strobes = 0xF0 →
      r.stamp = 1 →
      mayWriteAt .kern (page * 0x1000 + 0xC) = true →
      s.holding = false →
      r.data.extractLsb' 32 32 = 0x0E170001 →
      ∃ t, exec (.registerWrite r) s = .next t ∧
        t.rpRsp = some ⟨r.tag, 0, none⟩ ∧
        t.get (unlockedF page) = 1 ∧
        t.get (unlockedBy page) = 1 ∧
        s.KeepsRegs t [page * 0x1000 + 0xC] ∧
        s.KeepsMem t ∧
        s.KeepsUnits t) ∧
  (∀ r (page : Nat) (s : State),
      s.responded.rpReady = true →
      s.cpReset = false →
      (s.responded.rpOut.any fun e => e.tag == r.tag) = false →
      s.responded.slowFull r.addr.toNat = false →
      hasHeader page = true →
      r.addr.toNat = page * 0x1000 + 0xC →
      r.strobes = 0xF0 →
      r.stamp = 1 →
      mayWriteAt .kern (page * 0x1000 + 0xC) = true →
      s.holding = false →
      r.data.extractLsb' 32 32 = 0x0E170002 →
      ∃ t, exec (.registerWrite r) s = .next t ∧
        t.rpRsp = some ⟨r.tag, 0, none⟩ ∧
        t.get (unlockedF page) = 0 ∧
        t.get (unlockedBy page) = 0 ∧
        s.KeepsRegs t [page * 0x1000 + 0xC] ∧
        s.KeepsMem t ∧
        s.KeepsUnits t) ∧
  (∀ r (page : Nat) (s : State),
      s.responded.rpReady = true →
      s.cpReset = false →
      (s.responded.rpOut.any fun e => e.tag == r.tag) = false →
      s.responded.slowFull r.addr.toNat = false →
      hasHeader page = true →
      r.addr.toNat = page * 0x1000 + 0xC →
      r.strobes = 0xF0 →
      r.stamp = 1 →
      mayWriteAt .kern (page * 0x1000 + 0xC) = true →
      Word.field (r.data.extractLsb' 32 32) 16 16 ≠ 0x0E17 →
      ∃ t, exec (.registerWrite r) s = .next t ∧
        t.rpRsp = some ⟨r.tag, 0, none⟩ ∧
        s.KeepsRegs t [page * 0x1000 + 0x1C] ∧
        s.KeepsMem t ∧
        s.KeepsUnits t ∧
        ((s.word (page * 0x1000 + 0x1C)).field 31 1 = 0 → (t.word (page * 0x1000 + 0x1C)).field 31 1 = 1 ∧ (t.word (page * 0x1000 + 0x1C)).field 24 3 = 3 ∧ (t.word (page * 0x1000 + 0x1C)).field 27 3 = 1 ∧ (t.word (page * 0x1000 + 0x1C)).field 22 2 = 0 ∧ (t.word (page * 0x1000 + 0x1C)).field 0 21 = (page * 0x1000 + 0xC)) ∧
        ((s.word (page * 0x1000 + 0x1C)).field 31 1 = 1 → t.word (page * 0x1000 + 0x1C) = (s.word (page * 0x1000 + 0x1C)).withField 30 1 1)) ∧
  (∀ r (page : Nat) (s : State),
      s.responded.rpReady = true →
      s.cpReset = false →
      (s.responded.rpOut.any fun e => e.tag == r.tag) = false →
      s.responded.slowFull r.addr.toNat = false →
      hasHeader page = true →
      r.addr.toNat = page * 0x1000 + 0xC →
      r.strobes = 0xF0 →
      r.stamp ≠ 1 →
      ∃ t, exec (.registerWrite r) s = .next t ∧
        t.rpRsp = some ⟨r.tag, 0, none⟩ ∧
        s.KeepsRegs t [page * 0x1000 + 0x1C] ∧
        s.KeepsMem t ∧
        s.KeepsUnits t ∧
        ((s.word (page * 0x1000 + 0x1C)).field 31 1 = 0 → (t.word (page * 0x1000 + 0x1C)).field 31 1 = 1 ∧ (t.word (page * 0x1000 + 0x1C)).field 24 3 = 1 ∧ (t.word (page * 0x1000 + 0x1C)).field 27 3 = (classCode (reqOf r)) ∧ (t.word (page * 0x1000 + 0x1C)).field 22 2 = 0 ∧ (t.word (page * 0x1000 + 0x1C)).field 0 21 = (page * 0x1000 + 0xC)) ∧
        ((s.word (page * 0x1000 + 0x1C)).field 31 1 = 1 → t.word (page * 0x1000 + 0x1C) = (s.word (page * 0x1000 + 0x1C)).withField 30 1 1)) ∧
  (∀ (page : Nat) (s : State),
      s.requestHeld = false →
      s.cpReset = false →
      hasHeader page = true →
      mayWriteAt .mgmt (page * 0x1000 + 0xC) = true →
      ∃ t, exec (.mpPrivateWrite ((0x20 : Byte) :: le 3 (page * 0x1000 + 0xC) ++ le 4 (0x0E170001))) s = .next t ∧
        t.mp = .done 0 [] ∧
        t.get (unlockedF page) = 1 ∧
        t.get (unlockedBy page) = 2 ∧
        s.KeepsRegs t [page * 0x1000 + 0xC] ∧
        s.KeepsMem t ∧
        s.KeepsUnits t) ∧
  (∀ (page : Nat) (s : State),
      s.requestHeld = false →
      s.cpReset = false →
      hasHeader page = true →
      mayWriteAt .mgmt (page * 0x1000 + 0xC) = true →
      ∃ t, exec (.mpPrivateWrite ((0x20 : Byte) :: le 3 (page * 0x1000 + 0xC) ++ le 4 (0x0E170002))) s = .next t ∧
        t.mp = .done 0 [] ∧
        t.get (unlockedF page) = 0 ∧
        t.get (unlockedBy page) = 0 ∧
        s.KeepsRegs t [page * 0x1000 + 0xC] ∧
        s.KeepsMem t ∧
        s.KeepsUnits t) ∧
  (∀ (page w : Nat) (s : State),
      s.requestHeld = false →
      s.cpReset = false →
      hasHeader page = true →
      mayWriteAt .mgmt (page * 0x1000 + 0xC) = true →
      w < 2 ^ 32 →
      w / 2 ^ 16 ≠ 0x0E17 →
      ∃ t, exec (.mpPrivateWrite ((0x20 : Byte) :: le 3 (page * 0x1000 + 0xC) ++ le 4 (w))) s = .next t ∧
        t.mp = .done 0 [] ∧
        s.KeepsRegs t [page * 0x1000 + 0x1C] ∧
        s.KeepsMem t ∧
        s.KeepsUnits t ∧
        ((s.word (page * 0x1000 + 0x1C)).field 31 1 = 0 → (t.word (page * 0x1000 + 0x1C)).field 31 1 = 1 ∧ (t.word (page * 0x1000 + 0x1C)).field 24 3 = 3 ∧ (t.word (page * 0x1000 + 0x1C)).field 27 3 = 4 ∧ (t.word (page * 0x1000 + 0x1C)).field 22 2 = 1 ∧ (t.word (page * 0x1000 + 0x1C)).field 0 21 = (page * 0x1000 + 0xC)) ∧
        ((s.word (page * 0x1000 + 0x1C)).field 31 1 = 1 → t.word (page * 0x1000 + 0x1C) = (s.word (page * 0x1000 + 0x1C)).withField 30 1 1))

/-- A register-port write by a class that the table of R314 does not let write there, and one stamped MGMT or DBG
anywhere, is answered OKAY and changes nothing but the page's PG_ERR, which records class, port and address, or sets
OVERFLOW where it holds a record already. A register-port read by a class that may not read there returns 0 with OKAY
and changes nothing but PG_ERR in the same way. So does a 32-bit access of the debug port, with no confidential
context active and no access under way, and a 32-bit write of the management port. Rests on R13, R315. -/
def Obligations.UnpermittedAccessesArePerformedOnNothing : Prop :=
  (∀ r (s : State),
      s.responded.rpReady = true →
      s.cpReset = false →
      (s.responded.rpOut.any fun e => e.tag == r.tag) = false →
      s.responded.slowFull r.addr.toNat = false →
      mayWriteAt (clsOf (reqOf r)) (homeAddr r.addr.toNat) = false →
      (∀ e ∈ (reqWords r).2, mayWriteAt (clsOf (reqOf r)) e.1 = false) →
      ∃ t, exec (.registerWrite r) s = .next t ∧
        t.rpRsp = some ⟨r.tag, 0, none⟩ ∧
        s.KeepsRegs t [(errPage (homeAddr r.addr.toNat) + 0x1C)] ∧
        s.KeepsMem t ∧
        s.KeepsUnits t ∧
        ((s.word (errPage (homeAddr r.addr.toNat) + 0x1C)).field 31 1 = 0 → (t.word (errPage (homeAddr r.addr.toNat) + 0x1C)).field 31 1 = 1 ∧ (t.word (errPage (homeAddr r.addr.toNat) + 0x1C)).field 27 3 = (classCode (reqOf r)) ∧ (t.word (errPage (homeAddr r.addr.toNat) + 0x1C)).field 22 2 = 0 ∧ (t.word (errPage (homeAddr r.addr.toNat) + 0x1C)).field 0 21 = r.addr.toNat) ∧
        ((s.word (errPage (homeAddr r.addr.toNat) + 0x1C)).field 31 1 = 1 → t.word (errPage (homeAddr r.addr.toNat) + 0x1C) = (s.word (errPage (homeAddr r.addr.toNat) + 0x1C)).withField 30 1 1)) ∧
  (∀ r (s : State),
      s.responded.rpReady = true →
      s.cpReset = false →
      (s.responded.rpOut.any fun e => e.tag == r.tag) = false →
      s.responded.slowFull r.addr.toNat = false →
      (r.stamp = 4 ∨ r.stamp = 5) →
      ∃ t, exec (.registerWrite r) s = .next t ∧
        t.rpRsp = some ⟨r.tag, 0, none⟩ ∧
        s.KeepsRegs t [(errPage (homeAddr r.addr.toNat) + 0x1C)] ∧
        s.KeepsMem t ∧
        s.KeepsUnits t ∧
        ((s.word (errPage (homeAddr r.addr.toNat) + 0x1C)).field 31 1 = 0 → (t.word (errPage (homeAddr r.addr.toNat) + 0x1C)).field 31 1 = 1 ∧ (t.word (errPage (homeAddr r.addr.toNat) + 0x1C)).field 27 3 = (classCode (reqOf r)) ∧ (t.word (errPage (homeAddr r.addr.toNat) + 0x1C)).field 22 2 = 0 ∧ (t.word (errPage (homeAddr r.addr.toNat) + 0x1C)).field 0 21 = r.addr.toNat) ∧
        ((s.word (errPage (homeAddr r.addr.toNat) + 0x1C)).field 31 1 = 1 → t.word (errPage (homeAddr r.addr.toNat) + 0x1C) = (s.word (errPage (homeAddr r.addr.toNat) + 0x1C)).withField 30 1 1)) ∧
  (∀ r (s : State),
      s.responded.rpReady = true →
      s.cpReset = false →
      (s.responded.rpOut.any fun e => e.tag == r.tag) = false →
      s.responded.slowFull r.addr.toNat = false →
      r.addr.toNat % (if r.wide then 8 else 4) = 0 →
      mayReadAt (clsOf (reqOf r)) (homeAddr r.addr.toNat) = false →
      ∃ t, exec (.registerRead r) s = .next t ∧
        t.rpRsp = some ⟨r.tag, 0, some 0⟩ ∧
        s.KeepsRegs t [(errPage (homeAddr r.addr.toNat) + 0x1C)] ∧
        s.KeepsMem t ∧
        s.KeepsUnits t ∧
        ((s.word (errPage (homeAddr r.addr.toNat) + 0x1C)).field 31 1 = 0 → (t.word (errPage (homeAddr r.addr.toNat) + 0x1C)).field 31 1 = 1 ∧ (t.word (errPage (homeAddr r.addr.toNat) + 0x1C)).field 27 3 = (classCode (reqOf r)) ∧ (t.word (errPage (homeAddr r.addr.toNat) + 0x1C)).field 22 2 = 0 ∧ (t.word (errPage (homeAddr r.addr.toNat) + 0x1C)).field 0 21 = r.addr.toNat) ∧
        ((s.word (errPage (homeAddr r.addr.toNat) + 0x1C)).field 31 1 = 1 → t.word (errPage (homeAddr r.addr.toNat) + 0x1C) = (s.word (errPage (homeAddr r.addr.toNat) + 0x1C)).withField 30 1 1)) ∧
  (∀ r (s : State),
      s.responded.rpReady = true →
      s.cpReset = false →
      (s.responded.rpOut.any fun e => e.tag == r.tag) = false →
      s.responded.slowFull r.addr.toNat = false →
      r.addr.toNat % (if r.wide then 8 else 4) = 0 →
      (r.stamp = 4 ∨ r.stamp = 5) →
      ∃ t, exec (.registerRead r) s = .next t ∧
        t.rpRsp = some ⟨r.tag, 0, some 0⟩ ∧
        s.KeepsRegs t [(errPage (homeAddr r.addr.toNat) + 0x1C)] ∧
        s.KeepsMem t ∧
        s.KeepsUnits t ∧
        ((s.word (errPage (homeAddr r.addr.toNat) + 0x1C)).field 31 1 = 0 → (t.word (errPage (homeAddr r.addr.toNat) + 0x1C)).field 31 1 = 1 ∧ (t.word (errPage (homeAddr r.addr.toNat) + 0x1C)).field 27 3 = (classCode (reqOf r)) ∧ (t.word (errPage (homeAddr r.addr.toNat) + 0x1C)).field 22 2 = 0 ∧ (t.word (errPage (homeAddr r.addr.toNat) + 0x1C)).field 0 21 = r.addr.toNat) ∧
        ((s.word (errPage (homeAddr r.addr.toNat) + 0x1C)).field 31 1 = 1 → t.word (errPage (homeAddr r.addr.toNat) + 0x1C) = (s.word (errPage (homeAddr r.addr.toNat) + 0x1C)).withField 30 1 1)) ∧
  (∀ dr (s : State),
      dr.getLsbD 21 = true →
      dr.getLsbD 22 = false →
      (dr.extractLsb' 0 21).toNat % 4 = 0 →
      s.cpReset = false →
      s.dbgHeld = none →
      s.active = false →
      mayWriteAt .dbg (homeAddr (dr.extractLsb' 0 21).toNat) = false →
      ∃ t, exec (.otAccessUpdate dr) s = .next t ∧
        t.dbg.extractLsb' 87 2 = (0 : BitVec 2) ∧
        s.KeepsRegs t [(errPage (homeAddr (dr.extractLsb' 0 21).toNat) + 0x1C)] ∧
        s.KeepsMem t ∧
        s.KeepsUnits t ∧
        ((s.word (errPage (homeAddr (dr.extractLsb' 0 21).toNat) + 0x1C)).field 31 1 = 0 → (t.word (errPage (homeAddr (dr.extractLsb' 0 21).toNat) + 0x1C)).field 31 1 = 1 ∧ (t.word (errPage (homeAddr (dr.extractLsb' 0 21).toNat) + 0x1C)).field 27 3 = 5 ∧ (t.word (errPage (homeAddr (dr.extractLsb' 0 21).toNat) + 0x1C)).field 22 2 = 2 ∧ (t.word (errPage (homeAddr (dr.extractLsb' 0 21).toNat) + 0x1C)).field 0 21 = (dr.extractLsb' 0 21).toNat) ∧
        ((s.word (errPage (homeAddr (dr.extractLsb' 0 21).toNat) + 0x1C)).field 31 1 = 1 → t.word (errPage (homeAddr (dr.extractLsb' 0 21).toNat) + 0x1C) = (s.word (errPage (homeAddr (dr.extractLsb' 0 21).toNat) + 0x1C)).withField 30 1 1)) ∧
  (∀ dr (s : State),
      dr.getLsbD 21 = false →
      dr.getLsbD 22 = false →
      (dr.extractLsb' 0 21).toNat % 4 = 0 →
      s.cpReset = false →
      s.dbgHeld = none →
      s.active = false →
      mayReadAt .dbg (homeAddr (dr.extractLsb' 0 21).toNat) = false →
      ∃ t, exec (.otAccessUpdate dr) s = .next t ∧
        t.dbg.extractLsb' 87 2 = (0 : BitVec 2) ∧
        t.dbg.extractLsb' 23 64 = (0 : BitVec 64) ∧
        s.KeepsRegs t [(errPage (homeAddr (dr.extractLsb' 0 21).toNat) + 0x1C)] ∧
        s.KeepsMem t ∧
        s.KeepsUnits t ∧
        ((s.word (errPage (homeAddr (dr.extractLsb' 0 21).toNat) + 0x1C)).field 31 1 = 0 → (t.word (errPage (homeAddr (dr.extractLsb' 0 21).toNat) + 0x1C)).field 31 1 = 1 ∧ (t.word (errPage (homeAddr (dr.extractLsb' 0 21).toNat) + 0x1C)).field 27 3 = 5 ∧ (t.word (errPage (homeAddr (dr.extractLsb' 0 21).toNat) + 0x1C)).field 22 2 = 2 ∧ (t.word (errPage (homeAddr (dr.extractLsb' 0 21).toNat) + 0x1C)).field 0 21 = (dr.extractLsb' 0 21).toNat) ∧
        ((s.word (errPage (homeAddr (dr.extractLsb' 0 21).toNat) + 0x1C)).field 31 1 = 1 → t.word (errPage (homeAddr (dr.extractLsb' 0 21).toNat) + 0x1C) = (s.word (errPage (homeAddr (dr.extractLsb' 0 21).toNat) + 0x1C)).withField 30 1 1)) ∧
  (∀ (a w : Nat) (s : State),
      s.requestHeld = false →
      s.cpReset = false →
      a < 2 ^ 21 →
      a % 4 = 0 →
      w < 2 ^ 32 →
      mayWriteAt .mgmt (homeAddr a) = false →
      ∃ t, exec (.mpPrivateWrite ((0x20 : Byte) :: le 3 a ++ le 4 w)) s = .next t ∧
        t.mp = .done 0 [] ∧
        s.KeepsRegs t [errPage (homeAddr a) + 0x1C] ∧
        s.KeepsMem t ∧
        s.KeepsUnits t ∧
        ((s.word (errPage (homeAddr a) + 0x1C)).field 31 1 = 0 → (t.word (errPage (homeAddr a) + 0x1C)).field 31 1 = 1 ∧ (t.word (errPage (homeAddr a) + 0x1C)).field 27 3 = 4 ∧ (t.word (errPage (homeAddr a) + 0x1C)).field 22 2 = 1 ∧ (t.word (errPage (homeAddr a) + 0x1C)).field 0 21 = a) ∧
        ((s.word (errPage (homeAddr a) + 0x1C)).field 31 1 = 1 → t.word (errPage (homeAddr a) + 0x1C) = (s.word (errPage (homeAddr a) + 0x1C)).withField 30 1 1))

/-- For every state and operands that meet the conditions of its clause, which are conditions on the state and the
operands alone, each of these commands completes: exec answers a next state, and what the clause, by the rule beside
the name, says the command itself changes holds there. POWER_ON_RESET (R48), AON_DETECTOR_TRIP (R49), DEAD_SLOW_ENTRY
(R361), IMAGE_READ_END (R352), ROLL_CALL (R360), WAY_ON_TRANSITION (R363), LOG_SCAN (R396), PLL_LOCK (R25), PLL_UNLOCK
(R26), PLL_RELOCK (R26), GLB_RESET_CONTROL_PLANE (R364), CONTROL_PLANE_RESET_END (R319), GLB_RESET_BLOCK (R364),
HELM_PAIR_FAILURE (R29), SERVICE_CORE_FAILURE (R30), REGISTER_WRITE (R8), MP_PRIVATE_WRITE (R320), MP_PRIVATE_READ
(R320), I3C_DYNAMIC_ADDRESS (R51), I3C_DISEC_ENEC (R321), IBI_RAISE (R321), OT_ACCESS_UPDATE (R316), PRT_H2M_WRITE
(R321), PG_UNLOCK (R419), PG_LOCK (R419), XREC_UNLOCK (R420), XREC_LOCK (R420), PILOT_NOTICE (R126), COLL_BEGIN
(R129), COLL_END (R129), HOLD_ACK (R256), COLLECTIVE_OPEN (R129), COLLECTIVE_CLOSE (R129), OWNERSHIP_CHANGE (R257),
CAP_YOWN_WRITE (R257), GATHER_END (R130), COOL_END (R130), INFERENCE_DISPATCH (R23), FORECAST_COMPLETE (R146),
PRESET_APPLY (R148), PRESET_HORIZON (R149), PRESET_END (R148), PRERAISE_END (R148). Rests on spec/00_scope.md,
spec/01_architecture.md, spec/02_block_boundary.md, spec/06_pilots_and_dead_reckoning.md,
spec/10_modes_caps_and_energy.md, spec/13_ports_commands_guarantees.md, spec/14_startup_reset_bringup.md,
spec/15_faults_and_logbook.md, spec/17_register_map.md. -/
def Obligations.ResetsPortsAndPilotsComplete : Prop :=
  (∀ src lowNs i (s : State),
      (src ≠ .porstN ∨ 2000 ≤ lowNs) →
      ∃ t, exec (.powerOnReset src lowNs i) s = .next t ∧
        t.get GLB_SERVICE.STATE = 0 ∧
        t.get CLK_STATUS.SOURCE = 0) ∧
  (∀ (s : State),
      ∃ t, exec (.aonDetectorTrip) s = .next t ∧
        t.get THM_STATUS.TRIP = 0 ∧
        t.get THM_TRIP_SRC.reg = 0) ∧
  (∀ (s : State),
      s.inBoot = true →
      s.blkReset = false →
      s.outstandingF = false →
      ∃ t, exec (.deadSlowEntry) s = .next t ∧
        t.get GLB_SERVICE.STATE = 1) ∧
  (∀ readErr (s : State),
      s.get GLB_SERVICE.FW_RESULT = 0 →
      s.get GLB_SERVICE.STATE < 2 →
      s.armedFor 3 = none →
      ∃ t, exec (.imageReadEnd readErr) s = .next t ∧
        t.get GLB_SERVICE.FW_RESULT = s.loaded.verifyImage readErr ∧
        (t.image = (if s.loaded.verifyImage readErr = 1 then some (ofLe (s.loaded.flashBytes 0xC 4)) else s.image))) ∧
  (∀ tRt (s : State),
      s.rollCalled = false →
      s.inBoot = false →
      s.get STG_STATUS.PG = 3 →
      tRt ≤ 28000 →
      (∀ b < Config.bayCount, (s.bay b).failFenced = false) →
      (∀ y < Config.yardCount, Config.minBays y ≤ (s.usableBays y).length) →
      ∃ t, exec (.rollCall tRt []) s = .next t ∧
        t.rollCalled = true ∧
        (∀ b < Config.bayCount, Config.bayFitted b = true → (t.bay b).equal = (300000 - 10 * tRt) / 3125)) ∧
  (∀ (s : State),
      s.r26 = false →
      s.get GLB_SERVICE.STATE = 1 →
      s.mayWayOn = true →
      (∀ e ∈ s.journal, e.state ≠ .accepted) →
      (∀ d < Config.yardCount, (s.dom d).rewake = false) →
      ∃ t, exec (.wayOnTransition) s = .next t ∧
        t.get GLB_SERVICE.STATE = 3 ∧
        t.get CLK_STATUS.SOURCE = 1) ∧
  (∀ i (s : State),
      s.on LOG_STATUS.SCANNING = true →
      s.get GLB_SERVICE.FW_RESULT ≠ 0 →
      s.firstEmpty 0 8192 = some i →
      ∃ t, exec (.logScan) s = .next t ∧
        t.get LOG_STATUS.SCANNING = 0 ∧
        t.get LOG_STATUS.FIRST_FULL = 0) ∧
  (∀ (s : State),
      ∃ t, exec (.pllLock) s = .next t ∧
        t.get CLK_STATUS.LOCK = 1 ∧
        t.get CLK_STATUS.SOURCE = s.get CLK_STATUS.SOURCE) ∧
  (∀ diff (s : State),
      s.get CLK_STATUS.SOURCE = 1 →
      ∃ t, exec (.pllUnlock diff) s = .next t ∧
        t.r26 = true ∧
        t.get CLK_STATUS.LOCK = 0) ∧
  (∀ (s : State),
      s.r26 = true →
      s.outstandingF = false →
      (∀ e ∈ s.journal, e.state ≠ .accepted) →
      ∃ t, exec (.pllRelock) s = .next t ∧
        t.r26 = false ∧
        t.get CLK_STATUS.LOCK = 1) ∧
  (∀ q (s : State),
      s.Takes q GLB_RESET.KEY.addr →
      s.resetRuns = 0 →
      ∃ t, exec (.glbResetControlPlane q) s = .next t ∧
        t.cpReset = true ∧
        t.get GLB_SERVICE.LAST_RESET = 0) ∧
  (∀ (s : State),
      s.cpReset = true →
      s.get THM_STATUS.TRIP = 0 →
      (∀ e ∈ s.journal, e.isFinal = true ∨ e.state ≠ .accepted ∧ e.cmdTag ∈ s.engineTags) →
      s.kept = [] →
      s.latched = [] →
      s.requestHeld = false →
      s.dbgHeld = none →
      (∀ e ∈ s.armedErr, e.1 ≠ 4) →
      ∃ t, exec (.controlPlaneResetEnd) s = .next t ∧
        t.cpReset = false ∧
        t.journal = s.journal) ∧
  (∀ q i (s : State),
      s.Takes q GLB_RESET.KEY.addr →
      clsOf q = .mgmt →
      s.resetRuns ≠ 2 →
      s.allOff = true →
      ∃ t, exec (.glbResetBlock q i) s = .next t ∧
        t.get GLB_SERVICE.STATE = 0 ∧
        t.get GLB_SERVICE.LAST_RESET = 1) ∧
  (∀ cause (s : State),
      s.get HLM_STATUS.HELM_OUT = 0 →
      ∃ t, exec (.helmPairFailure cause) s = .next t ∧
        t.get HLM_STATUS.HELM_OUT = 1 ∧
        (t.get HLM_STATUS.EXEC = (if s.get HLM_STATUS.SC0_OUT = 0 then 1 else 2))) ∧
  (∀ cause (s : State),
      s.get HLM_STATUS.SC1_OUT = 0 →
      s.get HLM_STATUS.SC0_OUT = 0 →
      s.get HLM_STATUS.EXEC ≠ 2 →
      ∃ t, exec (.serviceCoreFailure 1 cause) s = .next t ∧
        t.get HLM_STATUS.SC1_OUT = 1 ∧
        t.cpReset = s.cpReset) ∧
  (∀ r (s : State),
      s.responded.rpReady = true →
      s.cpReset = false →
      (s.responded.rpOut.any fun e => e.tag == r.tag) = false →
      s.responded.slowFull r.addr.toNat = false →
      ∃ t, exec (.registerWrite r) s = .next t ∧
        t.rpRsp = some ⟨r.tag, 0, none⟩) ∧
  (∀ bytes u lo hi bad (s : State),
      s.requestHeld = false →
      mpFormOk bytes = true →
      s.cpReset = false →
      bytes.headD 0 = 0x10 →
      s.portRead ⟨.mp, 0⟩ (ofLe (bytes.tail.take 3) % 2 ^ 21) false = (u, lo, hi, bad) →
      ∃ t, exec (.mpPrivateWrite bytes) s = .next t ∧
        (t.mp = .done (if bad then 2 else 0) (le 4 lo.toNat))) ∧
  (∀ (s : State),
      ∃ t, exec (.mpPrivateRead) s = .next t ∧
        t.mp = s.mp ∧
        (∀ st data, s.mp = .done st data → t.mpRead = BitVec.ofNat 8 st :: data)) ∧
  (∀ how addr (s : State),
      s.takesAddr how = true →
      ∃ t, exec (.i3cDynamicAddress how addr) s = .next t ∧
        t.get PRT_MP.DYN_ADDR = addr.toNat ∧
        t.get PRT_MP.IBI_EN = s.get PRT_MP.IBI_EN) ∧
  (∀ enable (s : State),
      ∃ t, exec (.i3cDisecEnec enable) s = .next t ∧
        t.mpDisec = !enable) ∧
  (∀ (s : State),
      s.Wired →
      s.mayInterrupt = true →
      ∃ t, exec (.ibiRaise true) s = .next t ∧
        t.get PRT_MP.IBI_PEND = 0) ∧
  (∀ dr (s : State),
      s.cpReset = true →
      s.dbgHeld = none →
      ∃ t, exec (.otAccessUpdate dr) s = .next t ∧
        t.dbg.getLsbD 89 = true ∧
        t.dbg.extractLsb' 0 23 = dr.extractLsb' 0 23) ∧
  (∀ q idx data (s : State),
      s.Takes q (PRT_H2M.DATA idx).addr →
      clsOf q = .kern →
      idx < 32 →
      ∃ t, exec (.prtH2mWrite q idx data) s = .next t ∧
        t.word (PRT_H2M.DATA idx).addr = data ∧
        tb (t.get PRT_MP.IBI_PEND) 4 = true) ∧
  (∀ q page (s : State),
      s.Takes q (page * 0x1000 + 0xC) →
      hasHeader page = true →
      (clsOf q = .mgmt ∨ clsOf q = .kern) →
      ∃ t, exec (.pgUnlock q page) s = .next t ∧
        t.get (unlockedF page) = 1 ∧
        (t.get (unlockedBy page) = (if clsOf q = .kern then 1 else 2))) ∧
  (∀ q page (s : State),
      s.Takes q (page * 0x1000 + 0xC) →
      hasHeader page = true →
      (clsOf q = .mgmt ∨ clsOf q = .kern) →
      ∃ t, exec (.pgLock q page) s = .next t ∧
        t.get (unlockedF page) = 0 ∧
        t.get (unlockedBy page) = 0) ∧
  (∀ q region page (s : State),
      s.Takes q GLB_XREC.KEY.addr →
      (clsOf q = .mgmt ∨ clsOf q = .kern) →
      region < 3 →
      page < xrecPages region →
      ∃ t, exec (.xrecUnlock q region page) s = .next t ∧
        (∀ k, tb (t.get (xrecBits region)) k = (k == page || tb (s.get (xrecBits region)) k))) ∧
  (∀ q region page (s : State),
      s.Takes q GLB_XREC.KEY.addr →
      (clsOf q = .mgmt ∨ clsOf q = .kern) →
      region < 3 →
      page < xrecPages region →
      ∃ t, exec (.xrecLock q region page) s = .next t ∧
        (∀ k, tb (t.get (xrecBits region)) k = (k != page && tb (s.get (xrecBits region)) k))) ∧
  (∀ n (s : State),
      s.dreOn = true →
      noticeBad n = false →
      1 ≤ n.kind.toNat →
      n.kind.toNat ≤ 4 →
      s.get (YRD_STATUS.YARD_FENCED n.yard.toNat) = 0 →
      (s.yard n.yard.toNat).coal = .idle →
      ∃ t, exec (.pilotNotice n) s = .next t ∧
        t.get PIL_CNT_ACCEPT.COUNT = min (s.get PIL_CNT_ACCEPT.COUNT + 1) 0xFFFFFFFF ∧
        t.get64 PIL_LAST_LO.NOTICE = noticeBits n) ∧
  (∀ n k (s : State),
      s.dreOn = true →
      n.yard = 127 →
      s.findColl n.context.toNat n.tag.toNat = none →
      s.freeColl = some k →
      ∃ t, exec (.collBegin n) s = .next t ∧
        t.collPend = s.collPend ++ [⟨n.context.toNat, n.tag.toNat, s.sysTime + 50 * n.lead.toNat, none, 0⟩] ∧
        t.colls = s.colls) ∧
  (∀ n k c (s : State),
      s.dreOn = true →
      n.yard = 127 →
      s.findColl n.context.toNat n.tag.toNat = some k →
      s.coll k = some c →
      c.closes = none →
      ∃ t, exec (.collEnd n) s = .next t ∧
        t.coll k = some { c with closes := some (s.sysTime + 50 * n.lead.toNat) } ∧
        (∀ j, j ≠ k → t.coll j = s.coll j)) ∧
  (∀ n (s : State),
      s.dreOn = true →
      n.yard = 127 →
      ∃ t, exec (.holdAck n) s = .next t ∧
        t.get CAP_CNT_HOLDACK.COUNT = min (s.get CAP_CNT_HOLDACK.COUNT + 1) 0xFFFFFFFF) ∧
  (∀ k c (s : State),
      s.nextColl = some c →
      s.findColl c.ctx c.tag = none →
      k < 16 →
      s.coll k = none →
      ∃ t, exec (.collectiveOpen k) s = .next t ∧
        t.coll k = some { c with openedAt := s.mono } ∧
        t.collPend = s.collPend.erase c) ∧
  (∀ k c (s : State),
      s.coll k = some c →
      c.closes.isSome = true →
      ∃ t, exec (.collectiveClose k) s = .next t ∧
        t.coll k = none ∧
        (∀ j, j ≠ k → t.coll j = s.coll j)) ∧
  (∀ y eff kind c (s : State),
      y < Config.yardCount →
      Config.isPrivate y = true →
      (s.yard y).ownNext = some (eff, kind, c) →
      s.domState y ≠ 4 →
      s.get (YRD_STATUS.YARD_FENCED y) = 0 →
      c < 64 →
      (kind = 1 ∨ kind = 3) →
      ∃ t, exec (.ownershipChange y) s = .next t ∧
        t.get (Fld.byte CAP_YOWN.OWNER y) = c ∧
        (t.yard y).ownPend = (s.yard y).ownPend.erase (eff, kind, c)) ∧
  (∀ q (j : Nat) (data : Word) (s : State),
      s.Takes q (CAP_YOWN.OWNER j).addr →
      clsOf q = .kern →
      (∀ k : Nat, k < 4 → Config.isPrivate (4 * j + k) = true) →
      (∀ k : Nat, k < 4 → data.field (8 * k) 8 ≤ 64) →
      (∀ k : Nat, k < 4 → s.get (Fld.byte CAP_YOWN.OWNER (4 * j + k)) ≤ 64) →
      ∃ t, exec (.capYownWrite q j data) s = .next t ∧
        (∀ k : Nat, k < 4 → t.get (Fld.byte CAP_YOWN.OWNER (4 * j + k)) = (if s.domState (4 * j + k) = 4 ∨ s.get (YRD_STATUS.YARD_FENCED (4 * j + k)) ≠ 0 then 64 else data.field (8 * k) 8))) ∧
  (∀ y (s : State),
      (s.yard y).coal = .gather →
      (s.yard y).gathered ≠ [] →
      ∃ t, exec (.gatherEnd y) s = .next t ∧
        (t.yard y).coal = .cool ∧
        (t.yard y).gathered = []) ∧
  (∀ y (s : State),
      (s.yard y).coal = .cool →
      (s.yard y).pendingSet = [] →
      ∃ t, exec (.coolEnd y) s = .next t ∧
        (t.yard y).coal = .idle ∧
        t.due = s.due) ∧
  (∀ e (s : State),
      s.dreOn = true →
      s.fly = none →
      firstInference s.due = some e →
      s.slotServes (s.ymap e.yard) e.yard = true →
      ∃ t, exec (.inferenceDispatch) s = .next t ∧
        t.fly = some { e with slot := s.ymap e.yard, frame := s.get (DRE_SLOT_STAT.FRAME (s.ymap e.yard)), outs := (s.runModel (s.get (DRE_SLOT_STAT.FRAME (s.ymap e.yard))) e.sources).1, commits := s.commits } ∧
        (t.due = s.due.filter (fun x => x.order != e.order))) ∧
  (∀ e (s : State),
      s.fly = some e →
      e.horizon = none →
      ∃ t, exec (.forecastComplete false) s = .next t ∧
        t.fly = none ∧
        t.get PIL_CNT_LATE.COUNT = min (s.get PIL_CNT_LATE.COUNT + 1) 0xFFFFFFFF) ∧
  (∀ y c p (s : State),
      y < Config.yardCount →
      (s.yard y).waiting = [c] →
      s.courseHeld = false →
      s.running y = true →
      s.sysTime < c.horizon →
      (let w := s.setYard y { s.yard y with waiting := [] }; if s.get THM_WARM_LIM.LOAD * s.limit20 y < 100 * fpk c.f then w.endHeat y else w).presetsOf y c.f = p →
      ∃ t, exec (.presetApply y) s = .next t ∧
        (t.yard y).waiting = [] ∧
        (t.yard y).presets = ⟨max (s.yard y).presets.floor p.floor, max (s.yard y).presets.prebias p.prebias, max (s.yard y).presets.raise p.raise⟩) ∧
  (∀ y c (s : State),
      y < Config.yardCount →
      (s.yard y).cur = some c →
      c.horizon ≤ s.sysTime →
      ∃ t, exec (.presetHorizon y) s = .next t ∧
        (t.yard y).presets = c.p) ∧
  (∀ y c (s : State),
      y < Config.yardCount →
      (s.yard y).cur = some c →
      s.presetsEnd c ≤ s.sysTime →
      ∃ t, exec (.presetEnd y) s = .next t ∧
        (t.yard y).presets = { (s.yard y).presets with floor := 0, prebias := 0 } ∧
        (t.yard y).cur = none) ∧
  (∀ y (s : State),
      y < Config.yardCount →
      ∃ t, exec (.preraiseEnd y) s = .next t ∧
        (t.yard y).presets = { (s.yard y).presets with raise := 0 })

/-- For every state and operands that meet the conditions of its clause, which are conditions on the state and the
operands alone, each of these commands completes: exec answers a next state, and what the clause, by the rule beside
the name, says the command itself changes holds there. DRE_LOAD_GO (R142), BUNDLE_FETCH_DONE (R142),
DRE_CTRL_RUN_WRITE (R155), ACTIVITY_RECORD (R37), ACTIVITY_TICK (R37), TB_STROBE (R38), TB_VALID_LOSS (R38),
SPEED_ORDER_PLACE (R121), SO_DONE (R39), SO_TIMEOUT (R39), VF_WAIT_EXPIRY (R120), HOST_NOTICE_TAKEN (R40),
CCP_EPOCH_MESSAGE (R252), CCP_CANCEL (R252), EPOCH_APPLY (R253), SUPERFRAME (R66), SYNC (R72), SYNC_LOST (R72),
SHARING_APPLY (R68), TRIM (R57), SETPOINT (R73), PRESET (R57), ADD (R60), SHED_PREP (R60), CANCEL (R60), CLEAR_TRIP
(R63), BAY_STATE_OFF (R59), BAY_STATE_READY (R59), BAY_STATE_RUN (R430), BAY_STATE_HEAT (R278), BAY_STATE_FENCE (R59),
BAY_STATE_RELEASE (R431), REMOUNT_CONNECT (R76), REMOUNT_DISCONNECT (R76), REMOUNT_CONNECT_STEP (R76),
REMOUNT_DISCONNECT_STEP (R76), CFG_WR (R68), CFG_RD (R68), CURRENT_REPORT (R70), EVENT (R71), RD_RSP (R71),
FBB_SEGMENT (R72). Rests on spec/02_block_boundary.md, spec/03_bays_and_yards.md,
spec/05_sharing_shedding_transients.md, spec/06_pilots_and_dead_reckoning.md, spec/10_modes_caps_and_energy.md,
spec/11_thermal_and_warming.md. -/
def Obligations.BundlesOrdersAndYardWordsComplete : Prop :=
  (∀ q slot src (s : State),
      s.Takes q DRE_LOAD.GO.addr →
      src ≤ 2 →
      slot < 8 →
      s.inWayOn = true →
      s.get DRE_STATUS.LOAD_STATE = 0 →
      s.get DRE_STATUS.SPARE < 9 →
      ∃ t, exec (.dreLoadGo q slot src) s = .next t ∧
        t.load = some ⟨slot, src, s.get64 DRE_LOAD_ADDR_LO.ADDR, none⟩ ∧
        t.get DRE_STATUS.LOAD_STATE = 1) ∧
  (∀ l fb r host (s : State),
      s.load = some l →
      l.src = 0 →
      l.slot < 8 →
      fb = frameBase (s.get DRE_STATUS.SPARE) →
      s.get DRE_STATUS.SPARE < 9 →
      s.headerOk fb = true →
      s.checkBundle fb = r →
      ∃ t, exec (.bundleFetchDone host false) s = .next t ∧
        t.load = none ∧
        t.get DRE_LOAD_RES.RESULT = r ∧
        (r = 1 → t.get (DRE_SLOT_STAT.VALID l.slot) = 1 ∧ t.get (DRE_SLOT_STAT.FRAME l.slot) = s.get DRE_STATUS.SPARE ∧ t.get DRE_STATUS.SPARE = s.get (DRE_SLOT_STAT.FRAME l.slot))) ∧
  (∀ q (s : State),
      s.Takes q DRE_CTRL.RUN.addr →
      ∃ t, exec (.dreCtrlRunWrite q false) s = .next t ∧
        t.get DRE_CTRL.RUN = 0 ∧
        t.openColls = []) ∧
  (∀ y beats (s : State),
      y < Config.yardCount →
      s.dreOn = true →
      beats.map (fun b => b.1.toNat) = [0, 1, 2, 3] →
      ∃ t, exec (.activityRecord y beats) s = .next t ∧
        (t.yard y).stage = some (activityCounts (beats.map Prod.snd)) ∧
        (∀ z, z ≠ y → t.yard z = s.yard z)) ∧
  (∀ (s : State),
      s.dreOn = true →
      ∃ t, exec (.activityTick) s = .next t ∧
        (∀ y < Config.yardCount, (s.yard y).stage.isSome = true → (s.yard y).stageOld = false → some (t.yard y).counts = (s.yard y).stage ∧ (t.yard y).stage = none) ∧
        (∀ y < Config.yardCount, (s.yard y).stage = none → t.get (DRE_YSTAT.STALE y) = min (s.get (DRE_YSTAT.STALE y) + 1) (2 ^ (DRE_YSTAT.STALE y).w - 1))) ∧
  (∀ (time : BitVec 64) (s : State),
      s.epochs = [] →
      ∃ t, exec (.tbStrobe time true) s = .next t ∧
        t.sysTime = (time.toNat + 20) % 2 ^ 64 ∧
        t.tbValid = true) ∧
  (∀ (s : State),
      ∃ t, exec (.tbValidLoss) s = .next t ∧
        t.tbValid = false ∧
        t.sysTime = s.sysTime) ∧
  (∀ r (s : State),
      s.soFly = none →
      s.soReq = s.soAck →
      s.nextSpeed = some r →
      ∃ t, exec (.speedOrderPlace) s = .next t ∧
        t.soFly = some ⟨r, false⟩ ∧
        t.soReq = !s.soReq) ∧
  (∀ f (s : State),
      s.soFly = some f →
      f.req.vid = none →
      (s.yard f.req.yard).speedNext = none →
      ∃ t, exec (.soDone f.req.yard) s = .next t ∧
        t.soFly = none ∧
        (t.yard f.req.yard).fratio = f.req.fratio) ∧
  (∀ f (s : State),
      s.soFly = some f →
      f.again = false →
      ∃ t, exec (.soTimeout) s = .next t ∧
        t.soFly = some ⟨f.req, true⟩ ∧
        t.soReq = !s.soReq) ∧
  (∀ y w (s : State),
      (s.yard y).vfWait = some w →
      ∃ t, exec (.vfWaitExpiry y) s = .next t ∧
        tb (t.get (YRD_SHED_EVT.EVT y)) 4 = true ∧
        (t.yard y).vfWait = some w) ∧
  (∀ (s : State),
      ∃ t, exec (.hostNoticeTaken) s = .next t ∧
        t.hn = s.hn.drop 1) ∧
  (∀ b (s : State),
      1 ≤ beatField b 0 56 8 →
      beatField b 0 56 8 ≤ 3 →
      s.ccpCheck b true = 0 →
      s.lastEpoch.all (fun l => decide (l < beatField b 0 0 32)) = true →
      s.sysTime ≤ beatField b 1 0 64 →
      beatField b 1 0 64 ≤ s.sysTime + 1000000 * s.get CAP_EPOCH.MAX_LEAD →
      s.epochs.length < 8 →
      s.tbValid = true →
      ∃ t, exec (.ccpEpochMessage b) s = .next t ∧
        t.lastEpoch = some (beatField b 0 0 32) ∧
        t.epochs = s.epochs ++ [⟨beatField b 0 56 8, beatField b 0 0 32, beatField b 1 0 64, beatField b 2 26 6, beatField b 2 0 16⟩]) ∧
  (∀ b (s : State),
      s.ccpCheck b true = 0 →
      s.tbValid = true →
      beatField b 1 0 64 ≤ s.sysTime + 1000000 * s.get CAP_EPOCH.MAX_LEAD →
      s.epochs.length < 8 →
      s.epochs.any (fun e => e.number == beatField b 0 0 32) = true →
      ∃ t, exec (.ccpCancel b) s = .next t ∧
        (t.epochs = s.epochs.filter (fun e => e.number != beatField b 0 0 32)) ∧
        t.lastEpoch = s.lastEpoch) ∧
  (∀ e (s : State),
      s.tbValid = true →
      s.courseHeld = false →
      s.dueEpoch = some e →
      e.type = 3 →
      e.value ≤ 3 →
      s.get CAP_MODE.LOCK = 0 →
      ∃ t, exec (.epochApply) s = .next t ∧
        (t.epochs = s.epochs.filter (fun x => x.number != e.number)) ∧
        t.get CAP_MODE.MODE = e.value) ∧
  (∀ seg (s : State),
      seg < Config.segments →
      (∀ y < Config.yardCount, firstSeg y = seg → (s.dom y).step ≠ .waitSuper ∧ s.hotBays y = [] ∧ ∀ b ∈ reach y, (s.bay b).releasing = false) →
      s.substWait = [] →
      s.far ≠ .applying →
      (seg = 0 → s.claims = []) →
      ∃ t, exec (.superframe seg) s = .next t ∧
        (Tab.get (fun _ => 0) t.sfn seg = (Tab.get (fun _ => 0) s.sfn seg + 1) % 256)) ∧
  (∀ seg sfn share crc (s : State),
      fbbOk (withCrc (syncWord sfn.toNat share.toNat) crc) = true →
      ∃ t, exec (.sync seg sfn share crc) s = .next t ∧
        (∀ b ∈ segBays seg, (s.bay b).silent = false → (t.bay b).syncCrc = some share ∧ (t.bay b).missed = 0 ∧ (t.bay b).holding = false ∧ (t.bay b).events = (if (s.bay b).holding then (s.bay b).events ||| 1 else (s.bay b).events))) ∧
  (∀ b (s : State),
      Config.bayFitted b = true →
      (s.bay b).silent = false →
      ∃ t, exec (.syncLost b false) s = .next t ∧
        (t.bay b).missed = (s.bay b).missed + 1 ∧
        (t.bay b).syncCrc = none) ∧
  (∀ b words c (s : State),
      Config.bayFitted b = true →
      (s.bay b).silent = false →
      (s.bay b).holding = false →
      (s.bay b).syncCrc = some c →
      shareCrc words = c.toNat →
      (s.bay b).allHands = false →
      ∃ t, exec (.sharingApply b words) s = .next t ∧
        t.getI (BAY_SHARE.PH0_OFS b) = applyDelta (s.getI (BAY_SHARE.PH0_OFS b)) ((words.getD (b % 80 / 8) 0).field (4 * (b % 8)) 2) ∧
        t.getI (BAY_SHARE.PH1_OFS b) = applyDelta (s.getI (BAY_SHARE.PH1_OFS b)) ((words.getD (b % 80 / 8) 0).field (4 * (b % 8) + 2) 2)) ∧
  (∀ seg y (v : BitVec 12) crc b (s : State),
      fbbOk (withCrc (trimWord y v.toInt) crc) = true →
      b ∈ s.listeners seg →
      (s.bay b).yard = y % 128 →
      (s.bay b).followsTrim = true →
      ∃ t, exec (.trim seg y v crc) s = .next t ∧
        ((s.bay b).allHands = false → t.get (BAY_REF.TRIM b) = v.toNat) ∧
        ((s.bay b).allHands = true → (t.bay b).storedTrim = some v ∧ t.get (BAY_REF.TRIM b) = s.get (BAY_REF.TRIM b))) ∧
  (∀ seg y code slew crc b (s : State),
      fbbOk (withCrc (setpointWord y code slew) crc) = true →
      b ∈ s.listeners seg →
      (s.bay b).yard = y % 128 →
      (s.bay b).followsSet = true →
      ∃ t, exec (.setpoint seg y code slew crc) s = .next t ∧
        ((s.bay b).allHands = false → (t.bay b).target = code % 1024 ∧ (t.bay b).slew = slew % 16) ∧
        ((s.bay b).allHands = true → (t.bay b).storedSet = some (s.storedSet (y % 128) (code % 1024) (slew % 16)) ∧ (t.bay b).target = (s.bay b).target)) ∧
  (∀ seg y p crc b (s : State),
      fbbOk (withCrc (presetWord y p) crc) = true →
      b ∈ s.listeners seg →
      (s.bay b).yard = y % 128 →
      (s.bay b).followsTrim = true →
      ∃ t, exec (.preset seg y p crc) s = .next t ∧
        ((s.bay b).allHands = false → t.get (BAY_REF.PREBIAS b) = p % 32) ∧
        ((s.bay b).allHands = true → (t.bay b).storedPre = some (p % 32, s.presetHorizon (y % 128) (p % 32)) ∧ t.get (BAY_REF.PREBIAS b) = s.get (BAY_REF.PREBIAS b))) ∧
  (∀ seg slot ph1 ph0 crc b (s : State),
      fbbOk (withCrc (phaseWord slot ph1 ph0 0) crc) = true →
      b = 80 * seg + slot →
      b ∈ s.listeners seg →
      (s.bay b).st = .run →
      (s.bay b).allHands = false →
      ∃ t, exec (.add seg slot ph1 ph0 crc) s = .next t ∧
        (∀ ph, ((s.bay b).ph ph).st.out = false → (if ph then ph1 else ph0) = true → ((t.bay b).ph ph).st = .active ∧ (s.get (PhF b ph) ≠ 5 → t.get (PhF b ph) = 2)) ∧
        (∀ ph, (if ph then ph1 else ph0) = false → (t.bay b).ph ph = (s.bay b).ph ph)) ∧
  (∀ seg slot ph1 ph0 crc b (s : State),
      fbbOk (withCrc (phaseWord slot ph1 ph0 1) crc) = true →
      b = 80 * seg + slot →
      b ∈ s.listeners seg →
      (s.bay b).st ≠ .fenced →
      (s.bay b).st ≠ .connect →
      (s.bay b).st ≠ .absent →
      ∃ t, exec (.shedPrep seg slot ph1 ph0 crc) s = .next t ∧
        (∀ ph, (if ph then ph1 else ph0) = true → ((s.bay b).ph ph).st = .active → ((t.bay b).ph ph).st = (if (s.bay b).allHands then .active else .shedPrep) ∧ ((s.bay b).allHands = false → s.get (PhF b ph) ≠ 5 → t.get (PhF b ph) = 3)) ∧
        (∀ c, c ≠ b → t.bay c = s.bay c)) ∧
  (∀ seg slot ph1 ph0 crc b (s : State),
      fbbOk (withCrc (phaseWord slot ph1 ph0 2) crc) = true →
      b = 80 * seg + slot →
      b ∈ s.listeners seg →
      (s.bay b).st ≠ .fenced →
      (s.bay b).st ≠ .connect →
      (s.bay b).st ≠ .absent →
      ∃ t, exec (.cancel seg slot ph1 ph0 crc) s = .next t ∧
        (∀ ph, (if ph then ph1 else ph0) = true → ((s.bay b).ph ph).st = .shedPrep → ((t.bay b).ph ph).st = .active ∧ ((s.bay b).allHands = false → s.get (PhF b ph) ≠ 5 → t.get (PhF b ph) = 2)) ∧
        (∀ c, c ≠ b → t.bay c = s.bay c)) ∧
  (∀ seg slot ph1 ph0 crc b (s : State),
      fbbOk (withCrc (phaseWord slot ph1 ph0 3) crc) = true →
      b = 80 * seg + slot →
      b ∈ s.listeners seg →
      (s.bay b).st ≠ .fenced →
      (s.bay b).st ≠ .connect →
      (s.bay b).st ≠ .absent →
      ∃ t, exec (.clearTrip seg slot ph1 ph0 crc) s = .next t ∧
        (∀ ph, (if ph then ph1 else ph0) = true → ((s.bay b).ph ph).st = .tripped → ((t.bay b).ph ph).st = .cold ∧ (s.get (PhF b ph) ≠ 5 → t.get (PhF b ph) = 0)) ∧
        (∀ c, c ≠ b → t.bay c = s.bay c)) ∧
  (∀ seg slot crc b (s : State),
      fbbOk (withCrc (bayStateWord slot 0) crc) = true →
      b = 80 * seg + slot →
      b ∈ s.listeners seg →
      (s.bay b).st ≠ .fenced →
      (s.bay b).st ≠ .connect →
      (s.bay b).st ≠ .absent →
      ∃ t, exec (.bayStateOff seg slot crc) s = .next t ∧
        (t.bay b).st = .off ∧
        t.get (BAY_STATE.STATE b) = 1) ∧
  (∀ seg slot crc b (s : State),
      fbbOk (withCrc (bayStateWord slot 1) crc) = true →
      b = 80 * seg + slot →
      b ∈ s.listeners seg →
      ((s.bay b).st = .off ∨ (s.bay b).st = .ready ∨ (s.bay b).st = .run ∨ (s.bay b).st = .heat) →
      ∃ t, exec (.bayStateReady seg slot crc) s = .next t ∧
        (t.bay b).st = .ready ∧
        t.get (BAY_STATE.STATE b) = 2) ∧
  (∀ seg slot crc b (s : State),
      fbbOk (withCrc (bayStateWord slot 2) crc) = true →
      b = 80 * seg + slot →
      b ∈ s.listeners seg →
      ((s.bay b).st = .off ∨ (s.bay b).st = .ready ∨ (s.bay b).st = .heat) →
      (s.bay b).p0.st.out = false →
      ∃ t, exec (.bayStateRun seg slot crc) s = .next t ∧
        (t.bay b).st = .run ∧
        t.get (BAY_STATE.STATE b) = 3) ∧
  (∀ seg slot crc b (s : State),
      fbbOk (withCrc (bayStateWord slot 3) crc) = true →
      b = 80 * seg + slot →
      b ∈ s.listeners seg →
      ((s.bay b).st = .ready ∨ (s.bay b).st = .run) →
      ∃ t, exec (.bayStateHeat seg slot crc) s = .next t ∧
        (t.bay b).st = .heat ∧
        t.get (BAY_STATE.STATE b) = 4) ∧
  (∀ seg slot crc b (s : State),
      fbbOk (withCrc (bayStateWord slot 4) crc) = true →
      b = 80 * seg + slot →
      b ∈ s.listeners seg →
      (s.bay b).st ≠ .fenced →
      (s.bay b).st ≠ .connect →
      (s.bay b).st ≠ .absent →
      ∃ t, exec (.bayStateFence seg slot crc) s = .next t ∧
        (t.bay b).st = .fenced ∧
        t.get (BAY_STATE.STATE b) = 6) ∧
  (∀ seg slot crc b (s : State),
      fbbOk (withCrc (bayStateWord slot 5) crc) = true →
      b = 80 * seg + slot →
      b ∈ s.listeners seg →
      (s.bay b).st = .fenced →
      (s.bay b).p0.st ≠ .failed →
      (s.bay b).p1.st ≠ .failed →
      s.get (PhF b false) ≠ 5 →
      s.get (PhF b true) ≠ 5 →
      (s.bay b).discStep = 0 →
      ∃ t, exec (.bayStateRelease seg slot crc) s = .next t ∧
        (t.bay b).st = .off ∧
        t.get (BAY_STATE.STATE b) = 1) ∧
  (∀ seg slot side crc b y (s : State),
      fbbOk (withCrc (remountWord slot side true) crc) = true →
      b = 80 * seg + slot →
      b ∈ s.listeners seg →
      remountYard b side = some y →
      (s.bay b).st = .off →
      (s.bay b).discStep = 0 →
      (s.bay b).yard = 127 →
      ((s.bay b).assigned = none ∨ (s.bay b).assigned = some y) →
      s.joinable y = true →
      ∃ t, exec (.remountConnect seg slot side crc) s = .next t ∧
        (t.bay b).st = .connect ∧
        (t.bay b).connStep = 0) ∧
  (∀ seg slot side crc b (s : State),
      fbbOk (withCrc (remountWord slot side false) crc) = true →
      b = 80 * seg + slot →
      b ∈ s.listeners seg →
      (Config.remountLow b).isSome = true →
      (s.bay b).st ≠ .connect →
      (s.bay b).yard ≠ 127 →
      (s.bay b).discStep = 0 →
      ∃ t, exec (.remountDisconnect seg slot side crc) s = .next t ∧
        (t.bay b).discStep = 1 ∧
        ((t.bay b).discTo = (if (s.bay b).st = .fenced then .fenced else .off))) ∧
  (∀ b y ok (s : State),
      (s.bay b).st = .connect →
      (s.bay b).discStep = 0 →
      (s.bay b).holding = false →
      (s.bay b).connStep = 3 →
      (s.bay b).connTo = y →
      (s.bay b).p0.st.out = false →
      s.get (YRD_STATUS.ALL_HANDS y) = 0 →
      (s.yard y).fUnknown = false →
      s.setFrozen y = false →
      s.setLow y = false →
      s.substWait = [] →
      s.far ≠ .applying →
      ∃ t, exec (.remountConnectStep b ok) s = .next t ∧
        (t.bay b).st = .run ∧
        (t.bay b).connStep = 4) ∧
  (∀ b (s : State),
      (s.bay b).discStep = 1 →
      ∃ t, exec (.remountDisconnectStep b) s = .next t ∧
        (t.bay b).discStep = 2 ∧
        (t.bay b).yard = 127) ∧
  (∀ seg slot reg (data : BitVec 12) crc b (s : State),
      fbbOk (withCrc (cfgWrWord slot reg data.toNat) crc) = true →
      b = 80 * seg + slot →
      b ∈ s.listeners seg →
      ∃ t, exec (.cfgWr seg slot reg data crc) s = .next t ∧
        (reg = 1 → (t.bay b).events = (s.bay b).events &&& ~~~(BitVec.ofNat 8 data.toNat)) ∧
        (reg = 2 → (t.bay b).win = data.toNat % 16)) ∧
  (∀ seg slot reg crc b (s : State),
      fbbOk (withCrc (cfgRdWord slot reg) crc) = true →
      b = 80 * seg + slot →
      b ∈ s.listeners seg →
      ∃ t, exec (.cfgRd seg slot reg crc) s = .next t ∧
        (t.bay b).answer = some reg ∧
        (∀ c, c ≠ b → t.bay c = s.bay c)) ∧
  (∀ seg (sfn : BitVec 8) (reports : List (Nat × BitVec 16 × Bool)) (s : State),
      seg < Config.segments →
      (reports.map (·.1)).Nodup →
      reports.all (fun r => parityOk (if s.reportsZero (80 * seg + r.1) then 0 else r.2.1) r.2.2) = true →
      ∃ t, exec (.currentReport seg sfn reports) s = .next t ∧
        (∀ r ∈ reports, r.1 < 80 → Config.bayFitted (80 * seg + r.1) = true →
          t.get (BAY_IMON.PH0_I (80 * seg + r.1)) = (if s.reportsZero (80 * seg + r.1) then 0 else r.2.1.toNat % 256)
          ∧ t.get (BAY_IMON.PH1_I (80 * seg + r.1)) = (if s.reportsZero (80 * seg + r.1) then 0 else r.2.1.toNat / 256)
          ∧ t.get (BAY_IMON.SFN (80 * seg + r.1)) = sfn.toNat ∧ (t.bay (80 * seg + r.1)).parityRun = 0)) ∧
  (∀ seg slot (w : Word) b (s : State),
      b = 80 * seg + slot →
      slot < 80 →
      s.drives b = true →
      (s.bay b).unsent ≠ 0 →
      (s.bay b).answer = none →
      fbbOk w = true →
      w = s.eventWord b →
      seg ∉ s.segDead →
      (s.bay b).unsent.toNat < 32 →
      (s.bay b).st ≠ .protect →
      s.phSt (b, false) ≠ 5 →
      s.phSt (b, true) ≠ 5 →
      ∃ t, exec (.event seg slot w) s = .next t ∧
        t.get (BAY_EVT.EVT b) = Nat.lor (s.get (BAY_EVT.EVT b)) (s.bay b).unsent.toNat ∧
        (t.bay b).unsent = 0) ∧
  (∀ seg slot (w : Word) b reg (s : State),
      b = 80 * seg + slot →
      slot < 80 →
      s.drives b = true →
      (s.bay b).answer = some reg →
      fbbOk w = true →
      w = s.rspWord b reg →
      seg ∉ s.segDead →
      (s.bay b).recover = false →
      ∃ t, exec (.rdRsp seg slot w) s = .next t ∧
        (t.bay b).answer = none ∧
        (∀ c, c ≠ b → t.bay c = s.bay c)) ∧
  (∀ seg (s : State),
      seg < Config.segments →
      seg ∉ s.segDead →
      4 ≤ Tab.get (fun _ => 0) s.silent seg →
      ∃ t, exec (.fbbSegment seg) s = .next t ∧
        t.segDead = s.segDead ++ [seg] ∧
        t.get (Fld.bit FLT_ACT.CODE 0x11) = 1)

/-- For every state and operands that meet the conditions of its clause, which are conditions on the state and the
operands alone, each of these commands completes: exec answers a next state, and what the clause, by the rule beside
the name, says the command itself changes holds there. HOLD_REQ_TIMEOUT (R214), TRIP_HOLD_END (R114), AUTO_CLEAR_TRIP
(R63), PHASE_COUNT_DECISION (R113), SHARING_JOB (R109), SHARING_DEADLINE_MISS (R92), SUPERVISION_JOB (R192),
DROOP_TRIP (R61), DROOP_CLEAR (R61), ALL_HANDS_END (R61), SHED_STOP (R60), PHASE_COLD (R60), TRIPPED (R62),
BAY_OVERLOAD (R62), INPUT_LOW (R62), OUTPUT_HIGH (R62), PROTECT_RETURN (R62), PHASE_FAILED (R64), BAY_CTRL_FENCE
(R78), BAY_CTRL_RELEASE (R431), BAY_CTRL_CLEAR_TRIP (R63), BAY_REMOUNT_GO (R76), BAY_DROOP_WRITE (R78),
YRD_DROOP_WRITE (R117), YRD_VID_WRITE (R73), YRD_LOOP_WRITE (R89), SAMPLING_INSTANT (R83), ERROR_QUEUED (R93),
LAW_JOB_DISPATCH (R81), LAW_JOB_COMPLETE (R86), KEEL_HANDOVER (R94), KEEL_MISS (R95). Rests on
spec/03_bays_and_yards.md, spec/04_tiller_control_engine.md, spec/05_sharing_shedding_transients.md,
spec/08_supervision_and_farrier.md. -/
def Obligations.BaysAndTheTillerComplete : Prop :=
  (∀ y (s : State),
      y < Config.yardCount →
      (s.yard y).belowMin = .waiting →
      (s.dom y).step ≠ .stable →
      (s.dom y).order = none →
      ∃ t, exec (.holdReqTimeout y) s = .next t ∧
        (t.yard y).belowMin = .poweringDown ∧
        (t.yard y).fenceRun = (s.runBays y).length) ∧
  (∀ y (s : State),
      ∃ t, exec (.tripHoldEnd y) s = .next t ∧
        (t.yard y).tripHold = false ∧
        (t.yard y).warmBlocked = false) ∧
  (∀ b ph (s : State),
      Config.bayFitted b = true →
      s.phSt (b, ph) = 4 →
      ((s.bay b).ph ph).tripsOut = false →
      ∃ t, exec (.autoClearTrip b ph) s = .next t ∧
        t.sent = s.sent ++ [⟨b / 80, phaseWord (b % 80) ph (!ph) 3, false⟩]) ∧
  (∀ y (s : State),
      y < Config.yardCount →
      s.domState y ≤ 2 →
      s.runBays y ≠ [] →
      ∃ t, exec (.phaseCountDecision y) s = .next t ∧
        t.get (YRD_SHARE_STAT.PER_PHASE y) = min 255 (max 0 (perPhase (s.shareCurrent y) ((s.actPhases y).length + (s.prepPhases y).length))).toNat ∧
        t.get (YRD_SHARE_STAT.WANT y) ≤ (s.availPhases y).length) ∧
  (∀ b lane (s : State),
      b < Config.bayCount →
      s.shareReady b = true →
      s.shareTurn b = true →
      s.get (BAY_STATE.YARD b) < Config.yardCount →
      ∃ t, exec (.sharingJob b lane true) s = .next t ∧
        (t.bay b).p0.delta = s.shareDelta (s.get (BAY_STATE.YARD b)) (b, false) ∧
        (t.bay b).p1.delta = s.shareDelta (s.get (BAY_STATE.YARD b)) (b, true)) ∧
  (∀ b (s : State),
      b < Config.bayCount →
      s.shareReady b = true →
      s.shareLimit (b / 80) ≤ s.mono →
      ∃ t, exec (.sharingDeadlineMiss b) s = .next t ∧
        (t.bay b).p0 = (let p := (s.bay b).p0; { p with delta := 0 }) ∧
        (t.bay b).p1 = (let p := (s.bay b).p1; { p with delta := 0 })) ∧
  (∀ y lane (s : State),
      s.supReady y = true →
      s.supTurn y = true →
      ∃ t, exec (.supervisionJob y lane true) s = .next t ∧
        ((t.yard y).pts = (s.yard y).pts.zipIdx.map (fun x => s.superPoint y x.2 x.1)) ∧
        (t.yard y).pSum = (s.yard y).pSum + (s.yard y).vfb * (s.yard y).iy) ∧
  (∀ b (s : State),
      Config.anchorOf b ≠ 0 →
      (s.bay b).compTripped = false →
      s.net (s.bay b).yard = false →
      ∃ t, exec (.droopTrip b) s = .next t ∧
        (t.bay b).compTripped = true ∧
        (t.bay b).events = (s.bay b).events ||| 0x80) ∧
  (∀ b (s : State),
      ∃ t, exec (.droopClear b) s = .next t ∧
        (t.bay b).compTripped = false ∧
        (∀ c, c ≠ b → t.bay c = s.bay c)) ∧
  (∀ b (s : State),
      (s.bay b).allHands = true →
      s.net (s.bay b).yard = false →
      ∃ t, exec (.allHandsEnd b) s = .next t ∧
        (t.bay b).allHands = false ∧
        t.get (BAY_STATE.ALL_HANDS b) = 0) ∧
  (∀ b ph (s : State),
      ((s.bay b).ph ph).st = .shedPrep →
      (s.bay b).holding = false →
      ∃ t, exec (.shedStop b ph) s = .next t ∧
        ((t.bay b).ph ph).st = .warm ∧
        (t.bay b).ph (!ph) = (s.bay b).ph (!ph)) ∧
  (∀ b ph (s : State),
      ((s.bay b).ph ph).st = .warm →
      (s.bay b).holding = false →
      ∃ t, exec (.phaseCold b ph) s = .next t ∧
        ((t.bay b).ph ph).st = .cold ∧
        (t.bay b).ph (!ph) = (s.bay b).ph (!ph)) ∧
  (∀ b ph (s : State),
      (((s.bay b).ph ph).st = .active ∨ ((s.bay b).ph ph).st = .shedPrep) →
      ∃ t, exec (.tripped b ph) s = .next t ∧
        ((t.bay b).ph ph).st = .tripped ∧
        ((t.bay b).ph ph).trips = (s.mono :: ((s.bay b).ph ph).trips).take 3) ∧
  (∀ b (s : State),
      Config.bayFitted b = true →
      ∃ t, exec (.bayOverload b) s = .next t ∧
        (t.bay b).events = (s.bay b).events ||| 8 ∧
        (t.bay b).st = (s.bay b).st) ∧
  (∀ b (s : State),
      (s.bay b).st ≠ .absent →
      (s.bay b).st ≠ .fenced →
      (s.bay b).st ≠ .protect →
      ∃ t, exec (.inputLow b) s = .next t ∧
        (t.bay b).st = .protect ∧
        (t.bay b).prior = (s.bay b).st) ∧
  (∀ b (s : State),
      Config.anchorOf b ≠ 0 →
      (s.bay b).st ≠ .absent →
      (s.bay b).st ≠ .fenced →
      (s.bay b).st ≠ .protect →
      ∃ t, exec (.outputHigh b) s = .next t ∧
        (t.bay b).st = .protect ∧
        (t.bay b).prior = (s.bay b).st) ∧
  (∀ b (s : State),
      (s.bay b).st = .protect →
      (s.bay b).prior ≠ .protect →
      ((s.bay b).prior ≠ .ready ∨ (s.bay b).allHands = true) →
      ∃ t, exec (.protectReturn b) s = .next t ∧
        (t.bay b).st = (s.bay b).prior ∧
        t.get (BAY_STATE.STATE b) = (s.bay b).prior.code) ∧
  (∀ b ph kind (s : State),
      (s.bay b).st ≠ .absent →
      ((s.bay b).ph ph).st ≠ .failed →
      (kind ≠ .implausible ∨ (s.bay b).st ≠ .heat) →
      ∃ t, exec (.phaseFailed b ph kind) s = .next t ∧
        ((t.bay b).ph ph).st = .failed ∧
        (t.bay b).failKind = failCode kind) ∧
  (∀ q b (s : State),
      b < Config.bayCount →
      s.Takes q ((BAY_CTRL.reg b).addr) →
      s.RecordSound ((BAY_CTRL.reg b).addr) →
      ∃ t, exec (.bayCtrlFence q b) s = .next t ∧
        t.sent = s.sent ++ [⟨b / 80, bayStateWord (b % 80) 4, false⟩]) ∧
  (∀ q b (s : State),
      b < Config.bayCount →
      s.Takes q ((BAY_CTRL.reg b).addr) →
      s.RecordSound ((BAY_CTRL.reg b).addr) →
      ∃ t, exec (.bayCtrlRelease q b) s = .next t ∧
        t.sent = s.sent ++ [⟨b / 80, bayStateWord (b % 80) 5, false⟩]) ∧
  (∀ q b (s : State),
      b < Config.bayCount →
      s.Takes q ((BAY_CTRL.reg b).addr) →
      s.RecordSound ((BAY_CTRL.reg b).addr) →
      ∃ t, exec (.bayCtrlClearTrip q b) s = .next t ∧
        (t.sent = s.sent ++ (if s.phSt (b, false) = 4 ∨ s.phSt (b, true) = 4 then
          [⟨b / 80, phaseWord (b % 80) (s.phSt (b, true) == 4) (s.phSt (b, false) == 4) 3, false⟩] else []))) ∧
  (∀ q b side y (s : State),
      b < Config.bayCount →
      s.Takes q ((BAY_REMOUNT.reg b).addr) →
      s.RecordSound ((BAY_REMOUNT.reg b).addr) →
      s.unlocked (BAY_REMOUNT.reg b).addr = true →
      remountYard b side = some y →
      (s.bay b).assigned = none →
      s.get (BAY_STATE.STATE b) = 1 →
      s.joinable y = true →
      ∃ t, exec (.bayRemountGo q b true side) s = .next t ∧
        t.sent = s.sent ++ [⟨b / 80, remountWord (b % 80) side true, false⟩] ∧
        (t.bay b).assigned = some y) ∧
  (∀ q b th (s : State),
      b < Config.bayCount →
      Config.anchorOf b ≠ 0 →
      8 ≤ th →
      th ≤ 48 →
      s.Takes q ((BAY_DROOP.reg b).addr) →
      s.RecordSound ((BAY_DROOP.reg b).addr) →
      s.unlocked (BAY_DROOP.reg b).addr = true →
      ∃ t, exec (.bayDroopWrite q b th) s = .next t ∧
        t.get (BAY_DROOP.TH b) = th ∧
        t.sent = s.sent ++ [⟨b / 80, cfgWrWord (b % 80) 3 th, false⟩]) ∧
  (∀ q y th (s : State),
      y < Config.yardCount →
      8 ≤ th →
      th ≤ 48 →
      s.Takes q ((YRD_DROOP.reg y).addr) →
      s.RecordSound ((YRD_DROOP.reg y).addr) →
      ∃ t, exec (.yrdDroopWrite q y th) s = .next t ∧
        t.get (YRD_DROOP.TH y) = th ∧
        (∀ p < 4, t.get (BAY_DROOP.TH (Config.anchorBay y p)) = th)) ∧
  (∀ q y code (s : State),
      y < Config.yardCount →
      40 ≤ code →
      code ≤ 520 →
      s.inMaint y = false →
      (Config.isLogic y = false ∨ 2 ≤ s.domState y) →
      s.Takes q ((YRD_VID.reg y).addr) →
      s.RecordSound ((YRD_VID.reg y).addr) →
      ∃ t, exec (.yrdVidWrite q y code) s = .next t ∧
        t.get (YRD_VID.TARGET y) = code ∧
        (t.sent = s.sent ++ (if t.videff y = s.videff y ∨ s.setFrozen y ∨ s.setLow y ∨ s.withheld y (t.videff y) then [] else
          (s.segsOf y).map fun g => ⟨g, setpointWord y (t.videff y) (t.slewCode y), false⟩))) ∧
  (∀ q y (data : Word) (s : State),
      y < Config.yardCount →
      data.field 4 2 ≤ 2 →
      s.on (CTL.VALID y (data.field 0 3)) = true →
      s.inMaint y = false →
      s.unlocked (YRD_LOOP.reg y).addr = true →
      (s.judgeWord q [((YRD_LOOP.reg y).addr, data)] (YRD_LOOP.reg y).addr).2 = false →
      s.Takes q ((YRD_LOOP.reg y).addr) →
      s.RecordSound ((YRD_LOOP.reg y).addr) →
      ∃ t, exec (.yrdLoopWrite q y data) s = .next t ∧
        t.get (YRD_LOOP.SET y) = data.field 0 3 ∧
        t.get (YRD_LOOP.MODE y) = data.field 3 1) ∧
  (∀ y (s : State),
      s.hasJobs y = true →
      s.fbPoints y ≠ [] →
      (s.yard y).pts.all (fun p => !s.outside p.r) = true →
      (s.yard y).crossings.length + 1 < s.get FAR_OSC.COUNT →
      s.on (YRD_STATUS.ALL_HANDS y) = false →
      (s.yard y).supOrder = none →
      (s.yard y).noFb = false →
      (s.yard y).hSoft = false →
      s.on (Fld.bit SXT_MAINT.YARD y) = false →
      (s.yard y).maintHold = false →
      (s.dom y).step ≠ .regulator →
      (s.yard y).held = [] →
      (s.yard y).vfWait = none →
      s.strBusy (y / 4 / 2 * 2) 0 = false →
      -2048 ≤ s.lastTrim y →
      s.lastTrim y < 2048 →
      ∃ t, exec (.samplingInstant y) s = .next t ∧
        t.get (YRD_LOOP_NOW.SET_NOW y) = s.setDue y ∧
        t.get (YRD_LOOP_NOW.PERIOD_NOW y) = s.periodDue y) ∧
  (∀ y (s : State),
      s.hasJobs y = true →
      s.fbPoints y ≠ [] →
      (s.yard y).plan = .law →
      ((s.yard y).queued = none ∨ s.classNow y = 0) →
      ∃ t, exec (.errorQueued y) s = .next t ∧
        t.getI (YRD_OUT.ERR y) = satSigned 16 ((s.yard y).vset - (s.deliverPoints y).feedback y) ∧
        (t.yard y).queued = some (.law (satSigned 16 ((s.yard y).vset - (s.deliverPoints y).feedback y)))) ∧
  (∀ lane wait y (s : State),
      lane < Config.lanes →
      tb (s.get TIL_LANES.RETIRED) lane = false →
      s.nextJob = some y →
      ∃ t, exec (.lawJobDispatch lane wait) s = .next t ∧
        (t.yard y).queued = (s.yard y).next.map (·.1) ∧
        (t.yard y).flying = (s.yard y).queued) ∧
  (∀ y e (s : State),
      (s.yard y).flying = some (.law e) →
      s.classNow y = 0 →
      s.get (YRD_STATUS.ALL_HANDS y) = 0 →
      ∃ t, exec (.lawJobComplete y true false false) s = .next t ∧
        (t.yard y).flying = none ∧
        (t.yard y).s1 = (lawJob (s.coefs y (s.yard y).flySet) e (s.yard y).s1 (s.yard y).s2 (s.yard y).s3).s1) ∧
  (∀ y v due rest (s : State),
      (s.yard y).out = (v, due) :: rest →
      due ≤ s.mono →
      s.get (YRD_STATUS.ALL_HANDS y) = 0 →
      ∃ t, exec (.keelHandover y) s = .next t ∧
        (t.yard y).out = rest ∧
        t.get (YRD_OUT.TRIM y) = unsigned 12 v) ∧
  (∀ y j (s : State),
      (s.yard y).queued = some j →
      s.classNow y = 1 →
      (s.yard y).late = false →
      s.jobDeadline y ≤ s.mono →
      ∃ t, exec (.keelMiss y) s = .next t ∧
        ((t.yard y).queued = some (match j with | .hold h true => .hold h true | _ => .hold none false)) ∧
        (t.yard y).late = true)

/-- For every state and operands that meet the conditions of its clause, which are conditions on the state and the
operands alone, each of these commands completes: exec answers a next state, and what the clause, by the rule beside
the name, says the command itself changes holds there. CONVERSION_DONE (R166), WINDOW_CONFIG_WRITE (R172),
SCAN_WEIGHT_WRITE (R162), ESTIMATOR_TURN_END (R168), TEMP_SUBSTITUTION (R171), SXT_URG_GO (R164), URGENT_START (R164),
URGENT_DONE (R164), URGENT_TIMEOUT (R165), STREAM_GO (R174), STREAM_STOP (R176), STREAM_BURST_WRITTEN (R175),
STREAM_TRIGGER (R183), SXT_MAINT_WRITE (R184), SXT_CAL_ZERO (R185), SXT_CAL_FULL_SCALE (R186), SXT_CAL_ABORT (R186),
SYSCAL_CHANNEL_DONE (R186), SYSCAL_RECORD_WRITTEN (R188), SYSCAL_TIMEOUT (R186), FAR_SUSCLR_GO (R197), ZPATH_WINDOW
(R200), FAR_PLAN_PERIODIC (R208), FAR_CTRL_GO (R208), FAR_PLAN_COMPUTED (R209), FAR_RECORD_COMMIT (R210), LOSS_PROBE
(R204), PWS_REQ_GO (R230), DOMAIN_WAKE_PIN (R233), WAKE_DRIVER_BIAS (R223), WAKE_BIAS_SETTLE (R223), SLEW_END (R227),
DOMAIN_READY_INPUT (R223), PWS_WAKE_TIMEOUT (R224), PWS_ISO_TIMEOUT (R224), PWS_SAVE_TIMEOUT (R224), PWS_RDY_LOST
(R232). Rests on spec/07_sextant_sensing.md, spec/08_supervision_and_farrier.md, spec/09_domains_and_power_states.md. -/
def Obligations.SensingFarrierAndDomainsComplete : Prop :=
  (∀ cl slice ch (code : BitVec 10) loop (s : State),
      cl < 24 →
      ch < 16 →
      tb (s.get (SXT_STATUS.IN_SERVICE cl)) slice = true →
      s.converting cl slice = some (ch, loop) →
      s.calConnected cl ch = false →
      s.get (SXT_CH_WCFG.EN cl ch) = 0 →
      ∃ t, exec (.conversionDone cl slice ch code loop) s = .next t ∧
        t.getI (SXT_VAL.VALUE cl ch) = s.sxtV cl ch (s.sxtU cl slice code.toNat) ∧
        t.get (SXT_VAL.SEQ cl ch) = (s.get (SXT_VAL.SEQ cl ch) + 1) % 256) ∧
  (∀ q cl ch (data : Word) (s : State),
      cl < Config.clusterCount →
      ch < 36 →
      s.Takes q ((SXT_CH_WCFG.reg cl ch).addr) →
      s.unlocked (SXT_CH_WCFG.reg cl ch).addr = true →
      ∃ t, exec (.windowConfigWrite q cl ch true data) s = .next t ∧
        t.get (SXT_CH_WCFG.HYST cl ch) = data.field 0 8 ∧
        t.get (SXT_CH_WCFG.PERSIST cl ch) = data.field 8 4) ∧
  (∀ q cl ch w (s : State),
      cl < Config.clusterCount →
      ch < 36 →
      w < 256 →
      s.Takes q ((SXT_CH_SCAN.reg cl ch).addr) →
      s.unlocked (SXT_CH_SCAN.reg cl ch).addr = true →
      ∃ t, exec (.scanWeightWrite q cl ch w) s = .next t ∧
        (t.get (SXT_CH_SCAN.WEIGHT cl ch) = (if 32 ≤ ch then max 4 w else w)) ∧
        (t.cluster cl).credit = List.replicate 36 0) ∧
  (∀ cl slice gnd ref (skew : Int) (s : State),
      cl < Config.clusterCount →
      slice < 5 →
      tb (s.get (SXT_STATUS.IN_SERVICE cl)) slice = true →
      s.get (SXT_STATUS.INLINE cl) = 0 →
      s.get (SXT_STATUS.CAPTURE cl) = 0 →
      s.get (SXT_STATUS.OUT cl) = slice →
      s.turnReady cl slice = true →
      s.estFrozen cl = false →
      (s.cluster cl).refTurn = false →
      -2047 ≤ gnd.sum / 2048 →
      gnd.sum / 2048 ≤ 2047 →
      gnd.sum / 2048 ≠ ref.sum / 2048 →
      12288 ≤ (s.refTarget cl + (ref.sum / 2048 - gnd.sum / 2048) / 2) / (ref.sum / 2048 - gnd.sum / 2048) →
      (s.refTarget cl + (ref.sum / 2048 - gnd.sum / 2048) / 2) / (ref.sum / 2048 - gnd.sum / 2048) ≤ 20480 →
      ∃ t, exec (.estimatorTurnEnd cl slice gnd ref skew) s = .next t ∧
        t.get (SXT_SL_OFS.OFS cl slice) = unsigned 12 (approach (s.getI (SXT_SL_OFS.OFS cl slice)) (gnd.sum / 2048)) ∧
        t.get (SXT_SL_GAIN.GAIN cl slice) = unsigned 16 (approach (s.get (SXT_SL_GAIN.GAIN cl slice))
          ((s.refTarget cl + (ref.sum / 2048 - gnd.sum / 2048) / 2) / (ref.sum / 2048 - gnd.sum / 2048)))) ∧
  (∀ cl since (s : State),
      cl < Config.clusterCount →
      s.get (SXT_STATUS.TEMP_SUB cl) = 0 →
      (s.cluster cl).tOff = some since →
      since + ns 1000000 ≤ s.mono →
      ∃ t, exec (.tempSubstitution cl) s = .next t ∧
        t.get (SXT_STATUS.TEMP_SUB cl) = 1 ∧
        t.getI (SXT_TEMP.T cl) = s.sensor (s.get (SXT_COMP_CFG.TSENS cl))) ∧
  (∀ q cl ch (s : State),
      cl < Config.clusterCount →
      ch < 64 →
      s.Takes q ((SXT_URG.reg cl).addr) →
      (s.cluster cl).urg = .none →
      Config.chKind cl ch ≠ .absent →
      s.get (SXT_STATUS.CAPTURE cl) = 0 →
      s.onPll = true →
      (s.active = false ∨ confKind cl ch = false) →
      ∃ t, exec (.sxtUrgGo q cl ch) s = .next t ∧
        (t.cluster cl).urg = .waiting ch s.mono ∧
        t.get (SXT_URG.CHANNEL cl) = ch) ∧
  (∀ cl slice wait restart ch at_ (s : State),
      cl < Config.clusterCount →
      (s.cluster cl).urg = .waiting ch at_ →
      s.urgentSlice cl = some slice →
      wait = (s.mono - at_) / 5 →
      restart = s.urgentRestarts cl slice →
      ∃ t, exec (.urgentStart cl slice wait restart) s = .next t ∧
        (t.cluster cl).urg = .running ch slice wait s.sysTime ∧
        t.get (SXT_CNT_URGENT.COUNT cl) = min (s.get (SXT_CNT_URGENT.COUNT cl) + 1) 0xFFFFFFFF) ∧
  (∀ cl (code : BitVec 10) ch slice wait at_ (s : State),
      cl < 24 →
      ch < 16 →
      slice < 8 →
      (s.cluster cl).urg = .running ch slice wait at_ →
      s.calConnected cl ch = false →
      s.get (SXT_CH_WCFG.EN cl ch) = 0 →
      ∃ t, exec (.urgentDone cl code) s = .next t ∧
        (t.cluster cl).urg = .none ∧
        t.get (SXT_URG_RES.RESULT cl) = 1) ∧
  (∀ cl ch at_ (s : State),
      cl < Config.clusterCount →
      (s.cluster cl).urg = .waiting ch at_ →
      at_ + ns 1000 ≤ s.mono →
      ∃ t, exec (.urgentTimeout cl) s = .next t ∧
        (t.cluster cl).urg = .none ∧
        t.get (SXT_URG_RES.RESULT cl) = 2) ∧
  (∀ q cl m (ctrl : Word) (s : State),
      cl < Config.clusterCount →
      m < 2 →
      s.Takes q ((SXT_STR_CTRL.reg cl m).addr) →
      s.strBusy cl m = false →
      ctrl.field 1 1 = 0 →
      ctrl.field 2 1 = 0 →
      ctrl.field 3 2 = 0 →
      Config.chKind cl (ctrl.field 8 6) ≠ .absent →
      s.active = false →
      12 ≤ s.get (SXT_STR_SIZE.LOG2 cl m) →
      s.get (SXT_STR_SIZE.LOG2 cl m) ≤ 18 →
      s.get64 (SXT_STR_BASE_LO.BASE cl m) % 2 ^ s.get (SXT_STR_SIZE.LOG2 cl m) = 0 →
      s.get64 (SXT_STR_BASE_LO.BASE cl m) + 2 ^ s.get (SXT_STR_SIZE.LOG2 cl m) ≤ 262144 →
      s.get64 SXT_CAPRAM_RETIRE_LO.PAGE = 0 →
      s.get (SXT_STR_COUNT.COUNT cl m) ≤ 2 ^ 24 →
      ∃ t, exec (.streamGo q cl m ctrl) s = .next t ∧
        t.get (SXT_STR_STAT.STATE cl m) = 2 ∧
        (t.cluster cl).str m = { trigAt := some 0, goAt := s.mono, edgeAt := s.mono }) ∧
  (∀ q cl m (codes : List (BitVec 10)) e (s : State),
      cl < Config.clusterCount →
      m < 2 →
      s.Takes q ((SXT_STR_CTRL.reg cl m).addr) →
      s.strBusy cl m = true →
      1 ≤ s.get (SXT_STR_SIZE.LOG2 cl m) →
      ((s.gatherFrom cl m codes).strComplete cl m = false ∨ (s.gatherFrom cl m codes).lastNow cl m = false) →
      ((s.gatherFrom cl m codes).cluster cl).str m = e →
      ∃ t, exec (.streamStop q cl m codes) s = .next t ∧
        t.get (SXT_STR_STAT.STATE cl m) = 4 ∧
        ((t.cluster cl).str m).tag = none) ∧
  (∀ cl m e (codes : List (BitVec 10)) err (s : State),
      cl < Config.clusterCount →
      m < 2 →
      s.get (SXT_STR_STAT.STATE cl m) = 2 →
      s.get (SXT_STR_CTRL.SRC cl m) = 0 →
      s.get (SXT_STR_COUNT.COUNT cl m) = 0 →
      ((s.gather cl m).cluster cl).str m = e →
      32 ≤ e.gathered.length →
      s.get (SXT_STR_CTRL.DEST cl m) = 0 →
      ∃ t, exec (.streamBurstWritten cl m codes err) s = .next t ∧
        ((t.cluster cl).str m).written = e.written + 32 ∧
        ((t.cluster cl).str m).gathered = e.gathered.drop 32) ∧
  (∀ cl sample (s : State),
      cl < Config.clusterCount →
      s.get (SXT_STR_STAT.STATE cl 0) = 1 →
      s.get (SXT_STR_CTRL.TRIG cl 0) ≠ 1 →
      (s.cluster cl).ss0.seen = some sample →
      ∃ t, exec (.streamTrigger cl sample) s = .next t ∧
        t.get (SXT_STR_STAT.STATE cl 0) = 2 ∧
        t.get (SXT_STR_STAT.TRIGGERED cl 0) = 1) ∧
  (∀ q j (data : Word) k y (s : State),
      j < 3 →
      y = 32 * j + k →
      y < Config.yardCount →
      s.Takes q ((SXT_MAINT.YARD j).addr) →
      changed (s.word (SXT_MAINT.YARD j).addr) data = [k] →
      tb data.toNat k = true →
      3 ≤ s.domState y →
      s.domStable y = true →
      (s.yard y).maintHold = false →
      ∃ t, exec (.sxtMaintWrite q j data) s = .next t ∧
        t.get (SXT_MAINT.YARD j) = data.toNat ∧
        (t.yard y).maintHold = true) ∧
  (∀ q cl (s : State),
      cl < Config.clusterCount →
      s.Takes q ((SXT_CAL.reg cl).addr) →
      s.calAllowed cl = true →
      ∃ t, exec (.sxtCalZero q cl) s = .next t ∧
        t.get (SXT_CAL.STATE cl) = 1 ∧
        t.get (SXT_CAL.RESULT cl) = 0) ∧
  (∀ q cl (s : State),
      cl < Config.clusterCount →
      s.Takes q ((SXT_CAL.reg cl).addr) →
      s.get (SXT_CAL.STATE cl) = 2 →
      ∃ t, exec (.sxtCalFullScale q cl) s = .next t ∧
        t.get (SXT_CAL.STATE cl) = 3 ∧
        (t.cluster cl).calCh = (externalChannels cl).headD 0) ∧
  (∀ q cl (s : State),
      cl < Config.clusterCount →
      s.Takes q ((SXT_CAL.reg cl).addr) →
      1 ≤ s.get (SXT_CAL.STATE cl) →
      s.get (SXT_CAL.STATE cl) ≤ 3 →
      (s.cluster cl).calTag = none →
      ∃ t, exec (.sxtCalAbort q cl) s = .next t ∧
        t.get (SXT_CAL.STATE cl) = 0 ∧
        t.get (SXT_CAL.RESULT cl) = 4) ∧
  (∀ cl (mean : Int) ch (s : State),
      cl < Config.clusterCount →
      s.get (SXT_CAL.STATE cl) = 1 →
      (externalChannels cl).find? (fun c => decide ((s.cluster cl).calCh < c)) = some ch →
      ∃ t, exec (.syscalChannelDone cl mean) s = .next t ∧
        (t.cluster cl).calU0 = (s.cluster cl).calU0 ++ [mean] ∧
        (t.cluster cl).calCh = ch) ∧
  (∀ cl (s : State),
      cl < Config.clusterCount →
      s.get (SXT_CAL.STATE cl) = 4 →
      (s.cluster cl).calTag = none →
      ∃ t, exec (.syscalRecordWritten cl) s = .next t ∧
        t.get (SXT_CAL.STATE cl) = 0 ∧
        (t.get (SXT_CAL.RESULT cl) = 1 ∨ t.get (SXT_CAL.RESULT cl) = 2)) ∧
  (∀ cl (s : State),
      cl < Config.clusterCount →
      s.get (SXT_CAL.STATE cl) = 2 →
      (s.cluster cl).calTag = none →
      ∃ t, exec (.syscalTimeout cl) s = .next t ∧
        t.get (SXT_CAL.STATE cl) = 0 ∧
        t.get (SXT_CAL.RESULT cl) = 4) ∧
  (∀ q y (points : BitVec 4) (s : State),
      y < Config.yardCount →
      s.Takes q (FAR_SUSCLR.reg.addr) →
      ((List.range 4).filter (tb points.toNat)).all (fun p => (s.clearSuspect y p).2) = true →
      ∃ t, exec (.farSusclrGo q y points) s = .next t ∧
        (∀ p < 4, tb (t.get (YRD_FB.SUSPECT y)) p = (tb (s.get (YRD_FB.SUSPECT y)) p && !tb points.toNat p))) ∧
  (∀ y p (pt : Point) (zw : Int) (s : State),
      y < Config.yardCount →
      p < 4 →
      s.get (YRD_FB.SUSPECT y) = 15 - 2 ^ p →
      pt = (s.yard y).pts.getD p {} →
      s.windowOk y (s.sensor (s.get (SXT_COMP_CFG.TSENS (y / 4)))) pt = true →
      pt.seen = false →
      pt.spread ≠ 0 →
      zw = roundDiv (65536 * ((pt.n : Int) * pt.sdi - pt.sd * pt.si)) pt.spread →
      0 ≤ zw →
      zw < 65536 →
      ∃ t, exec (.zpathWindow y) s = .next t ∧
        t.get (FAR_ZP.ZP y p) = zw.toNat ∧
        t.get FAR_CNT_ZPWIN.COUNT = min (s.get FAR_CNT_ZPWIN.COUNT + 1) 0xFFFFFFFF) ∧
  (∀ (s : State),
      s.on FAR_CTRL.AUTO = true →
      s.inWayOn = true →
      s.far = .idle →
      s.get FAR_STATUS.STATE = 0 →
      s.planPostponed = false →
      ∃ t, exec (.farPlanPeriodic) s = .next t ∧
        t.far = .planning ∧
        t.get FAR_STATUS.STATE = 2) ∧
  (∀ q (s : State),
      s.Takes q (FAR_CTRL.reg.addr) →
      s.inWayOn = true →
      s.far = .idle →
      s.get FAR_STATUS.STATE = 0 →
      s.planPostponed = false →
      ∃ t, exec (.farCtrlGo q) s = .next t ∧
        t.far = .planning ∧
        t.get FAR_STATUS.STATE = 2) ∧
  (∀ (s : State),
      s.far = .planning →
      s.inWayOn = true →
      s.courseHeld = false →
      ∃ t, exec (.farPlanComputed) s = .next t ∧
        t.far = .writing ∧
        t.get FAR_STATUS.STATE = 3) ∧
  (∀ (s : State),
      s.far = .idle →
      s.farDirty = true →
      ∃ t, exec (.farRecordCommit true) s = .next t ∧
        t.farSeq = s.farSeq + 1 ∧
        t.farRecord = true) ∧
  (∀ b mw (s : State),
      s.probeAllowed b = true →
      ∃ t, exec (.lossProbe b mw) s = .next t ∧
        (t.bay b).lossMw = some mw) ∧
  (∀ q d st (s : State),
      d < Config.yardCount →
      st < 8 →
      s.Takes q (PWS_REQ.reg.addr) →
      s.orderRefusal d st (orderSrc (clsOf q)) = none →
      (s.dom d).order = none →
      (s.dom d).step ≠ .stable →
      ∃ t, exec (.pwsReqGo q d st) s = .next t ∧
        (t.dom d).order = some ⟨st, orderSrc (clsOf q), s.mono, false, true, none, []⟩ ∧
        t.get (PWS_DOM.TARGET d) = st) ∧
  (∀ d (s : State),
      d < Config.yardCount →
      s.on (Fld.bit PWS_WAKE_EN.DOMAIN d) = true →
      s.domStable d = true →
      s.domState d = 1 →
      s.orderRefusal d 0 .wakePin = none →
      (s.dom d).reg = true →
      (s.dom d).oscEn = true →
      (s.dom d).memEn = true →
      (s.dom d).rstN = true →
      (s.dom d).ret = false →
      s.on (PWS_DOM.ISO d) = true →
      (s.dom d).isoAck = true →
      ∃ t, exec (.domainWakePin d true) s = .next t ∧
        (t.dom d).wakePin = true ∧
        (t.dom d).order = some ⟨0, .wakePin, s.mono, false, false, none, []⟩) ∧
  (∀ d (s : State),
      (s.dom d).step = .bias →
      s.goesUp d = true →
      ∃ t, exec (.wakeDriverBias d) s = .next t ∧
        (t.dom d).step = .ramp ∧
        (t.dom d).volt = .full) ∧
  (∀ d (s : State),
      (s.dom d).step = .biasSettle →
      s.goesUp d = true →
      ∃ t, exec (.wakeBiasSettle d) s = .next t ∧
        (t.dom d).step = .ramp ∧
        (t.dom d).volt = .full) ∧
  (∀ y b (s : State),
      y < Config.yardCount →
      b ∈ reach y →
      (s.bay b).yard = y →
      (s.bay b).followsSet = true →
      (s.bay b).holding = false →
      (s.bay b).allHands = false →
      s.bayCode b = ((s.bay b).target : Int) →
      (s.dom y).step ≠ .ramp →
      (s.dom y).step ≠ .dnRamp →
      ∃ t, exec (.slewEnd y) s = .next t ∧
        t.get (BAY_REF.VID_NOW b) = (s.bay b).target % 1024 ∧
        (t.bay b).softStart = false) ∧
  (∀ d sig level (s : State),
      d < Config.yardCount →
      (s.modDom d fun m => m.signal sig level).stepDone d = false →
      ∃ t, exec (.domainReadyInput d sig level) s = .next t ∧
        t.dom d = (s.dom d).signal sig level ∧
        (∀ e, e ≠ d → t.dom e = s.dom e)) ∧
  (∀ d o (s : State),
      d < Config.yardCount →
      (s.dom d).step.waitsUp = true →
      (s.dom d).forced = false →
      (s.dom d).order = some o →
      ∃ t, exec (.pwsWakeTimeout d) s = .next t ∧
        t.get (Fld.bit FLT_ACT.CODE 0x25) = 1 ∧
        t.get PWS_CNT_FAIL.COUNT = min (s.get PWS_CNT_FAIL.COUNT + 1) 0xFFFFFFFF) ∧
  (∀ d o (s : State),
      d < Config.yardCount →
      (s.dom d).step = .dnIso →
      (s.dom d).forced = false →
      (s.dom d).order = some o →
      ∃ t, exec (.pwsIsoTimeout d) s = .next t ∧
        t.get (Fld.bit FLT_ACT.CODE 0x26) = 1 ∧
        t.get PWS_CNT_FAIL.COUNT = min (s.get PWS_CNT_FAIL.COUNT + 1) 0xFFFFFFFF) ∧
  (∀ d o (s : State),
      d < Config.yardCount →
      (s.dom d).step.waitsSave = true →
      (s.dom d).forced = false →
      (s.dom d).order = some o →
      ∃ t, exec (.pwsSaveTimeout d) s = .next t ∧
        t.get (Fld.bit FLT_ACT.CODE 0x27) = 1 ∧
        t.get PWS_CNT_FAIL.COUNT = min (s.get PWS_CNT_FAIL.COUNT + 1) 0xFFFFFFFF) ∧
  (∀ d sig (s : State),
      d < Config.yardCount →
      s.domState d ≤ 1 →
      s.atRest d = true →
      ((sig = .oscRdy ∧ (s.dom d).oscRdy = false ∨ sig = .memRdy ∧ (s.dom d).memRdy = false ∨ sig = .logicRdy ∧ (s.dom d).logicRdy = false
        ∨ sig = .isoAck ∧ (s.dom d).isoAck = true ∧ s.domState d = 0)) →
      ∃ t, exec (.pwsRdyLost d sig) s = .next t ∧
        t.get (Fld.bit FLT_ACT.CODE 0x28) = 1 ∧
        t.get PWS_CNT_RDYLOST.COUNT = min (s.get PWS_CNT_RDYLOST.COUNT + 1) 0xFFFFFFFF)

/-- For every state and operands that meet the conditions of its clause, which are conditions on the state and the
operands alone, each of these commands completes: exec answers a next state, and what the clause, by the rule beside
the name, says the command itself changes holds there. CAP_LOOP_BOUNDARY (R247), CURRENT_LAYER_EVAL (R244),
CAP_JOB_BEGIN (R261), CAP_JOB_END (R261), JOB_RECORD (R262), ATTRIBUTION_INTERVAL_CLOSE (R259), ATTRIBUTION_RUN
(R258), SETTLEMENT (R260), THERMAL_SCAN (R269), COMPENSATION_UPDATE (R277), THM_PROOF_GO (R282), SENSOR_PROOF_AUTO
(R282), SENSOR_PROOF_END (R282), THM_PRECOND_GO (R280), THM_PRECOND_STOP (R280), WARMING_LEVEL_STEP (R280), THM_COLD
(R281), STG_RAIL_ON_SET (R295), STG_RAIL_ON_CLEAR (R296), RAIL_DELAY_END (R295), RAIL_RAMP_END (R295), STG_VOUT_WRITE
(R293), PG_SET (R294), STG_PG_LOST (R294), BAL_UPDATE (R291), SHORT_CIRCUIT_TRIP (R298), BRAKE_ENTER (R299),
BRAKE_EXIT (R299), OVERLOAD_EVAL (R300), HICCUP (R300), HICCUP_RESTART (R300), STG_FLT (R303), STG_FLT_STUCK (R303),
STG_PHCLR_WRITE (R298), STG_IBUS (R304), STG_IBUS_UV (R304), IBUS_RECOVERY (R304), PMBUS_SCAN (R307), PMB_SCAN_GO
(R307), PMBUS_POLL (R308), PMB_ALERT (R308), PMB_RAW_GO (R309), PMB_RAW_DONE (R309). Rests on
spec/10_modes_caps_and_energy.md, spec/11_thermal_and_warming.md, spec/12_board_stages.md. -/
def Obligations.CapsWarmingAndStagesComplete : Prop :=
  (∀ p (s : State),
      s.inWayOn = true →
      s.courseHeld = false →
      s.cap.defer = none →
      s.get CAP_MODE.MODE = s.get CAP_STATUS.MODE_NOW →
      p = ((List.range Config.yardCount).map s.yardMw).sum + ((List.range Config.yardCount).map s.yardHeat).sum →
      ∃ t, exec (.capLoopBoundary false) s = .next t ∧
        t.cap.oppOld = [] ∧
        t.cap.history = (p :: s.cap.history).take 100) ∧
  (∀ (s : State),
      ∃ t, exec (.currentLayerEval) s = .next t ∧
        (∀ y < Config.yardCount, (t.yard y).iyPart = (0, 0) ∧ (t.yard y).iyPeak = 0 ∧ (t.yard y).iyParts = ((s.yard y).iyPart :: (s.yard y).iyParts).take 100 ∧
          (t.yard y).tightened = (decide ((s.get CAP_ILIM.PEAK : Int) * s.limit20 y < 100 * (s.yard y).iyPeak)
            || decide ((s.limit20 y : Int) * (t.yard y).avg.2 < (t.yard y).avg.1)) ∧
          (t.yard y).curSteps = (if (t.yard y).tightened = true ∧ (s.yard y).curSteps < 7 then stepFrom (s.yard y).curSteps (s.yard y).thr else (s.yard y).curSteps)) ∧
        t.get CAP_RAIL_NOW.PKGA = min 65535 (max 0 (s.railIMon 0) / 16).toNat) ∧
  (∀ q c tag (s : State),
      c < 64 →
      tag < 65536 →
      clsOf q = .kern →
      s.Takes q (CAP_JOB.reg.addr) →
      s.openJob c = none →
      s.confidential c = false →
      s.wasActive = s.active →
      ∃ t, exec (.capJobBegin q c tag) s = .next t ∧
        t.jobs = s.jobs ++ [{ id := s.jobNext, ctx := c, tag := tag, begin_ := s.sysTime, noattr := !s.inWayOn, station := s.stationOk, unmet := s.on CAP_STATUS.UNMET }] ∧
        t.jobNext = s.jobNext + 1) ∧
  (∀ q c tag j (s : State),
      c < 64 →
      tag < 65536 →
      clsOf q = .kern →
      s.Takes q (CAP_JOB.reg.addr) →
      s.openJob c = some j →
      s.confidential c = false →
      s.wasActive = s.active →
      ∃ t, exec (.capJobEnd q c tag) s = .next t ∧
        (t.jobs = s.refreshStation.jobs.map (fun k => if k.id = j.id then { k with isOpen := false, tag := tag, end_ := s.sysTime, conf := false } else k)) ∧
        t.get CAP_JOB_RES.CONTEXT = c) ∧
  (∀ j r (s : State),
      s.jobs.find? (fun j => !j.isOpen) = some j →
      j.conf = false →
      (s.stream 1).staged.length < 16 →
      (s.stream 1).lost = 0 →
      r = ⟨tdmRecord 0x0021 (jobFlags j) (jobBody j j.e j.ePriv j.eShared (match s.attrSlot with | some k => s.get (DRE_SLOT_ID.MODEL_ID k) | none => 0) s.recSeq (min 65535 (j.peak / 1000))), some j.ctx, none⟩ →
      stagedBytes ((s.stream 1).staged ++ [r]) ≤ 4096 →
      ∃ t, exec (.jobRecord) s = .next t ∧
        (t.jobs = s.jobs.filter (fun k => k.id != j.id)) ∧
        (t.stream 1).staged = (s.stream 1).staged ++ [r]) ∧
  (∀ y tmp (s : State),
      y < Config.yardCount →
      Config.isPrivate y = true →
      s.inWayOn = true →
      s.yardT y = some tmp →
      (s.yard y).closed.length < 4 →
      (s.yard y).open_.n ≠ 0 →
      ∃ t, exec (.attributionIntervalClose y) s = .next t ∧
        (∀ o us, o = s.ownerByte y → us = (s.mono - (s.yard y).openAt) / ns 1000 →
          (t.yard y).closed = (s.yard y).closed ++ [{ (s.yard y).open_ with owner := o, job := (s.openJob o).map (fun j => j.id), us := us, period := (s.sysTime - 1000 * us) / 1000000, temp := tmp / 16, order := s.closeSeq }]) ∧
        (t.yard y).open_ = {}) ∧
  (∀ k y i (s : State),
      s.dreOn = true →
      s.fly = none →
      s.due = [] →
      s.attrSlot = some k →
      s.oldestClosed = some y →
      (s.yard y).closed.head? = some i →
      ∃ t, exec (.attributionRun) s = .next t ∧
        (t.estimates = s.estimates ++ [⟨y, i.owner, i.job, i.us, i.period,
            (List.range 4).map (fun j => (max 0 ((s.runModel (s.get (DRE_SLOT_STAT.FRAME k)) ((List.range 64).map (i.source y))).1.getD j 0)).toNat * i.us), i.merged⟩]) ∧
        (t.yard y).closed = (s.yard y).closed.tail) ∧
  (∀ p e (s : State),
      1000000 ≤ s.sysTime →
      s.inWayOn = false →
      p = s.sysTime / 1000000 - 1 →
      e = (List.range 2).foldl (fun e r => e + railMicro (takePeriods p (s.rail r).eSum).1 + railMicro (takePeriods p (s.rail r).uSum).1) 0 →
      ∃ t, exec (.settlement) s = .next t ∧
        t.get64 CAP_UNATTR_LO.E = (s.get64 CAP_UNATTR_LO.E + e) % 2 ^ 64 ∧
        (∀ r < 2, (t.rail r).eSum = (takePeriods p (s.rail r).eSum).2 ∧ (t.rail r).uSum = (takePeriods p (s.rail r).uSum).2)) ∧
  (∀ temps (s : State),
      (temps.map (·.1)).Nodup →
      temps.all (fun p => decide (p.1 < sensorCount)) = true →
      ∃ t, exec (.thermalScan temps) s = .next t ∧
        (∀ p ∈ temps, t.sensor p.1 = satTemp p.2.toInt) ∧
        (∀ k < sensorCount, k ∉ temps.map (·.1) → t.sensor k = s.sensor k)) ∧
  (∀ diode (s : State),
      -640 ≤ diode →
      diode ≤ 2000 →
      ∃ t, exec (.compensationUpdate diode) s = .next t ∧
        t.oscTrim = (let j := min 14 ((diode + 640) / 176).toNat; s.oscEntry j * (176 - (diode + 640 - 176 * j)) + s.oscEntry (j + 1) * (diode + 640 - 176 * j)) ∧
        (∀ n, n = 24 ∨ n = 25 → Tab.get (fun _ => scUnity) t.scScale n = 2 ^ 20 * 176 + s.comp176 n (s.sxtT n) - s.comp176 n (s.getI (SXT_COMP_CFG.TCAL n)))) ∧
  (∀ q y (s : State),
      y < Config.yardCount →
      s.Takes q (THM_PROOF.reg.addr) →
      s.proof = none →
      s.inWayOn = true →
      s.mayHeat y = true →
      ∃ t, exec (.thmProofGo q y) s = .next t ∧
        t.proof = some y ∧
        t.get THM_PROOF_RES.RESULT = 0) ∧
  (∀ y (s : State),
      s.proofDue y = true →
      s.proof = none →
      s.inWayOn = true →
      s.mayHeat y = true →
      ∃ t, exec (.sensorProofAuto y) s = .next t ∧
        t.proof = some y ∧
        t.proved = s.proved.filter (·.1 != y) ++ [(y, s.mono)]) ∧
  (∀ y (s : State),
      y < Config.yardCount →
      s.proof = some y →
      ∃ t, exec (.sensorProofEnd) s = .next t ∧
        t.proof = none ∧
        t.get THM_PROOF_RES.RESULT = 1) ∧
  (∀ q y target (s : State),
      y < Config.yardCount →
      target < 128 →
      s.Takes q (THM_PRECOND.reg.addr) →
      s.precond = none →
      s.on (Fld.bit SXT_MAINT_NOW.YARD y) = true →
      ∃ t, exec (.thmPrecondGo q y target) s = .next t ∧
        t.precond = some y ∧
        t.get THM_PRECOND.RESULT = 3) ∧
  (∀ q y (s : State),
      s.Takes q (THM_PRECOND.reg.addr) →
      s.precond = some y →
      s.get THM_PRECOND.GO = 0 →
      ∃ t, exec (.thmPrecondStop q) s = .next t ∧
        t.precond = none ∧
        t.get THM_PRECOND.RESULT ≠ 3) ∧
  (∀ (s : State),
      s.precond = none →
      s.stationWarms = true →
      ∃ t, exec (.warmingLevelStep) s = .next t ∧
        (∀ y < Config.yardCount, Config.isLogic y = true → (s.yard y).warmUse = 0 ∨ (s.yard y).warmUse = 4 → (t.yard y).warmUse = 4)) ∧
  (∀ d (s : State),
      d < Config.yardCount →
      s.coldStart d = true →
      (s.dom d).wakePin = false →
      ∃ t, exec (.thmCold d) s = .next t ∧
        t.get (Fld.bit FLT_ACT.CODE 0x2B) = 1 ∧
        (t.yard d).warmUse = 0) ∧
  (∀ q r (s : State),
      r < 2 →
      s.Takes q ((STG_RAIL.reg r).addr) →
      clsOf q = .mgmt →
      s.tracking = false →
      s.get (STG_RAIL.STATE r) = 0 →
      s.railPhases r ≠ [] →
      s.on THM_STATUS.TRIP = false →
      ∃ t, exec (.stgRailOnSet q r) s = .next t ∧
        t.get (STG_RAIL.ON r) = 1 ∧
        t.get (STG_RAIL.OFF_PENDING r) = 0) ∧
  (∀ q r (s : State),
      r < 2 →
      s.Takes q ((STG_RAIL.reg r).addr) →
      clsOf q = .mgmt →
      s.tracking = false →
      s.get (STG_RAIL.STATE r) = 3 →
      (List.range Config.yardCount).all (fun d => Config.yardRail d != r || (s.domState d == 4 && s.domStable d)) = true →
      ∃ t, exec (.stgRailOnClear q r) s = .next t ∧
        t.get (STG_RAIL.ON r) = 0 ∧
        t.get (STG_RAIL.OFF_PENDING r) = 0) ∧
  (∀ r (s : State),
      r < 2 →
      s.tracking = false →
      s.get (STG_RAIL.STATE r) = 1 →
      ∃ t, exec (.railDelayEnd r) s = .next t ∧
        t.get (STG_RAIL.STATE r) = 2 ∧
        (t.rail r).vref = s.vsns r) ∧
  (∀ r (s : State),
      r < 2 →
      s.get (STG_RAIL.STATE r) = 2 →
      s.rampMet r = true →
      ∃ t, exec (.railRampEnd r) s = .next t ∧
        t.get (STG_RAIL.STATE r) = 3 ∧
        (t.rail r).vref = s.vrefNow r) ∧
  (∀ q r c (s : State),
      r < 2 →
      s.Takes q ((STG_VOUT.reg r).addr) →
      c < 1024 →
      s.voutOk r c = true →
      ∃ t, exec (.stgVoutWrite q r c) s = .next t ∧
        t.get (STG_VOUT.CODE r) = c ∧
        (t.rail r).vref = s.vrefNow r) ∧
  (∀ r (s : State),
      r < 2 →
      s.get (STG_RAIL.STATE r) = 3 →
      s.vsnsWithin r 3 = true →
      tb (s.get STG_STATUS.PG) r = false →
      ∃ t, exec (.pgSet r) s = .next t ∧
        tb (t.get STG_STATUS.PG) r = true ∧
        tb (t.get STG_STATUS.PG) (1 - r) = tb (s.get STG_STATUS.PG) (1 - r)) ∧
  (∀ r (s : State),
      r < 2 →
      s.get (STG_RAIL.STATE r) = 3 →
      s.vsnsWithin r 8 = false →
      tb (s.get STG_STATUS.PG) r = true →
      ∃ t, exec (.stgPgLost r) s = .next t ∧
        tb (t.get STG_STATUS.PG) r = false ∧
        t.get (Fld.bit FLT_ACT.CODE 0x30) = 1) ∧
  (∀ (s : State),
      s.onPll = true →
      ∃ t, exec (.balUpdate) s = .next t ∧
        (∀ r < 2, ∀ p ∈ s.inService r, ∀ avg : Nat → Int, (∀ k, avg k = if (s.phase k).iCnt = 0 then 0 else roundDiv (s.phase k).iSum (s.phase k).iCnt) →
          ∀ d b : Int, d = avg p - roundDiv ((s.inService r).map avg).sum (max 1 (s.inService r).length) → b = s.getI (STG_PH_TRIM.BAL p) →
            t.getI (STG_PH_TRIM.BAL p) = if 32 < d then max (-32) (b - 1) else if d < -32 then min 32 (b + 1) else b) ∧
        (∀ p < Config.stagePhases, (t.phase p).iSum = 0 ∧ (t.phase p).iCnt = 0)) ∧
  (∀ p (s : State),
      s.present p = true →
      p < 30 →
      (s.phase p).pulse = true →
      (s.phase p).tripped = false →
      (s.phase p).scRun ≠ 7 →
      ∃ t, exec (.shortCircuitTrip p) s = .next t ∧
        (t.phase p).tripped = true ∧
        (t.phase p).scRun = (s.phase p).scRun + 1) ∧
  (∀ r (s : State),
      r < 2 →
      s.brakeArmed r = true →
      (s.rail r).braking = false →
      ∃ t, exec (.brakeEnter r) s = .next t ∧
        t.rail r = { s.rail r with braking := true } ∧
        t.get STG_CNT_BRAKE.COUNT = min (s.get STG_CNT_BRAKE.COUNT + 1) 0xFFFFFFFF) ∧
  (∀ r (s : State),
      r < 2 →
      ∃ t, exec (.brakeExit r) s = .next t ∧
        t.rail r = { s.rail r with braking := false } ∧
        (∀ u, u ≠ r → t.rail u = s.rail u)) ∧
  (∀ p avg (s : State),
      s.present p = true →
      p < 30 →
      (s.phase p).oCnt ≠ 0 →
      avg = roundDiv (s.phase p).oSum (s.phase p).oCnt →
      -32768 ≤ avg →
      avg < 32768 →
      s.ovlTh p < 100 * avg →
      s.on (STG_PH.OVERLOAD p) = false →
      ∃ t, exec (.overloadEval p) s = .next t ∧
        t.getI (STG_PH_AVG.IAVG p) = avg ∧
        t.get (STG_PH.OVERLOAD p) = 1) ∧
  (∀ r u (s : State),
      r < 2 →
      s.tracking = false →
      s.overloaded r = true →
      (s.rail r).ovlSince = some u →
      u + ns 10000000 ≤ s.mono →
      ((s.get (STG_RAIL.STATE r) = 2 ∨ s.get (STG_RAIL.STATE r) = 3 ∨ s.get (STG_RAIL.STATE r) = 4)) →
      s.get (STG_RAIL_STAT.TRIES r) < 3 →
      s.get (STG_RAIL.OFF_PENDING r) = 0 →
      ∃ t, exec (.hiccup r) s = .next t ∧
        t.get (STG_RAIL.STATE r) = 6 ∧
        t.get (STG_RAIL_STAT.TRIES r) = s.get (STG_RAIL_STAT.TRIES r) + 1) ∧
  (∀ r (s : State),
      r < 2 →
      s.tracking = false →
      s.get (STG_RAIL.STATE r) = 6 →
      s.on THM_STATUS.TRIP = false →
      ∃ t, exec (.hiccupRestart r) s = .next t ∧
        t.get (STG_RAIL.STATE r) = 2 ∧
        (t.rail r).vref = s.vsns r) ∧
  (∀ (failed : BitVec 30) (s : State),
      ∃ t, exec (.stgFlt failed) s = .next t ∧
        t.fltAt = some s.mono ∧
        t.pinIsLow 0 t.fltAt = true) ∧
  (∀ (s : State),
      s.fltAt.isSome = true →
      s.fltDeclared = false →
      ∃ t, exec (.stgFltStuck) s = .next t ∧
        t.get (Fld.bit FLT_ACT.CODE 0x38) = 1) ∧
  (∀ q (data : Word) (s : State),
      s.Takes q (STG_PHCLR.reg.addr) →
      data.toNat < 2 ^ 30 →
      ∃ t, exec (.stgPhclrWrite q data) s = .next t ∧
        (∀ p < Config.stagePhases, tb data.toNat p = true → t.get (STG_PH.LATCHED p) = 0 ∧ t.get (STG_PH.FAILED p) = 0 ∧ (t.phase p).scRun = 0) ∧
        (∀ p < Config.stagePhases, tb data.toNat p = false → t.word (STG_PH.reg p).addr = s.word (STG_PH.reg p).addr ∧ t.phase p = s.phase p)) ∧
  (∀ (s : State),
      ((s.ibus < 2160 ∨ 3000 < s.ibus)) →
      ∃ t, exec (.stgIbus) s = .next t ∧
        t.get (Fld.bit FLT_ACT.CODE 0x39) = 1) ∧
  (∀ (s : State),
      s.ibus < 1800 →
      s.ibusLow = false →
      s.get (STG_RAIL.OFF_PENDING 0) = 0 →
      s.get (STG_RAIL.OFF_PENDING 1) = 0 →
      ∃ t, exec (.stgIbusUv) s = .next t ∧
        t.ibusLow = true ∧
        t.get (Fld.bit FLT_ACT.CODE 0x3A) = 1) ∧
  (∀ (s : State),
      2000 < s.ibus →
      s.ibusLow = true →
      s.on THM_STATUS.TRIP = false →
      ∃ t, exec (.ibusRecovery) s = .next t ∧
        t.ibusLow = false ∧
        (∀ r < 2, (s.rail r).wasOn = true → s.on (STG_RAIL.ON r) = true → t.get (STG_RAIL.STATE r) = 2 ∧ (t.rail r).vref = s.vsns r)) ∧
  (∀ found a rev cap (s : State),
      found.find? (fun f => scanned f.1 && f.1 == s.get PMB_CFG.BUSCONV) = some (a, rev, cap) →
      ∃ t, exec (.pmbusScan found) s = .next t ∧
        t.get (PMB_DEV.ADDR 0) = s.get PMB_CFG.BUSCONV ∧
        t.get (PMB_DEV.PRESENT 0) = 1) ∧
  (∀ q (s : State),
      s.Takes q (PMB_SCAN.reg.addr) →
      ∃ t, exec (.pmbScanGo q) s = .next t ∧
        t.pmbScan = true) ∧
  (∀ n r (s : State),
      n < 16 →
      n ≠ 0 →
      s.pmbUsed n = true →
      r.answered = true →
      ∃ t, exec (.pmbusPoll n r) s = .next t ∧
        t.get (PMB_DEV_STAT.STATUS_WORD n) = r.statusWord.toNat ∧
        t.get (PMB_V.VIN n) = sat16 (linear11 1000 r.vin)) ∧
  (∀ a (status : BitVec 16) (s : State),
      a ∉ s.pmbAlerted →
      ∃ t, exec (.pmbAlert a status) s = .next t ∧
        t.alertAt = some s.mono ∧
        t.pinIsLow 1 t.alertAt = true) ∧
  (∀ q word a (c : Byte) (s : State),
      a < 128 →
      s.Takes q (PMB_RAW.reg.addr) →
      s.pmbRaw = none →
      ∃ t, exec (.pmbRawGo q word a c) s = .next t ∧
        t.pmbRaw = some (word, a, c)) ∧
  (∀ data word a (c : Byte) (s : State),
      s.pmbRaw = some (word, a, c) →
      ∃ t, exec (.pmbRawDone .done data) s = .next t ∧
        t.pmbRaw = none ∧
        t.get PMB_RAW_RES.RESULT = 1)

/-- For every state and operands that meet the conditions of its clause, which are conditions on the state and the
operands alone, each of these commands completes: exec answers a next state, and what the clause, by the rule beside
the name, says the command itself changes holds there. NOP (R328), ABORT (R330), SET_VID (R328), SET_LOOP (R328),
REMOUNT (R328), DOMAIN_STATE (R328), MAINT (R328), SET_MODE (R328), SET_CAP (R328), JOB (R328), BUNDLE_LOAD (R328),
CAPTURE (R328), SYSCAL (R328), FAR_PLAN (R328), FAR_RECORD (R331), LOG_FREEZE (R328), CMK_USLOT_WRITE (R323),
TDM_STREAM_GO (R338), TDM_STREAM_STOP (R338), DESCRIPTOR_FETCH_DONE (R340), DESCRIPTOR_POLL (R340), TDM_WRITE_RESPONSE
(R339), DEVICE_SUMMARY (R338), FLT_WIRE (R372), FLT_WIRE_CLEAR (R372), FLT_PEND_ACK (R377), FLT_RESUME (R382),
QUIET_PERIOD_EXPIRY (R382), FLT_INJ_SINGLE (R383), FLT_INJ_DOUBLE (R383), FLT_INJ_RAISE (R383), FLT_INJ_BREAK (R383),
FLT_INJ_PIN_WRITE (R383), LOG_RECORD_PROGRAM (R390), LOG_TIME_SAVE (R391), LOG_TOKEN_REFILL (R393), LOG_CTRL_FREEZE
(R397), LOG_CTRL_RELEASE (R397), LOG_FREEZE_EXPIRY (R397), LOG_RD_GO (R398), LOG_ERASE_RANKED (R398), LOG_ERASE_ALL
(R398), LOG_ERASE_DONE (R398), FLS_READ (R369), FLS_PROGRAM (R369), FLS_ERASE (R369), FLS_VERIFY (R366), FLS_OP_DONE
(R369), SEC_CONF_SET (R404), SEC_CONF_CLEAR (R404), SCRUB (R410), TB_VALID_RETURN (R38), SO_ACK (R39), PHASE_FIRE
(R290), PULSE_END (R290), REGISTER_READ (R423). Rests on spec/02_block_boundary.md, spec/12_board_stages.md,
spec/13_ports_commands_guarantees.md, spec/14_startup_reset_bringup.md, spec/15_faults_and_logbook.md,
spec/16_confidential_operation.md, spec/17_register_map.md. -/
def Obligations.CommandsFaultsFlashAndScrubsComplete : Prop :=
  (∀ (c : Cmd) (s : State),
      s.Commits c →
      s.outcome (s.cmdEntry 0 c) = (stAccepted, 0) →
      ∃ t, exec (.nop c) s = .next t ∧
        t.Shows c stDone 0 ∧
        t.get (acceptCounter c.win) = min (s.get (acceptCounter c.win) + 1) 0xFFFFFFFF) ∧
  (∀ (c : Cmd) e (s : State),
      s.Commits c →
      s.outcome (s.cmdEntry 1 c) = (stAccepted, 0) →
      s.abortTarget (s.cmdEntry 1 c) = some e →
      e.state = .accepted →
      ((e.win ≠ c.win ∨ e.slot ≠ c.slot)) →
      ∃ t, exec (.abort c) s = .next t ∧
        t.Shows c stDone 0 ∧
        ((t.entry ⟨e.win, e.slot, e.seq⟩).map (fun x => (x.state, x.status)) = some (.final, stAborted))) ∧
  (∀ (c : Cmd) y v sl (s : State),
      s.Commits c →
      s.outcome (s.cmdEntry 0x100 c) = (stAccepted, 0) →
      y = c.op0.toNat % 128 →
      v = c.op0.toNat / 2 ^ 16 % 1024 →
      sl = c.op0.toNat / 2 ^ 32 % 16 →
      s.inMaint y = false →
      ((Config.isLogic y = true → 1 < s.domState y)) →
      s.on (YRD_STATUS.ALL_HANDS y) = false →
      (s.yard y).fUnknown = false →
      ∃ t, exec (.setVid c) s = .next t ∧
        t.get (YRD_VID.TARGET y) = v ∧
        t.get (YRD_SLEW.SLEW y) = sl) ∧
  (∀ (c : Cmd) (s : State),
      s.Commits c →
      s.outcome (s.cmdEntry 0x101 c) = (stAccepted, 0) →
      (s.fieldWrite (winReq c.win) (loopFields (s.cmdEntry 0x101 c))).2 = 0 →
      ∃ t, exec (.setLoop c) s = .next t ∧
        (∀ p ∈ loopFields (s.cmdEntry 0x101 c), t.get p.1 = p.2) ∧
        t.Shows c stDone (t.tilStatus.field 16 7)) ∧
  (∀ (c : Cmd) b y (s : State),
      s.Commits c →
      s.outcome (s.cmdEntry 0x102 c) = (stAccepted, 0) →
      b = c.op0.toNat % 2048 →
      c.op0.toNat / 2 ^ 13 % 2 = 1 →
      remountYard b (c.op0.toNat / 2 ^ 12 % 2 == 1) = some y →
      s.get (BAY_STATE.STATE b) = 1 →
      (s.bay b).assigned = none →
      s.unlocked (BAY_REMOUNT.reg b).addr = true →
      ∃ t, exec (.remount c) s = .next t ∧
        t.Runs c ∧
        t.get (BAY_REMOUNT.CONNECT b) = 1) ∧
  (∀ (c : Cmd) d tt src (s : State),
      s.Commits c →
      s.outcome (s.cmdEntry 0x200 c) = (stAccepted, 0) →
      d = c.op0.toNat % 128 →
      tt = c.op0.toNat / 2 ^ 8 % 8 →
      src = (match c.win with | .cmd => OrderSrc.mgmt | .cmk => .kernCmd | .cmu => .user) →
      s.orderRefusal d tt src = none →
      (s.dom d).order = none →
      (s.dom d).step ≠ .stable →
      ∃ t, exec (.domainState c) s = .next t ∧
        t.Runs c ∧
        (t.dom d).order = some ⟨tt, src, s.mono, false, false, some (cmdTagOf c), []⟩) ∧
  (∀ (c : Cmd) y (s : State),
      s.Commits c →
      s.outcome (s.cmdEntry 0x201 c) = (stAccepted, 0) →
      y = c.op0.toNat % 128 →
      c.op0.toNat / 2 ^ 8 % 2 = 1 →
      s.get (Fld.bit SXT_MAINT.YARD y) = 0 →
      s.get (Fld.bit SXT_MAINT_NOW.YARD y) = 0 →
      s.domState y < 3 →
      (s.yard y).maintTags = [] →
      ∃ t, exec (.maint c) s = .next t ∧
        t.Runs c ∧
        t.get (Fld.bit SXT_MAINT.YARD y) = 1) ∧
  (∀ (c : Cmd) m (s : State),
      s.Commits c →
      s.outcome (s.cmdEntry 0x300 c) = (stAccepted, 0) →
      m = c.op0.toNat % 4 →
      ((c.win = .cmk → s.on CAP_MODE.LOCK = false)) →
      ∃ t, exec (.setMode c) s = .next t ∧
        t.get CAP_MODE.MODE = m ∧
        t.Shows c stDone 0) ∧
  (∀ (c : Cmd) v (s : State),
      s.Commits c →
      s.outcome (s.cmdEntry 0x301 c) = (stAccepted, 0) →
      c.op0.toNat / 2 ^ 16 % 2 = 0 →
      v = c.op0.toNat % 65536 →
      s.cap.defer = none →
      s.defers = false →
      ∃ t, exec (.setCap c) s = .next t ∧
        (t.get (if c.win = .cmd then CAP_DEV.MGMT else CAP_DEV.KERN) = v) ∧
        t.get CAP_DEV_NOW.IN_FORCE = t.devTarget) ∧
  (∀ (c : Cmd) k tag (s : State),
      s.Commits c →
      s.outcome (s.cmdEntry 0x302 c) = (stAccepted, 0) →
      c.op0.toNat / 2 ^ 8 % 2 = 0 →
      k = c.op0.toNat % 64 →
      tag = c.op0.toNat / 2 ^ 16 % 65536 →
      s.openJob k = none →
      s.confidential k = false →
      s.wasActive = s.active →
      ∃ t, exec (.job c) s = .next t ∧
        t.jobs = s.jobs ++ [{ id := s.jobNext, ctx := k, tag := tag, begin_ := s.sysTime, noattr := !s.inWayOn, station := s.stationOk, unmet := s.on CAP_STATUS.UNMET }] ∧
        t.Shows c stDone 0) ∧
  (∀ (c : Cmd) (s : State),
      s.Commits c →
      s.outcome (s.cmdEntry 0x400 c) = (stAccepted, 0) →
      s.get DRE_STATUS.LOAD_STATE = 0 →
      s.get DRE_STATUS.SPARE < 9 →
      ∃ t, exec (.bundleLoad c) s = .next t ∧
        t.Runs c ∧
        t.load = some ⟨c.op0.toNat % 8, c.op0.toNat / 16 % 4, c.op1.toNat, some (cmdTagOf c)⟩) ∧
  (∀ (c : Cmd) n (s : State),
      s.Commits c →
      s.outcome (s.cmdEntry 0x401 c) = (stAccepted, 0) →
      n = c.op0.toNat % 32 →
      s.strBusy n 0 = false →
      s.captureOk n = true →
      s.active = false →
      c.op0.toNat / 2 ^ 12 % 8 = 0 →
      c.op0.toNat / 2 ^ 15 % 2 = 0 →
      ∃ t, exec (.capture c) s = .next t ∧
        t.Runs c ∧
        t.get (SXT_STR_STAT.STATE n 0) = 2) ∧
  (∀ (c : Cmd) n (s : State),
      s.Commits c →
      s.outcome (s.cmdEntry 0x402 c) = (stAccepted, 0) →
      n = c.op0.toNat % 32 →
      c.op0.toNat / 32 % 4 = 1 →
      s.calAllowed n = true →
      ∃ t, exec (.syscal c) s = .next t ∧
        t.Runs c ∧
        t.get (SXT_CAL.STATE n) = 1) ∧
  (∀ (c : Cmd) (s : State),
      s.Commits c →
      s.outcome (s.cmdEntry 0x500 c) = (stAccepted, 0) →
      s.inWayOn = true →
      s.far = .idle →
      s.get FAR_STATUS.STATE = 0 →
      s.planPostponed = false →
      ∃ t, exec (.farPlan c) s = .next t ∧
        t.Runs c ∧
        t.far = .planning) ∧
  (∀ (c : Cmd) (s : State),
      s.Commits c →
      s.outcome (s.cmdEntry 0x501 c) = (stAccepted, 0) →
      s.far = .idle →
      ∃ t, exec (.farRecord c) s = .next t ∧
        t.Runs c ∧
        (t.far = .byCommand (c.op0.toNat % 128) (c.op0.toNat / 2 ^ 8 % 2 == 1) (if c.op0.toNat / 2 ^ 9 % 2 = 1 then some (c.op0.toNat / 2 ^ 16 % 64, c.op0.toNat / 2 ^ 24 % 256) else none))) ∧
  (∀ (c : Cmd) (s : State),
      s.Commits c →
      s.outcome (s.cmdEntry 0x600 c) = (stAccepted, 0) →
      c.op0.toNat % 2 = 0 →
      s.on LOG_STATUS.FROZEN = false →
      s.logTag = none →
      ∃ t, exec (.logFreeze c) s = .next t ∧
        t.get LOG_CTRL.FREEZE = 0 ∧
        t.Shows c stDone 0) ∧
  (∀ q n (data : Word) (s : State),
      n < 64 →
      s.Takes q ((CMK_USLOT.reg n).addr) →
      data.toNat % 64 = s.get (CMK_USLOT.CONTEXT n) →
      s.active = s.wasActive →
      ({ s with regs := (s.put (CMK_USLOT.EN n) (data.toNat / 2 ^ 31)).regs } : State).active = s.wasActive →
      ∃ t, exec (.cmkUslotWrite q n data) s = .next t ∧
        t.get (CMK_USLOT.EN n) = data.toNat / 2 ^ 31 ∧
        t.get (CMK_USLOT.CONTEXT n) = data.toNat % 64) ∧
  (∀ q k (s : State),
      k < 3 →
      s.Takes q ((TDM_STR_CTRL.reg k).addr) →
      s.inWayOn = true →
      s.get (TDM_STR_CTRL.STOP k) = 0 →
      1 ≤ s.get (TDM_STR_CTRL.POLL k) →
      ((s.tdmState k = tdmStopped ∨ s.tdmState k = tdmError)) →
      ((s.get64 (TDM_STR_HEAD_LO.ADDR k) = 0 ∨ s.inWindow (s.get64 (TDM_STR_HEAD_LO.ADDR k)) 32 = true)) →
      ∃ t, exec (.tdmStreamGo q k) s = .next t ∧
        t.tdmState k = tdmRunning ∧
        t.get64 (TDM_STR_CUR_LO.ADDR k) = s.get64 (TDM_STR_HEAD_LO.ADDR k)) ∧
  (∀ q k (s : State),
      k < 3 →
      s.Takes q ((TDM_STR_CTRL.reg k).addr) →
      s.get (TDM_STR_CTRL.GO k) = 0 →
      1 ≤ s.get (TDM_STR_CTRL.POLL k) →
      ((s.tdmState k = tdmWaiting ∨ s.tdmState k = tdmRunning ∧ (s.stream k).checked = false)) →
      ∃ t, exec (.tdmStreamStop q k) s = .next t ∧
        t.tdmState k = tdmStopped ∧
        t.tdm = s.tdm) ∧
  (∀ k a e (s : State),
      k < 3 →
      s.tdmAct k = .fetch a →
      (s.stream k).desc = [] →
      (s.stream k).checked = false →
      s.inWindow a 32 = true →
      s.inWindow a 4 = true →
      ((e.next.toNat = 0 ∨ s.inWindow e.next.toNat 32 = true)) →
      ∃ t, exec (.descriptorFetchDone k e false) s = .next t ∧
        (t.stream k).desc = [(a, e)] ∧
        (t.stream k).next = 0) ∧
  (∀ k (s : State),
      k < 3 →
      s.tdmState k = tdmWaiting →
      (s.modStream k (fun d => { d with polling := true })).tdmOutside k = false →
      ∃ t, exec (.descriptorPoll k) s = .next t ∧
        t.stream k = { s.stream k with polling := true } ∧
        t.tdmState k = tdmWaiting) ∧
  (∀ k a e r (s : State),
      k < 3 →
      s.tdmState k = tdmRunning →
      (s.stream k).desc = [(a, e)] →
      (s.stream k).checked = true →
      (s.stream k).stopping = false →
      s.active = false →
      (s.stream k).staged = [r] →
      r.entry = none →
      (s.stream k).used + r.bytes.length ≤ e.length →
      s.inWindow (e.buffer.toNat + (s.stream k).used) r.bytes.length = true →
      e.next.toNat = 0 →
      ∃ t, exec (.tdmWriteResponse k false) s = .next t ∧
        (t.stream k).staged = [] ∧
        (t.stream k).used = (s.stream k).used + r.bytes.length) ∧
  (∀ r (s : State),
      s.inWayOn = true →
      s.yardCount + 1 < s.get TDM_PERIOD.YARD →
      (s.stream 2).lost = 0 →
      r = ⟨tdmRecord 0x0030 s.active.toNat s.deviceBody, none, none⟩ →
      stagedBytes ((s.stream 2).staged ++ [r]) ≤ 4096 →
      ∃ t, exec (.deviceSummary) s = .next t ∧
        (t.stream 2).staged = (s.stream 2).staged ++ [r] ∧
        t.recSeq = (s.recSeq + 1) % 2 ^ 32) ∧
  (∀ unit kind (s : State),
      isUnit unit = true →
      1 ≤ kind →
      kind ≤ 3 →
      ∃ t, exec (.fltWire unit kind) s = .next t ∧
        t.get (Fld.bit FLT_WIRE.UNIT unit) = 1 ∧
        t.get FLT_CNT_WIRE.COUNT = min (s.get FLT_CNT_WIRE.COUNT + 1) 0xFFFFFFFF) ∧
  (∀ unit (s : State),
      isUnit unit = true →
      ∃ t, exec (.fltWireClear unit) s = .next t ∧
        t.get (Fld.bit FLT_WIRE.UNIT unit) = 0) ∧
  (∀ q (bits : BitVec 3) (s : State),
      s.Takes q (FLT_PEND.C.addr) →
      ∃ t, exec (.fltPendAck q bits) s = .next t ∧
        (∀ c < 3, t.get (pendBit c) = if tb bits.toNat c then 0 else s.get (pendBit c)) ∧
        (∀ p ∈ s.act, tb bits.toNat p.2 = true → t.get (Fld.bit FLT_ACT.CODE p.1) = 0)) ∧
  (∀ q (s : State),
      s.Takes q (FLT_CTRL.RESUME.addr) →
      clsOf q = .mgmt →
      s.mayRecover = true →
      s.get FAR_STATUS.STATE ≠ 5 →
      ∃ t, exec (.fltResume q) s = .next t ∧
        t.get FLT_STATUS.HOLD = 0 ∧
        t.get FLT_STATUS.STARTUP_HELD = 0) ∧
  (∀ (s : State),
      s.quietOver = true →
      s.get FAR_STATUS.STATE ≠ 5 →
      ∃ t, exec (.quietPeriodExpiry) s = .next t ∧
        t.get FLT_STATUS.HOLD = 0 ∧
        t.get FLT_STATUS.STARTUP_HELD = 0) ∧
  (∀ q mem (s : State),
      s.Takes q (FLT_INJ.GO.addr) →
      s.injectOk 0 mem 0 = true →
      ∃ t, exec (.fltInjSingle q mem) s = .next t ∧
        t.inject = some (mem, false) ∧
        t.get FLT_INJ.ARMED = 1) ∧
  (∀ q mem (s : State),
      s.Takes q (FLT_INJ.GO.addr) →
      s.injectOk 1 mem 0 = true →
      ∃ t, exec (.fltInjDouble q mem) s = .next t ∧
        t.inject = some (mem, true) ∧
        t.get FLT_INJ.ARMED = 1) ∧
  (∀ q unit code (s : State),
      s.Takes q (FLT_INJ.GO.addr) →
      s.injectOk 2 unit code = true →
      ∃ t, exec (.fltInjRaise q unit code) s = .next t ∧
        t.get (Fld.bit FLT_ACT.CODE code) = 1 ∧
        t.get FLT_CNT_INJ.COUNT = min (s.get FLT_CNT_INJ.COUNT + 1) 0xFFFFFFFF) ∧
  (∀ q unit (s : State),
      s.Takes q (FLT_INJ.GO.addr) →
      s.injectOk 3 unit 0 = true →
      ∃ t, exec (.fltInjBreak q unit) s = .next t ∧
        t.get (Fld.bit FLT_WIRE.UNIT unit) = 1 ∧
        t.get (Fld.bit FLT_ACT.CODE 0x04) = 1) ∧
  (∀ q pin (s : State),
      pin < 4 →
      s.Takes q (FLT_INJ_PIN.PIN.addr) →
      ∃ t, exec (.fltInjPinWrite q pin) s = .next t ∧
        t.get FLT_INJ_PIN.PIN = pin ∧
        t.get FLT_STATUS.PIN = t.fltPair) ∧
  (∀ r i (s : State),
      s.log.head? = some r →
      s.stagingWaits = false →
      r.err = none →
      s.on LOG_STATUS.FIRST_FULL = false →
      s.firstEmpty (s.get LOG_POS.NEXT) (8192 - s.get LOG_POS.NEXT) = some i →
      (s.firstEmpty (i + 1) (8192 - (i + 1))).isSome = true →
      ∃ t, exec (.logRecordProgram) s = .next t ∧
        t.log = s.log.tail ∧
        t.get LOG_POS.NEXT = i + 1) ∧
  (∀ (s : State),
      s.on LOG_STATUS.FROZEN = false →
      s.tkSlot < 8192 →
      s.supp = [] →
      ∃ t, exec (.logTimeSave) s = .next t ∧
        t.tkSlot = s.tkSlot + 1 ∧
        (∀ a, a < tkAt s.tkSector s.tkSlot ∨ tkAt s.tkSector s.tkSlot + 8 ≤ a → t.flashAt a = s.flashAt a)) ∧
  (∀ (s : State),
      Tab.wf (fun _ => 64) s.tokens = true →
      ∃ t, exec (.logTokenRefill) s = .next t ∧
        (∀ c, t.tokensOf c = min 64 (s.tokensOf c + 1))) ∧
  (∀ q (s : State),
      s.Takes q (LOG_CTRL.FREEZE.addr) →
      s.on LOG_CTRL.FREEZE = false →
      s.on LOG_STATUS.FROZEN = false →
      s.logTag = none →
      s.flashOp = .none →
      s.logErase = none →
      ∃ t, exec (.logCtrlFreeze q) s = .next t ∧
        t.get LOG_CTRL.FREEZE = 1 ∧
        t.get LOG_STATUS.FROZEN = 1) ∧
  (∀ q (s : State),
      s.Takes q (LOG_CTRL.FREEZE.addr) →
      s.on LOG_CTRL.FREEZE = true →
      s.on LOG_STATUS.FROZEN = true →
      s.log.length < 255 →
      s.supp = [] →
      ∃ t, exec (.logCtrlRelease q) s = .next t ∧
        t.get LOG_CTRL.FREEZE = 0 ∧
        t.get LOG_STATUS.FROZEN = 0) ∧
  (∀ (s : State),
      s.on LOG_CTRL.FREEZE_MAX = true →
      s.on LOG_STATUS.FROZEN = true →
      s.log.length < 255 →
      s.supp = [] →
      ∃ t, exec (.logFreezeExpiry) s = .next t ∧
        t.get LOG_CTRL.FREEZE = 0 ∧
        t.get LOG_STATUS.FROZEN = 0) ∧
  (∀ q i (s : State),
      i < 131072 →
      s.Takes q (LOG_RD.GO.addr) →
      s.flashOp = .none →
      s.logErase = none →
      ∃ t, exec (.logRdGo q i) s = .next t ∧
        t.get LOG_RD_RES.INDEX = i ∧
        t.get LOG_RD_RES.RESULT = slotState (s.slotBytes i)) ∧
  (∀ q (s : State),
      s.Takes q (LOG_ERASE.KEY.addr) →
      clsOf q = .mgmt →
      s.logErase = none →
      ∃ t, exec (.logEraseRanked q) s = .next t ∧
        t.logErase = some 1 ∧
        t.get LOG_STATUS.ERASING = 1) ∧
  (∀ q (s : State),
      s.Takes q (LOG_ERASE.KEY.addr) →
      clsOf q = .mgmt →
      s.logErase = none →
      ∃ t, exec (.logEraseAll q) s = .next t ∧
        t.logErase = some 2 ∧
        t.get LOG_STATUS.ERASING = 1) ∧
  (∀ region (s : State),
      s.logErase = some region →
      s.on LOG_STATUS.FROZEN = false →
      ∃ t, exec (.logEraseDone) s = .next t ∧
        t.logErase = none ∧
        t.get LOG_STATUS.ERASING = 0) ∧
  (∀ q (s : State),
      s.Takes q (FLS_CTRL.GO.addr) →
      s.flsRefusal 0 (clsOf q) = none →
      ∃ t, exec (.flsRead q) s = .next t ∧
        t.flashOp = .fls 0 q (s.flsRange 0).1 (s.flsRange 0).2 ∧
        t.get FLS_STATUS.BUSY = 1) ∧
  (∀ q (s : State),
      s.Takes q (FLS_CTRL.GO.addr) →
      s.flsRefusal 1 (clsOf q) = none →
      ∃ t, exec (.flsProgram q) s = .next t ∧
        t.flashOp = .fls 1 q (s.flsRange 1).1 (s.flsRange 1).2 ∧
        t.get FLS_STATUS.BUSY = 1) ∧
  (∀ q (s : State),
      s.Takes q (FLS_CTRL.GO.addr) →
      s.flsRefusal 2 (clsOf q) = none →
      ∃ t, exec (.flsErase q) s = .next t ∧
        t.flashOp = .fls 2 q (s.flsRange 2).1 (s.flsRange 2).2 ∧
        t.get FLS_STATUS.BUSY = 1) ∧
  (∀ q (s : State),
      s.Takes q (FLS_CTRL.GO.addr) →
      s.flsRefusal 3 (clsOf q) = none →
      ∃ t, exec (.flsVerify q) s = .next t ∧
        t.flashOp = .fls 3 q (s.flsRange 3).1 (s.flsRange 3).2 ∧
        t.get FLS_STATUS.BUSY = 1) ∧
  (∀ q a n (s : State),
      s.flashOp = .fls 0 q a n →
      s.get LOG_CTRL.FREEZE = 0 →
      n ≤ 256 →
      ∃ t, exec (.flsOpDone false) s = .next t ∧
        t.flashOp = .none ∧
        t.get FLS_STATUS.BUSY = 0) ∧
  (∀ q c (s : State),
      c < 64 →
      s.Takes q ((confBit c).addr) →
      s.confidential c = false →
      s.resident c = false →
      s.wasActive = s.active →
      ∃ t, exec (.secConfSet q c) s = .next t ∧
        t.confidential c = true ∧
        t.wasActive = s.wasActive) ∧
  (∀ q c (s : State),
      c < 64 →
      s.Takes q ((confBit c).addr) →
      s.confidential c = true →
      s.resident c = false →
      s.wasActive = s.active →
      ∃ t, exec (.secConfClear q c) s = .next t ∧
        t.confidential c = false ∧
        (t.ctx c).carry = 0) ∧
  (∀ r (s : State),
      s.scrubs.head? = some r →
      r.yard < Config.yardCount →
      r.clear = false →
      r.ctx < 64 →
      s.wasActive = true →
      ∃ t, exec (.scrub) s = .next t ∧
        t.scrubs = s.scrubs.tail ∧
        t.get SEC_SCRUB_LAST.YARD = r.yard) ∧
  (∀ (s : State),
      s.epochs = [] →
      ∃ t, exec (.tbValidReturn) s = .next t ∧
        t.tbValid = true ∧
        t.sysTime = s.sysTime) ∧
  (∀ (s : State),
      ∃ t, exec (.soAck) s = .next t ∧
        t.soAck = s.soReq) ∧
  (∀ r p (s : State),
      r < 2 →
      s.pwmDrives r = true →
      (s.rail r).fireAt.all (fun u => decide (u + s.stagger r ≤ s.mono)) = true →
      s.nextFire r = some p →
      ∃ t, exec (.phaseFire r) s = .next t ∧
        (t.phase p).pulse = true ∧
        (t.phase p).ton = s.onCycles p) ∧
  (∀ p (s : State),
      (s.phase p).pulse = true →
      ∃ t, exec (.pulseEnd p) s = .next t ∧
        (t.phase p).pulse = false ∧
        (t.phase p).offAt = some s.mono) ∧
  (∀ r u lo hi bad (s : State),
      s.responded.rpReady = true →
      s.cpReset = false →
      (s.responded.rpOut.any fun e => e.tag == r.tag) = false →
      s.responded.slowFull r.addr.toNat = false →
      (s.responded.takeRequest r).portRead ⟨.rp, r.stamp⟩ r.addr.toNat r.wide = (u, lo, hi, bad) →
      ∃ t, exec (.registerRead r) s = .next t ∧
        (t.rpRsp = some ⟨r.tag, if bad then 2 else 0, some (if r.wide then hi ++ lo else if r.addr.toNat % 8 = 4 then lo ++ (0 : Word) else (0 : Word) ++ lo)⟩))

/-- From every state whose registers, units, collectives, token buckets and memories are held in canonical form, keys
strictly rising and no entry equal to what an unlisted key reads as, every step that answers a next state leaves them
so: equal memories stay equal data. That the state after reset has the form is ResetStateMeetsTheInvariants. The form
is the model's own: a memory the spec lays out (R138, R178, R353, R415) is held as the list of what differs from its
reset contents. Rests on R138, R178, R353, R415. -/
def Obligations.EveryStepKeepsTheTablesCanonical : Prop :=
  ∀ s t : State, s.Canonical → step s = .next t → t.Canonical
end

