-- ==== Sys2Proof/Laws/Tab.lean ====
section
/-!
SUPPORT. Tables: reading after setting, and the canonical form, which setting and dropping entries keep.
-/

namespace Sys2Proof.Machine

variable {α : Type}

theorem Tab.get_insert (d : Nat → α) (t : Tab α) (k j : Nat) (v : α) :
    Tab.get d (Tab.insert k v t) j = if j = k then v else Tab.get d t j := by
  induction t with
  | nil => simp [Tab.insert, Tab.get]
  | cons e t ih =>
    obtain ⟨i, w⟩ := e
    simp only [Tab.insert]
    split
    · simp [Tab.get]
    · split
      · subst_vars; simp only [Tab.get]; split <;> rfl
      · simp only [Tab.get, ih]
        by_cases hj : j = i <;> by_cases hk : j = k <;> simp_all

variable [DecidableEq α]

theorem Tab.wf_cons (d : Nat → α) (j : Nat) (v : α) (t : Tab α) :
    Tab.wf d ((j, v) :: t) = true ↔ v ≠ d j ∧ (∀ e ∈ t, j < e.1) ∧ Tab.wf d t = true := by
  simp [Tab.wf, and_assoc]

omit [DecidableEq α] in
theorem Tab.get_erase (d : Nat → α) (t : Tab α) (k j : Nat) : Tab.get d (Tab.erase k t) j = if j = k then d k else Tab.get d t j := by
  induction t with
  | nil => by_cases hj : j = k <;> simp [Tab.erase, Tab.get, hj]
  | cons e t ih =>
    obtain ⟨i, w⟩ := e
    simp only [Tab.erase]
    split
    · subst_vars; rw [ih, Tab.get]; split <;> rfl
    · simp only [Tab.get, ih]
      by_cases hj : j = i <;> by_cases hk : j = k <;> simp_all

/-- What a table reads after a set. -/
theorem Tab.get_set (d : Nat → α) (t : Tab α) (k j : Nat) (v : α) : Tab.get d (Tab.set d t k v) j = if j = k then v else Tab.get d t j := by
  unfold Tab.set
  split
  · subst_vars; exact Tab.get_erase d t k j
  · exact Tab.get_insert d t k j v

omit [DecidableEq α] in
theorem Tab.mem_erase {k : Nat} {e : Nat × α} {t : Tab α} (h : e ∈ Tab.erase k t) : e ∈ t := by
  induction t with
  | nil => simp [Tab.erase] at h
  | cons x t ih =>
    simp only [Tab.erase] at h
    split at h
    · exact List.mem_cons_of_mem _ (ih h)
    · rcases List.mem_cons.mp h with h | h
      · exact h ▸ List.mem_cons_self
      · exact List.mem_cons_of_mem _ (ih h)

omit [DecidableEq α] in
theorem Tab.mem_insert {k : Nat} {v : α} {e : Nat × α} {t : Tab α} (h : e ∈ Tab.insert k v t) : e = (k, v) ∨ e ∈ t := by
  induction t with
  | nil => simpa [Tab.insert] using h
  | cons x t ih =>
    simp only [Tab.insert] at h
    split at h
    · simpa using h
    · split at h
      · rcases List.mem_cons.mp h with h | h
        · exact .inl h
        · exact .inr (List.mem_cons_of_mem _ h)
      · rcases List.mem_cons.mp h with h | h
        · exact .inr (h ▸ List.mem_cons_self)
        · exact (ih h).imp id (List.mem_cons_of_mem _)

theorem Tab.wf_erase (d : Nat → α) (t : Tab α) (k : Nat) (h : Tab.wf d t = true) : Tab.wf d (Tab.erase k t) = true := by
  induction t with
  | nil => rfl
  | cons e t ih =>
    obtain ⟨i, w⟩ := e
    obtain ⟨hv, hgt, hw⟩ := (Tab.wf_cons d i w t).mp h
    simp only [Tab.erase]
    split
    · exact ih hw
    · exact (Tab.wf_cons d i w _).mpr ⟨hv, fun x hx => hgt x (Tab.mem_erase hx), ih hw⟩

theorem Tab.wf_insert (d : Nat → α) (t : Tab α) (k : Nat) (v : α) (h : Tab.wf d t = true) (hv : v ≠ d k) :
    Tab.wf d (Tab.insert k v t) = true := by
  induction t with
  | nil => simp [Tab.insert, Tab.wf, hv]
  | cons e t ih =>
    obtain ⟨i, w⟩ := e
    obtain ⟨hw, hgt, ht⟩ := (Tab.wf_cons d i w t).mp h
    simp only [Tab.insert]
    split
    · refine (Tab.wf_cons d k v _).mpr ⟨hv, fun x hx => ?_, h⟩
      rcases List.mem_cons.mp hx with rfl | hx
      · assumption
      · have := hgt x hx; omega
    · split
      · subst_vars; exact (Tab.wf_cons d _ v _).mpr ⟨hv, hgt, ht⟩
      · refine (Tab.wf_cons d i w _).mpr ⟨hw, fun x hx => ?_, ih ht⟩
        rcases Tab.mem_insert hx with rfl | hx
        · simp only; omega
        · exact hgt x hx

/-- Setting an entry keeps the canonical form. -/
theorem Tab.wf_set (d : Nat → α) (t : Tab α) (k : Nat) (v : α) (h : Tab.wf d t = true) : Tab.wf d (Tab.set d t k v) = true := by
  unfold Tab.set
  split
  · exact Tab.wf_erase d t k h
  · exact Tab.wf_insert d t k v h ‹_›

/-- Dropping entries keeps the canonical form. -/
theorem Tab.wf_filter (d : Nat → α) (t : Tab α) (p : Nat × α → Bool) (h : Tab.wf d t = true) : Tab.wf d (t.filter p) = true := by
  induction t with
  | nil => rfl
  | cons e t ih =>
    obtain ⟨i, w⟩ := e
    obtain ⟨hw, hgt, ht⟩ := (Tab.wf_cons d i w t).mp h
    rw [List.filter_cons]
    split
    · exact (Tab.wf_cons d i w _).mpr ⟨hw, fun x hx => hgt x (List.mem_filter.mp hx).1, ih ht⟩
    · exact ih ht

end Sys2Proof.Machine
end

