-- ==== Sys2Proof/Laws/Canonical.lean ====
section
/-!
SUPPORT. The canonical form of State's tables under the operations that every meaning is made of: a proof that a command keeps it
follows the meaning from operation to operation and unfolds no table.
-/

namespace Sys2Proof.Machine

namespace State.Canonical

variable {s t : State}

/-- A change of other fields keeps the form: each premise closes by rfl. -/
theorem same (h : s.Canonical)
    (regs : t.regs = s.regs)
    (bays : t.bays = s.bays)
    (yards : t.yards = s.yards)
    (doms : t.doms = s.doms)
    (clusters : t.clusters = s.clusters)
    (rails : t.rails = s.rails)
    (phases : t.phases = s.phases)
    (ctxs : t.ctxs = s.ctxs)
    (tdm : t.tdm = s.tdm)
    (colls : t.colls = s.colls)
    (tokens : t.tokens = s.tokens)
    (flash : t.flash = s.flash)
    (store : t.store = s.store)
    (capram : t.capram = s.capram)
    (boot : t.boot = s.boot) : t.Canonical where
  regs := regs ▸ h.regs
  bays := bays ▸ h.bays
  yards := yards ▸ h.yards
  doms := doms ▸ h.doms
  clusters := clusters ▸ h.clusters
  rails := rails ▸ h.rails
  phases := phases ▸ h.phases
  ctxs := ctxs ▸ h.ctxs
  tdm := tdm ▸ h.tdm
  colls := colls ▸ h.colls
  tokens := tokens ▸ h.tokens
  flash := flash ▸ h.flash
  store := store ▸ h.store
  capram := capram ▸ h.capram
  boot := boot ▸ h.boot

theorem setWord (h : s.Canonical) (a : Nat) (w : Word) : (s.setWord a w).Canonical :=
  { h with regs := Tab.wf_set _ _ _ _ h.regs }

theorem setBay (h : s.Canonical) (b : Nat) (v : Bay) : (s.setBay b v).Canonical :=
  { h with bays := Tab.wf_set _ _ _ _ h.bays }

theorem setYard (h : s.Canonical) (y : Nat) (v : Yard) : (s.setYard y v).Canonical :=
  { h with yards := Tab.wf_set _ _ _ _ h.yards }

theorem setDom (h : s.Canonical) (d : Nat) (v : Dom) : (s.setDom d v).Canonical :=
  { h with doms := Tab.wf_set _ _ _ _ h.doms }

theorem setCluster (h : s.Canonical) (n : Nat) (v : Cluster) : (s.setCluster n v).Canonical :=
  { h with clusters := Tab.wf_set _ _ _ _ h.clusters }

theorem setRail (h : s.Canonical) (r : Nat) (v : Rail) : (s.setRail r v).Canonical :=
  { h with rails := Tab.wf_set _ _ _ _ h.rails }

theorem setPhase (h : s.Canonical) (p : Nat) (v : BPhase) : (s.setPhase p v).Canonical :=
  { h with phases := Tab.wf_set _ _ _ _ h.phases }

theorem setCtx (h : s.Canonical) (c : Nat) (v : Ctx) : (s.setCtx c v).Canonical :=
  { h with ctxs := Tab.wf_set _ _ _ _ h.ctxs }

theorem setStream (h : s.Canonical) (k : Nat) (v : Tdm) : (s.setStream k v).Canonical :=
  { h with tdm := Tab.wf_set _ _ _ _ h.tdm }

theorem setColl (h : s.Canonical) (k : Nat) (v : Option Coll) : (s.setColl k v).Canonical :=
  { h with colls := Tab.wf_set _ _ _ _ h.colls }

theorem setTokens (h : s.Canonical) (code n : Nat) : (s.setTokens code n).Canonical :=
  { h with tokens := Tab.wf_set _ _ _ _ h.tokens }

theorem setFlash (h : s.Canonical) (a : Nat) (v : Byte) : (s.setFlash a v).Canonical :=
  { h with flash := Tab.wf_set _ _ _ _ h.flash }

theorem setStore (h : s.Canonical) (a : Nat) (v : Byte) : (s.setStore a v).Canonical :=
  { h with store := Tab.wf_set _ _ _ _ h.store }

theorem setCap (h : s.Canonical) (a : Nat) (v : Byte) : (s.setCap a v).Canonical :=
  { h with capram := Tab.wf_set _ _ _ _ h.capram }

theorem put (h : s.Canonical) (f : Fld) (v : Nat) : (s.put f v).Canonical := h.setWord _ _

theorem putI (h : s.Canonical) (f : Fld) (v : Int) : (s.putI f v).Canonical := h.put _ _

theorem put64 (h : s.Canonical) (f : Fld) (v : Nat) : (s.put64 f v).Canonical := (h.setWord _ _).setWord _ _

theorem bumpBy (h : s.Canonical) (f : Fld) (n : Nat) : (s.bumpBy f n).Canonical := h.put _ _

theorem bump (h : s.Canonical) (f : Fld) : (s.bump f).Canonical := h.put _ _

theorem evt (h : s.Canonical) (pg k : Nat) : (s.evt pg k).Canonical := h.setWord _ _

theorem modBay (h : s.Canonical) (b : Nat) (f : Bay → Bay) : (s.modBay b f).Canonical := h.setBay _ _

theorem modDom (h : s.Canonical) (d : Nat) (f : Dom → Dom) : (s.modDom d f).Canonical := h.setDom _ _

theorem modStream (h : s.Canonical) (k : Nat) (f : Tdm → Tdm) : (s.modStream k f).Canonical := h.setStream _ _

theorem eraseFlash (h : s.Canonical) (a n : Nat) : (s.eraseFlash a n).Canonical :=
  { h with flash := Tab.wf_filter _ _ _ h.flash }

/-- A fold whose every step keeps the form keeps it. -/
theorem foldl {α : Type} (f : State → α → State) (hf : ∀ s x, s.Canonical → (f s x).Canonical) (l : List α) (h : s.Canonical) :
    (l.foldl f s).Canonical := by
  induction l generalizing s with
  | nil => exact h
  | cons x xs ih => exact ih (hf _ _ h)

theorem program (h : s.Canonical) (a : Nat) (l : List Byte) : (s.program a l).Canonical :=
  foldl _ (fun _ _ h => h.setFlash _ _) _ h

theorem writeFlash (h : s.Canonical) (a : Nat) (l : List Byte) : (s.writeFlash a l).Canonical := (h.eraseFlash _ _).program _ _

theorem ite {p : Prop} [Decidable p] (h : p → s.Canonical) (k : ¬p → t.Canonical) : (if p then s else t).Canonical := by
  split
  · exact h ‹_›
  · exact k ‹_›

theorem refreshPair (h : s.Canonical) : s.refreshPair.Canonical := by
  unfold State.refreshPair
  exact ite (fun _ => h) fun _ => (h.put _ _).put _ _

theorem wired (h : s.Canonical) : s.wired.Canonical := by
  refine refreshPair (State.Canonical.put (s := { s with quietFrom := _ }) ?_ _ _)
  exact h.same rfl rfl rfl rfl rfl rfl rfl rfl rfl rfl rfl rfl rfl rfl rfl

/-- The end of a command: the form of what it made is the form of what it answers. -/
theorem after (u : State) (h : t.Canonical) (e : s.after t = .next u) : u.Canonical := by
  cases e
  exact h.wired.same rfl rfl rfl rfl rfl rfl rfl rfl rfl rfl rfl rfl rfl rfl rfl

theorem loaded (h : s.Canonical) : s.loaded.Canonical := { h with flash := h.boot }

end State.Canonical

end Sys2Proof.Machine
end

