-- ==== Sys2Proof/Laws/Word.lean ====
section
/-!
SUPPORT. Fields of words: what a field reads after a field of the same word is replaced.
-/

namespace Sys2Proof

/-- The number that `withField` builds fits in 32 bits. -/
theorem Word.withField_lt (x : Word) (lo w v : Nat) (h : lo + w ≤ 32) :
    x.toNat % 2 ^ lo + (v % 2 ^ w) * 2 ^ lo + x.toNat / 2 ^ (lo + w) * 2 ^ (lo + w) < 2 ^ 32 := by
  have hx : x.toNat < 2 ^ 32 := x.isLt
  have h1 : x.toNat % 2 ^ lo < 2 ^ lo := Nat.mod_lt _ (by positivity)
  have h2 : v % 2 ^ w + 1 ≤ 2 ^ w := Nat.mod_lt _ (by positivity)
  have e : (2 : Nat) ^ 32 = 2 ^ (lo + w) * 2 ^ (32 - (lo + w)) := by rw [← pow_add]; congr 1; omega
  have h3 : x.toNat / 2 ^ (lo + w) + 1 ≤ 2 ^ (32 - (lo + w)) := by
    apply Nat.div_lt_of_lt_mul; rw [← e]; exact hx
  have h4 : (v % 2 ^ w + 1) * 2 ^ lo ≤ 2 ^ (lo + w) := by
    rw [pow_add, Nat.mul_comm (2 ^ lo)]; exact Nat.mul_le_mul_right _ h2
  have h5 : (x.toNat / 2 ^ (lo + w) + 1) * 2 ^ (lo + w) ≤ 2 ^ 32 := by
    rw [e, Nat.mul_comm]; exact Nat.mul_le_mul_left _ h3
  nlinarith

theorem Word.toNat_withField (x : Word) (lo w v : Nat) (h : lo + w ≤ 32) :
    (x.withField lo w v).toNat = x.toNat % 2 ^ lo + (v % 2 ^ w) * 2 ^ lo + x.toNat / 2 ^ (lo + w) * 2 ^ (lo + w) := by
  simp only [Word.withField, BitVec.toNat_ofNat]
  exact Nat.mod_eq_of_lt (Word.withField_lt x lo w v h)

/-- A field that was replaced reads the value's low bits. -/
theorem Word.field_withField_same (x : Word) (lo w v : Nat) (h : lo + w ≤ 32) :
    (x.withField lo w v).field lo w = v % 2 ^ w := by
  rw [Word.field, Word.toNat_withField x lo w v h]
  have e : x.toNat % 2 ^ lo + (v % 2 ^ w) * 2 ^ lo + x.toNat / 2 ^ (lo + w) * 2 ^ (lo + w)
      = x.toNat % 2 ^ lo + 2 ^ lo * (v % 2 ^ w + 2 ^ w * (x.toNat / 2 ^ (lo + w))) := by rw [pow_add]; ring
  rw [e, Nat.add_mul_div_left _ _ (by positivity), Nat.div_eq_of_lt (Nat.mod_lt _ (by positivity)), Nat.zero_add,
    Nat.add_mul_mod_self_left, Nat.mod_mod]

/-- A field below or above a replaced field keeps its value. -/
theorem Word.field_withField_disjoint (x : Word) (lo w v lo' w' : Nat) (h : lo + w ≤ 32)
    (d : lo' + w' ≤ lo ∨ lo + w ≤ lo') : (x.withField lo w v).field lo' w' = x.field lo' w' := by
  rw [Word.field, Word.field, Word.toNat_withField x lo w v h]
  rcases d with d | d
  · have e : x.toNat % 2 ^ lo + (v % 2 ^ w) * 2 ^ lo + x.toNat / 2 ^ (lo + w) * 2 ^ (lo + w)
        = x.toNat % 2 ^ lo + 2 ^ (lo' + w') * (2 ^ (lo - (lo' + w')) * (v % 2 ^ w + 2 ^ w * (x.toNat / 2 ^ (lo + w)))) := by
      rw [← mul_assoc, ← pow_add, show lo' + w' + (lo - (lo' + w')) = lo by omega, pow_add]; ring
    have m (n : Nat) : n / 2 ^ lo' % 2 ^ w' = n % 2 ^ (lo' + w') / 2 ^ lo' := by
      rw [pow_add, Nat.mod_mul_right_div_self]
    rw [m, m x.toNat, e, Nat.add_mul_mod_self_left, Nat.mod_mod_of_dvd _ (pow_dvd_pow 2 d)]
  · have q : (x.toNat % 2 ^ lo + (v % 2 ^ w) * 2 ^ lo + x.toNat / 2 ^ (lo + w) * 2 ^ (lo + w)) / 2 ^ (lo + w)
        = x.toNat / 2 ^ (lo + w) := by
      rw [Nat.add_mul_div_right _ _ (by positivity), Nat.div_eq_of_lt, Nat.zero_add]
      have h1 : x.toNat % 2 ^ lo < 2 ^ lo := Nat.mod_lt _ (by positivity)
      have h2 : v % 2 ^ w + 1 ≤ 2 ^ w := Nat.mod_lt _ (by positivity)
      have h4 : (v % 2 ^ w + 1) * 2 ^ lo ≤ 2 ^ (lo + w) := by
        rw [pow_add, Nat.mul_comm (2 ^ lo)]; exact Nat.mul_le_mul_right _ h2
      nlinarith
    have s (n : Nat) : n / 2 ^ lo' = n / 2 ^ (lo + w) / 2 ^ (lo' - (lo + w)) := by
      rw [Nat.div_div_eq_div_mul, ← pow_add, show lo + w + (lo' - (lo + w)) = lo' by omega]
    rw [s, q, ← s]

/-- A field is below 2^w. -/
theorem Word.field_lt (x : Word) (lo w : Nat) : x.field lo w < 2 ^ w := Nat.mod_lt _ (by positivity)

end Sys2Proof
end

