-- ==== Sys2Proof/Laws/State.lean ====
section
/-!
SUPPORT. What the updates of State leave and set: one lemma for each field and each update, all by rfl; reading a register
or a unit after an update.
-/

namespace Sys2Proof.Machine

/-! ### Registers -/

@[simp] theorem State.word_setWord (s : State) (a b : Nat) (w : Word) : (s.setWord a w).word b = if b = a then w else s.word b :=
  Tab.get_set _ _ _ _ _

/-- Two fields that share no bit. -/
def Fld.apart (f g : Fld) : Prop := f.addr ≠ g.addr ∨ f.lo + f.w ≤ g.lo ∨ g.lo + g.w ≤ f.lo

theorem State.get_put_same (s : State) (f : Fld) (v : Nat) (h : f.lo + f.w ≤ 32) : (s.put f v).get f = v % 2 ^ f.w := by
  simp [State.put, State.get, Word.field_withField_same _ _ _ _ h]

theorem State.get_put_addr (s : State) (f g : Fld) (v : Nat) (h : g.addr ≠ f.addr) : (s.put f v).get g = s.get g := by
  simp [State.put, State.get, h]

theorem State.get_put_apart (s : State) (f g : Fld) (v : Nat) (h : f.lo + f.w ≤ 32) (d : f.apart g) : (s.put f v).get g = s.get g := by
  by_cases e : g.addr = f.addr
  · have d : g.lo + g.w ≤ f.lo ∨ f.lo + f.w ≤ g.lo := by
      rcases d with d | d | d
      · exact absurd e.symm d
      · exact .inr d
      · exact .inl d
    simp [State.put, State.get, e, Word.field_withField_disjoint _ _ _ _ _ _ h d]
  · exact State.get_put_addr s f g v e

theorem State.word_put (s : State) (f : Fld) (v a : Nat) (h : a ≠ f.addr) : (s.put f v).word a = s.word a := by
  simp [State.put, h]

theorem State.get_setWord (s : State) (a : Nat) (w : Word) (g : Fld) (h : g.addr ≠ a) : (s.setWord a w).get g = s.get g := by
  simp [State.get, h]

theorem State.get_evt (s : State) (pg k : Nat) (g : Fld) (h : g.addr ≠ pg + 0x14) : (s.evt pg k).get g = s.get g := by
  simp [State.evt, State.get, h]

theorem State.get_bump (s : State) (f g : Fld) (h : g.addr ≠ f.addr) : (s.bump f).get g = s.get g :=
  State.get_put_addr _ _ _ _ h

/-- A saturating counter counts by 1 until it holds its greatest value (R418). -/
theorem State.get_bump_same (s : State) (f : Fld) (h : f.lo + f.w ≤ 32) : (s.bump f).get f = min (s.get f + 1) (2 ^ f.w - 1) := by
  have : 0 < 2 ^ f.w := by positivity
  rw [State.bump, State.bumpBy, State.get_put_same _ _ _ h, Nat.mod_eq_of_lt]
  exact lt_of_le_of_lt (min_le_right _ _) (by omega)

/-! ### setWord -/

@[simp] theorem State.setWord_pending (s : State) (a : Nat) (w : Word) : (s.setWord a w).pending = s.pending := rfl
@[simp] theorem State.setWord_bays (s : State) (a : Nat) (w : Word) : (s.setWord a w).bays = s.bays := rfl
@[simp] theorem State.setWord_yards (s : State) (a : Nat) (w : Word) : (s.setWord a w).yards = s.yards := rfl
@[simp] theorem State.setWord_doms (s : State) (a : Nat) (w : Word) : (s.setWord a w).doms = s.doms := rfl
@[simp] theorem State.setWord_clusters (s : State) (a : Nat) (w : Word) : (s.setWord a w).clusters = s.clusters := rfl
@[simp] theorem State.setWord_rails (s : State) (a : Nat) (w : Word) : (s.setWord a w).rails = s.rails := rfl
@[simp] theorem State.setWord_phases (s : State) (a : Nat) (w : Word) : (s.setWord a w).phases = s.phases := rfl
@[simp] theorem State.setWord_ctxs (s : State) (a : Nat) (w : Word) : (s.setWord a w).ctxs = s.ctxs := rfl
@[simp] theorem State.setWord_tdm (s : State) (a : Nat) (w : Word) : (s.setWord a w).tdm = s.tdm := rfl
@[simp] theorem State.setWord_flash (s : State) (a : Nat) (w : Word) : (s.setWord a w).flash = s.flash := rfl
@[simp] theorem State.setWord_store (s : State) (a : Nat) (w : Word) : (s.setWord a w).store = s.store := rfl
@[simp] theorem State.setWord_capram (s : State) (a : Nat) (w : Word) : (s.setWord a w).capram = s.capram := rfl
@[simp] theorem State.setWord_latches (s : State) (a : Nat) (w : Word) : (s.setWord a w).latches = s.latches := rfl
@[simp] theorem State.setWord_mono (s : State) (a : Nat) (w : Word) : (s.setWord a w).mono = s.mono := rfl
@[simp] theorem State.setWord_sysTime (s : State) (a : Nat) (w : Word) : (s.setWord a w).sysTime = s.sysTime := rfl
@[simp] theorem State.setWord_sysHalf (s : State) (a : Nat) (w : Word) : (s.setWord a w).sysHalf = s.sysHalf := rfl
@[simp] theorem State.setWord_tbValid (s : State) (a : Nat) (w : Word) : (s.setWord a w).tbValid = s.tbValid := rfl
@[simp] theorem State.setWord_tbSeen (s : State) (a : Nat) (w : Word) : (s.setWord a w).tbSeen = s.tbSeen := rfl
@[simp] theorem State.setWord_tbLoaded (s : State) (a : Nat) (w : Word) : (s.setWord a w).tbLoaded = s.tbLoaded := rfl
@[simp] theorem State.setWord_r26 (s : State) (a : Nat) (w : Word) : (s.setWord a w).r26 = s.r26 := rfl
@[simp] theorem State.setWord_startAt (s : State) (a : Nat) (w : Word) : (s.setWord a w).startAt = s.startAt := rfl
@[simp] theorem State.setWord_lockAt (s : State) (a : Nat) (w : Word) : (s.setWord a w).lockAt = s.lockAt := rfl
@[simp] theorem State.setWord_quietFrom (s : State) (a : Nat) (w : Word) : (s.setWord a w).quietFrom = s.quietFrom := rfl
@[simp] theorem State.setWord_rollCalled (s : State) (a : Nat) (w : Word) : (s.setWord a w).rollCalled = s.rollCalled := rfl
@[simp] theorem State.setWord_image (s : State) (a : Nat) (w : Word) : (s.setWord a w).image = s.image := rfl
@[simp] theorem State.setWord_noRecord (s : State) (a : Nat) (w : Word) : (s.setWord a w).noRecord = s.noRecord := rfl
@[simp] theorem State.setWord_boot (s : State) (a : Nat) (w : Word) : (s.setWord a w).boot = s.boot := rfl
@[simp] theorem State.setWord_porStart (s : State) (a : Nat) (w : Word) : (s.setWord a w).porStart = s.porStart := rfl
@[simp] theorem State.setWord_rollAgain (s : State) (a : Nat) (w : Word) : (s.setWord a w).rollAgain = s.rollAgain := rfl
@[simp] theorem State.setWord_assertF (s : State) (a : Nat) (w : Word) : (s.setWord a w).assertF = s.assertF := rfl
@[simp] theorem State.setWord_cpReset (s : State) (a : Nat) (w : Word) : (s.setWord a w).cpReset = s.cpReset := rfl
@[simp] theorem State.setWord_blkReset (s : State) (a : Nat) (w : Word) : (s.setWord a w).blkReset = s.blkReset := rfl
@[simp] theorem State.setWord_opBase (s : State) (a : Nat) (w : Word) : (s.setWord a w).opBase = s.opBase := rfl
@[simp] theorem State.setWord_opFrom (s : State) (a : Nat) (w : Word) : (s.setWord a w).opFrom = s.opFrom := rfl
@[simp] theorem State.setWord_rpOut (s : State) (a : Nat) (w : Word) : (s.setWord a w).rpOut = s.rpOut := rfl
@[simp] theorem State.setWord_rpRsp (s : State) (a : Nat) (w : Word) : (s.setWord a w).rpRsp = s.rpRsp := rfl
@[simp] theorem State.setWord_mp (s : State) (a : Nat) (w : Word) : (s.setWord a w).mp = s.mp := rfl
@[simp] theorem State.setWord_mpRead (s : State) (a : Nat) (w : Word) : (s.setWord a w).mpRead = s.mpRead := rfl
@[simp] theorem State.setWord_mpDisec (s : State) (a : Nat) (w : Word) : (s.setWord a w).mpDisec = s.mpDisec := rfl
@[simp] theorem State.setWord_dbg (s : State) (a : Nat) (w : Word) : (s.setWord a w).dbg = s.dbg := rfl
@[simp] theorem State.setWord_dbgHeld (s : State) (a : Nat) (w : Word) : (s.setWord a w).dbgHeld = s.dbgHeld := rfl
@[simp] theorem State.setWord_laneErrs (s : State) (a : Nat) (w : Word) : (s.setWord a w).laneErrs = s.laneErrs := rfl
@[simp] theorem State.setWord_journal (s : State) (a : Nat) (w : Word) : (s.setWord a w).journal = s.journal := rfl
@[simp] theorem State.setWord_takeover (s : State) (a : Nat) (w : Word) : (s.setWord a w).takeover = s.takeover := rfl
@[simp] theorem State.setWord_taking (s : State) (a : Nat) (w : Word) : (s.setWord a w).taking = s.taking := rfl
@[simp] theorem State.setWord_latched (s : State) (a : Nat) (w : Word) : (s.setWord a w).latched = s.latched := rfl
@[simp] theorem State.setWord_kept (s : State) (a : Nat) (w : Word) : (s.setWord a w).kept = s.kept := rfl
@[simp] theorem State.setWord_startIn (s : State) (a : Nat) (w : Word) : (s.setWord a w).startIn = s.startIn := rfl
@[simp] theorem State.setWord_recSeq (s : State) (a : Nat) (w : Word) : (s.setWord a w).recSeq = s.recSeq := rfl
@[simp] theorem State.setWord_yardCount (s : State) (a : Nat) (w : Word) : (s.setWord a w).yardCount = s.yardCount := rfl
@[simp] theorem State.setWord_hn (s : State) (a : Nat) (w : Word) : (s.setWord a w).hn = s.hn := rfl
@[simp] theorem State.setWord_soReq (s : State) (a : Nat) (w : Word) : (s.setWord a w).soReq = s.soReq := rfl
@[simp] theorem State.setWord_soAck (s : State) (a : Nat) (w : Word) : (s.setWord a w).soAck = s.soAck := rfl
@[simp] theorem State.setWord_soFly (s : State) (a : Nat) (w : Word) : (s.setWord a w).soFly = s.soFly := rfl
@[simp] theorem State.setWord_soQueue (s : State) (a : Nat) (w : Word) : (s.setWord a w).soQueue = s.soQueue := rfl
@[simp] theorem State.setWord_sent (s : State) (a : Nat) (w : Word) : (s.setWord a w).sent = s.sent := rfl
@[simp] theorem State.setWord_sfn (s : State) (a : Nat) (w : Word) : (s.setWord a w).sfn = s.sfn := rfl
@[simp] theorem State.setWord_silent (s : State) (a : Nat) (w : Word) : (s.setWord a w).silent = s.silent := rfl
@[simp] theorem State.setWord_turn (s : State) (a : Nat) (w : Word) : (s.setWord a w).turn = s.turn := rfl
@[simp] theorem State.setWord_sfAt (s : State) (a : Nat) (w : Word) : (s.setWord a w).sfAt = s.sfAt := rfl
@[simp] theorem State.setWord_sfMono (s : State) (a : Nat) (w : Word) : (s.setWord a w).sfMono = s.sfMono := rfl
@[simp] theorem State.setWord_segDead (s : State) (a : Nat) (w : Word) : (s.setWord a w).segDead = s.segDead := rfl
@[simp] theorem State.setWord_colls (s : State) (a : Nat) (w : Word) : (s.setWord a w).colls = s.colls := rfl
@[simp] theorem State.setWord_collPend (s : State) (a : Nat) (w : Word) : (s.setWord a w).collPend = s.collPend := rfl
@[simp] theorem State.setWord_order (s : State) (a : Nat) (w : Word) : (s.setWord a w).order = s.order := rfl
@[simp] theorem State.setWord_claims (s : State) (a : Nat) (w : Word) : (s.setWord a w).claims = s.claims := rfl
@[simp] theorem State.setWord_due (s : State) (a : Nat) (w : Word) : (s.setWord a w).due = s.due := rfl
@[simp] theorem State.setWord_fly (s : State) (a : Nat) (w : Word) : (s.setWord a w).fly = s.fly := rfl
@[simp] theorem State.setWord_commits (s : State) (a : Nat) (w : Word) : (s.setWord a w).commits = s.commits := rfl
@[simp] theorem State.setWord_slotCommit (s : State) (a : Nat) (w : Word) : (s.setWord a w).slotCommit = s.slotCommit := rfl
@[simp] theorem State.setWord_dreBusy (s : State) (a : Nat) (w : Word) : (s.setWord a w).dreBusy = s.dreBusy := rfl
@[simp] theorem State.setWord_estimates (s : State) (a : Nat) (w : Word) : (s.setWord a w).estimates = s.estimates := rfl
@[simp] theorem State.setWord_closeSeq (s : State) (a : Nat) (w : Word) : (s.setWord a w).closeSeq = s.closeSeq := rfl
@[simp] theorem State.setWord_jobs (s : State) (a : Nat) (w : Word) : (s.setWord a w).jobs = s.jobs := rfl
@[simp] theorem State.setWord_jobNext (s : State) (a : Nat) (w : Word) : (s.setWord a w).jobNext = s.jobNext := rfl
@[simp] theorem State.setWord_load (s : State) (a : Nat) (w : Word) : (s.setWord a w).load = s.load := rfl
@[simp] theorem State.setWord_epochs (s : State) (a : Nat) (w : Word) : (s.setWord a w).epochs = s.epochs := rfl
@[simp] theorem State.setWord_lastEpoch (s : State) (a : Nat) (w : Word) : (s.setWord a w).lastEpoch = s.lastEpoch := rfl
@[simp] theorem State.setWord_cap (s : State) (a : Nat) (w : Word) : (s.setWord a w).cap = s.cap := rfl
@[simp] theorem State.setWord_episodes (s : State) (a : Nat) (w : Word) : (s.setWord a w).episodes = s.episodes := rfl
@[simp] theorem State.setWord_heatSeq (s : State) (a : Nat) (w : Word) : (s.setWord a w).heatSeq = s.heatSeq := rfl
@[simp] theorem State.setWord_shedSeq (s : State) (a : Nat) (w : Word) : (s.setWord a w).shedSeq = s.shedSeq := rfl
@[simp] theorem State.setWord_far (s : State) (a : Nat) (w : Word) : (s.setWord a w).far = s.far := rfl
@[simp] theorem State.setWord_farTag (s : State) (a : Nat) (w : Word) : (s.setWord a w).farTag = s.farTag := rfl
@[simp] theorem State.setWord_planTag (s : State) (a : Nat) (w : Word) : (s.setWord a w).planTag = s.planTag := rfl
@[simp] theorem State.setWord_farSeq (s : State) (a : Nat) (w : Word) : (s.setWord a w).farSeq = s.farSeq := rfl
@[simp] theorem State.setWord_farPlans (s : State) (a : Nat) (w : Word) : (s.setWord a w).farPlans = s.farPlans := rfl
@[simp] theorem State.setWord_subst (s : State) (a : Nat) (w : Word) : (s.setWord a w).subst = s.subst := rfl
@[simp] theorem State.setWord_substWait (s : State) (a : Nat) (w : Word) : (s.setWord a w).substWait = s.substWait := rfl
@[simp] theorem State.setWord_unspared (s : State) (a : Nat) (w : Word) : (s.setWord a w).unspared = s.unspared := rfl
@[simp] theorem State.setWord_farRecord (s : State) (a : Nat) (w : Word) : (s.setWord a w).farRecord = s.farRecord := rfl
@[simp] theorem State.setWord_farBased (s : State) (a : Nat) (w : Word) : (s.setWord a w).farBased = s.farBased := rfl
@[simp] theorem State.setWord_farDirty (s : State) (a : Nat) (w : Word) : (s.setWord a w).farDirty = s.farDirty := rfl
@[simp] theorem State.setWord_devRun (s : State) (a : Nat) (w : Word) : (s.setWord a w).devRun = s.devRun := rfl
@[simp] theorem State.setWord_critRun (s : State) (a : Nat) (w : Word) : (s.setWord a w).critRun = s.critRun := rfl
@[simp] theorem State.setWord_warm (s : State) (a : Nat) (w : Word) : (s.setWord a w).warm = s.warm := rfl
@[simp] theorem State.setWord_proofBase (s : State) (a : Nat) (w : Word) : (s.setWord a w).proofBase = s.proofBase := rfl
@[simp] theorem State.setWord_wayOnAt (s : State) (a : Nat) (w : Word) : (s.setWord a w).wayOnAt = s.wayOnAt := rfl
@[simp] theorem State.setWord_proved (s : State) (a : Nat) (w : Word) : (s.setWord a w).proved = s.proved := rfl
@[simp] theorem State.setWord_lastTemps (s : State) (a : Nat) (w : Word) : (s.setWord a w).lastTemps = s.lastTemps := rfl
@[simp] theorem State.setWord_proof (s : State) (a : Nat) (w : Word) : (s.setWord a w).proof = s.proof := rfl
@[simp] theorem State.setWord_precond (s : State) (a : Nat) (w : Word) : (s.setWord a w).precond = s.precond := rfl
@[simp] theorem State.setWord_oscTrim (s : State) (a : Nat) (w : Word) : (s.setWord a w).oscTrim = s.oscTrim := rfl
@[simp] theorem State.setWord_scScale (s : State) (a : Nat) (w : Word) : (s.setWord a w).scScale = s.scScale := rfl
@[simp] theorem State.setWord_act (s : State) (a : Nat) (w : Word) : (s.setWord a w).act = s.act := rfl
@[simp] theorem State.setWord_inject (s : State) (a : Nat) (w : Word) : (s.setWord a w).inject = s.inject := rfl
@[simp] theorem State.setWord_armedErr (s : State) (a : Nat) (w : Word) : (s.setWord a w).armedErr = s.armedErr := rfl
@[simp] theorem State.setWord_log (s : State) (a : Nat) (w : Word) : (s.setWord a w).log = s.log := rfl
@[simp] theorem State.setWord_tokens (s : State) (a : Nat) (w : Word) : (s.setWord a w).tokens = s.tokens := rfl
@[simp] theorem State.setWord_supp (s : State) (a : Nat) (w : Word) : (s.setWord a w).supp = s.supp := rfl
@[simp] theorem State.setWord_logSeq (s : State) (a : Nat) (w : Word) : (s.setWord a w).logSeq = s.logSeq := rfl
@[simp] theorem State.setWord_logTop (s : State) (a : Nat) (w : Word) : (s.setWord a w).logTop = s.logTop := rfl
@[simp] theorem State.setWord_tkSector (s : State) (a : Nat) (w : Word) : (s.setWord a w).tkSector = s.tkSector := rfl
@[simp] theorem State.setWord_tkSlot (s : State) (a : Nat) (w : Word) : (s.setWord a w).tkSlot = s.tkSlot := rfl
@[simp] theorem State.setWord_curSector (s : State) (a : Nat) (w : Word) : (s.setWord a w).curSector = s.curSector := rfl
@[simp] theorem State.setWord_frozenStaged (s : State) (a : Nat) (w : Word) : (s.setWord a w).frozenStaged = s.frozenStaged := rfl
@[simp] theorem State.setWord_frozenDropped (s : State) (a : Nat) (w : Word) : (s.setWord a w).frozenDropped = s.frozenDropped := rfl
@[simp] theorem State.setWord_flashOp (s : State) (a : Nat) (w : Word) : (s.setWord a w).flashOp = s.flashOp := rfl
@[simp] theorem State.setWord_logErase (s : State) (a : Nat) (w : Word) : (s.setWord a w).logErase = s.logErase := rfl
@[simp] theorem State.setWord_logTag (s : State) (a : Nat) (w : Word) : (s.setWord a w).logTag = s.logTag := rfl
@[simp] theorem State.setWord_scrubs (s : State) (a : Nat) (w : Word) : (s.setWord a w).scrubs = s.scrubs := rfl
@[simp] theorem State.setWord_wasActive (s : State) (a : Nat) (w : Word) : (s.setWord a w).wasActive = s.wasActive := rfl
@[simp] theorem State.setWord_win10 (s : State) (a : Nat) (w : Word) : (s.setWord a w).win10 = s.win10 := rfl
@[simp] theorem State.setWord_acc10 (s : State) (a : Nat) (w : Word) : (s.setWord a w).acc10 = s.acc10 := rfl
@[simp] theorem State.setWord_shown10 (s : State) (a : Nat) (w : Word) : (s.setWord a w).shown10 = s.shown10 := rfl
@[simp] theorem State.setWord_pmbMiss (s : State) (a : Nat) (w : Word) : (s.setWord a w).pmbMiss = s.pmbMiss := rfl
@[simp] theorem State.setWord_pmbScan (s : State) (a : Nat) (w : Word) : (s.setWord a w).pmbScan = s.pmbScan := rfl
@[simp] theorem State.setWord_pmbGood (s : State) (a : Nat) (w : Word) : (s.setWord a w).pmbGood = s.pmbGood := rfl
@[simp] theorem State.setWord_pmbMismatch (s : State) (a : Nat) (w : Word) : (s.setWord a w).pmbMismatch = s.pmbMismatch := rfl
@[simp] theorem State.setWord_pmbRaw (s : State) (a : Nat) (w : Word) : (s.setWord a w).pmbRaw = s.pmbRaw := rfl
@[simp] theorem State.setWord_pmbAlerted (s : State) (a : Nat) (w : Word) : (s.setWord a w).pmbAlerted = s.pmbAlerted := rfl
@[simp] theorem State.setWord_ibus (s : State) (a : Nat) (w : Word) : (s.setWord a w).ibus = s.ibus := rfl
@[simp] theorem State.setWord_ibusLow (s : State) (a : Nat) (w : Word) : (s.setWord a w).ibusLow = s.ibusLow := rfl
@[simp] theorem State.setWord_fltAt (s : State) (a : Nat) (w : Word) : (s.setWord a w).fltAt = s.fltAt := rfl
@[simp] theorem State.setWord_fltDeclared (s : State) (a : Nat) (w : Word) : (s.setWord a w).fltDeclared = s.fltDeclared := rfl
@[simp] theorem State.setWord_alertAt (s : State) (a : Nat) (w : Word) : (s.setWord a w).alertAt = s.alertAt := rfl
@[simp] theorem State.setWord_free (s : State) (a : Nat) (w : Word) : (s.setWord a w).free = s.free := rfl

/-! ### put -/

@[simp] theorem State.put_pending (s : State) (f : Fld) (v : Nat) : (s.put f v).pending = s.pending := rfl
@[simp] theorem State.put_bays (s : State) (f : Fld) (v : Nat) : (s.put f v).bays = s.bays := rfl
@[simp] theorem State.put_yards (s : State) (f : Fld) (v : Nat) : (s.put f v).yards = s.yards := rfl
@[simp] theorem State.put_doms (s : State) (f : Fld) (v : Nat) : (s.put f v).doms = s.doms := rfl
@[simp] theorem State.put_clusters (s : State) (f : Fld) (v : Nat) : (s.put f v).clusters = s.clusters := rfl
@[simp] theorem State.put_rails (s : State) (f : Fld) (v : Nat) : (s.put f v).rails = s.rails := rfl
@[simp] theorem State.put_phases (s : State) (f : Fld) (v : Nat) : (s.put f v).phases = s.phases := rfl
@[simp] theorem State.put_ctxs (s : State) (f : Fld) (v : Nat) : (s.put f v).ctxs = s.ctxs := rfl
@[simp] theorem State.put_tdm (s : State) (f : Fld) (v : Nat) : (s.put f v).tdm = s.tdm := rfl
@[simp] theorem State.put_flash (s : State) (f : Fld) (v : Nat) : (s.put f v).flash = s.flash := rfl
@[simp] theorem State.put_store (s : State) (f : Fld) (v : Nat) : (s.put f v).store = s.store := rfl
@[simp] theorem State.put_capram (s : State) (f : Fld) (v : Nat) : (s.put f v).capram = s.capram := rfl
@[simp] theorem State.put_latches (s : State) (f : Fld) (v : Nat) : (s.put f v).latches = s.latches := rfl
@[simp] theorem State.put_mono (s : State) (f : Fld) (v : Nat) : (s.put f v).mono = s.mono := rfl
@[simp] theorem State.put_sysTime (s : State) (f : Fld) (v : Nat) : (s.put f v).sysTime = s.sysTime := rfl
@[simp] theorem State.put_sysHalf (s : State) (f : Fld) (v : Nat) : (s.put f v).sysHalf = s.sysHalf := rfl
@[simp] theorem State.put_tbValid (s : State) (f : Fld) (v : Nat) : (s.put f v).tbValid = s.tbValid := rfl
@[simp] theorem State.put_tbSeen (s : State) (f : Fld) (v : Nat) : (s.put f v).tbSeen = s.tbSeen := rfl
@[simp] theorem State.put_tbLoaded (s : State) (f : Fld) (v : Nat) : (s.put f v).tbLoaded = s.tbLoaded := rfl
@[simp] theorem State.put_r26 (s : State) (f : Fld) (v : Nat) : (s.put f v).r26 = s.r26 := rfl
@[simp] theorem State.put_startAt (s : State) (f : Fld) (v : Nat) : (s.put f v).startAt = s.startAt := rfl
@[simp] theorem State.put_lockAt (s : State) (f : Fld) (v : Nat) : (s.put f v).lockAt = s.lockAt := rfl
@[simp] theorem State.put_quietFrom (s : State) (f : Fld) (v : Nat) : (s.put f v).quietFrom = s.quietFrom := rfl
@[simp] theorem State.put_rollCalled (s : State) (f : Fld) (v : Nat) : (s.put f v).rollCalled = s.rollCalled := rfl
@[simp] theorem State.put_image (s : State) (f : Fld) (v : Nat) : (s.put f v).image = s.image := rfl
@[simp] theorem State.put_noRecord (s : State) (f : Fld) (v : Nat) : (s.put f v).noRecord = s.noRecord := rfl
@[simp] theorem State.put_boot (s : State) (f : Fld) (v : Nat) : (s.put f v).boot = s.boot := rfl
@[simp] theorem State.put_porStart (s : State) (f : Fld) (v : Nat) : (s.put f v).porStart = s.porStart := rfl
@[simp] theorem State.put_rollAgain (s : State) (f : Fld) (v : Nat) : (s.put f v).rollAgain = s.rollAgain := rfl
@[simp] theorem State.put_assertF (s : State) (f : Fld) (v : Nat) : (s.put f v).assertF = s.assertF := rfl
@[simp] theorem State.put_cpReset (s : State) (f : Fld) (v : Nat) : (s.put f v).cpReset = s.cpReset := rfl
@[simp] theorem State.put_blkReset (s : State) (f : Fld) (v : Nat) : (s.put f v).blkReset = s.blkReset := rfl
@[simp] theorem State.put_opBase (s : State) (f : Fld) (v : Nat) : (s.put f v).opBase = s.opBase := rfl
@[simp] theorem State.put_opFrom (s : State) (f : Fld) (v : Nat) : (s.put f v).opFrom = s.opFrom := rfl
@[simp] theorem State.put_rpOut (s : State) (f : Fld) (v : Nat) : (s.put f v).rpOut = s.rpOut := rfl
@[simp] theorem State.put_rpRsp (s : State) (f : Fld) (v : Nat) : (s.put f v).rpRsp = s.rpRsp := rfl
@[simp] theorem State.put_mp (s : State) (f : Fld) (v : Nat) : (s.put f v).mp = s.mp := rfl
@[simp] theorem State.put_mpRead (s : State) (f : Fld) (v : Nat) : (s.put f v).mpRead = s.mpRead := rfl
@[simp] theorem State.put_mpDisec (s : State) (f : Fld) (v : Nat) : (s.put f v).mpDisec = s.mpDisec := rfl
@[simp] theorem State.put_dbg (s : State) (f : Fld) (v : Nat) : (s.put f v).dbg = s.dbg := rfl
@[simp] theorem State.put_dbgHeld (s : State) (f : Fld) (v : Nat) : (s.put f v).dbgHeld = s.dbgHeld := rfl
@[simp] theorem State.put_laneErrs (s : State) (f : Fld) (v : Nat) : (s.put f v).laneErrs = s.laneErrs := rfl
@[simp] theorem State.put_journal (s : State) (f : Fld) (v : Nat) : (s.put f v).journal = s.journal := rfl
@[simp] theorem State.put_takeover (s : State) (f : Fld) (v : Nat) : (s.put f v).takeover = s.takeover := rfl
@[simp] theorem State.put_taking (s : State) (f : Fld) (v : Nat) : (s.put f v).taking = s.taking := rfl
@[simp] theorem State.put_latched (s : State) (f : Fld) (v : Nat) : (s.put f v).latched = s.latched := rfl
@[simp] theorem State.put_kept (s : State) (f : Fld) (v : Nat) : (s.put f v).kept = s.kept := rfl
@[simp] theorem State.put_startIn (s : State) (f : Fld) (v : Nat) : (s.put f v).startIn = s.startIn := rfl
@[simp] theorem State.put_recSeq (s : State) (f : Fld) (v : Nat) : (s.put f v).recSeq = s.recSeq := rfl
@[simp] theorem State.put_yardCount (s : State) (f : Fld) (v : Nat) : (s.put f v).yardCount = s.yardCount := rfl
@[simp] theorem State.put_hn (s : State) (f : Fld) (v : Nat) : (s.put f v).hn = s.hn := rfl
@[simp] theorem State.put_soReq (s : State) (f : Fld) (v : Nat) : (s.put f v).soReq = s.soReq := rfl
@[simp] theorem State.put_soAck (s : State) (f : Fld) (v : Nat) : (s.put f v).soAck = s.soAck := rfl
@[simp] theorem State.put_soFly (s : State) (f : Fld) (v : Nat) : (s.put f v).soFly = s.soFly := rfl
@[simp] theorem State.put_soQueue (s : State) (f : Fld) (v : Nat) : (s.put f v).soQueue = s.soQueue := rfl
@[simp] theorem State.put_sent (s : State) (f : Fld) (v : Nat) : (s.put f v).sent = s.sent := rfl
@[simp] theorem State.put_sfn (s : State) (f : Fld) (v : Nat) : (s.put f v).sfn = s.sfn := rfl
@[simp] theorem State.put_silent (s : State) (f : Fld) (v : Nat) : (s.put f v).silent = s.silent := rfl
@[simp] theorem State.put_turn (s : State) (f : Fld) (v : Nat) : (s.put f v).turn = s.turn := rfl
@[simp] theorem State.put_sfAt (s : State) (f : Fld) (v : Nat) : (s.put f v).sfAt = s.sfAt := rfl
@[simp] theorem State.put_sfMono (s : State) (f : Fld) (v : Nat) : (s.put f v).sfMono = s.sfMono := rfl
@[simp] theorem State.put_segDead (s : State) (f : Fld) (v : Nat) : (s.put f v).segDead = s.segDead := rfl
@[simp] theorem State.put_colls (s : State) (f : Fld) (v : Nat) : (s.put f v).colls = s.colls := rfl
@[simp] theorem State.put_collPend (s : State) (f : Fld) (v : Nat) : (s.put f v).collPend = s.collPend := rfl
@[simp] theorem State.put_order (s : State) (f : Fld) (v : Nat) : (s.put f v).order = s.order := rfl
@[simp] theorem State.put_claims (s : State) (f : Fld) (v : Nat) : (s.put f v).claims = s.claims := rfl
@[simp] theorem State.put_due (s : State) (f : Fld) (v : Nat) : (s.put f v).due = s.due := rfl
@[simp] theorem State.put_fly (s : State) (f : Fld) (v : Nat) : (s.put f v).fly = s.fly := rfl
@[simp] theorem State.put_commits (s : State) (f : Fld) (v : Nat) : (s.put f v).commits = s.commits := rfl
@[simp] theorem State.put_slotCommit (s : State) (f : Fld) (v : Nat) : (s.put f v).slotCommit = s.slotCommit := rfl
@[simp] theorem State.put_dreBusy (s : State) (f : Fld) (v : Nat) : (s.put f v).dreBusy = s.dreBusy := rfl
@[simp] theorem State.put_estimates (s : State) (f : Fld) (v : Nat) : (s.put f v).estimates = s.estimates := rfl
@[simp] theorem State.put_closeSeq (s : State) (f : Fld) (v : Nat) : (s.put f v).closeSeq = s.closeSeq := rfl
@[simp] theorem State.put_jobs (s : State) (f : Fld) (v : Nat) : (s.put f v).jobs = s.jobs := rfl
@[simp] theorem State.put_jobNext (s : State) (f : Fld) (v : Nat) : (s.put f v).jobNext = s.jobNext := rfl
@[simp] theorem State.put_load (s : State) (f : Fld) (v : Nat) : (s.put f v).load = s.load := rfl
@[simp] theorem State.put_epochs (s : State) (f : Fld) (v : Nat) : (s.put f v).epochs = s.epochs := rfl
@[simp] theorem State.put_lastEpoch (s : State) (f : Fld) (v : Nat) : (s.put f v).lastEpoch = s.lastEpoch := rfl
@[simp] theorem State.put_cap (s : State) (f : Fld) (v : Nat) : (s.put f v).cap = s.cap := rfl
@[simp] theorem State.put_episodes (s : State) (f : Fld) (v : Nat) : (s.put f v).episodes = s.episodes := rfl
@[simp] theorem State.put_heatSeq (s : State) (f : Fld) (v : Nat) : (s.put f v).heatSeq = s.heatSeq := rfl
@[simp] theorem State.put_shedSeq (s : State) (f : Fld) (v : Nat) : (s.put f v).shedSeq = s.shedSeq := rfl
@[simp] theorem State.put_far (s : State) (f : Fld) (v : Nat) : (s.put f v).far = s.far := rfl
@[simp] theorem State.put_farTag (s : State) (f : Fld) (v : Nat) : (s.put f v).farTag = s.farTag := rfl
@[simp] theorem State.put_planTag (s : State) (f : Fld) (v : Nat) : (s.put f v).planTag = s.planTag := rfl
@[simp] theorem State.put_farSeq (s : State) (f : Fld) (v : Nat) : (s.put f v).farSeq = s.farSeq := rfl
@[simp] theorem State.put_farPlans (s : State) (f : Fld) (v : Nat) : (s.put f v).farPlans = s.farPlans := rfl
@[simp] theorem State.put_subst (s : State) (f : Fld) (v : Nat) : (s.put f v).subst = s.subst := rfl
@[simp] theorem State.put_substWait (s : State) (f : Fld) (v : Nat) : (s.put f v).substWait = s.substWait := rfl
@[simp] theorem State.put_unspared (s : State) (f : Fld) (v : Nat) : (s.put f v).unspared = s.unspared := rfl
@[simp] theorem State.put_farRecord (s : State) (f : Fld) (v : Nat) : (s.put f v).farRecord = s.farRecord := rfl
@[simp] theorem State.put_farBased (s : State) (f : Fld) (v : Nat) : (s.put f v).farBased = s.farBased := rfl
@[simp] theorem State.put_farDirty (s : State) (f : Fld) (v : Nat) : (s.put f v).farDirty = s.farDirty := rfl
@[simp] theorem State.put_devRun (s : State) (f : Fld) (v : Nat) : (s.put f v).devRun = s.devRun := rfl
@[simp] theorem State.put_critRun (s : State) (f : Fld) (v : Nat) : (s.put f v).critRun = s.critRun := rfl
@[simp] theorem State.put_warm (s : State) (f : Fld) (v : Nat) : (s.put f v).warm = s.warm := rfl
@[simp] theorem State.put_proofBase (s : State) (f : Fld) (v : Nat) : (s.put f v).proofBase = s.proofBase := rfl
@[simp] theorem State.put_wayOnAt (s : State) (f : Fld) (v : Nat) : (s.put f v).wayOnAt = s.wayOnAt := rfl
@[simp] theorem State.put_proved (s : State) (f : Fld) (v : Nat) : (s.put f v).proved = s.proved := rfl
@[simp] theorem State.put_lastTemps (s : State) (f : Fld) (v : Nat) : (s.put f v).lastTemps = s.lastTemps := rfl
@[simp] theorem State.put_proof (s : State) (f : Fld) (v : Nat) : (s.put f v).proof = s.proof := rfl
@[simp] theorem State.put_precond (s : State) (f : Fld) (v : Nat) : (s.put f v).precond = s.precond := rfl
@[simp] theorem State.put_oscTrim (s : State) (f : Fld) (v : Nat) : (s.put f v).oscTrim = s.oscTrim := rfl
@[simp] theorem State.put_scScale (s : State) (f : Fld) (v : Nat) : (s.put f v).scScale = s.scScale := rfl
@[simp] theorem State.put_act (s : State) (f : Fld) (v : Nat) : (s.put f v).act = s.act := rfl
@[simp] theorem State.put_inject (s : State) (f : Fld) (v : Nat) : (s.put f v).inject = s.inject := rfl
@[simp] theorem State.put_armedErr (s : State) (f : Fld) (v : Nat) : (s.put f v).armedErr = s.armedErr := rfl
@[simp] theorem State.put_log (s : State) (f : Fld) (v : Nat) : (s.put f v).log = s.log := rfl
@[simp] theorem State.put_tokens (s : State) (f : Fld) (v : Nat) : (s.put f v).tokens = s.tokens := rfl
@[simp] theorem State.put_supp (s : State) (f : Fld) (v : Nat) : (s.put f v).supp = s.supp := rfl
@[simp] theorem State.put_logSeq (s : State) (f : Fld) (v : Nat) : (s.put f v).logSeq = s.logSeq := rfl
@[simp] theorem State.put_logTop (s : State) (f : Fld) (v : Nat) : (s.put f v).logTop = s.logTop := rfl
@[simp] theorem State.put_tkSector (s : State) (f : Fld) (v : Nat) : (s.put f v).tkSector = s.tkSector := rfl
@[simp] theorem State.put_tkSlot (s : State) (f : Fld) (v : Nat) : (s.put f v).tkSlot = s.tkSlot := rfl
@[simp] theorem State.put_curSector (s : State) (f : Fld) (v : Nat) : (s.put f v).curSector = s.curSector := rfl
@[simp] theorem State.put_frozenStaged (s : State) (f : Fld) (v : Nat) : (s.put f v).frozenStaged = s.frozenStaged := rfl
@[simp] theorem State.put_frozenDropped (s : State) (f : Fld) (v : Nat) : (s.put f v).frozenDropped = s.frozenDropped := rfl
@[simp] theorem State.put_flashOp (s : State) (f : Fld) (v : Nat) : (s.put f v).flashOp = s.flashOp := rfl
@[simp] theorem State.put_logErase (s : State) (f : Fld) (v : Nat) : (s.put f v).logErase = s.logErase := rfl
@[simp] theorem State.put_logTag (s : State) (f : Fld) (v : Nat) : (s.put f v).logTag = s.logTag := rfl
@[simp] theorem State.put_scrubs (s : State) (f : Fld) (v : Nat) : (s.put f v).scrubs = s.scrubs := rfl
@[simp] theorem State.put_wasActive (s : State) (f : Fld) (v : Nat) : (s.put f v).wasActive = s.wasActive := rfl
@[simp] theorem State.put_win10 (s : State) (f : Fld) (v : Nat) : (s.put f v).win10 = s.win10 := rfl
@[simp] theorem State.put_acc10 (s : State) (f : Fld) (v : Nat) : (s.put f v).acc10 = s.acc10 := rfl
@[simp] theorem State.put_shown10 (s : State) (f : Fld) (v : Nat) : (s.put f v).shown10 = s.shown10 := rfl
@[simp] theorem State.put_pmbMiss (s : State) (f : Fld) (v : Nat) : (s.put f v).pmbMiss = s.pmbMiss := rfl
@[simp] theorem State.put_pmbScan (s : State) (f : Fld) (v : Nat) : (s.put f v).pmbScan = s.pmbScan := rfl
@[simp] theorem State.put_pmbGood (s : State) (f : Fld) (v : Nat) : (s.put f v).pmbGood = s.pmbGood := rfl
@[simp] theorem State.put_pmbMismatch (s : State) (f : Fld) (v : Nat) : (s.put f v).pmbMismatch = s.pmbMismatch := rfl
@[simp] theorem State.put_pmbRaw (s : State) (f : Fld) (v : Nat) : (s.put f v).pmbRaw = s.pmbRaw := rfl
@[simp] theorem State.put_pmbAlerted (s : State) (f : Fld) (v : Nat) : (s.put f v).pmbAlerted = s.pmbAlerted := rfl
@[simp] theorem State.put_ibus (s : State) (f : Fld) (v : Nat) : (s.put f v).ibus = s.ibus := rfl
@[simp] theorem State.put_ibusLow (s : State) (f : Fld) (v : Nat) : (s.put f v).ibusLow = s.ibusLow := rfl
@[simp] theorem State.put_fltAt (s : State) (f : Fld) (v : Nat) : (s.put f v).fltAt = s.fltAt := rfl
@[simp] theorem State.put_fltDeclared (s : State) (f : Fld) (v : Nat) : (s.put f v).fltDeclared = s.fltDeclared := rfl
@[simp] theorem State.put_alertAt (s : State) (f : Fld) (v : Nat) : (s.put f v).alertAt = s.alertAt := rfl
@[simp] theorem State.put_free (s : State) (f : Fld) (v : Nat) : (s.put f v).free = s.free := rfl

/-! ### bump -/

@[simp] theorem State.bump_pending (s : State) (f : Fld) : (s.bump f).pending = s.pending := rfl
@[simp] theorem State.bump_bays (s : State) (f : Fld) : (s.bump f).bays = s.bays := rfl
@[simp] theorem State.bump_yards (s : State) (f : Fld) : (s.bump f).yards = s.yards := rfl
@[simp] theorem State.bump_doms (s : State) (f : Fld) : (s.bump f).doms = s.doms := rfl
@[simp] theorem State.bump_clusters (s : State) (f : Fld) : (s.bump f).clusters = s.clusters := rfl
@[simp] theorem State.bump_rails (s : State) (f : Fld) : (s.bump f).rails = s.rails := rfl
@[simp] theorem State.bump_phases (s : State) (f : Fld) : (s.bump f).phases = s.phases := rfl
@[simp] theorem State.bump_ctxs (s : State) (f : Fld) : (s.bump f).ctxs = s.ctxs := rfl
@[simp] theorem State.bump_tdm (s : State) (f : Fld) : (s.bump f).tdm = s.tdm := rfl
@[simp] theorem State.bump_flash (s : State) (f : Fld) : (s.bump f).flash = s.flash := rfl
@[simp] theorem State.bump_store (s : State) (f : Fld) : (s.bump f).store = s.store := rfl
@[simp] theorem State.bump_capram (s : State) (f : Fld) : (s.bump f).capram = s.capram := rfl
@[simp] theorem State.bump_latches (s : State) (f : Fld) : (s.bump f).latches = s.latches := rfl
@[simp] theorem State.bump_mono (s : State) (f : Fld) : (s.bump f).mono = s.mono := rfl
@[simp] theorem State.bump_sysTime (s : State) (f : Fld) : (s.bump f).sysTime = s.sysTime := rfl
@[simp] theorem State.bump_sysHalf (s : State) (f : Fld) : (s.bump f).sysHalf = s.sysHalf := rfl
@[simp] theorem State.bump_tbValid (s : State) (f : Fld) : (s.bump f).tbValid = s.tbValid := rfl
@[simp] theorem State.bump_tbSeen (s : State) (f : Fld) : (s.bump f).tbSeen = s.tbSeen := rfl
@[simp] theorem State.bump_tbLoaded (s : State) (f : Fld) : (s.bump f).tbLoaded = s.tbLoaded := rfl
@[simp] theorem State.bump_r26 (s : State) (f : Fld) : (s.bump f).r26 = s.r26 := rfl
@[simp] theorem State.bump_startAt (s : State) (f : Fld) : (s.bump f).startAt = s.startAt := rfl
@[simp] theorem State.bump_lockAt (s : State) (f : Fld) : (s.bump f).lockAt = s.lockAt := rfl
@[simp] theorem State.bump_quietFrom (s : State) (f : Fld) : (s.bump f).quietFrom = s.quietFrom := rfl
@[simp] theorem State.bump_rollCalled (s : State) (f : Fld) : (s.bump f).rollCalled = s.rollCalled := rfl
@[simp] theorem State.bump_image (s : State) (f : Fld) : (s.bump f).image = s.image := rfl
@[simp] theorem State.bump_noRecord (s : State) (f : Fld) : (s.bump f).noRecord = s.noRecord := rfl
@[simp] theorem State.bump_boot (s : State) (f : Fld) : (s.bump f).boot = s.boot := rfl
@[simp] theorem State.bump_porStart (s : State) (f : Fld) : (s.bump f).porStart = s.porStart := rfl
@[simp] theorem State.bump_rollAgain (s : State) (f : Fld) : (s.bump f).rollAgain = s.rollAgain := rfl
@[simp] theorem State.bump_assertF (s : State) (f : Fld) : (s.bump f).assertF = s.assertF := rfl
@[simp] theorem State.bump_cpReset (s : State) (f : Fld) : (s.bump f).cpReset = s.cpReset := rfl
@[simp] theorem State.bump_blkReset (s : State) (f : Fld) : (s.bump f).blkReset = s.blkReset := rfl
@[simp] theorem State.bump_opBase (s : State) (f : Fld) : (s.bump f).opBase = s.opBase := rfl
@[simp] theorem State.bump_opFrom (s : State) (f : Fld) : (s.bump f).opFrom = s.opFrom := rfl
@[simp] theorem State.bump_rpOut (s : State) (f : Fld) : (s.bump f).rpOut = s.rpOut := rfl
@[simp] theorem State.bump_rpRsp (s : State) (f : Fld) : (s.bump f).rpRsp = s.rpRsp := rfl
@[simp] theorem State.bump_mp (s : State) (f : Fld) : (s.bump f).mp = s.mp := rfl
@[simp] theorem State.bump_mpRead (s : State) (f : Fld) : (s.bump f).mpRead = s.mpRead := rfl
@[simp] theorem State.bump_mpDisec (s : State) (f : Fld) : (s.bump f).mpDisec = s.mpDisec := rfl
@[simp] theorem State.bump_dbg (s : State) (f : Fld) : (s.bump f).dbg = s.dbg := rfl
@[simp] theorem State.bump_dbgHeld (s : State) (f : Fld) : (s.bump f).dbgHeld = s.dbgHeld := rfl
@[simp] theorem State.bump_laneErrs (s : State) (f : Fld) : (s.bump f).laneErrs = s.laneErrs := rfl
@[simp] theorem State.bump_journal (s : State) (f : Fld) : (s.bump f).journal = s.journal := rfl
@[simp] theorem State.bump_takeover (s : State) (f : Fld) : (s.bump f).takeover = s.takeover := rfl
@[simp] theorem State.bump_taking (s : State) (f : Fld) : (s.bump f).taking = s.taking := rfl
@[simp] theorem State.bump_latched (s : State) (f : Fld) : (s.bump f).latched = s.latched := rfl
@[simp] theorem State.bump_kept (s : State) (f : Fld) : (s.bump f).kept = s.kept := rfl
@[simp] theorem State.bump_startIn (s : State) (f : Fld) : (s.bump f).startIn = s.startIn := rfl
@[simp] theorem State.bump_recSeq (s : State) (f : Fld) : (s.bump f).recSeq = s.recSeq := rfl
@[simp] theorem State.bump_yardCount (s : State) (f : Fld) : (s.bump f).yardCount = s.yardCount := rfl
@[simp] theorem State.bump_hn (s : State) (f : Fld) : (s.bump f).hn = s.hn := rfl
@[simp] theorem State.bump_soReq (s : State) (f : Fld) : (s.bump f).soReq = s.soReq := rfl
@[simp] theorem State.bump_soAck (s : State) (f : Fld) : (s.bump f).soAck = s.soAck := rfl
@[simp] theorem State.bump_soFly (s : State) (f : Fld) : (s.bump f).soFly = s.soFly := rfl
@[simp] theorem State.bump_soQueue (s : State) (f : Fld) : (s.bump f).soQueue = s.soQueue := rfl
@[simp] theorem State.bump_sent (s : State) (f : Fld) : (s.bump f).sent = s.sent := rfl
@[simp] theorem State.bump_sfn (s : State) (f : Fld) : (s.bump f).sfn = s.sfn := rfl
@[simp] theorem State.bump_silent (s : State) (f : Fld) : (s.bump f).silent = s.silent := rfl
@[simp] theorem State.bump_turn (s : State) (f : Fld) : (s.bump f).turn = s.turn := rfl
@[simp] theorem State.bump_sfAt (s : State) (f : Fld) : (s.bump f).sfAt = s.sfAt := rfl
@[simp] theorem State.bump_sfMono (s : State) (f : Fld) : (s.bump f).sfMono = s.sfMono := rfl
@[simp] theorem State.bump_segDead (s : State) (f : Fld) : (s.bump f).segDead = s.segDead := rfl
@[simp] theorem State.bump_colls (s : State) (f : Fld) : (s.bump f).colls = s.colls := rfl
@[simp] theorem State.bump_collPend (s : State) (f : Fld) : (s.bump f).collPend = s.collPend := rfl
@[simp] theorem State.bump_order (s : State) (f : Fld) : (s.bump f).order = s.order := rfl
@[simp] theorem State.bump_claims (s : State) (f : Fld) : (s.bump f).claims = s.claims := rfl
@[simp] theorem State.bump_due (s : State) (f : Fld) : (s.bump f).due = s.due := rfl
@[simp] theorem State.bump_fly (s : State) (f : Fld) : (s.bump f).fly = s.fly := rfl
@[simp] theorem State.bump_commits (s : State) (f : Fld) : (s.bump f).commits = s.commits := rfl
@[simp] theorem State.bump_slotCommit (s : State) (f : Fld) : (s.bump f).slotCommit = s.slotCommit := rfl
@[simp] theorem State.bump_dreBusy (s : State) (f : Fld) : (s.bump f).dreBusy = s.dreBusy := rfl
@[simp] theorem State.bump_estimates (s : State) (f : Fld) : (s.bump f).estimates = s.estimates := rfl
@[simp] theorem State.bump_closeSeq (s : State) (f : Fld) : (s.bump f).closeSeq = s.closeSeq := rfl
@[simp] theorem State.bump_jobs (s : State) (f : Fld) : (s.bump f).jobs = s.jobs := rfl
@[simp] theorem State.bump_jobNext (s : State) (f : Fld) : (s.bump f).jobNext = s.jobNext := rfl
@[simp] theorem State.bump_load (s : State) (f : Fld) : (s.bump f).load = s.load := rfl
@[simp] theorem State.bump_epochs (s : State) (f : Fld) : (s.bump f).epochs = s.epochs := rfl
@[simp] theorem State.bump_lastEpoch (s : State) (f : Fld) : (s.bump f).lastEpoch = s.lastEpoch := rfl
@[simp] theorem State.bump_cap (s : State) (f : Fld) : (s.bump f).cap = s.cap := rfl
@[simp] theorem State.bump_episodes (s : State) (f : Fld) : (s.bump f).episodes = s.episodes := rfl
@[simp] theorem State.bump_heatSeq (s : State) (f : Fld) : (s.bump f).heatSeq = s.heatSeq := rfl
@[simp] theorem State.bump_shedSeq (s : State) (f : Fld) : (s.bump f).shedSeq = s.shedSeq := rfl
@[simp] theorem State.bump_far (s : State) (f : Fld) : (s.bump f).far = s.far := rfl
@[simp] theorem State.bump_farTag (s : State) (f : Fld) : (s.bump f).farTag = s.farTag := rfl
@[simp] theorem State.bump_planTag (s : State) (f : Fld) : (s.bump f).planTag = s.planTag := rfl
@[simp] theorem State.bump_farSeq (s : State) (f : Fld) : (s.bump f).farSeq = s.farSeq := rfl
@[simp] theorem State.bump_farPlans (s : State) (f : Fld) : (s.bump f).farPlans = s.farPlans := rfl
@[simp] theorem State.bump_subst (s : State) (f : Fld) : (s.bump f).subst = s.subst := rfl
@[simp] theorem State.bump_substWait (s : State) (f : Fld) : (s.bump f).substWait = s.substWait := rfl
@[simp] theorem State.bump_unspared (s : State) (f : Fld) : (s.bump f).unspared = s.unspared := rfl
@[simp] theorem State.bump_farRecord (s : State) (f : Fld) : (s.bump f).farRecord = s.farRecord := rfl
@[simp] theorem State.bump_farBased (s : State) (f : Fld) : (s.bump f).farBased = s.farBased := rfl
@[simp] theorem State.bump_farDirty (s : State) (f : Fld) : (s.bump f).farDirty = s.farDirty := rfl
@[simp] theorem State.bump_devRun (s : State) (f : Fld) : (s.bump f).devRun = s.devRun := rfl
@[simp] theorem State.bump_critRun (s : State) (f : Fld) : (s.bump f).critRun = s.critRun := rfl
@[simp] theorem State.bump_warm (s : State) (f : Fld) : (s.bump f).warm = s.warm := rfl
@[simp] theorem State.bump_proofBase (s : State) (f : Fld) : (s.bump f).proofBase = s.proofBase := rfl
@[simp] theorem State.bump_wayOnAt (s : State) (f : Fld) : (s.bump f).wayOnAt = s.wayOnAt := rfl
@[simp] theorem State.bump_proved (s : State) (f : Fld) : (s.bump f).proved = s.proved := rfl
@[simp] theorem State.bump_lastTemps (s : State) (f : Fld) : (s.bump f).lastTemps = s.lastTemps := rfl
@[simp] theorem State.bump_proof (s : State) (f : Fld) : (s.bump f).proof = s.proof := rfl
@[simp] theorem State.bump_precond (s : State) (f : Fld) : (s.bump f).precond = s.precond := rfl
@[simp] theorem State.bump_oscTrim (s : State) (f : Fld) : (s.bump f).oscTrim = s.oscTrim := rfl
@[simp] theorem State.bump_scScale (s : State) (f : Fld) : (s.bump f).scScale = s.scScale := rfl
@[simp] theorem State.bump_act (s : State) (f : Fld) : (s.bump f).act = s.act := rfl
@[simp] theorem State.bump_inject (s : State) (f : Fld) : (s.bump f).inject = s.inject := rfl
@[simp] theorem State.bump_armedErr (s : State) (f : Fld) : (s.bump f).armedErr = s.armedErr := rfl
@[simp] theorem State.bump_log (s : State) (f : Fld) : (s.bump f).log = s.log := rfl
@[simp] theorem State.bump_tokens (s : State) (f : Fld) : (s.bump f).tokens = s.tokens := rfl
@[simp] theorem State.bump_supp (s : State) (f : Fld) : (s.bump f).supp = s.supp := rfl
@[simp] theorem State.bump_logSeq (s : State) (f : Fld) : (s.bump f).logSeq = s.logSeq := rfl
@[simp] theorem State.bump_logTop (s : State) (f : Fld) : (s.bump f).logTop = s.logTop := rfl
@[simp] theorem State.bump_tkSector (s : State) (f : Fld) : (s.bump f).tkSector = s.tkSector := rfl
@[simp] theorem State.bump_tkSlot (s : State) (f : Fld) : (s.bump f).tkSlot = s.tkSlot := rfl
@[simp] theorem State.bump_curSector (s : State) (f : Fld) : (s.bump f).curSector = s.curSector := rfl
@[simp] theorem State.bump_frozenStaged (s : State) (f : Fld) : (s.bump f).frozenStaged = s.frozenStaged := rfl
@[simp] theorem State.bump_frozenDropped (s : State) (f : Fld) : (s.bump f).frozenDropped = s.frozenDropped := rfl
@[simp] theorem State.bump_flashOp (s : State) (f : Fld) : (s.bump f).flashOp = s.flashOp := rfl
@[simp] theorem State.bump_logErase (s : State) (f : Fld) : (s.bump f).logErase = s.logErase := rfl
@[simp] theorem State.bump_logTag (s : State) (f : Fld) : (s.bump f).logTag = s.logTag := rfl
@[simp] theorem State.bump_scrubs (s : State) (f : Fld) : (s.bump f).scrubs = s.scrubs := rfl
@[simp] theorem State.bump_wasActive (s : State) (f : Fld) : (s.bump f).wasActive = s.wasActive := rfl
@[simp] theorem State.bump_win10 (s : State) (f : Fld) : (s.bump f).win10 = s.win10 := rfl
@[simp] theorem State.bump_acc10 (s : State) (f : Fld) : (s.bump f).acc10 = s.acc10 := rfl
@[simp] theorem State.bump_shown10 (s : State) (f : Fld) : (s.bump f).shown10 = s.shown10 := rfl
@[simp] theorem State.bump_pmbMiss (s : State) (f : Fld) : (s.bump f).pmbMiss = s.pmbMiss := rfl
@[simp] theorem State.bump_pmbScan (s : State) (f : Fld) : (s.bump f).pmbScan = s.pmbScan := rfl
@[simp] theorem State.bump_pmbGood (s : State) (f : Fld) : (s.bump f).pmbGood = s.pmbGood := rfl
@[simp] theorem State.bump_pmbMismatch (s : State) (f : Fld) : (s.bump f).pmbMismatch = s.pmbMismatch := rfl
@[simp] theorem State.bump_pmbRaw (s : State) (f : Fld) : (s.bump f).pmbRaw = s.pmbRaw := rfl
@[simp] theorem State.bump_pmbAlerted (s : State) (f : Fld) : (s.bump f).pmbAlerted = s.pmbAlerted := rfl
@[simp] theorem State.bump_ibus (s : State) (f : Fld) : (s.bump f).ibus = s.ibus := rfl
@[simp] theorem State.bump_ibusLow (s : State) (f : Fld) : (s.bump f).ibusLow = s.ibusLow := rfl
@[simp] theorem State.bump_fltAt (s : State) (f : Fld) : (s.bump f).fltAt = s.fltAt := rfl
@[simp] theorem State.bump_fltDeclared (s : State) (f : Fld) : (s.bump f).fltDeclared = s.fltDeclared := rfl
@[simp] theorem State.bump_alertAt (s : State) (f : Fld) : (s.bump f).alertAt = s.alertAt := rfl
@[simp] theorem State.bump_free (s : State) (f : Fld) : (s.bump f).free = s.free := rfl

/-! ### evt -/

@[simp] theorem State.evt_pending (s : State) (pg k : Nat) : (s.evt pg k).pending = s.pending := rfl
@[simp] theorem State.evt_bays (s : State) (pg k : Nat) : (s.evt pg k).bays = s.bays := rfl
@[simp] theorem State.evt_yards (s : State) (pg k : Nat) : (s.evt pg k).yards = s.yards := rfl
@[simp] theorem State.evt_doms (s : State) (pg k : Nat) : (s.evt pg k).doms = s.doms := rfl
@[simp] theorem State.evt_clusters (s : State) (pg k : Nat) : (s.evt pg k).clusters = s.clusters := rfl
@[simp] theorem State.evt_rails (s : State) (pg k : Nat) : (s.evt pg k).rails = s.rails := rfl
@[simp] theorem State.evt_phases (s : State) (pg k : Nat) : (s.evt pg k).phases = s.phases := rfl
@[simp] theorem State.evt_ctxs (s : State) (pg k : Nat) : (s.evt pg k).ctxs = s.ctxs := rfl
@[simp] theorem State.evt_tdm (s : State) (pg k : Nat) : (s.evt pg k).tdm = s.tdm := rfl
@[simp] theorem State.evt_flash (s : State) (pg k : Nat) : (s.evt pg k).flash = s.flash := rfl
@[simp] theorem State.evt_store (s : State) (pg k : Nat) : (s.evt pg k).store = s.store := rfl
@[simp] theorem State.evt_capram (s : State) (pg k : Nat) : (s.evt pg k).capram = s.capram := rfl
@[simp] theorem State.evt_latches (s : State) (pg k : Nat) : (s.evt pg k).latches = s.latches := rfl
@[simp] theorem State.evt_mono (s : State) (pg k : Nat) : (s.evt pg k).mono = s.mono := rfl
@[simp] theorem State.evt_sysTime (s : State) (pg k : Nat) : (s.evt pg k).sysTime = s.sysTime := rfl
@[simp] theorem State.evt_sysHalf (s : State) (pg k : Nat) : (s.evt pg k).sysHalf = s.sysHalf := rfl
@[simp] theorem State.evt_tbValid (s : State) (pg k : Nat) : (s.evt pg k).tbValid = s.tbValid := rfl
@[simp] theorem State.evt_tbSeen (s : State) (pg k : Nat) : (s.evt pg k).tbSeen = s.tbSeen := rfl
@[simp] theorem State.evt_tbLoaded (s : State) (pg k : Nat) : (s.evt pg k).tbLoaded = s.tbLoaded := rfl
@[simp] theorem State.evt_r26 (s : State) (pg k : Nat) : (s.evt pg k).r26 = s.r26 := rfl
@[simp] theorem State.evt_startAt (s : State) (pg k : Nat) : (s.evt pg k).startAt = s.startAt := rfl
@[simp] theorem State.evt_lockAt (s : State) (pg k : Nat) : (s.evt pg k).lockAt = s.lockAt := rfl
@[simp] theorem State.evt_quietFrom (s : State) (pg k : Nat) : (s.evt pg k).quietFrom = s.quietFrom := rfl
@[simp] theorem State.evt_rollCalled (s : State) (pg k : Nat) : (s.evt pg k).rollCalled = s.rollCalled := rfl
@[simp] theorem State.evt_image (s : State) (pg k : Nat) : (s.evt pg k).image = s.image := rfl
@[simp] theorem State.evt_noRecord (s : State) (pg k : Nat) : (s.evt pg k).noRecord = s.noRecord := rfl
@[simp] theorem State.evt_boot (s : State) (pg k : Nat) : (s.evt pg k).boot = s.boot := rfl
@[simp] theorem State.evt_porStart (s : State) (pg k : Nat) : (s.evt pg k).porStart = s.porStart := rfl
@[simp] theorem State.evt_rollAgain (s : State) (pg k : Nat) : (s.evt pg k).rollAgain = s.rollAgain := rfl
@[simp] theorem State.evt_assertF (s : State) (pg k : Nat) : (s.evt pg k).assertF = s.assertF := rfl
@[simp] theorem State.evt_cpReset (s : State) (pg k : Nat) : (s.evt pg k).cpReset = s.cpReset := rfl
@[simp] theorem State.evt_blkReset (s : State) (pg k : Nat) : (s.evt pg k).blkReset = s.blkReset := rfl
@[simp] theorem State.evt_opBase (s : State) (pg k : Nat) : (s.evt pg k).opBase = s.opBase := rfl
@[simp] theorem State.evt_opFrom (s : State) (pg k : Nat) : (s.evt pg k).opFrom = s.opFrom := rfl
@[simp] theorem State.evt_rpOut (s : State) (pg k : Nat) : (s.evt pg k).rpOut = s.rpOut := rfl
@[simp] theorem State.evt_rpRsp (s : State) (pg k : Nat) : (s.evt pg k).rpRsp = s.rpRsp := rfl
@[simp] theorem State.evt_mp (s : State) (pg k : Nat) : (s.evt pg k).mp = s.mp := rfl
@[simp] theorem State.evt_mpRead (s : State) (pg k : Nat) : (s.evt pg k).mpRead = s.mpRead := rfl
@[simp] theorem State.evt_mpDisec (s : State) (pg k : Nat) : (s.evt pg k).mpDisec = s.mpDisec := rfl
@[simp] theorem State.evt_dbg (s : State) (pg k : Nat) : (s.evt pg k).dbg = s.dbg := rfl
@[simp] theorem State.evt_dbgHeld (s : State) (pg k : Nat) : (s.evt pg k).dbgHeld = s.dbgHeld := rfl
@[simp] theorem State.evt_laneErrs (s : State) (pg k : Nat) : (s.evt pg k).laneErrs = s.laneErrs := rfl
@[simp] theorem State.evt_journal (s : State) (pg k : Nat) : (s.evt pg k).journal = s.journal := rfl
@[simp] theorem State.evt_takeover (s : State) (pg k : Nat) : (s.evt pg k).takeover = s.takeover := rfl
@[simp] theorem State.evt_taking (s : State) (pg k : Nat) : (s.evt pg k).taking = s.taking := rfl
@[simp] theorem State.evt_latched (s : State) (pg k : Nat) : (s.evt pg k).latched = s.latched := rfl
@[simp] theorem State.evt_kept (s : State) (pg k : Nat) : (s.evt pg k).kept = s.kept := rfl
@[simp] theorem State.evt_startIn (s : State) (pg k : Nat) : (s.evt pg k).startIn = s.startIn := rfl
@[simp] theorem State.evt_recSeq (s : State) (pg k : Nat) : (s.evt pg k).recSeq = s.recSeq := rfl
@[simp] theorem State.evt_yardCount (s : State) (pg k : Nat) : (s.evt pg k).yardCount = s.yardCount := rfl
@[simp] theorem State.evt_hn (s : State) (pg k : Nat) : (s.evt pg k).hn = s.hn := rfl
@[simp] theorem State.evt_soReq (s : State) (pg k : Nat) : (s.evt pg k).soReq = s.soReq := rfl
@[simp] theorem State.evt_soAck (s : State) (pg k : Nat) : (s.evt pg k).soAck = s.soAck := rfl
@[simp] theorem State.evt_soFly (s : State) (pg k : Nat) : (s.evt pg k).soFly = s.soFly := rfl
@[simp] theorem State.evt_soQueue (s : State) (pg k : Nat) : (s.evt pg k).soQueue = s.soQueue := rfl
@[simp] theorem State.evt_sent (s : State) (pg k : Nat) : (s.evt pg k).sent = s.sent := rfl
@[simp] theorem State.evt_sfn (s : State) (pg k : Nat) : (s.evt pg k).sfn = s.sfn := rfl
@[simp] theorem State.evt_silent (s : State) (pg k : Nat) : (s.evt pg k).silent = s.silent := rfl
@[simp] theorem State.evt_turn (s : State) (pg k : Nat) : (s.evt pg k).turn = s.turn := rfl
@[simp] theorem State.evt_sfAt (s : State) (pg k : Nat) : (s.evt pg k).sfAt = s.sfAt := rfl
@[simp] theorem State.evt_sfMono (s : State) (pg k : Nat) : (s.evt pg k).sfMono = s.sfMono := rfl
@[simp] theorem State.evt_segDead (s : State) (pg k : Nat) : (s.evt pg k).segDead = s.segDead := rfl
@[simp] theorem State.evt_colls (s : State) (pg k : Nat) : (s.evt pg k).colls = s.colls := rfl
@[simp] theorem State.evt_collPend (s : State) (pg k : Nat) : (s.evt pg k).collPend = s.collPend := rfl
@[simp] theorem State.evt_order (s : State) (pg k : Nat) : (s.evt pg k).order = s.order := rfl
@[simp] theorem State.evt_claims (s : State) (pg k : Nat) : (s.evt pg k).claims = s.claims := rfl
@[simp] theorem State.evt_due (s : State) (pg k : Nat) : (s.evt pg k).due = s.due := rfl
@[simp] theorem State.evt_fly (s : State) (pg k : Nat) : (s.evt pg k).fly = s.fly := rfl
@[simp] theorem State.evt_commits (s : State) (pg k : Nat) : (s.evt pg k).commits = s.commits := rfl
@[simp] theorem State.evt_slotCommit (s : State) (pg k : Nat) : (s.evt pg k).slotCommit = s.slotCommit := rfl
@[simp] theorem State.evt_dreBusy (s : State) (pg k : Nat) : (s.evt pg k).dreBusy = s.dreBusy := rfl
@[simp] theorem State.evt_estimates (s : State) (pg k : Nat) : (s.evt pg k).estimates = s.estimates := rfl
@[simp] theorem State.evt_closeSeq (s : State) (pg k : Nat) : (s.evt pg k).closeSeq = s.closeSeq := rfl
@[simp] theorem State.evt_jobs (s : State) (pg k : Nat) : (s.evt pg k).jobs = s.jobs := rfl
@[simp] theorem State.evt_jobNext (s : State) (pg k : Nat) : (s.evt pg k).jobNext = s.jobNext := rfl
@[simp] theorem State.evt_load (s : State) (pg k : Nat) : (s.evt pg k).load = s.load := rfl
@[simp] theorem State.evt_epochs (s : State) (pg k : Nat) : (s.evt pg k).epochs = s.epochs := rfl
@[simp] theorem State.evt_lastEpoch (s : State) (pg k : Nat) : (s.evt pg k).lastEpoch = s.lastEpoch := rfl
@[simp] theorem State.evt_cap (s : State) (pg k : Nat) : (s.evt pg k).cap = s.cap := rfl
@[simp] theorem State.evt_episodes (s : State) (pg k : Nat) : (s.evt pg k).episodes = s.episodes := rfl
@[simp] theorem State.evt_heatSeq (s : State) (pg k : Nat) : (s.evt pg k).heatSeq = s.heatSeq := rfl
@[simp] theorem State.evt_shedSeq (s : State) (pg k : Nat) : (s.evt pg k).shedSeq = s.shedSeq := rfl
@[simp] theorem State.evt_far (s : State) (pg k : Nat) : (s.evt pg k).far = s.far := rfl
@[simp] theorem State.evt_farTag (s : State) (pg k : Nat) : (s.evt pg k).farTag = s.farTag := rfl
@[simp] theorem State.evt_planTag (s : State) (pg k : Nat) : (s.evt pg k).planTag = s.planTag := rfl
@[simp] theorem State.evt_farSeq (s : State) (pg k : Nat) : (s.evt pg k).farSeq = s.farSeq := rfl
@[simp] theorem State.evt_farPlans (s : State) (pg k : Nat) : (s.evt pg k).farPlans = s.farPlans := rfl
@[simp] theorem State.evt_subst (s : State) (pg k : Nat) : (s.evt pg k).subst = s.subst := rfl
@[simp] theorem State.evt_substWait (s : State) (pg k : Nat) : (s.evt pg k).substWait = s.substWait := rfl
@[simp] theorem State.evt_unspared (s : State) (pg k : Nat) : (s.evt pg k).unspared = s.unspared := rfl
@[simp] theorem State.evt_farRecord (s : State) (pg k : Nat) : (s.evt pg k).farRecord = s.farRecord := rfl
@[simp] theorem State.evt_farBased (s : State) (pg k : Nat) : (s.evt pg k).farBased = s.farBased := rfl
@[simp] theorem State.evt_farDirty (s : State) (pg k : Nat) : (s.evt pg k).farDirty = s.farDirty := rfl
@[simp] theorem State.evt_devRun (s : State) (pg k : Nat) : (s.evt pg k).devRun = s.devRun := rfl
@[simp] theorem State.evt_critRun (s : State) (pg k : Nat) : (s.evt pg k).critRun = s.critRun := rfl
@[simp] theorem State.evt_warm (s : State) (pg k : Nat) : (s.evt pg k).warm = s.warm := rfl
@[simp] theorem State.evt_proofBase (s : State) (pg k : Nat) : (s.evt pg k).proofBase = s.proofBase := rfl
@[simp] theorem State.evt_wayOnAt (s : State) (pg k : Nat) : (s.evt pg k).wayOnAt = s.wayOnAt := rfl
@[simp] theorem State.evt_proved (s : State) (pg k : Nat) : (s.evt pg k).proved = s.proved := rfl
@[simp] theorem State.evt_lastTemps (s : State) (pg k : Nat) : (s.evt pg k).lastTemps = s.lastTemps := rfl
@[simp] theorem State.evt_proof (s : State) (pg k : Nat) : (s.evt pg k).proof = s.proof := rfl
@[simp] theorem State.evt_precond (s : State) (pg k : Nat) : (s.evt pg k).precond = s.precond := rfl
@[simp] theorem State.evt_oscTrim (s : State) (pg k : Nat) : (s.evt pg k).oscTrim = s.oscTrim := rfl
@[simp] theorem State.evt_scScale (s : State) (pg k : Nat) : (s.evt pg k).scScale = s.scScale := rfl
@[simp] theorem State.evt_act (s : State) (pg k : Nat) : (s.evt pg k).act = s.act := rfl
@[simp] theorem State.evt_inject (s : State) (pg k : Nat) : (s.evt pg k).inject = s.inject := rfl
@[simp] theorem State.evt_armedErr (s : State) (pg k : Nat) : (s.evt pg k).armedErr = s.armedErr := rfl
@[simp] theorem State.evt_log (s : State) (pg k : Nat) : (s.evt pg k).log = s.log := rfl
@[simp] theorem State.evt_tokens (s : State) (pg k : Nat) : (s.evt pg k).tokens = s.tokens := rfl
@[simp] theorem State.evt_supp (s : State) (pg k : Nat) : (s.evt pg k).supp = s.supp := rfl
@[simp] theorem State.evt_logSeq (s : State) (pg k : Nat) : (s.evt pg k).logSeq = s.logSeq := rfl
@[simp] theorem State.evt_logTop (s : State) (pg k : Nat) : (s.evt pg k).logTop = s.logTop := rfl
@[simp] theorem State.evt_tkSector (s : State) (pg k : Nat) : (s.evt pg k).tkSector = s.tkSector := rfl
@[simp] theorem State.evt_tkSlot (s : State) (pg k : Nat) : (s.evt pg k).tkSlot = s.tkSlot := rfl
@[simp] theorem State.evt_curSector (s : State) (pg k : Nat) : (s.evt pg k).curSector = s.curSector := rfl
@[simp] theorem State.evt_frozenStaged (s : State) (pg k : Nat) : (s.evt pg k).frozenStaged = s.frozenStaged := rfl
@[simp] theorem State.evt_frozenDropped (s : State) (pg k : Nat) : (s.evt pg k).frozenDropped = s.frozenDropped := rfl
@[simp] theorem State.evt_flashOp (s : State) (pg k : Nat) : (s.evt pg k).flashOp = s.flashOp := rfl
@[simp] theorem State.evt_logErase (s : State) (pg k : Nat) : (s.evt pg k).logErase = s.logErase := rfl
@[simp] theorem State.evt_logTag (s : State) (pg k : Nat) : (s.evt pg k).logTag = s.logTag := rfl
@[simp] theorem State.evt_scrubs (s : State) (pg k : Nat) : (s.evt pg k).scrubs = s.scrubs := rfl
@[simp] theorem State.evt_wasActive (s : State) (pg k : Nat) : (s.evt pg k).wasActive = s.wasActive := rfl
@[simp] theorem State.evt_win10 (s : State) (pg k : Nat) : (s.evt pg k).win10 = s.win10 := rfl
@[simp] theorem State.evt_acc10 (s : State) (pg k : Nat) : (s.evt pg k).acc10 = s.acc10 := rfl
@[simp] theorem State.evt_shown10 (s : State) (pg k : Nat) : (s.evt pg k).shown10 = s.shown10 := rfl
@[simp] theorem State.evt_pmbMiss (s : State) (pg k : Nat) : (s.evt pg k).pmbMiss = s.pmbMiss := rfl
@[simp] theorem State.evt_pmbScan (s : State) (pg k : Nat) : (s.evt pg k).pmbScan = s.pmbScan := rfl
@[simp] theorem State.evt_pmbGood (s : State) (pg k : Nat) : (s.evt pg k).pmbGood = s.pmbGood := rfl
@[simp] theorem State.evt_pmbMismatch (s : State) (pg k : Nat) : (s.evt pg k).pmbMismatch = s.pmbMismatch := rfl
@[simp] theorem State.evt_pmbRaw (s : State) (pg k : Nat) : (s.evt pg k).pmbRaw = s.pmbRaw := rfl
@[simp] theorem State.evt_pmbAlerted (s : State) (pg k : Nat) : (s.evt pg k).pmbAlerted = s.pmbAlerted := rfl
@[simp] theorem State.evt_ibus (s : State) (pg k : Nat) : (s.evt pg k).ibus = s.ibus := rfl
@[simp] theorem State.evt_ibusLow (s : State) (pg k : Nat) : (s.evt pg k).ibusLow = s.ibusLow := rfl
@[simp] theorem State.evt_fltAt (s : State) (pg k : Nat) : (s.evt pg k).fltAt = s.fltAt := rfl
@[simp] theorem State.evt_fltDeclared (s : State) (pg k : Nat) : (s.evt pg k).fltDeclared = s.fltDeclared := rfl
@[simp] theorem State.evt_alertAt (s : State) (pg k : Nat) : (s.evt pg k).alertAt = s.alertAt := rfl
@[simp] theorem State.evt_free (s : State) (pg k : Nat) : (s.evt pg k).free = s.free := rfl

/-! ### Tables of units -/

@[simp] theorem State.bay_setBay (s : State) (n m : Nat) (v : Bay) : (s.setBay n v).bay m = if m = n then v else s.bay m :=
  Tab.get_set _ _ _ _ _
@[simp] theorem State.word_setBay (s : State) (n a : Nat) (v : Bay) : (s.setBay n v).word a = s.word a := rfl
@[simp] theorem State.get_setBay (s : State) (n : Nat) (f : Fld) (v : Bay) : (s.setBay n v).get f = s.get f := rfl
@[simp] theorem State.yard_setBay (s : State) (n m : Nat) (v : Bay) : (s.setBay n v).yard m = s.yard m := rfl
@[simp] theorem State.dom_setBay (s : State) (n m : Nat) (v : Bay) : (s.setBay n v).dom m = s.dom m := rfl
@[simp] theorem State.cluster_setBay (s : State) (n m : Nat) (v : Bay) : (s.setBay n v).cluster m = s.cluster m := rfl
@[simp] theorem State.rail_setBay (s : State) (n m : Nat) (v : Bay) : (s.setBay n v).rail m = s.rail m := rfl
@[simp] theorem State.phase_setBay (s : State) (n m : Nat) (v : Bay) : (s.setBay n v).phase m = s.phase m := rfl
@[simp] theorem State.ctx_setBay (s : State) (n m : Nat) (v : Bay) : (s.setBay n v).ctx m = s.ctx m := rfl
@[simp] theorem State.stream_setBay (s : State) (n m : Nat) (v : Bay) : (s.setBay n v).stream m = s.stream m := rfl
@[simp] theorem State.bay_setWord (s : State) (a m : Nat) (w : Word) : (s.setWord a w).bay m = s.bay m := rfl
@[simp] theorem State.bay_put (s : State) (f : Fld) (v m : Nat) : (s.put f v).bay m = s.bay m := rfl

@[simp] theorem State.yard_setYard (s : State) (n m : Nat) (v : Yard) : (s.setYard n v).yard m = if m = n then v else s.yard m :=
  Tab.get_set _ _ _ _ _
@[simp] theorem State.word_setYard (s : State) (n a : Nat) (v : Yard) : (s.setYard n v).word a = s.word a := rfl
@[simp] theorem State.get_setYard (s : State) (n : Nat) (f : Fld) (v : Yard) : (s.setYard n v).get f = s.get f := rfl
@[simp] theorem State.bay_setYard (s : State) (n m : Nat) (v : Yard) : (s.setYard n v).bay m = s.bay m := rfl
@[simp] theorem State.dom_setYard (s : State) (n m : Nat) (v : Yard) : (s.setYard n v).dom m = s.dom m := rfl
@[simp] theorem State.cluster_setYard (s : State) (n m : Nat) (v : Yard) : (s.setYard n v).cluster m = s.cluster m := rfl
@[simp] theorem State.rail_setYard (s : State) (n m : Nat) (v : Yard) : (s.setYard n v).rail m = s.rail m := rfl
@[simp] theorem State.phase_setYard (s : State) (n m : Nat) (v : Yard) : (s.setYard n v).phase m = s.phase m := rfl
@[simp] theorem State.ctx_setYard (s : State) (n m : Nat) (v : Yard) : (s.setYard n v).ctx m = s.ctx m := rfl
@[simp] theorem State.stream_setYard (s : State) (n m : Nat) (v : Yard) : (s.setYard n v).stream m = s.stream m := rfl
@[simp] theorem State.yard_setWord (s : State) (a m : Nat) (w : Word) : (s.setWord a w).yard m = s.yard m := rfl
@[simp] theorem State.yard_put (s : State) (f : Fld) (v m : Nat) : (s.put f v).yard m = s.yard m := rfl

@[simp] theorem State.dom_setDom (s : State) (n m : Nat) (v : Dom) : (s.setDom n v).dom m = if m = n then v else s.dom m :=
  Tab.get_set _ _ _ _ _
@[simp] theorem State.word_setDom (s : State) (n a : Nat) (v : Dom) : (s.setDom n v).word a = s.word a := rfl
@[simp] theorem State.get_setDom (s : State) (n : Nat) (f : Fld) (v : Dom) : (s.setDom n v).get f = s.get f := rfl
@[simp] theorem State.bay_setDom (s : State) (n m : Nat) (v : Dom) : (s.setDom n v).bay m = s.bay m := rfl
@[simp] theorem State.yard_setDom (s : State) (n m : Nat) (v : Dom) : (s.setDom n v).yard m = s.yard m := rfl
@[simp] theorem State.cluster_setDom (s : State) (n m : Nat) (v : Dom) : (s.setDom n v).cluster m = s.cluster m := rfl
@[simp] theorem State.rail_setDom (s : State) (n m : Nat) (v : Dom) : (s.setDom n v).rail m = s.rail m := rfl
@[simp] theorem State.phase_setDom (s : State) (n m : Nat) (v : Dom) : (s.setDom n v).phase m = s.phase m := rfl
@[simp] theorem State.ctx_setDom (s : State) (n m : Nat) (v : Dom) : (s.setDom n v).ctx m = s.ctx m := rfl
@[simp] theorem State.stream_setDom (s : State) (n m : Nat) (v : Dom) : (s.setDom n v).stream m = s.stream m := rfl
@[simp] theorem State.dom_setWord (s : State) (a m : Nat) (w : Word) : (s.setWord a w).dom m = s.dom m := rfl
@[simp] theorem State.dom_put (s : State) (f : Fld) (v m : Nat) : (s.put f v).dom m = s.dom m := rfl

@[simp] theorem State.cluster_setCluster (s : State) (n m : Nat) (v : Cluster) : (s.setCluster n v).cluster m = if m = n then v else s.cluster m :=
  Tab.get_set _ _ _ _ _
@[simp] theorem State.word_setCluster (s : State) (n a : Nat) (v : Cluster) : (s.setCluster n v).word a = s.word a := rfl
@[simp] theorem State.get_setCluster (s : State) (n : Nat) (f : Fld) (v : Cluster) : (s.setCluster n v).get f = s.get f := rfl
@[simp] theorem State.bay_setCluster (s : State) (n m : Nat) (v : Cluster) : (s.setCluster n v).bay m = s.bay m := rfl
@[simp] theorem State.yard_setCluster (s : State) (n m : Nat) (v : Cluster) : (s.setCluster n v).yard m = s.yard m := rfl
@[simp] theorem State.dom_setCluster (s : State) (n m : Nat) (v : Cluster) : (s.setCluster n v).dom m = s.dom m := rfl
@[simp] theorem State.rail_setCluster (s : State) (n m : Nat) (v : Cluster) : (s.setCluster n v).rail m = s.rail m := rfl
@[simp] theorem State.phase_setCluster (s : State) (n m : Nat) (v : Cluster) : (s.setCluster n v).phase m = s.phase m := rfl
@[simp] theorem State.ctx_setCluster (s : State) (n m : Nat) (v : Cluster) : (s.setCluster n v).ctx m = s.ctx m := rfl
@[simp] theorem State.stream_setCluster (s : State) (n m : Nat) (v : Cluster) : (s.setCluster n v).stream m = s.stream m := rfl
@[simp] theorem State.cluster_setWord (s : State) (a m : Nat) (w : Word) : (s.setWord a w).cluster m = s.cluster m := rfl
@[simp] theorem State.cluster_put (s : State) (f : Fld) (v m : Nat) : (s.put f v).cluster m = s.cluster m := rfl

@[simp] theorem State.rail_setRail (s : State) (n m : Nat) (v : Rail) : (s.setRail n v).rail m = if m = n then v else s.rail m :=
  Tab.get_set _ _ _ _ _
@[simp] theorem State.word_setRail (s : State) (n a : Nat) (v : Rail) : (s.setRail n v).word a = s.word a := rfl
@[simp] theorem State.get_setRail (s : State) (n : Nat) (f : Fld) (v : Rail) : (s.setRail n v).get f = s.get f := rfl
@[simp] theorem State.bay_setRail (s : State) (n m : Nat) (v : Rail) : (s.setRail n v).bay m = s.bay m := rfl
@[simp] theorem State.yard_setRail (s : State) (n m : Nat) (v : Rail) : (s.setRail n v).yard m = s.yard m := rfl
@[simp] theorem State.dom_setRail (s : State) (n m : Nat) (v : Rail) : (s.setRail n v).dom m = s.dom m := rfl
@[simp] theorem State.cluster_setRail (s : State) (n m : Nat) (v : Rail) : (s.setRail n v).cluster m = s.cluster m := rfl
@[simp] theorem State.phase_setRail (s : State) (n m : Nat) (v : Rail) : (s.setRail n v).phase m = s.phase m := rfl
@[simp] theorem State.ctx_setRail (s : State) (n m : Nat) (v : Rail) : (s.setRail n v).ctx m = s.ctx m := rfl
@[simp] theorem State.stream_setRail (s : State) (n m : Nat) (v : Rail) : (s.setRail n v).stream m = s.stream m := rfl
@[simp] theorem State.rail_setWord (s : State) (a m : Nat) (w : Word) : (s.setWord a w).rail m = s.rail m := rfl
@[simp] theorem State.rail_put (s : State) (f : Fld) (v m : Nat) : (s.put f v).rail m = s.rail m := rfl

@[simp] theorem State.phase_setPhase (s : State) (n m : Nat) (v : BPhase) : (s.setPhase n v).phase m = if m = n then v else s.phase m :=
  Tab.get_set _ _ _ _ _
@[simp] theorem State.word_setPhase (s : State) (n a : Nat) (v : BPhase) : (s.setPhase n v).word a = s.word a := rfl
@[simp] theorem State.get_setPhase (s : State) (n : Nat) (f : Fld) (v : BPhase) : (s.setPhase n v).get f = s.get f := rfl
@[simp] theorem State.bay_setPhase (s : State) (n m : Nat) (v : BPhase) : (s.setPhase n v).bay m = s.bay m := rfl
@[simp] theorem State.yard_setPhase (s : State) (n m : Nat) (v : BPhase) : (s.setPhase n v).yard m = s.yard m := rfl
@[simp] theorem State.dom_setPhase (s : State) (n m : Nat) (v : BPhase) : (s.setPhase n v).dom m = s.dom m := rfl
@[simp] theorem State.cluster_setPhase (s : State) (n m : Nat) (v : BPhase) : (s.setPhase n v).cluster m = s.cluster m := rfl
@[simp] theorem State.rail_setPhase (s : State) (n m : Nat) (v : BPhase) : (s.setPhase n v).rail m = s.rail m := rfl
@[simp] theorem State.ctx_setPhase (s : State) (n m : Nat) (v : BPhase) : (s.setPhase n v).ctx m = s.ctx m := rfl
@[simp] theorem State.stream_setPhase (s : State) (n m : Nat) (v : BPhase) : (s.setPhase n v).stream m = s.stream m := rfl
@[simp] theorem State.phase_setWord (s : State) (a m : Nat) (w : Word) : (s.setWord a w).phase m = s.phase m := rfl
@[simp] theorem State.phase_put (s : State) (f : Fld) (v m : Nat) : (s.put f v).phase m = s.phase m := rfl

@[simp] theorem State.ctx_setCtx (s : State) (n m : Nat) (v : Ctx) : (s.setCtx n v).ctx m = if m = n then v else s.ctx m :=
  Tab.get_set _ _ _ _ _
@[simp] theorem State.word_setCtx (s : State) (n a : Nat) (v : Ctx) : (s.setCtx n v).word a = s.word a := rfl
@[simp] theorem State.get_setCtx (s : State) (n : Nat) (f : Fld) (v : Ctx) : (s.setCtx n v).get f = s.get f := rfl
@[simp] theorem State.bay_setCtx (s : State) (n m : Nat) (v : Ctx) : (s.setCtx n v).bay m = s.bay m := rfl
@[simp] theorem State.yard_setCtx (s : State) (n m : Nat) (v : Ctx) : (s.setCtx n v).yard m = s.yard m := rfl
@[simp] theorem State.dom_setCtx (s : State) (n m : Nat) (v : Ctx) : (s.setCtx n v).dom m = s.dom m := rfl
@[simp] theorem State.cluster_setCtx (s : State) (n m : Nat) (v : Ctx) : (s.setCtx n v).cluster m = s.cluster m := rfl
@[simp] theorem State.rail_setCtx (s : State) (n m : Nat) (v : Ctx) : (s.setCtx n v).rail m = s.rail m := rfl
@[simp] theorem State.phase_setCtx (s : State) (n m : Nat) (v : Ctx) : (s.setCtx n v).phase m = s.phase m := rfl
@[simp] theorem State.stream_setCtx (s : State) (n m : Nat) (v : Ctx) : (s.setCtx n v).stream m = s.stream m := rfl
@[simp] theorem State.ctx_setWord (s : State) (a m : Nat) (w : Word) : (s.setWord a w).ctx m = s.ctx m := rfl
@[simp] theorem State.ctx_put (s : State) (f : Fld) (v m : Nat) : (s.put f v).ctx m = s.ctx m := rfl

@[simp] theorem State.stream_setStream (s : State) (n m : Nat) (v : Tdm) : (s.setStream n v).stream m = if m = n then v else s.stream m :=
  Tab.get_set _ _ _ _ _
@[simp] theorem State.word_setStream (s : State) (n a : Nat) (v : Tdm) : (s.setStream n v).word a = s.word a := rfl
@[simp] theorem State.get_setStream (s : State) (n : Nat) (f : Fld) (v : Tdm) : (s.setStream n v).get f = s.get f := rfl
@[simp] theorem State.bay_setStream (s : State) (n m : Nat) (v : Tdm) : (s.setStream n v).bay m = s.bay m := rfl
@[simp] theorem State.yard_setStream (s : State) (n m : Nat) (v : Tdm) : (s.setStream n v).yard m = s.yard m := rfl
@[simp] theorem State.dom_setStream (s : State) (n m : Nat) (v : Tdm) : (s.setStream n v).dom m = s.dom m := rfl
@[simp] theorem State.cluster_setStream (s : State) (n m : Nat) (v : Tdm) : (s.setStream n v).cluster m = s.cluster m := rfl
@[simp] theorem State.rail_setStream (s : State) (n m : Nat) (v : Tdm) : (s.setStream n v).rail m = s.rail m := rfl
@[simp] theorem State.phase_setStream (s : State) (n m : Nat) (v : Tdm) : (s.setStream n v).phase m = s.phase m := rfl
@[simp] theorem State.ctx_setStream (s : State) (n m : Nat) (v : Tdm) : (s.setStream n v).ctx m = s.ctx m := rfl
@[simp] theorem State.stream_setWord (s : State) (a m : Nat) (w : Word) : (s.setWord a w).stream m = s.stream m := rfl
@[simp] theorem State.stream_put (s : State) (f : Fld) (v m : Nat) : (s.put f v).stream m = s.stream m := rfl

end Sys2Proof.Machine
end

