-- ==== Sys2Proof/Laws/Ops.lean ====
section
/-!
SUPPORT. What each shared operation can do, said once: the registers it may write, by page (`State.Within`), the fields
of State it may change (the `_shape` lemmas: every other field stays), and what the end of a command leaves.
-/

namespace Sys2Proof.Machine

/-! ### Registers written, by page -/

/-- Registers outside a list of pages read in t as in s. -/
def State.Within (s t : State) (pages : List Nat) : Prop := ∀ a, a / 0x1000 ∉ pages → t.word a = s.word a

theorem State.Within.refl (s : State) (l : List Nat) : s.Within s l := fun _ _ => rfl

theorem State.Within.trans {s t u : State} {l : List Nat} (h : s.Within t l) (k : t.Within u l) : s.Within u l :=
  fun a n => (k a n).trans (h a n)

theorem State.Within.mono {s t : State} {l m : List Nat} (h : s.Within t l) (k : l ⊆ m) : s.Within t m :=
  fun a n => h a fun x => n (k x)

theorem State.Within.regs {s t u : State} {l : List Nat} (h : s.Within t l) (k : u.regs = t.regs) : s.Within u l :=
  fun a n => by rw [← h a n]; simp only [State.word, k]

theorem State.Within.setWord {s t : State} {l : List Nat} (h : s.Within t l) (a : Nat) (w : Word) (k : a / 0x1000 ∈ l) :
    s.Within (t.setWord a w) l := fun b n => by
  rw [State.word_setWord, ← h b n]
  split
  · next e => exact absurd (e ▸ k) n
  · rfl

theorem State.Within.put {s t : State} {l : List Nat} (h : s.Within t l) (f : Fld) (v : Nat) (k : f.addr / 0x1000 ∈ l) :
    s.Within (t.put f v) l := h.setWord _ _ k

theorem State.Within.bump {s t : State} {l : List Nat} (h : s.Within t l) (f : Fld) (k : f.addr / 0x1000 ∈ l) :
    s.Within (t.bump f) l := h.setWord _ _ k

theorem State.Within.evt {s t : State} {l : List Nat} (h : s.Within t l) (pg n : Nat) (k : (pg + 0x14) / 0x1000 ∈ l) :
    s.Within (t.evt pg n) l := h.setWord _ _ k

theorem State.Within.put64 {s t : State} {l : List Nat} (h : s.Within t l) (f : Fld) (v : Nat) (k : f.addr / 0x1000 ∈ l)
    (k' : (f.addr + 4) / 0x1000 ∈ l) : s.Within (t.put64 f v) l := (h.setWord _ _ k).setWord _ _ k'

theorem State.Within.foldl {α : Type} {s : State} {l : List Nat} (f : State → α → State)
    (h : ∀ t x, s.Within t l → s.Within (f t x) l) (xs : List α) (t : State) (k : s.Within t l) : s.Within (xs.foldl f t) l := by
  induction xs generalizing t with
  | nil => exact k
  | cons x xs ih => exact ih _ (h t x k)

/-- A field outside the pages reads as before. -/
theorem State.Within.get {s t : State} {l : List Nat} (h : s.Within t l) (f : Fld) (k : f.addr / 0x1000 ∉ l) : t.get f = s.get f := by
  simp only [State.get, h _ k]

/-! ### Shapes: the fields of State an operation may change -/

/-- What reports: fault records, log records, events, completions, with the end of ACTIVE that they may bring, notices, words sent,
telemetry, the start of the quiet period. Every field of State that no report changes is in t as in s. -/
structure State.Reports (s t : State) : Prop where
  pending : t.pending = s.pending
  bays : t.bays = s.bays
  yards : t.yards = s.yards
  doms : t.doms = s.doms
  clusters : t.clusters = s.clusters
  rails : t.rails = s.rails
  phases : t.phases = s.phases
  ctxs : t.ctxs = s.ctxs
  flash : t.flash = s.flash
  store : t.store = s.store
  capram : t.capram = s.capram
  latches : t.latches = s.latches
  mono : t.mono = s.mono
  sysTime : t.sysTime = s.sysTime
  sysHalf : t.sysHalf = s.sysHalf
  tbValid : t.tbValid = s.tbValid
  tbSeen : t.tbSeen = s.tbSeen
  tbLoaded : t.tbLoaded = s.tbLoaded
  r26 : t.r26 = s.r26
  startAt : t.startAt = s.startAt
  lockAt : t.lockAt = s.lockAt
  rollCalled : t.rollCalled = s.rollCalled
  image : t.image = s.image
  noRecord : t.noRecord = s.noRecord
  boot : t.boot = s.boot
  porStart : t.porStart = s.porStart
  rollAgain : t.rollAgain = s.rollAgain
  cpReset : t.cpReset = s.cpReset
  blkReset : t.blkReset = s.blkReset
  opBase : t.opBase = s.opBase
  opFrom : t.opFrom = s.opFrom
  rpOut : t.rpOut = s.rpOut
  rpRsp : t.rpRsp = s.rpRsp
  mp : t.mp = s.mp
  mpRead : t.mpRead = s.mpRead
  mpDisec : t.mpDisec = s.mpDisec
  dbg : t.dbg = s.dbg
  dbgHeld : t.dbgHeld = s.dbgHeld
  laneErrs : t.laneErrs = s.laneErrs
  takeover : t.takeover = s.takeover
  taking : t.taking = s.taking
  latched : t.latched = s.latched
  startIn : t.startIn = s.startIn
  recSeq : t.recSeq = s.recSeq
  yardCount : t.yardCount = s.yardCount
  soReq : t.soReq = s.soReq
  soAck : t.soAck = s.soAck
  soFly : t.soFly = s.soFly
  soQueue : t.soQueue = s.soQueue
  sfn : t.sfn = s.sfn
  silent : t.silent = s.silent
  turn : t.turn = s.turn
  sfAt : t.sfAt = s.sfAt
  sfMono : t.sfMono = s.sfMono
  segDead : t.segDead = s.segDead
  colls : t.colls = s.colls
  collPend : t.collPend = s.collPend
  order : t.order = s.order
  claims : t.claims = s.claims
  due : t.due = s.due
  fly : t.fly = s.fly
  commits : t.commits = s.commits
  slotCommit : t.slotCommit = s.slotCommit
  dreBusy : t.dreBusy = s.dreBusy
  estimates : t.estimates = s.estimates
  closeSeq : t.closeSeq = s.closeSeq
  jobs : t.jobs = s.jobs
  jobNext : t.jobNext = s.jobNext
  load : t.load = s.load
  epochs : t.epochs = s.epochs
  lastEpoch : t.lastEpoch = s.lastEpoch
  cap : t.cap = s.cap
  episodes : t.episodes = s.episodes
  heatSeq : t.heatSeq = s.heatSeq
  shedSeq : t.shedSeq = s.shedSeq
  far : t.far = s.far
  farTag : t.farTag = s.farTag
  planTag : t.planTag = s.planTag
  farSeq : t.farSeq = s.farSeq
  farPlans : t.farPlans = s.farPlans
  subst : t.subst = s.subst
  substWait : t.substWait = s.substWait
  unspared : t.unspared = s.unspared
  farRecord : t.farRecord = s.farRecord
  farBased : t.farBased = s.farBased
  farDirty : t.farDirty = s.farDirty
  devRun : t.devRun = s.devRun
  critRun : t.critRun = s.critRun
  warm : t.warm = s.warm
  proofBase : t.proofBase = s.proofBase
  wayOnAt : t.wayOnAt = s.wayOnAt
  proved : t.proved = s.proved
  lastTemps : t.lastTemps = s.lastTemps
  proof : t.proof = s.proof
  precond : t.precond = s.precond
  oscTrim : t.oscTrim = s.oscTrim
  scScale : t.scScale = s.scScale
  logSeq : t.logSeq = s.logSeq
  logTop : t.logTop = s.logTop
  tkSector : t.tkSector = s.tkSector
  tkSlot : t.tkSlot = s.tkSlot
  curSector : t.curSector = s.curSector
  flashOp : t.flashOp = s.flashOp
  logErase : t.logErase = s.logErase
  logTag : t.logTag = s.logTag
  scrubs : t.scrubs = s.scrubs
  win10 : t.win10 = s.win10
  acc10 : t.acc10 = s.acc10
  shown10 : t.shown10 = s.shown10
  pmbMiss : t.pmbMiss = s.pmbMiss
  pmbScan : t.pmbScan = s.pmbScan
  pmbGood : t.pmbGood = s.pmbGood
  pmbMismatch : t.pmbMismatch = s.pmbMismatch
  pmbRaw : t.pmbRaw = s.pmbRaw
  pmbAlerted : t.pmbAlerted = s.pmbAlerted
  ibus : t.ibus = s.ibus
  ibusLow : t.ibusLow = s.ibusLow
  fltAt : t.fltAt = s.fltAt
  fltDeclared : t.fltDeclared = s.fltDeclared
  alertAt : t.alertAt = s.alertAt
  free : t.free = s.free

theorem State.Reports.refl (s : State) : s.Reports s := by constructor <;> rfl

theorem State.Reports.trans {s t u : State} (h : s.Reports t) (k : t.Reports u) : s.Reports u where
  pending := k.pending.trans h.pending
  bays := k.bays.trans h.bays
  yards := k.yards.trans h.yards
  doms := k.doms.trans h.doms
  clusters := k.clusters.trans h.clusters
  rails := k.rails.trans h.rails
  phases := k.phases.trans h.phases
  ctxs := k.ctxs.trans h.ctxs
  flash := k.flash.trans h.flash
  store := k.store.trans h.store
  capram := k.capram.trans h.capram
  latches := k.latches.trans h.latches
  mono := k.mono.trans h.mono
  sysTime := k.sysTime.trans h.sysTime
  sysHalf := k.sysHalf.trans h.sysHalf
  tbValid := k.tbValid.trans h.tbValid
  tbSeen := k.tbSeen.trans h.tbSeen
  tbLoaded := k.tbLoaded.trans h.tbLoaded
  r26 := k.r26.trans h.r26
  startAt := k.startAt.trans h.startAt
  lockAt := k.lockAt.trans h.lockAt
  rollCalled := k.rollCalled.trans h.rollCalled
  image := k.image.trans h.image
  noRecord := k.noRecord.trans h.noRecord
  boot := k.boot.trans h.boot
  porStart := k.porStart.trans h.porStart
  rollAgain := k.rollAgain.trans h.rollAgain
  cpReset := k.cpReset.trans h.cpReset
  blkReset := k.blkReset.trans h.blkReset
  opBase := k.opBase.trans h.opBase
  opFrom := k.opFrom.trans h.opFrom
  rpOut := k.rpOut.trans h.rpOut
  rpRsp := k.rpRsp.trans h.rpRsp
  mp := k.mp.trans h.mp
  mpRead := k.mpRead.trans h.mpRead
  mpDisec := k.mpDisec.trans h.mpDisec
  dbg := k.dbg.trans h.dbg
  dbgHeld := k.dbgHeld.trans h.dbgHeld
  laneErrs := k.laneErrs.trans h.laneErrs
  takeover := k.takeover.trans h.takeover
  taking := k.taking.trans h.taking
  latched := k.latched.trans h.latched
  startIn := k.startIn.trans h.startIn
  recSeq := k.recSeq.trans h.recSeq
  yardCount := k.yardCount.trans h.yardCount
  soReq := k.soReq.trans h.soReq
  soAck := k.soAck.trans h.soAck
  soFly := k.soFly.trans h.soFly
  soQueue := k.soQueue.trans h.soQueue
  sfn := k.sfn.trans h.sfn
  silent := k.silent.trans h.silent
  turn := k.turn.trans h.turn
  sfAt := k.sfAt.trans h.sfAt
  sfMono := k.sfMono.trans h.sfMono
  segDead := k.segDead.trans h.segDead
  colls := k.colls.trans h.colls
  collPend := k.collPend.trans h.collPend
  order := k.order.trans h.order
  claims := k.claims.trans h.claims
  due := k.due.trans h.due
  fly := k.fly.trans h.fly
  commits := k.commits.trans h.commits
  slotCommit := k.slotCommit.trans h.slotCommit
  dreBusy := k.dreBusy.trans h.dreBusy
  estimates := k.estimates.trans h.estimates
  closeSeq := k.closeSeq.trans h.closeSeq
  jobs := k.jobs.trans h.jobs
  jobNext := k.jobNext.trans h.jobNext
  load := k.load.trans h.load
  epochs := k.epochs.trans h.epochs
  lastEpoch := k.lastEpoch.trans h.lastEpoch
  cap := k.cap.trans h.cap
  episodes := k.episodes.trans h.episodes
  heatSeq := k.heatSeq.trans h.heatSeq
  shedSeq := k.shedSeq.trans h.shedSeq
  far := k.far.trans h.far
  farTag := k.farTag.trans h.farTag
  planTag := k.planTag.trans h.planTag
  farSeq := k.farSeq.trans h.farSeq
  farPlans := k.farPlans.trans h.farPlans
  subst := k.subst.trans h.subst
  substWait := k.substWait.trans h.substWait
  unspared := k.unspared.trans h.unspared
  farRecord := k.farRecord.trans h.farRecord
  farBased := k.farBased.trans h.farBased
  farDirty := k.farDirty.trans h.farDirty
  devRun := k.devRun.trans h.devRun
  critRun := k.critRun.trans h.critRun
  warm := k.warm.trans h.warm
  proofBase := k.proofBase.trans h.proofBase
  wayOnAt := k.wayOnAt.trans h.wayOnAt
  proved := k.proved.trans h.proved
  lastTemps := k.lastTemps.trans h.lastTemps
  proof := k.proof.trans h.proof
  precond := k.precond.trans h.precond
  oscTrim := k.oscTrim.trans h.oscTrim
  scScale := k.scScale.trans h.scScale
  logSeq := k.logSeq.trans h.logSeq
  logTop := k.logTop.trans h.logTop
  tkSector := k.tkSector.trans h.tkSector
  tkSlot := k.tkSlot.trans h.tkSlot
  curSector := k.curSector.trans h.curSector
  flashOp := k.flashOp.trans h.flashOp
  logErase := k.logErase.trans h.logErase
  logTag := k.logTag.trans h.logTag
  scrubs := k.scrubs.trans h.scrubs
  win10 := k.win10.trans h.win10
  acc10 := k.acc10.trans h.acc10
  shown10 := k.shown10.trans h.shown10
  pmbMiss := k.pmbMiss.trans h.pmbMiss
  pmbScan := k.pmbScan.trans h.pmbScan
  pmbGood := k.pmbGood.trans h.pmbGood
  pmbMismatch := k.pmbMismatch.trans h.pmbMismatch
  pmbRaw := k.pmbRaw.trans h.pmbRaw
  pmbAlerted := k.pmbAlerted.trans h.pmbAlerted
  ibus := k.ibus.trans h.ibus
  ibusLow := k.ibusLow.trans h.ibusLow
  fltAt := k.fltAt.trans h.fltAt
  fltDeclared := k.fltDeclared.trans h.fltDeclared
  alertAt := k.alertAt.trans h.alertAt
  free := k.free.trans h.free

theorem State.reports_setWord (s : State) (a : Nat) (w : Word) : s.Reports (s.setWord a w) := by constructor <;> rfl
theorem State.reports_put (s : State) (f : Fld) (v : Nat) : s.Reports (s.put f v) := by constructor <;> rfl
theorem State.reports_put64 (s : State) (f : Fld) (v : Nat) : s.Reports (s.put64 f v) :=
  .trans (s.reports_setWord _ _) (State.reports_setWord _ _ _)
theorem State.reports_bump (s : State) (f : Fld) : s.Reports (s.bump f) := by constructor <;> rfl
theorem State.reports_evt (s : State) (pg k : Nat) : s.Reports (s.evt pg k) := by constructor <;> rfl
theorem State.reports_setStream (s : State) (k : Nat) (v : Tdm) : s.Reports (s.setStream k v) := by constructor <;> rfl

theorem State.Reports.foldl {α : Type} {s : State} (f : State → α → State) (h : ∀ (t : State) x, t.Reports (f t x)) (xs : List α)
    (t : State) (k : s.Reports t) : s.Reports (xs.foldl f t) := by
  induction xs generalizing t with
  | nil => exact k
  | cons x xs ih => exact ih _ (k.trans (h t x))

/-! ### Logbook staging (R393, R394) -/

theorem State.reports_countDropped (s : State) : s.Reports s.countDropped := by
  unfold State.countDropped; split
  · constructor <;> rfl
  · exact .refl s

theorem State.reports_countStaged (s : State) : s.Reports s.countStaged := by
  unfold State.countStaged; split
  · constructor <;> rfl
  · exact .refl s

theorem State.reports_disarm (s : State) : s.Reports s.disarm := by
  refine .trans (t := { s with inject := none }) ?_ (State.reports_put _ _ _)
  constructor <;> rfl

theorem State.within_disarm (s : State) : s.Within s.disarm [0xC] :=
  State.Within.put (State.Within.regs (t := s) (.refl s _) rfl) _ _ (by decide)

theorem State.reports_addLog (s : State) (r : LogRec) : s.Reports (s.addLog r) := by constructor <;> rfl

theorem State.reports_pushLog (s : State) (r : LogRec) : s.Reports (s.pushLog r) := by
  unfold State.pushLog; split
  · exact .trans (s.reports_addLog _) (State.reports_disarm _)
  · exact s.reports_addLog r

theorem State.reports_writeError (s : State) (m w : Nat) (e : Option Bool) : s.Reports (s.writeError m w e) := by constructor <;> rfl

/-- Writing a word of a memory changes its check error, and what was armed. -/
theorem State.reports_memWritten (s : State) (m w : Nat) : s.Reports (s.memWritten m w) := by
  unfold State.memWritten; split
  · exact .trans (s.reports_writeError _ _ _) (State.reports_disarm _)
  · exact s.reports_writeError _ _ _

theorem State.within_memWritten (s : State) (m w : Nat) : s.Within (s.memWritten m w) [0xC] := by
  unfold State.memWritten; split
  · refine .trans ?_ (State.within_disarm _)
    exact State.Within.regs (t := s) (.refl s _) rfl
  · exact State.Within.regs (t := s) (.refl s _) rfl

theorem State.reports_stageLog (s : State) (r : LogRec) : s.Reports (s.stageLog r) := by
  unfold State.stageLog; split
  · refine .trans ?_ (State.reports_countDropped _)
    exact .trans (s.reports_bump _) (State.reports_evt _ _ _)
  · refine .trans ?_ (State.reports_countStaged _)
    exact .trans (s.reports_pushLog r) (State.reports_put _ _ _)

theorem State.regs_countDropped (s : State) : s.countDropped.regs = s.regs := by unfold State.countDropped; split <;> rfl
theorem State.regs_countStaged (s : State) : s.countStaged.regs = s.regs := by unfold State.countStaged; split <;> rfl

theorem State.within_pushLog (s : State) (r : LogRec) : s.Within (s.pushLog r) [0xC] := by
  unfold State.pushLog; split
  · refine .trans ?_ (State.within_disarm _)
    exact State.Within.regs (t := s) (.refl s _) rfl
  · exact State.Within.regs (t := s) (.refl s _) rfl

/-- A record staged or dropped writes FLT and LOG registers at most. -/
theorem State.within_stageLog (s : State) (r : LogRec) : s.Within (s.stageLog r) [0xC, 0xD] := by
  unfold State.stageLog; split
  · exact (((State.Within.refl s _).bump _ (by decide)).evt _ _ (by decide)).regs (State.regs_countDropped _)
  · exact (((s.within_pushLog r).mono (by decide)).put _ _ (by decide)).regs (State.regs_countStaged _)

theorem State.reports_setSupp (s : State) (c : Nat) (u : Supp) : s.Reports (s.setSupp c u) := by constructor <;> rfl
theorem State.reports_setTokens (s : State) (c t : Nat) : s.Reports (s.setTokens c t) := by constructor <;> rfl

theorem State.reports_flushSupp (s : State) (c : Nat) : s.Reports (s.flushSupp c) := by
  unfold State.flushSupp; split
  · exact .refl s
  · exact .trans (s.reports_setSupp _ _) (State.reports_stageLog _ _)

theorem State.within_flushSupp (s : State) (c : Nat) : s.Within (s.flushSupp c) [0xC, 0xD] := by
  unfold State.flushSupp; split
  · exact .refl s _
  · refine .trans ?_ (State.within_stageLog _ _)
    exact State.Within.regs (t := s) (.refl s _) rfl

theorem State.reports_record (s : State) (c v f : Nat) (p : List Nat) : s.Reports (s.record c v f p) := by
  unfold State.record; split
  · exact .trans (s.reports_setSupp _ _) (State.reports_bump _ _)
  · refine .trans ?_ (State.reports_stageLog _ _)
    exact .trans (s.reports_setTokens _ _) (State.reports_flushSupp _ _)

/-- A record for the logbook writes FLT and LOG registers at most. -/
theorem State.within_record (s : State) (c v f : Nat) (p : List Nat) : s.Within (s.record c v f p) [0xC, 0xD] := by
  unfold State.record; split
  · exact State.Within.bump (State.Within.regs (t := s) (.refl s _) rfl) _ (by decide)
  · refine .trans ?_ (State.within_stageLog _ _)
    refine .trans ?_ (State.within_flushSupp _ _)
    exact State.Within.regs (t := s) (.refl s _) rfl

theorem State.reports_logEvent (s : State) (c : Nat) (p : List Nat) : s.Reports (s.logEvent c p) := State.reports_record _ _ _ _ _
theorem State.within_logEvent (s : State) (c : Nat) (p : List Nat) : s.Within (s.logEvent c p) [0xC, 0xD] := State.within_record _ _ _ _ _

/-! ### Host notices, words on the bus -/

theorem State.reports_notice (s : State) (k y c p : Nat) : s.Reports (s.notice k y c p) := by
  unfold State.notice; split
  · exact State.reports_logEvent _ _ _
  · constructor <;> rfl

theorem State.within_notice (s : State) (k y c p : Nat) : s.Within (s.notice k y c p) [0xC, 0xD] := by
  unfold State.notice; split
  · exact State.within_logEvent _ _ _
  · exact State.Within.regs (.refl s _) rfl

theorem State.reports_send (s : State) (g : Nat) (w : Word) : s.Reports (s.send g w) := by constructor <;> rfl
theorem State.regs_send (s : State) (g : Nat) (w : Word) : (s.send g w).regs = s.regs := rfl
theorem State.reports_sendYard (s : State) (y : Nat) (w : Word) : s.Reports (s.sendYard y w) :=
  State.Reports.foldl _ (fun t _ => t.reports_send _ _) _ _ (.refl s)
theorem State.regs_sendYard (s : State) (y : Nat) (w : Word) : (s.sendYard y w).regs = s.regs := by
  have h : ∀ (l : List Nat) (t : State), (l.foldl (fun s g => s.send g w) t).regs = t.regs := by
    intro l
    induction l with
    | nil => intro t; rfl
    | cons x xs ih => intro t; exact ih _
  exact h (s.segsOf y) s

/-! ### Telemetry staging and the end of a command (R327, R341) -/

theorem State.reports_loseRecord (s : State) (t : Nat) : s.Reports (s.loseRecord t) := by
  refine .trans ?_ (State.reports_evt _ _ _)
  exact .trans (s.reports_setStream _ _) (State.reports_bump _ _)

theorem State.within_loseRecord (s : State) (t : Nat) (h : t < 3) : s.Within (s.loseRecord t) [0x10] := by
  refine State.Within.evt (State.Within.bump (State.Within.regs (t := s) (.refl s _) rfl) _ ?_) _ _ (by decide)
  have : ∀ t < 3, (TDM_STR_LOST.COUNT t).addr / 0x1000 ∈ [0x10] := by decide
  exact this t h

theorem State.reports_stage (s : State) (t k f : Nat) (b : List Byte) (c : Option Nat) (e : Option CmdTag) :
    s.Reports (s.stage t k f b c e) := by
  simp only [State.stage]
  by_cases h : 4096 < stagedBytes ((s.stream t).staged ++ s.gapRecords t ++
      [⟨tdmRecord k (if (s.stream t).lost = 0 then f else f ||| 0x20) b, c, e⟩])
  · rw [if_pos h]; exact s.reports_loseRecord t
  · rw [if_neg h]; exact s.reports_setStream _ _

theorem State.within_stage (s : State) (t k f : Nat) (b : List Byte) (c : Option Nat) (e : Option CmdTag) (h : t < 3) :
    s.Within (s.stage t k f b c e) [0x10] := by
  simp only [State.stage]
  by_cases h : 4096 < stagedBytes ((s.stream t).staged ++ s.gapRecords t ++
      [⟨tdmRecord k (if (s.stream t).lost = 0 then f else f ||| 0x20) b, c, e⟩])
  · rw [if_pos h]; exact s.within_loseRecord t ‹_›
  · rw [if_neg h]; exact State.Within.regs (t := s) (.refl s _) rfl

theorem State.reports_signalDone (s : State) (w : Window) : s.Reports (s.signalDone w) := by
  cases w
  · exact (s.reports_evt _ _).trans (State.reports_put _ _ _)
  · exact s.reports_evt _ _
  · exact s.reports_evt _ _

theorem State.within_signalDone (s : State) (w : Window) : s.Within (s.signalDone w) [2, 3, 4] := by
  cases w
  · exact ((State.Within.refl s _).evt _ _ (by decide)).put _ _ (by decide)
  · exact (State.Within.refl s _).evt _ _ (by decide)
  · exact (State.Within.refl s _).evt _ _ (by decide)

theorem slotBase_page (w : Window) (n k : Nat) (h : k < 0x40) : (slotBase w n + k) / 0x1000 ∈ [3, 4, 5] := by
  cases w <;> simp only [slotBase, List.mem_cons, List.not_mem_nil, or_false] <;> omega

theorem State.reports_modEntry (s : State) (t : CmdTag) (f : Entry → Entry) : s.Reports (s.modEntry t f) := by constructor <;> rfl

theorem State.reports_endEntry (s : State) (t : CmdTag) (c : Nat) (r : Word) : s.Reports (s.endEntry t c r) := by
  unfold State.endEntry State.writeStatus
  refine .trans ?_ (State.reports_setWord _ _ _)
  refine .trans ?_ (State.reports_setWord _ _ _)
  exact s.reports_modEntry t _

theorem State.within_endEntry (s : State) (t : CmdTag) (c : Nat) (r : Word) : s.Within (s.endEntry t c r) [3, 4, 5] :=
  ((State.Within.regs (t := s) (u := s.modEntry t _) (.refl s _) rfl).setWord _ _ (slotBase_page _ _ _ (by decide))).setWord _ _
    (slotBase_page _ _ _ (by decide))

theorem State.reports_stageDone (s : State) (t : CmdTag) (e : Entry) (l : Bool) (c : Nat) (r : Word) : s.Reports (s.stageDone t e l c r) :=
  State.reports_stage _ _ _ _ _ _ _

theorem State.within_stageDone (s : State) (t : CmdTag) (e : Entry) (l : Bool) (c : Nat) (r : Word) :
    s.Within (s.stageDone t e l c r) [0x10] := State.within_stage _ _ _ _ _ _ _ (by decide)

theorem State.reports_slotLeft (s : State) (w : Window) (n : Nat) : s.Reports (s.slotLeft w n) := by
  unfold State.slotLeft; split
  · exact .trans (by constructor <;> rfl) (State.reports_evt { s with wasActive := false } _ _)
  · exact .refl s

/-- ACTIVE falls with an event of the SEC page at most (R414). -/
theorem State.within_slotLeft (s : State) (w : Window) (n : Nat) : s.Within (s.slotLeft w n) [0xE] := by
  unfold State.slotLeft; split
  · exact State.Within.evt (State.Within.regs (t := s) (.refl s _) rfl) _ _ (by decide)
  · exact .refl s _

/-- The final status of a command, told or not. -/
theorem State.reports_told (s : State) (t : CmdTag) (st : Nat) (r : Word) (v : Bool) :
    s.Reports (if v = true then (s.endEntry t st r).signalDone t.win else s.endEntry t st r) := by
  split
  · exact .trans (s.reports_endEntry t st r) (State.reports_signalDone _ _)
  · exact s.reports_endEntry t st r

theorem State.within_told (s : State) (t : CmdTag) (st : Nat) (r : Word) (v : Bool) :
    s.Within (if v = true then (s.endEntry t st r).signalDone t.win else s.endEntry t st r) [2, 3, 4, 5, 0xE, 0x10] := by
  split
  · exact ((s.within_endEntry t st r).mono (by decide)).trans ((State.within_signalDone _ _).mono (by decide))
  · exact (s.within_endEntry t st r).mono (by decide)

theorem State.reports_finishNow (s : State) (t : CmdTag) (c d : Nat) (r : Word) (l : Bool) : s.Reports (s.finishNow t c d r l) := by
  unfold State.finishNow; split
  · exact .refl s
  · split
    · exact .refl s
    · dsimp only
      refine .trans ?_ (State.reports_slotLeft _ _ _)
      split
      · exact .trans (s.reports_told _ _ _ _) (State.reports_stageDone _ _ _ _ _ _)
      · exact s.reports_told _ _ _ _

/-- The end of a command writes its slot, its window's events, PRT_MP, the SEC page's events and telemetry counters at most. -/
theorem State.within_finishNow (s : State) (t : CmdTag) (c d : Nat) (r : Word) (l : Bool) :
    s.Within (s.finishNow t c d r l) [2, 3, 4, 5, 0xE, 0x10] := by
  unfold State.finishNow; split
  · exact .refl s _
  · split
    · exact .refl s _
    · dsimp only
      refine .trans ?_ ((State.within_slotLeft _ _ _).mono (by decide))
      split
      · exact .trans (s.within_told _ _ _ _) ((State.within_stageDone _ _ _ _ _ _).mono (by decide))
      · exact s.within_told _ _ _ _

theorem State.reports_finish (s : State) (t : CmdTag) (c d : Nat) (r : Word) (l : Bool) : s.Reports (s.finish t c d r l) := by
  unfold State.finish; split
  · constructor <;> rfl
  · exact s.reports_finishNow t c d r l

theorem State.within_finish (s : State) (t : CmdTag) (c d : Nat) (r : Word) (l : Bool) :
    s.Within (s.finish t c d r l) [2, 3, 4, 5, 0xE, 0x10] := by
  unfold State.finish; split
  · exact State.Within.regs (t := s) (.refl s _) rfl
  · exact s.within_finishNow t c d r l

theorem State.reports_finishOpt (s : State) (t : Option CmdTag) (c d : Nat) (r : Word) (l : Bool) : s.Reports (s.finishOpt t c d r l) := by
  cases t
  · exact .refl s
  · exact State.reports_finish _ _ _ _ _ _

theorem State.within_finishOpt (s : State) (t : Option CmdTag) (c d : Nat) (r : Word) (l : Bool) :
    s.Within (s.finishOpt t c d r l) [2, 3, 4, 5, 0xE, 0x10] := by
  cases t
  · exact .refl s _
  · exact State.within_finish _ _ _ _ _ _

/-! ### Faults (R373-R382) -/

theorem State.reports_refreshPair (s : State) : s.Reports s.refreshPair := by
  unfold State.refreshPair; dsimp only; split
  · exact .refl s
  · exact .trans (s.reports_put _ _) (State.reports_put _ _ _)

theorem State.within_refreshPair (s : State) : s.Within s.refreshPair [2, 0xC] := by
  unfold State.refreshPair; dsimp only; split
  · exact .refl s _
  · exact ((State.Within.refl s _).put _ _ (by decide)).put _ _ (by decide)

theorem State.reports_quiet (s : State) (n : Nat) : s.Reports { s with quietFrom := n } := by constructor <;> rfl

theorem State.reports_refreshAssert (s : State) : s.Reports s.refreshAssert := (s.reports_quiet _).trans (State.reports_put _ _ _)
theorem State.within_refreshAssert (s : State) : s.Within s.refreshAssert [0xC] :=
  State.Within.put (State.Within.regs (t := s) (.refl s _) rfl) _ _ (by decide)

theorem State.reports_assertSource (s : State) (c : Nat) : s.Reports (s.assertSource c) := by
  unfold State.assertSource; split
  · exact s.reports_refreshAssert
  · refine .trans (t := { s with assertF := s.assertF ++ [c] }) ?_ (State.reports_refreshAssert _)
    constructor <;> rfl

theorem State.within_assertSource (s : State) (c : Nat) : s.Within (s.assertSource c) [0xC] := by
  unfold State.assertSource; split
  · exact s.within_refreshAssert
  · exact State.Within.trans (t := { s with assertF := s.assertF ++ [c] }) (State.Within.regs (t := s) (.refl s _) rfl) (State.within_refreshAssert _)

theorem State.reports_deassertSource (s : State) (c : Nat) : s.Reports (s.deassertSource c) := by
  refine .trans (t := { s with assertF := s.assertF.filter (· != c) }) ?_ (State.reports_refreshAssert _)
  constructor <;> rfl
theorem State.within_deassertSource (s : State) (c : Nat) : s.Within (s.deassertSource c) [0xC] :=
  State.Within.trans (t := { s with assertF := s.assertF.filter (· != c) }) (State.Within.regs (t := s) (.refl s _) rfl)
    (State.within_refreshAssert _)

theorem State.reports_endUnstarted (s : State) : s.Reports s.endUnstarted :=
  State.Reports.foldl _ (fun t _ => t.reports_finish _ _ _ _ _) _ _ (.refl s)
theorem State.within_endUnstarted (s : State) : s.Within s.endUnstarted [2, 3, 4, 5, 0xE, 0x10] :=
  State.Within.foldl _ (fun t _ h => h.trans (t.within_finish _ _ _ _ _)) _ _ (.refl s _)

theorem State.reports_enterHold (s : State) (c : Nat) : s.Reports (s.enterHold c) := by
  unfold State.enterHold; split
  · exact .refl s
  · refine .trans ?_ (State.reports_endUnstarted _)
    refine .trans ?_ (State.reports_logEvent _ _ _)
    exact .trans (s.reports_put _ _) (State.reports_evt _ _ _)

theorem State.within_enterHold (s : State) (c : Nat) : s.Within (s.enterHold c) faultPages := by
  unfold State.enterHold; split
  · exact .refl s _
  · exact ((((State.Within.refl s _).put _ _ (by decide)).evt _ _ (by decide)).trans
      ((State.within_logEvent _ _ _).mono (by decide))).trans ((State.within_endUnstarted _).mono (by decide))

theorem State.reports_capture (s : State) (c k : Nat) (e i : Bool) (p : Nat) (a : FaultAccess) : s.Reports (s.capture c k e i p a) := by
  unfold State.capture
  refine .trans ?_ (State.reports_put _ _ _)
  refine .trans ?_ (State.reports_put64 _ _ _)
  refine .trans ?_ (State.reports_put64 _ _ _)
  exact .trans (s.reports_put _ _) (State.reports_put _ _ _)

theorem State.within_capture (s : State) (c k : Nat) (e i : Bool) (p : Nat) (a : FaultAccess) : s.Within (s.capture c k e i p a) [0xC] := by
  unfold State.capture
  exact (((((State.Within.refl s _).put _ _ (by decide)).put _ _ (by decide)).put64 _ _ (by decide) (by decide)).put64 _ _ (by decide)
    (by decide)).put _ _ (by decide)

theorem classCounter_page (c : Nat) : (classCounter c).addr / 0x1000 ∈ [0xC] := by
  unfold classCounter; split
  · decide
  · split <;> decide

theorem pendBit_page (c : Nat) : (pendBit c).addr / 0x1000 ∈ [0xC] := by
  unfold pendBit; split
  · decide
  · split <;> decide

theorem faultClass_le (c : Nat) : faultClass c ≤ 2 := by unfold faultClass; split <;> (try split) <;> omega

theorem State.reports_raiseRepeat (s : State) (c : Nat) (p : List Nat) (i : Bool) : s.Reports (s.raiseRepeat c p i) :=
  .trans (.trans (.trans (s.reports_bump _) (State.reports_bump _ _)) (State.reports_evt _ _ _)) (State.reports_record _ _ _ _ _)

theorem State.within_raiseRepeat (s : State) (c : Nat) (p : List Nat) (i : Bool) : s.Within (s.raiseRepeat c p i) [0xC, 0xD] := by
  unfold State.raiseRepeat
  exact (((((State.Within.refl s _).bump _ (classCounter_page _)).bump _ (by decide)).evt _ _ (by decide)).mono (by decide)).trans
    (State.within_record _ _ _ _ _)

theorem State.reports_activate (s : State) (c k : Nat) : s.Reports (s.activate c k) := by
  refine .trans (s.reports_put (Fld.bit FLT_ACT.CODE c) 1) ?_
  constructor <;> rfl

theorem State.reports_pendClass (s : State) (c : Nat) (e : Bool) : s.Reports (s.pendClass c e) := by
  unfold State.pendClass; dsimp only; split
  · refine .trans ?_ (State.reports_evt _ _ _)
    refine .trans ?_ (State.reports_bump _ _)
    refine .trans ?_ (State.reports_evt _ _ _)
    exact .trans (s.reports_put _ _) (State.reports_bump _ _)
  · refine .trans ?_ (State.reports_evt _ _ _)
    exact .trans (s.reports_put _ _) (State.reports_bump _ _)

theorem State.within_pendClass (s : State) (c : Nat) (e : Bool) : s.Within (s.pendClass c e) [0xC] := by
  unfold State.pendClass; dsimp only
  have h : s.Within (((s.put (pendBit c) 1).bump (classCounter c)).evt pgFLT c) [0xC] :=
    (((State.Within.refl s _).put _ _ (pendBit_page c)).bump _ (classCounter_page c)).evt _ _ (by decide)
  split
  · exact (h.bump _ (by decide)).evt _ _ (by decide)
  · exact h

theorem State.reports_classF (s : State) (c : Nat) : s.Reports (s.classF c) := by
  unfold State.classF; dsimp only
  have h1 : s.Reports (if s.get FLT_REC.COUNT = 8 then s.put FLT_STATUS.LATCHED 1 else s) := by
    split
    · exact s.reports_put _ _
    · exact .refl s
  revert h1
  generalize (if s.get FLT_REC.COUNT = 8 then s.put FLT_STATUS.LATCHED 1 else s) = t
  intro h1
  have h2 : s.Reports (if t.inBoot = true then t.put FLT_STATUS.STARTUP_HELD 1 else t) := by
    split
    · exact h1.trans (t.reports_put _ _)
    · exact h1
  split
  · exact h2
  · exact h2.trans (State.reports_enterHold _ _)

theorem State.within_classF (s : State) (c : Nat) : s.Within (s.classF c) faultPages := by
  unfold State.classF; dsimp only
  have h1 : s.Within (if s.get FLT_REC.COUNT = 8 then s.put FLT_STATUS.LATCHED 1 else s) faultPages := by
    split
    · exact (State.Within.refl s _).put _ _ (by decide)
    · exact .refl s _
  revert h1
  generalize (if s.get FLT_REC.COUNT = 8 then s.put FLT_STATUS.LATCHED 1 else s) = t
  intro h1
  have h2 : s.Within (if t.inBoot = true then t.put FLT_STATUS.STARTUP_HELD 1 else t) faultPages := by
    split
    · exact h1.put _ _ (by decide)
    · exact h1
  split
  · exact h2
  · exact h2.trans (State.within_enterHold _ _)

/-- The code bit of FLT_ACT0-3 lies in page FLT for every code of R374. -/
theorem act_page (c : Nat) (h : c < 0x80) : (Fld.bit FLT_ACT.CODE c).addr / 0x1000 ∈ [0xC] := by
  have : ∀ c < 0x80, (Fld.bit FLT_ACT.CODE c).addr / 0x1000 ∈ [0xC] := by decide
  exact this c h

theorem State.reports_raiseNew (s : State) (c : Nat) (p : List Nat) (a : FaultAccess) (i : Bool) : s.Reports (s.raiseNew c p a i) := by
  unfold State.raiseNew; dsimp only
  have h1 := (s.reports_activate c (s.raisedClass c)).trans (State.reports_pendClass _ (s.raisedClass c) (s.escalates c))
  revert h1
  generalize (s.activate c (s.raisedClass c)).pendClass (s.raisedClass c) (s.escalates c) = t
  intro h1
  have h2 : s.Reports (if s.captures (s.raisedClass c) = true then t.capture c (s.raisedClass c) (s.escalates c) i (p.headD 0) a else t) := by
    split
    · exact h1.trans (t.reports_capture _ _ _ _ _ _)
    · exact h1
  split
  · exact h2.trans (State.reports_record _ _ _ _ _)
  · exact (h2.trans (State.reports_record _ _ _ _ _)).trans (State.reports_classF _ _)

theorem State.within_raiseNew (s : State) (c : Nat) (p : List Nat) (a : FaultAccess) (i : Bool) (hc : c < 0x80) :
    s.Within (s.raiseNew c p a i) faultPages := by
  unfold State.raiseNew; dsimp only
  have h0 : s.Within (s.activate c (s.raisedClass c)) faultPages :=
    (((State.Within.refl s [0xC]).put _ 1 (act_page c hc)).mono (by decide)).regs rfl
  have h1 := h0.trans ((State.within_pendClass _ (s.raisedClass c) (s.escalates c)).mono (by decide))
  revert h1
  generalize (s.activate c (s.raisedClass c)).pendClass (s.raisedClass c) (s.escalates c) = t
  intro h1
  have h2 : s.Within (if s.captures (s.raisedClass c) = true then t.capture c (s.raisedClass c) (s.escalates c) i (p.headD 0) a else t)
      faultPages := by
    split
    · exact h1.trans ((t.within_capture _ _ _ _ _ _).mono (by decide))
    · exact h1
  have h3 (u : State) (k : s.Within u faultPages) (v f : Nat) : s.Within (u.record c v f p) faultPages :=
    k.trans ((State.within_record _ _ _ _ _).mono (by decide))
  split
  · exact h3 _ h2 _ _
  · exact (h3 _ h2 _ _).trans (State.within_classF _ _)

theorem State.reports_raiseWith (s : State) (c : Nat) (p : List Nat) (a : FaultAccess) (i : Bool) : s.Reports (s.raiseWith c p a i) := by
  unfold State.raiseWith; split
  · exact ((s.reports_quiet _).trans (State.reports_raiseRepeat _ _ _ _)).trans (State.reports_refreshPair _)
  · exact ((s.reports_quiet _).trans (State.reports_raiseNew _ _ _ _ _)).trans (State.reports_refreshPair _)

/-- The collector taking a code writes the fault pages at most. -/
theorem State.within_raiseWith (s : State) (c : Nat) (p : List Nat) (a : FaultAccess) (i : Bool) (hc : c < 0x80) :
    s.Within (s.raiseWith c p a i) faultPages := by
  have h0 (n : Nat) : s.Within { s with quietFrom := n } faultPages := State.Within.regs (t := s) (.refl s _) rfl
  unfold State.raiseWith; split
  · exact ((h0 _).trans ((State.within_raiseRepeat _ _ _ _).mono (by decide))).trans ((State.within_refreshPair _).mono (by decide))
  · exact ((h0 _).trans (State.within_raiseNew _ _ _ _ _ hc)).trans ((State.within_refreshPair _).mono (by decide))

theorem State.reports_raise (s : State) (c : Nat) (p : List Nat) : s.Reports (s.raise c p) := s.reports_raiseWith _ _ _ _
theorem State.within_raise (s : State) (c : Nat) (p : List Nat) (hc : c < 0x80) : s.Within (s.raise c p) faultPages :=
  s.within_raiseWith _ _ _ _ hc

/-! ### The end of a command (R379, R381, assumption log 1) -/

theorem State.reports_wired (s : State) : s.Reports s.wired := s.reports_refreshAssert.trans (State.reports_refreshPair _)

/-- The wires reach FLT_STATUS and PRT_MP alone. -/
theorem State.word_wired (s : State) (a : Nat) (h : a ≠ FLT_STATUS.reg.addr) (k : a ≠ PRT_MP.reg.addr) : s.wired.word a = s.word a := by
  unfold State.wired State.refreshPair; dsimp only; split
  · exact State.word_put _ _ _ _ h
  · exact ((State.word_put _ PRT_MP.IBI_PEND _ a k).trans (State.word_put _ FLT_STATUS.PIN _ a h)).trans
      (State.word_put _ FLT_STATUS.F_ASSERT _ a h)

/-- A command's answer: every field but the registers and the queue is what the effect left. -/
theorem State.after_next (s t : State) : s.after t = .next { t.wired with pending := s.pending } := rfl

theorem State.word_after (s t : State) (a : Nat) (h : a ≠ FLT_STATUS.reg.addr) (k : a ≠ PRT_MP.reg.addr) :
    ({ t.wired with pending := s.pending } : State).word a = t.word a := t.word_wired a h k

theorem State.get_after (s t : State) (f : Fld) (h : f.addr ≠ FLT_STATUS.reg.addr) (k : f.addr ≠ PRT_MP.reg.addr) :
    ({ t.wired with pending := s.pending } : State).get f = t.get f := by
  simp only [State.get, State.word_after s t f.addr h k]

/-! ### Memories: every operation keeps the canonical form, a read after a write gives the byte written -/

theorem State.flashAt_setFlash (s : State) (a b : Nat) (v : Byte) : (s.setFlash a v).flashAt b = if b = a then v else s.flashAt b :=
  Tab.get_set _ _ _ _ _

theorem State.storeAt_setStore (s : State) (a b : Nat) (v : Byte) : (s.setStore a v).storeAt b = if b = a then v else s.storeAt b :=
  Tab.get_set _ _ _ _ _

theorem State.capAt_setCap (s : State) (a b : Nat) (v : Byte) : (s.setCap a v).capAt b = if b = a then v else s.capAt b :=
  Tab.get_set _ _ _ _ _

/-- The canonical form of the three memories. -/
def State.MemWf (s : State) : Prop :=
  Tab.wf (fun _ => (0xFF : Byte)) s.flash = true ∧ Tab.wf (fun _ => (0 : Byte)) s.store = true ∧ Tab.wf (fun _ => (0 : Byte)) s.capram = true

theorem State.MemWf.setFlash {s : State} (h : s.MemWf) (a : Nat) (v : Byte) : (s.setFlash a v).MemWf :=
  ⟨Tab.wf_set _ _ _ _ h.1, h.2⟩

theorem State.MemWf.setStore {s : State} (h : s.MemWf) (a : Nat) (v : Byte) : (s.setStore a v).MemWf :=
  ⟨h.1, Tab.wf_set _ _ _ _ h.2.1, h.2.2⟩

theorem State.MemWf.setCap {s : State} (h : s.MemWf) (a : Nat) (v : Byte) : (s.setCap a v).MemWf :=
  ⟨h.1, h.2.1, Tab.wf_set _ _ _ _ h.2.2⟩

theorem State.MemWf.program {s : State} (h : s.MemWf) (a : Nat) (l : List Byte) : (s.program a l).MemWf := by
  unfold State.program
  generalize l.zipIdx = z
  induction z generalizing s with
  | nil => exact h
  | cons x xs ih => exact ih (h.setFlash _ _)

theorem State.MemWf.eraseFlash {s : State} (h : s.MemWf) (a n : Nat) : (s.eraseFlash a n).MemWf :=
  ⟨Tab.wf_filter _ _ _ h.1, h.2⟩

theorem State.MemWf.writeFlash {s : State} (h : s.MemWf) (a : Nat) (l : List Byte) : (s.writeFlash a l).MemWf :=
  (h.eraseFlash _ _).program _ _

theorem State.reset_memWf : State.reset.MemWf := ⟨rfl, rfl, rfl⟩

/-! ### A write of one register over a port (R8) -/

/-- A write that neither a reset nor the debug port's shutter stops, of a word in which no check error stands. -/
theorem State.wordWrite_eq (s : State) (q : Requester) (a : Nat) (w : Word) (h : s.cpReset = false)
    (hd : q.port = .dbg → s.active = false) (ha : homeAddr (apertureAddr a) = a)
    (hm : ∀ m n, memoryOf a = some (m, n) → s.memError m n = none) :
    s.wordWrite q a w = s.busStore q (apertureAddr a) [(a, w)] := by
  have hr : s.memRead q a 2 = (s, false) := by
    unfold State.memRead
    split
    · rfl
    · next m n e => simp only [hm m n e]
  have hd' : ¬(q.port = .dbg ∧ s.active = true) := fun x => by simp [hd x.1] at x
  unfold State.wordWrite State.portWrite
  simp only [h, ha, hr, Bool.false_eq_true, false_and, if_false]
  rw [if_neg hd']
  simp

/-- A write of one register below the model store, outside the command slots, whose fields are all taken: the fields stored,
and then what the write sets going. -/
theorem State.busStore_one (s : State) (q : Requester) (a : Nat) (w : Word) (l : List (FSpec × Verdict)) (hs : slotAt a = none)
    (hr : apertureAddr a < 0x80000) (hj : s.judgeWord q [(a, w)] a = (l, false)) (hq : recordReason (clsOf q) a l = none) :
    s.busStore q (apertureAddr a) [(a, w)] =
      if (fieldsAt a).any fun f => l.any fun p => p.1.lo == f.lo && match p.2 with | .set _ => true | .act => true | _ => false
      then (s.setWord a (applied (s.word a) l)).afterWord s q a w fun lo =>
        l.any fun p => p.1.lo == lo && match p.2 with | .set _ => true | .act => true | _ => false
      else s.setWord a (applied (s.word a) l) := by
  have h1 : ¬(0x80000 ≤ apertureAddr a ∧ apertureAddr a < 0x100000) := by omega
  have h2 : ¬(0x100000 ≤ apertureAddr a) := by omega
  unfold State.busStore State.regWrite
  simp only [h1, h2, if_false, List.map_cons, List.map_nil, hj, List.flatMap_cons, List.flatMap_nil, List.append_nil,
    List.headD_cons, hq, List.any_cons, List.any_nil, Bool.or_false, Bool.false_eq_true, List.foldl_cons, List.foldl_nil,
    List.filter_cons, List.filter_nil]
  have h3 (t : State) (c : Bool) : (if c = true then [(a, w)] else []).foldl
      (fun s e => match slotAt e.1 with | some (w, slot) => s.commit w slot e.2 | none => s) t = t := by
    cases c
    · rfl
    · simp only [if_true, List.foldl_cons, List.foldl_nil, hs]
  exact h3 _ _

end Sys2Proof.Machine
end

