-- ==== Sys2Proof/Tests/Slice0.lean ====
section
/-!
SUPPORT. Tests: ill-formed commands and the checks that refuse them, single commands with the figures the spec gives, and for
each statement with hypotheses a state and operands that meet them. Each decides by evaluation in the kernel.
-/

namespace Sys2Proof.Tests

set_option Elab.async false

open Sys2Proof Sys2Proof.Machine

/-! ## Well-formed commands -/

/-- A command of slot 0 of the CMD window. -/
def smokeCmd : Cmd := ⟨.cmd, 0, ⟨.rp, 0⟩, 0, 0, 0, 0, 0, 0, 0, 0⟩

/-- A command of a slot the CMK window does not have. -/
def smokeBadCmd : Cmd := ⟨.cmk, 16, ⟨.rp, 1⟩, 0, 0, 0, 0, 0, 0, 0, 0⟩

/-- A reading no device answered. -/
def smokeReading : PmbReading := ⟨false, 0, 0, 0, 0, 0, 0, 0, 0, 0, 0⟩

/-- Each of these breaks one check of WellFormed, in the order of its rows (part 1). -/
theorem test_illFormedRefused1 : (([.glbResetControlPlane ⟨.mp, 1⟩,
    .glbResetBlock ⟨.mp, 1⟩ ⟨[], none, 0, [], 0⟩,
    .serviceCoreFailure 2 (.lockstep 0),
    .prtH2mWrite ⟨.mp, 1⟩ 0 0,
    .prtH2mWrite ⟨.rp, 0⟩ 32 0,
    .pgUnlock ⟨.mp, 1⟩ 0,
    .pgUnlock ⟨.rp, 0⟩ 0x6B,
    .pgLock ⟨.mp, 1⟩ 0,
    .pgLock ⟨.rp, 0⟩ 0x6B,
    .xrecUnlock ⟨.mp, 1⟩ 0 0,
    .xrecUnlock ⟨.rp, 0⟩ 3 0,
    .xrecUnlock ⟨.rp, 0⟩ 0 20,
    .xrecLock ⟨.mp, 1⟩ 0 0,
    .xrecLock ⟨.rp, 0⟩ 3 0,
    .xrecLock ⟨.rp, 0⟩ 0 20,
    .collectiveOpen 16,
    .collectiveClose 16,
    .ownershipChange Config.yardCount,
    .capYownWrite ⟨.mp, 1⟩ 0 0,
    .capYownWrite ⟨.rp, 0⟩ 32 0,
    .gatherEnd Config.yardCount,
    .coolEnd Config.yardCount,
    .presetApply Config.yardCount,
    .presetHorizon Config.yardCount,
    .presetEnd Config.yardCount,
    .preraiseEnd Config.yardCount,
    .dreLoadGo ⟨.mp, 1⟩ 0 0,
    .dreLoadGo ⟨.rp, 0⟩ 8 0,
    .dreLoadGo ⟨.rp, 0⟩ 0 3,
    .dreCtrlRunWrite ⟨.mp, 1⟩ false,
    .activityRecord Config.yardCount [],
    .soDone Config.yardCount,
    .vfWaitExpiry Config.yardCount,
    .superframe Config.segments,
    .sync Config.segments 0 0 0,
    .syncLost Config.bayCount false,
    .sharingApply Config.bayCount [],
    .trim Config.segments 0 0 0,
    .trim 0 128 0 0,
    .setpoint Config.segments 0 0 0 0] : List Instr).all fun c => !c.wf) = true := by
  decide +kernel

/-- Each of these breaks one check of WellFormed, in the order of its rows (part 2). -/
theorem test_illFormedRefused2 : (([.setpoint 0 128 0 0 0,
    .setpoint 0 0 1024 0 0,
    .setpoint 0 0 0 16 0,
    .preset Config.segments 0 0 0,
    .preset 0 128 0 0,
    .preset 0 0 32 0,
    .add Config.segments 0 false false 0,
    .add 0 80 false false 0,
    .shedPrep Config.segments 0 false false 0,
    .shedPrep 0 80 false false 0,
    .cancel Config.segments 0 false false 0,
    .cancel 0 80 false false 0,
    .clearTrip Config.segments 0 false false 0,
    .clearTrip 0 80 false false 0,
    .bayStateOff Config.segments 0 0,
    .bayStateOff 0 80 0,
    .bayStateReady Config.segments 0 0,
    .bayStateReady 0 80 0,
    .bayStateRun Config.segments 0 0,
    .bayStateRun 0 80 0,
    .bayStateHeat Config.segments 0 0,
    .bayStateHeat 0 80 0,
    .bayStateFence Config.segments 0 0,
    .bayStateFence 0 80 0,
    .bayStateRelease Config.segments 0 0,
    .bayStateRelease 0 80 0,
    .remountConnect Config.segments 0 false 0,
    .remountConnect 0 80 false 0,
    .remountDisconnect Config.segments 0 false 0,
    .remountDisconnect 0 80 false 0,
    .remountConnectStep Config.bayCount false,
    .remountDisconnectStep Config.bayCount,
    .cfgWr Config.segments 0 0 0 0,
    .cfgWr 0 80 0 0 0,
    .cfgWr 0 0 32 0 0,
    .cfgRd Config.segments 0 0 0,
    .cfgRd 0 80 0 0,
    .cfgRd 0 0 32 0,
    .currentReport Config.segments 0 [],
    .event Config.segments 0 0] : List Instr).all fun c => !c.wf) = true := by
  decide +kernel

/-- Each of these breaks one check of WellFormed, in the order of its rows (part 3). -/
theorem test_illFormedRefused3 : (([.event 0 80 0,
    .rdRsp Config.segments 0 0,
    .rdRsp 0 80 0,
    .fbbSegment Config.segments,
    .holdReqTimeout Config.yardCount,
    .tripHoldEnd Config.yardCount,
    .autoClearTrip Config.bayCount false,
    .phaseCountDecision Config.yardCount,
    .sharingJob Config.bayCount 0 false,
    .sharingJob 0 24 false,
    .sharingDeadlineMiss Config.bayCount,
    .supervisionJob Config.yardCount 0 false,
    .supervisionJob 0 24 false,
    .droopTrip Config.bayCount,
    .droopClear Config.bayCount,
    .allHandsEnd Config.bayCount,
    .shedStop Config.bayCount false,
    .phaseCold Config.bayCount false,
    .tripped Config.bayCount false,
    .bayOverload Config.bayCount,
    .inputLow Config.bayCount,
    .outputHigh Config.bayCount,
    .protectReturn Config.bayCount,
    .phaseFailed Config.bayCount false .openPhase,
    .bayCtrlFence ⟨.mp, 1⟩ 0,
    .bayCtrlFence ⟨.rp, 0⟩ Config.bayCount,
    .bayCtrlRelease ⟨.mp, 1⟩ 0,
    .bayCtrlRelease ⟨.rp, 0⟩ Config.bayCount,
    .bayCtrlClearTrip ⟨.mp, 1⟩ 0,
    .bayCtrlClearTrip ⟨.rp, 0⟩ Config.bayCount,
    .bayRemountGo ⟨.mp, 1⟩ 0 false false,
    .bayRemountGo ⟨.rp, 0⟩ Config.bayCount false false,
    .bayDroopWrite ⟨.mp, 1⟩ 0 0,
    .bayDroopWrite ⟨.rp, 0⟩ Config.bayCount 0,
    .bayDroopWrite ⟨.rp, 0⟩ 0 64,
    .yrdDroopWrite ⟨.mp, 1⟩ 0 0,
    .yrdDroopWrite ⟨.rp, 0⟩ Config.yardCount 0,
    .yrdDroopWrite ⟨.rp, 0⟩ 0 64,
    .yrdVidWrite ⟨.mp, 1⟩ 0 0,
    .yrdVidWrite ⟨.rp, 0⟩ Config.yardCount 0] : List Instr).all fun c => !c.wf) = true := by
  decide +kernel

/-- Each of these breaks one check of WellFormed, in the order of its rows (part 4). -/
theorem test_illFormedRefused4 : (([.yrdVidWrite ⟨.rp, 0⟩ 0 1024,
    .yrdLoopWrite ⟨.mp, 1⟩ 0 0,
    .yrdLoopWrite ⟨.rp, 0⟩ Config.yardCount 0,
    .samplingInstant Config.yardCount,
    .errorQueued Config.yardCount,
    .lawJobDispatch 24 0,
    .lawJobComplete Config.yardCount false false false,
    .keelHandover Config.yardCount,
    .keelMiss Config.yardCount,
    .conversionDone Config.clusterCount 0 0 0 false,
    .conversionDone 0 5 0 0 false,
    .conversionDone 0 0 36 0 false,
    .windowConfigWrite ⟨.mp, 1⟩ 0 0 false 0,
    .windowConfigWrite ⟨.rp, 0⟩ Config.clusterCount 0 false 0,
    .windowConfigWrite ⟨.rp, 0⟩ 0 36 false 0,
    .scanWeightWrite ⟨.mp, 1⟩ 0 0 0,
    .scanWeightWrite ⟨.rp, 0⟩ Config.clusterCount 0 0,
    .scanWeightWrite ⟨.rp, 0⟩ 0 36 0,
    .scanWeightWrite ⟨.rp, 0⟩ 0 0 128,
    .estimatorTurnEnd Config.clusterCount 0 {} {} 0,
    .estimatorTurnEnd 0 5 {} {} 0,
    .tempSubstitution Config.clusterCount,
    .sxtUrgGo ⟨.mp, 1⟩ 0 0,
    .sxtUrgGo ⟨.rp, 0⟩ Config.clusterCount 0,
    .sxtUrgGo ⟨.rp, 0⟩ 0 64,
    .urgentStart Config.clusterCount 0 0 false,
    .urgentStart 0 5 0 false,
    .urgentDone Config.clusterCount 0,
    .urgentTimeout Config.clusterCount,
    .streamGo ⟨.mp, 1⟩ 0 0 0,
    .streamGo ⟨.rp, 0⟩ Config.clusterCount 0 0,
    .streamGo ⟨.rp, 0⟩ 0 2 0,
    .streamStop ⟨.mp, 1⟩ 0 0 [],
    .streamStop ⟨.rp, 0⟩ Config.clusterCount 0 [],
    .streamStop ⟨.rp, 0⟩ 0 2 [],
    .streamBurstWritten Config.clusterCount 0 [] false,
    .streamBurstWritten 0 2 [] false,
    .streamTrigger Config.clusterCount 0,
    .sxtMaintWrite ⟨.mp, 1⟩ 0 0,
    .sxtMaintWrite ⟨.rp, 0⟩ 4 0] : List Instr).all fun c => !c.wf) = true := by
  decide +kernel

/-- Each of these breaks one check of WellFormed, in the order of its rows (part 5). -/
theorem test_illFormedRefused5 : (([.sxtCalZero ⟨.mp, 1⟩ 0,
    .sxtCalZero ⟨.rp, 0⟩ Config.clusterCount,
    .sxtCalFullScale ⟨.mp, 1⟩ 0,
    .sxtCalFullScale ⟨.rp, 0⟩ Config.clusterCount,
    .sxtCalAbort ⟨.mp, 1⟩ 0,
    .sxtCalAbort ⟨.rp, 0⟩ Config.clusterCount,
    .syscalChannelDone Config.clusterCount 0,
    .syscalRecordWritten Config.clusterCount,
    .syscalTimeout Config.clusterCount,
    .farSusclrGo ⟨.mp, 1⟩ 0 0,
    .farSusclrGo ⟨.rp, 0⟩ 128 0,
    .zpathWindow Config.yardCount,
    .farCtrlGo ⟨.mp, 1⟩,
    .lossProbe Config.bayCount 0,
    .pwsReqGo ⟨.mp, 1⟩ 0 0,
    .pwsReqGo ⟨.rp, 0⟩ 128 0,
    .pwsReqGo ⟨.rp, 0⟩ 0 8,
    .domainWakePin Config.yardCount false,
    .wakeDriverBias Config.yardCount,
    .wakeBiasSettle Config.yardCount,
    .slewEnd Config.yardCount,
    .domainReadyInput Config.yardCount .oscRdy false,
    .pwsWakeTimeout Config.yardCount,
    .pwsIsoTimeout Config.yardCount,
    .pwsSaveTimeout Config.yardCount,
    .pwsRdyLost Config.yardCount .oscRdy,
    .capJobBegin ⟨.mp, 1⟩ 0 0,
    .capJobBegin ⟨.rp, 0⟩ Config.contexts 0,
    .capJobBegin ⟨.rp, 0⟩ 0 32768,
    .capJobEnd ⟨.mp, 1⟩ 0 0,
    .capJobEnd ⟨.rp, 0⟩ Config.contexts 0,
    .capJobEnd ⟨.rp, 0⟩ 0 32768,
    .attributionIntervalClose Config.yardCount,
    .thmProofGo ⟨.mp, 1⟩ 0,
    .thmProofGo ⟨.rp, 0⟩ 128,
    .sensorProofAuto Config.yardCount,
    .thmPrecondGo ⟨.mp, 1⟩ 0 0,
    .thmPrecondGo ⟨.rp, 0⟩ Config.yardCount 0,
    .thmPrecondGo ⟨.rp, 0⟩ 0 128,
    .thmPrecondStop ⟨.mp, 1⟩] : List Instr).all fun c => !c.wf) = true := by
  decide +kernel

/-- Each of these breaks one check of WellFormed, in the order of its rows (part 6). -/
theorem test_illFormedRefused6 : (([.thmCold Config.yardCount,
    .stgRailOnSet ⟨.mp, 1⟩ 0,
    .stgRailOnSet ⟨.rp, 0⟩ 2,
    .stgRailOnClear ⟨.mp, 1⟩ 0,
    .stgRailOnClear ⟨.rp, 0⟩ 2,
    .railDelayEnd 2,
    .railRampEnd 2,
    .stgVoutWrite ⟨.mp, 1⟩ 0 0,
    .stgVoutWrite ⟨.rp, 0⟩ 2 0,
    .stgVoutWrite ⟨.rp, 0⟩ 0 1024,
    .pgSet 2,
    .stgPgLost 2,
    .shortCircuitTrip Config.stagePhases,
    .brakeEnter 2,
    .brakeExit 2,
    .overloadEval Config.stagePhases,
    .hiccup 2,
    .hiccupRestart 2,
    .stgPhclrWrite ⟨.mp, 1⟩ 0,
    .pmbScanGo ⟨.mp, 1⟩,
    .pmbusPoll 16 smokeReading,
    .pmbAlert 128 0,
    .pmbRawGo ⟨.mp, 1⟩ false 0 0,
    .pmbRawGo ⟨.rp, 0⟩ false 128 0,
    .nop smokeBadCmd,
    .abort smokeBadCmd,
    .setVid smokeBadCmd,
    .setLoop smokeBadCmd,
    .remount smokeBadCmd,
    .domainState smokeBadCmd,
    .maint smokeBadCmd,
    .setMode smokeBadCmd,
    .setCap smokeBadCmd,
    .job smokeBadCmd,
    .bundleLoad smokeBadCmd,
    .capture smokeBadCmd,
    .syscal smokeBadCmd,
    .farPlan smokeBadCmd,
    .farRecord smokeBadCmd,
    .logFreeze smokeBadCmd] : List Instr).all fun c => !c.wf) = true := by
  decide +kernel

/-- Each of these breaks one check of WellFormed, in the order of its rows (part 7). -/
theorem test_illFormedRefused7 : (([.cmkUslotWrite ⟨.mp, 1⟩ 0 0,
    .cmkUslotWrite ⟨.rp, 0⟩ 64 0,
    .tdmStreamGo ⟨.mp, 1⟩ 0,
    .tdmStreamGo ⟨.rp, 0⟩ 3,
    .tdmStreamStop ⟨.mp, 1⟩ 0,
    .tdmStreamStop ⟨.rp, 0⟩ 3,
    .descriptorFetchDone 3 ⟨0, false, false, 0, 0, 0⟩ false,
    .descriptorPoll 3,
    .tdmWriteResponse 3 false,
    .fltWire 80 0,
    .fltWire 0 4,
    .fltWireClear 80,
    .fltPendAck ⟨.mp, 1⟩ 0,
    .fltResume ⟨.mp, 1⟩,
    .fltInjSingle ⟨.mp, 1⟩ 0,
    .fltInjSingle ⟨.rp, 0⟩ 16,
    .fltInjDouble ⟨.mp, 1⟩ 0,
    .fltInjDouble ⟨.rp, 0⟩ 16,
    .fltInjRaise ⟨.mp, 1⟩ 0 0,
    .fltInjRaise ⟨.rp, 0⟩ 256 0,
    .fltInjRaise ⟨.rp, 0⟩ 0 128,
    .fltInjBreak ⟨.mp, 1⟩ 0,
    .fltInjBreak ⟨.rp, 0⟩ 256,
    .fltInjPinWrite ⟨.mp, 1⟩ 0,
    .fltInjPinWrite ⟨.rp, 0⟩ 4,
    .logCtrlFreeze ⟨.mp, 1⟩,
    .logCtrlRelease ⟨.mp, 1⟩,
    .logRdGo ⟨.mp, 1⟩ 0,
    .logEraseRanked ⟨.mp, 1⟩,
    .logEraseAll ⟨.mp, 1⟩,
    .flsRead ⟨.mp, 1⟩,
    .flsProgram ⟨.mp, 1⟩,
    .flsErase ⟨.mp, 1⟩,
    .flsVerify ⟨.mp, 1⟩,
    .secConfSet ⟨.mp, 1⟩ 0,
    .secConfSet ⟨.rp, 0⟩ Config.contexts,
    .secConfClear ⟨.mp, 1⟩ 0,
    .secConfClear ⟨.rp, 0⟩ Config.contexts,
    .phaseFire 2,
    .pulseEnd Config.stagePhases] : List Instr).all fun c => !c.wf) = true := by
  decide +kernel

/-- A well-formed command of each row (part 1). -/
theorem test_wellFormed1 : (([.powerOnReset .porstN 0 ⟨[], none, 0, [], 0⟩,
    .aonDetectorTrip,
    .deadSlowEntry,
    .imageReadEnd false,
    .rollCall 0 [],
    .wayOnTransition,
    .logScan,
    .pllLock,
    .pllUnlock 0,
    .pllRelock,
    .glbResetControlPlane ⟨.rp, 0⟩,
    .controlPlaneResetEnd,
    .glbResetBlock ⟨.rp, 0⟩ ⟨[], none, 0, [], 0⟩,
    .helmPairFailure (.lockstep 0),
    .serviceCoreFailure 0 (.lockstep 0),
    .registerWrite ⟨0, 0, 0, false, 0, 0⟩,
    .mpPrivateWrite [],
    .mpPrivateRead,
    .i3cDynamicAddress ((.setdasa 0x74)) 0,
    .i3cDisecEnec false,
    .ibiRaise false,
    .otAccessUpdate 0,
    .prtH2mWrite ⟨.rp, 0⟩ 0 0,
    .pgUnlock ⟨.rp, 0⟩ 0,
    .pgLock ⟨.rp, 0⟩ 0,
    .xrecUnlock ⟨.rp, 0⟩ 0 0,
    .xrecLock ⟨.rp, 0⟩ 0 0,
    .pilotNotice ⟨0, 0, 0, 0, 0, 0, 0⟩,
    .collBegin ⟨0, 0, 0, 0, 0, 0, 0⟩,
    .collEnd ⟨0, 0, 0, 0, 0, 0, 0⟩,
    .holdAck ⟨0, 0, 0, 0, 0, 0, 0⟩,
    .collectiveOpen 0,
    .collectiveClose 0,
    .ownershipChange 0,
    .capYownWrite ⟨.rp, 0⟩ 0 0,
    .gatherEnd 0,
    .coolEnd 0,
    .inferenceDispatch,
    .forecastComplete false,
    .presetApply 0,
    .presetHorizon 0,
    .presetEnd 0,
    .preraiseEnd 0,
    .dreLoadGo ⟨.rp, 0⟩ 0 0,
    .bundleFetchDone [] false,
    .dreCtrlRunWrite ⟨.rp, 0⟩ false,
    .activityRecord 0 [],
    .activityTick,
    .tbStrobe 0 false,
    .tbValidLoss,
    .speedOrderPlace,
    .soDone 0,
    .soTimeout,
    .vfWaitExpiry 0,
    .hostNoticeTaken,
    .ccpEpochMessage [],
    .ccpCancel [],
    .epochApply,
    .superframe 0,
    .sync 0 0 0 0,
    .syncLost 0 false,
    .sharingApply 0 [],
    .trim 0 0 0 0,
    .setpoint 0 0 0 0 0] : List Instr).all Instr.wf) = true := by
  decide +kernel

/-- A well-formed command of each row (part 2). -/
theorem test_wellFormed2 : (([.preset 0 0 0 0,
    .add 0 0 false false 0,
    .shedPrep 0 0 false false 0,
    .cancel 0 0 false false 0,
    .clearTrip 0 0 false false 0,
    .bayStateOff 0 0 0,
    .bayStateReady 0 0 0,
    .bayStateRun 0 0 0,
    .bayStateHeat 0 0 0,
    .bayStateFence 0 0 0,
    .bayStateRelease 0 0 0,
    .remountConnect 0 0 false 0,
    .remountDisconnect 0 0 false 0,
    .remountConnectStep 0 false,
    .remountDisconnectStep 0,
    .cfgWr 0 0 0 0 0,
    .cfgRd 0 0 0 0,
    .currentReport 0 0 [],
    .event 0 0 0,
    .rdRsp 0 0 0,
    .fbbSegment 0,
    .holdReqTimeout 0,
    .tripHoldEnd 0,
    .autoClearTrip 0 false,
    .phaseCountDecision 0,
    .sharingJob 0 0 false,
    .sharingDeadlineMiss 0,
    .supervisionJob 0 0 false,
    .droopTrip 0,
    .droopClear 0,
    .allHandsEnd 0,
    .shedStop 0 false,
    .phaseCold 0 false,
    .tripped 0 false,
    .bayOverload 0,
    .inputLow 0,
    .outputHigh 0,
    .protectReturn 0,
    .phaseFailed 0 false .openPhase,
    .bayCtrlFence ⟨.rp, 0⟩ 0,
    .bayCtrlRelease ⟨.rp, 0⟩ 0,
    .bayCtrlClearTrip ⟨.rp, 0⟩ 0,
    .bayRemountGo ⟨.rp, 0⟩ 0 false false,
    .bayDroopWrite ⟨.rp, 0⟩ 0 0,
    .yrdDroopWrite ⟨.rp, 0⟩ 0 0,
    .yrdVidWrite ⟨.rp, 0⟩ 0 0,
    .yrdLoopWrite ⟨.rp, 0⟩ 0 0,
    .samplingInstant 0,
    .errorQueued 0,
    .lawJobDispatch 0 0,
    .lawJobComplete 0 false false false,
    .keelHandover 0,
    .keelMiss 0,
    .conversionDone 0 0 0 0 false,
    .windowConfigWrite ⟨.rp, 0⟩ 0 0 false 0,
    .scanWeightWrite ⟨.rp, 0⟩ 0 0 0,
    .estimatorTurnEnd 0 0 {} {} 0,
    .tempSubstitution 0,
    .sxtUrgGo ⟨.rp, 0⟩ 0 0,
    .urgentStart 0 0 0 false,
    .urgentDone 0 0,
    .urgentTimeout 0,
    .streamGo ⟨.rp, 0⟩ 0 0 0,
    .streamStop ⟨.rp, 0⟩ 0 0 []] : List Instr).all Instr.wf) = true := by
  decide +kernel

/-- A well-formed command of each row (part 3). -/
theorem test_wellFormed3 : (([.streamBurstWritten 0 0 [] false,
    .streamTrigger 0 0,
    .sxtMaintWrite ⟨.rp, 0⟩ 0 0,
    .sxtCalZero ⟨.rp, 0⟩ 0,
    .sxtCalFullScale ⟨.rp, 0⟩ 0,
    .sxtCalAbort ⟨.rp, 0⟩ 0,
    .syscalChannelDone 0 0,
    .syscalRecordWritten 0,
    .syscalTimeout 0,
    .farSusclrGo ⟨.rp, 0⟩ 0 0,
    .zpathWindow 0,
    .farPlanPeriodic,
    .farCtrlGo ⟨.rp, 0⟩,
    .farPlanComputed,
    .farRecordCommit false,
    .lossProbe 0 0,
    .pwsReqGo ⟨.rp, 0⟩ 0 0,
    .domainWakePin 0 false,
    .wakeDriverBias 0,
    .wakeBiasSettle 0,
    .slewEnd 0,
    .domainReadyInput 0 .oscRdy false,
    .pwsWakeTimeout 0,
    .pwsIsoTimeout 0,
    .pwsSaveTimeout 0,
    .pwsRdyLost 0 .oscRdy,
    .capLoopBoundary false,
    .currentLayerEval,
    .capJobBegin ⟨.rp, 0⟩ 0 0,
    .capJobEnd ⟨.rp, 0⟩ 0 0,
    .jobRecord,
    .attributionIntervalClose 0,
    .attributionRun,
    .settlement,
    .thermalScan [],
    .compensationUpdate 0,
    .thmProofGo ⟨.rp, 0⟩ 0,
    .sensorProofAuto 0,
    .sensorProofEnd,
    .thmPrecondGo ⟨.rp, 0⟩ 0 0,
    .thmPrecondStop ⟨.rp, 0⟩,
    .warmingLevelStep,
    .thmCold 0,
    .stgRailOnSet ⟨.rp, 0⟩ 0,
    .stgRailOnClear ⟨.rp, 0⟩ 0,
    .railDelayEnd 0,
    .railRampEnd 0,
    .stgVoutWrite ⟨.rp, 0⟩ 0 0,
    .pgSet 0,
    .stgPgLost 0,
    .balUpdate,
    .shortCircuitTrip 0,
    .brakeEnter 0,
    .brakeExit 0,
    .overloadEval 0,
    .hiccup 0,
    .hiccupRestart 0,
    .stgFlt 0,
    .stgFltStuck,
    .stgPhclrWrite ⟨.rp, 0⟩ 0,
    .stgIbus,
    .stgIbusUv,
    .ibusRecovery,
    .pmbusScan []] : List Instr).all Instr.wf) = true := by
  decide +kernel

/-- A well-formed command of each row (part 4). -/
theorem test_wellFormed4 : (([.pmbScanGo ⟨.rp, 0⟩,
    .pmbusPoll 0 smokeReading,
    .pmbAlert 0 0,
    .pmbRawGo ⟨.rp, 0⟩ false 0 0,
    .pmbRawDone .done 0,
    .nop smokeCmd,
    .abort smokeCmd,
    .setVid smokeCmd,
    .setLoop smokeCmd,
    .remount smokeCmd,
    .domainState smokeCmd,
    .maint smokeCmd,
    .setMode smokeCmd,
    .setCap smokeCmd,
    .job smokeCmd,
    .bundleLoad smokeCmd,
    .capture smokeCmd,
    .syscal smokeCmd,
    .farPlan smokeCmd,
    .farRecord smokeCmd,
    .logFreeze smokeCmd,
    .cmkUslotWrite ⟨.rp, 0⟩ 0 0,
    .tdmStreamGo ⟨.rp, 0⟩ 0,
    .tdmStreamStop ⟨.rp, 0⟩ 0,
    .descriptorFetchDone 0 ⟨0, false, false, 0, 0, 0⟩ false,
    .descriptorPoll 0,
    .tdmWriteResponse 0 false,
    .deviceSummary,
    .fltWire 0 0,
    .fltWireClear 0,
    .fltPendAck ⟨.rp, 0⟩ 0,
    .fltResume ⟨.rp, 0⟩,
    .quietPeriodExpiry,
    .fltInjSingle ⟨.rp, 0⟩ 0,
    .fltInjDouble ⟨.rp, 0⟩ 0,
    .fltInjRaise ⟨.rp, 0⟩ 0 0,
    .fltInjBreak ⟨.rp, 0⟩ 0,
    .fltInjPinWrite ⟨.rp, 0⟩ 0,
    .logRecordProgram,
    .logTimeSave,
    .logTokenRefill,
    .logCtrlFreeze ⟨.rp, 0⟩,
    .logCtrlRelease ⟨.rp, 0⟩,
    .logFreezeExpiry,
    .logRdGo ⟨.rp, 0⟩ 0,
    .logEraseRanked ⟨.rp, 0⟩,
    .logEraseAll ⟨.rp, 0⟩,
    .logEraseDone,
    .flsRead ⟨.rp, 0⟩,
    .flsProgram ⟨.rp, 0⟩,
    .flsErase ⟨.rp, 0⟩,
    .flsVerify ⟨.rp, 0⟩,
    .flsOpDone false,
    .secConfSet ⟨.rp, 0⟩ 0,
    .secConfClear ⟨.rp, 0⟩ 0,
    .scrub,
    .tbValidReturn,
    .soAck,
    .phaseFire 0,
    .pulseEnd 0,
    .registerRead ⟨0, 0, 0, false, 0, 0⟩] : List Instr).all Instr.wf) = true := by
  decide +kernel

/-! ## Figures of the spec -/

/-- What stands in the state a command answers. -/
def leaves {α : Type} (c : Instr) (s : State) (f : State → α) : Option α :=
  match exec c s with
  | .next t => some (f t)
  | _ => none

/-- A KERN and a MGMT requester of the register and the management port. -/
def kern : Requester := ⟨.rp, 1⟩
def mgmt : Requester := ⟨.mp, 0⟩

/-- The ASCII string of R428. -/
def digits : List Byte := [0x31, 0x32, 0x33, 0x34, 0x35, 0x36, 0x37, 0x38, 0x39]

/-- R428: CRC-16 0x29B1 and CRC-32 0xCBF4_3926 over 123456789. -/
theorem test_crcCheckValues : crc16 digits = 0x29B1 ∧ crc32 digits = 0xCBF43926 := by decide +kernel

/-- FIPS 180-4: SHA-384 of abc begins 0xCB00_753F and ends 0x34C8_25A7 (assumption log 9). -/
theorem test_sha384 : (sha384 [0x61, 0x62, 0x63]).take 4 = [0xCB, 0x00, 0x75, 0x3F]
    ∧ (sha384 [0x61, 0x62, 0x63]).drop 44 = [0x34, 0xC8, 0x25, 0xA7] := by decide +kernel

/-- R417: PG_ID of the TIL page reads 0x0001_4000, that of cluster X04's page 0x0005_5004. -/
theorem test_pageIds : ((State.reset.portRead kern 0x14000 false).2.1, (State.reset.portRead kern 0x55000 false).2.1)
    = (0x00014000, 0x00055004) := by decide +kernel

/-- R420: 0x0E17_8101 unlocks the store page at 0x04_1000. -/
theorem test_storePageUnlock : xrecWord 2 1 1 = 0x0E178101
    ∧ leaves (.xrecUnlock kern 2 1) State.reset (fun t => t.get GLB_XREC_COEF.PAGE) = some 2 := by decide +kernel

/-- The law of the worked example that follows R104. -/
def lawC17 : Coefs := ⟨524288, -681574, 125829, 56623, -1205862, 131072, 26214, -160, 480, false⟩

/-- The trims and first histories of its four periods: 80, 78, 69 and 71 steps; after the first two s1 61.600 and 60.682, s2 -7.760 and -6.132. -/
theorem test_lawOfC17 :
    (let a := lawJob lawC17 32 (64 * 2 ^ 20) (-157286 * 64) (-26214 * 64)
     let b := lawJob lawC17 32 a.s1 a.s2 a.s3
     let c := lawJob lawC17 16 b.s1 b.s2 b.s3
     let d := lawJob lawC17 18 c.s1 c.s2 c.s3
     ([a.trim, b.trim, c.trim, d.trim], [a.s1, b.s1, a.s2, b.s2].map fun x => roundDiv (x * 1000) (2 ^ 20)))
    = ([80, 78, 69, 71], [61600, 60682, -7760, -6132]) := by decide +kernel

/-- R187: u0 = 37 and u1 = 15,123 on channel 4 of X04 give a = 15,291 and b = -9. -/
theorem test_calibrationOfX04 : calCoef 4 4 37 15123 = some (15291, -9) := by decide +kernel

/-- X04 with the coefficients of the example that follows R187: slice 0 with ofs 40 and gain 16,450. -/
def calibratedX04 : State :=
  (((State.reset.putI (SXT_SL_OFS.OFS 4 0) 40).put (SXT_SL_GAIN.GAIN 4 0) 16450).put (SXT_CH_CAL.A 4 4) 15291).putI (SXT_CH_CAL.B 4 4) (-9)

/-- Code 615 gives u = 9,839 and v = 2,287. -/
theorem test_conversionOfX04 : (calibratedX04.sxtU 4 0 615, calibratedX04.sxtV 4 4 9839) = (9839, 2287) := by decide +kernel

/-- R193: ZP 503 at i_y 1,540 gives a drop of 12 steps. -/
theorem test_expectedDrop : (State.reset.put (FAR_ZP.ZP 17 0) 503).dropOf 17 0 1540 = 12 := by decide +kernel

/-- R73: a rise of 16 codes takes 40 ns at the default slew and 160 ns at code 1 (half nanoseconds). -/
theorem test_slewTimes : slewTime 16 5 = 2 * 40 ∧ slewTime 16 1 = 2 * 160 := by decide +kernel

/-- R73, R8: a write of code 39 leaves TARGET and is recorded with REASON 3; code 40 is taken. -/
theorem test_illegalVid :
    leaves (.yrdVidWrite kern 17 39) State.reset (fun t => (t.get (YRD_VID.TARGET 17) == State.reset.get (YRD_VID.TARGET 17), t.get (PG_ERR.REASON pgGLB)))
      = some (true, 3)
    ∧ leaves (.yrdVidWrite kern 17 40) State.reset (fun t => t.get (YRD_VID.TARGET 17)) = some 40 := by decide +kernel

/-- R38: a strobe loads its time plus 20 ns while OT_TB_VALID is high, and nothing while it is low. -/
theorem test_timeBaseStrobe : leaves (.tbStrobe 1000 true) State.reset (fun t => t.sysTime) = some 1020
    ∧ leaves (.tbStrobe 1000 false) State.reset (fun t => t.sysTime) = some 0 := by decide +kernel

/-- R406: 1,187 W shows as 1,184 W. -/
theorem test_coarsePower : floorTo 8 1187 = 1184 := by decide +kernel

/-- Way-on with FLT_PEND.K set: the next class K raises as class F and holding course begins (the example that follows R381). -/
theorem test_escalation :
    (let t := ((State.reset.put GLB_SERVICE.STATE 3).put FLT_PEND.K 1).raise 0x28 [12, 0]
     (t.get FLT_PEND.F, t.get FLT_STATUS.HOLD, t.wired.get FLT_STATUS.PIN)) = (1, 1, 2) := by decide +kernel

/-- R63: a TRIPPED phase becomes COLD on a CLEAR_TRIP word with a good CRC, and stays TRIPPED on a bad one. -/
theorem test_clearTrip :
    (let s := State.reset.put (BAY_STATE.PH0_STATE 3) 4
     let good : BitVec 4 := (phaseWord 3 false true 3).extractLsb' 0 4
     (leaves (.clearTrip 0 3 false true good) s (fun t => t.get (BAY_STATE.PH0_STATE 3)),
      leaves (.clearTrip 0 3 false true (good ^^^ 1)) s (fun t => t.get (BAY_STATE.PH0_STATE 3)))) = (some 0, some 4) := by decide +kernel

/-- R40: the queue of host notices is first in, first out. -/
theorem test_hostNotices : leaves .hostNoticeTaken { State.reset with hn := [7, 8] } (fun t => t.hn) = some [8] := by decide +kernel

/-- R129: the sixteen entries of the table are empty at reset, so none opens. -/
theorem test_noCollectiveOpens : leaves (.collectiveOpen 15) State.reset (fun t => t.colls) = some State.reset.colls := by decide +kernel

/-- R372, R379: break injection drives a unit's pair low and is answered; raising code 0x002C is refused. -/
theorem test_injectedRaiseOf2C : leaves (.fltInjRaise mgmt 8 0x2C) (State.reset.put GLB_SERVICE.STATE 3) (fun t => t.get FLT_CNT_INJ.COUNT) = some 0 := by
  decide +kernel

/-- R420, R314: USER may not unlock a record page. -/
theorem test_userUnlocksNothing : leaves (.xrecUnlock ⟨.rp, 2⟩ 2 1) State.reset (fun t => t.get GLB_XREC_COEF.PAGE) = some 0 := by decide +kernel

/-! ## States and operands that meet the hypotheses of the statements -/

/-- Yard 5 in D0, way-on, its bays in RUN. -/
def yard5Running : State := (Config.firstBay 5 |> fun b0 => (List.range 11).foldl (fun (s : State) k => (s.put (BAY_STATE.STATE (b0 + k)) 3).put (BAY_STATE.YARD (b0 + k)) 5)
  ((State.reset.put GLB_SERVICE.STATE 3).put (PWS_DOM.STATE 5) 0))
/-- Sensor 9 alone unsuspected among its neighbours, once critical. -/
def lastTrustedSensor : State := { State.reset.put (THM_SUSPECT.SENSOR 0) 0xFFFFFDFF with critRun := [(9, 1)] }
/-- A remount bay. -/
def remountBay : Nat := ((List.range 1280).find? fun b => (Config.remountLow b).isSome && (remountYard b false).isSome).getD 0
def remountCmd : Cmd := ⟨.cmk, 1, ⟨.rp, 1⟩, 0, 7, BitVec.ofNat 64 (remountBay + 2 ^ 13), 0, 0, 0, 0, 1⟩
/-- A CAPTURE of cluster 0's first channel into capture RAM. -/
def captureCmd : Cmd := ⟨.cmk, 1, ⟨.rp, 1⟩, 0, 7, BitVec.ofNat 64 (12 * 2 ^ 16), 0, 100, 0, 0, 1⟩
def wayOnState : State := State.reset.put GLB_SERVICE.STATE 3
/-- The remount's record unlocked. -/
def remountUnlocked : State := (wayOnState.put (BAY_STATE.STATE remountBay) 1).recordAccess 1 (((BAY_REMOUNT.reg remountBay).addr - bayHome) / 0x1000) 1

/-- The hypotheses of a statement about a command, at the values a test gives. -/
abbrev meets (_ : Instr) (p : Prop) : Prop := p

/-- ResetsDoWhatTheyStopAndKeep: clauses 1, 2, 4, 5, 6. -/
theorem test_resetsDoWhatTheyStopAndKeep :
    ((fun src lowNs i (s : State) => meets (.powerOnReset src lowNs i) ((src ≠ .porstN ∨ 2000 ≤ lowNs))) (.porstN) (2000) (⟨[], none, 0, [], 0⟩) (((State.reset.put THM_STATUS.TRIP 1).put THM_TRIP_SRC.SENSOR 5))) ∧
    ((fun lowNs i (s : State) => meets (.powerOnReset .porstN lowNs i) (lowNs < 1000)) (999) (⟨[], none, 0, [], 0⟩) (State.reset)) ∧
    ((fun q (s : State) => meets (.glbResetControlPlane q) (s.Takes q GLB_RESET.KEY.addr ∧ s.resetRuns = 0)) (⟨.rp, 1⟩) (((State.reset.put GLB_SERVICE.STATE 3).put CLK_STATUS.SOURCE 1))) ∧
    ((fun (s : State) => meets (.controlPlaneResetEnd) (s.cpReset = true ∧ s.get THM_STATUS.TRIP = 0 ∧ (∀ e ∈ s.journal, e.isFinal = true ∨ e.state ≠ .accepted ∧ e.cmdTag ∈ s.engineTags) ∧ s.kept = [] ∧ s.latched = [] ∧ s.requestHeld = false ∧ s.dbgHeld = none ∧ (∀ e ∈ s.armedErr, e.1 ≠ 4))) (({ State.reset with cpReset := true } : State))) ∧
    ((fun q i (s : State) => meets (.glbResetBlock q i) (s.Takes q GLB_RESET.KEY.addr ∧ clsOf q = .mgmt ∧ s.resetRuns ≠ 2 ∧ s.allOff = true)) (⟨.mp, 0⟩) (⟨[], none, 0, [], 0⟩) (((State.reset.put GLB_SERVICE.STATE 3).put CLK_STATUS.SOURCE 1))) :=
  by
  and_intros
  all_goals decide +kernel

/-- StartUpReachesWayOn: clauses 1, 2, 3, 4, 5. -/
theorem test_startUpReachesWayOn :
    ((fun (s : State) => meets (.deadSlowEntry) (s.inBoot = true ∧ s.blkReset = false ∧ s.outstandingF = false)) (State.reset)) ∧
    ((fun readErr (s : State) => meets (.imageReadEnd readErr) (s.get GLB_SERVICE.FW_RESULT = 0 ∧ s.get GLB_SERVICE.STATE < 2 ∧ s.armedFor 3 = none)) (true) (State.reset)) ∧
    ((fun tRt (s : State) => meets (.rollCall tRt []) (s.rollCalled = false ∧ s.inBoot = false ∧ s.get STG_STATUS.PG = 3 ∧ tRt ≤ 28000 ∧ (∀ b < Config.bayCount, (s.bay b).failFenced = false) ∧ (∀ y < Config.yardCount, Config.minBays y ≤ (s.usableBays y).length))) (28000) (((State.reset.put GLB_SERVICE.STATE 1).put STG_STATUS.PG 3))) ∧
    ((fun (s : State) => meets (.wayOnTransition) (s.r26 = false ∧ s.get GLB_SERVICE.STATE = 1 ∧ s.mayWayOn = true ∧ (∀ e ∈ s.journal, e.state ≠ .accepted) ∧ (∀ d < Config.yardCount, (s.dom d).rewake = false))) (({ (State.reset.put GLB_SERVICE.STATE 1).put CLK_STATUS.LOCK 1 with image := some 9, mono := 20000000 } : State))) ∧
    ((fun (s : State) => meets (.wayOnTransition) (s.r26 = true ∧ s.mayWayOn = true ∧ (∀ e ∈ s.journal, e.state ≠ .accepted))) (({ (State.reset.put GLB_SERVICE.STATE 2).put CLK_STATUS.LOCK 1 with image := some 9, mono := 20000000, r26 := true } : State))) :=
  by
  and_intros
  all_goals decide +kernel

/-- ClockLossAndTakeover: clauses 2, 3, 4, 5, 6, 7. -/
theorem test_clockLossAndTakeover :
    ((fun diff (s : State) => meets (.pllUnlock diff) (s.get CLK_STATUS.SOURCE = 0)) (7) (State.reset)) ∧
    ((fun diff (s : State) => meets (.pllUnlock diff) (s.get CLK_STATUS.SOURCE = 1)) (7) (((State.reset.put GLB_SERVICE.STATE 3).put CLK_STATUS.SOURCE 1))) ∧
    ((fun (s : State) => meets (.pllRelock) (s.r26 = true ∧ s.outstandingF = false ∧ (∀ e ∈ s.journal, e.state ≠ .accepted))) (({ State.reset.put GLB_SERVICE.STATE 2 with r26 := true } : State))) ∧
    ((fun cause (s : State) => meets (.helmPairFailure cause) (s.get HLM_STATUS.HELM_OUT = 0)) (.memUe 64) (((State.reset.put GLB_SERVICE.STATE 3).put CLK_STATUS.SOURCE 1))) ∧
    ((fun cause (s : State) => meets (.serviceCoreFailure 1 cause) (s.get HLM_STATUS.SC1_OUT = 0 ∧ s.get HLM_STATUS.SC0_OUT = 0 ∧ s.get HLM_STATUS.EXEC ≠ 2)) (.watchdog) (((State.reset.put GLB_SERVICE.STATE 3).put CLK_STATUS.SOURCE 1))) ∧
    ((fun cause (s : State) => meets (.serviceCoreFailure 0 cause) (s.get HLM_STATUS.SC0_OUT = 0 ∧ s.get HLM_STATUS.SC1_OUT = 0 ∧ s.get HLM_STATUS.EXEC ≠ 1)) (.lockstep 12) (((State.reset.put GLB_SERVICE.STATE 3).put CLK_STATUS.SOURCE 1))) :=
  by
  and_intros
  all_goals decide +kernel

/-- RegisterPortAnswersAndLanes: clauses 1, 2, 3, 4, 5, 6, 7, 8, 9, 10, 11, 12, 13. -/
theorem test_registerPortAnswersAndLanes :
    ((fun r (s : State) => meets (.registerWrite r) (s.responded.rpReady = false)) ((⟨0x7018, 0xFF, 0x0F, false, 1, 3⟩ : RpReq)) (({ State.reset with rpOut := (List.range 16).map fun k => ⟨BitVec.ofNat 4 k, some 0, 50⟩ } : State))) ∧
    ((fun r (s : State) => meets (.registerRead r) (s.responded.rpReady = false)) ((⟨0x7018, 0xFF, 0x0F, false, 1, 3⟩ : RpReq)) (({ State.reset with rpOut := (List.range 16).map fun k => ⟨BitVec.ofNat 4 k, some 0, 50⟩ } : State))) ∧
    ((fun r (s : State) => meets (.registerWrite r) (s.responded.rpReady = true ∧ s.cpReset = true)) ((⟨0x7018, 0xFF, 0x0F, false, 1, 3⟩ : RpReq)) (({ State.reset with cpReset := true } : State))) ∧
    ((fun r (s : State) => meets (.registerRead r) (s.responded.rpReady = true ∧ s.cpReset = true)) ((⟨0x7018, 0xFF, 0x0F, false, 1, 3⟩ : RpReq)) (({ State.reset with cpReset := true } : State))) ∧
    ((fun r (s : State) => meets (.registerWrite r) (s.responded.rpReady = true ∧ s.cpReset = false ∧ (s.responded.rpOut.any fun e => e.tag == r.tag) = true)) ((⟨0x7018, 0xFF, 0x0F, false, 1, 3⟩ : RpReq)) (({ State.reset with rpOut := [⟨3, some 0, 50⟩] } : State))) ∧
    ((fun r (s : State) => meets (.registerRead r) (s.responded.rpReady = true ∧ s.cpReset = false ∧ (s.responded.rpOut.any fun e => e.tag == r.tag) = true)) ((⟨0x7018, 0xFF, 0x0F, false, 1, 3⟩ : RpReq)) (({ State.reset with rpOut := [⟨3, some 0, 50⟩] } : State))) ∧
    ((fun r (s : State) => meets (.registerWrite r) (s.responded.rpReady = true ∧ s.cpReset = false ∧ (s.responded.rpOut.any fun e => e.tag == r.tag) = false ∧ s.responded.slowFull r.addr.toNat = true)) ((⟨0x13040, 0, 0x0F, false, 1, 3⟩ : RpReq)) (({ State.reset with rpOut := [⟨1, some 0, 50⟩, ⟨2, some 0, 60⟩] } : State))) ∧
    ((fun r (s : State) => meets (.registerRead r) (s.responded.rpReady = true ∧ s.cpReset = false ∧ (s.responded.rpOut.any fun e => e.tag == r.tag) = false ∧ s.responded.slowFull r.addr.toNat = true)) ((⟨0x13040, 0, 0x0F, false, 1, 3⟩ : RpReq)) (({ State.reset with rpOut := [⟨1, some 0, 50⟩, ⟨2, some 0, 60⟩] } : State))) ∧
    ((fun r (s : State) => meets (.registerWrite r) (s.responded.rpReady = true ∧ s.cpReset = false ∧ (s.responded.rpOut.any fun e => e.tag == r.tag) = false ∧ s.responded.slowFull r.addr.toNat = false)) ((⟨0x7018, 0xFF, 0x0F, false, 1, 3⟩ : RpReq)) (State.reset)) ∧
    ((fun r (s : State) => meets (.registerWrite r) (s.responded.rpReady = true ∧ s.cpReset = false ∧ (s.responded.rpOut.any fun e => e.tag == r.tag) = false ∧ s.responded.slowFull r.addr.toNat = false ∧ (r.strobes = 0xFF → r.addr.toNat % 8 ≠ 0) ∧ (r.strobes = 0x0F → r.addr.toNat % 8 ≠ 0) ∧ (r.strobes = 0xF0 → r.addr.toNat % 8 ≠ 4))) ((⟨0x7004, 0xFF, 0x0F, false, 1, 3⟩ : RpReq)) (State.reset)) ∧
    ((fun r (s : State) => meets (.registerRead r) (s.responded.rpReady = true ∧ s.cpReset = false ∧ (s.responded.rpOut.any fun e => e.tag == r.tag) = false ∧ s.responded.slowFull r.addr.toNat = false ∧ r.addr.toNat % (if r.wide then 8 else 4) ≠ 0)) ((⟨0x7004, 0, 0, true, 1, 3⟩ : RpReq)) (State.reset)) ∧
    ((fun r u lo hi bad (s : State) => meets (.registerRead r) (s.responded.rpReady = true ∧ s.cpReset = false ∧ (s.responded.rpOut.any fun e => e.tag == r.tag) = false ∧ s.responded.slowFull r.addr.toNat = false ∧ (s.responded.takeRequest r).portRead ⟨.rp, r.stamp⟩ r.addr.toNat r.wide = (u, lo, hi, bad))) ((⟨0x7018, 0xFF, 0x0F, false, 1, 3⟩ : RpReq)) (((State.reset.responded.takeRequest (⟨0x7018, 0xFF, 0x0F, false, 1, 3⟩ : RpReq)).portRead ⟨.rp, 1⟩ 0x7018 false).1) (0) (0) (false) (State.reset)) ∧
    ((fun r (s : State) => meets (.registerWrite r) (s.responded.rpReady = true ∧ s.cpReset = false ∧ s.holding = false ∧ (s.responded.rpOut.any fun e => e.tag == r.tag) = false ∧ r.addr = 0x7018 ∧ r.strobes = 0x0F ∧ r.stamp = 1)) ((⟨0x7018, 0xFF, 0x0F, false, 1, 3⟩ : RpReq)) (State.reset)) :=
  by
  and_intros
  all_goals decide +kernel

/-- ManagementAndDebugPorts: clauses 1, 2, 3, 4, 5, 6, 8, 9, 11, 13, 14, 15, 16. -/
theorem test_managementAndDebugPorts :
    ((fun bytes (s : State) => meets (.mpPrivateWrite bytes) (s.requestHeld = false ∧ mpFormOk bytes = false)) ([0x10, 0]) (State.reset)) ∧
    ((fun bytes (s : State) => meets (.mpPrivateWrite bytes) (s.requestHeld = false ∧ mpFormOk bytes = true ∧ s.cpReset = true)) ([0x10, 0, 0, 0]) (({ State.reset with cpReset := true } : State))) ∧
    ((fun bytes u lo hi bad (s : State) => meets (.mpPrivateWrite bytes) (s.requestHeld = false ∧ mpFormOk bytes = true ∧ s.cpReset = false ∧ bytes.headD 0 = 0x10 ∧ s.portRead ⟨.mp, 0⟩ (ofLe (bytes.tail.take 3) % 2 ^ 21) false = (u, lo, hi, bad))) ([0x10, 0x18, 0x70, 0]) ((State.reset.portRead ⟨.mp, 0⟩ 0x7018 false).1) (0) (0) (false) (State.reset)) ∧
    ((fun bytes u lo hi bad (s : State) => meets (.mpPrivateWrite bytes) (s.requestHeld = false ∧ mpFormOk bytes = true ∧ s.cpReset = false ∧ bytes.headD 0 = 0x11 ∧ s.portRead ⟨.mp, 0⟩ (ofLe (bytes.tail.take 3) % 2 ^ 21) true = (u, lo, hi, bad))) ([0x11, 0x18, 0x70, 0]) ((State.reset.portRead ⟨.mp, 0⟩ 0x7018 true).1) (0) (0) (false) (State.reset)) ∧
    ((fun (b0 b1 b2 b3 : Byte) (s : State) => meets (.mpPrivateWrite [0x20, 0x18, 0x70, 0, b0, b1, b2, b3]) (s.requestHeld = false ∧ s.cpReset = false)) (0xFD) (1) (0) (0) (State.reset)) ∧
    ((fun bytes held (s : State) => meets (.mpPrivateWrite bytes) (s.mp = .pending held)) ([0x11, 0, 0, 0]) ([0x10, 0, 0, 0]) (({ State.reset with mp := .pending [0x10, 0, 0, 0] } : State))) ∧
    ((fun how addr (s : State) => meets (.i3cDynamicAddress how addr) (s.takesAddr how = true)) (.setdasa 0x74) (0x2A) (State.reset)) ∧
    ((fun how addr (s : State) => meets (.i3cDynamicAddress how addr) (s.takesAddr how = false)) (.setdasa 0x75) (0x2A) (State.reset)) ∧
    ((fun (s : State) => meets (.ibiRaise true) (s.Wired ∧ s.mayInterrupt = true)) (((State.reset.put PRT_MP.IBI_PEND 2).put PRT_MP.DYN_ADDR 9))) ∧
    ((fun dr (s : State) => meets (.otAccessUpdate dr) (s.cpReset = true ∧ s.dbgHeld = none)) ((0x7018 : BitVec 90)) (({ State.reset with cpReset := true } : State))) ∧
    ((fun dr held (s : State) => meets (.otAccessUpdate dr) (s.dbgHeld = some held)) ((0x7019 : BitVec 90)) (0x7018) (({ State.reset with cpReset := true, dbgHeld := some 0x7018 } : State))) ∧
    ((fun dr u lo hi bad (s : State) => meets (.otAccessUpdate dr) (s.cpReset = false ∧ s.dbgHeld = none ∧ dr.getLsbD 21 = false ∧ s.portRead ⟨.dbg, 0⟩ (dr.extractLsb' 0 21).toNat (dr.getLsbD 22) = (u, lo, hi, bad))) ((0x7018 : BitVec 90)) ((State.reset.portRead ⟨.dbg, 0⟩ 0x7018 false).1) (0) (0) (false) (State.reset)) ∧
    ((fun dr (s : State) => meets (.otAccessUpdate dr) (dr.extractLsb' 0 23 = 0x20C0A4 ∧ s.cpReset = false ∧ s.dbgHeld = none ∧ s.active = false ∧ s.holding = false)) ((0x20C0A4 + 6 * 2 ^ 23 : BitVec 90)) (State.reset)) :=
  by
  and_intros
  all_goals decide +kernel

/-- ExpertAccessAndMailbox: clauses 1, 2, 3, 4, 5. -/
theorem test_expertAccessAndMailbox :
    ((fun q page (s : State) => meets (.pgUnlock q page) (s.Takes q (page * 0x1000 + 0xC) ∧ hasHeader page = true ∧ (clsOf q = .mgmt ∨ clsOf q = .kern))) (⟨.rp, 1⟩) (0x11) (State.reset)) ∧
    ((fun q page (s : State) => meets (.pgLock q page) (s.Takes q (page * 0x1000 + 0xC) ∧ hasHeader page = true ∧ (clsOf q = .mgmt ∨ clsOf q = .kern))) (⟨.rp, 1⟩) (0x11) (State.reset)) ∧
    ((fun q region page (s : State) => meets (.xrecUnlock q region page) (s.Takes q GLB_XREC.KEY.addr ∧ (clsOf q = .mgmt ∨ clsOf q = .kern) ∧ region < 3 ∧ page < xrecPages region)) (⟨.rp, 1⟩) (1) (3) (State.reset)) ∧
    ((fun q region page (s : State) => meets (.xrecLock q region page) (s.Takes q GLB_XREC.KEY.addr ∧ (clsOf q = .mgmt ∨ clsOf q = .kern) ∧ region < 3 ∧ page < xrecPages region)) (⟨.rp, 1⟩) (1) (3) (State.reset)) ∧
    ((fun q idx data (s : State) => meets (.prtH2mWrite q idx data) (s.Takes q (PRT_H2M.DATA idx).addr ∧ clsOf q = .kern ∧ idx < 32)) (⟨.rp, 1⟩) (31) (0xDEADBEEF) (State.reset)) :=
  by
  and_intros
  all_goals decide +kernel

/-- PilotNoticesAndCollectives: clauses 1, 2, 3, 4, 5, 6, 7, 8, 9. -/
theorem test_pilotNoticesAndCollectives :
    ((fun n (s : State) => meets (.pilotNotice n) (s.dreOn = true ∧ noticeBad n = false ∧ 1 ≤ n.kind.toNat ∧ n.kind.toNat ≤ 4 ∧ s.get (YRD_STATUS.YARD_FENCED n.yard.toNat) = 0 ∧ (s.yard n.yard.toNat).coal = .idle)) ((⟨5, 1, 4, 3, 2, 100, 7⟩ : Notice)) (((State.reset.put GLB_SERVICE.STATE 3).put DRE_CTRL.RUN 1))) ∧
    ((fun n (s : State) => meets (.pilotNotice n) (s.dreOn = true ∧ noticeBad n = false ∧ 1 ≤ n.kind.toNat ∧ n.kind.toNat ≤ 4 ∧ s.get (YRD_STATUS.YARD_FENCED n.yard.toNat) = 0 ∧ (s.yard n.yard.toNat).coal = .gather)) ((⟨5, 1, 4, 3, 2, 100, 7⟩ : Notice)) ((((State.reset.put GLB_SERVICE.STATE 3).put DRE_CTRL.RUN 1).setYard 5 { State.reset.yard 5 with coal := .gather } : State))) ∧
    ((fun n (s : State) => meets (.pilotNotice n) (s.dreOn = true ∧ noticeBad n = false ∧ 1 ≤ n.kind.toNat ∧ n.kind.toNat ≤ 4 ∧ s.get (YRD_STATUS.YARD_FENCED n.yard.toNat) = 0 ∧ (s.yard n.yard.toNat).coal = .cool)) ((⟨5, 1, 4, 3, 2, 100, 7⟩ : Notice)) ((((State.reset.put GLB_SERVICE.STATE 3).put DRE_CTRL.RUN 1).setYard 5 { State.reset.yard 5 with coal := .cool } : State))) ∧
    ((fun n k (s : State) => meets (.collBegin n) (s.dreOn = true ∧ n.yard = 127 ∧ s.findColl n.context.toNat n.tag.toNat = none ∧ s.freeColl = some k)) ((⟨127, 5, 4, 3, 2, 100, 7⟩ : Notice)) (0) (((State.reset.put GLB_SERVICE.STATE 3).put DRE_CTRL.RUN 1))) ∧
    ((fun n k c (s : State) => meets (.collEnd n) (s.dreOn = true ∧ n.yard = 127 ∧ s.findColl n.context.toNat n.tag.toNat = some k ∧ s.coll k = some c ∧ c.closes = none)) ((⟨127, 6, 4, 3, 2, 100, 7⟩ : Notice)) (0) ((⟨3, 7, 100, none, 0⟩ : Coll)) ({ (State.setColl ((State.reset.put GLB_SERVICE.STATE 3).put DRE_CTRL.RUN 1) 0 (some (⟨3, 7, 100, none, 0⟩ : Coll))) with sysTime := 100 })) ∧
    ((fun n c (s : State) => meets (.collEnd n) (s.dreOn = true ∧ n.yard = 127 ∧ s.findColl n.context.toNat n.tag.toNat = none ∧ s.announced n.context.toNat n.tag.toNat (s.sysTime + 50 * n.lead.toNat) = some c)) ((⟨127, 6, 4, 3, 2, 100, 7⟩ : Notice)) ((⟨3, 7, 100, none, 0⟩ : Coll)) ({ ((State.reset.put GLB_SERVICE.STATE 3).put DRE_CTRL.RUN 1) with collPend := [(⟨3, 7, 100, none, 0⟩ : Coll)] })) ∧
    ((fun k c (s : State) => meets (.collectiveOpen k) (s.nextColl = some c ∧ s.findColl c.ctx c.tag = none ∧ k < 16 ∧ s.coll k = none)) (15) ((⟨3, 7, 100, none, 0⟩ : Coll)) ({ ((State.reset.put GLB_SERVICE.STATE 3).put DRE_CTRL.RUN 1) with collPend := [(⟨3, 7, 100, none, 0⟩ : Coll)] })) ∧
    ((fun k c (s : State) => meets (.collectiveClose k) (s.coll k = some c ∧ c.closes.isSome = true)) (0) ((⟨3, 7, 100, some 900, 0⟩ : Coll)) ((State.setColl ((State.reset.put GLB_SERVICE.STATE 3).put DRE_CTRL.RUN 1) 0 (some (⟨3, 7, 100, some 900, 0⟩ : Coll))))) ∧
    ((fun n (s : State) => meets (.holdAck n) (s.dreOn = true ∧ n.yard = 127)) ((⟨127, 5, 4, 3, 2, 100, 7⟩ : Notice)) (((State.reset.put GLB_SERVICE.STATE 3).put DRE_CTRL.RUN 1))) :=
  by
  and_intros
  all_goals decide +kernel

/-- OwnersChangeAsNoticesAndKernSay: clauses 1, 2, 3, 4, 5. -/
theorem test_ownersChangeAsNoticesAndKernSay :
    ((fun y eff kind c (s : State) => meets (.ownershipChange y) (y < Config.yardCount ∧ Config.isPrivate y = true ∧ (s.yard y).ownNext = some (eff, kind, c) ∧ s.domState y ≠ 4 ∧ s.get (YRD_STATUS.YARD_FENCED y) = 0 ∧ c < 64 ∧ (kind = 1 ∨ kind = 3))) (5) (40) (3) (9) ((((State.reset.put GLB_SERVICE.STATE 3).put (PWS_DOM.STATE 5) 0).setYard 5 { State.reset.yard 5 with ownPend := [(60, 1, 8), (40, 3, 9)] } : State))) ∧
    ((fun y eff kind c (s : State) => meets (.ownershipChange y) (y < Config.yardCount ∧ Config.isPrivate y = true ∧ (s.yard y).ownNext = some (eff, kind, c) ∧ s.domState y ≠ 4 ∧ s.get (YRD_STATUS.YARD_FENCED y) = 0 ∧ c < 64 ∧ (kind = 2 ∨ kind = 4) ∧ s.ownerByte y = c)) (5) (40) (2) (9) (((((State.reset.put GLB_SERVICE.STATE 3).put (PWS_DOM.STATE 5) 0).put (Fld.byte CAP_YOWN.OWNER 5) 9).setYard 5 { State.reset.yard 5 with ownPend := [(60, 1, 8), (40, 2, 9)] } : State))) ∧
    ((fun y eff kind c (s : State) => meets (.ownershipChange y) (y < Config.yardCount ∧ Config.isPrivate y = true ∧ (s.yard y).ownNext = some (eff, kind, c) ∧ (s.domState y = 4 ∨ s.get (YRD_STATUS.YARD_FENCED y) ≠ 0) ∧ s.get (Fld.byte CAP_YOWN.OWNER y) = 64)) (5) (40) (1) (9) ((State.reset.setYard 5 { State.reset.yard 5 with ownPend := [(60, 1, 8), (40, 1, 9)] } : State))) ∧
    ((fun y eff kind c (s : State) => meets (.ownershipChange y) (y < Config.yardCount ∧ Config.isPrivate y = true ∧ (s.yard y).ownNext = some (eff, kind, c) ∧ (s.domState y = 4 ∨ s.get (YRD_STATUS.YARD_FENCED y) ≠ 0) ∧ (kind = 1 ∨ kind = 3) ∧ s.get (Fld.byte CAP_YOWN.OWNER y) ≤ 64)) (5) (40) (3) (9) ((((((State.reset.put GLB_SERVICE.STATE 3).put (PWS_DOM.STATE 5) 0).put (YRD_STATUS.YARD_FENCED 5) 1).put (Fld.byte CAP_YOWN.OWNER 5) 7).setYard 5 { State.reset.yard 5 with ownPend := [(60, 1, 8), (40, 3, 9)] } : State))) ∧
    ((fun q (j : Nat) (data : Word) (s : State) => meets (.capYownWrite q j data) (s.Takes q (CAP_YOWN.OWNER j).addr ∧ clsOf q = .kern ∧ (∀ k : Nat, k < 4 → Config.isPrivate (4 * j + k) = true) ∧ (∀ k : Nat, k < 4 → data.field (8 * k) 8 ≤ 64) ∧ (∀ k : Nat, k < 4 → s.get (Fld.byte CAP_YOWN.OWNER (4 * j + k)) ≤ 64))) (⟨.rp, 1⟩) (1) (0x40054003) ((List.range 4).foldl (fun s k => s.put (PWS_DOM.STATE (4 + k)) 0) (State.reset.put GLB_SERVICE.STATE 3))) :=
  by
  and_intros
  all_goals decide +kernel

/-- CoalescersFormInputsAndInferencesRun: clauses 1, 2, 3, 4, 5, 6, 7, 8. -/
theorem test_coalescersFormInputsAndInferencesRun :
    ((fun y (s : State) => meets (.gatherEnd y) ((s.yard y).coal = .gather ∧ (s.yard y).gathered ≠ [])) (5) ((((State.reset.put GLB_SERVICE.STATE 3).put DRE_CTRL.RUN 1).setYard 5 { State.reset.yard 5 with coal := .gather, gathered := [⟨⟨5, 1, 4, 3, 2, 100, 7⟩, 200, 0, false⟩] } : State))) ∧
    ((fun y (s : State) => meets (.coolEnd y) ((s.yard y).coal = .cool ∧ (s.yard y).pendingSet = [])) (5) ((((State.reset.put GLB_SERVICE.STATE 3).put DRE_CTRL.RUN 1).setYard 5 { State.reset.yard 5 with coal := .cool } : State))) ∧
    ((fun y (s : State) => meets (.coolEnd y) ((s.yard y).coal = .cool ∧ (s.yard y).pendingSet ≠ [])) (5) ((((State.reset.put GLB_SERVICE.STATE 3).put DRE_CTRL.RUN 1).setYard 5 { State.reset.yard 5 with coal := .cool, pendingSet := [⟨⟨5, 1, 4, 3, 2, 100, 7⟩, 200, 0, false⟩] } : State))) ∧
    ((fun e (s : State) => meets (.inferenceDispatch) (s.dreOn = true ∧ s.fly = none ∧ firstInference s.due = some e ∧ s.slotServes (s.ymap e.yard) e.yard = true)) ((⟨5, [], none, 0, 0, 0, 0, [], 0⟩ : Inference)) (({ (((((State.reset.put GLB_SERVICE.STATE 3).put DRE_CTRL.RUN 1).put (DRE_SLOT_STAT.VALID 0) 1).setWord (DRE_YMAP.SLOT 0).addr 0).setStore 0x2010 0xFF) with due := [⟨5, [], none, 0, 0, 0, 0, [], 0⟩] } : State))) ∧
    ((fun e (s : State) => meets (.inferenceDispatch) (s.dreOn = true ∧ s.fly = none ∧ firstInference s.due = some e ∧ s.slotServes (s.ymap e.yard) e.yard = false)) ((⟨5, [], none, 0, 0, 0, 0, [], 0⟩ : Inference)) (({ ((State.reset.put GLB_SERVICE.STATE 3).put DRE_CTRL.RUN 1) with due := [(⟨5, [], none, 0, 0, 0, 0, [], 0⟩ : Inference)] } : State))) ∧
    ((fun e (s : State) => meets (.forecastComplete false) (s.fly = some e ∧ e.horizon = none)) ((⟨5, [], none, 0, 0, 0, 0, [], 0⟩ : Inference)) (({ ((State.reset.put GLB_SERVICE.STATE 3).put DRE_CTRL.RUN 1) with fly := some (⟨5, [], none, 0, 0, 0, 0, [], 0⟩ : Inference) } : State))) ∧
    ((fun e h (s : State) => meets (.forecastComplete false) (s.fly = some e ∧ e.horizon = some h ∧ s.sysTime ≤ h ∧ (s.yard e.yard).maintHold = false)) ((⟨5, [], some 900, 0, 0, 3, 2, [7, 9], 0⟩ : Inference)) (900) (({ ((State.reset.put GLB_SERVICE.STATE 3).put DRE_CTRL.RUN 1) with fly := some (⟨5, [], some 900, 0, 0, 3, 2, [7, 9], 0⟩ : Inference) } : State))) ∧
    ((fun e (s : State) => meets (.forecastComplete true) (s.fly = some e ∧ e.slot < 8)) ((⟨5, [], some 900, 0, 0, 3, 2, [7, 9], 0⟩ : Inference)) (({ ((State.reset.put GLB_SERVICE.STATE 3).put DRE_CTRL.RUN 1).put (DRE_SLOT_STAT.VALID 3) 1 with fly := some (⟨5, [], some 900, 0, 0, 3, 2, [7, 9], 0⟩ : Inference) } : State))) :=
  by
  and_intros
  all_goals decide +kernel

/-- PresetsApplyAndEnd: clauses 1, 2, 3, 4, 5. -/
theorem test_presetsApplyAndEnd :
    ((fun y c p (s : State) => meets (.presetApply y) (y < Config.yardCount ∧ (s.yard y).waiting = [c] ∧ s.courseHeld = false ∧ s.running y = true ∧ s.sysTime < c.horizon ∧ (let w := s.setYard y { s.yard y with waiting := [] }; if s.get THM_WARM_LIM.LOAD * s.limit20 y < 100 * fpk c.f then w.endHeat y else w).presetsOf y c.f = p)) (5) ((⟨[7, 9], 900, 0, 100, ⟨2, 3, 4⟩, none⟩ : Forecast)) (((yard5Running).presetsOf 5 [7, 9])) ((yard5Running.setYard 5 { yard5Running.yard 5 with waiting := [(⟨[7, 9], 900, 0, 100, ⟨2, 3, 4⟩, none⟩ : Forecast)], presets := ⟨1, 5, 0⟩ } : State))) ∧
    ((fun y c (s : State) => meets (.presetApply y) ((s.yard y).waiting = [c] ∧ s.courseHeld = false ∧ s.running y = false)) (5) ((⟨[7, 9], 900, 0, 100, ⟨2, 3, 4⟩, none⟩ : Forecast)) ((State.reset.setYard 5 { State.reset.yard 5 with waiting := [(⟨[7, 9], 900, 0, 100, ⟨2, 3, 4⟩, none⟩ : Forecast)] } : State))) ∧
    ((fun y c (s : State) => meets (.presetHorizon y) (y < Config.yardCount ∧ (s.yard y).cur = some c ∧ c.horizon ≤ s.sysTime)) (5) ((⟨[7, 9], 900, 0, 100, ⟨2, 3, 4⟩, none⟩ : Forecast)) (({ (yard5Running.setYard 5 { yard5Running.yard 5 with cur := some (⟨[7, 9], 900, 0, 100, ⟨2, 3, 4⟩, none⟩ : Forecast), presets := ⟨9, 9, 9⟩ } : State) with sysTime := 900 } : State))) ∧
    ((fun y c (s : State) => meets (.presetEnd y) (y < Config.yardCount ∧ (s.yard y).cur = some c ∧ s.presetsEnd c ≤ s.sysTime)) (5) ((⟨[7, 9], 900, 0, 100, ⟨2, 3, 4⟩, none⟩ : Forecast)) (({ (yard5Running.setYard 5 { yard5Running.yard 5 with cur := some (⟨[7, 9], 900, 0, 100, ⟨2, 3, 4⟩, none⟩ : Forecast), presets := ⟨9, 9, 9⟩ } : State) with sysTime := 90000000 } : State))) ∧
    ((fun y (s : State) => meets (.preraiseEnd y) (y < Config.yardCount)) (5) ((yard5Running.setYard 5 { yard5Running.yard 5 with cur := some (⟨[7, 9], 900, 0, 100, ⟨2, 3, 4⟩, none⟩ : Forecast), presets := ⟨9, 9, 9⟩ } : State))) :=
  by
  and_intros
  all_goals decide +kernel

/-- BundlesLoadAndActivityIsTaken: clauses 1, 2, 3, 4, 5, 6. -/
theorem test_bundlesLoadAndActivityIsTaken :
    ((fun q slot src (s : State) => meets (.dreLoadGo q slot src) (s.Takes q DRE_LOAD.GO.addr ∧ src ≤ 2 ∧ slot < 8 ∧ s.inWayOn = true ∧ s.get DRE_STATUS.LOAD_STATE = 0 ∧ s.get DRE_STATUS.SPARE < 9)) (⟨.rp, 1⟩) (7) (2) (((State.reset.put GLB_SERVICE.STATE 3).put DRE_CTRL.RUN 1))) ∧
    ((fun l host (s : State) => meets (.bundleFetchDone host true) (s.load = some l ∧ l.src = 1)) ((⟨2, 1, 64, none⟩ : Load)) ([]) (({ ((State.reset.put GLB_SERVICE.STATE 3).put DRE_CTRL.RUN 1).put DRE_STATUS.LOAD_STATE 1 with load := some ⟨2, 1, 64, none⟩ } : State))) ∧
    ((fun q (s : State) => meets (.dreCtrlRunWrite q false) (s.Takes q DRE_CTRL.RUN.addr)) (⟨.rp, 1⟩) ((State.setColl ((State.reset.put GLB_SERVICE.STATE 3).put DRE_CTRL.RUN 1) 0 (some (⟨3, 7, 100, some 900, 0⟩ : Coll))))) ∧
    ((fun q (s : State) => meets (.dreCtrlRunWrite q true) (s.Takes q DRE_CTRL.RUN.addr)) (⟨.rp, 1⟩) (State.reset)) ∧
    ((fun y beats (s : State) => meets (.activityRecord y beats) (y < Config.yardCount ∧ s.dreOn = true ∧ beats.map (fun b => b.1.toNat) = [0, 1, 2, 3])) (95) ([((0 : BitVec 2), (5 : BitVec 128)), (1, 6), (2, 7), (3, 8)]) (((State.reset.put GLB_SERVICE.STATE 3).put DRE_CTRL.RUN 1))) ∧
    ((fun (s : State) => meets (.activityTick) (s.dreOn = true)) ((((State.reset.put GLB_SERVICE.STATE 3).put DRE_CTRL.RUN 1).setYard 5 { State.reset.yard 5 with stage := some [1, 2, 3] } : State))) :=
  by
  and_intros
  all_goals decide +kernel

/-- TimeBaseAndHostNotices: clauses 1, 4. -/
theorem test_timeBaseAndHostNotices :
    ((fun (time : BitVec 64) (s : State) => meets (.tbStrobe time true) (s.epochs = [])) (0xFFFFFFFFFFFFFFF0) (State.reset)) ∧
    ((fun (s : State) => meets (.tbValidReturn) (s.epochs = [])) (State.reset)) :=
  by
  and_intros
  all_goals decide +kernel

/-- SpeedOrdersHandshake: clauses 1, 3, 4, 5, 6, 7, 8. -/
theorem test_speedOrdersHandshake :
    ((fun r (s : State) => meets (.speedOrderPlace) (s.soFly = none ∧ s.soReq = s.soAck ∧ s.nextSpeed = some r)) ((⟨5, 100, 3, none, true, 0⟩ : SpeedReq)) (({ State.reset with soQueue := [(⟨5, 100, 3, none, true, 0⟩ : SpeedReq)] } : State))) ∧
    ((fun f (s : State) => meets (.soDone f.req.yard) (s.soFly = some f ∧ f.req.vid = none ∧ (s.yard f.req.yard).speedNext = none)) ((⟨(⟨5, 100, 3, none, true, 0⟩ : SpeedReq), false⟩ : InFlight)) (({ State.reset with soFly := some ⟨(⟨5, 100, 3, none, true, 0⟩ : SpeedReq), false⟩ } : State))) ∧
    ((fun f code (s : State) => meets (.soDone f.req.yard) (s.soFly = some f ∧ f.req.vid = some code ∧ f.req.yard < Config.yardCount ∧ code < 1024 ∧ s.courseHeld = false ∧ (s.yard f.req.yard).speedNext = none)) ((⟨(⟨5, 100, 3, some 300, true, 0⟩ : SpeedReq), false⟩ : InFlight)) (300) (({ yard5Running with soFly := some ⟨(⟨5, 100, 3, some 300, true, 0⟩ : SpeedReq), false⟩ } : State))) ∧
    ((fun f (s : State) => meets (.soTimeout) (s.soFly = some f ∧ f.again = false)) ((⟨(⟨5, 100, 3, none, true, 0⟩ : SpeedReq), false⟩ : InFlight)) (({ State.reset with soFly := some ⟨(⟨5, 100, 3, none, true, 0⟩ : SpeedReq), false⟩ } : State))) ∧
    ((fun f (s : State) => meets (.soTimeout) (s.soFly = some f ∧ f.again = true ∧ (s.yard f.req.yard).speedNext = none)) ((⟨(⟨5, 100, 3, none, true, 0⟩ : SpeedReq), true⟩ : InFlight)) (({ State.reset with soFly := some ⟨(⟨5, 100, 3, none, true, 0⟩ : SpeedReq), true⟩ } : State))) ∧
    ((fun f q (s : State) => meets (.soDone f.req.yard) (s.soFly = some f ∧ (s.yard f.req.yard).speedNext = some q)) ((⟨(⟨5, 100, 3, none, true, 0⟩ : SpeedReq), false⟩ : InFlight)) ((⟨5, 100, 3, some 300, true, 0⟩ : SpeedReq)) ((({ yard5Running with soFly := some ⟨(⟨5, 100, 3, none, true, 0⟩ : SpeedReq), false⟩ } : State).setYard 5 { yard5Running.yard 5 with speedNext := some (⟨5, 100, 3, some 300, true, 0⟩ : SpeedReq) } : State))) ∧
    ((fun y w (s : State) => meets (.vfWaitExpiry y) ((s.yard y).vfWait = some w)) (5) ((⟨100, 3, none, some 40, 0⟩ : VfWait)) ((State.reset.setYard 5 { State.reset.yard 5 with vfWait := some ⟨100, 3, none, some 40, 0⟩ } : State))) :=
  by
  and_intros
  all_goals decide +kernel

/-- EpochsQueueCancelAndApply: clauses 1, 2, 3, 4, 5, 6. -/
theorem test_epochsQueueCancelAndApply :
    ((fun b (s : State) => meets (.ccpEpochMessage b) (1 ≤ beatField b 0 56 8 ∧ beatField b 0 56 8 ≤ 3 ∧ s.ccpCheck b true = 0 ∧ s.lastEpoch.all (fun l => decide (l < beatField b 0 0 32)) = true ∧ s.sysTime ≤ beatField b 1 0 64 ∧ beatField b 1 0 64 ≤ s.sysTime + 1000000 * s.get CAP_EPOCH.MAX_LEAD ∧ s.epochs.length < 8 ∧ s.tbValid = true)) ([(BitVec.ofNat 64 (3 * 2 ^ 56 + 2 ^ 55 + 7), true), (BitVec.ofNat 64 900, true), (BitVec.ofNat 64 300, true)]) (({ State.reset.put CAP_EPOCH.MAX_LEAD 1 with tbValid := true } : State))) ∧
    ((fun b (s : State) => meets (.ccpEpochMessage b) (beatField b 0 56 8 ≠ 4 ∧ b.any (fun x => !x.2) = true)) ([(0, false)]) (State.reset)) ∧
    ((fun b (s : State) => meets (.ccpCancel b) (s.ccpCheck b true = 0 ∧ s.tbValid = true ∧ beatField b 1 0 64 ≤ s.sysTime + 1000000 * s.get CAP_EPOCH.MAX_LEAD ∧ s.epochs.length < 8 ∧ s.epochs.any (fun e => e.number == beatField b 0 0 32) = true)) ([(BitVec.ofNat 64 (4 * 2 ^ 56 + 2 ^ 55 + 7), true), (BitVec.ofNat 64 900, true), (BitVec.ofNat 64 300, true)]) (({ State.reset with tbValid := true, epochs := [(⟨3, 7, 0, 0, 2⟩ : Epoch)] } : State))) ∧
    ((fun e (s : State) => meets (.epochApply) (s.tbValid = true ∧ s.courseHeld = false ∧ s.dueEpoch = some e ∧ e.type = 3 ∧ e.value ≤ 3 ∧ s.get CAP_MODE.LOCK = 0)) ((⟨3, 7, 0, 0, 2⟩ : Epoch)) (({ State.reset with tbValid := true, epochs := [(⟨3, 7, 0, 0, 2⟩ : Epoch)] } : State))) ∧
    ((fun e (s : State) => meets (.epochApply) (s.tbValid = true ∧ s.courseHeld = false ∧ s.dueEpoch = some e ∧ e.type = 1)) ((⟨1, 7, 0, 0, 300⟩ : Epoch)) (({ State.reset with tbValid := true, epochs := [(⟨1, 7, 0, 0, 300⟩ : Epoch)] } : State))) ∧
    ((fun e (s : State) => meets (.epochApply) (s.tbValid = true ∧ s.courseHeld = false ∧ s.dueEpoch = some e ∧ e.type = 2 ∧ e.ctx < 64 ∧ e.value < 65536)) ((⟨2, 7, 0, 5, 300⟩ : Epoch)) (({ State.reset with tbValid := true, epochs := [(⟨2, 7, 0, 5, 300⟩ : Epoch)] } : State))) :=
  by
  and_intros
  all_goals decide +kernel

/-- YardWordsReachTheirBays: clauses 1, 2, 3, 4, 5, 6, 7, 8, 9. -/
theorem test_yardWordsReachTheirBays :
    ((fun seg (s : State) => meets (.superframe seg) (seg < Config.segments ∧ (∀ y < Config.yardCount, firstSeg y = seg → (s.dom y).step ≠ .waitSuper ∧ s.hotBays y = [] ∧ ∀ b ∈ reach y, (s.bay b).releasing = false) ∧ s.substWait = [] ∧ s.far ≠ .applying ∧ (seg = 0 → s.claims = []))) (15) (State.reset)) ∧
    ((fun seg sfn share crc (s : State) => meets (.sync seg sfn share crc) (fbbOk (withCrc (syncWord sfn.toNat share.toNat) crc) = true)) (0) (9) (0x1234) (BitVec.ofNat 4 ((syncWord 9 0x1234).field 0 4)) ((State.reset.setBay 3 { State.reset.bay 3 with holding := true, missed := 5 } : State))) ∧
    ((fun b (s : State) => meets (.syncLost b false) (Config.bayFitted b = true ∧ (s.bay b).silent = false)) (3) ((State.reset.setBay 3 { State.reset.bay 3 with missed := 3 } : State))) ∧
    ((fun b words c (s : State) => meets (.sharingApply b words) (Config.bayFitted b = true ∧ (s.bay b).silent = false ∧ (s.bay b).holding = false ∧ (s.bay b).syncCrc = some c ∧ shareCrc words = c.toNat ∧ (s.bay b).allHands = false)) (3) ([0xD000, 0, 0, 0, 0, 0, 0, 0, 0, 0]) (BitVec.ofNat 16 (shareCrc [0xD000, 0, 0, 0, 0, 0, 0, 0, 0, 0])) ((State.reset.setBay 3 { State.reset.bay 3 with syncCrc := some (BitVec.ofNat 16 (shareCrc [0xD000, 0, 0, 0, 0, 0, 0, 0, 0, 0])) } : State))) ∧
    ((fun b words c (s : State) => meets (.sharingApply b words) (Config.bayFitted b = true ∧ (s.bay b).silent = false ∧ (s.bay b).holding = false ∧ (s.bay b).syncCrc = some c ∧ shareCrc words ≠ c.toNat)) (3) ([]) (BitVec.ofNat 16 (shareCrc [] + 1)) ((State.reset.setBay 3 { State.reset.bay 3 with syncCrc := some (BitVec.ofNat 16 (shareCrc [] + 1)) } : State))) ∧
    ((fun seg y (v : BitVec 12) crc b (s : State) => meets (.trim seg y v crc) (fbbOk (withCrc (trimWord y v.toInt) crc) = true ∧ b ∈ s.listeners seg ∧ (s.bay b).yard = y % 128 ∧ (s.bay b).followsTrim = true)) (0) ((State.reset.bay 3).yard) (0xFFE) (BitVec.ofNat 4 ((trimWord ((State.reset.bay 3).yard) (-2)).field 0 4)) (3) ((State.reset.setBay 3 { State.reset.bay 3 with st := .run }))) ∧
    ((fun seg y (v : BitVec 12) crc b (s : State) => meets (.trim seg y v crc) (fbbOk (withCrc (trimWord y v.toInt) crc) = false ∧ b ∈ s.listeners seg)) (0) ((State.reset.bay 3).yard) (0xFFE) (BitVec.ofNat 4 ((trimWord ((State.reset.bay 3).yard) (-2)).field 0 4) + 1) (3) ((State.reset.setBay 3 { State.reset.bay 3 with st := .run }))) ∧
    ((fun seg y code slew crc b (s : State) => meets (.setpoint seg y code slew crc) (fbbOk (withCrc (setpointWord y code slew) crc) = true ∧ b ∈ s.listeners seg ∧ (s.bay b).yard = y % 128 ∧ (s.bay b).followsSet = true)) (0) ((State.reset.bay 3).yard) (300) (7) (BitVec.ofNat 4 ((setpointWord ((State.reset.bay 3).yard) 300 7).field 0 4)) (3) ((State.reset.setBay 3 { State.reset.bay 3 with st := .run, allHands := true } : State))) ∧
    ((fun seg y p crc b (s : State) => meets (.preset seg y p crc) (fbbOk (withCrc (presetWord y p) crc) = true ∧ b ∈ s.listeners seg ∧ (s.bay b).yard = y % 128 ∧ (s.bay b).followsTrim = true)) (0) ((State.reset.bay 3).yard) (9) (BitVec.ofNat 4 ((presetWord ((State.reset.bay 3).yard) 9).field 0 4)) (3) ((State.reset.setBay 3 { State.reset.bay 3 with st := .run }))) :=
  by
  and_intros
  all_goals decide +kernel

/-- PhaseOrdersActOnNamedPhases: clauses 1, 2, 3, 4, 5. -/
theorem test_phaseOrdersActOnNamedPhases :
    ((fun seg slot ph1 ph0 crc b (s : State) => meets (.add seg slot ph1 ph0 crc) (fbbOk (withCrc (phaseWord slot ph1 ph0 0) crc) = true ∧ b = 80 * seg + slot ∧ b ∈ s.listeners seg ∧ (s.bay b).st = .run ∧ (s.bay b).allHands = false)) (0) (3) (true) (false) (BitVec.ofNat 4 ((phaseWord 3 true false 0).field 0 4)) (3) ((State.reset.setBay 3 { State.reset.bay 3 with st := .run, p0 := { (State.reset.bay 3).p0 with st := .warm }, p1 := { (State.reset.bay 3).p1 with st := .shedPrep } } : State))) ∧
    ((fun seg slot ph1 ph0 crc b (s : State) => meets (.add seg slot ph1 ph0 crc) (fbbOk (withCrc (phaseWord slot ph1 ph0 0) crc) = true ∧ b = 80 * seg + slot ∧ b ∈ s.listeners seg ∧ (s.bay b).st = .run ∧ (s.bay b).allHands = true)) (0) (3) (true) (true) (BitVec.ofNat 4 ((phaseWord 3 true true 0).field 0 4)) (3) ((State.reset.setBay 3 { State.reset.bay 3 with st := .run, p0 := { (State.reset.bay 3).p0 with st := .active }, p1 := { (State.reset.bay 3).p1 with st := .active }, allHands := true } : State))) ∧
    ((fun seg slot ph1 ph0 crc b (s : State) => meets (.shedPrep seg slot ph1 ph0 crc) (fbbOk (withCrc (phaseWord slot ph1 ph0 1) crc) = true ∧ b = 80 * seg + slot ∧ b ∈ s.listeners seg ∧ (s.bay b).st ≠ .fenced ∧ (s.bay b).st ≠ .connect ∧ (s.bay b).st ≠ .absent)) (0) (3) (true) (true) (BitVec.ofNat 4 ((phaseWord 3 true true 1).field 0 4)) (3) ((State.reset.setBay 3 { State.reset.bay 3 with st := .run, p0 := { (State.reset.bay 3).p0 with st := .active }, p1 := { (State.reset.bay 3).p1 with st := .warm } } : State))) ∧
    ((fun seg slot ph1 ph0 crc b (s : State) => meets (.cancel seg slot ph1 ph0 crc) (fbbOk (withCrc (phaseWord slot ph1 ph0 2) crc) = true ∧ b = 80 * seg + slot ∧ b ∈ s.listeners seg ∧ (s.bay b).st ≠ .fenced ∧ (s.bay b).st ≠ .connect ∧ (s.bay b).st ≠ .absent)) (0) (3) (true) (true) (BitVec.ofNat 4 ((phaseWord 3 true true 2).field 0 4)) (3) ((State.reset.setBay 3 { State.reset.bay 3 with st := .run, p0 := { (State.reset.bay 3).p0 with st := .active }, p1 := { (State.reset.bay 3).p1 with st := .shedPrep } } : State))) ∧
    ((fun seg slot ph1 ph0 crc b (s : State) => meets (.clearTrip seg slot ph1 ph0 crc) (fbbOk (withCrc (phaseWord slot ph1 ph0 3) crc) = true ∧ b = 80 * seg + slot ∧ b ∈ s.listeners seg ∧ (s.bay b).st ≠ .fenced ∧ (s.bay b).st ≠ .connect ∧ (s.bay b).st ≠ .absent)) (0) (3) (true) (true) (BitVec.ofNat 4 ((phaseWord 3 true true 3).field 0 4)) (3) ((State.reset.setBay 3 { State.reset.bay 3 with st := .run, p0 := { (State.reset.bay 3).p0 with st := .active }, p1 := { (State.reset.bay 3).p1 with st := .tripped } } : State))) :=
  by
  and_intros
  all_goals decide +kernel

/-- BayStateOrdersMoveTheBay: clauses 1, 2, 3, 4, 5, 6, 7. -/
theorem test_bayStateOrdersMoveTheBay :
    ((fun seg slot crc b (s : State) => meets (.bayStateOff seg slot crc) (fbbOk (withCrc (bayStateWord slot 0) crc) = true ∧ b = 80 * seg + slot ∧ b ∈ s.listeners seg ∧ (s.bay b).st ≠ .fenced ∧ (s.bay b).st ≠ .connect ∧ (s.bay b).st ≠ .absent)) (0) (3) (BitVec.ofNat 4 ((bayStateWord 3 0).field 0 4)) (3) (((State.reset.setBay 3 { State.reset.bay 3 with st := .run }).put (BAY_REF.TRIM 3) 7))) ∧
    ((fun seg slot crc b (s : State) => meets (.bayStateReady seg slot crc) (fbbOk (withCrc (bayStateWord slot 1) crc) = true ∧ b = 80 * seg + slot ∧ b ∈ s.listeners seg ∧ ((s.bay b).st = .off ∨ (s.bay b).st = .ready ∨ (s.bay b).st = .run ∨ (s.bay b).st = .heat))) (0) (3) (BitVec.ofNat 4 ((bayStateWord 3 1).field 0 4)) (3) ((State.reset.setBay 3 { State.reset.bay 3 with st := .run }))) ∧
    ((fun seg slot crc b (s : State) => meets (.bayStateRun seg slot crc) (fbbOk (withCrc (bayStateWord slot 2) crc) = true ∧ b = 80 * seg + slot ∧ b ∈ s.listeners seg ∧ ((s.bay b).st = .off ∨ (s.bay b).st = .ready ∨ (s.bay b).st = .heat) ∧ (s.bay b).p0.st.out = false)) (0) (3) (BitVec.ofNat 4 ((bayStateWord 3 2).field 0 4)) (3) (State.reset)) ∧
    ((fun seg slot crc b (s : State) => meets (.bayStateRun seg slot crc) (fbbOk (withCrc (bayStateWord slot 2) crc) = true ∧ b = 80 * seg + slot ∧ b ∈ s.listeners seg ∧ ((s.bay b).st = .off ∨ (s.bay b).st = .ready ∨ (s.bay b).st = .heat) ∧ (s.bay b).p0.st.out = true ∧ (s.bay b).p1.st.out = false)) (0) (3) (BitVec.ofNat 4 ((bayStateWord 3 2).field 0 4)) (3) ((State.reset.setBay 3 { State.reset.bay 3 with st := .off, p0 := { (State.reset.bay 3).p0 with st := .tripped }, p1 := { (State.reset.bay 3).p1 with st := .cold } } : State))) ∧
    ((fun seg slot crc b (s : State) => meets (.bayStateHeat seg slot crc) (fbbOk (withCrc (bayStateWord slot 3) crc) = true ∧ b = 80 * seg + slot ∧ b ∈ s.listeners seg ∧ ((s.bay b).st = .ready ∨ (s.bay b).st = .run))) (0) (3) (BitVec.ofNat 4 ((bayStateWord 3 3).field 0 4)) (3) ((State.reset.setBay 3 { State.reset.bay 3 with st := .run }))) ∧
    ((fun seg slot crc b (s : State) => meets (.bayStateFence seg slot crc) (fbbOk (withCrc (bayStateWord slot 4) crc) = true ∧ b = 80 * seg + slot ∧ b ∈ s.listeners seg ∧ (s.bay b).st ≠ .fenced ∧ (s.bay b).st ≠ .connect ∧ (s.bay b).st ≠ .absent)) (0) (3) (BitVec.ofNat 4 ((bayStateWord 3 4).field 0 4)) (3) ((State.reset.setBay 3 { State.reset.bay 3 with st := .run }))) ∧
    ((fun seg slot crc b (s : State) => meets (.bayStateRelease seg slot crc) (fbbOk (withCrc (bayStateWord slot 5) crc) = true ∧ b = 80 * seg + slot ∧ b ∈ s.listeners seg ∧ (s.bay b).st = .fenced ∧ (s.bay b).p0.st ≠ .failed ∧ (s.bay b).p1.st ≠ .failed ∧ s.get (PhF b false) ≠ 5 ∧ s.get (PhF b true) ≠ 5 ∧ (s.bay b).discStep = 0)) (0) (3) (BitVec.ofNat 4 ((bayStateWord 3 5).field 0 4)) (3) ((State.reset.setBay 3 { State.reset.bay 3 with st := .fenced } : State))) :=
  by
  and_intros
  all_goals decide +kernel

/-- RemountsSwitchInAndOut: clauses 1, 2, 3, 4, 5, 6, 7, 8, 9, 10, 11, 12. -/
theorem test_remountsSwitchInAndOut :
    ((fun seg slot side crc b y (s : State) => meets (.remountConnect seg slot side crc) (fbbOk (withCrc (remountWord slot side true) crc) = true ∧ b = 80 * seg + slot ∧ b ∈ s.listeners seg ∧ remountYard b side = some y ∧ (s.bay b).st = .off ∧ (s.bay b).discStep = 0 ∧ (s.bay b).yard = 127 ∧ ((s.bay b).assigned = none ∨ (s.bay b).assigned = some y) ∧ s.joinable y = true)) (remountBay / 80) (remountBay % 80) (false) (BitVec.ofNat 4 ((remountWord (remountBay % 80) false true).field 0 4)) (remountBay) ((remountYard remountBay false).getD 0) ((State.reset.put (PWS_DOM.STATE ((remountYard remountBay false).getD 0)) 0))) ∧
    ((fun seg slot side crc b (s : State) => meets (.remountDisconnect seg slot side crc) (fbbOk (withCrc (remountWord slot side false) crc) = true ∧ b = 80 * seg + slot ∧ b ∈ s.listeners seg ∧ (Config.remountLow b).isSome = true ∧ (s.bay b).st ≠ .connect ∧ (s.bay b).yard ≠ 127 ∧ (s.bay b).discStep = 0)) (remountBay / 80) (remountBay % 80) (false) (BitVec.ofNat 4 ((remountWord (remountBay % 80) false false).field 0 4)) (remountBay) ((State.reset.setBay remountBay { State.reset.bay remountBay with st := .run, yard := 5 } : State))) ∧
    ((fun b (s : State) => meets (.remountConnectStep b false) ((s.bay b).st = .connect ∧ (s.bay b).discStep = 0 ∧ (s.bay b).holding = false ∧ (s.bay b).connStep = 0 ∧ s.substWait = [] ∧ s.far ≠ .applying)) (remountBay) ((State.reset.setBay remountBay { State.reset.bay remountBay with st := .connect, connTo := 5 } : State))) ∧
    ((fun b (s : State) => meets (.remountConnectStep b true) ((s.bay b).st = .connect ∧ (s.bay b).discStep = 0 ∧ (s.bay b).holding = false ∧ (s.bay b).connStep = 0 ∧ s.substWait = [] ∧ s.far ≠ .applying)) (remountBay) ((State.reset.setBay remountBay { State.reset.bay remountBay with st := .connect, connTo := 5 } : State))) ∧
    ((fun b ok (s : State) => meets (.remountConnectStep b ok) ((s.bay b).st = .connect ∧ (s.bay b).discStep = 0 ∧ (s.bay b).holding = false ∧ (s.bay b).connStep = 1 ∧ s.substWait = [] ∧ s.far ≠ .applying)) (remountBay) (true) ((State.reset.setBay remountBay { State.reset.bay remountBay with st := .connect, connTo := 5, connStep := 1 } : State))) ∧
    ((fun b (s : State) => meets (.remountConnectStep b false) ((s.bay b).st = .connect ∧ (s.bay b).discStep = 0 ∧ (s.bay b).holding = false ∧ (s.bay b).connStep = 2 ∧ (s.bay b).cmdTags = [] ∧ s.substWait = [] ∧ s.far ≠ .applying)) (remountBay) ((State.reset.setBay remountBay { State.reset.bay remountBay with st := .connect, connTo := 5, connStep := 2 } : State))) ∧
    ((fun b y ok (s : State) => meets (.remountConnectStep b ok) ((s.bay b).st = .connect ∧ (s.bay b).discStep = 0 ∧ (s.bay b).holding = false ∧ (s.bay b).connStep = 3 ∧ (s.bay b).connTo = y ∧ (s.bay b).p0.st.out = false ∧ s.get (YRD_STATUS.ALL_HANDS y) = 0 ∧ (s.yard y).fUnknown = false ∧ s.setFrozen y = false ∧ s.setLow y = false ∧ s.substWait = [] ∧ s.far ≠ .applying)) (remountBay) (5) (true) (((((yard5Running).setBay remountBay { State.reset.bay remountBay with st := .connect, connTo := 5, connStep := 3, yard := 5 }).put (BAY_SHARE.PH0_OFS remountBay) 3).put (YRD_SEGMENTS.SEG 5) 3))) ∧
    ((fun b (s : State) => meets (.remountConnectStep b true) ((s.bay b).st = .connect ∧ (s.bay b).discStep = 0 ∧ (s.bay b).holding = false ∧ (s.bay b).connStep = 2 ∧ (s.bay b).connTo < Config.yardCount ∧ s.substWait = [] ∧ s.far ≠ .applying)) (remountBay) ((State.reset.setBay remountBay { State.reset.bay remountBay with st := .connect, connTo := 5, connStep := 2 } : State))) ∧
    ((fun b ok (s : State) => meets (.remountConnectStep b ok) ((s.bay b).st = .run ∧ (s.bay b).connStep = 4 ∧ (s.bay b).connTo < Config.yardCount ∧ s.substWait = [] ∧ s.far ≠ .applying)) (remountBay) (true) ((State.reset.setBay remountBay { State.reset.bay remountBay with st := .run, connTo := 5, connStep := 4 } : State))) ∧
    ((fun b (s : State) => meets (.remountDisconnectStep b) ((s.bay b).discStep = 1)) (remountBay) ((State.reset.setBay remountBay { State.reset.bay remountBay with st := .run, yard := 5, discStep := 1 } : State))) ∧
    ((fun b (s : State) => meets (.remountDisconnectStep b) ((s.bay b).discStep = 2)) (remountBay) ((State.reset.setBay remountBay { State.reset.bay remountBay with st := .run, yard := 127, discStep := 2 } : State))) ∧
    ((fun b (s : State) => meets (.remountDisconnectStep b) ((s.bay b).discStep = 3)) (remountBay) ((State.reset.setBay remountBay { State.reset.bay remountBay with st := .run, yard := 127, discStep := 3, discTo := .off } : State))) :=
  by
  and_intros
  all_goals decide +kernel

/-- BayRegistersReportsAndAnswers: clauses 1, 2, 3, 4, 5, 6, 7, 8, 9, 10, 11, 12, 13. -/
theorem test_bayRegistersReportsAndAnswers :
    ((fun seg slot reg (data : BitVec 12) crc b (s : State) => meets (.cfgWr seg slot reg data crc) (fbbOk (withCrc (cfgWrWord slot reg data.toNat) crc) = true ∧ b = 80 * seg + slot ∧ b ∈ s.listeners seg)) (0) (3) (3) (17) (BitVec.ofNat 4 ((cfgWrWord 3 3 17).field 0 4)) (3) (State.reset)) ∧
    ((fun seg slot reg crc b (s : State) => meets (.cfgRd seg slot reg crc) (fbbOk (withCrc (cfgRdWord slot reg) crc) = true ∧ b = 80 * seg + slot ∧ b ∈ s.listeners seg)) (1) (2) (0) (BitVec.ofNat 4 ((cfgRdWord 2 0).field 0 4)) (82) (State.reset)) ∧
    ((fun seg (sfn : BitVec 8) (reports : List (Nat × BitVec 16 × Bool)) (s : State) => meets (.currentReport seg sfn reports) (seg < Config.segments ∧ (reports.map (·.1)).Nodup ∧ reports.all (fun r => parityOk (if s.reportsZero (80 * seg + r.1) then 0 else r.2.1) r.2.2) = true)) (0) (9) ([(3, 0x0503, false), (4, 0x0001, false)]) ((State.reset.setBay 3 { State.reset.bay 3 with st := .run }))) ∧
    ((fun seg (sfn : BitVec 8) slot bits par (s : State) => meets (.currentReport seg sfn [(slot, bits, par)]) (seg < Config.segments ∧ slot < 80 ∧ Config.bayFitted (80 * seg + slot) = true ∧ parityOk (if s.reportsZero (80 * seg + slot) then 0 else bits) par = false ∧ (s.bay (80 * seg + slot)).parityRun < 2)) (0) (9) (3) (1) (false) ((State.reset.setBay 3 { State.reset.bay 3 with st := .run }))) ∧
    ((fun seg (sfn : BitVec 8) slot bits par (s : State) => meets (.currentReport seg sfn [(slot, bits, par)]) (seg < Config.segments ∧ slot < 80 ∧ Config.bayFitted (80 * seg + slot) = true ∧ parityOk (if s.reportsZero (80 * seg + slot) then 0 else bits) par = false ∧ (s.bay (80 * seg + slot)).parityRun = 2 ∧ (s.bay (80 * seg + slot)).failFenced = false)) (0) (9) (3) (1) (false) ((State.reset.setBay 3 { State.reset.bay 3 with st := .run, parityRun := 2 }))) ∧
    ((fun seg slot (w : Word) b (s : State) => meets (.event seg slot w) (b = 80 * seg + slot ∧ slot < 80 ∧ s.drives b = true ∧ (s.bay b).unsent ≠ 0 ∧ (s.bay b).answer = none ∧ fbbOk w = true ∧ w = s.eventWord b ∧ seg ∉ s.segDead ∧ (s.bay b).unsent.toNat < 32 ∧ (s.bay b).st ≠ .protect ∧ s.phSt (b, false) ≠ 5 ∧ s.phSt (b, true) ≠ 5)) (0) (3) (((State.reset.setBay 3 { State.reset.bay 3 with st := .run, unsent := 0x10, p0 := { st := .tripped }, p1 := { st := .active } })).eventWord 3) (3) ((State.reset.setBay 3 { State.reset.bay 3 with st := .run, unsent := 0x10, p0 := { st := .tripped }, p1 := { st := .active } }))) ∧
    ((fun seg slot (w : Word) b (s : State) => meets (.event seg slot w) (b = 80 * seg + slot ∧ slot < 80 ∧ s.drives b = true ∧ (s.bay b).unsent ≠ 0 ∧ (s.bay b).answer = none ∧ fbbOk w = true ∧ w = s.eventWord b ∧ seg ∉ s.segDead ∧ (s.bay b).unsent = 0x20 ∧ (s.bay b).st ≠ .protect ∧ (s.bay b).failFenced = true ∧ (s.bay b).failKind < 4)) (0) (3) (((State.reset.setBay 3 { State.reset.bay 3 with st := .run, unsent := 0x20, failKind := 2, failFenced := true, p0 := { st := .failed } })).eventWord 3) (3) ((State.reset.setBay 3 { State.reset.bay 3 with st := .run, unsent := 0x20, failKind := 2, failFenced := true, p0 := { st := .failed } }))) ∧
    ((fun seg slot (w : Word) b y (s : State) => meets (.event seg slot w) (b = 80 * seg + slot ∧ slot < 80 ∧ s.drives b = true ∧ (s.bay b).unsent ≠ 0 ∧ (s.bay b).answer = none ∧ fbbOk w = true ∧ w = s.eventWord b ∧ seg ∉ s.segDead ∧ (s.bay b).unsent = 0x80 ∧ (s.bay b).st ≠ .protect ∧ (s.bay b).p0.st ≠ .tripped ∧ (s.bay b).p1.st ≠ .tripped ∧ s.get (BAY_STATE.YARD b) = y ∧ y < Config.yardCount)) (0) (3) (((State.reset.setBay 3 { State.reset.bay 3 with st := .run, allHands := true, unsent := 0x80 })).eventWord 3) (3) (((State.reset.setBay 3 { State.reset.bay 3 with st := .run, allHands := true, unsent := 0x80 })).get (BAY_STATE.YARD 3)) ((State.reset.setBay 3 { State.reset.bay 3 with st := .run, allHands := true, unsent := 0x80 }))) ∧
    ((fun seg slot (w : Word) b y (s : State) => meets (.event seg slot w) (b = 80 * seg + slot ∧ slot < 80 ∧ s.drives b = true ∧ (s.bay b).unsent ≠ 0 ∧ (s.bay b).answer = none ∧ fbbOk w = true ∧ w = s.eventWord b ∧ seg ∉ s.segDead ∧ (s.bay b).unsent = 0x10 ∧ (s.bay b).st = .protect ∧ (s.bay b).p0.st ≠ .tripped ∧ (s.bay b).p1.st ≠ .tripped ∧ s.get (BAY_STATE.YARD b) = y)) (0) (3) (((State.reset.setBay 3 { State.reset.bay 3 with st := .protect, prior := .run, unsent := 0x10 })).eventWord 3) (3) ((State.reset).get (BAY_STATE.YARD 3)) ((State.reset.setBay 3 { State.reset.bay 3 with st := .protect, prior := .run, unsent := 0x10 }))) ∧
    ((fun seg slot (w : Word) b (s : State) => meets (.event seg slot w) (b = 80 * seg + slot ∧ slot < 80 ∧ s.drives b = true ∧ (s.bay b).unsent ≠ 0 ∧ (s.bay b).answer = none ∧ fbbOk w = false)) (0) (3) (0) (3) ((State.reset.setBay 3 { State.reset.bay 3 with st := .run, unsent := 0x10, p0 := { st := .tripped }, p1 := { st := .active } }))) ∧
    ((fun seg slot (w : Word) b (s : State) => meets (.event seg slot w) (b = 80 * seg + slot ∧ fbbOk w = true ∧ w ≠ s.eventWord b)) (0) (3) ((fbbWord 1 0)) (3) ((State.reset.setBay 3 { State.reset.bay 3 with st := .run, unsent := 0x10, p0 := { st := .tripped }, p1 := { st := .active } }))) ∧
    ((fun seg slot (w : Word) b reg (s : State) => meets (.rdRsp seg slot w) (b = 80 * seg + slot ∧ slot < 80 ∧ s.drives b = true ∧ (s.bay b).answer = some reg ∧ fbbOk w = true ∧ w = s.rspWord b reg ∧ seg ∉ s.segDead ∧ (s.bay b).recover = false)) (0) (3) (((State.reset.setBay 3 { State.reset.bay 3 with st := .run, answer := some 2 })).rspWord 3 2) (3) (2) ((State.reset.setBay 3 { State.reset.bay 3 with st := .run, answer := some 2 }))) ∧
    ((fun seg (s : State) => meets (.fbbSegment seg) (seg < Config.segments ∧ seg ∉ s.segDead ∧ 4 ≤ Tab.get (fun _ => 0) s.silent seg)) (2) (({ State.reset with silent := [(2, 4)] } : State))) :=
  by
  and_intros
  all_goals decide +kernel

/-- BaysActByThemselves: clauses 1, 3, 4, 5, 6, 7, 8, 9, 10, 11, 12, 13, 14, 15, 16, 17, 18, 19. -/
theorem test_baysActByThemselves :
    ((fun b (s : State) => meets (.droopTrip b) (Config.anchorOf b ≠ 0 ∧ (s.bay b).compTripped = false ∧ s.net (s.bay b).yard = false)) (0) ((State.reset.setBay 3 { State.reset.bay 3 with st := .run }))) ∧
    ((fun b (s : State) => meets (.allHandsEnd b) ((s.bay b).allHands = true ∧ s.net (s.bay b).yard = false)) (3) (State.reset.setBay 3 { State.reset.bay 3 with allHands := true, storedTrim := some 5, storedPre := some (7, none) })) ∧
    ((fun b ph (s : State) => meets (.shedStop b ph) ((s.bay b).holding = true)) (3) (true) (State.reset.setBay 3 { State.reset.bay 3 with holding := true, p1 := { st := .shedPrep } })) ∧
    ((fun b ph (s : State) => meets (.phaseCold b ph) ((s.bay b).holding = true)) (3) (true) (State.reset.setBay 3 { State.reset.bay 3 with holding := true, p1 := { st := .warm } })) ∧
    ((fun b ph (s : State) => meets (.shedStop b ph) (((s.bay b).ph ph).st = .shedPrep ∧ (s.bay b).holding = false)) (3) (true) (State.reset.setBay 3 { State.reset.bay 3 with p1 := { st := .shedPrep } })) ∧
    ((fun b ph (s : State) => meets (.phaseCold b ph) (((s.bay b).ph ph).st = .warm ∧ (s.bay b).holding = false)) (3) (false) (State.reset.setBay 3 { State.reset.bay 3 with p0 := { st := .warm } })) ∧
    ((fun b ph (s : State) => meets (.tripped b ph) ((((s.bay b).ph ph).st = .active ∨ ((s.bay b).ph ph).st = .shedPrep))) (3) (false) (State.reset.setBay 3 { State.reset.bay 3 with p0 := { st := .active } })) ∧
    ((fun b (s : State) => meets (.bayOverload b) (Config.bayFitted b = true)) (3) (State.reset)) ∧
    ((fun b (s : State) => meets (.inputLow b) ((s.bay b).st ≠ .absent ∧ (s.bay b).st ≠ .fenced ∧ (s.bay b).st ≠ .protect)) (3) ((State.reset.setBay 3 { State.reset.bay 3 with st := .run }))) ∧
    ((fun b (s : State) => meets (.outputHigh b) (Config.anchorOf b ≠ 0 ∧ (s.bay b).st ≠ .absent ∧ (s.bay b).st ≠ .fenced ∧ (s.bay b).st ≠ .protect)) (0) (State.reset)) ∧
    ((fun b (s : State) => meets (.inputLow b) ((s.bay b).st = .protect)) (3) (State.reset.setBay 3 { State.reset.bay 3 with st := .protect, prior := .run })) ∧
    ((fun b (s : State) => meets (.inputLow b) ((s.bay b).st = .fenced)) (3) (State.reset.setBay 3 { State.reset.bay 3 with st := .fenced })) ∧
    ((fun b (s : State) => meets (.outputHigh b) (Config.anchorOf b ≠ 0 ∧ (s.bay b).st = .fenced)) (0) (State.reset.setBay 0 { State.reset.bay 0 with st := .fenced })) ∧
    ((fun b (s : State) => meets (.protectReturn b) ((s.bay b).st = .protect ∧ (s.bay b).prior ≠ .protect ∧ ((s.bay b).prior ≠ .ready ∨ (s.bay b).allHands = true))) (3) (State.reset.setBay 3 { State.reset.bay 3 with st := .protect, prior := .run })) ∧
    ((fun b (s : State) => meets (.protectReturn b) ((s.bay b).st = .protect ∧ (s.bay b).prior = .ready ∧ (s.bay b).allHands = false ∧ (s.bay b).prior0 ≠ .active ∧ (s.bay b).prior1 ≠ .active)) (3) (State.reset.setBay 3 { State.reset.bay 3 with st := .protect, prior := .ready })) ∧
    ((fun b (s : State) => meets (.protectReturn b) ((s.bay b).st = .protect ∧ (s.bay b).prior = .ready ∧ (s.bay b).allHands = false ∧ (s.bay b).prior0 = .active ∧ (s.bay b).p0.st.out = false)) (3) (State.reset.setBay 3 { State.reset.bay 3 with st := .protect, prior := .ready, prior0 := .active })) ∧
    ((fun b ph (s : State) => meets (.phaseFailed b ph .implausible) ((s.bay b).st = .heat)) (3) (true) (State.reset.setBay 3 { State.reset.bay 3 with st := .heat })) ∧
    ((fun b ph kind (s : State) => meets (.phaseFailed b ph kind) ((s.bay b).st ≠ .absent ∧ ((s.bay b).ph ph).st ≠ .failed ∧ (kind ≠ .implausible ∨ (s.bay b).st ≠ .heat))) (3) (true) (.stuck) ((State.reset.setBay 3 { State.reset.bay 3 with st := .run }))) :=
  by
  and_intros
  all_goals decide +kernel

/-- RecordWritesReachTheBays: clauses 1, 2, 3, 4, 5, 6, 7, 8, 9, 10, 11. -/
theorem test_recordWritesReachTheBays :
    ((fun q b (s : State) => meets (.bayCtrlFence q b) (b < Config.bayCount ∧ s.Takes q ((BAY_CTRL.reg b).addr) ∧ s.RecordSound ((BAY_CTRL.reg b).addr))) (⟨.rp, 1⟩) (5) (State.reset)) ∧
    ((fun q b (s : State) => meets (.bayCtrlRelease q b) (b < Config.bayCount ∧ s.Takes q ((BAY_CTRL.reg b).addr) ∧ s.RecordSound ((BAY_CTRL.reg b).addr))) (⟨.mp, 0⟩) (1279) (State.reset)) ∧
    ((fun q b (s : State) => meets (.bayCtrlClearTrip q b) (b < Config.bayCount ∧ s.Takes q ((BAY_CTRL.reg b).addr) ∧ s.RecordSound ((BAY_CTRL.reg b).addr))) (⟨.rp, 1⟩) (5) ((State.reset.put (BAY_STATE.PH1_STATE 5) 4))) ∧
    ((fun q b side y (s : State) => meets (.bayRemountGo q b false side) (b < Config.bayCount ∧ s.Takes q ((BAY_REMOUNT.reg b).addr) ∧ s.RecordSound ((BAY_REMOUNT.reg b).addr) ∧ s.unlocked (BAY_REMOUNT.reg b).addr = true ∧ remountYard b side = some y ∧ (s.bay b).cmdTags = [])) (⟨.rp, 1⟩) (11) (true) (1) (((State.reset.put GLB_XREC_BAY.PAGE 0xFFFFF).put GLB_XREC_YRD.PAGE 0xFF))) ∧
    ((fun q b side y (s : State) => meets (.bayRemountGo q b true side) (b < Config.bayCount ∧ s.Takes q ((BAY_REMOUNT.reg b).addr) ∧ s.RecordSound ((BAY_REMOUNT.reg b).addr) ∧ s.unlocked (BAY_REMOUNT.reg b).addr = true ∧ remountYard b side = some y ∧ (s.bay b).assigned = none ∧ s.get (BAY_STATE.STATE b) = 1 ∧ s.joinable y = true)) (⟨.rp, 1⟩) (11) (false) (0) (((((State.reset.put GLB_XREC_BAY.PAGE 0xFFFFF).put GLB_XREC_YRD.PAGE 0xFF).put (BAY_STATE.STATE 11) 1).put (PWS_DOM.STATE 0) 0))) ∧
    ((fun q b th (s : State) => meets (.bayDroopWrite q b th) (b < Config.bayCount ∧ Config.anchorOf b ≠ 0 ∧ 8 ≤ th ∧ th ≤ 48 ∧ s.Takes q ((BAY_DROOP.reg b).addr) ∧ s.RecordSound ((BAY_DROOP.reg b).addr) ∧ s.unlocked (BAY_DROOP.reg b).addr = true)) (⟨.mp, 0⟩) (0) (48) (((State.reset.put GLB_XREC_BAY.PAGE 0xFFFFF).put GLB_XREC_YRD.PAGE 0xFF))) ∧
    ((fun q y th (s : State) => meets (.yrdDroopWrite q y th) (y < Config.yardCount ∧ 8 ≤ th ∧ th ≤ 48 ∧ s.Takes q ((YRD_DROOP.reg y).addr) ∧ s.RecordSound ((YRD_DROOP.reg y).addr))) (⟨.rp, 1⟩) (64) (8) (State.reset)) ∧
    ((fun q y code (s : State) => meets (.yrdVidWrite q y code) (y < Config.yardCount ∧ 40 ≤ code ∧ code ≤ 520 ∧ s.inMaint y = false ∧ (Config.isLogic y = false ∨ 2 ≤ s.domState y) ∧ s.Takes q ((YRD_VID.reg y).addr) ∧ s.RecordSound ((YRD_VID.reg y).addr))) (⟨.rp, 1⟩) (70) (300) ((State.reset.setDom 70 { volt := .full }))) ∧
    ((fun q y code (s : State) => meets (.yrdVidWrite q y code) (y < Config.yardCount ∧ Config.isLogic y = true ∧ s.domState y ≤ 1 ∧ s.Takes q ((YRD_VID.reg y).addr) ∧ s.RecordSound ((YRD_VID.reg y).addr))) (⟨.rp, 1⟩) (5) (300) ((State.reset.put (PWS_DOM.STATE 5) 0))) ∧
    ((fun q y (data : Word) (s : State) => meets (.yrdLoopWrite q y data) (y < Config.yardCount ∧ data.field 4 2 ≤ 2 ∧ s.on (CTL.VALID y (data.field 0 3)) = true ∧ s.inMaint y = false ∧ s.unlocked (YRD_LOOP.reg y).addr = true ∧ (s.judgeWord q [((YRD_LOOP.reg y).addr, data)] (YRD_LOOP.reg y).addr).2 = false ∧ s.Takes q ((YRD_LOOP.reg y).addr) ∧ s.RecordSound ((YRD_LOOP.reg y).addr))) (⟨.rp, 1⟩) (3) (0x88) (((State.reset.put GLB_XREC_BAY.PAGE 0xFFFFF).put GLB_XREC_YRD.PAGE 0xFF))) ∧
    ((fun q y (data : Word) (s : State) => meets (.yrdLoopWrite q y data) (y < Config.yardCount ∧ (s.judgeWord q [((YRD_LOOP.reg y).addr, data)] (YRD_LOOP.reg y).addr).2 = true ∧ s.Takes q ((YRD_LOOP.reg y).addr) ∧ s.RecordSound ((YRD_LOOP.reg y).addr))) (⟨.rp, 1⟩) (3) (0x10) ((((State.reset.put GLB_XREC_BAY.PAGE 0xFFFFF).put GLB_XREC_YRD.PAGE 0xFF).put TIL_ADMIT.LOAD_MAX 50))) :=
  by
  and_intros
  all_goals decide +kernel

/-- TillerRunsTheLoop: clauses 1, 2, 3, 4, 5, 6, 7, 8, 9, 10, 11, 12. -/
theorem test_tillerRunsTheLoop :
    ((fun y (s : State) => meets (.samplingInstant y) (s.hasJobs y = true ∧ s.fbPoints y ≠ [] ∧ (s.yard y).pts.all (fun p => !s.outside p.r) = true ∧ (s.yard y).crossings.length + 1 < s.get FAR_OSC.COUNT ∧ s.on (YRD_STATUS.ALL_HANDS y) = false ∧ (s.yard y).supOrder = none ∧ (s.yard y).noFb = false ∧ (s.yard y).hSoft = false ∧ s.on (Fld.bit SXT_MAINT.YARD y) = false ∧ (s.yard y).maintHold = false ∧ (s.dom y).step ≠ .regulator ∧ (s.yard y).held = [] ∧ (s.yard y).vfWait = none ∧ s.strBusy (y / 4 / 2 * 2) 0 = false ∧ -2048 ≤ s.lastTrim y ∧ s.lastTrim y < 2048)) (5) (((State.reset.put (BAY_STATE.STATE 60) 3).put (PWS_DOM.STATE 5) 0))) ∧
    ((fun y (s : State) => meets (.errorQueued y) (s.hasJobs y = true ∧ s.fbPoints y ≠ [] ∧ (s.yard y).plan = .law ∧ ((s.yard y).queued = none ∨ s.classNow y = 0))) (5) ((((State.reset.put (BAY_STATE.STATE 60) 3).put (PWS_DOM.STATE 5) 0).setYard 5 { plan := .law, vset := 3000, got := [(1, 900)] }))) ∧
    ((fun y h top (s : State) => meets (.errorQueued y) (s.hasJobs y = true ∧ s.fbPoints y ≠ [] ∧ (s.yard y).plan = .hold h top ∧ ((s.yard y).queued = none ∨ s.classNow y = 0))) (5) (some 7) (true) ((((State.reset.put (BAY_STATE.STATE 60) 3).put (PWS_DOM.STATE 5) 0).setYard 5 { plan := .hold (some 7) true, vset := 3000 }))) ∧
    ((fun y j (s : State) => meets (.errorQueued y) (s.hasJobs y = true ∧ s.fbPoints y ≠ [] ∧ (s.yard y).plan = .law ∧ (s.yard y).queued = some j ∧ s.classNow y = 1)) (5) (.hold none false) ((((((State.reset.put (BAY_STATE.STATE 60) 3).put (PWS_DOM.STATE 5) 0).put GLB_SERVICE.STATE 3).setYard 5 { plan := .law, queued := some (.hold none false) }).put (YRD_LOOP_NOW.CLASS_NOW 5) 1))) ∧
    ((fun y h (s : State) => meets (.errorQueued y) (s.hasJobs y = true ∧ s.fbPoints y ≠ [] ∧ (s.yard y).plan = .hand h ∧ s.classNow y = 0 ∧ s.get (YRD_STATUS.ALL_HANDS y) = 0)) (5) (-40) ((((State.reset.put (BAY_STATE.STATE 60) 3).put (PWS_DOM.STATE 5) 0).setYard 5 { plan := .hand (-40) }))) ∧
    ((fun y h (s : State) => meets (.errorQueued y) (s.hasJobs y = true ∧ s.fbPoints y ≠ [] ∧ (s.yard y).plan = .hand h ∧ s.classNow y = 0 ∧ s.get (YRD_STATUS.ALL_HANDS y) = 1)) (5) (-40) (((((State.reset.put (BAY_STATE.STATE 60) 3).put (PWS_DOM.STATE 5) 0).put (YRD_STATUS.ALL_HANDS 5) 1).setYard 5 { plan := .hand (-40) }))) ∧
    ((fun lane wait y (s : State) => meets (.lawJobDispatch lane wait) (lane < Config.lanes ∧ tb (s.get TIL_LANES.RETIRED) lane = false ∧ s.nextJob = some y)) (2) (30) (5) ((((State.reset.put (BAY_STATE.STATE 60) 3).put (PWS_DOM.STATE 5) 0).setYard 5 { queued := some (.law 3) }))) ∧
    ((fun y e (s : State) => meets (.lawJobComplete y true false false) ((s.yard y).flying = some (.law e) ∧ s.classNow y = 0 ∧ s.get (YRD_STATUS.ALL_HANDS y) = 0)) (5) (100) ((((State.reset.put (BAY_STATE.STATE 60) 3).put (PWS_DOM.STATE 5) 0).setYard 5 { flying := some (.law 100), flySet := 1 }))) ∧
    ((fun y e (s : State) => meets (.lawJobComplete y true false false) ((s.yard y).flying = some (.law e) ∧ s.classNow y = 1)) (5) (100) ((((((State.reset.put (BAY_STATE.STATE 60) 3).put (PWS_DOM.STATE 5) 0).put GLB_SERVICE.STATE 3).setYard 5 { flying := some (.law 100) }).put (YRD_LOOP_NOW.CLASS_NOW 5) 1))) ∧
    ((fun y j ue (s : State) => meets (.lawJobComplete y false false ue) ((s.yard y).flying = some j)) (5) (.law 100) (false) ((((State.reset.put (BAY_STATE.STATE 60) 3).put (PWS_DOM.STATE 5) 0).setYard 5 { flying := some (.law 100), flyAt := 77 }))) ∧
    ((fun y v due rest (s : State) => meets (.keelHandover y) ((s.yard y).out = (v, due) :: rest ∧ due ≤ s.mono ∧ s.get (YRD_STATUS.ALL_HANDS y) = 0)) (5) (-9) (0) ([(4, 80)]) ((((State.reset.put (BAY_STATE.STATE 60) 3).put (PWS_DOM.STATE 5) 0).setYard 5 { out := [(-9, 0), (4, 80)] }))) ∧
    ((fun y j (s : State) => meets (.keelMiss y) ((s.yard y).queued = some j ∧ s.classNow y = 1 ∧ (s.yard y).late = false ∧ s.jobDeadline y ≤ s.mono)) (5) (.law 100) (({ (((((State.reset.put (BAY_STATE.STATE 60) 3).put (PWS_DOM.STATE 5) 0).put GLB_SERVICE.STATE 3).setYard 5 { queued := some (.law 100) }).put (YRD_LOOP_NOW.CLASS_NOW 5) 1) with mono := 900 } : State))) :=
  by
  and_intros
  all_goals decide +kernel

/-- SharingAndSupervisionJobsRun: clauses 1, 3, 4, 5, 6, 7, 8, 9, 10. -/
theorem test_sharingAndSupervisionJobsRun :
    ((fun y (s : State) => meets (.holdReqTimeout y) (y < Config.yardCount ∧ (s.yard y).belowMin = .waiting ∧ (s.dom y).step ≠ .stable ∧ (s.dom y).order = none)) (5) (((State.reset.setYard 5 { belowMin := .waiting }).setDom 5 { step := .ramp }))) ∧
    ((fun b ph (s : State) => meets (.autoClearTrip b ph) (Config.bayFitted b = true ∧ s.phSt (b, ph) = 4 ∧ ((s.bay b).ph ph).tripsOut = false)) (5) (true) ((State.reset.put (BAY_STATE.PH1_STATE 5) 4))) ∧
    ((fun b ph (s : State) => meets (.autoClearTrip b ph) (((s.bay b).ph ph).tripsOut = true)) (5) (true) ((State.reset.setBay 5 { State.reset.bay 5 with p1 := { trips := [9, 8, 7] } }))) ∧
    ((fun y (s : State) => meets (.phaseCountDecision y) (y < Config.yardCount ∧ s.domState y ≤ 2 ∧ s.runBays y ≠ [])) (5) (((((State.reset.put (BAY_STATE.STATE 60) 3).put (PWS_DOM.STATE 5) 0).put (BAY_STATE.PH0_STATE 60) 2).put (BAY_IMON.PH0_I 60) 100))) ∧
    ((fun b lane (s : State) => meets (.sharingJob b lane true) (b < Config.bayCount ∧ s.shareReady b = true ∧ s.shareTurn b = true ∧ s.get (BAY_STATE.YARD b) < Config.yardCount)) (60) (0) (({ (((State.reset.put (BAY_STATE.STATE 60) 3).put (PWS_DOM.STATE 5) 0).put (BAY_STATE.PH0_STATE 60) 2).put (BAY_STATE.YARD 60) 5 with mono := 4400 } : State))) ∧
    ((fun b lane (s : State) => meets (.sharingJob b lane false) (b < Config.bayCount ∧ s.shareReady b = true ∧ s.shareTurn b = true)) (60) (0) (({ ((State.reset.put (BAY_STATE.STATE 60) 3).put (PWS_DOM.STATE 5) 0) with mono := 4400 } : State))) ∧
    ((fun b (s : State) => meets (.sharingDeadlineMiss b) (b < Config.bayCount ∧ s.shareReady b = true ∧ s.shareLimit (b / 80) ≤ s.mono)) (60) (({ ((State.reset.put (BAY_STATE.STATE 60) 3).put (PWS_DOM.STATE 5) 0) with mono := 20000 } : State))) ∧
    ((fun y lane (s : State) => meets (.supervisionJob y lane true) (s.supReady y = true ∧ s.supTurn y = true)) (5) (0) (({ ((State.reset.put (BAY_STATE.STATE 60) 2).put (PWS_DOM.STATE 5) 0).setYard 5 { supAt := some 0 } with mono := 1440 } : State))) ∧
    ((fun y lane (s : State) => meets (.supervisionJob y lane false) (s.supReady y = true ∧ s.supTurn y = true)) (5) (0) (({ ((State.reset.put (BAY_STATE.STATE 60) 2).put (PWS_DOM.STATE 5) 0).setYard 5 { supAt := some 0 } with mono := 1440 } : State))) :=
  by
  and_intros
  all_goals decide +kernel

/-- SextantConvertsAndCompares: clauses 1, 2, 3, 4, 5, 6, 7, 8, 9, 10. -/
theorem test_sextantConvertsAndCompares :
    ((fun cl slice ch (code : BitVec 10) loop (s : State) => meets (.conversionDone cl slice ch code loop) (cl < 24 ∧ ch < 16 ∧ tb (s.get (SXT_STATUS.IN_SERVICE cl)) slice = true ∧ s.converting cl slice = some (ch, loop) ∧ s.calConnected cl ch = false ∧ s.get (SXT_CH_WCFG.EN cl ch) = 0)) (3) (1) (6) (200) (true) ((State.reset.setCluster 3 { booked := [6, 7] }))) ∧
    ((fun cl slice ch (code : BitVec 10) (s : State) => meets (.conversionDone cl slice ch code false) (cl < 24 ∧ ch < 16 ∧ tb (s.get (SXT_STATUS.IN_SERVICE cl)) slice = true ∧ (s.cluster cl).flight[slice]? = some (some (ch, false)) ∧ s.converts cl slice = true ∧ (s.cluster cl).booked = [] ∧ s.calMeasures cl = false)) (3) (1) (6) (200) ((State.reset.setCluster 3 { flight := [none, some (6, false), none, none, none], order := [1, 0] }))) ∧
    ((fun cl slice ch (code : BitVec 10) loop (s : State) => meets (.conversionDone cl slice ch code loop) (cl < 24 ∧ ch < 16 ∧ tb (s.get (SXT_STATUS.IN_SERVICE cl)) slice = true ∧ s.converting cl slice = some (ch, loop) ∧ s.calConnected cl ch = false ∧ s.get (SXT_CH_WCFG.EN cl ch) = 1)) (3) (1) (6) (200) (false) ((((State.reset.put (SXT_CH_WCFG.EN 3 6) 1).put (SXT_CH_WCFG.PERSIST 3 6) 0).setCluster 3 { flight := [none, some (6, false), none, none, none] }))) ∧
    ((fun q cl ch (data : Word) (s : State) => meets (.windowConfigWrite q cl ch true data) (cl < Config.clusterCount ∧ ch < 36 ∧ s.Takes q ((SXT_CH_WCFG.reg cl ch).addr) ∧ s.unlocked (SXT_CH_WCFG.reg cl ch).addr = true)) (⟨.rp, 1⟩) (2) (35) (0x3405) ((State.reset.put (unlockedF 0x53) 1))) ∧
    ((fun q cl ch (data : Word) (s : State) => meets (.windowConfigWrite q cl ch false data) (cl < Config.clusterCount ∧ ch < 36 ∧ signed 16 (data.field 0 16) ≤ signed 16 (data.field 16 16) ∧ s.Takes q ((SXT_CH_WIN.reg cl ch).addr) ∧ s.unlocked (SXT_CH_WIN.reg cl ch).addr = true)) (⟨.rp, 1⟩) (2) (0) (0x0010FFF0) ((State.reset.put (unlockedF 0x53) 1))) ∧
    ((fun q cl ch w (s : State) => meets (.scanWeightWrite q cl ch w) (cl < Config.clusterCount ∧ ch < 36 ∧ w < 256 ∧ s.Takes q ((SXT_CH_SCAN.reg cl ch).addr) ∧ s.unlocked (SXT_CH_SCAN.reg cl ch).addr = true)) (⟨.mp, 0⟩) (2) (32) (1) ((State.reset.put (unlockedF 0x53) 1))) ∧
    ((fun cl slice gnd ref (skew : Int) (s : State) => meets (.estimatorTurnEnd cl slice gnd ref skew) (cl < Config.clusterCount ∧ slice < 5 ∧ tb (s.get (SXT_STATUS.IN_SERVICE cl)) slice = true ∧ s.get (SXT_STATUS.INLINE cl) = 0 ∧ s.get (SXT_STATUS.CAPTURE cl) = 0 ∧ s.get (SXT_STATUS.OUT cl) = slice ∧ s.turnReady cl slice = true ∧ s.estFrozen cl = false ∧ (s.cluster cl).refTurn = false ∧ -2047 ≤ gnd.sum / 2048 ∧ gnd.sum / 2048 ≤ 2047 ∧ gnd.sum / 2048 ≠ ref.sum / 2048 ∧ 12288 ≤ (s.refTarget cl + (ref.sum / 2048 - gnd.sum / 2048) / 2) / (ref.sum / 2048 - gnd.sum / 2048) ∧ (s.refTarget cl + (ref.sum / 2048 - gnd.sum / 2048) / 2) / (ref.sum / 2048 - gnd.sum / 2048) ≤ 20480)) (3) (4) (⟨2048 * 16, 0⟩) (⟨2048 * 12304, 0⟩) (3) (({ State.reset with mono := 400000 } : State))) ∧
    ((fun cl slice gnd ref (skew : Int) (s : State) => meets (.estimatorTurnEnd cl slice gnd ref skew) (cl < Config.clusterCount ∧ slice < 5 ∧ tb (s.get (SXT_STATUS.IN_SERVICE cl)) slice = true ∧ s.get (SXT_STATUS.INLINE cl) = 0 ∧ s.get (SXT_STATUS.CAPTURE cl) = 0 ∧ s.get (SXT_STATUS.OUT cl) = slice ∧ s.turnReady cl slice = true ∧ s.estFrozen cl = false ∧ (s.cluster cl).refTurn = false ∧ 2047 < gnd.sum / 2048 ∧ gnd.sum / 2048 ≠ ref.sum / 2048 ∧ s.get (SXT_SL_STAT.REJECTS cl slice) < 2)) (3) (4) (⟨2048 * 3000, 0⟩) (⟨2048 * 12304, 0⟩) (3) (({ State.reset with mono := 400000 } : State))) ∧
    ((fun cl slice gnd ref (skew : Int) (s : State) => meets (.estimatorTurnEnd cl slice gnd ref skew) (s.turnReady cl slice = false ∧ s.get (SXT_STATUS.CAPTURE cl) = 0)) (3) (4) (⟨0, 0⟩) (⟨0, 0⟩) (0) (State.reset)) ∧
    ((fun cl since (s : State) => meets (.tempSubstitution cl) (cl < Config.clusterCount ∧ s.get (SXT_STATUS.TEMP_SUB cl) = 0 ∧ (s.cluster cl).tOff = some since ∧ since + ns 1000000 ≤ s.mono)) (3) (0) (({ State.reset.setCluster 3 { tOff := some 0 } with mono := 2000000 } : State))) :=
  by
  and_intros
  all_goals decide +kernel

/-- UrgentConversionsAndStreamsRun: clauses 1, 2, 3, 4, 5, 6, 7, 8, 9, 10, 11, 12, 13, 14, 15, 16. -/
theorem test_urgentConversionsAndStreamsRun :
    ((fun q cl ch (s : State) => meets (.sxtUrgGo q cl ch) (cl < Config.clusterCount ∧ ch < 64 ∧ s.Takes q ((SXT_URG.reg cl).addr) ∧ (s.cluster cl).urg = .none ∧ Config.chKind cl ch ≠ .absent ∧ s.get (SXT_STATUS.CAPTURE cl) = 0 ∧ s.onPll = true ∧ (s.active = false ∨ confKind cl ch = false))) (⟨.rp, 1⟩) (25) (34) ((State.reset.put CLK_STATUS.SOURCE 1))) ∧
    ((fun q cl ch (s : State) => meets (.sxtUrgGo q cl ch) (cl < Config.clusterCount ∧ ch < 64 ∧ s.Takes q ((SXT_URG.reg cl).addr) ∧ (s.cluster cl).urg ≠ .none)) (⟨.rp, 1⟩) (2) (3) ((State.reset.setCluster 2 { urg := .waiting 1 0 }))) ∧
    ((fun cl slice wait restart ch at_ (s : State) => meets (.urgentStart cl slice wait restart) (cl < Config.clusterCount ∧ (s.cluster cl).urg = .waiting ch at_ ∧ s.urgentSlice cl = some slice ∧ wait = (s.mono - at_) / 5 ∧ restart = s.urgentRestarts cl slice)) (2) (3) (40) (true) (1) (0) (({ (State.reset.put CLK_STATUS.SOURCE 1).setCluster 2 { urg := .waiting 1 0 } with mono := 200 } : State))) ∧
    ((fun cl slice wait restart (s : State) => meets (.urgentStart cl slice wait restart) (wait ≠ (match (s.cluster cl).urg with | .waiting _ at_ => (s.mono - at_) / 5 | _ => wait + 1))) (2) (3) (41) (true) (({ (State.reset.put CLK_STATUS.SOURCE 1).setCluster 2 { urg := .waiting 1 0 } with mono := 200 } : State))) ∧
    ((fun cl (code : BitVec 10) ch slice wait at_ (s : State) => meets (.urgentDone cl code) (cl < 24 ∧ ch < 16 ∧ slice < 8 ∧ (s.cluster cl).urg = .running ch slice wait at_ ∧ s.calConnected cl ch = false ∧ s.get (SXT_CH_WCFG.EN cl ch) = 0)) (2) (77) (1) (4) (600) (12345678901) ((State.reset.setCluster 2 { urg := .running 1 4 600 12345678901 }))) ∧
    ((fun cl ch at_ (s : State) => meets (.urgentTimeout cl) (cl < Config.clusterCount ∧ (s.cluster cl).urg = .waiting ch at_ ∧ at_ + ns 1000 ≤ s.mono)) (2) (1) (0) (({ State.reset.setCluster 2 { urg := .waiting 1 0 } with mono := 2000 } : State))) ∧
    ((fun q cl m (ctrl : Word) (s : State) => meets (.streamGo q cl m ctrl) (cl < Config.clusterCount ∧ m < 2 ∧ s.Takes q ((SXT_STR_CTRL.reg cl m).addr) ∧ s.strBusy cl m = false ∧ ctrl.field 1 1 = 0 ∧ ctrl.field 2 1 = 0 ∧ ctrl.field 3 2 = 0 ∧ Config.chKind cl (ctrl.field 8 6) ≠ .absent ∧ s.active = false ∧ 12 ≤ s.get (SXT_STR_SIZE.LOG2 cl m) ∧ s.get (SXT_STR_SIZE.LOG2 cl m) ≤ 18 ∧ s.get64 (SXT_STR_BASE_LO.BASE cl m) % 2 ^ s.get (SXT_STR_SIZE.LOG2 cl m) = 0 ∧ s.get64 (SXT_STR_BASE_LO.BASE cl m) + 2 ^ s.get (SXT_STR_SIZE.LOG2 cl m) ≤ 262144 ∧ s.get64 SXT_CAPRAM_RETIRE_LO.PAGE = 0 ∧ s.get (SXT_STR_COUNT.COUNT cl m) ≤ 2 ^ 24)) (⟨.rp, 1⟩) (2) (1) (0x0501) (State.reset)) ∧
    ((fun q cl m (ctrl : Word) (s : State) => meets (.streamGo q cl m ctrl) (cl < Config.clusterCount ∧ m < 2 ∧ s.Takes q ((SXT_STR_CTRL.reg cl m).addr) ∧ s.strBusy cl m = false ∧ ctrl.field 1 1 = 0 ∧ ctrl.field 2 1 = 0 ∧ ctrl.field 3 2 = 0 ∧ Config.chKind cl (ctrl.field 8 6) = .absent)) (⟨.rp, 1⟩) (2) (1) (0x3F01) (State.reset)) ∧
    ((fun q cl m (codes : List (BitVec 10)) e (s : State) => meets (.streamStop q cl m codes) (cl < Config.clusterCount ∧ m < 2 ∧ s.Takes q ((SXT_STR_CTRL.reg cl m).addr) ∧ s.strBusy cl m = true ∧ 1 ≤ s.get (SXT_STR_SIZE.LOG2 cl m) ∧ ((s.gatherFrom cl m codes).strComplete cl m = false ∨ (s.gatherFrom cl m codes).lastNow cl m = false) ∧ ((s.gatherFrom cl m codes).cluster cl).str m = e)) (⟨.rp, 1⟩) (2) (1) ([]) ({ gathered := [5], written := 3 }) ((((State.reset.put (SXT_STR_STAT.STATE 2 1) 2).put (SXT_STR_SIZE.LOG2 2 1) 12).setCluster 2 { ss1 := { gathered := [5], written := 3 } }))) ∧
    ((fun q cl m (codes : List (BitVec 10)) (s : State) => meets (.streamStop q cl m codes) (cl < Config.clusterCount ∧ m < 2 ∧ s.Takes q ((SXT_STR_CTRL.reg cl m).addr) ∧ s.strBusy cl m = true ∧ 1 ≤ s.get (SXT_STR_SIZE.LOG2 cl m) ∧ (s.gatherFrom cl m codes).strComplete cl m = true ∧ (s.gatherFrom cl m codes).lastNow cl m = true)) (⟨.rp, 1⟩) (2) (1) ([]) (((((State.reset.put (SXT_STR_STAT.STATE 2 1) 2).put (SXT_STR_SIZE.LOG2 2 1) 12).setCluster 2 { ss1 := { gathered := [5], written := 3, trigAt := some 0 } }).put (SXT_STR_COUNT.COUNT 2 1) 4))) ∧
    ((fun cl m e (codes : List (BitVec 10)) err (s : State) => meets (.streamBurstWritten cl m codes err) (cl < Config.clusterCount ∧ m < 2 ∧ s.get (SXT_STR_STAT.STATE cl m) = 2 ∧ s.get (SXT_STR_CTRL.SRC cl m) = 0 ∧ s.get (SXT_STR_COUNT.COUNT cl m) = 0 ∧ ((s.gather cl m).cluster cl).str m = e ∧ 32 ≤ e.gathered.length ∧ s.get (SXT_STR_CTRL.DEST cl m) = 0)) (2) (1) ({ gathered := List.replicate 40 0x1234, written := 2040 }) ([]) (false) ((((State.reset.put (SXT_STR_STAT.STATE 2 1) 2).put (SXT_STR_SIZE.LOG2 2 1) 12).setCluster 2 { ss1 := { gathered := List.replicate 40 0x1234, written := 2040 } }))) ∧
    ((fun cl m k (x : BitVec 16) e (codes : List (BitVec 10)) err (s : State) => meets (.streamBurstWritten cl m codes err) (cl < Config.clusterCount ∧ m < 2 ∧ s.get (SXT_STR_STAT.STATE cl m) = 2 ∧ s.get (SXT_STR_CTRL.SRC cl m) = 0 ∧ s.get (SXT_STR_COUNT.COUNT cl m) = 0 ∧ ((s.gather cl m).cluster cl).str m = e ∧ 32 ≤ e.gathered.length ∧ s.get (SXT_STR_CTRL.DEST cl m) = 0 ∧ 12 ≤ s.get (SXT_STR_SIZE.LOG2 cl m) ∧ k < 32 ∧ e.gathered[k]? = some x)) (2) (1) (31) (0x1234) ({ gathered := List.replicate 40 0x1234, written := 2040 }) ([]) (false) ((((State.reset.put (SXT_STR_STAT.STATE 2 1) 2).put (SXT_STR_SIZE.LOG2 2 1) 12).setCluster 2 { ss1 := { gathered := List.replicate 40 0x1234, written := 2040 } }))) ∧
    ((fun cl m e (codes : List (BitVec 10)) (s : State) => meets (.streamBurstWritten cl m codes false) (cl < Config.clusterCount ∧ m < 2 ∧ s.get (SXT_STR_STAT.STATE cl m) = 2 ∧ s.get (SXT_STR_CTRL.SRC cl m) = 0 ∧ s.get (SXT_STR_COUNT.COUNT cl m) = 0 ∧ ((s.gather cl m).cluster cl).str m = e ∧ 32 ≤ e.gathered.length ∧ s.get (SXT_STR_CTRL.DEST cl m) = 1 ∧ s.inWindow (s.get64 (SXT_STR_BASE_LO.BASE cl m) + 2 * e.written % 2 ^ s.get (SXT_STR_SIZE.LOG2 cl m)) 64 = true)) (2) (1) ({ gathered := List.replicate 40 0x1234, written := 2040 }) ([]) ((((((State.reset.put (SXT_STR_STAT.STATE 2 1) 2).put (SXT_STR_SIZE.LOG2 2 1) 12).setCluster 2 { ss1 := { gathered := List.replicate 40 0x1234, written := 2040 } }).put (SXT_STR_CTRL.DEST 2 1) 1).put TDM_WIN_LIMIT_LO.LIMIT 0x100000))) ∧
    ((fun cl m e (codes : List (BitVec 10)) (s : State) => meets (.streamBurstWritten cl m codes true) (cl < Config.clusterCount ∧ m < 2 ∧ s.get (SXT_STR_STAT.STATE cl m) = 2 ∧ s.get (SXT_STR_CTRL.SRC cl m) = 0 ∧ s.get (SXT_STR_COUNT.COUNT cl m) = 0 ∧ ((s.gather cl m).cluster cl).str m = e ∧ 32 ≤ e.gathered.length ∧ s.get (SXT_STR_CTRL.DEST cl m) = 1)) (2) (1) ({ gathered := List.replicate 40 0x1234, written := 2040 }) ([]) (((((State.reset.put (SXT_STR_STAT.STATE 2 1) 2).put (SXT_STR_SIZE.LOG2 2 1) 12).setCluster 2 { ss1 := { gathered := List.replicate 40 0x1234, written := 2040 } }).put (SXT_STR_CTRL.DEST 2 1) 1))) ∧
    ((fun cl sample (s : State) => meets (.streamTrigger cl sample) (cl < Config.clusterCount ∧ s.get (SXT_STR_STAT.STATE cl 0) = 1 ∧ s.get (SXT_STR_CTRL.TRIG cl 0) ≠ 1 ∧ (s.cluster cl).ss0.seen = some sample)) (2) (3000) ((((State.reset.put (SXT_STR_STAT.STATE 2 0) 1).put (SXT_STR_CTRL.TRIG 2 0) 2).setCluster 2 { ss0 := { seen := some 3000 } }))) ∧
    ((fun cl sample (s : State) => meets (.streamTrigger cl sample) (cl < Config.clusterCount ∧ s.get (SXT_STR_STAT.STATE cl 0) = 1 ∧ s.get (SXT_STR_CTRL.TRIG cl 0) = 1 ∧ s.get64 (SXT_STR_TTIME_LO.TIME cl 0) ≤ s.sysTime)) (2) (0) (((State.reset.put (SXT_STR_STAT.STATE 2 0) 1).put (SXT_STR_CTRL.TRIG 2 0) 1))) :=
  by
  and_intros
  all_goals decide +kernel

/-- CalibrationAndMaintenanceRun: clauses 1, 2, 3, 4, 5, 6, 7, 8, 9, 10. -/
theorem test_calibrationAndMaintenanceRun :
    ((fun q j (data : Word) k y (s : State) => meets (.sxtMaintWrite q j data) (j < 3 ∧ y = 32 * j + k ∧ y < Config.yardCount ∧ s.Takes q ((SXT_MAINT.YARD j).addr) ∧ changed (s.word (SXT_MAINT.YARD j).addr) data = [k] ∧ tb data.toNat k = true ∧ 3 ≤ s.domState y ∧ s.domStable y = true ∧ (s.yard y).maintHold = false)) (⟨.rp, 1⟩) (1) (2) (1) (33) (State.reset)) ∧
    ((fun q cl (s : State) => meets (.sxtCalZero q cl) (cl < Config.clusterCount ∧ s.Takes q ((SXT_CAL.reg cl).addr) ∧ s.calAllowed cl = true)) (⟨.rp, 1⟩) (2) ((State.reset.put GLB_SERVICE.STATE 3))) ∧
    ((fun q cl (s : State) => meets (.sxtCalZero q cl) (cl < Config.clusterCount ∧ s.Takes q ((SXT_CAL.reg cl).addr) ∧ s.calAllowed cl = false)) (⟨.rp, 1⟩) (2) (State.reset)) ∧
    ((fun q cl (s : State) => meets (.sxtCalFullScale q cl) (cl < Config.clusterCount ∧ s.Takes q ((SXT_CAL.reg cl).addr) ∧ s.get (SXT_CAL.STATE cl) = 2)) (⟨.rp, 1⟩) (24) ((State.reset.put (SXT_CAL.STATE 24) 2))) ∧
    ((fun q cl (s : State) => meets (.sxtCalAbort q cl) (cl < Config.clusterCount ∧ s.Takes q ((SXT_CAL.reg cl).addr) ∧ 1 ≤ s.get (SXT_CAL.STATE cl) ∧ s.get (SXT_CAL.STATE cl) ≤ 3 ∧ (s.cluster cl).calTag = none)) (⟨.rp, 1⟩) (24) ((State.reset.put (SXT_CAL.STATE 24) 3))) ∧
    ((fun cl (mean : Int) ch (s : State) => meets (.syscalChannelDone cl mean) (cl < Config.clusterCount ∧ s.get (SXT_CAL.STATE cl) = 1 ∧ (externalChannels cl).find? (fun c => decide ((s.cluster cl).calCh < c)) = some ch)) (2) (5) (1) ((State.reset.put (SXT_CAL.STATE 2) 1))) ∧
    ((fun cl (mean : Int) (s : State) => meets (.syscalChannelDone cl mean) (cl < Config.clusterCount ∧ s.get (SXT_CAL.STATE cl) = 1 ∧ (externalChannels cl).find? (fun c => decide ((s.cluster cl).calCh < c)) = none ∧ (s.cluster cl).calTag = none)) (2) (5) (((State.reset.put (SXT_CAL.STATE 2) 1).setCluster 2 { calCh := 15 }))) ∧
    ((fun cl (mean : Int) (s : State) => meets (.syscalChannelDone cl mean) (cl < Config.clusterCount ∧ s.get (SXT_CAL.STATE cl) = 3 ∧ (externalChannels cl).find? (fun c => decide ((s.cluster cl).calCh < c)) = none)) (2) (5) (((State.reset.put (SXT_CAL.STATE 2) 3).setCluster 2 { calCh := 15 }))) ∧
    ((fun cl (s : State) => meets (.syscalRecordWritten cl) (cl < Config.clusterCount ∧ s.get (SXT_CAL.STATE cl) = 4 ∧ (s.cluster cl).calTag = none)) (2) ((State.reset.put (SXT_CAL.STATE 2) 4))) ∧
    ((fun cl (s : State) => meets (.syscalTimeout cl) (cl < Config.clusterCount ∧ s.get (SXT_CAL.STATE cl) = 2 ∧ (s.cluster cl).calTag = none)) (2) ((State.reset.put (SXT_CAL.STATE 2) 2))) :=
  by
  and_intros
  all_goals decide +kernel

/-- FarrierPlansAndCommits: clauses 1, 2, 3, 4, 5, 6, 7, 8, 9. -/
theorem test_farrierPlansAndCommits :
    ((fun q y (points : BitVec 4) (s : State) => meets (.farSusclrGo q y points) (y < Config.yardCount ∧ s.Takes q (FAR_SUSCLR.reg.addr) ∧ ((List.range 4).filter (tb points.toNat)).all (fun p => (s.clearSuspect y p).2) = true)) (⟨.rp, 1⟩) (5) (2) (((State.reset.put (YRD_FB.SUSPECT 5) 3).setYard 5 { pts := [{}, { inRun := 100000 }, {}, {}] }))) ∧
    ((fun y (s : State) => meets (.zpathWindow y) (y < Config.yardCount ∧ s.get (YRD_FB.SUSPECT y) = 0 ∧ (s.yard y).pts.all (fun p => decide (p.n < 1000)) = true)) (5) ((State.reset.setYard 5 { pts := [{ n := 5, si := 7 }, {}, {}, {}] }))) ∧
    ((fun (s : State) => meets (.farPlanPeriodic) (s.on FAR_CTRL.AUTO = true ∧ s.inWayOn = true ∧ s.far = .idle ∧ s.get FAR_STATUS.STATE = 0 ∧ s.planPostponed = false)) (((State.reset.put GLB_SERVICE.STATE 3).put FAR_CTRL.AUTO 1))) ∧
    ((fun q (s : State) => meets (.farCtrlGo q) (s.Takes q (FAR_CTRL.reg.addr) ∧ s.inWayOn = true ∧ s.far = .idle ∧ s.get FAR_STATUS.STATE = 0 ∧ s.planPostponed = false)) (⟨.rp, 1⟩) ((State.reset.put GLB_SERVICE.STATE 3))) ∧
    ((fun q (s : State) => meets (.farCtrlGo q) (s.Takes q (FAR_CTRL.reg.addr) ∧ s.far ≠ .idle)) (⟨.rp, 1⟩) (({ State.reset with far := .writing } : State))) ∧
    ((fun (s : State) => meets (.farPlanComputed) (s.far = .planning ∧ s.inWayOn = true ∧ s.courseHeld = false)) (({ (State.reset.put GLB_SERVICE.STATE 3) with far := .planning } : State))) ∧
    ((fun (s : State) => meets (.farRecordCommit false) (s.far = .writing ∧ s.inWayOn = true ∧ s.courseHeld = false ∧ s.farTag = none)) (({ (State.reset.put GLB_SERVICE.STATE 3) with far := .writing } : State))) ∧
    ((fun (s : State) => meets (.farRecordCommit true) (s.far = .idle ∧ s.farDirty = true)) (({ State.reset with farDirty := true } : State))) ∧
    ((fun b mw (s : State) => meets (.lossProbe b mw) (s.probeAllowed b = true)) (70) (90) (({ ((yard5Running.setBay 70 { yard5Running.bay 70 with lossBase := 80 }).setYard 5 { yard5Running.yard 5 with quietAt := some 0 }) with mono := 300000 } : State))) :=
  by
  and_intros
  all_goals decide +kernel

/-- DomainsFollowOrdersAndSignals: clauses 1, 2, 3, 4, 5, 6, 7, 8, 9, 10, 11, 12, 13, 14. -/
theorem test_domainsFollowOrdersAndSignals :
    ((fun q d st (s : State) => meets (.pwsReqGo q d st) (d < Config.yardCount ∧ 4 < st ∧ st < 8 ∧ s.Takes q (PWS_REQ.reg.addr) ∧ (s.dom d).wakePin = false)) (⟨.rp, 1⟩) (5) (6) (State.reset)) ∧
    ((fun q d st (s : State) => meets (.pwsReqGo q d st) (d < Config.yardCount ∧ st < 8 ∧ s.Takes q (PWS_REQ.reg.addr) ∧ s.orderRefusal d st (orderSrc (clsOf q)) = none ∧ (s.dom d).order = none ∧ (s.dom d).step ≠ .stable)) (⟨.mp, 0⟩) (5) (4) ((State.reset.setDom 5 { step := .ramp }))) ∧
    ((fun q d (s : State) => meets (.pwsReqGo q d 1) (d < Config.yardCount ∧ s.Takes q (PWS_REQ.reg.addr) ∧ s.orderRefusal d 1 (orderSrc (clsOf q)) = none ∧ s.domStable d = true ∧ s.domState d = 0 ∧ s.on (PWS_DOM.ISO d) = false ∧ (s.dom d).isoAck = false)) (⟨.rp, 1⟩) (5) ((((State.reset.put (PWS_DOM.STATE 5) 0).put (PWS_DOM.ISO 5) 0).setDom 5 { isoAck := false }))) ∧
    ((fun d (s : State) => meets (.domainWakePin d false) (d < Config.yardCount)) (5) (State.reset)) ∧
    ((fun d (s : State) => meets (.domainWakePin d true) (d < Config.yardCount ∧ s.on (Fld.bit PWS_WAKE_EN.DOMAIN d) = true ∧ s.domStable d = true ∧ s.domState d = 1 ∧ s.orderRefusal d 0 .wakePin = none ∧ (s.dom d).reg = true ∧ (s.dom d).oscEn = true ∧ (s.dom d).memEn = true ∧ (s.dom d).rstN = true ∧ (s.dom d).ret = false ∧ s.on (PWS_DOM.ISO d) = true ∧ (s.dom d).isoAck = true)) (5) (((((State.reset.put (PWS_DOM.STATE 5) 1).put (PWS_DOM.TARGET 5) 1).put (Fld.bit PWS_WAKE_EN.DOMAIN 5) 1).setDom 5 { reg := true, oscEn := true, memEn := true, rstN := true }))) ∧
    ((fun d (s : State) => meets (.wakeDriverBias d) ((s.dom d).step = .bias ∧ s.goesUp d = true)) (5) ((((State.reset.put (PWS_DOM.TARGET 5) 0).put (BAY_STATE.STATE 60) 2).setDom 5 { step := .bias }))) ∧
    ((fun d (s : State) => meets (.wakeBiasSettle d) ((s.dom d).step = .biasSettle ∧ s.goesUp d = true)) (5) (((State.reset.put (PWS_DOM.TARGET 5) 0).setDom 5 { step := .biasSettle }))) ∧
    ((fun y b (s : State) => meets (.slewEnd y) (y < Config.yardCount ∧ b ∈ reach y ∧ (s.bay b).yard = y ∧ (s.bay b).followsSet = true ∧ (s.bay b).holding = false ∧ (s.bay b).allHands = false ∧ s.bayCode b = ((s.bay b).target : Int) ∧ (s.dom y).step ≠ .ramp ∧ (s.dom y).step ≠ .dnRamp)) (5) (60) (((State.reset.put (BAY_REF.VID_NOW 60) 333).setBay 60 { State.reset.bay 60 with st := .run, target := 333 }))) ∧
    ((fun d sig level (s : State) => meets (.domainReadyInput d sig level) (d < Config.yardCount ∧ (s.modDom d fun m => m.signal sig level).stepDone d = false)) (5) (.oscRdy) (true) (State.reset)) ∧
    ((fun d o (s : State) => meets (.domainReadyInput d .isoAck false) (d < Config.yardCount ∧ (s.dom d).step = .isolation ∧ s.get (PWS_DOM.TARGET d) = 0 ∧ s.on (PWS_DOM.ISO d) = false ∧ (s.dom d).reg = true ∧ (s.dom d).oscEn = true ∧ (s.dom d).memEn = true ∧ (s.dom d).rstN = true ∧ (s.dom d).ret = false ∧ (s.dom d).order = some o ∧ (s.dom d).wake = true ∧ o.byReg = false ∧ o.tag = none ∧ (s.yard d).held = [])) (5) (⟨0, .kernReg, 7, false, false, none, []⟩) ((((State.reset.put (PWS_DOM.TARGET 5) 0).put (PWS_DOM.ISO 5) 0).setDom 5 { step := .isolation, reg := true, oscEn := true, memEn := true, rstN := true, wake := true, order := some ⟨0, .kernReg, 7, false, false, none, []⟩ }))) ∧
    ((fun d o (s : State) => meets (.pwsWakeTimeout d) (d < Config.yardCount ∧ (s.dom d).step.waitsUp = true ∧ (s.dom d).forced = false ∧ (s.dom d).order = some o)) (5) (⟨0, .kernReg, 7, false, false, none, []⟩) ((State.reset.setDom 5 { step := .oscillator, order := some ⟨0, .kernReg, 7, false, false, none, []⟩ }))) ∧
    ((fun d o (s : State) => meets (.pwsIsoTimeout d) (d < Config.yardCount ∧ (s.dom d).step = .dnIso ∧ (s.dom d).forced = false ∧ (s.dom d).order = some o)) (5) (⟨0, .kernReg, 7, false, false, none, []⟩) ((State.reset.setDom 5 { step := .dnIso, order := some ⟨0, .kernReg, 7, false, false, none, []⟩ }))) ∧
    ((fun d o (s : State) => meets (.pwsSaveTimeout d) (d < Config.yardCount ∧ (s.dom d).step.waitsSave = true ∧ (s.dom d).forced = false ∧ (s.dom d).order = some o)) (5) (⟨0, .kernReg, 7, false, false, none, []⟩) ((State.reset.setDom 5 { step := .dnMem, order := some ⟨0, .kernReg, 7, false, false, none, []⟩ }))) ∧
    ((fun d sig (s : State) => meets (.pwsRdyLost d sig) (d < Config.yardCount ∧ s.domState d ≤ 1 ∧ s.atRest d = true ∧ ((sig = .oscRdy ∧ (s.dom d).oscRdy = false ∨ sig = .memRdy ∧ (s.dom d).memRdy = false ∨ sig = .logicRdy ∧ (s.dom d).logicRdy = false ∨ sig = .isoAck ∧ (s.dom d).isoAck = true ∧ s.domState d = 0)))) (5) (.memRdy) ((State.reset.put (PWS_DOM.STATE 5) 0))) :=
  by
  and_intros
  all_goals decide +kernel

/-- CapLoopAndCurrentLayersAct: clauses 1, 2. -/
theorem test_capLoopAndCurrentLayersAct :
    ((fun p (s : State) => meets (.capLoopBoundary false) (s.inWayOn = true ∧ s.courseHeld = false ∧ s.cap.defer = none ∧ s.get CAP_MODE.MODE = s.get CAP_STATUS.MODE_NOW ∧ p = ((List.range Config.yardCount).map s.yardMw).sum + ((List.range Config.yardCount).map s.yardHeat).sum)) (((List.range Config.yardCount).map ((State.reset.put GLB_SERVICE.STATE 3).setYard 3 { pSum := 900000, pCnt := 4 }).yardMw).sum + ((List.range Config.yardCount).map ((State.reset.put GLB_SERVICE.STATE 3).setYard 3 { pSum := 900000, pCnt := 4 }).yardHeat).sum) ((((State.reset.put GLB_SERVICE.STATE 3).put CAP_MODE.MODE ((State.reset.put GLB_SERVICE.STATE 3).get CAP_STATUS.MODE_NOW)).setYard 3 { pSum := 900000, pCnt := 4 }))) ∧
    ((fun (s : State) => meets (.capLoopBoundary true) (s.inWayOn = true)) ((State.reset.put GLB_SERVICE.STATE 3))) :=
  by
  and_intros
  all_goals decide +kernel

/-- JobsAndEnergyAreAccounted: clauses 1, 2, 3, 4, 5, 6, 7, 8, 9, 10. -/
theorem test_jobsAndEnergyAreAccounted :
    ((fun q c tag (s : State) => meets (.capJobBegin q c tag) (c < 64 ∧ tag < 65536 ∧ clsOf q = .kern ∧ s.Takes q (CAP_JOB.reg.addr) ∧ s.openJob c = none ∧ s.confidential c = false ∧ s.wasActive = s.active)) (⟨.rp, 1⟩) (7) (300) (State.reset)) ∧
    ((fun q c tag j (s : State) => meets (.capJobBegin q c tag) (c < 64 ∧ tag < 65536 ∧ clsOf q = .kern ∧ s.Takes q (CAP_JOB.reg.addr) ∧ s.openJob c = some j)) (⟨.rp, 1⟩) (7) (300) ({ id := 4, ctx := 7, tag := 1, begin_ := 0 }) (({ State.reset with jobs := [{ id := 4, ctx := 7, tag := 1, begin_ := 0 }] } : State))) ∧
    ((fun q c tag j (s : State) => meets (.capJobEnd q c tag) (c < 64 ∧ tag < 65536 ∧ clsOf q = .kern ∧ s.Takes q (CAP_JOB.reg.addr) ∧ s.openJob c = some j ∧ s.confidential c = false ∧ s.wasActive = s.active)) (⟨.rp, 1⟩) (7) (300) ({ id := 4, ctx := 7, tag := 1, begin_ := 0 }) (({ State.reset with jobs := [{ id := 4, ctx := 7, tag := 1, begin_ := 0 }] } : State))) ∧
    ((fun q c tag (s : State) => meets (.capJobEnd q c tag) (c < 64 ∧ tag < 65536 ∧ clsOf q = .kern ∧ s.Takes q (CAP_JOB.reg.addr) ∧ s.openJob c = none)) (⟨.rp, 1⟩) (7) (300) (State.reset)) ∧
    ((fun j r (s : State) => meets (.jobRecord) (s.jobs.find? (fun j => !j.isOpen) = some j ∧ j.conf = false ∧ (s.stream 1).staged.length < 16 ∧ (s.stream 1).lost = 0 ∧ r = ⟨tdmRecord 0x0021 (jobFlags j) (jobBody j j.e j.ePriv j.eShared (match s.attrSlot with | some k => s.get (DRE_SLOT_ID.MODEL_ID k) | none => 0) s.recSeq (min 65535 (j.peak / 1000))), some j.ctx, none⟩ ∧ stagedBytes ((s.stream 1).staged ++ [r]) ≤ 4096)) ({ id := 4, ctx := 7, tag := 1, isOpen := false, begin_ := 0, end_ := 77, e := 5 }) (⟨tdmRecord 0x0021 (jobFlags ({ id := 4, ctx := 7, tag := 1, isOpen := false, begin_ := 0, end_ := 77, e := 5 } : JobState)) (jobBody ({ id := 4, ctx := 7, tag := 1, isOpen := false, begin_ := 0, end_ := 77, e := 5 } : JobState) ({ id := 4, ctx := 7, tag := 1, isOpen := false, begin_ := 0, end_ := 77, e := 5 } : JobState).e ({ id := 4, ctx := 7, tag := 1, isOpen := false, begin_ := 0, end_ := 77, e := 5 } : JobState).ePriv ({ id := 4, ctx := 7, tag := 1, isOpen := false, begin_ := 0, end_ := 77, e := 5 } : JobState).eShared (match State.reset.attrSlot with | some k => State.reset.get (DRE_SLOT_ID.MODEL_ID k) | none => 0) State.reset.recSeq (min 65535 (({ id := 4, ctx := 7, tag := 1, isOpen := false, begin_ := 0, end_ := 77, e := 5 } : JobState).peak / 1000))), some ({ id := 4, ctx := 7, tag := 1, isOpen := false, begin_ := 0, end_ := 77, e := 5 } : JobState).ctx, none⟩) (({ State.reset with jobs := [{ id := 4, ctx := 7, tag := 1, isOpen := false, begin_ := 0, end_ := 77, e := 5 }] } : State))) ∧
    ((fun j (s : State) => meets (.jobRecord) (s.jobs.find? (fun j => !j.isOpen) = some j ∧ j.conf = false ∧ 16 ≤ (s.stream 1).staged.length)) ({ id := 4, ctx := 7, tag := 1, isOpen := false, begin_ := 0, end_ := 77, e := 5 }) ((({ State.reset with jobs := [{ id := 4, ctx := 7, tag := 1, isOpen := false, begin_ := 0, end_ := 77, e := 5 }] } : State).setStream 1 { staged := List.replicate 16 ⟨[], none, none⟩ }))) ∧
    ((fun y tmp (s : State) => meets (.attributionIntervalClose y) (y < Config.yardCount ∧ Config.isPrivate y = true ∧ s.inWayOn = true ∧ s.yardT y = some tmp ∧ (s.yard y).closed.length < 4 ∧ (s.yard y).open_.n ≠ 0)) (5) ((State.reset.yardT 5).getD 0) (((State.reset.put GLB_SERVICE.STATE 3).setYard 5 { open_ := { n := 3 } }))) ∧
    ((fun k y i (s : State) => meets (.attributionRun) (s.dreOn = true ∧ s.fly = none ∧ s.due = [] ∧ s.attrSlot = some k ∧ s.oldestClosed = some y ∧ (s.yard y).closed.head? = some i)) (7) (3) ({ owner := 7, us := 9, n := 1 }) ((((((State.reset.put GLB_SERVICE.STATE 3).put DRE_CTRL.RUN 1).put (DRE_SLOT_STAT.VALID 7) 1).put (DRE_SLOT_STAT.KIND 7) 1).setYard 3 { closed := [{ owner := 7, us := 9, n := 1 }] }))) ∧
    ((fun p e (s : State) => meets (.settlement) (1000000 ≤ s.sysTime ∧ s.inWayOn = false ∧ p = s.sysTime / 1000000 - 1 ∧ e = (List.range 2).foldl (fun e r => e + railMicro (takePeriods p (s.rail r).eSum).1 + railMicro (takePeriods p (s.rail r).uSum).1) 0)) (1) (3) ((({ State.reset with sysTime := 2500000 } : State).setRail 0 { eSum := [(0, 480000), (1, 100000), (2, 999999)] }))) ∧
    ((fun p e (s : State) => meets (.settlement) (1000000 ≤ s.sysTime ∧ s.inWayOn = true ∧ s.estimates = [] ∧ (List.range Config.yardCount).all (fun y => (s.yard y).closed == []) = true ∧ p = s.sysTime / 1000000 - 1 ∧ e = (List.range 2).foldl (fun e r => e + railMicro (takePeriods p (s.rail r).eSum).1 + railMicro (takePeriods p (s.rail r).uSum).1) 0)) (1) (3) ((({ (State.reset.put GLB_SERVICE.STATE 3) with sysTime := 2500000 } : State).setRail 0 { eSum := [(0, 480000), (1, 100000), (2, 999999)] }))) :=
  by
  and_intros
  all_goals decide +kernel

/-- ThermalScanReadsAndTrips: clauses 1, 2, 3, 4, 5. -/
theorem test_thermalScanReadsAndTrips :
    ((fun temps (s : State) => meets (.thermalScan temps) ((temps.map (·.1)).Nodup ∧ temps.all (fun p => decide (p.1 < sensorCount)) = true)) ([(0, 400), (7, 0xF000), (300, 9999)]) (State.reset)) ∧
    ((fun temps (u s : State) => meets (.thermalScan temps) ((temps.map (·.1)).Nodup ∧ u = temps.foldl (fun s p => s.readSensor p.1 p.2.toInt) s ∧ (List.range sensorCount).all (fun k => u.suspect k || (decide (u.sensor k < (16 * u.warnC k : Nat)) && decide (u.sensor k < (16 * u.critC k : Nat)))) = true ∧ (List.range Config.yardCount).all (fun d => !s.coldStart d) = true ∧ s.proof = none)) ([(0, 400), (7, 0xF000)]) ([(0, (400 : BitVec 16)), (7, 0xF000)].foldl (fun (s : State) p => s.readSensor p.1 p.2.toInt) State.reset) (State.reset)) ∧
    ((fun temps k (u s : State) => meets (.thermalScan temps) ((temps.map (·.1)).Nodup ∧ u = temps.foldl (fun s p => s.readSensor p.1 p.2.toInt) s ∧ k < sensorCount ∧ s.suspect k = false ∧ (u.readings (sensorNeighbours k)).length < 3 ∧ ((16 * u.critC k : Nat) : Int) ≤ u.sensor k ∧ Tab.get (fun _ => 0) s.critRun k = 1 ∧ s.on THM_STATUS.TRIP = false)) ([(9, 2000)]) (9) ([(9, (2000 : BitVec 16))].foldl (fun (s : State) p => s.readSensor p.1 p.2.toInt) lastTrustedSensor) (lastTrustedSensor)) ∧
    ((fun d (s : State) => meets (.thmCold d) (d < Config.yardCount ∧ s.coldStart d = true ∧ (s.dom d).wakePin = false)) (70) ((State.reset.setDom 70 { step := .warming, from_ := 4, reg := true, oscEn := true }))) ∧
    ((fun diode (s : State) => meets (.compensationUpdate diode) (-640 ≤ diode ∧ diode ≤ 2000)) (400) (State.reset)) :=
  by
  and_intros
  all_goals decide +kernel

/-- WarmingFollowsItsOrders: clauses 1, 2, 3, 4, 5, 6, 7, 8, 9. -/
theorem test_warmingFollowsItsOrders :
    ((fun q y (s : State) => meets (.thmProofGo q y) (y < Config.yardCount ∧ s.Takes q (THM_PROOF.reg.addr) ∧ s.proof = none ∧ s.inWayOn = true ∧ s.mayHeat y = true)) (⟨.rp, 1⟩) (5) (yard5Running)) ∧
    ((fun q y (s : State) => meets (.thmProofGo q y) (y < 128 ∧ s.Takes q (THM_PROOF.reg.addr) ∧ ((s.proof ≠ none ∨ s.inWayOn = false ∨ s.mayHeat y = false)))) (⟨.rp, 1⟩) (5) ((State.reset.put GLB_SERVICE.STATE 3))) ∧
    ((fun y (s : State) => meets (.sensorProofAuto y) (s.proofDue y = true ∧ s.proof = none ∧ s.inWayOn = true ∧ s.mayHeat y = true)) (5) (({ yard5Running with wayOnAt := some 0 } : State))) ∧
    ((fun y (s : State) => meets (.sensorProofEnd) (y < Config.yardCount ∧ s.proof = some y)) (5) (({ yard5Running with proof := some 5 } : State))) ∧
    ((fun q y target (s : State) => meets (.thmPrecondGo q y target) (y < Config.yardCount ∧ target < 128 ∧ s.Takes q (THM_PRECOND.reg.addr) ∧ s.precond = none ∧ s.on (Fld.bit SXT_MAINT_NOW.YARD y) = true)) (⟨.rp, 1⟩) (5) (60) ((State.reset.put (Fld.bit SXT_MAINT_NOW.YARD 5) 1))) ∧
    ((fun q y target (s : State) => meets (.thmPrecondGo q y target) (y < Config.yardCount ∧ target < 128 ∧ s.Takes q (THM_PRECOND.reg.addr) ∧ s.precond = none ∧ s.on (Fld.bit SXT_MAINT_NOW.YARD y) = false)) (⟨.rp, 1⟩) (5) (60) (State.reset)) ∧
    ((fun q y (s : State) => meets (.thmPrecondStop q) (s.Takes q (THM_PRECOND.reg.addr) ∧ s.precond = some y ∧ s.get THM_PRECOND.GO = 0)) (⟨.rp, 1⟩) (5) (({ (State.reset.put THM_PRECOND.RESULT 3).setYard 5 { warmUse := 3 } with precond := some 5 } : State))) ∧
    ((fun (s : State) => meets (.warmingLevelStep) (s.precond = none ∧ s.stationWarms = true)) ((((State.reset.put GLB_SERVICE.STATE 3).put CAP_STATUS.MODE_NOW 2).put THM_WARM_CTRL.STATION_EN 1))) ∧
    ((fun (s : State) => meets (.warmingLevelStep) (s.precond = none ∧ s.stationWarms = false)) ((State.reset.setYard 5 { warmUse := 4 }))) :=
  by
  and_intros
  all_goals decide +kernel

/-- RailsStartStopAndSlew: clauses 1, 2, 3, 4, 5, 6, 7, 8, 9, 10, 11, 12, 13, 14, 15, 16. -/
theorem test_railsStartStopAndSlew :
    ((fun q r (s : State) => meets (.stgRailOnSet q r) (r < 2 ∧ s.Takes q ((STG_RAIL.reg r).addr) ∧ clsOf q = .mgmt ∧ s.tracking = false ∧ s.get (STG_RAIL.STATE r) = 0 ∧ s.railPhases r ≠ [] ∧ s.on THM_STATUS.TRIP = false)) (⟨.mp, 0⟩) (1) (((State.reset.put STG_PRESENT.PHASE 3).put STG_RAILMAP.PKGB 2))) ∧
    ((fun q r (s : State) => meets (.stgRailOnClear q r) (r < 2 ∧ s.Takes q ((STG_RAIL.reg r).addr) ∧ clsOf q = .mgmt ∧ s.tracking = false ∧ s.get (STG_RAIL.STATE r) = 3 ∧ (List.range Config.yardCount).all (fun d => Config.yardRail d != r || (s.domState d == 4 && s.domStable d)) = true)) (⟨.mp, 0⟩) (1) ((((State.reset.put STG_PRESENT.PHASE 3).put STG_RAILMAP.PKGB 2).put (STG_RAIL.STATE 1) 3))) ∧
    ((fun q r d (s : State) => meets (.stgRailOnClear q r) (r < 2 ∧ s.Takes q ((STG_RAIL.reg r).addr) ∧ clsOf q = .mgmt ∧ s.tracking = false ∧ s.get (STG_RAIL.STATE r) = 3 ∧ d < Config.yardCount ∧ Config.yardRail d = r ∧ s.domState d ≠ 4)) (⟨.mp, 0⟩) (Config.yardRail 5) (5) (((((State.reset.put STG_PRESENT.PHASE 3).put STG_RAILMAP.PKGB 2).put (STG_RAIL.STATE (Config.yardRail 5)) 3).put (PWS_DOM.STATE 5) 0))) ∧
    ((fun r (s : State) => meets (.railDelayEnd r) (r < 2 ∧ s.tracking = false ∧ s.get (STG_RAIL.STATE r) = 1)) (1) ((((State.reset.put STG_PRESENT.PHASE 3).put STG_RAILMAP.PKGB 2).put (STG_RAIL.STATE 1) 1))) ∧
    ((fun r (s : State) => meets (.railDelayEnd r) (r < 2 ∧ s.tracking = false ∧ s.get (STG_RAIL.STATE r) = 4)) (1) (((((State.reset.put STG_PRESENT.PHASE 3).put STG_RAILMAP.PKGB 2).put (STG_RAIL.STATE 1) 4).setRail 1 { vref := 3000 }))) ∧
    ((fun r (s : State) => meets (.railRampEnd r) (r < 2 ∧ s.get (STG_RAIL.STATE r) = 2 ∧ s.rampMet r = true)) (1) ((((((State.reset.put STG_PRESENT.PHASE 3).put STG_RAILMAP.PKGB 2).put (STG_RAIL.STATE 1) 2).put (STG_VOUT.CODE 1) 400).setRail 1 { vref := 3200 }))) ∧
    ((fun r (s : State) => meets (.railRampEnd r) (r < 2 ∧ s.tracking = false ∧ s.get (STG_RAIL.STATE r) = 5 ∧ s.vrefNow r = 0 ∧ s.vsns r < 160)) (1) (((((State.reset.put STG_PRESENT.PHASE 3).put STG_RAILMAP.PKGB 2).put (STG_RAIL.STATE 1) 5).setPhase 1 { pulse := true }))) ∧
    ((fun q r c (s : State) => meets (.stgVoutWrite q r c) (r < 2 ∧ s.Takes q ((STG_VOUT.reg r).addr) ∧ c < 1024 ∧ s.voutOk r c = true)) (⟨.rp, 1⟩) (1) (400) ((((State.reset.put STG_PRESENT.PHASE 3).put STG_RAILMAP.PKGB 2).put (STG_RAIL.STATE 1) 3))) ∧
    ((fun q r c (s : State) => meets (.stgVoutWrite q r c) (r < 2 ∧ s.Takes q ((STG_VOUT.reg r).addr) ∧ 320 ≤ c ∧ c ≤ 760 ∧ s.voutOk r c = false)) (⟨.rp, 1⟩) (Config.yardRail 5) (330) (((((State.reset.put STG_PRESENT.PHASE 3).put STG_RAILMAP.PKGB 2).put (PWS_DOM.STATE 5) 0).put (YRD_VID.TARGET 5) 500))) ∧
    ((fun r (s : State) => meets (.pgSet r) (r < 2 ∧ s.get (STG_RAIL.STATE r) = 3 ∧ s.vsnsWithin r 3 = true ∧ tb (s.get STG_STATUS.PG) r = false)) (1) ((((State.reset.put STG_PRESENT.PHASE 3).put STG_RAILMAP.PKGB 2).put (STG_RAIL.STATE 1) 3))) ∧
    ((fun r (s : State) => meets (.stgPgLost r) (r < 2 ∧ s.get (STG_RAIL.STATE r) = 3 ∧ s.vsnsWithin r 8 = false ∧ tb (s.get STG_STATUS.PG) r = true)) (1) ((((((State.reset.put STG_PRESENT.PHASE 3).put STG_RAILMAP.PKGB 2).put (STG_RAIL.STATE 1) 3).put STG_STATUS.PG 2).setRail 1 { vref := 3200 }))) ∧
    ((fun r p (s : State) => meets (.phaseFire r) (r < 2 ∧ s.pwmDrives r = true ∧ (s.rail r).fireAt.all (fun u => decide (u + s.stagger r ≤ s.mono)) = true ∧ s.nextFire r = some p)) (1) (1) (((((State.reset.put STG_PRESENT.PHASE 3).put STG_RAILMAP.PKGB 2).put (STG_RAIL.STATE 1) 3).put (STG_PH.IN_SERVICE 1) 1))) ∧
    ((fun p (s : State) => meets (.pulseEnd p) ((s.phase p).pulse = true)) (1) ((((State.reset.put STG_PRESENT.PHASE 3).put STG_RAILMAP.PKGB 2).setPhase 1 { pulse := true, scRun := 3 }))) ∧
    ((fun r (s : State) => meets (.brakeEnter r) (r < 2 ∧ s.brakeArmed r = true ∧ (s.rail r).braking = false)) (1) ((((State.reset.put STG_PRESENT.PHASE 3).put STG_RAILMAP.PKGB 2).put (STG_RAIL.STATE 1) 3))) ∧
    ((fun r (s : State) => meets (.brakeExit r) (r < 2)) (1) ((((State.reset.put STG_PRESENT.PHASE 3).put STG_RAILMAP.PKGB 2).setRail 1 { braking := true }))) ∧
    ((fun (s : State) => meets (.balUpdate) (s.onPll = true)) ((State.reset.put CLK_STATUS.SOURCE 1))) :=
  by
  and_intros
  all_goals decide +kernel

/-- BoardProtectionsAct: clauses 1, 2, 3, 4, 5, 6, 7, 9, 10, 11, 12, 13, 14. -/
theorem test_boardProtectionsAct :
    ((fun p (s : State) => meets (.shortCircuitTrip p) (s.present p = true ∧ p < 30 ∧ (s.phase p).pulse = true ∧ (s.phase p).tripped = false ∧ (s.phase p).scRun ≠ 7)) (1) ((((State.reset.put STG_PRESENT.PHASE 3).put STG_RAILMAP.PKGB 2).setPhase 1 { pulse := true, scRun := 6 }))) ∧
    ((fun p (s : State) => meets (.shortCircuitTrip p) (s.present p = true ∧ p < 30 ∧ (s.phase p).pulse = true ∧ (s.phase p).tripped = false ∧ (s.phase p).scRun = 7)) (1) ((((State.reset.put STG_PRESENT.PHASE 3).put STG_RAILMAP.PKGB 2).setPhase 1 { pulse := true, scRun := 7 }))) ∧
    ((fun p avg (s : State) => meets (.overloadEval p) (s.present p = true ∧ p < 30 ∧ (s.phase p).oCnt ≠ 0 ∧ avg = roundDiv (s.phase p).oSum (s.phase p).oCnt ∧ -32768 ≤ avg ∧ avg < 32768 ∧ s.ovlTh p < 100 * avg ∧ s.on (STG_PH.OVERLOAD p) = false)) (1) (1600) ((((State.reset.put STG_PRESENT.PHASE 3).put STG_RAILMAP.PKGB 2).setPhase 1 { oSum := 16000, oCnt := 10 }))) ∧
    ((fun p avg (s : State) => meets (.overloadEval p) (s.present p = true ∧ p < 30 ∧ (s.phase p).oCnt ≠ 0 ∧ avg = roundDiv (s.phase p).oSum (s.phase p).oCnt ∧ -32768 ≤ avg ∧ avg < 32768 ∧ 100 * avg ≤ s.ovlTh p)) (1) (-5) ((((State.reset.put STG_PRESENT.PHASE 3).put STG_RAILMAP.PKGB 2).setPhase 1 { oSum := -5, oCnt := 1 }))) ∧
    ((fun r u (s : State) => meets (.hiccup r) (r < 2 ∧ s.tracking = false ∧ s.overloaded r = true ∧ (s.rail r).ovlSince = some u ∧ u + ns 10000000 ≤ s.mono ∧ ((s.get (STG_RAIL.STATE r) = 2 ∨ s.get (STG_RAIL.STATE r) = 3 ∨ s.get (STG_RAIL.STATE r) = 4)) ∧ s.get (STG_RAIL_STAT.TRIES r) < 3 ∧ s.get (STG_RAIL.OFF_PENDING r) = 0)) (1) (0) (({ ((((State.reset.put STG_PRESENT.PHASE 3).put STG_RAILMAP.PKGB 2).put (STG_RAIL.STATE 1) 3).put (STG_PH.OVERLOAD 1) 1).setRail 1 { ovlSince := some 0 } with mono := 30000000 } : State))) ∧
    ((fun r u (s : State) => meets (.hiccup r) (r < 2 ∧ s.tracking = false ∧ s.overloaded r = true ∧ (s.rail r).ovlSince = some u ∧ u + ns 10000000 ≤ s.mono ∧ ((s.get (STG_RAIL.STATE r) = 2 ∨ s.get (STG_RAIL.STATE r) = 3 ∨ s.get (STG_RAIL.STATE r) = 4)) ∧ s.get (STG_RAIL_STAT.TRIES r) = 3)) (1) (0) (({ ((((State.reset.put STG_PRESENT.PHASE 3).put STG_RAILMAP.PKGB 2).put (STG_RAIL.STATE 1) 3).put (STG_PH.OVERLOAD 1) 1).put (STG_RAIL_STAT.TRIES 1) 3 |>.setRail 1 { ovlSince := some 0 } with mono := 30000000 } : State))) ∧
    ((fun r (s : State) => meets (.hiccupRestart r) (r < 2 ∧ s.tracking = false ∧ s.get (STG_RAIL.STATE r) = 6 ∧ s.on THM_STATUS.TRIP = false)) (1) ((((State.reset.put STG_PRESENT.PHASE 3).put STG_RAILMAP.PKGB 2).put (STG_RAIL.STATE 1) 6))) ∧
    ((fun (s : State) => meets (.stgFltStuck) (s.fltAt.isSome = true ∧ s.fltDeclared = false)) (({ ((State.reset.put STG_PRESENT.PHASE 3).put STG_RAILMAP.PKGB 2) with fltAt := some 0 } : State))) ∧
    ((fun (s : State) => meets (.stgFltStuck) (s.fltDeclared = true)) (({ ((State.reset.put STG_PRESENT.PHASE 3).put STG_RAILMAP.PKGB 2) with fltAt := some 0, fltDeclared := true } : State))) ∧
    ((fun q (data : Word) (s : State) => meets (.stgPhclrWrite q data) (s.Takes q (STG_PHCLR.reg.addr) ∧ data.toNat < 2 ^ 30)) (⟨.rp, 1⟩) (2) (((((State.reset.put STG_PRESENT.PHASE 3).put STG_RAILMAP.PKGB 2).put (STG_PH.LATCHED 1) 1).setPhase 1 { scRun := 8 }))) ∧
    ((fun (s : State) => meets (.stgIbus) (((s.ibus < 2160 ∨ 3000 < s.ibus)))) (({ State.reset with ibus := 2000 } : State))) ∧
    ((fun (s : State) => meets (.stgIbusUv) (s.ibus < 1800 ∧ s.ibusLow = false ∧ s.get (STG_RAIL.OFF_PENDING 0) = 0 ∧ s.get (STG_RAIL.OFF_PENDING 1) = 0)) (({ (((State.reset.put STG_PRESENT.PHASE 3).put STG_RAILMAP.PKGB 2).put (STG_RAIL.STATE 1) 3) with ibus := 1000 } : State))) ∧
    ((fun (s : State) => meets (.ibusRecovery) (2000 < s.ibus ∧ s.ibusLow = true ∧ s.on THM_STATUS.TRIP = false)) (({ (((State.reset.put STG_PRESENT.PHASE 3).put STG_RAILMAP.PKGB 2).put (STG_RAIL.ON 1) 1).setRail 1 { wasOn := true } with ibus := 2400, ibusLow := true } : State))) :=
  by
  and_intros
  all_goals decide +kernel

/-- PmbusScansPollsAndAlerts: clauses 1, 2, 3, 4, 5, 6, 7, 8, 9, 10, 11, 12, 13. -/
theorem test_pmbusScansPollsAndAlerts :
    ((fun q (s : State) => meets (.pmbScanGo q) (s.Takes q (PMB_SCAN.reg.addr))) (⟨.rp, 1⟩) (State.reset)) ∧
    ((fun found a rev cap (s : State) => meets (.pmbusScan found) (found.find? (fun f => scanned f.1 && f.1 == s.get PMB_CFG.BUSCONV) = some (a, rev, cap))) ([(0x11, 1, 2), (0x10, 0x33, 0xB0)]) (0x10) (0x33) (0xB0) ((State.reset.put PMB_CFG.BUSCONV 0x10))) ∧
    ((fun found (s : State) => meets (.pmbusScan found) (found.find? (fun f => scanned f.1 && f.1 == s.get PMB_CFG.BUSCONV) = none)) ([(0x11, 1, 2)]) ((State.reset.put PMB_CFG.BUSCONV 0x10))) ∧
    ((fun n r (s : State) => meets (.pmbusPoll n r) (n < 16 ∧ n ≠ 0 ∧ s.pmbUsed n = true ∧ r.answered = true)) (1) (⟨true, 2, 0x0002, 0x1F, 0xF819, 0x0802, 0x0400, 0x1003, 0xE190, 7, 9⟩) ((State.reset.put (PMB_DEV.ADDR 1) 0x11))) ∧
    ((fun r (s : State) => meets (.pmbusPoll 0 r) (r.answered = true ∧ converterFault r.statusWord = true)) (⟨true, 2, 0x8000, 0x1F, 0xF819, 0x0802, 0x0400, 0x1003, 0xE190, 7, 9⟩) (State.reset)) ∧
    ((fun n r (s : State) => meets (.pmbusPoll n r) (n < 16 ∧ s.pmbUsed n = true ∧ r.answered = false)) (0) (⟨false, 2, 0, 0x1F, 0xF819, 0x0802, 0x0400, 0x1003, 0xE190, 7, 9⟩) (State.reset)) ∧
    ((fun a (status : BitVec 16) (s : State) => meets (.pmbAlert a status) (a ∉ s.pmbAlerted)) (0x11) (5) (State.reset)) ∧
    ((fun a (status : BitVec 16) (s : State) => meets (.pmbAlert a status) (a ∈ s.pmbAlerted)) (0x11) (5) (({ State.reset with pmbAlerted := [0x11] } : State))) ∧
    ((fun q word a (c : Byte) (s : State) => meets (.pmbRawGo q word a c) (a < 128 ∧ s.Takes q (PMB_RAW.reg.addr) ∧ s.pmbRaw = none)) (⟨.rp, 1⟩) (true) (0x11) (0x8B) (State.reset)) ∧
    ((fun q word a (c : Byte) (s : State) => meets (.pmbRawGo q word a c) (a < 128 ∧ s.Takes q (PMB_RAW.reg.addr) ∧ s.pmbRaw ≠ none)) (⟨.rp, 1⟩) (true) (0x11) (0x8B) (({ State.reset with pmbRaw := some (false, 1, 2) } : State))) ∧
    ((fun data word a (c : Byte) (s : State) => meets (.pmbRawDone .done data) (s.pmbRaw = some (word, a, c))) (0xABCD) (false) (1) (2) (({ State.reset with pmbRaw := some (false, 1, 2) } : State))) ∧
    ((fun (data : BitVec 16) word a (c : Byte) (s : State) => meets (.pmbRawDone .nack data) (s.pmbRaw = some (word, a, c))) (0xABCD) (false) (1) (2) (({ State.reset with pmbRaw := some (false, 1, 2) } : State))) ∧
    ((fun (data : BitVec 16) word a (c : Byte) (s : State) => meets (.pmbRawDone .pec data) (s.pmbRaw = some (word, a, c))) (0xABCD) (false) (1) (2) (({ State.reset with pmbRaw := some (false, 1, 2) } : State))) :=
  by
  and_intros
  all_goals decide +kernel

/-- CommandsCommitOrAreRefused: clauses 1, 2, 3, 4, 5, 6. -/
theorem test_commandsCommitOrAreRefused :
    ((fun (p : (Cmd → Instr) × Nat) (c : Cmd) (s : State) => p ∈ commandRows ∧ c.slot < slotCount c.win ∧ s.cpReset = false ∧ s.taking = false ∧ mayWriteAt (clsOf c.q) (slotBase c.win c.slot) = true ∧ s.slotBusy c.win c.slot = false ∧ ((c.win = .cmu → s.on (CMK_USLOT.EN c.slot) = true)) ∧ ((c.seq ≠ s.word (lastAddr c.win c.slot) + 1 ∨ c.win ≠ .cmu ∧ c.slot ≠ c.seq.toNat % 16))) ((.nop, 0)) (⟨.cmk, 1, ⟨.rp, 1⟩, 0, 7, 0, 0, 0, 0, 0, 9⟩) ((State.reset.put GLB_SERVICE.STATE 3))) ∧
    ((fun (p : (Cmd → Instr) × Nat) (c : Cmd) code detail (s : State) => p ∈ commandRows ∧ s.Commits c ∧ s.outcome (s.cmdEntry p.2 c) = (code, detail) ∧ code ≠ stAccepted) ((.setMode, 0x300)) (⟨.cmk, 1, ⟨.rp, 1⟩, 0, 7, 0, 0, 0, 0, 0, 1⟩) (3) (0) (State.reset)) ∧
    ((fun (c : Cmd) (s : State) => meets (.nop c) (s.Commits c ∧ s.outcome (s.cmdEntry 0 c) = (stAccepted, 0))) (⟨.cmk, 1, ⟨.rp, 1⟩, 3, 7, 0, 0, 0, 0, 0, 1⟩) ((State.reset.put GLB_SERVICE.STATE 3))) ∧
    ((fun (c : Cmd) (s : State) => meets (.nop c) (s.Commits c ∧ s.outcome (s.cmdEntry 0 c) = (stAccepted, 0))) (⟨.cmu, 5, ⟨.rp, 2⟩, 0, 7, 0, 0, 0, 0, 0, 8⟩) ((({ State.reset with regs := [] } : State).put (CMK_USLOT.EN 5) 1 |>.setWord 0x517C 7))) ∧
    ((fun q n (data : Word) (s : State) => meets (.cmkUslotWrite q n data) (n < 64 ∧ s.Takes q ((CMK_USLOT.reg n).addr) ∧ data.toNat % 64 = s.get (CMK_USLOT.CONTEXT n) ∧ s.active = s.wasActive ∧ ({ s with regs := (s.put (CMK_USLOT.EN n) (data.toNat / 2 ^ 31)).regs } : State).active = s.wasActive)) (⟨.rp, 1⟩) (5) (0x80000000) (State.reset)) ∧
    ((fun q n (data : Word) (s : State) => meets (.cmkUslotWrite q n data) (n < 64 ∧ s.Takes q ((CMK_USLOT.reg n).addr) ∧ data.toNat % 64 ≠ s.get (CMK_USLOT.CONTEXT n) ∧ s.slotBusy .cmu n = false ∧ s.wasActive = false ∧ s.get SEC_CONF0.CTX = 0 ∧ s.get SEC_CONF1.CTX = 0 ∧ s.scrubs = [])) (⟨.rp, 1⟩) (5) (0x80000007) ((State.reset.setWord 0x517C 7))) :=
  by
  and_intros
  all_goals first | decide +kernel | simp [commandRows]

/-- CommandsDoWhatTheyName: clauses 1, 2, 3, 4, 5, 6, 7, 8, 9, 10, 11, 12, 13, 14, 15, 16, 17, 18, 19, 20. -/
theorem test_commandsDoWhatTheyName :
    ((fun (c : Cmd) (s : State) => meets (.abort c) (s.Commits c ∧ s.outcome (s.cmdEntry 1 c) = (stAccepted, 0) ∧ s.abortTarget (s.cmdEntry 1 c) = none ∧ ((c.op0.toNat % 4 ≠ winCode c.win ∨ c.op0.toNat / 2 ^ 32 ≠ c.seq.toNat)))) (⟨.cmk, 1, ⟨.rp, 1⟩, 0, 7, 0x300000001, 0, 0, 0, 0, 1⟩) ((State.reset.put GLB_SERVICE.STATE 3))) ∧
    ((fun (c : Cmd) e (s : State) => meets (.abort c) (s.Commits c ∧ s.outcome (s.cmdEntry 1 c) = (stAccepted, 0) ∧ s.abortTarget (s.cmdEntry 1 c) = some e ∧ e.state = .final ∧ ((e.win ≠ c.win ∨ e.slot ≠ c.slot)))) (⟨.cmk, 1, ⟨.rp, 1⟩, 0, 7, 0x300000001, 0, 0, 0, 0, 1⟩) (({ win := .cmk, slot := 3, seq := 3, opcode := 0x300, flags := 0, tag := 0, ops := [], state := .final, status := 5, result := 0, at_ := 0, recSent := false, late := false } : Entry)) (({ (State.reset.put GLB_SERVICE.STATE 3) with journal := [({ win := .cmk, slot := 3, seq := 3, opcode := 0x300, flags := 0, tag := 0, ops := [], state := .final, status := 5, result := 0, at_ := 0, recSent := false, late := false } : Entry)] } : State))) ∧
    ((fun (c : Cmd) e k (s : State) => meets (.abort c) (s.Commits c ∧ s.outcome (s.cmdEntry 1 c) = (stAccepted, 0) ∧ s.abortTarget (s.cmdEntry 1 c) = some e ∧ e.state = .started k ∧ e.opcode ≠ 0x200 ∧ e.opcode ≠ 0x401 ∧ e.opcode ≠ 0x402 ∧ ((e.win ≠ c.win ∨ e.slot ≠ c.slot)))) (⟨.cmk, 1, ⟨.rp, 1⟩, 0, 7, 0x300000001, 0, 0, 0, 0, 1⟩) (({ win := .cmk, slot := 3, seq := 3, opcode := 0x500, flags := 0, tag := 0, ops := [], state := .started 1, status := 1, result := 0, at_ := 0, recSent := false, late := false } : Entry)) (1) (({ (State.reset.put GLB_SERVICE.STATE 3) with journal := [({ win := .cmk, slot := 3, seq := 3, opcode := 0x500, flags := 0, tag := 0, ops := [], state := .started 1, status := 1, result := 0, at_ := 0, recSent := false, late := false } : Entry)] } : State))) ∧
    ((fun (c : Cmd) y v sl (s : State) => meets (.setVid c) (s.Commits c ∧ s.outcome (s.cmdEntry 0x100 c) = (stAccepted, 0) ∧ y = c.op0.toNat % 128 ∧ v = c.op0.toNat / 2 ^ 16 % 1024 ∧ sl = c.op0.toNat / 2 ^ 32 % 16 ∧ s.inMaint y = false ∧ ((Config.isLogic y = true → 1 < s.domState y)) ∧ s.on (YRD_STATUS.ALL_HANDS y) = false ∧ (s.yard y).fUnknown = false)) (⟨.cmk, 1, ⟨.rp, 1⟩, 0, 7, 0x300640041, 0, 0, 0, 0, 1⟩) (65) (100) (3) ((State.reset.put GLB_SERVICE.STATE 3))) ∧
    ((fun (c : Cmd) (s : State) => meets (.setLoop c) (s.Commits c ∧ s.outcome (s.cmdEntry 0x101 c) = (stAccepted, 0) ∧ (s.fieldWrite (winReq c.win) (loopFields (s.cmdEntry 0x101 c))).2 = 0)) (⟨.cmk, 1, ⟨.rp, 1⟩, 0, 7, 0x12000005, 0x88, 0, 0, 0, 1⟩) (((State.reset.put GLB_SERVICE.STATE 3).put GLB_XREC_YRD.PAGE 1))) ∧
    ((fun (c : Cmd) code (s : State) => meets (.setLoop c) (s.Commits c ∧ s.outcome (s.cmdEntry 0x101 c) = (stAccepted, 0) ∧ code ≠ 0 ∧ (s.fieldWrite (winReq c.win) (loopFields (s.cmdEntry 0x101 c))).2 = code)) (⟨.cmk, 1, ⟨.rp, 1⟩, 0, 7, 0x12000005, 0x88, 0, 0, 0, 1⟩) (2) ((State.reset.put GLB_SERVICE.STATE 3))) ∧
    ((fun (c : Cmd) b y (s : State) => meets (.remount c) (s.Commits c ∧ s.outcome (s.cmdEntry 0x102 c) = (stAccepted, 0) ∧ b = c.op0.toNat % 2048 ∧ c.op0.toNat / 2 ^ 13 % 2 = 1 ∧ remountYard b (c.op0.toNat / 2 ^ 12 % 2 == 1) = some y ∧ s.get (BAY_STATE.STATE b) = 1 ∧ (s.bay b).assigned = none ∧ s.unlocked (BAY_REMOUNT.reg b).addr = true)) (remountCmd) (remountBay) ((remountYard remountBay false).getD 0) (remountUnlocked)) ∧
    ((fun (c : Cmd) b (s : State) => meets (.remount c) (s.Commits c ∧ s.outcome (s.cmdEntry 0x102 c) = (stAccepted, 0) ∧ b = c.op0.toNat % 2048 ∧ c.op0.toNat / 2 ^ 13 % 2 = 1 ∧ ((s.get (BAY_STATE.STATE b) ≠ 1 ∨ (s.bay b).assigned ≠ none ∧ (s.bay b).assigned ≠ remountYard b (c.op0.toNat / 2 ^ 12 % 2 == 1))) ∧ s.unlocked (BAY_REMOUNT.reg b).addr = true)) (remountCmd) (remountBay) ((remountUnlocked.put (BAY_STATE.STATE remountBay) 2))) ∧
    ((fun (c : Cmd) b y (s : State) => meets (.remount c) (s.Commits c ∧ s.outcome (s.cmdEntry 0x102 c) = (stAccepted, 0) ∧ b = c.op0.toNat % 2048 ∧ c.op0.toNat / 2 ^ 13 % 2 = 1 ∧ remountYard b (c.op0.toNat / 2 ^ 12 % 2 == 1) = some y ∧ s.get (BAY_STATE.STATE b) = 1 ∧ (s.bay b).assigned = some y ∧ s.joinable y = false ∧ s.unlocked (BAY_REMOUNT.reg b).addr = true)) (remountCmd) (remountBay) ((remountYard remountBay false).getD 0) (((remountUnlocked.setBay remountBay { remountUnlocked.bay remountBay with assigned := some ((remountYard remountBay false).getD 0) }).put (PWS_DOM.STATE ((remountYard remountBay false).getD 0)) 4))) ∧
    ((fun (c : Cmd) b (s : State) => meets (.remount c) (s.Commits c ∧ s.outcome (s.cmdEntry 0x102 c) = (stAccepted, 0) ∧ b = c.op0.toNat % 2048 ∧ s.unlocked (BAY_REMOUNT.reg b).addr = false)) (remountCmd) (remountBay) ((State.reset.put GLB_SERVICE.STATE 3))) ∧
    ((fun (c : Cmd) d tt src (s : State) => meets (.domainState c) (s.Commits c ∧ s.outcome (s.cmdEntry 0x200 c) = (stAccepted, 0) ∧ d = c.op0.toNat % 128 ∧ tt = c.op0.toNat / 2 ^ 8 % 8 ∧ src = (match c.win with | .cmd => OrderSrc.mgmt | .cmk => .kernCmd | .cmu => .user) ∧ s.orderRefusal d tt src = none ∧ (s.dom d).order = none ∧ (s.dom d).step ≠ .stable)) (⟨.cmk, 1, ⟨.rp, 1⟩, 0, 7, 0x405, 0, 0, 0, 0, 1⟩) (5) (4) (.kernCmd) (((State.reset.put GLB_SERVICE.STATE 3).setDom 5 { step := .ramp }))) ∧
    ((fun (c : Cmd) d tt src code (s : State) => meets (.domainState c) (s.Commits c ∧ s.outcome (s.cmdEntry 0x200 c) = (stAccepted, 0) ∧ d = c.op0.toNat % 128 ∧ tt = c.op0.toNat / 2 ^ 8 % 8 ∧ src = (match c.win with | .cmd => OrderSrc.mgmt | .cmk => .kernCmd | .cmu => .user) ∧ s.orderRefusal d tt src = some code ∧ 1 < code ∧ (s.dom d).wakePin = false)) (⟨.cmk, 1, ⟨.rp, 1⟩, 0, 7, 0x205, 0, 0, 0, 0, 1⟩) (5) (2) (.kernCmd) (4) (((State.reset.put GLB_SERVICE.STATE 3).put (PWS_DOM.STATE 5) 4))) ∧
    ((fun (c : Cmd) y b (s : State) => meets (.maint c) (s.Commits c ∧ s.outcome (s.cmdEntry 0x201 c) = (stAccepted, 0) ∧ y = c.op0.toNat % 128 ∧ b = c.op0.toNat / 2 ^ 8 % 2 ∧ s.get (Fld.bit SXT_MAINT.YARD y) = b ∧ s.get (Fld.bit SXT_MAINT_NOW.YARD y) = b)) (⟨.cmk, 1, ⟨.rp, 1⟩, 0, 7, 0x105, 0, 0, 0, 0, 1⟩) (5) (1) ((((State.reset.put GLB_SERVICE.STATE 3).put (Fld.bit SXT_MAINT.YARD 5) 1).put (Fld.bit SXT_MAINT_NOW.YARD 5) 1))) ∧
    ((fun (c : Cmd) y (s : State) => meets (.maint c) (s.Commits c ∧ s.outcome (s.cmdEntry 0x201 c) = (stAccepted, 0) ∧ y = c.op0.toNat % 128 ∧ c.op0.toNat / 2 ^ 8 % 2 = 1 ∧ s.get (Fld.bit SXT_MAINT.YARD y) = 0 ∧ s.get (Fld.bit SXT_MAINT_NOW.YARD y) = 0 ∧ s.domState y < 3 ∧ (s.yard y).maintTags = [])) (⟨.cmk, 1, ⟨.rp, 1⟩, 0, 7, 0x105, 0, 0, 0, 0, 1⟩) (5) (((State.reset.put GLB_SERVICE.STATE 3).put (PWS_DOM.STATE 5) 0))) ∧
    ((fun (c : Cmd) m (s : State) => meets (.setMode c) (s.Commits c ∧ s.outcome (s.cmdEntry 0x300 c) = (stAccepted, 0) ∧ m = c.op0.toNat % 4 ∧ ((c.win = .cmk → s.on CAP_MODE.LOCK = false)))) (⟨.cmk, 1, ⟨.rp, 1⟩, 0, 7, 2, 0, 0, 0, 0, 1⟩) (2) ((State.reset.put GLB_SERVICE.STATE 3))) ∧
    ((fun (c : Cmd) v (s : State) => meets (.setCap c) (s.Commits c ∧ s.outcome (s.cmdEntry 0x301 c) = (stAccepted, 0) ∧ c.op0.toNat / 2 ^ 16 % 2 = 0 ∧ v = c.op0.toNat % 65536 ∧ s.cap.defer = none ∧ s.defers = false)) (⟨.cmk, 1, ⟨.rp, 1⟩, 0, 7, 700, 0, 0, 0, 0, 1⟩) (700) ((State.reset.put GLB_SERVICE.STATE 3))) ∧
    ((fun (c : Cmd) k v (s : State) => meets (.setCap c) (s.Commits c ∧ s.outcome (s.cmdEntry 0x301 c) = (stAccepted, 0) ∧ c.op0.toNat / 2 ^ 16 % 2 = 1 ∧ k = c.op0.toNat / 2 ^ 24 % 64 ∧ v = c.op0.toNat % 65536 ∧ s.defers = false ∧ (s.ctx k).defer = none)) (⟨.cmk, 1, ⟨.rp, 1⟩, 0, 7, 0x050102BC, 0, 0, 0, 0, 1⟩) (5) (700) ((State.reset.put GLB_SERVICE.STATE 3))) ∧
    ((fun (c : Cmd) k tag (s : State) => meets (.job c) (s.Commits c ∧ s.outcome (s.cmdEntry 0x302 c) = (stAccepted, 0) ∧ c.op0.toNat / 2 ^ 8 % 2 = 0 ∧ k = c.op0.toNat % 64 ∧ tag = c.op0.toNat / 2 ^ 16 % 65536 ∧ s.openJob k = none ∧ s.confidential k = false ∧ s.wasActive = s.active)) (⟨.cmk, 1, ⟨.rp, 1⟩, 0, 7, 0x990007, 0, 0, 0, 0, 1⟩) (7) (0x99) ((State.reset.put GLB_SERVICE.STATE 3))) ∧
    ((fun (c : Cmd) (s : State) => meets (.logFreeze c) (s.Commits c ∧ s.outcome (s.cmdEntry 0x600 c) = (stAccepted, 0) ∧ c.op0.toNat % 2 = 0 ∧ s.on LOG_STATUS.FROZEN = false ∧ s.logTag = none)) (⟨.cmk, 1, ⟨.rp, 1⟩, 0, 7, 0, 0, 0, 0, 0, 1⟩) (((State.reset.put GLB_SERVICE.STATE 3).put LOG_CTRL.FREEZE 1))) ∧
    ((fun (c : Cmd) (s : State) => meets (.logFreeze c) (s.Commits c ∧ s.outcome (s.cmdEntry 0x600 c) = (stAccepted, 0) ∧ c.op0.toNat % 2 = 1 ∧ s.on LOG_STATUS.FROZEN = false ∧ s.logTag = none ∧ s.flashOp = .none ∧ s.logErase = none)) (⟨.cmk, 1, ⟨.rp, 1⟩, 0, 7, 1, 0, 0, 0, 0, 1⟩) ((State.reset.put GLB_SERVICE.STATE 3))) :=
  by
  and_intros
  all_goals decide +kernel

/-- EngineCommandsStartTheirEngines: clauses 1, 2, 3, 4, 5, 6, 7, 8, 9, 10. -/
theorem test_engineCommandsStartTheirEngines :
    ((fun (c : Cmd) (s : State) => meets (.bundleLoad c) (s.Commits c ∧ s.outcome (s.cmdEntry 0x400 c) = (stAccepted, 0) ∧ s.get DRE_STATUS.LOAD_STATE = 0 ∧ s.get DRE_STATUS.SPARE < 9)) (⟨.cmk, 1, ⟨.rp, 1⟩, 0, 7, 0x13, 0x1000, 0, 0, 0, 1⟩) ((State.reset.put GLB_SERVICE.STATE 3))) ∧
    ((fun (c : Cmd) (s : State) => meets (.bundleLoad c) (s.Commits c ∧ s.outcome (s.cmdEntry 0x400 c) = (stAccepted, 0) ∧ ((s.get DRE_STATUS.LOAD_STATE ≠ 0 ∨ 9 ≤ s.get DRE_STATUS.SPARE)))) (⟨.cmk, 1, ⟨.rp, 1⟩, 0, 7, 0x13, 0x1000, 0, 0, 0, 1⟩) (((State.reset.put GLB_SERVICE.STATE 3).put DRE_STATUS.LOAD_STATE 2))) ∧
    ((fun (c : Cmd) n (s : State) => meets (.capture c) (s.Commits c ∧ s.outcome (s.cmdEntry 0x401 c) = (stAccepted, 0) ∧ n = c.op0.toNat % 32 ∧ s.strBusy n 0 = true)) (captureCmd) (0) (((State.reset.put GLB_SERVICE.STATE 3).put (SXT_STR_STAT.reg 0 0) 2))) ∧
    ((fun (c : Cmd) n (s : State) => meets (.capture c) (s.Commits c ∧ s.outcome (s.cmdEntry 0x401 c) = (stAccepted, 0) ∧ n = c.op0.toNat % 32 ∧ s.strBusy n 0 = false ∧ s.captureOk n = true ∧ s.active = false ∧ c.op0.toNat / 2 ^ 12 % 8 = 0 ∧ c.op0.toNat / 2 ^ 15 % 2 = 0)) (captureCmd) (0) (wayOnState)) ∧
    ((fun (c : Cmd) n (s : State) => meets (.syscal c) (s.Commits c ∧ s.outcome (s.cmdEntry 0x402 c) = (stAccepted, 0) ∧ n = c.op0.toNat % 32 ∧ c.op0.toNat / 32 % 4 = 1 ∧ s.calAllowed n = true)) (⟨.cmk, 1, ⟨.rp, 1⟩, 0, 7, 0x39, 0, 0, 0, 0, 1⟩) (25) ((State.reset.put GLB_SERVICE.STATE 3))) ∧
    ((fun (c : Cmd) n (s : State) => meets (.syscal c) (s.Commits c ∧ s.outcome (s.cmdEntry 0x402 c) = (stAccepted, 0) ∧ n = c.op0.toNat % 32 ∧ c.op0.toNat / 32 % 4 = 2 ∧ s.get (SXT_CAL.STATE n) = 2)) (⟨.cmk, 1, ⟨.rp, 1⟩, 0, 7, 0x59, 0, 0, 0, 0, 1⟩) (25) (((State.reset.put GLB_SERVICE.STATE 3).put (SXT_CAL.STATE 25) 2))) ∧
    ((fun (c : Cmd) n (s : State) => meets (.syscal c) (s.Commits c ∧ s.outcome (s.cmdEntry 0x402 c) = (stAccepted, 0) ∧ n = c.op0.toNat % 32 ∧ ((c.op0.toNat / 32 % 4 = 1 ∧ s.calAllowed n = false ∨ c.op0.toNat / 32 % 4 = 2 ∧ s.get (SXT_CAL.STATE n) ≠ 2)))) (⟨.cmk, 1, ⟨.rp, 1⟩, 0, 7, 0x59, 0, 0, 0, 0, 1⟩) (25) ((State.reset.put GLB_SERVICE.STATE 3))) ∧
    ((fun (c : Cmd) (s : State) => meets (.farPlan c) (s.Commits c ∧ s.outcome (s.cmdEntry 0x500 c) = (stAccepted, 0) ∧ s.inWayOn = true ∧ s.far = .idle ∧ s.get FAR_STATUS.STATE = 0 ∧ s.planPostponed = false)) (⟨.cmk, 1, ⟨.rp, 1⟩, 0, 7, 0, 0, 0, 0, 0, 1⟩) ((State.reset.put GLB_SERVICE.STATE 3))) ∧
    ((fun (c : Cmd) (s : State) => meets (.farRecord c) (s.Commits c ∧ s.outcome (s.cmdEntry 0x501 c) = (stAccepted, 0) ∧ s.far = .idle)) (⟨.cmd, 1, ⟨.mp, 0⟩, 0, 7, 0x80080305, 0, 0, 0, 0, 1⟩) ((State.reset.put GLB_SERVICE.STATE 3))) ∧
    ((fun (c : Cmd) (s : State) => meets (.farRecord c) (s.Commits c ∧ s.outcome (s.cmdEntry 0x501 c) = (stAccepted, 0) ∧ s.far ≠ .idle)) (⟨.cmd, 1, ⟨.mp, 0⟩, 0, 7, 0x80080305, 0, 0, 0, 0, 1⟩) (({ (State.reset.put GLB_SERVICE.STATE 3) with far := .planning } : State))) :=
  by
  and_intros
  all_goals decide +kernel

/-- TelemetryStreamsRun: clauses 1, 2, 3, 4, 5, 6, 7, 8, 9, 10, 11, 12, 13, 14, 15. -/
theorem test_telemetryStreamsRun :
    ((fun q k (s : State) => meets (.tdmStreamGo q k) (k < 3 ∧ s.Takes q ((TDM_STR_CTRL.reg k).addr) ∧ s.inWayOn = true ∧ s.get (TDM_STR_CTRL.STOP k) = 0 ∧ 1 ≤ s.get (TDM_STR_CTRL.POLL k) ∧ ((s.tdmState k = tdmStopped ∨ s.tdmState k = tdmError)) ∧ ((s.get64 (TDM_STR_HEAD_LO.ADDR k) = 0 ∨ s.inWindow (s.get64 (TDM_STR_HEAD_LO.ADDR k)) 32 = true)))) (⟨.rp, 1⟩) (1) (((((State.reset.put GLB_SERVICE.STATE 3).put64 TDM_WIN_LIMIT_LO.LIMIT 0x100000).put (TDM_STR_CTRL.POLL 1) 10).put64 (TDM_STR_HEAD_LO.ADDR 1) 0x1000))) ∧
    ((fun q k (s : State) => meets (.tdmStreamGo q k) (k < 3 ∧ s.Takes q ((TDM_STR_CTRL.reg k).addr) ∧ s.inWayOn = true ∧ s.get (TDM_STR_CTRL.STOP k) = 0 ∧ 1 ≤ s.get (TDM_STR_CTRL.POLL k) ∧ ((s.tdmState k = tdmStopped ∨ s.tdmState k = tdmError)) ∧ s.get64 (TDM_STR_HEAD_LO.ADDR k) ≠ 0 ∧ s.inWindow (s.get64 (TDM_STR_HEAD_LO.ADDR k)) 32 = false)) (⟨.rp, 1⟩) (1) ((((State.reset.put GLB_SERVICE.STATE 3).put (TDM_STR_CTRL.POLL 1) 10).put64 (TDM_STR_HEAD_LO.ADDR 1) 0x1000))) ∧
    ((fun q k (s : State) => meets (.tdmStreamGo q k) (k < 3 ∧ s.Takes q ((TDM_STR_CTRL.reg k).addr) ∧ s.inWayOn = true ∧ s.get (TDM_STR_CTRL.STOP k) = 0 ∧ 1 ≤ s.get (TDM_STR_CTRL.POLL k) ∧ ((s.tdmState k = tdmRunning ∨ s.tdmState k = tdmWaiting)))) (⟨.rp, 1⟩) (1) (((((State.reset.put GLB_SERVICE.STATE 3).put64 TDM_WIN_LIMIT_LO.LIMIT 0x100000).put (TDM_STR_CTRL.POLL 1) 10).put (tdmF 1) 1))) ∧
    ((fun q k (s : State) => meets (.tdmStreamGo q k) (k < 3 ∧ s.Takes q ((TDM_STR_CTRL.reg k).addr) ∧ s.inWayOn = false ∧ s.get (TDM_STR_CTRL.STOP k) = 0 ∧ 1 ≤ s.get (TDM_STR_CTRL.POLL k) ∧ (s.word (pgTDM + 0x1C)).field 31 1 = 0)) (⟨.rp, 1⟩) (1) ((State.reset.put (TDM_STR_CTRL.POLL 1) 10))) ∧
    ((fun q k (s : State) => meets (.tdmStreamStop q k) (k < 3 ∧ s.Takes q ((TDM_STR_CTRL.reg k).addr) ∧ s.get (TDM_STR_CTRL.GO k) = 0 ∧ 1 ≤ s.get (TDM_STR_CTRL.POLL k) ∧ ((s.tdmState k = tdmWaiting ∨ s.tdmState k = tdmRunning ∧ (s.stream k).checked = false)))) (⟨.rp, 1⟩) (1) (((((State.reset.put GLB_SERVICE.STATE 3).put64 TDM_WIN_LIMIT_LO.LIMIT 0x100000).put (TDM_STR_CTRL.POLL 1) 10).put (tdmF 1) 1))) ∧
    ((fun q k a e (s : State) => meets (.tdmStreamStop q k) (k < 3 ∧ s.Takes q ((TDM_STR_CTRL.reg k).addr) ∧ s.get (TDM_STR_CTRL.GO k) = 0 ∧ 1 ≤ s.get (TDM_STR_CTRL.POLL k) ∧ s.tdmState k = tdmRunning ∧ (s.stream k).checked = true ∧ (s.stream k).desc.head? = some (a, e) ∧ s.inWindow (a + 24) 8 = true)) (⟨.rp, 1⟩) (1) (0x100) (⟨3, true, true, 4096, 0x2000, 0⟩) ((((((State.reset.put GLB_SERVICE.STATE 3).put64 TDM_WIN_LIMIT_LO.LIMIT 0x100000).put (tdmF 1) 1).setStream 1 { checked := true, desc := [(0x100, ⟨3, true, true, 4096, 0x2000, 0⟩)] }).put (TDM_STR_CTRL.POLL 1) 10))) ∧
    ((fun k a e (s : State) => meets (.descriptorFetchDone k e false) (k < 3 ∧ s.tdmAct k = .fetch a ∧ (s.stream k).desc = [] ∧ (s.stream k).checked = false ∧ s.inWindow a 32 = true ∧ s.inWindow a 4 = true ∧ ((e.next.toNat = 0 ∨ s.inWindow e.next.toNat 32 = true)))) (1) (0x100) (⟨3, true, true, 4096, 0x2000, 0x40⟩) (((((State.reset.put GLB_SERVICE.STATE 3).put64 TDM_WIN_LIMIT_LO.LIMIT 0x100000).put (tdmF 1) 1).setStream 1 { next := 0x100 }))) ∧
    ((fun k a h e (s : State) => meets (.descriptorFetchDone k e false) (k < 3 ∧ s.tdmAct k = .look a ∧ (s.stream k).desc = [(a, h)] ∧ (s.stream k).staged = [] ∧ (s.stream k).stopping = false ∧ (s.stream k).before = 0 ∧ s.active = false ∧ s.inWindow a 4 = true ∧ h.next.toNat = 0 ∧ e.gen = h.gen ∧ e.valid = true)) (1) (0x100) (⟨3, true, true, 4096, 0x2000, 0⟩) (⟨3, true, true, 4096, 0x2000, 0⟩) (((((State.reset.put GLB_SERVICE.STATE 3).put64 TDM_WIN_LIMIT_LO.LIMIT 0x100000).put (tdmF 1) 2).setStream 1 { desc := [(0x100, ⟨3, true, true, 4096, 0x2000, 0⟩)], polling := true }))) ∧
    ((fun k a h e (s : State) => meets (.descriptorFetchDone k e false) (k < 3 ∧ s.tdmAct k = .look a ∧ (s.stream k).desc.head? = some (a, h) ∧ a ≠ 0 ∧ s.inWindow a 32 = true ∧ s.inWindow a 4 = true ∧ e.gen ≠ h.gen)) (1) (0x100) (⟨3, true, true, 4096, 0x2000, 0⟩) (⟨4, true, true, 4096, 0x2000, 0⟩) (((((State.reset.put GLB_SERVICE.STATE 3).put64 TDM_WIN_LIMIT_LO.LIMIT 0x100000).put (tdmF 1) 2).setStream 1 { desc := [(0x100, ⟨3, true, true, 4096, 0x2000, 0⟩)], polling := true }))) ∧
    ((fun k a n e (s : State) => meets (.descriptorFetchDone k e true) (k < 3 ∧ (s.tdmAct k).range = some (a, n, 4) ∧ s.inWindow a n = true)) (1) (0x100) (32) (⟨3, true, true, 4096, 0x2000, 0⟩) (((((State.reset.put GLB_SERVICE.STATE 3).put64 TDM_WIN_LIMIT_LO.LIMIT 0x100000).put (tdmF 1) 1).setStream 1 { next := 0x100 }))) ∧
    ((fun k (s : State) => meets (.descriptorPoll k) (k < 3 ∧ s.tdmState k = tdmWaiting ∧ (s.modStream k (fun d => { d with polling := true })).tdmOutside k = false)) (1) (((((State.reset.put GLB_SERVICE.STATE 3).put64 TDM_WIN_LIMIT_LO.LIMIT 0x100000).put (tdmF 1) 2).setStream 1 { last := 0x100 }))) ∧
    ((fun k a e r (s : State) => meets (.tdmWriteResponse k false) (k < 3 ∧ s.tdmState k = tdmRunning ∧ (s.stream k).desc = [(a, e)] ∧ (s.stream k).checked = true ∧ (s.stream k).stopping = false ∧ s.active = false ∧ (s.stream k).staged = [r] ∧ r.entry = none ∧ (s.stream k).used + r.bytes.length ≤ e.length ∧ s.inWindow (e.buffer.toNat + (s.stream k).used) r.bytes.length = true ∧ e.next.toNat = 0)) (1) (0x100) (⟨3, true, true, 4096, 0x2000, 0⟩) (⟨[1, 2, 3], none, none⟩) (((((State.reset.put GLB_SERVICE.STATE 3).put64 TDM_WIN_LIMIT_LO.LIMIT 0x100000).put (tdmF 1) 1).setStream 1 { desc := [(0x100, ⟨3, true, true, 4096, 0x2000, 0⟩)], checked := true, staged := [⟨[1, 2, 3], none, none⟩] }))) ∧
    ((fun k a e (s : State) => meets (.tdmWriteResponse k false) (k < 3 ∧ s.tdmState k = tdmRunning ∧ (s.stream k).desc = [(a, e)] ∧ (s.stream k).checked = true ∧ (s.stream k).stopping = true ∧ s.inWindow (a + 24) 8 = true ∧ e.next.toNat = 0)) (1) (0x100) (⟨3, true, true, 4096, 0x2000, 0⟩) (((((State.reset.put GLB_SERVICE.STATE 3).put64 TDM_WIN_LIMIT_LO.LIMIT 0x100000).put (tdmF 1) 1).setStream 1 { desc := [(0x100, ⟨3, true, true, 4096, 0x2000, 0⟩)], checked := true, stopping := true }))) ∧
    ((fun k a n (s : State) => meets (.tdmWriteResponse k true) (k < 3 ∧ (s.tdmAct k).range = some (a, n, 5) ∧ s.inWindow a n = true)) (1) (0x118) (8) (((((State.reset.put GLB_SERVICE.STATE 3).put64 TDM_WIN_LIMIT_LO.LIMIT 0x100000).put (tdmF 1) 1).setStream 1 { desc := [(0x100, ⟨3, true, true, 4096, 0x2000, 0⟩)], checked := true, stopping := true }))) ∧
    ((fun r (s : State) => meets (.deviceSummary) (s.inWayOn = true ∧ s.yardCount + 1 < s.get TDM_PERIOD.YARD ∧ (s.stream 2).lost = 0 ∧ r = ⟨tdmRecord 0x0030 s.active.toNat s.deviceBody, none, none⟩ ∧ stagedBytes ((s.stream 2).staged ++ [r]) ≤ 4096)) (⟨tdmRecord 0x0030 ((State.reset.put GLB_SERVICE.STATE 3).put TDM_PERIOD.YARD 9).active.toNat ((State.reset.put GLB_SERVICE.STATE 3).put TDM_PERIOD.YARD 9).deviceBody, none, none⟩) (((State.reset.put GLB_SERVICE.STATE 3).put TDM_PERIOD.YARD 9))) :=
  by
  and_intros
  all_goals decide +kernel

/-- FaultCollectorFollowsItsOrders: clauses 1, 2, 3, 4, 5, 6, 7, 8, 9, 10, 11. -/
theorem test_faultCollectorFollowsItsOrders :
    ((fun unit kind (s : State) => meets (.fltWire unit kind) (isUnit unit = true ∧ 1 ≤ kind ∧ kind ≤ 3)) (40) (1) ((State.reset.put GLB_SERVICE.STATE 3))) ∧
    ((fun unit (s : State) => meets (.fltWireClear unit) (isUnit unit = true)) (40) ((State.reset.put (Fld.bit FLT_WIRE.UNIT 40) 1))) ∧
    ((fun q (bits : BitVec 3) (s : State) => meets (.fltPendAck q bits) (s.Takes q (FLT_PEND.C.addr))) (⟨.rp, 1⟩) (2) (({ ((State.reset.put FLT_PEND.K 1).put FLT_PEND.C 1).put (Fld.bit FLT_ACT.CODE 0x25) 1 with act := [(0x25, 1), (0x30, 0)] } : State))) ∧
    ((fun q (s : State) => meets (.fltResume q) (s.Takes q (FLT_CTRL.RESUME.addr) ∧ clsOf q = .mgmt ∧ s.mayRecover = true ∧ s.get FAR_STATUS.STATE ≠ 5)) (⟨.mp, 0⟩) (((State.reset.put GLB_SERVICE.STATE 3).put FLT_STATUS.HOLD 1))) ∧
    ((fun q (s : State) => meets (.fltResume q) (s.Takes q (FLT_CTRL.RESUME.addr) ∧ clsOf q = .mgmt ∧ s.mayRecover = false)) (⟨.mp, 0⟩) ((((State.reset.put GLB_SERVICE.STATE 3).put FLT_STATUS.HOLD 1).put FLT_REC.COUNT 8))) ∧
    ((fun (s : State) => meets (.quietPeriodExpiry) (s.quietOver = true ∧ s.get FAR_STATUS.STATE ≠ 5)) (({ ((State.reset.put GLB_SERVICE.STATE 3).put FLT_STATUS.HOLD 1) with mono := 10 ^ 18 } : State))) ∧
    ((fun q mem (s : State) => meets (.fltInjSingle q mem) (s.Takes q (FLT_INJ.GO.addr) ∧ s.injectOk 0 mem 0 = true)) (⟨.rp, 1⟩) (5) (State.reset)) ∧
    ((fun q mem (s : State) => meets (.fltInjDouble q mem) (s.Takes q (FLT_INJ.GO.addr) ∧ s.injectOk 1 mem 0 = true)) (⟨.rp, 1⟩) (5) (State.reset)) ∧
    ((fun q unit code (s : State) => meets (.fltInjRaise q unit code) (s.Takes q (FLT_INJ.GO.addr) ∧ s.injectOk 2 unit code = true)) (⟨.rp, 1⟩) (0) (1) (State.reset)) ∧
    ((fun q unit (s : State) => meets (.fltInjBreak q unit) (s.Takes q (FLT_INJ.GO.addr) ∧ s.injectOk 3 unit 0 = true)) (⟨.rp, 1⟩) (40) (State.reset)) ∧
    ((fun q pin (s : State) => meets (.fltInjPinWrite q pin) (pin < 4 ∧ s.Takes q (FLT_INJ_PIN.PIN.addr))) (⟨.rp, 1⟩) (2) (State.reset)) :=
  by
  and_intros
  all_goals decide +kernel

/-- LogbookWritesFreezesAndErases: clauses 1, 2, 3, 4, 5, 6, 7, 8, 9, 10, 11, 12, 13. -/
theorem test_logbookWritesFreezesAndErases :
    ((fun i (s : State) => meets (.logScan) (s.on LOG_STATUS.SCANNING = true ∧ s.get GLB_SERVICE.FW_RESULT ≠ 0 ∧ s.firstEmpty 0 8192 = some i)) (0) (State.reset.put GLB_SERVICE.FW_RESULT 1)) ∧
    ((fun r i (s : State) => meets (.logRecordProgram) (s.log.head? = some r ∧ s.stagingWaits = false ∧ r.err = none ∧ s.on LOG_STATUS.FIRST_FULL = false ∧ s.firstEmpty (s.get LOG_POS.NEXT) (8192 - s.get LOG_POS.NEXT) = some i ∧ (s.firstEmpty (i + 1) (8192 - (i + 1))).isSome = true)) (⟨0x102, 2, 0, 1, 9, [5], none⟩) (0) (({ State.reset.put LOG_STATUS.SCANNING 0 with log := [⟨0x102, 2, 0, 1, 9, [5], none⟩] } : State))) ∧
    ((fun (s : State) => meets (.logTimeSave) (s.on LOG_STATUS.FROZEN = false ∧ s.tkSlot < 8192 ∧ s.supp = [])) (State.reset)) ∧
    ((fun (s : State) => meets (.logTokenRefill) (Tab.wf (fun _ => 64) s.tokens = true)) (({ State.reset with tokens := [(3, 5)] } : State))) ∧
    ((fun q (s : State) => meets (.logCtrlFreeze q) (s.Takes q (LOG_CTRL.FREEZE.addr) ∧ s.on LOG_CTRL.FREEZE = false ∧ s.on LOG_STATUS.FROZEN = false ∧ s.logTag = none ∧ s.flashOp = .none ∧ s.logErase = none)) (⟨.rp, 1⟩) (State.reset)) ∧
    ((fun q (s : State) => meets (.logCtrlFreeze q) (s.Takes q (LOG_CTRL.FREEZE.addr) ∧ s.on LOG_CTRL.FREEZE = false ∧ s.on LOG_STATUS.FROZEN = false ∧ ((s.flashOp ≠ .none ∨ s.logErase ≠ none)))) (⟨.rp, 1⟩) (({ State.reset with logErase := some 1 } : State))) ∧
    ((fun q (s : State) => meets (.logCtrlRelease q) (s.Takes q (LOG_CTRL.FREEZE.addr) ∧ s.on LOG_CTRL.FREEZE = true ∧ s.on LOG_STATUS.FROZEN = true ∧ s.log.length < 255 ∧ s.supp = [])) (⟨.rp, 1⟩) ((({ State.reset.put LOG_STATUS.SCANNING 0 with log := [⟨0x102, 2, 0, 1, 9, [5], none⟩] } : State).put LOG_CTRL.FREEZE 1).put LOG_STATUS.FROZEN 1)) ∧
    ((fun (s : State) => meets (.logFreezeExpiry) (s.on LOG_CTRL.FREEZE_MAX = true ∧ s.on LOG_STATUS.FROZEN = true ∧ s.log.length < 255 ∧ s.supp = [])) (((({ State.reset.put LOG_STATUS.SCANNING 0 with log := [⟨0x102, 2, 0, 1, 9, [5], none⟩] } : State).put LOG_CTRL.FREEZE 1).put LOG_STATUS.FROZEN 1).put LOG_CTRL.FREEZE_MAX 60)) ∧
    ((fun q i (s : State) => meets (.logRdGo q i) (i < 131072 ∧ s.Takes q (LOG_RD.GO.addr) ∧ s.flashOp = .none ∧ s.logErase = none)) (⟨.rp, 1⟩) (77) (State.reset)) ∧
    ((fun q i (s : State) => meets (.logRdGo q i) (i < 131072 ∧ s.Takes q (LOG_RD.GO.addr) ∧ ((s.flashOp ≠ .none ∨ s.logErase ≠ none)))) (⟨.rp, 1⟩) (77) (({ State.reset with logErase := some 1 } : State))) ∧
    ((fun q (s : State) => meets (.logEraseRanked q) (s.Takes q (LOG_ERASE.KEY.addr) ∧ clsOf q = .mgmt ∧ s.logErase = none)) (⟨.mp, 0⟩) (State.reset)) ∧
    ((fun q (s : State) => meets (.logEraseAll q) (s.Takes q (LOG_ERASE.KEY.addr) ∧ clsOf q = .mgmt ∧ s.logErase = none)) (⟨.mp, 0⟩) (State.reset)) ∧
    ((fun region (s : State) => meets (.logEraseDone) (s.logErase = some region ∧ s.on LOG_STATUS.FROZEN = false)) (1) (({ State.reset with logErase := some 1 } : State))) :=
  by
  and_intros
  all_goals decide +kernel

/-- FlashPortReadsAndWrites: clauses 1, 2, 3, 4, 5, 6, 7, 8, 9, 10, 11, 12, 13. -/
theorem test_flashPortReadsAndWrites :
    ((fun q (s : State) => meets (.flsRead q) (s.Takes q (FLS_CTRL.GO.addr) ∧ s.flsRefusal 0 (clsOf q) = none)) (⟨.mp, 0⟩) ((((State.reset.put FLS_LEN.LEN 4).put FLS_SFDP.OK 1).put FLS_ADDR.ADDR 0x100))) ∧
    ((fun q (s : State) => meets (.flsProgram q) (s.Takes q (FLS_CTRL.GO.addr) ∧ s.flsRefusal 1 (clsOf q) = none)) (⟨.mp, 0⟩) ((((State.reset.put FLS_LEN.LEN 4).put FLS_SFDP.OK 1).put FLS_ADDR.ADDR 0x100))) ∧
    ((fun q (s : State) => meets (.flsErase q) (s.Takes q (FLS_CTRL.GO.addr) ∧ s.flsRefusal 2 (clsOf q) = none)) (⟨.mp, 0⟩) ((((State.reset.put FLS_LEN.LEN 4).put FLS_SFDP.OK 1).put FLS_ADDR.ADDR 0x100))) ∧
    ((fun q (s : State) => meets (.flsVerify q) (s.Takes q (FLS_CTRL.GO.addr) ∧ s.flsRefusal 3 (clsOf q) = none)) (⟨.mp, 0⟩) ((((State.reset.put FLS_LEN.LEN 4).put FLS_SFDP.OK 1).put FLS_ADDR.ADDR 0x100))) ∧
    ((fun q r (s : State) => meets (.flsRead q) (s.Takes q (FLS_CTRL.GO.addr) ∧ s.flsRefusal 0 (clsOf q) = some r)) (⟨.mp, 0⟩) (4) ((State.reset.put FLS_STATUS.BUSY 1))) ∧
    ((fun q r (s : State) => meets (.flsProgram q) (s.Takes q (FLS_CTRL.GO.addr) ∧ s.flsRefusal 1 (clsOf q) = some r)) (⟨.mp, 0⟩) (4) ((State.reset.put FLS_STATUS.BUSY 1))) ∧
    ((fun q r (s : State) => meets (.flsErase q) (s.Takes q (FLS_CTRL.GO.addr) ∧ s.flsRefusal 2 (clsOf q) = some r)) (⟨.mp, 0⟩) (4) ((State.reset.put FLS_STATUS.BUSY 1))) ∧
    ((fun q r (s : State) => meets (.flsVerify q) (s.Takes q (FLS_CTRL.GO.addr) ∧ s.flsRefusal 3 (clsOf q) = some r)) (⟨.mp, 0⟩) (4) ((State.reset.put FLS_STATUS.BUSY 1))) ∧
    ((fun q a n (s : State) => meets (.flsOpDone false) (s.flashOp = .fls 0 q a n ∧ s.get LOG_CTRL.FREEZE = 0 ∧ n ≤ 256)) (⟨.mp, 0⟩) (0x100) (4) (({ State.reset with flashOp := .fls 0 ⟨.mp, 0⟩ 0x100 4 } : State))) ∧
    ((fun q a n (s : State) => meets (.flsOpDone false) (s.flashOp = .fls 1 q a n ∧ s.get LOG_CTRL.FREEZE = 0 ∧ n ≤ 256)) (⟨.mp, 0⟩) (0x100) (4) (({ State.reset with flashOp := .fls 1 ⟨.mp, 0⟩ 0x100 4 } : State))) ∧
    ((fun q a (s : State) => meets (.flsOpDone false) (s.flashOp = .fls 2 q a 0x10000 ∧ s.get LOG_CTRL.FREEZE = 0)) (⟨.mp, 0⟩) (0) (({ State.reset with flashOp := .fls 2 ⟨.mp, 0⟩ 0 0x10000 } : State))) ∧
    ((fun q a n (s : State) => meets (.flsOpDone false) (s.flashOp = .fls 3 q a n ∧ s.get LOG_CTRL.FREEZE = 0)) (⟨.mp, 0⟩) (0x100) (4) (({ State.reset with flashOp := .fls 3 ⟨.mp, 0⟩ 0x100 4 } : State))) ∧
    ((fun o q a n (s : State) => meets (.flsOpDone true) (s.flashOp = .fls o q a n ∧ s.get LOG_CTRL.FREEZE = 0)) (1) (⟨.mp, 0⟩) (0x100) (4) (({ State.reset with flashOp := .fls 1 ⟨.mp, 0⟩ 0x100 4 } : State))) :=
  by
  and_intros
  all_goals decide +kernel

/-- ConfidentialContextsAndScrubs: clauses 1, 2, 3, 4, 5, 6, 7. -/
theorem test_confidentialContextsAndScrubs :
    ((fun q c (s : State) => meets (.secConfSet q c) (c < 64 ∧ s.Takes q ((confBit c).addr) ∧ s.confidential c = false ∧ s.resident c = false ∧ s.wasActive = s.active)) (⟨.rp, 3⟩) (7) (State.reset)) ∧
    ((fun q c (s : State) => meets (.secConfSet q c) (c < 64 ∧ s.Takes q ((confBit c).addr) ∧ s.confidential c = false ∧ s.resident c = true)) (⟨.rp, 3⟩) (7) ((State.reset.put (CMK_USLOT.CONTEXT 5) 7).put (CMK_USLOT.EN 5) 1)) ∧
    ((fun q c (s : State) => meets (.secConfClear q c) (c < 64 ∧ s.Takes q ((confBit c).addr) ∧ s.confidential c = true ∧ s.resident c = false ∧ s.wasActive = s.active)) (⟨.rp, 3⟩) (7) (State.reset.put (confBit 7) 1)) ∧
    ((fun q c (s : State) => meets (.secConfClear q c) (c < 64 ∧ s.Takes q ((confBit c).addr) ∧ s.confidential c = true ∧ s.resident c = true ∧ s.wasActive = true)) (⟨.rp, 3⟩) (7) (({ ((State.reset.put (CMK_USLOT.CONTEXT 5) 7).put (CMK_USLOT.EN 5) 1).put (confBit 7) 1 with wasActive := true } : State))) ∧
    ((fun q c (s : State) => meets (.secConfClear q c) (c < 64 ∧ s.Takes q ((confBit c).addr) ∧ s.confidential c = true ∧ s.resident c = true ∧ s.wasActive = true)) (⟨.rp, 3⟩) (7) (({ ((State.reset.put (CMK_USLOT.CONTEXT 5) 7).put (CMK_USLOT.EN 5) 1).put (confBit 7) 1 with wasActive := true } : State))) ∧
    ((fun r (s : State) => meets (.scrub) (s.scrubs.head? = some r ∧ r.yard < Config.yardCount ∧ r.clear = false ∧ r.ctx < 64 ∧ s.wasActive = true)) (⟨5, 7, 0, false⟩) (({ State.reset with wasActive := true, scrubs := [⟨5, 7, 0, false⟩] } : State))) ∧
    ((fun r (s : State) => meets (.scrub) (s.scrubs.head? = some r ∧ Config.yardCount ≤ r.yard ∧ r.yard < 128 ∧ r.clear = true ∧ r.ctx < 64 ∧ s.wasActive = true ∧ ((s.scrubs.tail ≠ [] ∨ (List.range Config.contexts).any (fun c => c != r.ctx && s.confidential c && s.resident c) = true)))) (⟨127, 7, 0, true⟩) (({ State.reset.put (confBit 7) 1 with wasActive := true, scrubs := [⟨127, 7, 0, true⟩, ⟨127, 8, 0, true⟩] } : State))) :=
  by
  and_intros
  all_goals decide +kernel

/-- PilotPortTakesEveryNotice: clauses 2, 3. -/
theorem test_pilotPortTakesEveryNotice :
    ((fun n (s : State) => meets (.pilotNotice n) ((s.inWayOn = false ∨ s.get DRE_CTRL.RUN = 0))) ((⟨5, 1, 4, 3, 2, 100, 7⟩ : Notice)) (State.reset)) ∧
    ((fun y beats (s : State) => meets (.activityRecord y beats) ((s.inWayOn = false ∨ s.get DRE_CTRL.RUN = 0))) (5) ([(0, 1), (1, 2), (2, 3), (3, 4)]) (State.reset)) :=
  by
  and_intros
  all_goals decide +kernel

/-- HoldAckEndsTheWaitOrIsCounted: clauses 1, 2. -/
theorem test_holdAckEndsTheWaitOrIsCounted :
    ((fun n (s : State) => meets (.holdAck n) (s.dreOn = true ∧ n.yard.toNat < Config.yardCount ∧ s.get (YRD_STATUS.YARD_FENCED n.yard.toNat) = 0 ∧ (s.yard n.yard.toNat).belowMin = .waiting)) ((⟨5, 7, 0, 0, 0, 0, 0⟩ : Notice)) ((State.setYard ((State.reset.put GLB_SERVICE.STATE 3).put DRE_CTRL.RUN 1) 5 { State.reset.yard 5 with belowMin := .waiting } : State))) ∧
    ((fun n (s : State) => meets (.holdAck n) (s.dreOn = true ∧ (n.yard = 127 ∨ n.yard.toNat < Config.yardCount ∧ s.get (YRD_STATUS.YARD_FENCED n.yard.toNat) = 0) ∧ (s.yard n.yard.toNat).belowMin ≠ .waiting)) ((⟨95, 7, 0, 0, 0, 0, 0⟩ : Notice)) (((State.reset.put GLB_SERVICE.STATE 3).put DRE_CTRL.RUN 1))) :=
  by
  and_intros
  all_goals decide +kernel

/-- ForecastsWithoutHorizonAreDropped: clauses 1, 2, 3, 4, 5. -/
theorem test_forecastsWithoutHorizonAreDropped :
    ((fun y e (s : State) => meets (.gatherEnd y) ((s.yard y).coal = .gather ∧ e ∈ (s.yard y).gathered ∧ s.sysTime < e.eff ∧ (∀ x ∈ (s.yard y).gathered, s.sysTime < x.eff → e.eff ≤ x.eff))) (5) (⟨⟨5, 1, 0, 3, 2, 100, 7⟩, 200, 0, false⟩) (({ ((State.reset.put GLB_SERVICE.STATE 3).put DRE_CTRL.RUN 1).setYard 5 { State.reset.yard 5 with coal := .gather, gathered := [⟨⟨5, 1, 0, 3, 2, 100, 7⟩, 200, 0, false⟩] } with sysTime := 199 } : State))) ∧
    ((fun y (s : State) => meets (.gatherEnd y) ((s.yard y).coal = .gather ∧ (s.yard y).gathered ≠ [] ∧ (∀ x ∈ (s.yard y).gathered, x.eff ≤ s.sysTime))) (5) (({ ((State.reset.put GLB_SERVICE.STATE 3).put DRE_CTRL.RUN 1).setYard 5 { State.reset.yard 5 with coal := .gather, gathered := [⟨⟨5, 1, 0, 3, 2, 100, 7⟩, 200, 0, false⟩] } with sysTime := 200 } : State))) ∧
    ((fun y e (s : State) => meets (.coolEnd y) ((s.yard y).coal = .cool ∧ e ∈ (s.yard y).pendingSet ∧ s.sysTime < e.eff ∧ (∀ x ∈ (s.yard y).pendingSet, s.sysTime < x.eff → e.eff ≤ x.eff))) (5) (⟨⟨5, 1, 0, 3, 2, 100, 7⟩, 200, 0, false⟩) (({ ((State.reset.put GLB_SERVICE.STATE 3).put DRE_CTRL.RUN 1).setYard 5 { State.reset.yard 5 with coal := .cool, pendingSet := [⟨⟨5, 1, 0, 3, 2, 100, 7⟩, 200, 0, false⟩] } with sysTime := 199 } : State))) ∧
    ((fun y (s : State) => meets (.coolEnd y) ((s.yard y).coal = .cool ∧ (s.yard y).pendingSet ≠ [] ∧ (∀ x ∈ (s.yard y).pendingSet, x.eff ≤ s.sysTime))) (5) (({ ((State.reset.put GLB_SERVICE.STATE 3).put DRE_CTRL.RUN 1).setYard 5 { State.reset.yard 5 with coal := .cool, pendingSet := [⟨⟨5, 1, 0, 3, 2, 100, 7⟩, 200, 0, false⟩] } with sysTime := 200 } : State))) ∧
    ((fun e (s : State) => meets (.forecastComplete false) (s.fly = some e ∧ e.horizon.all (fun h => decide (h < s.sysTime)) = true)) ((⟨5, [], some 8, 0, 0, 3, 2, [7, 9], 0⟩ : Inference)) (({ ((State.reset.put GLB_SERVICE.STATE 3).put DRE_CTRL.RUN 1) with fly := some (⟨5, [], some 8, 0, 0, 3, 2, [7, 9], 0⟩ : Inference), sysTime := 9 } : State))) :=
  by
  and_intros
  all_goals decide +kernel

/-- PagesUnlockByTheKeyAlone: clauses 1, 2, 3, 4, 5, 6, 7. -/
theorem test_pagesUnlockByTheKeyAlone :
    ((fun r (page : Nat) (s : State) => meets (.registerWrite r) (s.responded.rpReady = true ∧ s.cpReset = false ∧ (s.responded.rpOut.any fun e => e.tag == r.tag) = false ∧ s.responded.slowFull r.addr.toNat = false ∧ hasHeader page = true ∧ r.addr.toNat = page * 0x1000 + 0xC ∧ r.strobes = 0xF0 ∧ r.stamp = 1 ∧ mayWriteAt .kern (page * 0x1000 + 0xC) = true ∧ s.holding = false ∧ r.data.extractLsb' 32 32 = 0x0E170001)) ((⟨0x11 * 0x1000 + 0xC, 0x0E170001 * 2 ^ 32, 0xF0, false, 1, 3⟩ : RpReq)) (0x11) ((State.reset.put (unlockedBy 0x11) 2))) ∧
    ((fun r (page : Nat) (s : State) => meets (.registerWrite r) (s.responded.rpReady = true ∧ s.cpReset = false ∧ (s.responded.rpOut.any fun e => e.tag == r.tag) = false ∧ s.responded.slowFull r.addr.toNat = false ∧ hasHeader page = true ∧ r.addr.toNat = page * 0x1000 + 0xC ∧ r.strobes = 0xF0 ∧ r.stamp = 1 ∧ mayWriteAt .kern (page * 0x1000 + 0xC) = true ∧ s.holding = false ∧ r.data.extractLsb' 32 32 = 0x0E170002)) ((⟨0x6A * 0x1000 + 0xC, 0x0E170002 * 2 ^ 32, 0xF0, false, 1, 3⟩ : RpReq)) (0x6A) ((State.reset.put (unlockedF 0x6A) 1))) ∧
    ((fun r (page : Nat) (s : State) => meets (.registerWrite r) (s.responded.rpReady = true ∧ s.cpReset = false ∧ (s.responded.rpOut.any fun e => e.tag == r.tag) = false ∧ s.responded.slowFull r.addr.toNat = false ∧ hasHeader page = true ∧ r.addr.toNat = page * 0x1000 + 0xC ∧ r.strobes = 0xF0 ∧ r.stamp = 1 ∧ mayWriteAt .kern (page * 0x1000 + 0xC) = true ∧ Word.field (r.data.extractLsb' 32 32) 16 16 ≠ 0x0E17)) ((⟨0x4 * 0x1000 + 0xC, 0x0E180001 * 2 ^ 32, 0xF0, false, 1, 3⟩ : RpReq)) (0x4) (State.reset)) ∧
    ((fun r (page : Nat) (s : State) => meets (.registerWrite r) (s.responded.rpReady = true ∧ s.cpReset = false ∧ (s.responded.rpOut.any fun e => e.tag == r.tag) = false ∧ s.responded.slowFull r.addr.toNat = false ∧ hasHeader page = true ∧ r.addr.toNat = page * 0x1000 + 0xC ∧ r.strobes = 0xF0 ∧ r.stamp ≠ 1)) ((⟨0xE * 0x1000 + 0xC, 0x0E170001 * 2 ^ 32, 0xF0, false, 3, 3⟩ : RpReq)) (0xE) (State.reset)) ∧
    ((fun (page : Nat) (s : State) => meets (.mpPrivateWrite ((0x20 : Byte) :: le 3 (page * 0x1000 + 0xC) ++ le 4 (0x0E170001))) (s.requestHeld = false ∧ s.cpReset = false ∧ hasHeader page = true ∧ mayWriteAt .mgmt (page * 0x1000 + 0xC) = true)) (0x3) ((State.reset.put FLT_STATUS.HOLD 1))) ∧
    ((fun (page : Nat) (s : State) => meets (.mpPrivateWrite ((0x20 : Byte) :: le 3 (page * 0x1000 + 0xC) ++ le 4 (0x0E170002))) (s.requestHeld = false ∧ s.cpReset = false ∧ hasHeader page = true ∧ mayWriteAt .mgmt (page * 0x1000 + 0xC) = true)) (0x3) ((State.reset.put (unlockedF 3) 1))) ∧
    ((fun (page w : Nat) (s : State) => meets (.mpPrivateWrite ((0x20 : Byte) :: le 3 (page * 0x1000 + 0xC) ++ le 4 (w))) (s.requestHeld = false ∧ s.cpReset = false ∧ hasHeader page = true ∧ mayWriteAt .mgmt (page * 0x1000 + 0xC) = true ∧ w < 2 ^ 32 ∧ w / 2 ^ 16 ≠ 0x0E17)) (0x14) (0x00170001) (State.reset)) :=
  by
  and_intros
  all_goals decide +kernel

/-- UnpermittedAccessesArePerformedOnNothing: clauses 1, 2, 3, 4, 5, 6, 7. -/
theorem test_unpermittedAccessesArePerformedOnNothing :
    ((fun r (s : State) => meets (.registerWrite r) (s.responded.rpReady = true ∧ s.cpReset = false ∧ (s.responded.rpOut.any fun e => e.tag == r.tag) = false ∧ s.responded.slowFull r.addr.toNat = false ∧ mayWriteAt (clsOf (reqOf r)) (homeAddr r.addr.toNat) = false ∧ (∀ e ∈ (reqWords r).2, mayWriteAt (clsOf (reqOf r)) e.1 = false))) ((⟨0x21180, 2, 0x0F, false, 0, 3⟩ : RpReq)) (State.reset)) ∧
    ((fun r (s : State) => meets (.registerWrite r) (s.responded.rpReady = true ∧ s.cpReset = false ∧ (s.responded.rpOut.any fun e => e.tag == r.tag) = false ∧ s.responded.slowFull r.addr.toNat = false ∧ (r.stamp = 4 ∨ r.stamp = 5))) ((⟨0x140000, 2, 0xFF, false, 4, 3⟩ : RpReq)) (State.reset)) ∧
    ((fun r (s : State) => meets (.registerRead r) (s.responded.rpReady = true ∧ s.cpReset = false ∧ (s.responded.rpOut.any fun e => e.tag == r.tag) = false ∧ s.responded.slowFull r.addr.toNat = false ∧ r.addr.toNat % (if r.wide then 8 else 4) = 0 ∧ mayReadAt (clsOf (reqOf r)) (homeAddr r.addr.toNat) = false)) ((⟨0x100000, 0, 0, true, 3, 3⟩ : RpReq)) (State.reset)) ∧
    ((fun r (s : State) => meets (.registerRead r) (s.responded.rpReady = true ∧ s.cpReset = false ∧ (s.responded.rpOut.any fun e => e.tag == r.tag) = false ∧ s.responded.slowFull r.addr.toNat = false ∧ r.addr.toNat % (if r.wide then 8 else 4) = 0 ∧ (r.stamp = 4 ∨ r.stamp = 5))) ((⟨0x1FFFFC, 0, 0, false, 5, 3⟩ : RpReq)) (State.reset)) ∧
    ((fun dr (s : State) => meets (.otAccessUpdate dr) (dr.getLsbD 21 = true ∧ dr.getLsbD 22 = false ∧ (dr.extractLsb' 0 21).toNat % 4 = 0 ∧ s.cpReset = false ∧ s.dbgHeld = none ∧ s.active = false ∧ mayWriteAt .dbg (homeAddr (dr.extractLsb' 0 21).toNat) = false)) ((0x200040 : BitVec 90)) (State.reset)) ∧
    ((fun dr (s : State) => meets (.otAccessUpdate dr) (dr.getLsbD 21 = false ∧ dr.getLsbD 22 = false ∧ (dr.extractLsb' 0 21).toNat % 4 = 0 ∧ s.cpReset = false ∧ s.dbgHeld = none ∧ s.active = false ∧ mayReadAt .dbg (homeAddr (dr.extractLsb' 0 21).toNat) = false)) ((0x003400 : BitVec 90)) (State.reset)) ∧
    ((fun (a w : Nat) (s : State) => meets (.mpPrivateWrite ((0x20 : Byte) :: le 3 a ++ le 4 w)) (s.requestHeld = false ∧ s.cpReset = false ∧ a < 2 ^ 21 ∧ a % 4 = 0 ∧ w < 2 ^ 32 ∧ mayWriteAt .mgmt (homeAddr a) = false)) (0x43FC) (1) (State.reset)) :=
  by
  and_intros
  all_goals decide +kernel

/-- ResetsPortsAndPilotsComplete: clauses 1, 3, 4, 5, 6, 7, 9, 10, 11, 12, 13, 14, 15, 16, 17, 19, 21, 22, 23, 24, 25, 26, 27, 28, 29, 30, 31, 32, 33, 34, 35, 36, 37, 38, 39, 40, 41, 42, 43. -/
theorem test_resetsPortsAndPilotsComplete :
    ((fun src lowNs i (s : State) => meets (.powerOnReset src lowNs i) ((src ≠ .porstN ∨ 2000 ≤ lowNs))) (.porstN) (2000) (⟨[], none, 0, [], 0⟩) (((State.reset.put THM_STATUS.TRIP 1).put THM_TRIP_SRC.SENSOR 5))) ∧
    ((fun (s : State) => meets (.deadSlowEntry) (s.inBoot = true ∧ s.blkReset = false ∧ s.outstandingF = false)) (State.reset)) ∧
    ((fun readErr (s : State) => meets (.imageReadEnd readErr) (s.get GLB_SERVICE.FW_RESULT = 0 ∧ s.get GLB_SERVICE.STATE < 2 ∧ s.armedFor 3 = none)) (true) (State.reset)) ∧
    ((fun tRt (s : State) => meets (.rollCall tRt []) (s.rollCalled = false ∧ s.inBoot = false ∧ s.get STG_STATUS.PG = 3 ∧ tRt ≤ 28000 ∧ (∀ b < Config.bayCount, (s.bay b).failFenced = false) ∧ (∀ y < Config.yardCount, Config.minBays y ≤ (s.usableBays y).length))) (28000) (((State.reset.put GLB_SERVICE.STATE 1).put STG_STATUS.PG 3))) ∧
    ((fun (s : State) => meets (.wayOnTransition) (s.r26 = false ∧ s.get GLB_SERVICE.STATE = 1 ∧ s.mayWayOn = true ∧ (∀ e ∈ s.journal, e.state ≠ .accepted) ∧ (∀ d < Config.yardCount, (s.dom d).rewake = false))) (({ (State.reset.put GLB_SERVICE.STATE 1).put CLK_STATUS.LOCK 1 with image := some 9, mono := 20000000 } : State))) ∧
    ((fun i (s : State) => meets (.logScan) (s.on LOG_STATUS.SCANNING = true ∧ s.get GLB_SERVICE.FW_RESULT ≠ 0 ∧ s.firstEmpty 0 8192 = some i)) (0) (State.reset.put GLB_SERVICE.FW_RESULT 1)) ∧
    ((fun diff (s : State) => meets (.pllUnlock diff) (s.get CLK_STATUS.SOURCE = 1)) (7) (((State.reset.put GLB_SERVICE.STATE 3).put CLK_STATUS.SOURCE 1))) ∧
    ((fun (s : State) => meets (.pllRelock) (s.r26 = true ∧ s.outstandingF = false ∧ (∀ e ∈ s.journal, e.state ≠ .accepted))) (({ State.reset.put GLB_SERVICE.STATE 2 with r26 := true } : State))) ∧
    ((fun q (s : State) => meets (.glbResetControlPlane q) (s.Takes q GLB_RESET.KEY.addr ∧ s.resetRuns = 0)) (⟨.rp, 1⟩) (((State.reset.put GLB_SERVICE.STATE 3).put CLK_STATUS.SOURCE 1))) ∧
    ((fun (s : State) => meets (.controlPlaneResetEnd) (s.cpReset = true ∧ s.get THM_STATUS.TRIP = 0 ∧ (∀ e ∈ s.journal, e.isFinal = true ∨ e.state ≠ .accepted ∧ e.cmdTag ∈ s.engineTags) ∧ s.kept = [] ∧ s.latched = [] ∧ s.requestHeld = false ∧ s.dbgHeld = none ∧ (∀ e ∈ s.armedErr, e.1 ≠ 4))) (({ State.reset with cpReset := true } : State))) ∧
    ((fun q i (s : State) => meets (.glbResetBlock q i) (s.Takes q GLB_RESET.KEY.addr ∧ clsOf q = .mgmt ∧ s.resetRuns ≠ 2 ∧ s.allOff = true)) (⟨.mp, 0⟩) (⟨[], none, 0, [], 0⟩) (((State.reset.put GLB_SERVICE.STATE 3).put CLK_STATUS.SOURCE 1))) ∧
    ((fun cause (s : State) => meets (.helmPairFailure cause) (s.get HLM_STATUS.HELM_OUT = 0)) (.memUe 64) (((State.reset.put GLB_SERVICE.STATE 3).put CLK_STATUS.SOURCE 1))) ∧
    ((fun cause (s : State) => meets (.serviceCoreFailure 1 cause) (s.get HLM_STATUS.SC1_OUT = 0 ∧ s.get HLM_STATUS.SC0_OUT = 0 ∧ s.get HLM_STATUS.EXEC ≠ 2)) (.watchdog) (((State.reset.put GLB_SERVICE.STATE 3).put CLK_STATUS.SOURCE 1))) ∧
    ((fun r (s : State) => meets (.registerWrite r) (s.responded.rpReady = true ∧ s.cpReset = false ∧ (s.responded.rpOut.any fun e => e.tag == r.tag) = false ∧ s.responded.slowFull r.addr.toNat = false)) ((⟨0x7018, 0xFF, 0x0F, false, 1, 3⟩ : RpReq)) (State.reset)) ∧
    ((fun bytes u lo hi bad (s : State) => meets (.mpPrivateWrite bytes) (s.requestHeld = false ∧ mpFormOk bytes = true ∧ s.cpReset = false ∧ bytes.headD 0 = 0x10 ∧ s.portRead ⟨.mp, 0⟩ (ofLe (bytes.tail.take 3) % 2 ^ 21) false = (u, lo, hi, bad))) ([0x10, 0x18, 0x70, 0]) ((State.reset.portRead ⟨.mp, 0⟩ 0x7018 false).1) (0) (0) (false) (State.reset)) ∧
    ((fun how addr (s : State) => meets (.i3cDynamicAddress how addr) (s.takesAddr how = true)) (.setdasa 0x74) (0x2A) (State.reset)) ∧
    ((fun (s : State) => meets (.ibiRaise true) (s.Wired ∧ s.mayInterrupt = true)) (((State.reset.put PRT_MP.IBI_PEND 2).put PRT_MP.DYN_ADDR 9))) ∧
    ((fun dr (s : State) => meets (.otAccessUpdate dr) (s.cpReset = true ∧ s.dbgHeld = none)) ((0x7018 : BitVec 90)) (({ State.reset with cpReset := true } : State))) ∧
    ((fun q idx data (s : State) => meets (.prtH2mWrite q idx data) (s.Takes q (PRT_H2M.DATA idx).addr ∧ clsOf q = .kern ∧ idx < 32)) (⟨.rp, 1⟩) (31) (0xDEADBEEF) (State.reset)) ∧
    ((fun q page (s : State) => meets (.pgUnlock q page) (s.Takes q (page * 0x1000 + 0xC) ∧ hasHeader page = true ∧ (clsOf q = .mgmt ∨ clsOf q = .kern))) (⟨.rp, 1⟩) (0x11) (State.reset)) ∧
    ((fun q page (s : State) => meets (.pgLock q page) (s.Takes q (page * 0x1000 + 0xC) ∧ hasHeader page = true ∧ (clsOf q = .mgmt ∨ clsOf q = .kern))) (⟨.rp, 1⟩) (0x11) (State.reset)) ∧
    ((fun q region page (s : State) => meets (.xrecUnlock q region page) (s.Takes q GLB_XREC.KEY.addr ∧ (clsOf q = .mgmt ∨ clsOf q = .kern) ∧ region < 3 ∧ page < xrecPages region)) (⟨.rp, 1⟩) (1) (3) (State.reset)) ∧
    ((fun q region page (s : State) => meets (.xrecLock q region page) (s.Takes q GLB_XREC.KEY.addr ∧ (clsOf q = .mgmt ∨ clsOf q = .kern) ∧ region < 3 ∧ page < xrecPages region)) (⟨.rp, 1⟩) (1) (3) (State.reset)) ∧
    ((fun n (s : State) => meets (.pilotNotice n) (s.dreOn = true ∧ noticeBad n = false ∧ 1 ≤ n.kind.toNat ∧ n.kind.toNat ≤ 4 ∧ s.get (YRD_STATUS.YARD_FENCED n.yard.toNat) = 0 ∧ (s.yard n.yard.toNat).coal = .idle)) ((⟨5, 1, 4, 3, 2, 100, 7⟩ : Notice)) (((State.reset.put GLB_SERVICE.STATE 3).put DRE_CTRL.RUN 1))) ∧
    ((fun n k (s : State) => meets (.collBegin n) (s.dreOn = true ∧ n.yard = 127 ∧ s.findColl n.context.toNat n.tag.toNat = none ∧ s.freeColl = some k)) ((⟨127, 5, 4, 3, 2, 100, 7⟩ : Notice)) (0) (((State.reset.put GLB_SERVICE.STATE 3).put DRE_CTRL.RUN 1))) ∧
    ((fun n k c (s : State) => meets (.collEnd n) (s.dreOn = true ∧ n.yard = 127 ∧ s.findColl n.context.toNat n.tag.toNat = some k ∧ s.coll k = some c ∧ c.closes = none)) ((⟨127, 6, 4, 3, 2, 100, 7⟩ : Notice)) (0) ((⟨3, 7, 100, none, 0⟩ : Coll)) ({ (State.setColl ((State.reset.put GLB_SERVICE.STATE 3).put DRE_CTRL.RUN 1) 0 (some (⟨3, 7, 100, none, 0⟩ : Coll))) with sysTime := 100 })) ∧
    ((fun n (s : State) => meets (.holdAck n) (s.dreOn = true ∧ n.yard = 127)) ((⟨127, 5, 4, 3, 2, 100, 7⟩ : Notice)) (((State.reset.put GLB_SERVICE.STATE 3).put DRE_CTRL.RUN 1))) ∧
    ((fun k c (s : State) => meets (.collectiveOpen k) (s.nextColl = some c ∧ s.findColl c.ctx c.tag = none ∧ k < 16 ∧ s.coll k = none)) (15) ((⟨3, 7, 100, none, 0⟩ : Coll)) ({ ((State.reset.put GLB_SERVICE.STATE 3).put DRE_CTRL.RUN 1) with collPend := [(⟨3, 7, 100, none, 0⟩ : Coll)] })) ∧
    ((fun k c (s : State) => meets (.collectiveClose k) (s.coll k = some c ∧ c.closes.isSome = true)) (0) ((⟨3, 7, 100, some 900, 0⟩ : Coll)) ((State.setColl ((State.reset.put GLB_SERVICE.STATE 3).put DRE_CTRL.RUN 1) 0 (some (⟨3, 7, 100, some 900, 0⟩ : Coll))))) ∧
    ((fun y eff kind c (s : State) => meets (.ownershipChange y) (y < Config.yardCount ∧ Config.isPrivate y = true ∧ (s.yard y).ownNext = some (eff, kind, c) ∧ s.domState y ≠ 4 ∧ s.get (YRD_STATUS.YARD_FENCED y) = 0 ∧ c < 64 ∧ (kind = 1 ∨ kind = 3))) (5) (40) (3) (9) ((((State.reset.put GLB_SERVICE.STATE 3).put (PWS_DOM.STATE 5) 0).setYard 5 { State.reset.yard 5 with ownPend := [(60, 1, 8), (40, 3, 9)] } : State))) ∧
    ((fun q (j : Nat) (data : Word) (s : State) => meets (.capYownWrite q j data) (s.Takes q (CAP_YOWN.OWNER j).addr ∧ clsOf q = .kern ∧ (∀ k : Nat, k < 4 → Config.isPrivate (4 * j + k) = true) ∧ (∀ k : Nat, k < 4 → data.field (8 * k) 8 ≤ 64) ∧ (∀ k : Nat, k < 4 → s.get (Fld.byte CAP_YOWN.OWNER (4 * j + k)) ≤ 64))) (⟨.rp, 1⟩) (1) (0x40054003) ((List.range 4).foldl (fun s k => s.put (PWS_DOM.STATE (4 + k)) 0) (State.reset.put GLB_SERVICE.STATE 3))) ∧
    ((fun y (s : State) => meets (.gatherEnd y) ((s.yard y).coal = .gather ∧ (s.yard y).gathered ≠ [])) (5) ((((State.reset.put GLB_SERVICE.STATE 3).put DRE_CTRL.RUN 1).setYard 5 { State.reset.yard 5 with coal := .gather, gathered := [⟨⟨5, 1, 4, 3, 2, 100, 7⟩, 200, 0, false⟩] } : State))) ∧
    ((fun y (s : State) => meets (.coolEnd y) ((s.yard y).coal = .cool ∧ (s.yard y).pendingSet = [])) (5) ((((State.reset.put GLB_SERVICE.STATE 3).put DRE_CTRL.RUN 1).setYard 5 { State.reset.yard 5 with coal := .cool } : State))) ∧
    ((fun e (s : State) => meets (.inferenceDispatch) (s.dreOn = true ∧ s.fly = none ∧ firstInference s.due = some e ∧ s.slotServes (s.ymap e.yard) e.yard = true)) ((⟨5, [], none, 0, 0, 0, 0, [], 0⟩ : Inference)) (({ (((((State.reset.put GLB_SERVICE.STATE 3).put DRE_CTRL.RUN 1).put (DRE_SLOT_STAT.VALID 0) 1).setWord (DRE_YMAP.SLOT 0).addr 0).setStore 0x2010 0xFF) with due := [⟨5, [], none, 0, 0, 0, 0, [], 0⟩] } : State))) ∧
    ((fun e (s : State) => meets (.forecastComplete false) (s.fly = some e ∧ e.horizon = none)) ((⟨5, [], none, 0, 0, 0, 0, [], 0⟩ : Inference)) (({ ((State.reset.put GLB_SERVICE.STATE 3).put DRE_CTRL.RUN 1) with fly := some (⟨5, [], none, 0, 0, 0, 0, [], 0⟩ : Inference) } : State))) ∧
    ((fun y c p (s : State) => meets (.presetApply y) (y < Config.yardCount ∧ (s.yard y).waiting = [c] ∧ s.courseHeld = false ∧ s.running y = true ∧ s.sysTime < c.horizon ∧ (let w := s.setYard y { s.yard y with waiting := [] }; if s.get THM_WARM_LIM.LOAD * s.limit20 y < 100 * fpk c.f then w.endHeat y else w).presetsOf y c.f = p)) (5) ((⟨[7, 9], 900, 0, 100, ⟨2, 3, 4⟩, none⟩ : Forecast)) (((yard5Running).presetsOf 5 [7, 9])) ((yard5Running.setYard 5 { yard5Running.yard 5 with waiting := [(⟨[7, 9], 900, 0, 100, ⟨2, 3, 4⟩, none⟩ : Forecast)], presets := ⟨1, 5, 0⟩ } : State))) ∧
    ((fun y c (s : State) => meets (.presetHorizon y) (y < Config.yardCount ∧ (s.yard y).cur = some c ∧ c.horizon ≤ s.sysTime)) (5) ((⟨[7, 9], 900, 0, 100, ⟨2, 3, 4⟩, none⟩ : Forecast)) (({ (yard5Running.setYard 5 { yard5Running.yard 5 with cur := some (⟨[7, 9], 900, 0, 100, ⟨2, 3, 4⟩, none⟩ : Forecast), presets := ⟨9, 9, 9⟩ } : State) with sysTime := 900 } : State))) ∧
    ((fun y c (s : State) => meets (.presetEnd y) (y < Config.yardCount ∧ (s.yard y).cur = some c ∧ s.presetsEnd c ≤ s.sysTime)) (5) ((⟨[7, 9], 900, 0, 100, ⟨2, 3, 4⟩, none⟩ : Forecast)) (({ (yard5Running.setYard 5 { yard5Running.yard 5 with cur := some (⟨[7, 9], 900, 0, 100, ⟨2, 3, 4⟩, none⟩ : Forecast), presets := ⟨9, 9, 9⟩ } : State) with sysTime := 90000000 } : State))) ∧
    ((fun y (s : State) => meets (.preraiseEnd y) (y < Config.yardCount)) (5) ((yard5Running.setYard 5 { yard5Running.yard 5 with cur := some (⟨[7, 9], 900, 0, 100, ⟨2, 3, 4⟩, none⟩ : Forecast), presets := ⟨9, 9, 9⟩ } : State))) :=
  by
  and_intros
  all_goals first | decide +kernel | simp [commandRows]

/-- BundlesOrdersAndYardWordsComplete: clauses 1, 2, 3, 4, 5, 6, 8, 9, 10, 11, 13, 14, 15, 16, 17, 18, 19, 20, 21, 22, 23, 24, 25, 26, 27, 28, 29, 30, 31, 32, 33, 34, 35, 36, 37, 38, 39, 40, 41, 42. -/
theorem test_bundlesOrdersAndYardWordsComplete :
    ((fun q slot src (s : State) => meets (.dreLoadGo q slot src) (s.Takes q DRE_LOAD.GO.addr ∧ src ≤ 2 ∧ slot < 8 ∧ s.inWayOn = true ∧ s.get DRE_STATUS.LOAD_STATE = 0 ∧ s.get DRE_STATUS.SPARE < 9)) (⟨.rp, 1⟩) (7) (2) (((State.reset.put GLB_SERVICE.STATE 3).put DRE_CTRL.RUN 1))) ∧
    ((fun l fb r host (s : State) => meets (.bundleFetchDone host false) (s.load = some l ∧ l.src = 0 ∧ l.slot < 8 ∧ fb = frameBase (s.get DRE_STATUS.SPARE) ∧ s.get DRE_STATUS.SPARE < 9 ∧ s.headerOk fb = true ∧ s.checkBundle fb = r)) ((⟨2, 0, 0, none⟩ : Load)) (0x72000) (2) ([]) (({ (State.reset.put GLB_SERVICE.STATE 3).put DRE_STATUS.LOAD_STATE 1 with load := some ⟨2, 0, 0, none⟩, store := [(0x72000, 0x4F), (0x72001, 0x54), (0x72002, 0x44), (0x72003, 0x52), (0x72004, 1), (0x72007, 1), (0x72009, 2)] } : State))) ∧
    ((fun q (s : State) => meets (.dreCtrlRunWrite q false) (s.Takes q DRE_CTRL.RUN.addr)) (⟨.rp, 1⟩) ((State.setColl ((State.reset.put GLB_SERVICE.STATE 3).put DRE_CTRL.RUN 1) 0 (some (⟨3, 7, 100, some 900, 0⟩ : Coll))))) ∧
    ((fun y beats (s : State) => meets (.activityRecord y beats) (y < Config.yardCount ∧ s.dreOn = true ∧ beats.map (fun b => b.1.toNat) = [0, 1, 2, 3])) (95) ([((0 : BitVec 2), (5 : BitVec 128)), (1, 6), (2, 7), (3, 8)]) (((State.reset.put GLB_SERVICE.STATE 3).put DRE_CTRL.RUN 1))) ∧
    ((fun (s : State) => meets (.activityTick) (s.dreOn = true)) ((((State.reset.put GLB_SERVICE.STATE 3).put DRE_CTRL.RUN 1).setYard 5 { State.reset.yard 5 with stage := some [1, 2, 3] } : State))) ∧
    ((fun (time : BitVec 64) (s : State) => meets (.tbStrobe time true) (s.epochs = [])) (0xFFFFFFFFFFFFFFF0) (State.reset)) ∧
    ((fun r (s : State) => meets (.speedOrderPlace) (s.soFly = none ∧ s.soReq = s.soAck ∧ s.nextSpeed = some r)) ((⟨5, 100, 3, none, true, 0⟩ : SpeedReq)) (({ State.reset with soQueue := [(⟨5, 100, 3, none, true, 0⟩ : SpeedReq)] } : State))) ∧
    ((fun f (s : State) => meets (.soDone f.req.yard) (s.soFly = some f ∧ f.req.vid = none ∧ (s.yard f.req.yard).speedNext = none)) ((⟨(⟨5, 100, 3, none, true, 0⟩ : SpeedReq), false⟩ : InFlight)) (({ State.reset with soFly := some ⟨(⟨5, 100, 3, none, true, 0⟩ : SpeedReq), false⟩ } : State))) ∧
    ((fun f (s : State) => meets (.soTimeout) (s.soFly = some f ∧ f.again = false)) ((⟨(⟨5, 100, 3, none, true, 0⟩ : SpeedReq), false⟩ : InFlight)) (({ State.reset with soFly := some ⟨(⟨5, 100, 3, none, true, 0⟩ : SpeedReq), false⟩ } : State))) ∧
    ((fun y w (s : State) => meets (.vfWaitExpiry y) ((s.yard y).vfWait = some w)) (5) ((⟨100, 3, none, some 40, 0⟩ : VfWait)) ((State.reset.setYard 5 { State.reset.yard 5 with vfWait := some ⟨100, 3, none, some 40, 0⟩ } : State))) ∧
    ((fun b (s : State) => meets (.ccpEpochMessage b) (1 ≤ beatField b 0 56 8 ∧ beatField b 0 56 8 ≤ 3 ∧ s.ccpCheck b true = 0 ∧ s.lastEpoch.all (fun l => decide (l < beatField b 0 0 32)) = true ∧ s.sysTime ≤ beatField b 1 0 64 ∧ beatField b 1 0 64 ≤ s.sysTime + 1000000 * s.get CAP_EPOCH.MAX_LEAD ∧ s.epochs.length < 8 ∧ s.tbValid = true)) ([(BitVec.ofNat 64 (3 * 2 ^ 56 + 2 ^ 55 + 7), true), (BitVec.ofNat 64 900, true), (BitVec.ofNat 64 300, true)]) (({ State.reset.put CAP_EPOCH.MAX_LEAD 1 with tbValid := true } : State))) ∧
    ((fun b (s : State) => meets (.ccpCancel b) (s.ccpCheck b true = 0 ∧ s.tbValid = true ∧ beatField b 1 0 64 ≤ s.sysTime + 1000000 * s.get CAP_EPOCH.MAX_LEAD ∧ s.epochs.length < 8 ∧ s.epochs.any (fun e => e.number == beatField b 0 0 32) = true)) ([(BitVec.ofNat 64 (4 * 2 ^ 56 + 2 ^ 55 + 7), true), (BitVec.ofNat 64 900, true), (BitVec.ofNat 64 300, true)]) (({ State.reset with tbValid := true, epochs := [(⟨3, 7, 0, 0, 2⟩ : Epoch)] } : State))) ∧
    ((fun e (s : State) => meets (.epochApply) (s.tbValid = true ∧ s.courseHeld = false ∧ s.dueEpoch = some e ∧ e.type = 3 ∧ e.value ≤ 3 ∧ s.get CAP_MODE.LOCK = 0)) ((⟨3, 7, 0, 0, 2⟩ : Epoch)) (({ State.reset with tbValid := true, epochs := [(⟨3, 7, 0, 0, 2⟩ : Epoch)] } : State))) ∧
    ((fun seg (s : State) => meets (.superframe seg) (seg < Config.segments ∧ (∀ y < Config.yardCount, firstSeg y = seg → (s.dom y).step ≠ .waitSuper ∧ s.hotBays y = [] ∧ ∀ b ∈ reach y, (s.bay b).releasing = false) ∧ s.substWait = [] ∧ s.far ≠ .applying ∧ (seg = 0 → s.claims = []))) (15) (State.reset)) ∧
    ((fun seg sfn share crc (s : State) => meets (.sync seg sfn share crc) (fbbOk (withCrc (syncWord sfn.toNat share.toNat) crc) = true)) (0) (9) (0x1234) (BitVec.ofNat 4 ((syncWord 9 0x1234).field 0 4)) ((State.reset.setBay 3 { State.reset.bay 3 with holding := true, missed := 5 } : State))) ∧
    ((fun b (s : State) => meets (.syncLost b false) (Config.bayFitted b = true ∧ (s.bay b).silent = false)) (3) ((State.reset.setBay 3 { State.reset.bay 3 with missed := 3 } : State))) ∧
    ((fun b words c (s : State) => meets (.sharingApply b words) (Config.bayFitted b = true ∧ (s.bay b).silent = false ∧ (s.bay b).holding = false ∧ (s.bay b).syncCrc = some c ∧ shareCrc words = c.toNat ∧ (s.bay b).allHands = false)) (3) ([0xD000, 0, 0, 0, 0, 0, 0, 0, 0, 0]) (BitVec.ofNat 16 (shareCrc [0xD000, 0, 0, 0, 0, 0, 0, 0, 0, 0])) ((State.reset.setBay 3 { State.reset.bay 3 with syncCrc := some (BitVec.ofNat 16 (shareCrc [0xD000, 0, 0, 0, 0, 0, 0, 0, 0, 0])) } : State))) ∧
    ((fun seg y (v : BitVec 12) crc b (s : State) => meets (.trim seg y v crc) (fbbOk (withCrc (trimWord y v.toInt) crc) = true ∧ b ∈ s.listeners seg ∧ (s.bay b).yard = y % 128 ∧ (s.bay b).followsTrim = true)) (0) ((State.reset.bay 3).yard) (0xFFE) (BitVec.ofNat 4 ((trimWord ((State.reset.bay 3).yard) (-2)).field 0 4)) (3) ((State.reset.setBay 3 { State.reset.bay 3 with st := .run }))) ∧
    ((fun seg y code slew crc b (s : State) => meets (.setpoint seg y code slew crc) (fbbOk (withCrc (setpointWord y code slew) crc) = true ∧ b ∈ s.listeners seg ∧ (s.bay b).yard = y % 128 ∧ (s.bay b).followsSet = true)) (0) ((State.reset.bay 3).yard) (300) (7) (BitVec.ofNat 4 ((setpointWord ((State.reset.bay 3).yard) 300 7).field 0 4)) (3) ((State.reset.setBay 3 { State.reset.bay 3 with st := .run, allHands := true } : State))) ∧
    ((fun seg y p crc b (s : State) => meets (.preset seg y p crc) (fbbOk (withCrc (presetWord y p) crc) = true ∧ b ∈ s.listeners seg ∧ (s.bay b).yard = y % 128 ∧ (s.bay b).followsTrim = true)) (0) ((State.reset.bay 3).yard) (9) (BitVec.ofNat 4 ((presetWord ((State.reset.bay 3).yard) 9).field 0 4)) (3) ((State.reset.setBay 3 { State.reset.bay 3 with st := .run }))) ∧
    ((fun seg slot ph1 ph0 crc b (s : State) => meets (.add seg slot ph1 ph0 crc) (fbbOk (withCrc (phaseWord slot ph1 ph0 0) crc) = true ∧ b = 80 * seg + slot ∧ b ∈ s.listeners seg ∧ (s.bay b).st = .run ∧ (s.bay b).allHands = false)) (0) (3) (true) (false) (BitVec.ofNat 4 ((phaseWord 3 true false 0).field 0 4)) (3) ((State.reset.setBay 3 { State.reset.bay 3 with st := .run, p0 := { (State.reset.bay 3).p0 with st := .warm }, p1 := { (State.reset.bay 3).p1 with st := .shedPrep } } : State))) ∧
    ((fun seg slot ph1 ph0 crc b (s : State) => meets (.shedPrep seg slot ph1 ph0 crc) (fbbOk (withCrc (phaseWord slot ph1 ph0 1) crc) = true ∧ b = 80 * seg + slot ∧ b ∈ s.listeners seg ∧ (s.bay b).st ≠ .fenced ∧ (s.bay b).st ≠ .connect ∧ (s.bay b).st ≠ .absent)) (0) (3) (true) (true) (BitVec.ofNat 4 ((phaseWord 3 true true 1).field 0 4)) (3) ((State.reset.setBay 3 { State.reset.bay 3 with st := .run, p0 := { (State.reset.bay 3).p0 with st := .active }, p1 := { (State.reset.bay 3).p1 with st := .warm } } : State))) ∧
    ((fun seg slot ph1 ph0 crc b (s : State) => meets (.cancel seg slot ph1 ph0 crc) (fbbOk (withCrc (phaseWord slot ph1 ph0 2) crc) = true ∧ b = 80 * seg + slot ∧ b ∈ s.listeners seg ∧ (s.bay b).st ≠ .fenced ∧ (s.bay b).st ≠ .connect ∧ (s.bay b).st ≠ .absent)) (0) (3) (true) (true) (BitVec.ofNat 4 ((phaseWord 3 true true 2).field 0 4)) (3) ((State.reset.setBay 3 { State.reset.bay 3 with st := .run, p0 := { (State.reset.bay 3).p0 with st := .active }, p1 := { (State.reset.bay 3).p1 with st := .shedPrep } } : State))) ∧
    ((fun seg slot ph1 ph0 crc b (s : State) => meets (.clearTrip seg slot ph1 ph0 crc) (fbbOk (withCrc (phaseWord slot ph1 ph0 3) crc) = true ∧ b = 80 * seg + slot ∧ b ∈ s.listeners seg ∧ (s.bay b).st ≠ .fenced ∧ (s.bay b).st ≠ .connect ∧ (s.bay b).st ≠ .absent)) (0) (3) (true) (true) (BitVec.ofNat 4 ((phaseWord 3 true true 3).field 0 4)) (3) ((State.reset.setBay 3 { State.reset.bay 3 with st := .run, p0 := { (State.reset.bay 3).p0 with st := .active }, p1 := { (State.reset.bay 3).p1 with st := .tripped } } : State))) ∧
    ((fun seg slot crc b (s : State) => meets (.bayStateOff seg slot crc) (fbbOk (withCrc (bayStateWord slot 0) crc) = true ∧ b = 80 * seg + slot ∧ b ∈ s.listeners seg ∧ (s.bay b).st ≠ .fenced ∧ (s.bay b).st ≠ .connect ∧ (s.bay b).st ≠ .absent)) (0) (3) (BitVec.ofNat 4 ((bayStateWord 3 0).field 0 4)) (3) (((State.reset.setBay 3 { State.reset.bay 3 with st := .run }).put (BAY_REF.TRIM 3) 7))) ∧
    ((fun seg slot crc b (s : State) => meets (.bayStateReady seg slot crc) (fbbOk (withCrc (bayStateWord slot 1) crc) = true ∧ b = 80 * seg + slot ∧ b ∈ s.listeners seg ∧ ((s.bay b).st = .off ∨ (s.bay b).st = .ready ∨ (s.bay b).st = .run ∨ (s.bay b).st = .heat))) (0) (3) (BitVec.ofNat 4 ((bayStateWord 3 1).field 0 4)) (3) ((State.reset.setBay 3 { State.reset.bay 3 with st := .run }))) ∧
    ((fun seg slot crc b (s : State) => meets (.bayStateRun seg slot crc) (fbbOk (withCrc (bayStateWord slot 2) crc) = true ∧ b = 80 * seg + slot ∧ b ∈ s.listeners seg ∧ ((s.bay b).st = .off ∨ (s.bay b).st = .ready ∨ (s.bay b).st = .heat) ∧ (s.bay b).p0.st.out = false)) (0) (3) (BitVec.ofNat 4 ((bayStateWord 3 2).field 0 4)) (3) (State.reset)) ∧
    ((fun seg slot crc b (s : State) => meets (.bayStateHeat seg slot crc) (fbbOk (withCrc (bayStateWord slot 3) crc) = true ∧ b = 80 * seg + slot ∧ b ∈ s.listeners seg ∧ ((s.bay b).st = .ready ∨ (s.bay b).st = .run))) (0) (3) (BitVec.ofNat 4 ((bayStateWord 3 3).field 0 4)) (3) ((State.reset.setBay 3 { State.reset.bay 3 with st := .run }))) ∧
    ((fun seg slot crc b (s : State) => meets (.bayStateFence seg slot crc) (fbbOk (withCrc (bayStateWord slot 4) crc) = true ∧ b = 80 * seg + slot ∧ b ∈ s.listeners seg ∧ (s.bay b).st ≠ .fenced ∧ (s.bay b).st ≠ .connect ∧ (s.bay b).st ≠ .absent)) (0) (3) (BitVec.ofNat 4 ((bayStateWord 3 4).field 0 4)) (3) ((State.reset.setBay 3 { State.reset.bay 3 with st := .run }))) ∧
    ((fun seg slot crc b (s : State) => meets (.bayStateRelease seg slot crc) (fbbOk (withCrc (bayStateWord slot 5) crc) = true ∧ b = 80 * seg + slot ∧ b ∈ s.listeners seg ∧ (s.bay b).st = .fenced ∧ (s.bay b).p0.st ≠ .failed ∧ (s.bay b).p1.st ≠ .failed ∧ s.get (PhF b false) ≠ 5 ∧ s.get (PhF b true) ≠ 5 ∧ (s.bay b).discStep = 0)) (0) (3) (BitVec.ofNat 4 ((bayStateWord 3 5).field 0 4)) (3) ((State.reset.setBay 3 { State.reset.bay 3 with st := .fenced } : State))) ∧
    ((fun seg slot side crc b y (s : State) => meets (.remountConnect seg slot side crc) (fbbOk (withCrc (remountWord slot side true) crc) = true ∧ b = 80 * seg + slot ∧ b ∈ s.listeners seg ∧ remountYard b side = some y ∧ (s.bay b).st = .off ∧ (s.bay b).discStep = 0 ∧ (s.bay b).yard = 127 ∧ ((s.bay b).assigned = none ∨ (s.bay b).assigned = some y) ∧ s.joinable y = true)) (remountBay / 80) (remountBay % 80) (false) (BitVec.ofNat 4 ((remountWord (remountBay % 80) false true).field 0 4)) (remountBay) ((remountYard remountBay false).getD 0) ((State.reset.put (PWS_DOM.STATE ((remountYard remountBay false).getD 0)) 0))) ∧
    ((fun seg slot side crc b (s : State) => meets (.remountDisconnect seg slot side crc) (fbbOk (withCrc (remountWord slot side false) crc) = true ∧ b = 80 * seg + slot ∧ b ∈ s.listeners seg ∧ (Config.remountLow b).isSome = true ∧ (s.bay b).st ≠ .connect ∧ (s.bay b).yard ≠ 127 ∧ (s.bay b).discStep = 0)) (remountBay / 80) (remountBay % 80) (false) (BitVec.ofNat 4 ((remountWord (remountBay % 80) false false).field 0 4)) (remountBay) ((State.reset.setBay remountBay { State.reset.bay remountBay with st := .run, yard := 5 } : State))) ∧
    ((fun b y ok (s : State) => meets (.remountConnectStep b ok) ((s.bay b).st = .connect ∧ (s.bay b).discStep = 0 ∧ (s.bay b).holding = false ∧ (s.bay b).connStep = 3 ∧ (s.bay b).connTo = y ∧ (s.bay b).p0.st.out = false ∧ s.get (YRD_STATUS.ALL_HANDS y) = 0 ∧ (s.yard y).fUnknown = false ∧ s.setFrozen y = false ∧ s.setLow y = false ∧ s.substWait = [] ∧ s.far ≠ .applying)) (remountBay) (5) (true) (((((yard5Running).setBay remountBay { State.reset.bay remountBay with st := .connect, connTo := 5, connStep := 3, yard := 5 }).put (BAY_SHARE.PH0_OFS remountBay) 3).put (YRD_SEGMENTS.SEG 5) 3))) ∧
    ((fun b (s : State) => meets (.remountDisconnectStep b) ((s.bay b).discStep = 1)) (remountBay) ((State.reset.setBay remountBay { State.reset.bay remountBay with st := .run, yard := 5, discStep := 1 } : State))) ∧
    ((fun seg slot reg (data : BitVec 12) crc b (s : State) => meets (.cfgWr seg slot reg data crc) (fbbOk (withCrc (cfgWrWord slot reg data.toNat) crc) = true ∧ b = 80 * seg + slot ∧ b ∈ s.listeners seg)) (0) (3) (3) (17) (BitVec.ofNat 4 ((cfgWrWord 3 3 17).field 0 4)) (3) (State.reset)) ∧
    ((fun seg slot reg crc b (s : State) => meets (.cfgRd seg slot reg crc) (fbbOk (withCrc (cfgRdWord slot reg) crc) = true ∧ b = 80 * seg + slot ∧ b ∈ s.listeners seg)) (1) (2) (0) (BitVec.ofNat 4 ((cfgRdWord 2 0).field 0 4)) (82) (State.reset)) ∧
    ((fun seg (sfn : BitVec 8) (reports : List (Nat × BitVec 16 × Bool)) (s : State) => meets (.currentReport seg sfn reports) (seg < Config.segments ∧ (reports.map (·.1)).Nodup ∧ reports.all (fun r => parityOk (if s.reportsZero (80 * seg + r.1) then 0 else r.2.1) r.2.2) = true)) (0) (9) ([(3, 0x0503, false), (4, 0x0001, false)]) ((State.reset.setBay 3 { State.reset.bay 3 with st := .run }))) ∧
    ((fun seg slot (w : Word) b (s : State) => meets (.event seg slot w) (b = 80 * seg + slot ∧ slot < 80 ∧ s.drives b = true ∧ (s.bay b).unsent ≠ 0 ∧ (s.bay b).answer = none ∧ fbbOk w = true ∧ w = s.eventWord b ∧ seg ∉ s.segDead ∧ (s.bay b).unsent.toNat < 32 ∧ (s.bay b).st ≠ .protect ∧ s.phSt (b, false) ≠ 5 ∧ s.phSt (b, true) ≠ 5)) (0) (3) (((State.reset.setBay 3 { State.reset.bay 3 with st := .run, unsent := 0x10, p0 := { st := .tripped }, p1 := { st := .active } })).eventWord 3) (3) ((State.reset.setBay 3 { State.reset.bay 3 with st := .run, unsent := 0x10, p0 := { st := .tripped }, p1 := { st := .active } }))) ∧
    ((fun seg slot (w : Word) b reg (s : State) => meets (.rdRsp seg slot w) (b = 80 * seg + slot ∧ slot < 80 ∧ s.drives b = true ∧ (s.bay b).answer = some reg ∧ fbbOk w = true ∧ w = s.rspWord b reg ∧ seg ∉ s.segDead ∧ (s.bay b).recover = false)) (0) (3) (((State.reset.setBay 3 { State.reset.bay 3 with st := .run, answer := some 2 })).rspWord 3 2) (3) (2) ((State.reset.setBay 3 { State.reset.bay 3 with st := .run, answer := some 2 }))) ∧
    ((fun seg (s : State) => meets (.fbbSegment seg) (seg < Config.segments ∧ seg ∉ s.segDead ∧ 4 ≤ Tab.get (fun _ => 0) s.silent seg)) (2) (({ State.reset with silent := [(2, 4)] } : State))) :=
  by
  and_intros
  all_goals first | decide +kernel | simp [commandRows]

/-- BaysAndTheTillerComplete: clauses 1, 3, 4, 5, 6, 7, 8, 10, 11, 12, 13, 14, 15, 16, 17, 18, 19, 20, 21, 22, 23, 24, 25, 26, 27, 28, 29, 30, 31, 32. -/
theorem test_baysAndTheTillerComplete :
    ((fun y (s : State) => meets (.holdReqTimeout y) (y < Config.yardCount ∧ (s.yard y).belowMin = .waiting ∧ (s.dom y).step ≠ .stable ∧ (s.dom y).order = none)) (5) (((State.reset.setYard 5 { belowMin := .waiting }).setDom 5 { step := .ramp }))) ∧
    ((fun b ph (s : State) => meets (.autoClearTrip b ph) (Config.bayFitted b = true ∧ s.phSt (b, ph) = 4 ∧ ((s.bay b).ph ph).tripsOut = false)) (5) (true) ((State.reset.put (BAY_STATE.PH1_STATE 5) 4))) ∧
    ((fun y (s : State) => meets (.phaseCountDecision y) (y < Config.yardCount ∧ s.domState y ≤ 2 ∧ s.runBays y ≠ [])) (5) (((((State.reset.put (BAY_STATE.STATE 60) 3).put (PWS_DOM.STATE 5) 0).put (BAY_STATE.PH0_STATE 60) 2).put (BAY_IMON.PH0_I 60) 100))) ∧
    ((fun b lane (s : State) => meets (.sharingJob b lane true) (b < Config.bayCount ∧ s.shareReady b = true ∧ s.shareTurn b = true ∧ s.get (BAY_STATE.YARD b) < Config.yardCount)) (60) (0) (({ (((State.reset.put (BAY_STATE.STATE 60) 3).put (PWS_DOM.STATE 5) 0).put (BAY_STATE.PH0_STATE 60) 2).put (BAY_STATE.YARD 60) 5 with mono := 4400 } : State))) ∧
    ((fun b (s : State) => meets (.sharingDeadlineMiss b) (b < Config.bayCount ∧ s.shareReady b = true ∧ s.shareLimit (b / 80) ≤ s.mono)) (60) (({ ((State.reset.put (BAY_STATE.STATE 60) 3).put (PWS_DOM.STATE 5) 0) with mono := 20000 } : State))) ∧
    ((fun y lane (s : State) => meets (.supervisionJob y lane true) (s.supReady y = true ∧ s.supTurn y = true)) (5) (0) (({ ((State.reset.put (BAY_STATE.STATE 60) 2).put (PWS_DOM.STATE 5) 0).setYard 5 { supAt := some 0 } with mono := 1440 } : State))) ∧
    ((fun b (s : State) => meets (.droopTrip b) (Config.anchorOf b ≠ 0 ∧ (s.bay b).compTripped = false ∧ s.net (s.bay b).yard = false)) (0) ((State.reset.setBay 3 { State.reset.bay 3 with st := .run }))) ∧
    ((fun b (s : State) => meets (.allHandsEnd b) ((s.bay b).allHands = true ∧ s.net (s.bay b).yard = false)) (3) (State.reset.setBay 3 { State.reset.bay 3 with allHands := true, storedTrim := some 5, storedPre := some (7, none) })) ∧
    ((fun b ph (s : State) => meets (.shedStop b ph) (((s.bay b).ph ph).st = .shedPrep ∧ (s.bay b).holding = false)) (3) (true) (State.reset.setBay 3 { State.reset.bay 3 with p1 := { st := .shedPrep } })) ∧
    ((fun b ph (s : State) => meets (.phaseCold b ph) (((s.bay b).ph ph).st = .warm ∧ (s.bay b).holding = false)) (3) (false) (State.reset.setBay 3 { State.reset.bay 3 with p0 := { st := .warm } })) ∧
    ((fun b ph (s : State) => meets (.tripped b ph) ((((s.bay b).ph ph).st = .active ∨ ((s.bay b).ph ph).st = .shedPrep))) (3) (false) (State.reset.setBay 3 { State.reset.bay 3 with p0 := { st := .active } })) ∧
    ((fun b (s : State) => meets (.bayOverload b) (Config.bayFitted b = true)) (3) (State.reset)) ∧
    ((fun b (s : State) => meets (.inputLow b) ((s.bay b).st ≠ .absent ∧ (s.bay b).st ≠ .fenced ∧ (s.bay b).st ≠ .protect)) (3) ((State.reset.setBay 3 { State.reset.bay 3 with st := .run }))) ∧
    ((fun b (s : State) => meets (.outputHigh b) (Config.anchorOf b ≠ 0 ∧ (s.bay b).st ≠ .absent ∧ (s.bay b).st ≠ .fenced ∧ (s.bay b).st ≠ .protect)) (0) (State.reset)) ∧
    ((fun b (s : State) => meets (.protectReturn b) ((s.bay b).st = .protect ∧ (s.bay b).prior ≠ .protect ∧ ((s.bay b).prior ≠ .ready ∨ (s.bay b).allHands = true))) (3) (State.reset.setBay 3 { State.reset.bay 3 with st := .protect, prior := .run })) ∧
    ((fun b ph kind (s : State) => meets (.phaseFailed b ph kind) ((s.bay b).st ≠ .absent ∧ ((s.bay b).ph ph).st ≠ .failed ∧ (kind ≠ .implausible ∨ (s.bay b).st ≠ .heat))) (3) (true) (.stuck) ((State.reset.setBay 3 { State.reset.bay 3 with st := .run }))) ∧
    ((fun q b (s : State) => meets (.bayCtrlFence q b) (b < Config.bayCount ∧ s.Takes q ((BAY_CTRL.reg b).addr) ∧ s.RecordSound ((BAY_CTRL.reg b).addr))) (⟨.rp, 1⟩) (5) (State.reset)) ∧
    ((fun q b (s : State) => meets (.bayCtrlRelease q b) (b < Config.bayCount ∧ s.Takes q ((BAY_CTRL.reg b).addr) ∧ s.RecordSound ((BAY_CTRL.reg b).addr))) (⟨.mp, 0⟩) (1279) (State.reset)) ∧
    ((fun q b (s : State) => meets (.bayCtrlClearTrip q b) (b < Config.bayCount ∧ s.Takes q ((BAY_CTRL.reg b).addr) ∧ s.RecordSound ((BAY_CTRL.reg b).addr))) (⟨.rp, 1⟩) (5) ((State.reset.put (BAY_STATE.PH1_STATE 5) 4))) ∧
    ((fun q b side y (s : State) => meets (.bayRemountGo q b true side) (b < Config.bayCount ∧ s.Takes q ((BAY_REMOUNT.reg b).addr) ∧ s.RecordSound ((BAY_REMOUNT.reg b).addr) ∧ s.unlocked (BAY_REMOUNT.reg b).addr = true ∧ remountYard b side = some y ∧ (s.bay b).assigned = none ∧ s.get (BAY_STATE.STATE b) = 1 ∧ s.joinable y = true)) (⟨.rp, 1⟩) (11) (false) (0) (((((State.reset.put GLB_XREC_BAY.PAGE 0xFFFFF).put GLB_XREC_YRD.PAGE 0xFF).put (BAY_STATE.STATE 11) 1).put (PWS_DOM.STATE 0) 0))) ∧
    ((fun q b th (s : State) => meets (.bayDroopWrite q b th) (b < Config.bayCount ∧ Config.anchorOf b ≠ 0 ∧ 8 ≤ th ∧ th ≤ 48 ∧ s.Takes q ((BAY_DROOP.reg b).addr) ∧ s.RecordSound ((BAY_DROOP.reg b).addr) ∧ s.unlocked (BAY_DROOP.reg b).addr = true)) (⟨.mp, 0⟩) (0) (48) (((State.reset.put GLB_XREC_BAY.PAGE 0xFFFFF).put GLB_XREC_YRD.PAGE 0xFF))) ∧
    ((fun q y th (s : State) => meets (.yrdDroopWrite q y th) (y < Config.yardCount ∧ 8 ≤ th ∧ th ≤ 48 ∧ s.Takes q ((YRD_DROOP.reg y).addr) ∧ s.RecordSound ((YRD_DROOP.reg y).addr))) (⟨.rp, 1⟩) (64) (8) (State.reset)) ∧
    ((fun q y code (s : State) => meets (.yrdVidWrite q y code) (y < Config.yardCount ∧ 40 ≤ code ∧ code ≤ 520 ∧ s.inMaint y = false ∧ (Config.isLogic y = false ∨ 2 ≤ s.domState y) ∧ s.Takes q ((YRD_VID.reg y).addr) ∧ s.RecordSound ((YRD_VID.reg y).addr))) (⟨.rp, 1⟩) (70) (300) ((State.reset.setDom 70 { volt := .full }))) ∧
    ((fun q y (data : Word) (s : State) => meets (.yrdLoopWrite q y data) (y < Config.yardCount ∧ data.field 4 2 ≤ 2 ∧ s.on (CTL.VALID y (data.field 0 3)) = true ∧ s.inMaint y = false ∧ s.unlocked (YRD_LOOP.reg y).addr = true ∧ (s.judgeWord q [((YRD_LOOP.reg y).addr, data)] (YRD_LOOP.reg y).addr).2 = false ∧ s.Takes q ((YRD_LOOP.reg y).addr) ∧ s.RecordSound ((YRD_LOOP.reg y).addr))) (⟨.rp, 1⟩) (3) (0x88) (((State.reset.put GLB_XREC_BAY.PAGE 0xFFFFF).put GLB_XREC_YRD.PAGE 0xFF))) ∧
    ((fun y (s : State) => meets (.samplingInstant y) (s.hasJobs y = true ∧ s.fbPoints y ≠ [] ∧ (s.yard y).pts.all (fun p => !s.outside p.r) = true ∧ (s.yard y).crossings.length + 1 < s.get FAR_OSC.COUNT ∧ s.on (YRD_STATUS.ALL_HANDS y) = false ∧ (s.yard y).supOrder = none ∧ (s.yard y).noFb = false ∧ (s.yard y).hSoft = false ∧ s.on (Fld.bit SXT_MAINT.YARD y) = false ∧ (s.yard y).maintHold = false ∧ (s.dom y).step ≠ .regulator ∧ (s.yard y).held = [] ∧ (s.yard y).vfWait = none ∧ s.strBusy (y / 4 / 2 * 2) 0 = false ∧ -2048 ≤ s.lastTrim y ∧ s.lastTrim y < 2048)) (5) (((State.reset.put (BAY_STATE.STATE 60) 3).put (PWS_DOM.STATE 5) 0))) ∧
    ((fun y (s : State) => meets (.errorQueued y) (s.hasJobs y = true ∧ s.fbPoints y ≠ [] ∧ (s.yard y).plan = .law ∧ ((s.yard y).queued = none ∨ s.classNow y = 0))) (5) ((((State.reset.put (BAY_STATE.STATE 60) 3).put (PWS_DOM.STATE 5) 0).setYard 5 { plan := .law, vset := 3000, got := [(1, 900)] }))) ∧
    ((fun lane wait y (s : State) => meets (.lawJobDispatch lane wait) (lane < Config.lanes ∧ tb (s.get TIL_LANES.RETIRED) lane = false ∧ s.nextJob = some y)) (2) (30) (5) ((((State.reset.put (BAY_STATE.STATE 60) 3).put (PWS_DOM.STATE 5) 0).setYard 5 { queued := some (.law 3) }))) ∧
    ((fun y e (s : State) => meets (.lawJobComplete y true false false) ((s.yard y).flying = some (.law e) ∧ s.classNow y = 0 ∧ s.get (YRD_STATUS.ALL_HANDS y) = 0)) (5) (100) ((((State.reset.put (BAY_STATE.STATE 60) 3).put (PWS_DOM.STATE 5) 0).setYard 5 { flying := some (.law 100), flySet := 1 }))) ∧
    ((fun y v due rest (s : State) => meets (.keelHandover y) ((s.yard y).out = (v, due) :: rest ∧ due ≤ s.mono ∧ s.get (YRD_STATUS.ALL_HANDS y) = 0)) (5) (-9) (0) ([(4, 80)]) ((((State.reset.put (BAY_STATE.STATE 60) 3).put (PWS_DOM.STATE 5) 0).setYard 5 { out := [(-9, 0), (4, 80)] }))) ∧
    ((fun y j (s : State) => meets (.keelMiss y) ((s.yard y).queued = some j ∧ s.classNow y = 1 ∧ (s.yard y).late = false ∧ s.jobDeadline y ≤ s.mono)) (5) (.law 100) (({ (((((State.reset.put (BAY_STATE.STATE 60) 3).put (PWS_DOM.STATE 5) 0).put GLB_SERVICE.STATE 3).setYard 5 { queued := some (.law 100) }).put (YRD_LOOP_NOW.CLASS_NOW 5) 1) with mono := 900 } : State))) :=
  by
  and_intros
  all_goals first | decide +kernel | simp [commandRows]

/-- SensingFarrierAndDomainsComplete: clauses 1, 2, 3, 4, 5, 6, 7, 8, 9, 10, 11, 12, 13, 14, 15, 16, 17, 18, 19, 20, 21, 22, 23, 24, 25, 26, 27, 28, 29, 30, 31, 32, 33, 34, 35, 36, 37. -/
theorem test_sensingFarrierAndDomainsComplete :
    ((fun cl slice ch (code : BitVec 10) loop (s : State) => meets (.conversionDone cl slice ch code loop) (cl < 24 ∧ ch < 16 ∧ tb (s.get (SXT_STATUS.IN_SERVICE cl)) slice = true ∧ s.converting cl slice = some (ch, loop) ∧ s.calConnected cl ch = false ∧ s.get (SXT_CH_WCFG.EN cl ch) = 0)) (3) (1) (6) (200) (true) ((State.reset.setCluster 3 { booked := [6, 7] }))) ∧
    ((fun q cl ch (data : Word) (s : State) => meets (.windowConfigWrite q cl ch true data) (cl < Config.clusterCount ∧ ch < 36 ∧ s.Takes q ((SXT_CH_WCFG.reg cl ch).addr) ∧ s.unlocked (SXT_CH_WCFG.reg cl ch).addr = true)) (⟨.rp, 1⟩) (2) (35) (0x3405) ((State.reset.put (unlockedF 0x53) 1))) ∧
    ((fun q cl ch w (s : State) => meets (.scanWeightWrite q cl ch w) (cl < Config.clusterCount ∧ ch < 36 ∧ w < 256 ∧ s.Takes q ((SXT_CH_SCAN.reg cl ch).addr) ∧ s.unlocked (SXT_CH_SCAN.reg cl ch).addr = true)) (⟨.mp, 0⟩) (2) (32) (1) ((State.reset.put (unlockedF 0x53) 1))) ∧
    ((fun cl slice gnd ref (skew : Int) (s : State) => meets (.estimatorTurnEnd cl slice gnd ref skew) (cl < Config.clusterCount ∧ slice < 5 ∧ tb (s.get (SXT_STATUS.IN_SERVICE cl)) slice = true ∧ s.get (SXT_STATUS.INLINE cl) = 0 ∧ s.get (SXT_STATUS.CAPTURE cl) = 0 ∧ s.get (SXT_STATUS.OUT cl) = slice ∧ s.turnReady cl slice = true ∧ s.estFrozen cl = false ∧ (s.cluster cl).refTurn = false ∧ -2047 ≤ gnd.sum / 2048 ∧ gnd.sum / 2048 ≤ 2047 ∧ gnd.sum / 2048 ≠ ref.sum / 2048 ∧ 12288 ≤ (s.refTarget cl + (ref.sum / 2048 - gnd.sum / 2048) / 2) / (ref.sum / 2048 - gnd.sum / 2048) ∧ (s.refTarget cl + (ref.sum / 2048 - gnd.sum / 2048) / 2) / (ref.sum / 2048 - gnd.sum / 2048) ≤ 20480)) (3) (4) (⟨2048 * 16, 0⟩) (⟨2048 * 12304, 0⟩) (3) (({ State.reset with mono := 400000 } : State))) ∧
    ((fun cl since (s : State) => meets (.tempSubstitution cl) (cl < Config.clusterCount ∧ s.get (SXT_STATUS.TEMP_SUB cl) = 0 ∧ (s.cluster cl).tOff = some since ∧ since + ns 1000000 ≤ s.mono)) (3) (0) (({ State.reset.setCluster 3 { tOff := some 0 } with mono := 2000000 } : State))) ∧
    ((fun q cl ch (s : State) => meets (.sxtUrgGo q cl ch) (cl < Config.clusterCount ∧ ch < 64 ∧ s.Takes q ((SXT_URG.reg cl).addr) ∧ (s.cluster cl).urg = .none ∧ Config.chKind cl ch ≠ .absent ∧ s.get (SXT_STATUS.CAPTURE cl) = 0 ∧ s.onPll = true ∧ (s.active = false ∨ confKind cl ch = false))) (⟨.rp, 1⟩) (25) (34) ((State.reset.put CLK_STATUS.SOURCE 1))) ∧
    ((fun cl slice wait restart ch at_ (s : State) => meets (.urgentStart cl slice wait restart) (cl < Config.clusterCount ∧ (s.cluster cl).urg = .waiting ch at_ ∧ s.urgentSlice cl = some slice ∧ wait = (s.mono - at_) / 5 ∧ restart = s.urgentRestarts cl slice)) (2) (3) (40) (true) (1) (0) (({ (State.reset.put CLK_STATUS.SOURCE 1).setCluster 2 { urg := .waiting 1 0 } with mono := 200 } : State))) ∧
    ((fun cl (code : BitVec 10) ch slice wait at_ (s : State) => meets (.urgentDone cl code) (cl < 24 ∧ ch < 16 ∧ slice < 8 ∧ (s.cluster cl).urg = .running ch slice wait at_ ∧ s.calConnected cl ch = false ∧ s.get (SXT_CH_WCFG.EN cl ch) = 0)) (2) (77) (1) (4) (600) (12345678901) ((State.reset.setCluster 2 { urg := .running 1 4 600 12345678901 }))) ∧
    ((fun cl ch at_ (s : State) => meets (.urgentTimeout cl) (cl < Config.clusterCount ∧ (s.cluster cl).urg = .waiting ch at_ ∧ at_ + ns 1000 ≤ s.mono)) (2) (1) (0) (({ State.reset.setCluster 2 { urg := .waiting 1 0 } with mono := 2000 } : State))) ∧
    ((fun q cl m (ctrl : Word) (s : State) => meets (.streamGo q cl m ctrl) (cl < Config.clusterCount ∧ m < 2 ∧ s.Takes q ((SXT_STR_CTRL.reg cl m).addr) ∧ s.strBusy cl m = false ∧ ctrl.field 1 1 = 0 ∧ ctrl.field 2 1 = 0 ∧ ctrl.field 3 2 = 0 ∧ Config.chKind cl (ctrl.field 8 6) ≠ .absent ∧ s.active = false ∧ 12 ≤ s.get (SXT_STR_SIZE.LOG2 cl m) ∧ s.get (SXT_STR_SIZE.LOG2 cl m) ≤ 18 ∧ s.get64 (SXT_STR_BASE_LO.BASE cl m) % 2 ^ s.get (SXT_STR_SIZE.LOG2 cl m) = 0 ∧ s.get64 (SXT_STR_BASE_LO.BASE cl m) + 2 ^ s.get (SXT_STR_SIZE.LOG2 cl m) ≤ 262144 ∧ s.get64 SXT_CAPRAM_RETIRE_LO.PAGE = 0 ∧ s.get (SXT_STR_COUNT.COUNT cl m) ≤ 2 ^ 24)) (⟨.rp, 1⟩) (2) (1) (0x0501) (State.reset)) ∧
    ((fun q cl m (codes : List (BitVec 10)) e (s : State) => meets (.streamStop q cl m codes) (cl < Config.clusterCount ∧ m < 2 ∧ s.Takes q ((SXT_STR_CTRL.reg cl m).addr) ∧ s.strBusy cl m = true ∧ 1 ≤ s.get (SXT_STR_SIZE.LOG2 cl m) ∧ ((s.gatherFrom cl m codes).strComplete cl m = false ∨ (s.gatherFrom cl m codes).lastNow cl m = false) ∧ ((s.gatherFrom cl m codes).cluster cl).str m = e)) (⟨.rp, 1⟩) (2) (1) ([]) ({ gathered := [5], written := 3 }) ((((State.reset.put (SXT_STR_STAT.STATE 2 1) 2).put (SXT_STR_SIZE.LOG2 2 1) 12).setCluster 2 { ss1 := { gathered := [5], written := 3 } }))) ∧
    ((fun cl m e (codes : List (BitVec 10)) err (s : State) => meets (.streamBurstWritten cl m codes err) (cl < Config.clusterCount ∧ m < 2 ∧ s.get (SXT_STR_STAT.STATE cl m) = 2 ∧ s.get (SXT_STR_CTRL.SRC cl m) = 0 ∧ s.get (SXT_STR_COUNT.COUNT cl m) = 0 ∧ ((s.gather cl m).cluster cl).str m = e ∧ 32 ≤ e.gathered.length ∧ s.get (SXT_STR_CTRL.DEST cl m) = 0)) (2) (1) ({ gathered := List.replicate 40 0x1234, written := 2040 }) ([]) (false) ((((State.reset.put (SXT_STR_STAT.STATE 2 1) 2).put (SXT_STR_SIZE.LOG2 2 1) 12).setCluster 2 { ss1 := { gathered := List.replicate 40 0x1234, written := 2040 } }))) ∧
    ((fun cl sample (s : State) => meets (.streamTrigger cl sample) (cl < Config.clusterCount ∧ s.get (SXT_STR_STAT.STATE cl 0) = 1 ∧ s.get (SXT_STR_CTRL.TRIG cl 0) ≠ 1 ∧ (s.cluster cl).ss0.seen = some sample)) (2) (3000) ((((State.reset.put (SXT_STR_STAT.STATE 2 0) 1).put (SXT_STR_CTRL.TRIG 2 0) 2).setCluster 2 { ss0 := { seen := some 3000 } }))) ∧
    ((fun q j (data : Word) k y (s : State) => meets (.sxtMaintWrite q j data) (j < 3 ∧ y = 32 * j + k ∧ y < Config.yardCount ∧ s.Takes q ((SXT_MAINT.YARD j).addr) ∧ changed (s.word (SXT_MAINT.YARD j).addr) data = [k] ∧ tb data.toNat k = true ∧ 3 ≤ s.domState y ∧ s.domStable y = true ∧ (s.yard y).maintHold = false)) (⟨.rp, 1⟩) (1) (2) (1) (33) (State.reset)) ∧
    ((fun q cl (s : State) => meets (.sxtCalZero q cl) (cl < Config.clusterCount ∧ s.Takes q ((SXT_CAL.reg cl).addr) ∧ s.calAllowed cl = true)) (⟨.rp, 1⟩) (2) ((State.reset.put GLB_SERVICE.STATE 3))) ∧
    ((fun q cl (s : State) => meets (.sxtCalFullScale q cl) (cl < Config.clusterCount ∧ s.Takes q ((SXT_CAL.reg cl).addr) ∧ s.get (SXT_CAL.STATE cl) = 2)) (⟨.rp, 1⟩) (24) ((State.reset.put (SXT_CAL.STATE 24) 2))) ∧
    ((fun q cl (s : State) => meets (.sxtCalAbort q cl) (cl < Config.clusterCount ∧ s.Takes q ((SXT_CAL.reg cl).addr) ∧ 1 ≤ s.get (SXT_CAL.STATE cl) ∧ s.get (SXT_CAL.STATE cl) ≤ 3 ∧ (s.cluster cl).calTag = none)) (⟨.rp, 1⟩) (24) ((State.reset.put (SXT_CAL.STATE 24) 3))) ∧
    ((fun cl (mean : Int) ch (s : State) => meets (.syscalChannelDone cl mean) (cl < Config.clusterCount ∧ s.get (SXT_CAL.STATE cl) = 1 ∧ (externalChannels cl).find? (fun c => decide ((s.cluster cl).calCh < c)) = some ch)) (2) (5) (1) ((State.reset.put (SXT_CAL.STATE 2) 1))) ∧
    ((fun cl (s : State) => meets (.syscalRecordWritten cl) (cl < Config.clusterCount ∧ s.get (SXT_CAL.STATE cl) = 4 ∧ (s.cluster cl).calTag = none)) (2) ((State.reset.put (SXT_CAL.STATE 2) 4))) ∧
    ((fun cl (s : State) => meets (.syscalTimeout cl) (cl < Config.clusterCount ∧ s.get (SXT_CAL.STATE cl) = 2 ∧ (s.cluster cl).calTag = none)) (2) ((State.reset.put (SXT_CAL.STATE 2) 2))) ∧
    ((fun q y (points : BitVec 4) (s : State) => meets (.farSusclrGo q y points) (y < Config.yardCount ∧ s.Takes q (FAR_SUSCLR.reg.addr) ∧ ((List.range 4).filter (tb points.toNat)).all (fun p => (s.clearSuspect y p).2) = true)) (⟨.rp, 1⟩) (5) (2) (((State.reset.put (YRD_FB.SUSPECT 5) 3).setYard 5 { pts := [{}, { inRun := 100000 }, {}, {}] }))) ∧
    ((fun y p (pt : Point) (zw : Int) (s : State) => meets (.zpathWindow y) (y < Config.yardCount ∧ p < 4 ∧ s.get (YRD_FB.SUSPECT y) = 15 - 2 ^ p ∧ pt = (s.yard y).pts.getD p {} ∧ s.windowOk y (s.sensor (s.get (SXT_COMP_CFG.TSENS (y / 4)))) pt = true ∧ pt.seen = false ∧ pt.spread ≠ 0 ∧ zw = roundDiv (65536 * ((pt.n : Int) * pt.sdi - pt.sd * pt.si)) pt.spread ∧ 0 ≤ zw ∧ zw < 65536)) (5) (0) ({ n := 1000, sii := 1000000, sdi := 500000 }) (32768) (((State.reset.put (YRD_FB.SUSPECT 5) 14).put FAR_ZPCFG.SPREAD 0).setYard 5 { State.reset.yard 5 with zT := State.reset.sensor (State.reset.get (SXT_COMP_CFG.TSENS 1)), pts := [{ n := 1000, sii := 1000000, sdi := 500000 }, {}, {}, {}] })) ∧
    ((fun (s : State) => meets (.farPlanPeriodic) (s.on FAR_CTRL.AUTO = true ∧ s.inWayOn = true ∧ s.far = .idle ∧ s.get FAR_STATUS.STATE = 0 ∧ s.planPostponed = false)) (((State.reset.put GLB_SERVICE.STATE 3).put FAR_CTRL.AUTO 1))) ∧
    ((fun q (s : State) => meets (.farCtrlGo q) (s.Takes q (FAR_CTRL.reg.addr) ∧ s.inWayOn = true ∧ s.far = .idle ∧ s.get FAR_STATUS.STATE = 0 ∧ s.planPostponed = false)) (⟨.rp, 1⟩) ((State.reset.put GLB_SERVICE.STATE 3))) ∧
    ((fun (s : State) => meets (.farPlanComputed) (s.far = .planning ∧ s.inWayOn = true ∧ s.courseHeld = false)) (({ (State.reset.put GLB_SERVICE.STATE 3) with far := .planning } : State))) ∧
    ((fun (s : State) => meets (.farRecordCommit true) (s.far = .idle ∧ s.farDirty = true)) (({ State.reset with farDirty := true } : State))) ∧
    ((fun b mw (s : State) => meets (.lossProbe b mw) (s.probeAllowed b = true)) (70) (90) (({ ((yard5Running.setBay 70 { yard5Running.bay 70 with lossBase := 80 }).setYard 5 { yard5Running.yard 5 with quietAt := some 0 }) with mono := 300000 } : State))) ∧
    ((fun q d st (s : State) => meets (.pwsReqGo q d st) (d < Config.yardCount ∧ st < 8 ∧ s.Takes q (PWS_REQ.reg.addr) ∧ s.orderRefusal d st (orderSrc (clsOf q)) = none ∧ (s.dom d).order = none ∧ (s.dom d).step ≠ .stable)) (⟨.mp, 0⟩) (5) (4) ((State.reset.setDom 5 { step := .ramp }))) ∧
    ((fun d (s : State) => meets (.domainWakePin d true) (d < Config.yardCount ∧ s.on (Fld.bit PWS_WAKE_EN.DOMAIN d) = true ∧ s.domStable d = true ∧ s.domState d = 1 ∧ s.orderRefusal d 0 .wakePin = none ∧ (s.dom d).reg = true ∧ (s.dom d).oscEn = true ∧ (s.dom d).memEn = true ∧ (s.dom d).rstN = true ∧ (s.dom d).ret = false ∧ s.on (PWS_DOM.ISO d) = true ∧ (s.dom d).isoAck = true)) (5) (((((State.reset.put (PWS_DOM.STATE 5) 1).put (PWS_DOM.TARGET 5) 1).put (Fld.bit PWS_WAKE_EN.DOMAIN 5) 1).setDom 5 { reg := true, oscEn := true, memEn := true, rstN := true }))) ∧
    ((fun d (s : State) => meets (.wakeDriverBias d) ((s.dom d).step = .bias ∧ s.goesUp d = true)) (5) ((((State.reset.put (PWS_DOM.TARGET 5) 0).put (BAY_STATE.STATE 60) 2).setDom 5 { step := .bias }))) ∧
    ((fun d (s : State) => meets (.wakeBiasSettle d) ((s.dom d).step = .biasSettle ∧ s.goesUp d = true)) (5) (((State.reset.put (PWS_DOM.TARGET 5) 0).setDom 5 { step := .biasSettle }))) ∧
    ((fun y b (s : State) => meets (.slewEnd y) (y < Config.yardCount ∧ b ∈ reach y ∧ (s.bay b).yard = y ∧ (s.bay b).followsSet = true ∧ (s.bay b).holding = false ∧ (s.bay b).allHands = false ∧ s.bayCode b = ((s.bay b).target : Int) ∧ (s.dom y).step ≠ .ramp ∧ (s.dom y).step ≠ .dnRamp)) (5) (60) (((State.reset.put (BAY_REF.VID_NOW 60) 333).setBay 60 { State.reset.bay 60 with st := .run, target := 333 }))) ∧
    ((fun d sig level (s : State) => meets (.domainReadyInput d sig level) (d < Config.yardCount ∧ (s.modDom d fun m => m.signal sig level).stepDone d = false)) (5) (.oscRdy) (true) (State.reset)) ∧
    ((fun d o (s : State) => meets (.pwsWakeTimeout d) (d < Config.yardCount ∧ (s.dom d).step.waitsUp = true ∧ (s.dom d).forced = false ∧ (s.dom d).order = some o)) (5) (⟨0, .kernReg, 7, false, false, none, []⟩) ((State.reset.setDom 5 { step := .oscillator, order := some ⟨0, .kernReg, 7, false, false, none, []⟩ }))) ∧
    ((fun d o (s : State) => meets (.pwsIsoTimeout d) (d < Config.yardCount ∧ (s.dom d).step = .dnIso ∧ (s.dom d).forced = false ∧ (s.dom d).order = some o)) (5) (⟨0, .kernReg, 7, false, false, none, []⟩) ((State.reset.setDom 5 { step := .dnIso, order := some ⟨0, .kernReg, 7, false, false, none, []⟩ }))) ∧
    ((fun d o (s : State) => meets (.pwsSaveTimeout d) (d < Config.yardCount ∧ (s.dom d).step.waitsSave = true ∧ (s.dom d).forced = false ∧ (s.dom d).order = some o)) (5) (⟨0, .kernReg, 7, false, false, none, []⟩) ((State.reset.setDom 5 { step := .dnMem, order := some ⟨0, .kernReg, 7, false, false, none, []⟩ }))) ∧
    ((fun d sig (s : State) => meets (.pwsRdyLost d sig) (d < Config.yardCount ∧ s.domState d ≤ 1 ∧ s.atRest d = true ∧ ((sig = .oscRdy ∧ (s.dom d).oscRdy = false ∨ sig = .memRdy ∧ (s.dom d).memRdy = false ∨ sig = .logicRdy ∧ (s.dom d).logicRdy = false ∨ sig = .isoAck ∧ (s.dom d).isoAck = true ∧ s.domState d = 0)))) (5) (.memRdy) ((State.reset.put (PWS_DOM.STATE 5) 0))) :=
  by
  and_intros
  all_goals first | decide +kernel | simp [commandRows]

/-- CapsWarmingAndStagesComplete: clauses 1, 3, 4, 5, 6, 7, 8, 9, 10, 11, 12, 13, 14, 15, 16, 17, 18, 19, 20, 21, 22, 23, 24, 25, 26, 27, 28, 29, 30, 31, 33, 34, 35, 36, 37, 38, 39, 40, 41, 42, 43. -/
theorem test_capsWarmingAndStagesComplete :
    ((fun p (s : State) => meets (.capLoopBoundary false) (s.inWayOn = true ∧ s.courseHeld = false ∧ s.cap.defer = none ∧ s.get CAP_MODE.MODE = s.get CAP_STATUS.MODE_NOW ∧ p = ((List.range Config.yardCount).map s.yardMw).sum + ((List.range Config.yardCount).map s.yardHeat).sum)) (((List.range Config.yardCount).map ((State.reset.put GLB_SERVICE.STATE 3).setYard 3 { pSum := 900000, pCnt := 4 }).yardMw).sum + ((List.range Config.yardCount).map ((State.reset.put GLB_SERVICE.STATE 3).setYard 3 { pSum := 900000, pCnt := 4 }).yardHeat).sum) ((((State.reset.put GLB_SERVICE.STATE 3).put CAP_MODE.MODE ((State.reset.put GLB_SERVICE.STATE 3).get CAP_STATUS.MODE_NOW)).setYard 3 { pSum := 900000, pCnt := 4 }))) ∧
    ((fun q c tag (s : State) => meets (.capJobBegin q c tag) (c < 64 ∧ tag < 65536 ∧ clsOf q = .kern ∧ s.Takes q (CAP_JOB.reg.addr) ∧ s.openJob c = none ∧ s.confidential c = false ∧ s.wasActive = s.active)) (⟨.rp, 1⟩) (7) (300) (State.reset)) ∧
    ((fun q c tag j (s : State) => meets (.capJobEnd q c tag) (c < 64 ∧ tag < 65536 ∧ clsOf q = .kern ∧ s.Takes q (CAP_JOB.reg.addr) ∧ s.openJob c = some j ∧ s.confidential c = false ∧ s.wasActive = s.active)) (⟨.rp, 1⟩) (7) (300) ({ id := 4, ctx := 7, tag := 1, begin_ := 0 }) (({ State.reset with jobs := [{ id := 4, ctx := 7, tag := 1, begin_ := 0 }] } : State))) ∧
    ((fun j r (s : State) => meets (.jobRecord) (s.jobs.find? (fun j => !j.isOpen) = some j ∧ j.conf = false ∧ (s.stream 1).staged.length < 16 ∧ (s.stream 1).lost = 0 ∧ r = ⟨tdmRecord 0x0021 (jobFlags j) (jobBody j j.e j.ePriv j.eShared (match s.attrSlot with | some k => s.get (DRE_SLOT_ID.MODEL_ID k) | none => 0) s.recSeq (min 65535 (j.peak / 1000))), some j.ctx, none⟩ ∧ stagedBytes ((s.stream 1).staged ++ [r]) ≤ 4096)) ({ id := 4, ctx := 7, tag := 1, isOpen := false, begin_ := 0, end_ := 77, e := 5 }) (⟨tdmRecord 0x0021 (jobFlags ({ id := 4, ctx := 7, tag := 1, isOpen := false, begin_ := 0, end_ := 77, e := 5 } : JobState)) (jobBody ({ id := 4, ctx := 7, tag := 1, isOpen := false, begin_ := 0, end_ := 77, e := 5 } : JobState) ({ id := 4, ctx := 7, tag := 1, isOpen := false, begin_ := 0, end_ := 77, e := 5 } : JobState).e ({ id := 4, ctx := 7, tag := 1, isOpen := false, begin_ := 0, end_ := 77, e := 5 } : JobState).ePriv ({ id := 4, ctx := 7, tag := 1, isOpen := false, begin_ := 0, end_ := 77, e := 5 } : JobState).eShared (match State.reset.attrSlot with | some k => State.reset.get (DRE_SLOT_ID.MODEL_ID k) | none => 0) State.reset.recSeq (min 65535 (({ id := 4, ctx := 7, tag := 1, isOpen := false, begin_ := 0, end_ := 77, e := 5 } : JobState).peak / 1000))), some ({ id := 4, ctx := 7, tag := 1, isOpen := false, begin_ := 0, end_ := 77, e := 5 } : JobState).ctx, none⟩) (({ State.reset with jobs := [{ id := 4, ctx := 7, tag := 1, isOpen := false, begin_ := 0, end_ := 77, e := 5 }] } : State))) ∧
    ((fun y tmp (s : State) => meets (.attributionIntervalClose y) (y < Config.yardCount ∧ Config.isPrivate y = true ∧ s.inWayOn = true ∧ s.yardT y = some tmp ∧ (s.yard y).closed.length < 4 ∧ (s.yard y).open_.n ≠ 0)) (5) ((State.reset.yardT 5).getD 0) (((State.reset.put GLB_SERVICE.STATE 3).setYard 5 { open_ := { n := 3 } }))) ∧
    ((fun k y i (s : State) => meets (.attributionRun) (s.dreOn = true ∧ s.fly = none ∧ s.due = [] ∧ s.attrSlot = some k ∧ s.oldestClosed = some y ∧ (s.yard y).closed.head? = some i)) (7) (3) ({ owner := 7, us := 9, n := 1 }) ((((((State.reset.put GLB_SERVICE.STATE 3).put DRE_CTRL.RUN 1).put (DRE_SLOT_STAT.VALID 7) 1).put (DRE_SLOT_STAT.KIND 7) 1).setYard 3 { closed := [{ owner := 7, us := 9, n := 1 }] }))) ∧
    ((fun p e (s : State) => meets (.settlement) (1000000 ≤ s.sysTime ∧ s.inWayOn = false ∧ p = s.sysTime / 1000000 - 1 ∧ e = (List.range 2).foldl (fun e r => e + railMicro (takePeriods p (s.rail r).eSum).1 + railMicro (takePeriods p (s.rail r).uSum).1) 0)) (1) (3) ((({ State.reset with sysTime := 2500000 } : State).setRail 0 { eSum := [(0, 480000), (1, 100000), (2, 999999)] }))) ∧
    ((fun temps (s : State) => meets (.thermalScan temps) ((temps.map (·.1)).Nodup ∧ temps.all (fun p => decide (p.1 < sensorCount)) = true)) ([(0, 400), (7, 0xF000), (300, 9999)]) (State.reset)) ∧
    ((fun diode (s : State) => meets (.compensationUpdate diode) (-640 ≤ diode ∧ diode ≤ 2000)) (400) (State.reset)) ∧
    ((fun q y (s : State) => meets (.thmProofGo q y) (y < Config.yardCount ∧ s.Takes q (THM_PROOF.reg.addr) ∧ s.proof = none ∧ s.inWayOn = true ∧ s.mayHeat y = true)) (⟨.rp, 1⟩) (5) (yard5Running)) ∧
    ((fun y (s : State) => meets (.sensorProofAuto y) (s.proofDue y = true ∧ s.proof = none ∧ s.inWayOn = true ∧ s.mayHeat y = true)) (5) (({ yard5Running with wayOnAt := some 0 } : State))) ∧
    ((fun y (s : State) => meets (.sensorProofEnd) (y < Config.yardCount ∧ s.proof = some y)) (5) (({ yard5Running with proof := some 5 } : State))) ∧
    ((fun q y target (s : State) => meets (.thmPrecondGo q y target) (y < Config.yardCount ∧ target < 128 ∧ s.Takes q (THM_PRECOND.reg.addr) ∧ s.precond = none ∧ s.on (Fld.bit SXT_MAINT_NOW.YARD y) = true)) (⟨.rp, 1⟩) (5) (60) ((State.reset.put (Fld.bit SXT_MAINT_NOW.YARD 5) 1))) ∧
    ((fun q y (s : State) => meets (.thmPrecondStop q) (s.Takes q (THM_PRECOND.reg.addr) ∧ s.precond = some y ∧ s.get THM_PRECOND.GO = 0)) (⟨.rp, 1⟩) (5) (({ (State.reset.put THM_PRECOND.RESULT 3).setYard 5 { warmUse := 3 } with precond := some 5 } : State))) ∧
    ((fun (s : State) => meets (.warmingLevelStep) (s.precond = none ∧ s.stationWarms = true)) ((((State.reset.put GLB_SERVICE.STATE 3).put CAP_STATUS.MODE_NOW 2).put THM_WARM_CTRL.STATION_EN 1))) ∧
    ((fun d (s : State) => meets (.thmCold d) (d < Config.yardCount ∧ s.coldStart d = true ∧ (s.dom d).wakePin = false)) (70) ((State.reset.setDom 70 { step := .warming, from_ := 4, reg := true, oscEn := true }))) ∧
    ((fun q r (s : State) => meets (.stgRailOnSet q r) (r < 2 ∧ s.Takes q ((STG_RAIL.reg r).addr) ∧ clsOf q = .mgmt ∧ s.tracking = false ∧ s.get (STG_RAIL.STATE r) = 0 ∧ s.railPhases r ≠ [] ∧ s.on THM_STATUS.TRIP = false)) (⟨.mp, 0⟩) (1) (((State.reset.put STG_PRESENT.PHASE 3).put STG_RAILMAP.PKGB 2))) ∧
    ((fun q r (s : State) => meets (.stgRailOnClear q r) (r < 2 ∧ s.Takes q ((STG_RAIL.reg r).addr) ∧ clsOf q = .mgmt ∧ s.tracking = false ∧ s.get (STG_RAIL.STATE r) = 3 ∧ (List.range Config.yardCount).all (fun d => Config.yardRail d != r || (s.domState d == 4 && s.domStable d)) = true)) (⟨.mp, 0⟩) (1) ((((State.reset.put STG_PRESENT.PHASE 3).put STG_RAILMAP.PKGB 2).put (STG_RAIL.STATE 1) 3))) ∧
    ((fun r (s : State) => meets (.railDelayEnd r) (r < 2 ∧ s.tracking = false ∧ s.get (STG_RAIL.STATE r) = 1)) (1) ((((State.reset.put STG_PRESENT.PHASE 3).put STG_RAILMAP.PKGB 2).put (STG_RAIL.STATE 1) 1))) ∧
    ((fun r (s : State) => meets (.railRampEnd r) (r < 2 ∧ s.get (STG_RAIL.STATE r) = 2 ∧ s.rampMet r = true)) (1) ((((((State.reset.put STG_PRESENT.PHASE 3).put STG_RAILMAP.PKGB 2).put (STG_RAIL.STATE 1) 2).put (STG_VOUT.CODE 1) 400).setRail 1 { vref := 3200 }))) ∧
    ((fun q r c (s : State) => meets (.stgVoutWrite q r c) (r < 2 ∧ s.Takes q ((STG_VOUT.reg r).addr) ∧ c < 1024 ∧ s.voutOk r c = true)) (⟨.rp, 1⟩) (1) (400) ((((State.reset.put STG_PRESENT.PHASE 3).put STG_RAILMAP.PKGB 2).put (STG_RAIL.STATE 1) 3))) ∧
    ((fun r (s : State) => meets (.pgSet r) (r < 2 ∧ s.get (STG_RAIL.STATE r) = 3 ∧ s.vsnsWithin r 3 = true ∧ tb (s.get STG_STATUS.PG) r = false)) (1) ((((State.reset.put STG_PRESENT.PHASE 3).put STG_RAILMAP.PKGB 2).put (STG_RAIL.STATE 1) 3))) ∧
    ((fun r (s : State) => meets (.stgPgLost r) (r < 2 ∧ s.get (STG_RAIL.STATE r) = 3 ∧ s.vsnsWithin r 8 = false ∧ tb (s.get STG_STATUS.PG) r = true)) (1) ((((((State.reset.put STG_PRESENT.PHASE 3).put STG_RAILMAP.PKGB 2).put (STG_RAIL.STATE 1) 3).put STG_STATUS.PG 2).setRail 1 { vref := 3200 }))) ∧
    ((fun (s : State) => meets (.balUpdate) (s.onPll = true)) ((State.reset.put CLK_STATUS.SOURCE 1))) ∧
    ((fun p (s : State) => meets (.shortCircuitTrip p) (s.present p = true ∧ p < 30 ∧ (s.phase p).pulse = true ∧ (s.phase p).tripped = false ∧ (s.phase p).scRun ≠ 7)) (1) ((((State.reset.put STG_PRESENT.PHASE 3).put STG_RAILMAP.PKGB 2).setPhase 1 { pulse := true, scRun := 6 }))) ∧
    ((fun r (s : State) => meets (.brakeEnter r) (r < 2 ∧ s.brakeArmed r = true ∧ (s.rail r).braking = false)) (1) ((((State.reset.put STG_PRESENT.PHASE 3).put STG_RAILMAP.PKGB 2).put (STG_RAIL.STATE 1) 3))) ∧
    ((fun r (s : State) => meets (.brakeExit r) (r < 2)) (1) ((((State.reset.put STG_PRESENT.PHASE 3).put STG_RAILMAP.PKGB 2).setRail 1 { braking := true }))) ∧
    ((fun p avg (s : State) => meets (.overloadEval p) (s.present p = true ∧ p < 30 ∧ (s.phase p).oCnt ≠ 0 ∧ avg = roundDiv (s.phase p).oSum (s.phase p).oCnt ∧ -32768 ≤ avg ∧ avg < 32768 ∧ s.ovlTh p < 100 * avg ∧ s.on (STG_PH.OVERLOAD p) = false)) (1) (1600) ((((State.reset.put STG_PRESENT.PHASE 3).put STG_RAILMAP.PKGB 2).setPhase 1 { oSum := 16000, oCnt := 10 }))) ∧
    ((fun r u (s : State) => meets (.hiccup r) (r < 2 ∧ s.tracking = false ∧ s.overloaded r = true ∧ (s.rail r).ovlSince = some u ∧ u + ns 10000000 ≤ s.mono ∧ ((s.get (STG_RAIL.STATE r) = 2 ∨ s.get (STG_RAIL.STATE r) = 3 ∨ s.get (STG_RAIL.STATE r) = 4)) ∧ s.get (STG_RAIL_STAT.TRIES r) < 3 ∧ s.get (STG_RAIL.OFF_PENDING r) = 0)) (1) (0) (({ ((((State.reset.put STG_PRESENT.PHASE 3).put STG_RAILMAP.PKGB 2).put (STG_RAIL.STATE 1) 3).put (STG_PH.OVERLOAD 1) 1).setRail 1 { ovlSince := some 0 } with mono := 30000000 } : State))) ∧
    ((fun r (s : State) => meets (.hiccupRestart r) (r < 2 ∧ s.tracking = false ∧ s.get (STG_RAIL.STATE r) = 6 ∧ s.on THM_STATUS.TRIP = false)) (1) ((((State.reset.put STG_PRESENT.PHASE 3).put STG_RAILMAP.PKGB 2).put (STG_RAIL.STATE 1) 6))) ∧
    ((fun (s : State) => meets (.stgFltStuck) (s.fltAt.isSome = true ∧ s.fltDeclared = false)) (({ ((State.reset.put STG_PRESENT.PHASE 3).put STG_RAILMAP.PKGB 2) with fltAt := some 0 } : State))) ∧
    ((fun q (data : Word) (s : State) => meets (.stgPhclrWrite q data) (s.Takes q (STG_PHCLR.reg.addr) ∧ data.toNat < 2 ^ 30)) (⟨.rp, 1⟩) (2) (((((State.reset.put STG_PRESENT.PHASE 3).put STG_RAILMAP.PKGB 2).put (STG_PH.LATCHED 1) 1).setPhase 1 { scRun := 8 }))) ∧
    ((fun (s : State) => meets (.stgIbus) (((s.ibus < 2160 ∨ 3000 < s.ibus)))) (({ State.reset with ibus := 2000 } : State))) ∧
    ((fun (s : State) => meets (.stgIbusUv) (s.ibus < 1800 ∧ s.ibusLow = false ∧ s.get (STG_RAIL.OFF_PENDING 0) = 0 ∧ s.get (STG_RAIL.OFF_PENDING 1) = 0)) (({ (((State.reset.put STG_PRESENT.PHASE 3).put STG_RAILMAP.PKGB 2).put (STG_RAIL.STATE 1) 3) with ibus := 1000 } : State))) ∧
    ((fun (s : State) => meets (.ibusRecovery) (2000 < s.ibus ∧ s.ibusLow = true ∧ s.on THM_STATUS.TRIP = false)) (({ (((State.reset.put STG_PRESENT.PHASE 3).put STG_RAILMAP.PKGB 2).put (STG_RAIL.ON 1) 1).setRail 1 { wasOn := true } with ibus := 2400, ibusLow := true } : State))) ∧
    ((fun found a rev cap (s : State) => meets (.pmbusScan found) (found.find? (fun f => scanned f.1 && f.1 == s.get PMB_CFG.BUSCONV) = some (a, rev, cap))) ([(0x11, 1, 2), (0x10, 0x33, 0xB0)]) (0x10) (0x33) (0xB0) ((State.reset.put PMB_CFG.BUSCONV 0x10))) ∧
    ((fun q (s : State) => meets (.pmbScanGo q) (s.Takes q (PMB_SCAN.reg.addr))) (⟨.rp, 1⟩) (State.reset)) ∧
    ((fun n r (s : State) => meets (.pmbusPoll n r) (n < 16 ∧ n ≠ 0 ∧ s.pmbUsed n = true ∧ r.answered = true)) (1) (⟨true, 2, 0x0002, 0x1F, 0xF819, 0x0802, 0x0400, 0x1003, 0xE190, 7, 9⟩) ((State.reset.put (PMB_DEV.ADDR 1) 0x11))) ∧
    ((fun a (status : BitVec 16) (s : State) => meets (.pmbAlert a status) (a ∉ s.pmbAlerted)) (0x11) (5) (State.reset)) ∧
    ((fun q word a (c : Byte) (s : State) => meets (.pmbRawGo q word a c) (a < 128 ∧ s.Takes q (PMB_RAW.reg.addr) ∧ s.pmbRaw = none)) (⟨.rp, 1⟩) (true) (0x11) (0x8B) (State.reset)) ∧
    ((fun data word a (c : Byte) (s : State) => meets (.pmbRawDone .done data) (s.pmbRaw = some (word, a, c))) (0xABCD) (false) (1) (2) (({ State.reset with pmbRaw := some (false, 1, 2) } : State))) :=
  by
  and_intros
  all_goals first | decide +kernel | simp [commandRows]

/-- CommandsFaultsFlashAndScrubsComplete: clauses 1, 2, 3, 4, 5, 6, 7, 8, 9, 10, 11, 12, 13, 14, 15, 16, 17, 18, 19, 20, 21, 22, 23, 24, 25, 26, 27, 28, 29, 30, 31, 32, 33, 34, 35, 36, 37, 38, 39, 40, 41, 42, 43, 44, 45, 46, 47, 48, 49, 50, 51, 52, 54, 55, 56. -/
theorem test_commandsFaultsFlashAndScrubsComplete :
    ((fun (c : Cmd) (s : State) => meets (.nop c) (s.Commits c ∧ s.outcome (s.cmdEntry 0 c) = (stAccepted, 0))) (⟨.cmk, 1, ⟨.rp, 1⟩, 3, 7, 0, 0, 0, 0, 0, 1⟩) ((State.reset.put GLB_SERVICE.STATE 3))) ∧
    ((fun (c : Cmd) e (s : State) => meets (.abort c) (s.Commits c ∧ s.outcome (s.cmdEntry 1 c) = (stAccepted, 0) ∧ s.abortTarget (s.cmdEntry 1 c) = some e ∧ e.state = .accepted ∧ ((e.win ≠ c.win ∨ e.slot ≠ c.slot)))) (⟨.cmk, 1, ⟨.rp, 1⟩, 0, 7, 0x300000001, 0, 0, 0, 0, 1⟩) (({ win := .cmk, slot := 3, seq := 3, opcode := 0x500, flags := 0, tag := 0, ops := [], state := .accepted, status := 1, result := 0, at_ := 0, recSent := false, late := false } : Entry)) (({ (State.reset.put GLB_SERVICE.STATE 3) with journal := [({ win := .cmk, slot := 3, seq := 3, opcode := 0x500, flags := 0, tag := 0, ops := [], state := .accepted, status := 1, result := 0, at_ := 0, recSent := false, late := false } : Entry)] } : State))) ∧
    ((fun (c : Cmd) y v sl (s : State) => meets (.setVid c) (s.Commits c ∧ s.outcome (s.cmdEntry 0x100 c) = (stAccepted, 0) ∧ y = c.op0.toNat % 128 ∧ v = c.op0.toNat / 2 ^ 16 % 1024 ∧ sl = c.op0.toNat / 2 ^ 32 % 16 ∧ s.inMaint y = false ∧ ((Config.isLogic y = true → 1 < s.domState y)) ∧ s.on (YRD_STATUS.ALL_HANDS y) = false ∧ (s.yard y).fUnknown = false)) (⟨.cmk, 1, ⟨.rp, 1⟩, 0, 7, 0x300640041, 0, 0, 0, 0, 1⟩) (65) (100) (3) ((State.reset.put GLB_SERVICE.STATE 3))) ∧
    ((fun (c : Cmd) (s : State) => meets (.setLoop c) (s.Commits c ∧ s.outcome (s.cmdEntry 0x101 c) = (stAccepted, 0) ∧ (s.fieldWrite (winReq c.win) (loopFields (s.cmdEntry 0x101 c))).2 = 0)) (⟨.cmk, 1, ⟨.rp, 1⟩, 0, 7, 0x12000005, 0x88, 0, 0, 0, 1⟩) (((State.reset.put GLB_SERVICE.STATE 3).put GLB_XREC_YRD.PAGE 1))) ∧
    ((fun (c : Cmd) b y (s : State) => meets (.remount c) (s.Commits c ∧ s.outcome (s.cmdEntry 0x102 c) = (stAccepted, 0) ∧ b = c.op0.toNat % 2048 ∧ c.op0.toNat / 2 ^ 13 % 2 = 1 ∧ remountYard b (c.op0.toNat / 2 ^ 12 % 2 == 1) = some y ∧ s.get (BAY_STATE.STATE b) = 1 ∧ (s.bay b).assigned = none ∧ s.unlocked (BAY_REMOUNT.reg b).addr = true)) (remountCmd) (remountBay) ((remountYard remountBay false).getD 0) (remountUnlocked)) ∧
    ((fun (c : Cmd) d tt src (s : State) => meets (.domainState c) (s.Commits c ∧ s.outcome (s.cmdEntry 0x200 c) = (stAccepted, 0) ∧ d = c.op0.toNat % 128 ∧ tt = c.op0.toNat / 2 ^ 8 % 8 ∧ src = (match c.win with | .cmd => OrderSrc.mgmt | .cmk => .kernCmd | .cmu => .user) ∧ s.orderRefusal d tt src = none ∧ (s.dom d).order = none ∧ (s.dom d).step ≠ .stable)) (⟨.cmk, 1, ⟨.rp, 1⟩, 0, 7, 0x405, 0, 0, 0, 0, 1⟩) (5) (4) (.kernCmd) (((State.reset.put GLB_SERVICE.STATE 3).setDom 5 { step := .ramp }))) ∧
    ((fun (c : Cmd) y (s : State) => meets (.maint c) (s.Commits c ∧ s.outcome (s.cmdEntry 0x201 c) = (stAccepted, 0) ∧ y = c.op0.toNat % 128 ∧ c.op0.toNat / 2 ^ 8 % 2 = 1 ∧ s.get (Fld.bit SXT_MAINT.YARD y) = 0 ∧ s.get (Fld.bit SXT_MAINT_NOW.YARD y) = 0 ∧ s.domState y < 3 ∧ (s.yard y).maintTags = [])) (⟨.cmk, 1, ⟨.rp, 1⟩, 0, 7, 0x105, 0, 0, 0, 0, 1⟩) (5) (((State.reset.put GLB_SERVICE.STATE 3).put (PWS_DOM.STATE 5) 0))) ∧
    ((fun (c : Cmd) m (s : State) => meets (.setMode c) (s.Commits c ∧ s.outcome (s.cmdEntry 0x300 c) = (stAccepted, 0) ∧ m = c.op0.toNat % 4 ∧ ((c.win = .cmk → s.on CAP_MODE.LOCK = false)))) (⟨.cmk, 1, ⟨.rp, 1⟩, 0, 7, 2, 0, 0, 0, 0, 1⟩) (2) ((State.reset.put GLB_SERVICE.STATE 3))) ∧
    ((fun (c : Cmd) v (s : State) => meets (.setCap c) (s.Commits c ∧ s.outcome (s.cmdEntry 0x301 c) = (stAccepted, 0) ∧ c.op0.toNat / 2 ^ 16 % 2 = 0 ∧ v = c.op0.toNat % 65536 ∧ s.cap.defer = none ∧ s.defers = false)) (⟨.cmk, 1, ⟨.rp, 1⟩, 0, 7, 700, 0, 0, 0, 0, 1⟩) (700) ((State.reset.put GLB_SERVICE.STATE 3))) ∧
    ((fun (c : Cmd) k tag (s : State) => meets (.job c) (s.Commits c ∧ s.outcome (s.cmdEntry 0x302 c) = (stAccepted, 0) ∧ c.op0.toNat / 2 ^ 8 % 2 = 0 ∧ k = c.op0.toNat % 64 ∧ tag = c.op0.toNat / 2 ^ 16 % 65536 ∧ s.openJob k = none ∧ s.confidential k = false ∧ s.wasActive = s.active)) (⟨.cmk, 1, ⟨.rp, 1⟩, 0, 7, 0x990007, 0, 0, 0, 0, 1⟩) (7) (0x99) ((State.reset.put GLB_SERVICE.STATE 3))) ∧
    ((fun (c : Cmd) (s : State) => meets (.bundleLoad c) (s.Commits c ∧ s.outcome (s.cmdEntry 0x400 c) = (stAccepted, 0) ∧ s.get DRE_STATUS.LOAD_STATE = 0 ∧ s.get DRE_STATUS.SPARE < 9)) (⟨.cmk, 1, ⟨.rp, 1⟩, 0, 7, 0x13, 0x1000, 0, 0, 0, 1⟩) ((State.reset.put GLB_SERVICE.STATE 3))) ∧
    ((fun (c : Cmd) n (s : State) => meets (.capture c) (s.Commits c ∧ s.outcome (s.cmdEntry 0x401 c) = (stAccepted, 0) ∧ n = c.op0.toNat % 32 ∧ s.strBusy n 0 = false ∧ s.captureOk n = true ∧ s.active = false ∧ c.op0.toNat / 2 ^ 12 % 8 = 0 ∧ c.op0.toNat / 2 ^ 15 % 2 = 0)) (captureCmd) (0) (wayOnState)) ∧
    ((fun (c : Cmd) n (s : State) => meets (.syscal c) (s.Commits c ∧ s.outcome (s.cmdEntry 0x402 c) = (stAccepted, 0) ∧ n = c.op0.toNat % 32 ∧ c.op0.toNat / 32 % 4 = 1 ∧ s.calAllowed n = true)) (⟨.cmk, 1, ⟨.rp, 1⟩, 0, 7, 0x39, 0, 0, 0, 0, 1⟩) (25) ((State.reset.put GLB_SERVICE.STATE 3))) ∧
    ((fun (c : Cmd) (s : State) => meets (.farPlan c) (s.Commits c ∧ s.outcome (s.cmdEntry 0x500 c) = (stAccepted, 0) ∧ s.inWayOn = true ∧ s.far = .idle ∧ s.get FAR_STATUS.STATE = 0 ∧ s.planPostponed = false)) (⟨.cmk, 1, ⟨.rp, 1⟩, 0, 7, 0, 0, 0, 0, 0, 1⟩) ((State.reset.put GLB_SERVICE.STATE 3))) ∧
    ((fun (c : Cmd) (s : State) => meets (.farRecord c) (s.Commits c ∧ s.outcome (s.cmdEntry 0x501 c) = (stAccepted, 0) ∧ s.far = .idle)) (⟨.cmd, 1, ⟨.mp, 0⟩, 0, 7, 0x80080305, 0, 0, 0, 0, 1⟩) ((State.reset.put GLB_SERVICE.STATE 3))) ∧
    ((fun (c : Cmd) (s : State) => meets (.logFreeze c) (s.Commits c ∧ s.outcome (s.cmdEntry 0x600 c) = (stAccepted, 0) ∧ c.op0.toNat % 2 = 0 ∧ s.on LOG_STATUS.FROZEN = false ∧ s.logTag = none)) (⟨.cmk, 1, ⟨.rp, 1⟩, 0, 7, 0, 0, 0, 0, 0, 1⟩) (((State.reset.put GLB_SERVICE.STATE 3).put LOG_CTRL.FREEZE 1))) ∧
    ((fun q n (data : Word) (s : State) => meets (.cmkUslotWrite q n data) (n < 64 ∧ s.Takes q ((CMK_USLOT.reg n).addr) ∧ data.toNat % 64 = s.get (CMK_USLOT.CONTEXT n) ∧ s.active = s.wasActive ∧ ({ s with regs := (s.put (CMK_USLOT.EN n) (data.toNat / 2 ^ 31)).regs } : State).active = s.wasActive)) (⟨.rp, 1⟩) (5) (0x80000000) (State.reset)) ∧
    ((fun q k (s : State) => meets (.tdmStreamGo q k) (k < 3 ∧ s.Takes q ((TDM_STR_CTRL.reg k).addr) ∧ s.inWayOn = true ∧ s.get (TDM_STR_CTRL.STOP k) = 0 ∧ 1 ≤ s.get (TDM_STR_CTRL.POLL k) ∧ ((s.tdmState k = tdmStopped ∨ s.tdmState k = tdmError)) ∧ ((s.get64 (TDM_STR_HEAD_LO.ADDR k) = 0 ∨ s.inWindow (s.get64 (TDM_STR_HEAD_LO.ADDR k)) 32 = true)))) (⟨.rp, 1⟩) (1) (((((State.reset.put GLB_SERVICE.STATE 3).put64 TDM_WIN_LIMIT_LO.LIMIT 0x100000).put (TDM_STR_CTRL.POLL 1) 10).put64 (TDM_STR_HEAD_LO.ADDR 1) 0x1000))) ∧
    ((fun q k (s : State) => meets (.tdmStreamStop q k) (k < 3 ∧ s.Takes q ((TDM_STR_CTRL.reg k).addr) ∧ s.get (TDM_STR_CTRL.GO k) = 0 ∧ 1 ≤ s.get (TDM_STR_CTRL.POLL k) ∧ ((s.tdmState k = tdmWaiting ∨ s.tdmState k = tdmRunning ∧ (s.stream k).checked = false)))) (⟨.rp, 1⟩) (1) (((((State.reset.put GLB_SERVICE.STATE 3).put64 TDM_WIN_LIMIT_LO.LIMIT 0x100000).put (TDM_STR_CTRL.POLL 1) 10).put (tdmF 1) 1))) ∧
    ((fun k a e (s : State) => meets (.descriptorFetchDone k e false) (k < 3 ∧ s.tdmAct k = .fetch a ∧ (s.stream k).desc = [] ∧ (s.stream k).checked = false ∧ s.inWindow a 32 = true ∧ s.inWindow a 4 = true ∧ ((e.next.toNat = 0 ∨ s.inWindow e.next.toNat 32 = true)))) (1) (0x100) (⟨3, true, true, 4096, 0x2000, 0x40⟩) (((((State.reset.put GLB_SERVICE.STATE 3).put64 TDM_WIN_LIMIT_LO.LIMIT 0x100000).put (tdmF 1) 1).setStream 1 { next := 0x100 }))) ∧
    ((fun k (s : State) => meets (.descriptorPoll k) (k < 3 ∧ s.tdmState k = tdmWaiting ∧ (s.modStream k (fun d => { d with polling := true })).tdmOutside k = false)) (1) (((((State.reset.put GLB_SERVICE.STATE 3).put64 TDM_WIN_LIMIT_LO.LIMIT 0x100000).put (tdmF 1) 2).setStream 1 { last := 0x100 }))) ∧
    ((fun k a e r (s : State) => meets (.tdmWriteResponse k false) (k < 3 ∧ s.tdmState k = tdmRunning ∧ (s.stream k).desc = [(a, e)] ∧ (s.stream k).checked = true ∧ (s.stream k).stopping = false ∧ s.active = false ∧ (s.stream k).staged = [r] ∧ r.entry = none ∧ (s.stream k).used + r.bytes.length ≤ e.length ∧ s.inWindow (e.buffer.toNat + (s.stream k).used) r.bytes.length = true ∧ e.next.toNat = 0)) (1) (0x100) (⟨3, true, true, 4096, 0x2000, 0⟩) (⟨[1, 2, 3], none, none⟩) (((((State.reset.put GLB_SERVICE.STATE 3).put64 TDM_WIN_LIMIT_LO.LIMIT 0x100000).put (tdmF 1) 1).setStream 1 { desc := [(0x100, ⟨3, true, true, 4096, 0x2000, 0⟩)], checked := true, staged := [⟨[1, 2, 3], none, none⟩] }))) ∧
    ((fun r (s : State) => meets (.deviceSummary) (s.inWayOn = true ∧ s.yardCount + 1 < s.get TDM_PERIOD.YARD ∧ (s.stream 2).lost = 0 ∧ r = ⟨tdmRecord 0x0030 s.active.toNat s.deviceBody, none, none⟩ ∧ stagedBytes ((s.stream 2).staged ++ [r]) ≤ 4096)) (⟨tdmRecord 0x0030 ((State.reset.put GLB_SERVICE.STATE 3).put TDM_PERIOD.YARD 9).active.toNat ((State.reset.put GLB_SERVICE.STATE 3).put TDM_PERIOD.YARD 9).deviceBody, none, none⟩) (((State.reset.put GLB_SERVICE.STATE 3).put TDM_PERIOD.YARD 9))) ∧
    ((fun unit kind (s : State) => meets (.fltWire unit kind) (isUnit unit = true ∧ 1 ≤ kind ∧ kind ≤ 3)) (40) (1) ((State.reset.put GLB_SERVICE.STATE 3))) ∧
    ((fun unit (s : State) => meets (.fltWireClear unit) (isUnit unit = true)) (40) ((State.reset.put (Fld.bit FLT_WIRE.UNIT 40) 1))) ∧
    ((fun q (bits : BitVec 3) (s : State) => meets (.fltPendAck q bits) (s.Takes q (FLT_PEND.C.addr))) (⟨.rp, 1⟩) (2) (({ ((State.reset.put FLT_PEND.K 1).put FLT_PEND.C 1).put (Fld.bit FLT_ACT.CODE 0x25) 1 with act := [(0x25, 1), (0x30, 0)] } : State))) ∧
    ((fun q (s : State) => meets (.fltResume q) (s.Takes q (FLT_CTRL.RESUME.addr) ∧ clsOf q = .mgmt ∧ s.mayRecover = true ∧ s.get FAR_STATUS.STATE ≠ 5)) (⟨.mp, 0⟩) (((State.reset.put GLB_SERVICE.STATE 3).put FLT_STATUS.HOLD 1))) ∧
    ((fun (s : State) => meets (.quietPeriodExpiry) (s.quietOver = true ∧ s.get FAR_STATUS.STATE ≠ 5)) (({ ((State.reset.put GLB_SERVICE.STATE 3).put FLT_STATUS.HOLD 1) with mono := 10 ^ 18 } : State))) ∧
    ((fun q mem (s : State) => meets (.fltInjSingle q mem) (s.Takes q (FLT_INJ.GO.addr) ∧ s.injectOk 0 mem 0 = true)) (⟨.rp, 1⟩) (5) (State.reset)) ∧
    ((fun q mem (s : State) => meets (.fltInjDouble q mem) (s.Takes q (FLT_INJ.GO.addr) ∧ s.injectOk 1 mem 0 = true)) (⟨.rp, 1⟩) (5) (State.reset)) ∧
    ((fun q unit code (s : State) => meets (.fltInjRaise q unit code) (s.Takes q (FLT_INJ.GO.addr) ∧ s.injectOk 2 unit code = true)) (⟨.rp, 1⟩) (0) (1) (State.reset)) ∧
    ((fun q unit (s : State) => meets (.fltInjBreak q unit) (s.Takes q (FLT_INJ.GO.addr) ∧ s.injectOk 3 unit 0 = true)) (⟨.rp, 1⟩) (40) (State.reset)) ∧
    ((fun q pin (s : State) => meets (.fltInjPinWrite q pin) (pin < 4 ∧ s.Takes q (FLT_INJ_PIN.PIN.addr))) (⟨.rp, 1⟩) (2) (State.reset)) ∧
    ((fun r i (s : State) => meets (.logRecordProgram) (s.log.head? = some r ∧ s.stagingWaits = false ∧ r.err = none ∧ s.on LOG_STATUS.FIRST_FULL = false ∧ s.firstEmpty (s.get LOG_POS.NEXT) (8192 - s.get LOG_POS.NEXT) = some i ∧ (s.firstEmpty (i + 1) (8192 - (i + 1))).isSome = true)) (⟨0x102, 2, 0, 1, 9, [5], none⟩) (0) (({ State.reset.put LOG_STATUS.SCANNING 0 with log := [⟨0x102, 2, 0, 1, 9, [5], none⟩] } : State))) ∧
    ((fun (s : State) => meets (.logTimeSave) (s.on LOG_STATUS.FROZEN = false ∧ s.tkSlot < 8192 ∧ s.supp = [])) (State.reset)) ∧
    ((fun (s : State) => meets (.logTokenRefill) (Tab.wf (fun _ => 64) s.tokens = true)) (({ State.reset with tokens := [(3, 5)] } : State))) ∧
    ((fun q (s : State) => meets (.logCtrlFreeze q) (s.Takes q (LOG_CTRL.FREEZE.addr) ∧ s.on LOG_CTRL.FREEZE = false ∧ s.on LOG_STATUS.FROZEN = false ∧ s.logTag = none ∧ s.flashOp = .none ∧ s.logErase = none)) (⟨.rp, 1⟩) (State.reset)) ∧
    ((fun q (s : State) => meets (.logCtrlRelease q) (s.Takes q (LOG_CTRL.FREEZE.addr) ∧ s.on LOG_CTRL.FREEZE = true ∧ s.on LOG_STATUS.FROZEN = true ∧ s.log.length < 255 ∧ s.supp = [])) (⟨.rp, 1⟩) ((({ State.reset.put LOG_STATUS.SCANNING 0 with log := [⟨0x102, 2, 0, 1, 9, [5], none⟩] } : State).put LOG_CTRL.FREEZE 1).put LOG_STATUS.FROZEN 1)) ∧
    ((fun (s : State) => meets (.logFreezeExpiry) (s.on LOG_CTRL.FREEZE_MAX = true ∧ s.on LOG_STATUS.FROZEN = true ∧ s.log.length < 255 ∧ s.supp = [])) (((({ State.reset.put LOG_STATUS.SCANNING 0 with log := [⟨0x102, 2, 0, 1, 9, [5], none⟩] } : State).put LOG_CTRL.FREEZE 1).put LOG_STATUS.FROZEN 1).put LOG_CTRL.FREEZE_MAX 60)) ∧
    ((fun q i (s : State) => meets (.logRdGo q i) (i < 131072 ∧ s.Takes q (LOG_RD.GO.addr) ∧ s.flashOp = .none ∧ s.logErase = none)) (⟨.rp, 1⟩) (77) (State.reset)) ∧
    ((fun q (s : State) => meets (.logEraseRanked q) (s.Takes q (LOG_ERASE.KEY.addr) ∧ clsOf q = .mgmt ∧ s.logErase = none)) (⟨.mp, 0⟩) (State.reset)) ∧
    ((fun q (s : State) => meets (.logEraseAll q) (s.Takes q (LOG_ERASE.KEY.addr) ∧ clsOf q = .mgmt ∧ s.logErase = none)) (⟨.mp, 0⟩) (State.reset)) ∧
    ((fun region (s : State) => meets (.logEraseDone) (s.logErase = some region ∧ s.on LOG_STATUS.FROZEN = false)) (1) (({ State.reset with logErase := some 1 } : State))) ∧
    ((fun q (s : State) => meets (.flsRead q) (s.Takes q (FLS_CTRL.GO.addr) ∧ s.flsRefusal 0 (clsOf q) = none)) (⟨.mp, 0⟩) ((((State.reset.put FLS_LEN.LEN 4).put FLS_SFDP.OK 1).put FLS_ADDR.ADDR 0x100))) ∧
    ((fun q (s : State) => meets (.flsProgram q) (s.Takes q (FLS_CTRL.GO.addr) ∧ s.flsRefusal 1 (clsOf q) = none)) (⟨.mp, 0⟩) ((((State.reset.put FLS_LEN.LEN 4).put FLS_SFDP.OK 1).put FLS_ADDR.ADDR 0x100))) ∧
    ((fun q (s : State) => meets (.flsErase q) (s.Takes q (FLS_CTRL.GO.addr) ∧ s.flsRefusal 2 (clsOf q) = none)) (⟨.mp, 0⟩) ((((State.reset.put FLS_LEN.LEN 4).put FLS_SFDP.OK 1).put FLS_ADDR.ADDR 0x100))) ∧
    ((fun q (s : State) => meets (.flsVerify q) (s.Takes q (FLS_CTRL.GO.addr) ∧ s.flsRefusal 3 (clsOf q) = none)) (⟨.mp, 0⟩) ((((State.reset.put FLS_LEN.LEN 4).put FLS_SFDP.OK 1).put FLS_ADDR.ADDR 0x100))) ∧
    ((fun q a n (s : State) => meets (.flsOpDone false) (s.flashOp = .fls 0 q a n ∧ s.get LOG_CTRL.FREEZE = 0 ∧ n ≤ 256)) (⟨.mp, 0⟩) (0x100) (4) (({ State.reset with flashOp := .fls 0 ⟨.mp, 0⟩ 0x100 4 } : State))) ∧
    ((fun q c (s : State) => meets (.secConfSet q c) (c < 64 ∧ s.Takes q ((confBit c).addr) ∧ s.confidential c = false ∧ s.resident c = false ∧ s.wasActive = s.active)) (⟨.rp, 3⟩) (7) (State.reset)) ∧
    ((fun q c (s : State) => meets (.secConfClear q c) (c < 64 ∧ s.Takes q ((confBit c).addr) ∧ s.confidential c = true ∧ s.resident c = false ∧ s.wasActive = s.active)) (⟨.rp, 3⟩) (7) (State.reset.put (confBit 7) 1)) ∧
    ((fun r (s : State) => meets (.scrub) (s.scrubs.head? = some r ∧ r.yard < Config.yardCount ∧ r.clear = false ∧ r.ctx < 64 ∧ s.wasActive = true)) (⟨5, 7, 0, false⟩) (({ State.reset with wasActive := true, scrubs := [⟨5, 7, 0, false⟩] } : State))) ∧
    ((fun (s : State) => meets (.tbValidReturn) (s.epochs = [])) (State.reset)) ∧
    ((fun r p (s : State) => meets (.phaseFire r) (r < 2 ∧ s.pwmDrives r = true ∧ (s.rail r).fireAt.all (fun u => decide (u + s.stagger r ≤ s.mono)) = true ∧ s.nextFire r = some p)) (1) (1) (((((State.reset.put STG_PRESENT.PHASE 3).put STG_RAILMAP.PKGB 2).put (STG_RAIL.STATE 1) 3).put (STG_PH.IN_SERVICE 1) 1))) ∧
    ((fun p (s : State) => meets (.pulseEnd p) ((s.phase p).pulse = true)) (1) ((((State.reset.put STG_PRESENT.PHASE 3).put STG_RAILMAP.PKGB 2).setPhase 1 { pulse := true, scRun := 3 }))) ∧
    ((fun r u lo hi bad (s : State) => meets (.registerRead r) (s.responded.rpReady = true ∧ s.cpReset = false ∧ (s.responded.rpOut.any fun e => e.tag == r.tag) = false ∧ s.responded.slowFull r.addr.toNat = false ∧ (s.responded.takeRequest r).portRead ⟨.rp, r.stamp⟩ r.addr.toNat r.wide = (u, lo, hi, bad))) ((⟨0x7018, 0xFF, 0x0F, false, 1, 3⟩ : RpReq)) (((State.reset.responded.takeRequest (⟨0x7018, 0xFF, 0x0F, false, 1, 3⟩ : RpReq)).portRead ⟨.rp, 1⟩ 0x7018 false).1) (0) (0) (false) (State.reset)) :=
  by
  and_intros
  all_goals first | decide +kernel | simp [commandRows]

/-- IdleStepPassesOneCycle: an empty queue on the backup oscillator, and one on the PLL with either parity of the cycle. -/
theorem test_idleStepPassesOneCycle : State.reset.pending = [] ∧ State.reset.onPll = false
    ∧ (State.reset.put CLK_STATUS.SOURCE 1).pending = [] ∧ (State.reset.put CLK_STATUS.SOURCE 1).onPll = true := by decide +kernel

/-- EveryStepSettlesTheFaultWires: a step that answers a next state, with a command in front and with none. -/
theorem test_everyStepSettlesTheFaultWires :
    step { State.reset with pending := [.aonDetectorTrip] } = exec .aonDetectorTrip State.reset
    ∧ exec .aonDetectorTrip State.reset = State.reset.after (aonTripEff State.reset)
    ∧ step State.reset = .next { State.reset.idle.wired with pending := [] } := ⟨rfl, rfl, rfl⟩

/-- Canonical tables, and a step from them that answers a next state. -/
theorem test_everyStepKeepsTheTablesCanonical :
    ({ State.reset with pending := [.soAck] } : State).Canonical ∧ (match step { State.reset with pending := [.soAck] } with | .next _ => true | _ => false) = true :=
  ⟨by constructor <;> rfl, rfl⟩

end Sys2Proof.Tests
end

section
/-!
SUPPORT. The ports: what becomes of a register-port request, and what an access that the table of R314 does not permit leaves
(R13, R34, R315, R318, R319, R422). Obligations RegisterPortAnswersAndLanes and UnpermittedAccessesArePerformedOnNothing.
-/

namespace Sys2Proof.Machine

/-! ### What a command answers: the state it left, with the wires settled -/

/-- The state a command answers that leads from `s` to `u` (R379, R381; the queue as in assumption log 1). -/
def State.answered (s u : State) : State := { u.wired with pending := s.pending }

theorem exec_registerWrite (r : RpReq) (s : State) : exec (.registerWrite r) s = .next (s.answered (registerWriteEff r s)) := rfl
theorem exec_registerRead (r : RpReq) (s : State) : exec (.registerRead r) s = .next (s.answered (registerReadEff r s)) := rfl
theorem exec_mpPrivateWrite (l : List Byte) (s : State) : exec (.mpPrivateWrite l) s = .next (s.answered (mpWriteEff l s)) := rfl
theorem exec_otAccessUpdate (dr : BitVec 90) (s : State) : exec (.otAccessUpdate dr) s = .next (s.answered (otAccessEff dr s)) := rfl

theorem State.tdm_refreshPair (s : State) : s.refreshPair.tdm = s.tdm := by
  unfold State.refreshPair
  dsimp only
  split
  · rfl
  · exact (State.put_tdm _ _ _).trans (State.put_tdm _ _ _)

theorem State.tdm_refreshAssert (s : State) : s.refreshAssert.tdm = s.tdm := State.put_tdm _ _ _

theorem State.tdm_wired (s : State) : s.wired.tdm = s.tdm := (State.tdm_refreshPair _).trans s.tdm_refreshAssert

@[simp] theorem State.answered_rpRsp (s u : State) : (s.answered u).rpRsp = u.rpRsp := u.reports_wired.rpRsp
@[simp] theorem State.answered_mp (s u : State) : (s.answered u).mp = u.mp := u.reports_wired.mp
@[simp] theorem State.answered_dbg (s u : State) : (s.answered u).dbg = u.dbg := u.reports_wired.dbg

theorem State.word_answered (s u : State) (a : Nat) (h : a ≠ FLT_STATUS.reg.addr) (k : a ≠ PRT_MP.reg.addr) :
    (s.answered u).word a = u.word a := State.word_after s u a h k

theorem State.get_answered (s u : State) (f : Fld) (h : f.addr ≠ FLT_STATUS.reg.addr) (k : f.addr ≠ PRT_MP.reg.addr) :
    (s.answered u).get f = u.get f := State.get_after s u f h k

/-- A bit outside a replaced field keeps its value. -/
theorem Word.getLsbD_withField (x : Word) (lo w v i : Nat) (h : lo + w ≤ 32) (d : i < lo ∨ lo + w ≤ i) :
    (x.withField lo w v).getLsbD i = x.getLsbD i := by
  have e := Word.field_withField_disjoint x lo w v i 1 h (d.imp id id)
  simp only [Word.field, pow_one] at e
  simp only [BitVec.getLsbD, Nat.testBit_eq_decide_div_mod_eq, e]

/-- A mask that covers a field hides its replacement. -/
theorem Word.withField_and_mask (x m : Word) (lo w v : Nat) (h : lo + w ≤ 32) (hm : ∀ i < lo + w, lo ≤ i → m.getLsbD i = false) :
    x.withField lo w v &&& m = x &&& m := by
  refine BitVec.eq_of_getLsbD_eq fun i _ => ?_
  rw [BitVec.getLsbD_and, BitVec.getLsbD_and]
  by_cases d : i < lo ∨ lo + w ≤ i
  · rw [Word.getLsbD_withField x lo w v i h d]
  · rw [hm i (by omega) (by omega), Bool.and_false, Bool.and_false]

/-- A mask that covers a field hides that it takes a value. -/
theorem State.word_put_and_mask (s : State) (f : Fld) (v : Nat) (m : Word) (h : f.lo + f.w ≤ 32)
    (hm : ∀ i < f.lo + f.w, f.lo ≤ i → m.getLsbD i = false) : (s.put f v).word f.addr &&& m = s.word f.addr &&& m := by
  rw [State.put, State.word_setWord, if_pos rfl]
  exact Word.withField_and_mask _ _ _ _ _ h hm

/-- The wires of FLT_STATUS are F_ASSERT and PIN. -/
theorem State.fltStatus_wired (s : State) :
    s.wired.word FLT_STATUS.reg.addr &&& 0xFFFFFFCD = s.word FLT_STATUS.reg.addr &&& 0xFFFFFFCD := by
  have assertion : s.refreshAssert.word FLT_STATUS.reg.addr &&& 0xFFFFFFCD = s.word FLT_STATUS.reg.addr &&& 0xFFFFFFCD :=
    State.word_put_and_mask _ FLT_STATUS.F_ASSERT _ _ (by decide) (by decide)
  rw [← assertion]
  unfold State.wired
  generalize s.refreshAssert = t
  unfold State.refreshPair
  dsimp only
  split
  · rfl
  · rw [State.word_put _ PRT_MP.IBI_PEND _ _ (by decide)]
    exact State.word_put_and_mask t FLT_STATUS.PIN _ _ (by decide) (by decide)

/-- Setting the lowest bit of a field is replacing that bit. -/
theorem Word.withField_setBit_zero (x : Word) : x.withField 16 8 (setBit (x.field 16 8) 0) = x.withField 16 1 1 := by
  apply BitVec.eq_of_toNat_eq
  rw [Word.toNat_withField x 16 8 _ (by decide), Word.toNat_withField x 16 1 _ (by decide)]
  simp only [setBit, tb, Word.field, beq_iff_eq]
  split <;> omega

/-- The wire of PRT_MP is bit 0 of IBI_PEND. -/
theorem State.prtMp_wired (s : State) : s.wired.word PRT_MP.reg.addr &&& 0xFFFEFFFF = s.word PRT_MP.reg.addr &&& 0xFFFEFFFF := by
  have assert_ : s.refreshAssert.word PRT_MP.reg.addr = s.word PRT_MP.reg.addr := State.word_put _ FLT_STATUS.F_ASSERT _ _ (by decide)
  rw [← assert_]
  unfold State.wired
  generalize s.refreshAssert = t
  unfold State.refreshPair
  dsimp only
  split
  · rfl
  · have pin : (t.put FLT_STATUS.PIN t.fltPair).word PRT_MP.reg.addr = t.word PRT_MP.reg.addr :=
      State.word_put _ FLT_STATUS.PIN _ _ (by decide)
    rw [State.put, State.word_setWord, if_pos (by rfl)]
    calc ((t.put FLT_STATUS.PIN t.fltPair).word PRT_MP.reg.addr).withField 16 8
          (setBit ((t.word PRT_MP.reg.addr).field 16 8) 0) &&& 0xFFFEFFFF
        = (t.word PRT_MP.reg.addr).withField 16 1 1 &&& 0xFFFEFFFF := by rw [pin, Word.withField_setBit_zero]
      _ = t.word PRT_MP.reg.addr &&& 0xFFFEFFFF := Word.withField_and_mask _ _ _ _ _ (by decide) (by decide)

/-- Every memory and every unit is held in t as in s. -/
structure State.SameTables (s t : State) : Prop where
  flash : t.flash = s.flash
  store : t.store = s.store
  capram : t.capram = s.capram
  bays : t.bays = s.bays
  yards : t.yards = s.yards
  doms : t.doms = s.doms
  clusters : t.clusters = s.clusters
  rails : t.rails = s.rails
  phases : t.phases = s.phases
  ctxs : t.ctxs = s.ctxs
  tdm : t.tdm = s.tdm

theorem State.SameTables.refl (s : State) : s.SameTables s := by constructor <;> rfl

theorem State.SameTables.trans {s t u : State} (h : s.SameTables t) (k : t.SameTables u) : s.SameTables u where
  flash := k.flash.trans h.flash
  store := k.store.trans h.store
  capram := k.capram.trans h.capram
  bays := k.bays.trans h.bays
  yards := k.yards.trans h.yards
  doms := k.doms.trans h.doms
  clusters := k.clusters.trans h.clusters
  rails := k.rails.trans h.rails
  phases := k.phases.trans h.phases
  ctxs := k.ctxs.trans h.ctxs
  tdm := k.tdm.trans h.tdm

/-- What reports leaves every table but the streams' alone. -/
theorem State.Reports.sameTables {s t : State} (h : s.Reports t) (tdm : t.tdm = s.tdm) : s.SameTables t :=
  ⟨h.flash, h.store, h.capram, h.bays, h.yards, h.doms, h.clusters, h.rails, h.phases, h.ctxs, tdm⟩

theorem State.Reports.keepsMem {s t : State} (h : s.Reports t) : s.KeepsMem t := fun a => by
  simp only [State.flashAt, State.storeAt, State.capAt, h.flash, h.store, h.capram, and_self]

theorem State.Reports.keepsPlant {s t : State} (h : s.Reports t) : s.KeepsPlant t := fun k => by
  simp only [State.bay, State.yard, State.dom, State.cluster, State.rail, State.phase, State.ctx, h.bays, h.yards, h.doms,
    h.clusters, h.rails, h.phases, h.ctxs, and_self]

/-- Tables kept before and after keep what lies between: a read of t is one of s. -/
theorem State.SameTables.keepsMem_iff {s t u v : State} (h : s.SameTables t) (k : u.SameTables v) : t.KeepsMem u ↔ s.KeepsMem v := by
  simp only [State.KeepsMem, State.flashAt, State.storeAt, State.capAt, h.flash, h.store, h.capram, k.flash, k.store, k.capram]

theorem State.SameTables.keepsPlant_iff {s t u v : State} (h : s.SameTables t) (k : u.SameTables v) :
    t.KeepsPlant u ↔ s.KeepsPlant v := by
  simp only [State.KeepsPlant, State.bay, State.yard, State.dom, State.cluster, State.rail, State.phase, State.ctx, h.bays, h.yards,
    h.doms, h.clusters, h.rails, h.phases, h.ctxs, k.bays, k.yards, k.doms, k.clusters, k.rails, k.phases, k.ctxs]

theorem State.SameTables.keepsMem {s t : State} (h : s.SameTables t) : s.KeepsMem t := fun a => by
  simp only [State.flashAt, State.storeAt, State.capAt, h.flash, h.store, h.capram, and_self]

theorem State.SameTables.keepsUnits {s t : State} (h : s.SameTables t) : s.KeepsUnits t := fun k => by
  simp only [State.bay, State.yard, State.dom, State.cluster, State.rail, State.phase, State.ctx, State.stream, h.bays, h.yards,
    h.doms, h.clusters, h.rails, h.phases, h.ctxs, h.tdm, and_self]

/-- An answer keeps the registers outside a list that its effect keeps there. -/
theorem State.keepsRegs_answered {s u : State} {l : List Nat} (h : ∀ a ∉ l, u.word a = s.word a) : s.KeepsRegs (s.answered u) l := by
  intro a ha
  have eff := h a ha
  split
  next e => subst e; exact u.fltStatus_wired.trans (congrArg (· &&& _) eff)
  next hf =>
    split
    next e => subst e; exact u.prtMp_wired.trans (congrArg (· &&& _) eff)
    next hp => exact (State.word_answered s u a hf hp).trans eff

/-- An answer keeps the registers outside the fault pages that its effect keeps there. -/
theorem State.keepsPages_answered {s u : State} (h : s.Within u faultPages) : s.KeepsPages (s.answered u) faultPages [] := by
  intro a ha _
  have outside (f : Nat) (hf : f / 0x1000 ∈ faultPages) : a ≠ f := fun e => ha (e ▸ hf)
  exact (State.word_answered s u a (outside _ (by decide)) (outside _ (by decide))).trans (h a ha)

theorem State.sameTables_answered (s u : State) : u.SameTables (s.answered u) :=
  have h : u.SameTables u.wired := u.reports_wired.sameTables u.tdm_wired
  ⟨h.flash, h.store, h.capram, h.bays, h.yards, h.doms, h.clusters, h.rails, h.phases, h.ctxs, h.tdm⟩

/-- What an answer keeps when its effect keeps the registers outside a list, the memories and the units. -/
theorem State.frame_answered {s u : State} {l : List Nat} (words : ∀ a ∉ l, u.word a = s.word a) (tables : s.SameTables u) :
    s.KeepsRegs (s.answered u) l ∧ s.KeepsMem (s.answered u) ∧ s.KeepsUnits (s.answered u) :=
  have all := tables.trans (s.sameTables_answered u)
  ⟨State.keepsRegs_answered words, all.keepsMem, all.keepsUnits⟩

/-! ### The port page under a fault: PRT_MP alone is written (R321, R349) -/

/-- Every register of the port page but PRT_MP reads in t as in s. -/
def State.KeepsPrt (s t : State) : Prop := ∀ a, a / 0x1000 = 2 → a ≠ PRT_MP.reg.addr → t.word a = s.word a

theorem State.KeepsPrt.refl (s : State) : s.KeepsPrt s := fun _ _ _ => rfl

theorem State.KeepsPrt.trans {s t u : State} (h : s.KeepsPrt t) (k : t.KeepsPrt u) : s.KeepsPrt u :=
  fun a p n => (k a p n).trans (h a p n)

/-- What writes no register of the port page keeps them. -/
theorem State.Within.keepsPrt {s t : State} {l : List Nat} (h : s.Within t l) (k : 2 ∉ l) : s.KeepsPrt t :=
  fun a p _ => h a (p ▸ k)

theorem State.keepsPrt_put_ibiPend (s : State) (v : Nat) : s.KeepsPrt (s.put PRT_MP.IBI_PEND v) :=
  fun a _ n => State.word_put s PRT_MP.IBI_PEND v a n

theorem State.keepsPrt_refreshPair (s : State) : s.KeepsPrt s.refreshPair := by
  unfold State.refreshPair
  dsimp only
  split
  · exact .refl s
  · exact .trans (((State.Within.refl s [0xC]).put _ _ (by decide)).keepsPrt (by decide)) (State.keepsPrt_put_ibiPend _ _)

theorem State.keepsPrt_signalDone (s : State) (w : Window) : s.KeepsPrt (s.signalDone w) := by
  have event (pg k : Nat) (h : (pg + 0x14) / 0x1000 ∈ [3, 4]) : s.KeepsPrt (s.evt pg k) :=
    ((State.Within.refl s [3, 4]).evt pg k h).keepsPrt (by decide)
  cases w
  · exact (event _ _ (by decide)).trans (State.keepsPrt_put_ibiPend _ _)
  · exact event _ _ (by decide)
  · exact event _ _ (by decide)

theorem State.keepsPrt_told (s : State) (t : CmdTag) (st : Nat) (r : Word) (v : Bool) :
    s.KeepsPrt (if v = true then (s.endEntry t st r).signalDone t.win else s.endEntry t st r) := by
  have ended : s.KeepsPrt (s.endEntry t st r) := (s.within_endEntry t st r).keepsPrt (by decide)
  split
  · exact ended.trans (State.keepsPrt_signalDone _ _)
  · exact ended

theorem State.keepsPrt_finishNow (s : State) (t : CmdTag) (c d : Nat) (r : Word) (l : Bool) : s.KeepsPrt (s.finishNow t c d r l) := by
  unfold State.finishNow
  split
  · exact .refl s
  · split
    · exact .refl s
    · dsimp only
      refine .trans ?_ ((State.within_slotLeft _ _ _).keepsPrt (by decide))
      split
      · exact (s.keepsPrt_told _ _ _ _).trans ((State.within_stageDone _ _ _ _ _ _).keepsPrt (by decide))
      · exact s.keepsPrt_told _ _ _ _

theorem State.keepsPrt_finish (s : State) (t : CmdTag) (c d : Nat) (r : Word) (l : Bool) : s.KeepsPrt (s.finish t c d r l) := by
  unfold State.finish
  split
  · exact fun _ _ _ => rfl
  · exact s.keepsPrt_finishNow t c d r l

theorem State.keepsPrt_endUnstarted (s : State) : s.KeepsPrt s.endUnstarted := by
  have fold (l : List Entry) (t : State) (h : s.KeepsPrt t) :
      s.KeepsPrt (l.foldl (fun s e => s.finish ⟨e.win, e.slot, e.seq⟩ stRefusedBusy 0xF0 0) t) := by
    induction l generalizing t with
    | nil => exact h
    | cons e l ih => exact ih _ (h.trans (State.keepsPrt_finish _ _ _ _ _ _))
  exact fold _ s (.refl s)

theorem State.keepsPrt_enterHold (s : State) (c : Nat) : s.KeepsPrt (s.enterHold c) := by
  unfold State.enterHold
  split
  · exact .refl s
  · have held : s.Within ((s.put FLT_STATUS.HOLD 1).evt pgFLT 4) [0xC] :=
      ((State.Within.refl s _).put _ _ (by decide)).evt _ _ (by decide)
    exact ((held.keepsPrt (by decide)).trans ((State.within_logEvent _ _ _).keepsPrt (by decide))).trans
      (State.keepsPrt_endUnstarted _)

theorem State.keepsPrt_classF (s : State) (c : Nat) : s.KeepsPrt (s.classF c) := by
  have latch : s.Within (if s.get FLT_REC.COUNT = 8 then s.put FLT_STATUS.LATCHED 1 else s) [0xC] := by
    split
    · exact (State.Within.refl s _).put _ _ (by decide)
    · exact .refl s _
  have held (t : State) : t.Within (if t.inBoot = true then t.put FLT_STATUS.STARTUP_HELD 1 else t) [0xC] := by
    split
    · exact (State.Within.refl t _).put _ _ (by decide)
    · exact .refl t _
  have marked := (latch.trans (held _)).keepsPrt (by decide)
  unfold State.classF
  dsimp only
  split
  · exact marked
  · exact marked.trans (State.keepsPrt_enterHold _ _)

theorem State.keepsPrt_raiseNew (s : State) (c : Nat) (p : List Nat) (a : FaultAccess) (i : Bool) (hc : c < 0x80) :
    s.KeepsPrt (s.raiseNew c p a i) := by
  have active : s.Within (s.activate c (s.raisedClass c)) [0xC] := ((State.Within.refl s [0xC]).put _ 1 (act_page c hc)).regs rfl
  have pending := active.trans (State.within_pendClass _ (s.raisedClass c) (s.escalates c))
  have captured (t : State) (b : Bool) (k : Nat) (e : Bool) (n : Nat) : t.Within (if b = true then t.capture c k e i n a else t) [0xC] := by
    split
    · exact t.within_capture _ _ _ _ _ _
    · exact .refl t _
  have recorded {t : State} (h : s.Within t [0xC]) (v f : Nat) : s.KeepsPrt (t.record c v f p) :=
    (h.keepsPrt (by decide)).trans ((t.within_record _ _ _ _).keepsPrt (by decide))
  unfold State.raiseNew
  dsimp only
  split
  · exact recorded (pending.trans (captured _ _ _ _ _)) _ _
  · exact (recorded (pending.trans (captured _ _ _ _ _)) _ _).trans (State.keepsPrt_classF _ _)

/-- The collector taking a code writes no register of the port page but PRT_MP. -/
theorem State.keepsPrt_raiseWith (s : State) (c : Nat) (p : List Nat) (a : FaultAccess) (i : Bool) (hc : c < 0x80) :
    s.KeepsPrt (s.raiseWith c p a i) := by
  have quiet (n : Nat) : s.KeepsPrt (s.restartQuiet n) := fun _ _ _ => rfl
  unfold State.raiseWith
  refine .trans ?_ (State.keepsPrt_refreshPair _)
  split
  · exact (quiet _).trans ((State.within_raiseRepeat _ _ _ _).keepsPrt (by decide))
  · exact (quiet _).trans (State.keepsPrt_raiseNew _ _ _ _ _ hc)

/-! ### The register port: what becomes of a request (R34, R36, R318, R319) -/

theorem registerWriteEff_not_ready {r : RpReq} {s : State} (h : s.responded.rpReady = false) : registerWriteEff r s = s.responded := by
  simp [registerWriteEff, h]

theorem registerReadEff_not_ready {r : RpReq} {s : State} (h : s.responded.rpReady = false) : registerReadEff r s = s.responded := by
  simp [registerReadEff, h]

theorem registerWriteEff_turnedAway {r : RpReq} {s t : State} (h : s.responded.rpReady = true)
    (k : s.responded.turnedAway r 2 = some t) : registerWriteEff r s = t := by
  simp [registerWriteEff, h, k]

theorem registerReadEff_turnedAway {r : RpReq} {s t : State} (h : s.responded.rpReady = true)
    (k : s.responded.turnedAway r 1 = some t) : registerReadEff r s = t := by
  simp [registerReadEff, h, k]

theorem registerWriteEff_taken {r : RpReq} {s : State} (h : s.responded.rpReady = true) (k : s.responded.turnedAway r 2 = none) :
    registerWriteEff r s = ((reqWrite r (s.responded.takeRequest r)).answer r 0 none).responded := by
  simp [registerWriteEff, h, k]

theorem registerReadEff_taken {r : RpReq} {s : State} (h : s.responded.rpReady = true) (k : s.responded.turnedAway r 1 = none) :
    registerReadEff r s = ((reqRead r (s.responded.takeRequest r)).1.answer r (reqRead r (s.responded.takeRequest r)).2.1
      (some (reqRead r (s.responded.takeRequest r)).2.2)).responded := by
  simp [registerReadEff, h, k]

@[simp] theorem State.cpReset_responded (s : State) : s.responded.cpReset = s.cpReset := rfl

theorem State.turnedAway_cpReset {s : State} (r : RpReq) (access : Nat) (h : s.cpReset = true) :
    s.responded.turnedAway r access = some (s.responded.answer r 1 none) := by
  rw [State.turnedAway, State.cpReset_responded, if_pos h]

theorem State.turnedAway_tagReused {s : State} {r : RpReq} (access : Nat) (h : s.cpReset = false)
    (k : (s.responded.rpOut.any fun e => e.tag == r.tag) = true) :
    s.responded.turnedAway r access = some (s.responded.tagReused r access) := by
  rw [State.turnedAway, State.cpReset_responded, if_neg (ne_true_of_eq_false h), if_pos k]

theorem State.turnedAway_slowFull {s : State} {r : RpReq} (access : Nat) (h : s.cpReset = false)
    (k : (s.responded.rpOut.any fun e => e.tag == r.tag) = false) (f : s.responded.slowFull r.addr.toNat = true) :
    s.responded.turnedAway r access = some ((s.responded.bump PRT_CNT_RETRY.COUNT).answer r 1 none) := by
  rw [State.turnedAway, State.cpReset_responded, if_neg (ne_true_of_eq_false h), if_neg (ne_true_of_eq_false k), if_pos f]

theorem State.turnedAway_none {s : State} {r : RpReq} (access : Nat) (h : s.cpReset = false)
    (k : (s.responded.rpOut.any fun e => e.tag == r.tag) = false) (f : s.responded.slowFull r.addr.toNat = false) :
    s.responded.turnedAway r access = none := by
  rw [State.turnedAway, State.cpReset_responded, if_neg (ne_true_of_eq_false h), if_neg (ne_true_of_eq_false k),
    if_neg (ne_true_of_eq_false f)]

/-! ### What the port's own bookkeeping keeps: registers, memories and units -/

@[simp] theorem State.word_responded (s : State) (a : Nat) : s.responded.word a = s.word a := rfl
@[simp] theorem State.word_takeRequest (s : State) (r : RpReq) (a : Nat) : (s.takeRequest r).word a = s.word a := rfl
@[simp] theorem State.word_answer (s : State) (r : RpReq) (n : Nat) (d : Option (BitVec 64)) (a : Nat) :
    (s.answer r n d).word a = s.word a := rfl
@[simp] theorem State.rpRsp_responded (s : State) : s.responded.rpRsp = s.rpRsp := rfl
@[simp] theorem State.rpRsp_answer (s : State) (r : RpReq) (n : Nat) (d : Option (BitVec 64)) :
    (s.answer r n d).rpRsp = some ⟨r.tag, n, d⟩ := rfl

theorem State.sameTables_responded (s : State) : s.SameTables s.responded := by constructor <;> rfl
theorem State.sameTables_takeRequest (s : State) (r : RpReq) : s.SameTables (s.takeRequest r) := by constructor <;> rfl
theorem State.sameTables_answer (s : State) (r : RpReq) (n : Nat) (d : Option (BitVec 64)) : s.SameTables (s.answer r n d) := by
  constructor <;> rfl

theorem State.sameTables_setWord (s : State) (a : Nat) (w : Word) : s.SameTables (s.setWord a w) := by constructor <;> rfl

/-- A request that the port takes leaves what its access leaves, and its response. -/
theorem State.sameTables_access {s t : State} {r : RpReq} (n : Nat) (d : Option (BitVec 64))
    (h : (s.responded.takeRequest r).SameTables t) : s.SameTables (t.answer r n d).responded :=
  ((s.sameTables_responded.trans (State.sameTables_takeRequest _ r)).trans h).trans
    ((State.sameTables_answer _ _ _ _).trans (State.sameTables_responded _))

/-! ### Requests that are not performed -/

/-- A request that is not taken (R34): no response, no register changes. -/
theorem State.frame_not_ready (s : State) :
    (s.answered s.responded).rpRsp = s.rpRsp ∧ s.KeepsRegs (s.answered s.responded) [] ∧ s.KeepsMem (s.answered s.responded) ∧
      s.KeepsUnits (s.answered s.responded) :=
  ⟨State.answered_rpRsp _ _, State.frame_answered (fun _ _ => rfl) s.sameTables_responded⟩

/-- A request during a control-plane reset receives RETRY (R319). -/
theorem State.frame_retry (s : State) (r : RpReq) :
    (s.answered (s.responded.answer r 1 none)).rpRsp = some ⟨r.tag, 1, none⟩ ∧
      s.KeepsRegs (s.answered (s.responded.answer r 1 none)) [] ∧ s.KeepsMem (s.answered (s.responded.answer r 1 none)) ∧
      s.KeepsUnits (s.answered (s.responded.answer r 1 none)) :=
  ⟨State.answered_rpRsp _ _, State.frame_answered (fun _ _ => rfl) (s.sameTables_responded.trans (State.sameTables_answer _ _ _ _))⟩

/-- A request that finds its slow target full receives RETRY and is counted (R318). -/
theorem State.frame_slowFull (s : State) (r : RpReq) {u : State} (hu : u = (s.responded.bump PRT_CNT_RETRY.COUNT).answer r 1 none) :
    (s.answered u).rpRsp = some ⟨r.tag, 1, none⟩ ∧
      (s.answered u).get PRT_CNT_RETRY.COUNT = min (s.get PRT_CNT_RETRY.COUNT + 1) 0xFFFFFFFF ∧
      s.KeepsRegs (s.answered u) [PRT_CNT_RETRY.COUNT.addr] ∧ s.KeepsMem (s.answered u) ∧ s.KeepsUnits (s.answered u) := by
  subst hu
  refine ⟨State.answered_rpRsp _ _, ?_, State.frame_answered ?_ ?_⟩
  · rw [State.get_answered _ _ _ (by decide) (by decide)]
    exact State.get_bump_same s.responded PRT_CNT_RETRY.COUNT (by decide)
  · intro a ha
    exact State.word_put s.responded PRT_CNT_RETRY.COUNT _ a (fun e => ha (List.mem_singleton.mpr e))
  · exact (s.sameTables_responded.trans (State.sameTables_setWord _ _ _)).trans (State.sameTables_answer _ _ _ _)

/-- A request that reuses an outstanding tag receives DATA_ERR, is counted, and raises a fault (R36). -/
theorem State.frame_tagReused (s : State) (r : RpReq) (access : Nat) {u : State} (hu : u = s.responded.tagReused r access) :
    (s.answered u).rpRsp = some ⟨r.tag, 2, none⟩ ∧
      (s.answered u).get PRT_CNT_TAGREUSE.COUNT = min (s.get PRT_CNT_TAGREUSE.COUNT + 1) 0xFFFFFFFF ∧
      s.KeepsPages (s.answered u) faultPages [] ∧ s.KeepsPlant (s.answered u) ∧ s.KeepsMem (s.answered u) := by
  obtain ⟨t, ht, counted, pages, reports⟩ : ∃ t, u = State.answer t r 2 none ∧
      t.get PRT_CNT_TAGREUSE.COUNT = min (s.get PRT_CNT_TAGREUSE.COUNT + 1) 0xFFFFFFFF ∧ s.Within t faultPages ∧
        s.responded.Reports t := by
    refine ⟨_, hu, ?_, ?_, (State.reports_bump _ _).trans (State.reports_raiseWith _ _ _ _ _)⟩
    · rw [State.get, State.keepsPrt_raiseWith _ _ _ _ _ (by decide) _ (by decide) (by decide)]
      exact State.get_bump_same s.responded PRT_CNT_TAGREUSE.COUNT (by decide)
    · exact ((State.Within.refl s.responded _).bump _ (by decide)).trans (State.within_raiseWith _ _ _ _ _ (by decide))
  have tables : t.SameTables (s.answered u) := ht ▸ (State.sameTables_answer _ _ _ _).trans (State.sameTables_answered _ _)
  refine ⟨by rw [State.answered_rpRsp, ht, State.rpRsp_answer], ?_, State.keepsPages_answered (ht ▸ pages),
    (s.sameTables_responded.keepsPlant_iff tables).mp reports.keepsPlant,
    (s.sameTables_responded.keepsMem_iff tables).mp reports.keepsMem⟩
  rw [State.get_answered _ _ _ (by decide) (by decide), ht]
  exact counted

/-! ### Requests that are performed -/

/-- A write that is taken is answered OKAY (R8). -/
theorem registerWriteEff_rpRsp {r : RpReq} {s : State} (h : s.responded.rpReady = true) (k : s.responded.turnedAway r 2 = none) :
    (registerWriteEff r s).rpRsp = some ⟨r.tag, 0, none⟩ := by
  rw [registerWriteEff_taken h k, State.rpRsp_responded, State.rpRsp_answer]

/-- The lanes of OT_RP_RDATA of a read (R34). -/
def readLanes (r : RpReq) (lo hi : Word) : BitVec 64 :=
  if r.wide then hi ++ lo else if r.addr.toNat % 8 = 4 then lo ++ (0 : Word) else (0 : Word) ++ lo

theorem readLanes_zero (r : RpReq) : readLanes r 0 0 = 0 := by
  unfold readLanes
  split
  · rfl
  · split <;> rfl

/-- What a read that is taken leaves, by what the aperture answers. -/
theorem registerReadEff_portRead {r : RpReq} {s u : State} {lo hi : Word} {bad : Bool} (h : s.responded.rpReady = true)
    (k : s.responded.turnedAway r 1 = none)
    (e : (s.responded.takeRequest r).portRead (reqOf r) r.addr.toNat r.wide = (u, lo, hi, bad)) :
    registerReadEff r s = (u.answer r (if bad then 2 else 0) (some (readLanes r lo hi))).responded := by
  rw [registerReadEff_taken h k]
  simp only [reqRead, e, readLanes]

/-- A register-port read that is not aligned is performed on nothing (R34). -/
theorem State.portRead_misaligned (s : State) (q : Requester) (a : Nat) (wide : Bool) (hq : q.port ≠ .dbg)
    (h : a % (if wide then 8 else 4) ≠ 0) : s.portRead q a wide = (s, 0, 0, false) := by
  rw [State.portRead, if_neg (fun x => hq x.1), if_pos h]

/-! ### PG_ERR (R422) -/

theorem State.word_pgErr (s : State) (pg : Nat) (q : Requester) (n addr a : Nat) (h : a ≠ pg + 0x1C) :
    (s.pgErr pg q n addr).word a = s.word a := by
  unfold State.pgErr
  dsimp only
  split <;> rw [State.word_setWord, if_neg h]

theorem State.reports_pgErr (s : State) (pg : Nat) (q : Requester) (n addr : Nat) : s.Reports (s.pgErr pg q n addr) := by
  unfold State.pgErr
  dsimp only
  split <;> exact s.reports_setWord _ _

theorem State.tdm_pgErr (s : State) (pg : Nat) (q : Requester) (n addr : Nat) : (s.pgErr pg q n addr).tdm = s.tdm := by
  unfold State.pgErr
  dsimp only
  split <;> exact State.setWord_tdm _ _ _

theorem State.sameTables_pgErr (s : State) (pg : Nat) (q : Requester) (n addr : Nat) : s.SameTables (s.pgErr pg q n addr) :=
  (s.reports_pgErr pg q n addr).sameTables (s.tdm_pgErr pg q n addr)

/-- Strobes that do not agree with the address, or an address that is no multiple of the width, select no word (R34). -/
theorem reqWords_misplaced {r : RpReq} (h8 : r.strobes = 0xFF → r.addr.toNat % 8 ≠ 0)
    (hlo : r.strobes = 0x0F → r.addr.toNat % 8 ≠ 0)
    (hhi : r.strobes = 0xF0 → r.addr.toNat % 8 ≠ 4) : ∃ n, reqWords r = (n + 1, []) := by
  unfold reqWords
  dsimp only
  split
  · next e => exact ⟨6, if_neg (h8 e)⟩
  · split
    · next e => rw [if_neg (hlo e)]; split; exacts [⟨3, rfl⟩, ⟨6, rfl⟩]
    · split
      · next e => rw [if_neg (hhi e)]; split; exacts [⟨3, rfl⟩, ⟨6, rfl⟩]
      · exact ⟨3, rfl⟩

/-- A write performed on no word is recorded. -/
theorem reqWrite_misplaced {r : RpReq} {n : Nat} (s : State) (h : reqWords r = (n + 1, [])) :
    reqWrite r s = s.pgErr (errPage (homeAddr r.addr.toNat)) (reqOf r)
      (if mayWriteAt (clsOf (reqOf r)) (homeAddr r.addr.toNat) then n + 1 else 1) r.addr.toNat := by
  unfold reqWrite
  rw [h]
  rfl

/-- A write performed on no word changes PG_ERR of one page alone (R34). -/
theorem State.frame_misplaced {r : RpReq} {s : State} {n : Nat} (h : s.responded.rpReady = true)
    (k : s.responded.turnedAway r 2 = none) (words : reqWords r = (n + 1, [])) :
    s.KeepsRegs (s.answered (registerWriteEff r s)) [errPage (homeAddr r.addr.toNat) + 0x1C] ∧
      s.KeepsMem (s.answered (registerWriteEff r s)) ∧ s.KeepsUnits (s.answered (registerWriteEff r s)) := by
  rw [registerWriteEff_taken h k, reqWrite_misplaced _ words]
  exact State.frame_answered (fun a ha => State.word_pgErr _ _ _ _ _ _ fun e => ha (List.mem_singleton.mpr e))
    (State.sameTables_access _ _ (State.sameTables_pgErr _ _ _ _ _))

/-- A register-port read that is not aligned returns 0 and changes no register (R34). -/
theorem State.frame_misaligned {r : RpReq} {s : State} (h : s.responded.rpReady = true) (k : s.responded.turnedAway r 1 = none)
    (ha : r.addr.toNat % (if r.wide then 8 else 4) ≠ 0) :
    (s.answered (registerReadEff r s)).rpRsp = some ⟨r.tag, 0, some 0⟩ ∧ s.KeepsRegs (s.answered (registerReadEff r s)) [] ∧
      s.KeepsMem (s.answered (registerReadEff r s)) ∧ s.KeepsUnits (s.answered (registerReadEff r s)) := by
  rw [registerReadEff_portRead h k (State.portRead_misaligned _ _ _ _ (show Port.rp ≠ .dbg by decide) ha), readLanes_zero]
  exact ⟨State.answered_rpRsp _ _, State.frame_answered (fun _ _ => by simp) (State.sameTables_access _ _ (.refl _))⟩

/-! ### A KERN write of PG_EVTEN of the PIL page (R9, R417) -/

/-- The register has one field, RW. -/
theorem fieldsAt_pilEvten : fieldsAt 0x7018 = [⟨0, 32, .rw, 0⟩] := by decide

/-- No rule of range or state speaks of it. -/
theorem State.ruleOf_pilEvten (s : State) (nv : Fld → Nat) (c : Cls) (v : Nat) : s.ruleOf nv c 0x7018 0 v = none := by
  unfold State.ruleOf
  have row : rowKey 0x7018 = (7, 0x18) := by decide
  have range : inRange (7, 0x18) 0 v = true := by rfl
  have slot : slotAt 0x7018 = none := by decide
  simp only [row, range, slot]
  rfl

/-- It stores the bits that are not reserved. -/
theorem stored_pilEvten (v : Nat) : stored 0x7018 v = Nat.land v 7 := by
  have header : 0x7018 < bayHome ∧ hasHeader (0x7018 / 0x1000) = true ∧ 0x7018 % 0x1000 = 0x18 := by decide
  unfold stored
  rw [if_pos header]
  rfl

theorem State.judge_pilEvten (s : State) (q : Requester) (w : Word) (hq : clsOf q = .kern) (h : s.holding = false) :
    s.judge q [(0x7018, w)] 0x7018 ⟨0, 32, .rw, 0⟩ = .set (Nat.land w.toNat 7) := by
  have ro : isRo 0x7018 ⟨0, 32, .rw, 0⟩ = false := by decide
  have may : mayWriteField .kern 0x7018 ⟨0, 32, .rw, 0⟩ = true := by decide
  have act : byAction 0x7018 ⟨0, 32, .rw, 0⟩ = false := by decide
  have expert : (Access.rw == Access.rwx) = false := by decide
  have word : (s.newWord [(0x7018, w)] 0x7018).field 0 32 = w.toNat := by
    have : w.toNat < 2 ^ 32 := w.isLt
    simp only [State.newWord, List.find?_cons, BEq.rfl, Word.field, pow_zero, Nat.div_one]
    omega
  unfold State.judge
  simp [hq, ro, may, act, h, word, expert, stored_pilEvten, State.ruleOf_pilEvten]

theorem State.judgeWord_pilEvten (s : State) (q : Requester) (w : Word) (hq : clsOf q = .kern) (h : s.holding = false) :
    s.judgeWord q [(0x7018, w)] 0x7018 = ([(⟨0, 32, .rw, 0⟩, .set (Nat.land w.toNat 7))], false) := by
  have free : watched 0x7018 ⟨0, 32, .rw, 0⟩ = false := by decide
  unfold State.judgeWord
  simp [fieldsAt_pilEvten, State.judge_pilEvten s q w hq h, free]

/-- Nothing in the block acts on it. -/
theorem State.afterWord_pilEvten (s s0 : State) (q : Requester) (w : Word) (got : Nat → Bool) :
    s.afterWord s0 q 0x7018 w got = s := by
  have row : rowKey 0x7018 = (7, 0x18) := by decide
  unfold State.afterWord State.afterPage
  simp only [row]
  rfl

theorem Word.withField_all (x y : Word) : x.withField 0 32 y.toNat = y := by
  apply BitVec.eq_of_toNat_eq
  have hx : x.toNat < 2 ^ 32 := x.isLt
  have hy : y.toNat < 2 ^ 32 := y.isLt
  rw [Word.toNat_withField _ _ _ _ (by decide)]
  omega

theorem State.busStore_pilEvten (s : State) (q : Requester) (w : Word) (hq : clsOf q = .kern) (h : s.holding = false) :
    s.busStore q 0x7018 [(0x7018, w)] = s.setWord 0x7018 (w &&& 0x7) := by
  have judged := s.judgeWord_pilEvten q w hq h
  have unrecorded : recordReason (clsOf q) 0x7018 [(⟨0, 32, .rw, 0⟩, .set (Nat.land w.toNat 7))] = none := rfl
  have land : Nat.land w.toNat 7 = (w &&& 0x7).toNat := rfl
  have e := s.busStore_one q 0x7018 w _ (by decide) (by decide) judged unrecorded
  rw [show apertureAddr 0x7018 = 0x7018 by decide] at e
  rw [e, State.afterWord_pilEvten, ite_self, applied, List.foldl_cons, List.foldl_nil, land]
  exact congrArg _ (Word.withField_all _ _)

theorem State.portWrite_pilEvten (s : State) (w : Word) (hc : s.cpReset = false) (h : s.holding = false) :
    s.portWrite ⟨.rp, 1⟩ 0x7018 [(0x7018, w)] = s.setWord 0x7018 (w &&& 0x7) := by
  have may : mayWriteAt .kern (homeAddr 0x7018) = true := by decide
  have sound (q : Requester) : s.memRead q (homeAddr 0x7018) 2 = (s, false) := rfl
  rw [← s.busStore_pilEvten ⟨.rp, 1⟩ w rfl h]
  unfold State.portWrite
  simp [hc, sound, clsOf, may]

theorem reqWrite_pilEvten {r : RpReq} (s : State) (ha : r.addr = 0x7018) (hs : r.strobes = 0x0F) (hc : r.stamp = 1)
    (h : s.cpReset = false) (k : s.holding = false) :
    reqWrite r s = s.setWord 0x7018 (r.data.extractLsb' 0 32 &&& 0x7) := by
  have words : reqWords r = (0, [(0x7018, r.data.extractLsb' 0 32)]) := by
    unfold reqWords
    rw [ha, hs]
    rfl
  rw [← s.portWrite_pilEvten _ h k]
  unfold reqWrite
  rw [words, reqOf, ha, hc]
  rfl

/-- What the register holds after the write, and what stays (R9). -/
theorem State.frame_pilEvten {r : RpReq} {s : State} (h : s.responded.rpReady = true) (k : s.responded.turnedAway r 2 = none)
    (ha : r.addr = 0x7018) (hs : r.strobes = 0x0F) (hc : r.stamp = 1) (hr : s.cpReset = false) (hh : s.holding = false) :
    (s.answered (registerWriteEff r s)).word 0x7018 = r.data.extractLsb' 0 32 &&& 0x7 ∧
      s.KeepsRegs (s.answered (registerWriteEff r s)) [0x7018] ∧ s.KeepsMem (s.answered (registerWriteEff r s)) ∧
      s.KeepsUnits (s.answered (registerWriteEff r s)) := by
  rw [registerWriteEff_taken h k, reqWrite_pilEvten (s.responded.takeRequest r) ha hs hc hr hh]
  refine ⟨?_, State.frame_answered (fun a ha => ?_) (State.sameTables_access _ _ (State.sameTables_setWord _ _ _))⟩
  · rw [State.word_answered _ _ _ (by decide) (by decide), State.word_responded, State.word_answer, State.word_setWord, if_pos rfl]
  · rw [State.word_responded, State.word_answer, State.word_setWord, if_neg fun e => ha (List.mem_singleton.mpr e),
      State.word_takeRequest, State.word_responded]

/-- Settles O9: the request is turned away or taken by the conditions of its clause, and each outcome keeps what the port's bookkeeping
and the wires do not reach. -/
theorem registerPortAnswersAndLanes : Obligations.RegisterPortAnswersAndLanes := by
  unfold Obligations.RegisterPortAnswersAndLanes
  refine ⟨fun r s h => ?_, fun r s h => ?_, fun r s h hc => ?_, fun r s h hc => ?_, fun r s h hc ht => ?_, fun r s h hc ht => ?_,
    fun r s h hc ht hf => ?_, fun r s h hc ht hf => ?_, fun r s h hc ht hf => ?_, fun r s h hc ht hf h8 hlo hhi => ?_,
    fun r s h hc ht hf ha => ?_, fun r u lo hi bad s h hc ht hf hp => ?_, fun r s h hc hh ht ha hs hk => ?_⟩
  · exact ⟨_, exec_registerWrite r s, by rw [registerWriteEff_not_ready h]; exact s.frame_not_ready⟩
  · exact ⟨_, exec_registerRead r s, by rw [registerReadEff_not_ready h]; exact s.frame_not_ready⟩
  · exact ⟨_, exec_registerWrite r s, by
      rw [registerWriteEff_turnedAway h (State.turnedAway_cpReset r 2 hc)]; exact s.frame_retry r⟩
  · exact ⟨_, exec_registerRead r s, by
      rw [registerReadEff_turnedAway h (State.turnedAway_cpReset r 1 hc)]; exact s.frame_retry r⟩
  · exact ⟨_, exec_registerWrite r s, s.frame_tagReused r 2 (registerWriteEff_turnedAway h (State.turnedAway_tagReused 2 hc ht))⟩
  · exact ⟨_, exec_registerRead r s, s.frame_tagReused r 1 (registerReadEff_turnedAway h (State.turnedAway_tagReused 1 hc ht))⟩
  · exact ⟨_, exec_registerWrite r s, s.frame_slowFull r (registerWriteEff_turnedAway h (State.turnedAway_slowFull 2 hc ht hf))⟩
  · exact ⟨_, exec_registerRead r s, s.frame_slowFull r (registerReadEff_turnedAway h (State.turnedAway_slowFull 1 hc ht hf))⟩
  · exact ⟨_, exec_registerWrite r s, (State.answered_rpRsp _ _).trans (registerWriteEff_rpRsp h (State.turnedAway_none 2 hc ht hf))⟩
  · have taken := State.turnedAway_none 2 hc ht hf
    obtain ⟨n, words⟩ := reqWords_misplaced h8 hlo hhi
    exact ⟨_, exec_registerWrite r s, (State.answered_rpRsp _ _).trans (registerWriteEff_rpRsp h taken),
      State.frame_misplaced h taken words⟩
  · exact ⟨_, exec_registerRead r s, State.frame_misaligned h (State.turnedAway_none 1 hc ht hf) ha⟩
  · refine ⟨_, exec_registerRead r s, ?_⟩
    rw [registerReadEff_portRead h (State.turnedAway_none 1 hc ht hf) hp, State.answered_rpRsp]
    rfl
  · have fast : s.responded.slowFull r.addr.toNat = false := by rw [ha]; rfl
    have taken := State.turnedAway_none 2 hc ht fast
    exact ⟨_, exec_registerWrite r s, (State.answered_rpRsp _ _).trans (registerWriteEff_rpRsp h taken),
      State.frame_pilEvten h taken ha hs hk hc hh⟩

/-! ### Accesses that the table of R314 does not permit -/

/-- Every register reads in t as in s, and t differs from s in nothing but how its registers are held. -/
structure State.SameReads (s t : State) : Prop where
  words : ∀ a, t.word a = s.word a
  reports : s.Reports t
  tdm : t.tdm = s.tdm

theorem State.SameReads.refl (s : State) : s.SameReads s := ⟨fun _ => rfl, .refl s, rfl⟩

theorem State.SameReads.trans {s t u : State} (h : s.SameReads t) (k : t.SameReads u) : s.SameReads u :=
  ⟨fun a => (k.words a).trans (h.words a), h.reports.trans k.reports, k.tdm.trans h.tdm⟩

/-- Storing the word that stands changes no reading. -/
theorem State.sameReads_setWord (s : State) (a : Nat) : s.SameReads (s.setWord a (s.word a)) where
  words b := by
    rw [State.word_setWord]
    split
    · next e => rw [e]
    · rfl
  reports := s.reports_setWord _ _
  tdm := State.setWord_tdm _ _ _

/-- What admission judges follows from the registers' readings. -/
theorem State.loopConfig_congr {s t : State} (h : ∀ a, t.word a = s.word a) : t.loopConfig true = s.loopConfig true := by
  have get (f : Fld) : t.get f = s.get f := by rw [State.get, h, ← State.get]
  have on (f : Fld) : t.on f = s.on f := by rw [State.on, get, ← State.on]
  simp only [State.loopConfig, State.lawSlots, State.lanes, get, on, Bool.true_or, if_true]

/-- Judgements of which none sets a field or acts: each field is read-only, or refused for the class. -/
def Untaken (l : List (FSpec × Verdict)) : Prop := ∀ p ∈ l, p.2 = .ro ∨ p.2 = .no 1

/-- What no untaken judgement has, none of them has. -/
theorem Untaken.any_eq_false {l : List (FSpec × Verdict)} (h : Untaken l) {g : FSpec × Verdict → Bool}
    (hg : ∀ p, p.2 = .ro ∨ p.2 = .no 1 → g p = false) : l.any g = false :=
  List.any_eq_false.mpr fun p hp => ne_true_of_eq_false (hg p (h p hp))

/-- A class that may not write at an address has each field there read-only to it, or refused (R8, R13). -/
theorem State.judge_unpermitted (s : State) (q : Requester) (ws : Words) (a : Nat) (f : FSpec) (h : mayWriteAt (clsOf q) a = false) :
    s.judge q ws a f = .ro ∨ s.judge q ws a f = .no 1 := by
  have field : mayWriteField (clsOf q) a f = false := by rw [mayWriteField, h, Bool.false_and]
  unfold State.judge
  dsimp only
  split
  · exact .inl rfl
  · rw [field]
    exact .inr rfl

theorem applied_untaken (w : Word) {l : List (FSpec × Verdict)} (h : Untaken l) : applied w l = w := by
  unfold applied
  induction l with
  | nil => rfl
  | cons p l ih =>
    have head : p.2 = .ro ∨ p.2 = .no 1 := h p List.mem_cons_self
    have rest := ih fun x hx => h x (List.mem_cons_of_mem _ hx)
    rw [List.foldl_cons]
    rcases head with e | e <;> simpa only [e] using rest

/-- The judgement of a word in which the class may write nothing (R8, R90). -/
theorem State.judgeWord_unpermitted (s : State) (q : Requester) (ws : Words) (a : Nat) (h : mayWriteAt (clsOf q) a = false) :
    Untaken (s.judgeWord q ws a).1 ∧ (s.judgeWord q ws a).2 = false := by
  have untaken : Untaken ((fieldsAt a).map fun f => (f, s.judge q ws a f)) := by
    intro p hp
    obtain ⟨f, -, rfl⟩ := List.mem_map.mp hp
    exact s.judge_unpermitted q ws a f h
  have same := State.loopConfig_congr (s.sameReads_setWord a).words
  unfold State.judgeWord
  dsimp only
  rw [applied_untaken _ untaken, if_pos (Or.inl same), ite_self]
  exact ⟨untaken, rfl⟩

/-- A write of which nothing is taken is recorded with some REASON. -/
theorem recordReason_untaken (c : Cls) (a : Nat) {l : List (FSpec × Verdict)} (h : Untaken l) :
    ∃ n < 8, recordReason c a l = some n := by
  unfold recordReason
  dsimp only
  split
  next n e =>
    obtain ⟨p, hp, hn⟩ := List.mem_filterMap.mp (List.min?_mem e)
    rcases h p hp with k | k
    · simp [k] at hn
    · simp only [k, Option.some.injEq] at hn
      exact ⟨n, by omega, rfl⟩
  next =>
    rw [if_neg]
    · split
      · split
        · exact ⟨6, by decide, rfl⟩
        · exact ⟨1, by decide, rfl⟩
      · exact ⟨0, by decide, rfl⟩
    · rw [h.any_eq_false fun p hp => by rcases hp with k | k <;> rw [k]]
      exact Bool.false_ne_true

/-- Words of which nothing is set are stored as they stand. -/
theorem State.sameReads_store (l : List ((Nat × Word) × List (FSpec × Verdict) × Bool)) (h : ∀ j ∈ l, Untaken j.2.1) (s : State) :
    s.SameReads (l.foldl (fun s j => s.setWord j.1.1 (applied (s.word j.1.1) j.2.1)) s) := by
  induction l generalizing s with
  | nil => exact .refl s
  | cons j l ih =>
    have head := s.sameReads_setWord j.1.1
    rw [List.foldl_cons, applied_untaken _ (h j List.mem_cons_self)]
    exact head.trans (ih (fun x hx => h x (List.mem_cons_of_mem _ hx)) _)

/-- Above the register pages a home address is the address itself, and its refusals stand in GLB (R415, R416). -/
theorem homeAddr_window {a : Nat} (h : 0x80000 ≤ a) (k : a < 2 ^ 21) : homeAddr a = a ∧ errPage a = pgGLB := by
  constructor
  · exact if_neg (by omega)
  · have header : hasHeader (a / 0x1000) = false := by
      simp only [hasHeader, Bool.or_eq_false_iff, Bool.and_eq_false_iff, decide_eq_false_iff_not]
      omega
    have cmk : a / 0x1000 ≠ 5 := by omega
    have bay : ¬bayHome ≤ a := by simp only [bayHome]; omega
    simp [errPage, header, cmk, bay]

/-- A write that a class may not make at its address performs nothing in the model store window (R138). -/
theorem State.storeWrite_unpermitted (s : State) (q : Requester) (req : Nat) (ws : Words) (h : mayWriteAt (clsOf q) req = false) :
    ∃ n < 8, s.storeWrite q req ws = s.pgErr pgGLB q n req := by
  unfold State.storeWrite
  dsimp only
  rw [h]
  split
  · exact ⟨1, by decide, rfl⟩
  · split
    · exact ⟨0, by decide, rfl⟩
    · exact ⟨1, by decide, rfl⟩

/-- A write that a class may make nowhere in its words takes nothing and changes PG_ERR alone (R13, R315). -/
theorem State.regWrite_unpermitted (s : State) (q : Requester) (req : Nat) (ws : Words) (hreq : req < 2 ^ 21)
    (h : mayWriteAt (clsOf q) (homeAddr req) = false) (hws : ∀ e ∈ ws, mayWriteAt (clsOf q) e.1 = false)
    (first : (ws.headD (0, 0)).1 = homeAddr req) :
    (s.regWrite q req ws).2 = [] ∧ ∃ n < 8, (s.pgErr (errPage (homeAddr req)) q n req).SameReads (s.regWrite q req ws).1 := by
  unfold State.regWrite
  split
  next store =>
    obtain ⟨home, page⟩ := homeAddr_window store.1 hreq
    rw [home] at h ⊢
    obtain ⟨n, hn, e⟩ := s.storeWrite_unpermitted q req ws h
    rw [page, e]
    exact ⟨rfl, n, hn, .refl _⟩
  next =>
    split
    next window =>
      obtain ⟨home, page⟩ := homeAddr_window (by omega) hreq
      rw [home] at h ⊢
      rw [h, page]
      have code : (if req < 0x140000 then 0 else 1) < 8 := by split <;> omega
      exact ⟨rfl, _, code, .refl _⟩
    next =>
      have judged : ∀ j ∈ ws.map fun e => (e, s.judgeWord q ws e.1), Untaken j.2.1 ∧ j.2.2 = false := by
        intro j hj
        obtain ⟨e, he, rfl⟩ := List.mem_map.mp hj
        exact s.judgeWord_unpermitted q ws e.1 (hws e he)
      revert judged
      dsimp only
      rw [first]
      generalize (ws.map fun e => (e, s.judgeWord q ws e.1)) = l
      intro judged
      have all : Untaken (l.flatMap fun j => j.2.1) := by
        intro p hp
        obtain ⟨j, hj, hp⟩ := List.mem_flatMap.mp hp
        exact (judged j hj).1 p hp
      obtain ⟨n, hn, reason⟩ := recordReason_untaken (clsOf q) (homeAddr req) all
      have admitted : (l.any fun j => j.2.2) = false := List.any_eq_false.mpr fun j hj => ne_true_of_eq_false (judged j hj).2
      rw [reason, admitted]
      refine ⟨?_, n, hn, ?_⟩
      · refine List.flatMap_eq_nil_iff.mpr fun j hj => ?_
        rw [List.map_eq_nil_iff, List.filter_eq_nil_iff]
        exact fun f _ => ne_true_of_eq_false ((judged j hj).1.any_eq_false fun p hp => by rcases hp with k | k <;> simp [k])
      · dsimp only
        rw [List.foldl_ext _ (fun t _ => t) _ fun t j hj => ?_, List.foldl_fixed]
        · exact State.sameReads_store l (fun j hj => (judged j hj).1) _
        · refine if_neg (ne_true_of_eq_false (List.any_eq_false.mpr fun f _ => ne_true_of_eq_false ?_))
          exact (judged j hj).1.any_eq_false fun p hp => by rcases hp with k | k <;> simp [k]

/-! ### What a refused access leaves -/

/-- Between s and t a refused access was recorded, and no register reads differently besides. -/
def State.Recorded (s t : State) (q : Requester) (req : Nat) : Prop :=
  ∃ n < 8, (s.pgErr (errPage (homeAddr req)) q n req).SameReads t

/-- PG_ERR as a refused access leaves it (R422). -/
def errWord (w : Word) (q : Requester) (n addr : Nat) : Word :=
  if w.field 31 1 = 1 then w.withField 30 1 1
  else pack [(1, 31), (w.field 30 1, 30), (classCode q, 27), (n, 24), (portCode q.port, 22), (addr % 2 ^ 21, 0)]

theorem State.word_pgErr_same (s : State) (pg : Nat) (q : Requester) (n addr : Nat) :
    (s.pgErr pg q n addr).word (pg + 0x1C) = errWord (s.word (pg + 0x1C)) q n addr := by
  unfold State.pgErr errWord
  dsimp only
  split <;> rw [State.word_setWord, if_pos rfl]

theorem classCode_lt (q : Requester) : classCode q < 8 := by
  unfold classCode
  split
  any_goals decide
  exact q.stamp.isLt

theorem portCode_lt (p : Port) : portCode p < 3 := by cases p <;> decide

/-- A first refusal records the requester's class, its port and the address (R417, R422). -/
theorem errWord_fields {w : Word} {q : Requester} {n addr : Nat} (hn : n < 8) (ha : addr < 2 ^ 21) (hw : w.field 31 1 = 0) :
    (errWord w q n addr).field 31 1 = 1 ∧ (errWord w q n addr).field 27 3 = classCode q ∧
      (errWord w q n addr).field 22 2 = portCode q.port ∧ (errWord w q n addr).field 0 21 = addr := by
  have hc := classCode_lt q
  have hp := portCode_lt q.port
  have ho := Word.field_lt w 30 1
  rw [errWord, if_neg (by omega)]
  generalize classCode q = c at *
  generalize portCode q.port = p at *
  generalize w.field 30 1 = o at *
  simp only [pack, List.foldl_cons, List.foldl_nil, Word.field, BitVec.toNat_ofNat]
  omega

/-- An access that is refused changes PG_ERR of one page, and no other register, no memory and no unit (R13, R315). -/
structure State.Refused (s t : State) (q : Requester) (req : Nat) : Prop where
  words : ∀ a ≠ errPage (homeAddr req) + 0x1C, t.word a = s.word a
  record : ∃ n < 8, t.word (errPage (homeAddr req) + 0x1C) = errWord (s.word (errPage (homeAddr req) + 0x1C)) q n req
  tables : s.SameTables t

theorem State.Recorded.refused {s t : State} {q : Requester} {req : Nat} (h : s.Recorded t q req) : s.Refused t q req := by
  obtain ⟨n, hn, k⟩ := h
  exact {
    words := fun a ha => (k.words a).trans (State.word_pgErr _ _ _ _ _ _ ha)
    record := ⟨n, hn, (k.words _).trans (State.word_pgErr_same _ _ _ _ _)⟩
    tables := (State.sameTables_pgErr _ _ _ _ _).trans (k.reports.sameTables k.tdm) }

theorem State.Recorded.mp {s t : State} {q : Requester} {req : Nat} (h : s.Recorded t q req) : t.mp = s.mp := by
  obtain ⟨n, -, k⟩ := h
  exact k.reports.mp.trans (State.reports_pgErr _ _ _ _ _).mp

theorem errPage_mod (a : Nat) : errPage a % 0x1000 = 0 := by
  unfold errPage
  dsimp only
  split
  · rfl
  · split
    · rfl
    · split
      · omega
      · rfl

/-- What the requester and the others see of a refused access once its command has ended. -/
theorem State.Refused.answered {s u : State} {q : Requester} {req : Nat} (h : s.Refused u q req) (hreq : req < 2 ^ 21) :
    s.KeepsRegs (s.answered u) [errPage (homeAddr req) + 0x1C] ∧ s.KeepsMem (s.answered u) ∧ s.KeepsUnits (s.answered u) ∧
      ((s.word (errPage (homeAddr req) + 0x1C)).field 31 1 = 0 →
        ((s.answered u).word (errPage (homeAddr req) + 0x1C)).field 31 1 = 1 ∧
        ((s.answered u).word (errPage (homeAddr req) + 0x1C)).field 27 3 = classCode q ∧
        ((s.answered u).word (errPage (homeAddr req) + 0x1C)).field 22 2 = portCode q.port ∧
        ((s.answered u).word (errPage (homeAddr req) + 0x1C)).field 0 21 = req) ∧
      ((s.word (errPage (homeAddr req) + 0x1C)).field 31 1 = 1 →
        (s.answered u).word (errPage (homeAddr req) + 0x1C) = (s.word (errPage (homeAddr req) + 0x1C)).withField 30 1 1) := by
  obtain ⟨n, hn, record⟩ := h.record
  obtain ⟨regs, mem, units⟩ := State.frame_answered (l := [errPage (homeAddr req) + 0x1C])
    (fun a ha => h.words a fun e => ha (List.mem_singleton.mpr e)) h.tables
  have offWires (f : Nat) (hf : f % 0x1000 ≠ 0x1C) : errPage (homeAddr req) + 0x1C ≠ f := by
    have := errPage_mod (homeAddr req)
    omega
  have word := (State.word_answered s u _ (offWires FLT_STATUS.reg.addr (by decide)) (offWires PRT_MP.reg.addr (by decide))).trans record
  refine ⟨regs, mem, units, fun first => ?_, fun again => ?_⟩
  · rw [word]
    exact errWord_fields hn hreq first
  · rw [word]
    exact if_pos again

/-! ### Writes over a port that the class may not make -/

theorem State.busStore_unpermitted (s : State) (q : Requester) (req : Nat) (ws : Words) (hreq : req < 2 ^ 21)
    (h : mayWriteAt (clsOf q) (homeAddr req) = false) (hws : ∀ e ∈ ws, mayWriteAt (clsOf q) e.1 = false)
    (first : (ws.headD (0, 0)).1 = homeAddr req) : s.Recorded (s.busStore q req ws) q req := by
  obtain ⟨untaken, recorded⟩ := s.regWrite_unpermitted q req ws hreq h hws first
  have commits : s.busStore q req ws = (s.regWrite q req ws).1 := by
    unfold State.busStore
    simp [untaken]
  rw [commits]
  exact recorded

theorem State.portWrite_unpermitted (s : State) (q : Requester) (req : Nat) (ws : Words) (hc : s.cpReset = false)
    (hd : q.port = .dbg → s.active = false) (hreq : req < 2 ^ 21) (h : mayWriteAt (clsOf q) (homeAddr req) = false)
    (hws : ∀ e ∈ ws, mayWriteAt (clsOf q) e.1 = false) (first : (ws.headD (0, 0)).1 = homeAddr req) :
    s.Recorded (s.portWrite q req ws) q req := by
  have served (p : Port) : ¬(s.cpReset = true ∧ q.port = p) := fun x => ne_true_of_eq_false hc x.1
  have opened : ¬(q.port = .dbg ∧ s.active = true) := fun x => ne_true_of_eq_false (hd x.1) x.2
  have barred : ¬(ws.length = 1 ∧ mayWriteAt (clsOf q) (homeAddr req) = true) := fun x => ne_true_of_eq_false h x.2
  rw [State.portWrite, if_neg (served _), if_neg (served _), if_neg opened, if_neg barred]
  exact s.busStore_unpermitted q req ws hreq h hws first

/-- The words of a register-port write begin at its address, or there are none (R34). -/
theorem reqWords_cases (r : RpReq) :
    (∃ n, reqWords r = (n + 1, [])) ∨ ∃ ws, reqWords r = (0, ws) ∧ (ws.headD (0, 0)).1 = homeAddr r.addr.toNat := by
  by_cases h8 : r.strobes = 0xFF → r.addr.toNat % 8 ≠ 0
  · by_cases hlo : r.strobes = 0x0F → r.addr.toNat % 8 ≠ 0
    · by_cases hhi : r.strobes = 0xF0 → r.addr.toNat % 8 ≠ 4
      · exact .inl (reqWords_misplaced h8 hlo hhi)
      · push Not at hhi
        right
        refine ⟨[(homeAddr r.addr.toNat, r.data.extractLsb' 32 32)], ?_, rfl⟩
        simp [reqWords, hhi]
    · push Not at hlo
      right
      refine ⟨[(homeAddr r.addr.toNat, r.data.extractLsb' 0 32)], ?_, rfl⟩
      simp [reqWords, hlo]
  · push Not at h8
    right
    refine ⟨[(homeAddr r.addr.toNat, r.data.extractLsb' 0 32), (homeAddr r.addr.toNat + 4, r.data.extractLsb' 32 32)], ?_, rfl⟩
    simp [reqWords, h8]

theorem reqWrite_placed {r : RpReq} {ws : Words} (s : State) (h : reqWords r = (0, ws)) :
    reqWrite r s = s.portWrite (reqOf r) r.addr.toNat ws := by
  unfold reqWrite
  rw [h]
  rfl

theorem reqWrite_unpermitted (r : RpReq) (s : State) (hc : s.cpReset = false)
    (h : mayWriteAt (clsOf (reqOf r)) (homeAddr r.addr.toNat) = false)
    (hws : ∀ e ∈ (reqWords r).2, mayWriteAt (clsOf (reqOf r)) e.1 = false) :
    s.Recorded (reqWrite r s) (reqOf r) r.addr.toNat := by
  rcases reqWords_cases r with ⟨n, e⟩ | ⟨ws, e, first⟩
  · rw [reqWrite_misplaced s e, h]
    exact ⟨1, by decide, .refl _⟩
  · rw [reqWrite_placed s e]
    rw [e] at hws
    exact s.portWrite_unpermitted _ _ _ hc (fun x => Port.noConfusion x) r.addr.isLt h hws first

/-- A read that a class may not make returns 0 and is recorded (R315). -/
theorem State.portRead_unpermitted (s : State) (q : Requester) (req : Nat) (wide : Bool) (hd : q.port = .dbg → s.active = false)
    (ha : req % (if wide then 8 else 4) = 0) (h : mayReadAt (clsOf q) (homeAddr req) = false) :
    s.portRead q req wide = (s.pgErr (errPage (homeAddr req)) q 1 req, 0, 0, false) := by
  have opened : ¬(q.port = .dbg ∧ s.active = true) := fun x => ne_true_of_eq_false (hd x.1) x.2
  rw [State.portRead, if_neg opened, if_neg (not_not.mpr ha), h]
  rfl

/-! ### Requests stamped MGMT or DBG on the register port (R13) -/

theorem clsOf_reqOf_barred {r : RpReq} (h : r.stamp = 4 ∨ r.stamp = 5) : clsOf (reqOf r) = .barred := by
  rcases h with e | e <;> simp [reqOf, clsOf, e]

theorem mayWriteAt_barred (a : Nat) : mayWriteAt .barred a = false := by
  unfold mayWriteAt
  split <;> rfl

theorem mayReadAt_barred (a : Nat) : mayReadAt .barred a = false := by
  unfold mayReadAt
  split
  any_goals rfl
  split <;> rfl

/-! ### Refused requests of the register port -/

/-- The response to a refused request leaves what the refusal left. -/
theorem State.Refused.access {s t : State} {r : RpReq} {q : Requester} {req : Nat} (n : Nat) (d : Option (BitVec 64))
    (h : (s.responded.takeRequest r).Refused t q req) : s.Refused (t.answer r n d).responded q req where
  words a ha := by
    rw [State.word_responded, State.word_answer, h.words a ha, State.word_takeRequest, State.word_responded]
  record := by
    obtain ⟨m, hm, e⟩ := h.record
    refine ⟨m, hm, ?_⟩
    rw [State.word_responded, State.word_answer, e, State.word_takeRequest, State.word_responded]
  tables := State.sameTables_access n d h.tables

/-- A write that is taken and that its class may not make (R13, R315). -/
theorem registerWriteEff_unpermitted {r : RpReq} {s : State} (h : s.responded.rpReady = true) (hc : s.cpReset = false)
    (k : s.responded.turnedAway r 2 = none) (hm : mayWriteAt (clsOf (reqOf r)) (homeAddr r.addr.toNat) = false)
    (hws : ∀ e ∈ (reqWords r).2, mayWriteAt (clsOf (reqOf r)) e.1 = false) :
    s.Refused (registerWriteEff r s) (reqOf r) r.addr.toNat := by
  have access := (reqWrite_unpermitted r (s.responded.takeRequest r) hc hm hws).refused
  rw [registerWriteEff_taken h k]
  exact access.access _ _

/-- A read that is taken, is aligned, and that its class may not make (R13, R315). -/
theorem registerReadEff_unpermitted {r : RpReq} {s : State} (h : s.responded.rpReady = true)
    (k : s.responded.turnedAway r 1 = none) (ha : r.addr.toNat % (if r.wide then 8 else 4) = 0)
    (hm : mayReadAt (clsOf (reqOf r)) (homeAddr r.addr.toNat) = false) :
    (registerReadEff r s).rpRsp = some ⟨r.tag, 0, some 0⟩ ∧ s.Refused (registerReadEff r s) (reqOf r) r.addr.toNat := by
  have access : (s.responded.takeRequest r).Recorded _ (reqOf r) r.addr.toNat := ⟨1, by decide, .refl _⟩
  have kept := access.refused
  rw [registerReadEff_portRead h k (State.portRead_unpermitted _ _ _ _ (fun x => Port.noConfusion x) ha hm), readLanes_zero]
  exact ⟨rfl, kept.access _ _⟩

/-! ### Refused accesses of the debug port (R316) -/

theorem captured_rsp (b : Bool) (n : Nat) (d : BitVec 64) (dr : BitVec 90) :
    (captured b n d dr).extractLsb' 87 2 = BitVec.ofNat 2 n :=
  ((BitVec.extractLsb'_append_eq_of_le (by decide)).trans (BitVec.extractLsb'_append_eq_of_le (by decide))).trans
    BitVec.extractLsb'_append_eq_right

theorem captured_data (b : Bool) (n : Nat) (d : BitVec 64) (dr : BitVec 90) :
    (captured b n d dr).extractLsb' 23 64 = d :=
  (BitVec.extractLsb'_append_eq_of_le (by decide)).trans BitVec.extractLsb'_append_eq_right

theorem otAccessEff_free {dr : BitVec 90} {s : State} (hc : s.cpReset = false) (hd : s.dbgHeld = none) :
    otAccessEff dr s = s.otAccess dr := by
  simp [otAccessEff, hc, hd]

/-- The address of a debug access. -/
def dbgAddr (dr : BitVec 90) : Nat := (dr.extractLsb' 0 21).toNat

theorem dbgAddr_lt (dr : BitVec 90) : dbgAddr dr < 2 ^ 21 := (dr.extractLsb' 0 21).isLt

/-- What a debug write of 32 bits leaves: what the write did, a result, and data that the spec leaves open. -/
theorem State.otAccess_write {s : State} {dr : BitVec 90} (hw : dr.getLsbD 21 = true) (h32 : dr.getLsbD 22 = false)
    (ha : dbgAddr dr % 4 = 0) :
    ∃ u d, s.otAccess dr = { u with dbg := captured false 0 d dr } ∧
      (s.portWrite ⟨.dbg, 0⟩ (dbgAddr dr) [(homeAddr (dbgAddr dr), dr.extractLsb' 23 32)]).SameTables u ∧
      ∀ a, u.word a = (s.portWrite ⟨.dbg, 0⟩ (dbgAddr dr) [(homeAddr (dbgAddr dr), dr.extractLsb' 23 32)]).word a := by
  unfold dbgAddr at *
  unfold State.otAccess
  simp only [hw, h32, if_true, Bool.false_eq_true, if_false, ha, ne_eq, not_true_eq_false]
  split
  · exact ⟨_, _, rfl, .refl _, fun _ => rfl⟩
  · refine ⟨_, _, rfl, ?_, fun _ => rfl⟩
    constructor <;> rfl

theorem State.otAccess_read {s u : State} {dr : BitVec 90} {lo hi : Word} (hr : dr.getLsbD 21 = false) (h32 : dr.getLsbD 22 = false)
    (read : s.portRead ⟨.dbg, 0⟩ (dbgAddr dr) false = (u, lo, hi, false)) :
    s.otAccess dr = { u with dbg := captured false 0 (hi ++ lo) dr } := by
  unfold dbgAddr at *
  unfold State.otAccess
  simp only [hr, h32, read, Bool.false_eq_true, if_false]

/-- A result in the debug port's data register changes nothing else. -/
theorem State.Refused.captured {s t u : State} {q : Requester} {req : Nat} (h : s.Refused t q req) (tables : t.SameTables u)
    (words : ∀ a, u.word a = t.word a) (v : BitVec 90) : s.Refused { u with dbg := v } q req where
  words a ha := (words a).trans (h.words a ha)
  record := by
    obtain ⟨n, hn, e⟩ := h.record
    exact ⟨n, hn, (words _).trans e⟩
  tables := (h.tables.trans tables).trans (by constructor <;> rfl)

theorem otAccessEff_write_unpermitted {s : State} {dr : BitVec 90} (hw : dr.getLsbD 21 = true) (h32 : dr.getLsbD 22 = false)
    (ha : dbgAddr dr % 4 = 0) (hc : s.cpReset = false) (hd : s.dbgHeld = none) (hs : s.active = false)
    (hm : mayWriteAt .dbg (homeAddr (dbgAddr dr)) = false) :
    (otAccessEff dr s).dbg.extractLsb' 87 2 = 0 ∧ s.Refused (otAccessEff dr s) ⟨.dbg, 0⟩ (dbgAddr dr) := by
  have access := (s.portWrite_unpermitted ⟨.dbg, 0⟩ (dbgAddr dr) [(homeAddr (dbgAddr dr), dr.extractLsb' 23 32)] hc
    (fun _ => hs) (dbgAddr_lt dr) hm (fun e he => by rw [List.mem_singleton.mp he]; exact hm) rfl).refused
  obtain ⟨u, d, e, tables, words⟩ := s.otAccess_write hw h32 ha
  rw [otAccessEff_free hc hd, e]
  exact ⟨captured_rsp _ _ _ _, access.captured tables words _⟩

theorem otAccessEff_read_unpermitted {s : State} {dr : BitVec 90} (hr : dr.getLsbD 21 = false) (h32 : dr.getLsbD 22 = false)
    (ha : dbgAddr dr % 4 = 0) (hc : s.cpReset = false) (hd : s.dbgHeld = none) (hs : s.active = false)
    (hm : mayReadAt .dbg (homeAddr (dbgAddr dr)) = false) :
    (otAccessEff dr s).dbg.extractLsb' 87 2 = 0 ∧ (otAccessEff dr s).dbg.extractLsb' 23 64 = 0 ∧
      s.Refused (otAccessEff dr s) ⟨.dbg, 0⟩ (dbgAddr dr) := by
  have access : s.Recorded _ ⟨.dbg, 0⟩ (dbgAddr dr) := ⟨1, by decide, .refl _⟩
  rw [otAccessEff_free hc hd, State.otAccess_read hr h32 (s.portRead_unpermitted _ _ false (fun _ => hs) ha hm)]
  exact ⟨captured_rsp _ _ _ _, captured_data _ _ _ _, access.refused.captured (.refl _) (fun _ => rfl) _⟩

/-! ### Refused writes of the management port (R320) -/

theorem mpWriteEff_taken {l : List Byte} {s : State} (hh : s.requestHeld = false) (hf : mpFormOk l = true) (hc : s.cpReset = false) :
    mpWriteEff l s = s.mpPerform l := by
  unfold State.requestHeld at hh
  unfold mpWriteEff
  split
  next e => simp [e] at hh
  next => simp [hf, hc]

/-- A 32-bit write transfer has the right form (R320). -/
theorem mpFormOk_write (a w : Nat) : mpFormOk ((0x20 : Byte) :: le 3 a ++ le 4 w) = true := rfl

/-- Three little-endian bytes hold an aperture offset. -/
theorem ofLe_le_three {a : Nat} (h : a < 2 ^ 21) : ofLe (le 3 a) % 2 ^ 21 = a := by
  simp only [le, ofLe, BitVec.toNat_ofNat]
  omega

/-- A 32-bit write transfer is a write of one word (R320). -/
theorem State.mpPerform_write {a : Nat} (s : State) (w : Nat) (h : a < 2 ^ 21) (ha : a % 4 = 0) :
    ∃ v, s.mpPerform ((0x20 : Byte) :: le 3 a ++ le 4 w) = { s with mp := .done 0 [] }.portWrite ⟨.mp, 0⟩ a [(homeAddr a, v)] := by
  have addr : ofLe ((((0x20 : Byte) :: le 3 a ++ le 4 w).tail).take 3) % 2 ^ 21 = a := ofLe_le_three h
  have op : (((0x20 : Byte) :: le 3 a ++ le 4 w).headD 0).toNat = 0x20 := rfl
  unfold State.mpPerform
  simp only [addr, op]
  simp only [Nat.lt_irrefl, if_false, Nat.reduceMod, Nat.reduceEqDiff, ha, ne_eq, not_true_eq_false]
  exact ⟨_, rfl⟩

/-- The result kept for the next read transfer is part of no refusal. -/
theorem State.Refused.mpResult {s t : State} {v : MpResult} {q : Requester} {req : Nat} (h : State.Refused { s with mp := v } t q req) :
    s.Refused t q req :=
  have kept : s.SameTables { s with mp := v } := by constructor <;> rfl
  ⟨h.words, h.record, kept.trans h.tables⟩

/-- Settles O53: each access comes to `Recorded`, a PG_ERR record and no other reading changed, and the end of its command keeps that. -/
theorem unpermittedAccessesArePerformedOnNothing : Obligations.UnpermittedAccessesArePerformedOnNothing := by
  unfold Obligations.UnpermittedAccessesArePerformedOnNothing
  have write (r : RpReq) (s : State) (h : s.responded.rpReady = true) (k : s.responded.turnedAway r 2 = none) (hc : s.cpReset = false)
      (hm : mayWriteAt (clsOf (reqOf r)) (homeAddr r.addr.toNat) = false)
      (hws : ∀ e ∈ (reqWords r).2, mayWriteAt (clsOf (reqOf r)) e.1 = false) :=
    And.intro ((State.answered_rpRsp s _).trans (registerWriteEff_rpRsp h k))
      ((registerWriteEff_unpermitted h hc k hm hws).answered r.addr.isLt)
  have read (r : RpReq) (s : State) (h : s.responded.rpReady = true) (k : s.responded.turnedAway r 1 = none)
      (ha : r.addr.toNat % (if r.wide then 8 else 4) = 0) (hm : mayReadAt (clsOf (reqOf r)) (homeAddr r.addr.toNat) = false) :=
    And.intro ((State.answered_rpRsp s _).trans (registerReadEff_unpermitted h k ha hm).1)
      ((registerReadEff_unpermitted h k ha hm).2.answered r.addr.isLt)
  refine ⟨fun r s h hc ht hf hm hws => ?_, fun r s h hc ht hf hb => ?_, fun r s h hc ht hf ha hm => ?_, fun r s h hc ht hf ha hb => ?_,
    fun dr s hw h32 ha hc hd hs hm => ?_, fun dr s hr h32 ha hc hd hs hm => ?_, fun a w s hh hc ha h4 hw hm => ?_⟩
  · exact ⟨_, exec_registerWrite r s, write r s h (State.turnedAway_none 2 hc ht hf) hc hm hws⟩
  · exact ⟨_, exec_registerWrite r s, write r s h (State.turnedAway_none 2 hc ht hf) hc
      (clsOf_reqOf_barred hb ▸ mayWriteAt_barred _) (fun _ _ => clsOf_reqOf_barred hb ▸ mayWriteAt_barred _)⟩
  · exact ⟨_, exec_registerRead r s, read r s h (State.turnedAway_none 1 hc ht hf) ha hm⟩
  · exact ⟨_, exec_registerRead r s, read r s h (State.turnedAway_none 1 hc ht hf) ha (clsOf_reqOf_barred hb ▸ mayReadAt_barred _)⟩
  · obtain ⟨rsp, refused⟩ := otAccessEff_write_unpermitted hw h32 ha hc hd hs hm
    exact ⟨_, exec_otAccessUpdate dr s, by rwa [State.answered_dbg], refused.answered (dbgAddr_lt dr)⟩
  · obtain ⟨rsp, data, refused⟩ := otAccessEff_read_unpermitted hr h32 ha hc hd hs hm
    exact ⟨_, exec_otAccessUpdate dr s, by rwa [State.answered_dbg], by rwa [State.answered_dbg], refused.answered (dbgAddr_lt dr)⟩
  · obtain ⟨v, e⟩ := s.mpPerform_write w ha h4
    have access := State.portWrite_unpermitted { s with mp := .done 0 [] } ⟨.mp, 0⟩ a [(homeAddr a, v)] hc
      (fun x => Port.noConfusion x) ha hm (fun e he => by rw [List.mem_singleton.mp he]; exact hm) rfl
    refine ⟨_, exec_mpPrivateWrite _ s, ?_⟩
    rw [mpWriteEff_taken hh (mpFormOk_write a w) hc, e]
    exact ⟨(State.answered_mp _ _).trans access.mp, access.refused.mpResult.answered ha⟩

end Sys2Proof.Machine
end

section
/-!
SUPPORT. Frames finer than pages: what keeps the registers of a set of addresses, and the registers of FLT_ACT through a raising
(R373, R377). Used by the obligations of the architecture.
-/

namespace Sys2Proof.Machine

/-! ### A set of addresses -/

/-- Every register at an address of P reads in t as in s. -/
def State.KeepsOn (P : Nat → Prop) (s t : State) : Prop := ∀ a, P a → t.word a = s.word a

section
variable {P : Nat → Prop} {s t u : State}

theorem State.KeepsOn.refl (s : State) : s.KeepsOn P s := fun _ _ => rfl
theorem State.KeepsOn.trans (h : State.KeepsOn P s t) (k : State.KeepsOn P t u) : State.KeepsOn P s u :=
  fun a p => (k a p).trans (h a p)
theorem State.KeepsOn.regs (h : State.KeepsOn P s t) (k : u.regs = t.regs) : State.KeepsOn P s u :=
  fun a p => by rw [← h a p]; simp only [State.word, k]
theorem State.KeepsOn.setWord (h : State.KeepsOn P s t) (a : Nat) (w : Word) (k : ¬ P a) : State.KeepsOn P s (t.setWord a w) :=
  fun b p => by
    have apart : b ≠ a := fun e => k (e ▸ p)
    rw [State.word_setWord, if_neg apart, h b p]
theorem State.KeepsOn.put (h : State.KeepsOn P s t) (f : Fld) (v : Nat) (k : ¬ P f.addr) : State.KeepsOn P s (t.put f v) :=
  h.setWord _ _ k
theorem State.KeepsOn.bump (h : State.KeepsOn P s t) (f : Fld) (k : ¬ P f.addr) : State.KeepsOn P s (t.bump f) := h.put f _ k
theorem State.KeepsOn.evt (h : State.KeepsOn P s t) (pg n : Nat) (k : ¬ P (pg + 0x14)) : State.KeepsOn P s (t.evt pg n) := h.setWord _ _ k
theorem State.KeepsOn.put64 (h : State.KeepsOn P s t) (f : Fld) (v : Nat) (k : ¬ P f.addr) (k' : ¬ P (f.addr + 4)) :
    State.KeepsOn P s (t.put64 f v) := (h.setWord _ _ k).setWord _ _ k'
theorem State.KeepsOn.get (h : State.KeepsOn P s t) (f : Fld) (k : P f.addr) : t.get f = s.get f := by
  simp only [State.get, h _ k]

/-- What writes a set of pages at most keeps the addresses of every other page. -/
theorem State.Within.keepsOn {l : List Nat} (h : s.Within t l) (k : ∀ a, P a → a / 0x1000 ∉ l) : State.KeepsOn P s t :=
  fun a p => h a (k a p)

end

/-- An answer shows every register but PIN, F_ASSERT and IBI_PEND as the effect left it. -/
theorem State.keepsPages_answered_of {s u : State} {l m : List Nat} (h : ∀ a, a / 0x1000 ∉ l → a ∉ m → u.word a = s.word a)
    (prt : 2 ∈ l) (flt : 0xC ∈ l) : s.KeepsPages (s.answered u) l m := fun a p n => by
  rw [State.word_answered s u a (fun e => p (e ▸ flt)) (fun e => p (e ▸ prt)), h a p n]

/-! ### The registers of FLT_ACT (R377) -/

/-- The addresses of FLT_ACT0-3. -/
abbrev OfAct (a : Nat) : Prop := 0xC070 ≤ a ∧ a < 0xC080

theorem OfAct.page {l : List Nat} (h : 0xC ∉ l) (a : Nat) (k : OfAct a) : a / 0x1000 ∉ l := by
  have : a / 0x1000 = 0xC := by omega
  rwa [this]

theorem not_ofAct_classCounter (c : Nat) : ¬ OfAct (classCounter c).addr := by
  unfold classCounter
  split
  · decide
  · split <;> decide

theorem not_ofAct_pendBit (c : Nat) : ¬ OfAct (pendBit c).addr := by
  unfold pendBit
  split
  · decide
  · split <;> decide

theorem State.keepsAct_disarm (s : State) : s.KeepsOn OfAct s.disarm :=
  ((State.KeepsOn.refl s).regs (u := { s with inject := none }) rfl).put _ _ (by decide)

theorem State.keepsAct_pushLog (s : State) (r : LogRec) : s.KeepsOn OfAct (s.pushLog r) := by
  unfold State.pushLog
  split
  · exact ((State.KeepsOn.refl s).regs rfl).trans (State.keepsAct_disarm _)
  · exact (State.KeepsOn.refl s).regs rfl

theorem State.keepsAct_stageLog (s : State) (r : LogRec) : s.KeepsOn OfAct (s.stageLog r) := by
  unfold State.stageLog
  split
  · exact (((State.KeepsOn.refl s).bump _ (by decide)).evt _ _ (by decide)).regs (State.regs_countDropped _)
  · exact ((s.keepsAct_pushLog r).put _ _ (by decide)).regs (State.regs_countStaged _)

theorem State.keepsAct_flushSupp (s : State) (c : Nat) : s.KeepsOn OfAct (s.flushSupp c) := by
  unfold State.flushSupp
  split
  · exact .refl s
  · refine .trans ?_ (State.keepsAct_stageLog _ _)
    exact State.KeepsOn.regs (t := s) (.refl s) rfl

theorem State.keepsAct_record (s : State) (c v f : Nat) (p : List Nat) : s.KeepsOn OfAct (s.record c v f p) := by
  unfold State.record
  split
  · exact State.KeepsOn.bump (State.KeepsOn.regs (t := s) (.refl s) rfl) _ (by decide)
  · refine .trans ?_ (State.keepsAct_stageLog _ _)
    refine .trans ?_ (State.keepsAct_flushSupp _ _)
    exact State.KeepsOn.regs (t := s) (.refl s) rfl

theorem State.keepsAct_pendClass (s : State) (c : Nat) (e : Bool) : s.KeepsOn OfAct (s.pendClass c e) := by
  have pending : s.KeepsOn OfAct (((s.put (pendBit c) 1).bump (classCounter c)).evt pgFLT c) :=
    (((State.KeepsOn.refl s).put _ _ (not_ofAct_pendBit c)).bump _ (not_ofAct_classCounter c)).evt _ _ (by decide)
  unfold State.pendClass
  dsimp only
  split
  · exact (pending.bump _ (by decide)).evt _ _ (by decide)
  · exact pending

theorem State.keepsAct_capture (s : State) (c k : Nat) (e i : Bool) (p : Nat) (a : FaultAccess) :
    s.KeepsOn OfAct (s.capture c k e i p a) :=
  (((((State.KeepsOn.refl s).put _ _ (by decide)).put _ _ (by decide)).put64 _ _ (by decide) (by decide)).put64 _ _ (by decide)
    (by decide)).put _ _ (by decide)

theorem State.keepsAct_enterHold (s : State) (c : Nat) : s.KeepsOn OfAct (s.enterHold c) := by
  unfold State.enterHold
  split
  · exact .refl s
  · exact ((((State.KeepsOn.refl s).put _ _ (by decide)).evt _ _ (by decide)).trans (State.keepsAct_record _ _ _ _ _)).trans
      ((State.within_endUnstarted _).keepsOn (OfAct.page (by decide)))

theorem State.keepsAct_classF (s : State) (c : Nat) : s.KeepsOn OfAct (s.classF c) := by
  have latch : s.KeepsOn OfAct (if s.get FLT_REC.COUNT = 8 then s.put FLT_STATUS.LATCHED 1 else s) := by
    split
    · exact (State.KeepsOn.refl s).put _ _ (by decide)
    · exact .refl s
  have held (t : State) : t.KeepsOn OfAct (if t.inBoot = true then t.put FLT_STATUS.STARTUP_HELD 1 else t) := by
    split
    · exact (State.KeepsOn.refl t).put _ _ (by decide)
    · exact .refl t
  unfold State.classF
  dsimp only
  split
  · exact latch.trans (held _)
  · exact (latch.trans (held _)).trans (State.keepsAct_enterHold _ _)

theorem State.keepsAct_raiseRepeat (s : State) (c : Nat) (p : List Nat) (i : Bool) : s.KeepsOn OfAct (s.raiseRepeat c p i) :=
  ((((State.KeepsOn.refl s).bump _ (not_ofAct_classCounter _)).bump _ (by decide)).evt _ _ (by decide)).trans
    (State.keepsAct_record _ _ _ _ _)

theorem State.keepsAct_refreshPair (s : State) : s.KeepsOn OfAct s.refreshPair := by
  unfold State.refreshPair
  dsimp only
  split
  · exact .refl s
  · exact ((State.KeepsOn.refl s).put _ _ (by decide)).put _ _ (by decide)

theorem act_ofAct (c : Nat) (h : c < 0x80) : OfAct (Fld.bit FLT_ACT.CODE c).addr := by
  have : ∀ c < 0x80, OfAct (Fld.bit FLT_ACT.CODE c).addr := by decide
  exact this c h

theorem State.get_activate (s : State) (c k : Nat) : (s.activate c k).get (Fld.bit FLT_ACT.CODE c) = 1 :=
  State.get_put_same s (Fld.bit FLT_ACT.CODE c) 1 (by simp only [Fld.bit]; omega)

theorem State.get_act_raiseNew (s : State) (c : Nat) (p : List Nat) (a : FaultAccess) (i : Bool) (hc : c < 0x80) :
    (s.raiseNew c p a i).get (Fld.bit FLT_ACT.CODE c) = 1 := by
  have pending : (s.activate c (s.raisedClass c)).KeepsOn OfAct _ := State.keepsAct_pendClass _ (s.raisedClass c) (s.escalates c)
  have captured (t : State) (b : Bool) (k : Nat) (e : Bool) (n : Nat) : t.KeepsOn OfAct (if b = true then t.capture c k e i n a else t) := by
    split
    · exact t.keepsAct_capture _ _ _ _ _ _
    · exact .refl t
  have recorded := fun v f b k e n => (pending.trans (captured _ b k e n)).trans (State.keepsAct_record _ c v f p)
  refine Eq.trans (State.KeepsOn.get ?_ _ (act_ofAct c hc)) (s.get_activate c (s.raisedClass c))
  unfold State.raiseNew
  dsimp only
  split
  · exact recorded _ _ _ _ _ _
  · exact (recorded _ _ _ _ _ _).trans (State.keepsAct_classF _ _)

/-- A code that the collector takes shows in FLT_ACT (R377). -/
theorem State.get_act_raise (s : State) (c : Nat) (p : List Nat) (hc : c < 0x80) :
    (s.raise c p).get (Fld.bit FLT_ACT.CODE c) = 1 := by
  unfold State.raise State.raiseWith
  refine Eq.trans ((State.keepsAct_refreshPair _).get _ (act_ofAct c hc)) ?_
  split
  next on =>
    have quiet : s.KeepsOn OfAct (s.restartQuiet (faultClass c)) := (State.KeepsOn.refl s).regs rfl
    rw [(quiet.trans (State.keepsAct_raiseRepeat _ c p false)).get _ (act_ofAct c hc)]
    have bound : s.get (Fld.bit FLT_ACT.CODE c) < 2 := Word.field_lt _ _ _
    have nonzero : s.get (Fld.bit FLT_ACT.CODE c) ≠ 0 := by simpa [State.on] using on
    omega
  · exact State.get_act_raiseNew _ _ _ _ _ hc

end Sys2Proof.Machine
end

section
/-!
SUPPORT. What the bays do by themselves (R57, R62, R73): an input trip marks where the slew stands, and that mark sets REF_CLAMP where the
slew has left the limits of the reference. Obligation BaysActByThemselves.
-/

namespace Sys2Proof.Machine

theorem exec_inputLow (b : Nat) (s : State) : exec (.inputLow b) s = .next (s.answered (inputLowEff b s)) := rfl

/-- A running bay on its way to code 600, which lies above the 1.100 V that its reference is clamped to (R57). -/
def overdrivenBay : Bay := { st := .run, target := 600 }

/-- Bay 0 has had the half millisecond in which its slew reaches that code (R73). -/
def overdriven : State := { State.reset with mono := 1000000, bays := [(0, overdrivenBay)] }

/-- The input trip finds the reference clamped: REF_CLAMP (bit 2) stands beside PROT (bit 4). -/
theorem events_inputLow_overdriven : ((overdriven.answered (inputLowEff 0 overdriven)).bay 0).events = 0x14 := by decide +kernel

/-- Refutes O25: INPUT_LOW of a running bay whose slew has left the limits of its reference sets REF_CLAMP too, not its own event
alone. -/
theorem not_baysActByThemselves : ¬ Obligations.BaysActByThemselves := by
  unfold Obligations.BaysActByThemselves
  rintro ⟨-, -, -, -, -, -, -, -, -, inputLow, -⟩
  have running : (overdriven.bay 0).st = .run := by decide +kernel
  have before : (overdriven.bay 0).events = 0 := by decide +kernel
  obtain ⟨t, answer, -, -, events, -⟩ := inputLow 0 overdriven (by simp [running]) (by simp [running]) (by simp [running])
  cases (exec_inputLow 0 overdriven).symm.trans answer
  rw [events_inputLow_overdriven, before] at events
  exact absurd events (by decide)

end Sys2Proof.Machine
end

section
/-!
SUPPORT. The coalescers and the dead-reckoning engine (R130, R134, R145, R146): what the end of a wait, a dispatch and a completed
inference change. Obligation CoalescersFormInputsAndInferencesRun.
-/

namespace Sys2Proof.Machine

theorem exec_gatherEnd (y : Nat) (s : State) : exec (.gatherEnd y) s = .next (s.answered (gatherEndEff y s)) := rfl
theorem exec_coolEnd (y : Nat) (s : State) : exec (.coolEnd y) s = .next (s.answered (coolEndEff y s)) := rfl
theorem exec_inferenceDispatch (s : State) : exec .inferenceDispatch s = .next (s.answered (inferenceDispatchEff s)) := rfl
theorem exec_forecastComplete (ue : Bool) (s : State) :
    exec (.forecastComplete ue) s = .next (s.answered (forecastCompleteEff ue s)) := rfl

/-! ### What an answer shows of the engine -/

@[simp] theorem State.answered_due (s u : State) : (s.answered u).due = u.due := u.reports_wired.due
@[simp] theorem State.answered_fly (s u : State) : (s.answered u).fly = u.fly := u.reports_wired.fly
@[simp] theorem State.answered_yard (s u : State) (y : Nat) : (s.answered u).yard y = u.yard y := by
  simp only [State.yard, (s.sameTables_answered u).yards]

@[simp] theorem State.due_setYard (s : State) (y : Nat) (v : Yard) : (s.setYard y v).due = s.due := rfl

theorem State.KeepsMem.trans {s t u : State} (h : s.KeepsMem t) (k : t.KeepsMem u) : s.KeepsMem u := fun a =>
  ⟨(k a).1.trans (h a).1, (k a).2.1.trans (h a).2.1, (k a).2.2.trans (h a).2.2⟩

/-- What an effect keeps of the memories its answer keeps. -/
theorem State.keepsMem_answered {s u : State} (h : s.KeepsMem u) : s.KeepsMem (s.answered u) :=
  ((State.SameTables.refl s).keepsMem_iff (s.sameTables_answered u)).mp h

/-! ### The ends of a coalescer's waits (R130) -/

theorem gatherEndEff_forms {y : Nat} {s : State} (h : (s.yard y).coal = .gather) (k : (s.yard y).gathered ≠ []) :
    gatherEndEff y s = (s.formInputs y (s.yard y).gathered).setYard y { s.yard y with coal := .cool, gathered := [] } := by
  simp [gatherEndEff, h, k]

theorem coolEndEff_idles {y : Nat} {s : State} (h : (s.yard y).coal = .cool) (k : (s.yard y).pendingSet = []) :
    coolEndEff y s = s.setYard y { s.yard y with coal := .idle } := by
  simp [coolEndEff, h, k]

theorem coolEndEff_forms {y : Nat} {s : State} (h : (s.yard y).coal = .cool) (k : (s.yard y).pendingSet ≠ []) :
    coolEndEff y s = (s.formInputs y (s.yard y).pendingSet).setYard y { s.yard y with pendingSet := [] } := by
  simp [coolEndEff, h, k]

/-- A change of one yard and of the inferences due, and nothing else, as the answer shows it. -/
theorem State.frame_yardSet {s u : State} {y : Nat} {v : Yard} (hu : u.word = s.word) (hm : s.KeepsMem u) (hy : u.yard = s.yard) :
    (∀ z, z ≠ y → (s.answered (u.setYard y v)).yard z = s.yard z) ∧ s.KeepsRegs (s.answered (u.setYard y v)) []
      ∧ s.KeepsMem (s.answered (u.setYard y v)) :=
  ⟨fun z hz => by simp [hz, hy], State.keepsRegs_answered fun a _ => congrFun hu a, State.keepsMem_answered hm⟩

/-! ### The engine (R134, R145) -/

/-- A model runs on the bytes of the model store alone. -/
theorem State.runModel_congr {s t : State} (h : t.store = s.store) (f : Nat) (srcs : List Int) : t.runModel f srcs = s.runModel f srcs := by
  have reads : t.storeLe = s.storeLe := by
    funext a n
    simp only [State.storeLe, State.storeAt, h]
  have layers (fb n : Nat) : ∀ l xs, t.runLayers fb n l xs = s.runLayers fb n l xs := by
    induction n with
    | zero => exact fun _ _ => rfl
    | succ n ih =>
      intro l xs
      have layer : t.layer fb l = s.layer fb l := by simp only [State.layer, reads]
      have run (d : Layer) (last : Bool) : t.runLayer fb d last xs = s.runLayer fb d last xs := by
        have sum : t.layerSum fb d xs = s.layerSum fb d xs := by
          funext o
          simp only [State.layerSum, State.weight, reads]
        have act : t.activation fb d.aoff = s.activation fb d.aoff := by
          funext z
          simp only [State.activation, reads]
        simp only [State.runLayer, sum, act]
      simp only [State.runLayers, layer, run, ih]
  have input : t.quantise (frameBase f) srcs = s.quantise (frameBase f) srcs := by
    funext i
    simp only [State.quantise, reads]
  simp only [State.runModel, State.layerCount, State.inputCount, reads, layers, input]

theorem State.due_formInputs (s : State) (y : Nat) (set : List SetNotice) :
    (s.formInputs y set).due.map (fun d => (d.yard, d.sources, d.horizon)) = s.due.map (fun d => (d.yard, d.sources, d.horizon))
      ++ [(y, (List.range 64).map (s.source y set), (governing s.sysTime set).map fun e => e.eff)] := by
  simp [State.formInputs]

theorem State.get_congr {s t : State} (h : t.regs = s.regs) {f : Fld} : t.get f = s.get f := by simp only [State.get, State.word, h]

/-- The inference that is dispatched is no longer due. -/
def State.takeDue (s : State) (e : Inference) : State := { s with due := s.due.filter fun x => x.order != e.order }

theorem State.fly_takeDue (s : State) (e : Inference) : (s.takeDue e).fly = s.fly := rfl
theorem State.due_takeDue (s : State) (e : Inference) : (s.takeDue e).due = s.due.filter fun x => x.order != e.order := rfl
theorem State.sameTables_takeDue (s : State) (e : Inference) : s.SameTables (s.takeDue e) := by constructor <;> rfl

/-- An inference as its slot runs it: its outputs are those of the slot's model on its sources. -/
def State.launched (s : State) (e : Inference) : Inference :=
  { e with slot := s.ymap e.yard, frame := s.get (DRE_SLOT_STAT.FRAME (s.ymap e.yard))
           outs := (s.runModel (s.get (DRE_SLOT_STAT.FRAME (s.ymap e.yard))) e.sources).1, commits := s.commits }

/-- An inference is what is in flight. -/
def State.flying (s : State) (i : Inference) : State := { s with fly := some i }

theorem State.fly_flying (s : State) (i : Inference) : (s.flying i).fly = some i := rfl
theorem State.due_flying (s : State) (i : Inference) : (s.flying i).due = s.due := rfl
theorem State.keepsMem_flying (s : State) (i : Inference) : s.KeepsMem (s.flying i) := fun _ => ⟨rfl, rfl, rfl⟩

/-- An inference is in flight with its outputs, and counted with its saturations (R155). -/
def State.inFlight (s : State) (e : Inference) : State :=
  ({ s with fly := some (s.launched e) }.bump DRE_CNT_INFER.COUNT).bumpBy DRE_CNT_SAT.COUNT
    (s.runModel (s.get (DRE_SLOT_STAT.FRAME (s.ymap e.yard))) e.sources).2

theorem State.inFlight_eq (s : State) (e : Inference) :
    s.inFlight e = ((s.flying (s.launched e)).bump DRE_CNT_INFER.COUNT).bumpBy DRE_CNT_SAT.COUNT
      (s.runModel (s.get (DRE_SLOT_STAT.FRAME (s.ymap e.yard))) e.sources).2 := by
  simp only [State.inFlight, State.flying]

/-- An inference runs: it takes its time of the engine, and is its yard's last one. -/
def State.runDue (s : State) (e : Inference) : State :=
  let t := s.inFlight e
  let u := t.dreSpend (t.modelCycles (frameBase (s.get (DRE_SLOT_STAT.FRAME (s.ymap e.yard)))))
  u.setYard e.yard { u.yard e.yard with lastInfer := some u.mono }

theorem State.get_infer_inFlight (s : State) (e : Inference) :
    (s.inFlight e).get DRE_CNT_INFER.COUNT = min (s.get DRE_CNT_INFER.COUNT + 1) 0xFFFFFFFF := by
  rw [State.inFlight_eq, State.bumpBy, State.get_put_addr _ _ _ _ (by decide)]
  exact State.get_bump_same _ DRE_CNT_INFER.COUNT (by decide)

@[simp] theorem State.fly_setYard (s : State) (y : Nat) (v : Yard) : (s.setYard y v).fly = s.fly := rfl
theorem State.regs_setYard (s : State) (y : Nat) (v : Yard) : (s.setYard y v).regs = s.regs := rfl
theorem State.keepsMem_setYard (s : State) (y : Nat) (v : Yard) : s.KeepsMem (s.setYard y v) := fun _ => ⟨rfl, rfl, rfl⟩
theorem State.regs_dreSpend (s : State) (n : Nat) : (s.dreSpend n).regs = s.regs := rfl
theorem State.keepsMem_dreSpend (s : State) (n : Nat) : s.KeepsMem (s.dreSpend n) := fun _ => ⟨rfl, rfl, rfl⟩
@[simp] theorem State.fly_dreSpend (s : State) (n : Nat) : (s.dreSpend n).fly = s.fly := rfl
@[simp] theorem State.due_dreSpend (s : State) (n : Nat) : (s.dreSpend n).due = s.due := rfl

theorem State.reports_inFlight (s : State) (e : Inference) : (s.flying (s.launched e)).Reports (s.inFlight e) := by
  rw [State.inFlight_eq]
  exact ((s.flying (s.launched e)).reports_bump DRE_CNT_INFER.COUNT).trans (State.reports_put _ _ _)

theorem State.keepsOn_inFlight (s : State) (e : Inference) :
    s.KeepsOn (· ∉ [DRE_CNT_INFER.COUNT.addr, DRE_CNT_SAT.COUNT.addr]) (s.inFlight e) := by
  rw [State.inFlight_eq]
  exact State.KeepsOn.put (State.KeepsOn.bump (t := s.flying (s.launched e)) (fun _ _ => rfl) _ (by simp)) _ _ (by simp)

theorem State.regs_runDue (s : State) (e : Inference) : (s.runDue e).regs = (s.inFlight e).regs := by
  simp only [State.runDue, State.regs_setYard, State.regs_dreSpend]

theorem State.keepsMem_runDue (s : State) (e : Inference) : s.KeepsMem (s.runDue e) :=
  ((s.keepsMem_flying _).trans (s.reports_inFlight e).keepsMem).trans
    ((State.keepsMem_dreSpend _ _).trans (State.keepsMem_setYard _ _ _))

theorem State.fly_runDue (s : State) (e : Inference) : (s.runDue e).fly = some (s.launched e) := by
  simp only [State.runDue, State.fly_setYard, State.fly_dreSpend, (s.reports_inFlight e).fly, State.fly_flying]

theorem State.due_runDue (s : State) (e : Inference) : (s.runDue e).due = s.due := by
  calc (s.runDue e).due = (s.inFlight e).due := (State.due_setYard _ _ _).trans (State.due_dreSpend _ _)
    _ = s.due := (s.reports_inFlight e).due.trans (s.due_flying _)

theorem inferenceDispatchEff_first {s : State} {e : Inference} (on : s.dreOn = true) (idle : s.fly = none)
    (first : firstInference s.due = some e) :
    inferenceDispatchEff s =
      if s.slotServes (s.ymap e.yard) e.yard = false then (s.takeDue e).bump PIL_CNT_DISCARD.COUNT else (s.takeDue e).runDue e := by
  have eff : inferenceDispatchEff s = if (!(s.takeDue e).slotServes ((s.takeDue e).ymap e.yard) e.yard) = true
      then (s.takeDue e).bump PIL_CNT_DISCARD.COUNT else (s.takeDue e).runDue e := by
    simp only [inferenceDispatchEff, on, idle, first, Bool.not_true, Option.isSome_none, Bool.false_eq_true, or_self, if_false,
      State.runDue, State.inFlight, State.launched, State.takeDue]
  have serves : (s.takeDue e).slotServes ((s.takeDue e).ymap e.yard) e.yard = s.slotServes (s.ymap e.yard) e.yard := rfl
  simp only [eff, serves, Bool.not_eq_true']

theorem State.launched_takeDue (s : State) (e : Inference) : (s.takeDue e).launched e = s.launched e := by
  unfold State.launched
  rw [State.runModel_congr (s := s) (t := s.takeDue e) rfl]
  rfl

/-! ### Completion (R145, R146) -/

/-- The engine is free again: no inference is in flight. -/
def State.landed (s : State) : State := { s with fly := none }

theorem State.fly_landed (s : State) : s.landed.fly = none := rfl
theorem State.word_landed (s : State) (a : Nat) : s.landed.word a = s.word a := rfl
theorem State.keepsMem_landed (s : State) : s.KeepsMem s.landed := fun _ => ⟨rfl, rfl, rfl⟩

theorem forecastCompleteEff_late {s : State} {e : Inference} (fly : s.fly = some e) (h : e.horizon = none) :
    forecastCompleteEff false s = ((s.landed.keepForecast e).bump PIL_CNT_LATE.COUNT).evt pgPIL 1 := by
  simp only [forecastCompleteEff, fly, Bool.false_eq_true, if_false, h, State.landed]

theorem forecastCompleteEff_error {s : State} {e : Inference} (fly : s.fly = some e) :
    forecastCompleteEff true s = s.landed.frameError e.slot e.frame := by
  simp only [forecastCompleteEff, fly, if_true, State.landed]

/-- What the previous forecast of a yard, kept, leaves as it was. -/
structure State.Forecasting (s t : State) (y : Nat) : Prop where
  regs : t.regs = s.regs
  sysTime : t.sysTime = s.sysTime
  fly : t.fly = s.fly
  waiting : (t.yard y).waiting = (s.yard y).waiting
  maintHold : (t.yard y).maintHold = (s.yard y).maintHold
  mem : s.KeepsMem t

theorem State.keepForecast_forecasting (s : State) (e : Inference) : s.Forecasting (s.keepForecast e) e.yard := by
  unfold State.keepForecast
  split
  · exact ⟨rfl, rfl, rfl, by simp, by simp, fun _ => ⟨rfl, rfl, rfl⟩⟩
  · exact ⟨rfl, rfl, rfl, rfl, rfl, fun _ => ⟨rfl, rfl, rfl⟩⟩

/-- A forecast waits in its yard until its time (R146). -/
def State.addWaiting (s : State) (y : Nat) (c : Forecast) : State :=
  s.setYard y { s.yard y with waiting := (s.yard y).waiting ++ [c] }

theorem forecastCompleteEff_governed {s : State} {e : Inference} {h : Nat} (fly : s.fly = some e) (hor : e.horizon = some h)
    (time : (({ s with fly := none } : State).keepForecast e).sysTime ≤ h)
    (maint : ((({ s with fly := none } : State).keepForecast e).yard e.yard).maintHold = false) :
    forecastCompleteEff false s = (({ s with fly := none } : State).keepForecast e).addWaiting e.yard
      ⟨e.outs, h, e.inputsAt, max (({ s with fly := none } : State).keepForecast e).sysTime
        (h - 50 * (({ s with fly := none } : State).keepForecast e).get PIL_PRESET.LEAD), {}, none⟩ := by
  revert time maint
  simp only [forecastCompleteEff, fly, Bool.false_eq_true, if_false, hor]
  generalize ({ s with fly := none } : State).keepForecast e = t
  intro time maint
  simp only [maint, Nat.not_lt.mpr time, if_false, Bool.false_eq_true, State.addWaiting]

theorem forecastCompleteEff_inTime {s : State} {e : Inference} {h : Nat} (fly : s.fly = some e) (hor : e.horizon = some h)
    (time : s.sysTime ≤ h) (maint : (s.yard e.yard).maintHold = false) :
    forecastCompleteEff false s = (s.landed.keepForecast e).addWaiting e.yard
      ⟨e.outs, h, e.inputsAt, max s.sysTime (h - 50 * s.get PIL_PRESET.LEAD), {}, none⟩ := by
  have kept := s.landed.keepForecast_forecasting e
  have lead : (s.landed.keepForecast e).get PIL_PRESET.LEAD = s.get PIL_PRESET.LEAD := State.get_congr kept.regs
  have now : (s.landed.keepForecast e).sysTime = s.sysTime := kept.sysTime
  have held : ((s.landed.keepForecast e).yard e.yard).maintHold = false := kept.maintHold.trans maint
  have eff := forecastCompleteEff_governed fly hor (now.trans_le time) held
  have landed : ({ s with fly := none } : State) = s.landed := rfl
  rw [eff, landed, now, lead]

theorem State.within_memUe (s : State) (m a : Nat) : s.Within (s.memUe m a) [0xC] :=
  ((State.Within.refl s [0xC]).put FLT_MEM_UE.reg _ (by decide)).evt pgFLT 7 (by decide)

theorem State.reports_memUe (s : State) (m a : Nat) : s.Reports (s.memUe m a) := (s.reports_put _ _).trans (State.reports_evt _ _ _)

theorem slotStat_page {k : Nat} (h : k < 8) : (0x8088 + 0x10 * k) / 0x1000 = 8 := by omega

theorem State.within_emptySlot (s : State) {k : Nat} (h : k < 8) : s.Within (s.emptySlot k) [8] :=
  (((State.Within.refl s [8]).put (DRE_SLOT_STAT.VALID k) 0 (by simp [DRE_SLOT_STAT.VALID, slotStat_page h])).put
    DRE_STATUS.VALID_SLOTS _ (by decide)).evt pgDRE 2 (by decide)

theorem State.reports_emptySlot (s : State) (k : Nat) : s.Reports (s.emptySlot k) :=
  ((s.reports_put _ _).trans (State.reports_put _ _ _)).trans (State.reports_evt _ _ _)

theorem State.get_emptySlot_valid (s : State) (k : Nat) : (s.emptySlot k).get (DRE_SLOT_STAT.VALID k) = 0 := by
  have status : (DRE_SLOT_STAT.VALID k).addr ≠ DRE_STATUS.VALID_SLOTS.addr := by simp only [DRE_SLOT_STAT.VALID, DRE_STATUS.VALID_SLOTS]; omega
  have event : (DRE_SLOT_STAT.VALID k).addr ≠ pgDRE + 0x14 := by simp only [DRE_SLOT_STAT.VALID, pgDRE]; omega
  unfold State.emptySlot
  rw [State.get_evt _ _ _ _ event, State.get_put_addr _ _ _ _ status]
  exact State.get_put_same s (DRE_SLOT_STAT.VALID k) 0 (by simp [DRE_SLOT_STAT.VALID])

/-- One free value more has been drawn. -/
def State.drew (s : State) : State := { s with free := s.free + 1 }

theorem State.within_drew (s : State) (l : List Nat) : s.Within s.drew l := State.Within.regs (t := s) (.refl s _) rfl

theorem State.frameError_eq (s : State) (k f : Nat) :
    s.frameError k f = ((s.drew.memUe 6 (frameBase f + (s.fresh 5).1 % 0xE000)).emptySlot k).raise 0x17 [k, f] := rfl

theorem State.reports_frameError (s : State) (k f : Nat) : s.drew.Reports (s.frameError k f) := by
  rw [State.frameError_eq]
  exact ((State.reports_memUe _ _ _).trans (State.reports_emptySlot _ _)).trans (State.reports_raise _ _ _)

theorem State.keepsMem_frameError (s : State) (k f : Nat) : s.KeepsMem (s.frameError k f) := (s.reports_frameError k f).keepsMem

theorem State.within_frameError (s : State) (k f : Nat) (hk : k < 8) : s.Within (s.frameError k f) (8 :: faultPages) := by
  rw [State.frameError_eq]
  exact (((s.within_drew _).trans ((State.within_memUe _ _ _).mono (by decide))).trans ((State.within_emptySlot _ hk).mono (by decide))).trans
    ((State.within_raise _ _ _ (by decide)).mono (by decide))

theorem State.get_frameError_valid (s : State) (k f : Nat) (hk : k < 8) : (s.frameError k f).get (DRE_SLOT_STAT.VALID k) = 0 := by
  have apart : (DRE_SLOT_STAT.VALID k).addr / 0x1000 ∉ faultPages := by
    simp only [DRE_SLOT_STAT.VALID, slotStat_page hk]
    decide
  rw [State.frameError_eq, (State.within_raise _ _ _ (by decide)).get _ apart]
  exact State.get_emptySlot_valid _ _

theorem State.get_frameError_act (s : State) (k f : Nat) : (s.frameError k f).get (Fld.bit FLT_ACT.CODE 0x17) = 1 := by
  rw [State.frameError_eq]
  exact State.get_act_raise _ _ _ (by decide)

/-! ### The obligation -/

/-- Settles O14: each end of a wait and each step of the engine by its own equation, framed by what its answer shows. -/
theorem coalescersFormInputsAndInferencesRun : Obligations.CoalescersFormInputsAndInferencesRun := by
  unfold Obligations.CoalescersFormInputsAndInferencesRun
  refine ⟨?gather, ?idle, ?cool, ?runs, ?dropped, ?late, ?inTime, ?error⟩
  case gather =>
    intro y s h k
    obtain ⟨others, regs, mem⟩ := State.frame_yardSet (s := s) (u := s.formInputs y (s.yard y).gathered) (y := y)
      (v := { s.yard y with coal := .cool, gathered := [] }) rfl (fun _ => ⟨rfl, rfl, rfl⟩) rfl
    refine ⟨_, exec_gatherEnd y s, ?_⟩
    rw [gatherEndEff_forms h k]
    exact ⟨by simp, by simp, (congrArg _ (State.answered_due _ _)).trans (s.due_formInputs _ _), others, regs, mem⟩
  case idle =>
    intro y s h k
    obtain ⟨others, regs, mem⟩ := State.frame_yardSet (s := s) (u := s) (y := y) (v := { s.yard y with coal := .idle }) rfl
      (fun _ => ⟨rfl, rfl, rfl⟩) rfl
    refine ⟨_, exec_coolEnd y s, ?_⟩
    rw [coolEndEff_idles h k]
    exact ⟨by simp, by rw [State.answered_due, State.due_setYard], others, regs, mem⟩
  case cool =>
    intro y s h k
    obtain ⟨others, regs, mem⟩ := State.frame_yardSet (s := s) (u := s.formInputs y (s.yard y).pendingSet) (y := y)
      (v := { s.yard y with pendingSet := [] }) rfl (fun _ => ⟨rfl, rfl, rfl⟩) rfl
    refine ⟨_, exec_coolEnd y s, ?_⟩
    rw [coolEndEff_forms h k]
    exact ⟨by simp [h], by simp, (congrArg _ (State.answered_due _ _)).trans (s.due_formInputs _ _), others, regs, mem⟩
  case runs =>
    intro e s on idle first serves
    have counted : s.KeepsOn (· ∉ [DRE_CNT_INFER.COUNT.addr, DRE_CNT_SAT.COUNT.addr]) ((s.takeDue e).runDue e) :=
      ((State.KeepsOn.refl s).trans ((s.takeDue e).keepsOn_inFlight e)).regs (State.regs_runDue _ _)
    refine ⟨_, exec_inferenceDispatch s, ?_⟩
    rw [inferenceDispatchEff_first on idle first, if_neg (by simp [serves])]
    refine ⟨?_, ?_, ?_, State.keepsRegs_answered counted, State.keepsMem_answered ((s.takeDue e).keepsMem_runDue e)⟩
    · rw [State.answered_fly, State.fly_runDue, State.launched_takeDue]
      rfl
    · rw [State.answered_due, State.due_runDue]
      rfl
    · rw [State.get_answered _ _ _ (by decide) (by decide), State.get_congr (State.regs_runDue _ _)]
      exact State.get_infer_inFlight _ _
  case dropped =>
    intro e s on idle first serves
    have reports := (s.takeDue e).reports_bump PIL_CNT_DISCARD.COUNT
    have counted : s.KeepsOn (· ∉ [PIL_CNT_DISCARD.COUNT.addr]) ((s.takeDue e).bump PIL_CNT_DISCARD.COUNT) :=
      State.KeepsOn.bump (t := s.takeDue e) (fun _ _ => rfl) _ (by simp)
    refine ⟨_, exec_inferenceDispatch s, ?_⟩
    rw [inferenceDispatchEff_first on idle first, if_pos serves]
    refine ⟨?_, ?_, ?_, State.frame_answered counted ((s.sameTables_takeDue e).trans (reports.sameTables (State.bump_tdm _ _)))⟩
    · rw [State.answered_fly, reports.fly, State.fly_takeDue, idle]
    · rw [State.answered_due, reports.due, State.due_takeDue]
    · rw [State.get_answered _ _ _ (by decide) (by decide)]
      exact State.get_bump_same (s.takeDue e) PIL_CNT_DISCARD.COUNT (by decide)
  case late =>
    intro e s fly ungoverned
    have kept := s.landed.keepForecast_forecasting e
    have counted : s.KeepsOn (· ∉ [PIL_CNT_LATE.COUNT.addr, pgPIL + 0x14]) (((s.landed.keepForecast e).bump PIL_CNT_LATE.COUNT).evt pgPIL 1) :=
      (State.KeepsOn.bump (State.KeepsOn.regs (t := s) (.refl s) kept.regs) _ (by simp)).evt _ _ (by simp)
    have reports : (s.landed.keepForecast e).Reports (((s.landed.keepForecast e).bump PIL_CNT_LATE.COUNT).evt pgPIL 1) :=
      (State.reports_bump _ _).trans (State.reports_evt _ _ _)
    refine ⟨_, exec_forecastComplete false s, ?_⟩
    rw [forecastCompleteEff_late fly ungoverned]
    refine ⟨?_, ?_, ?_, State.keepsRegs_answered counted,
      State.keepsMem_answered ((s.keepsMem_landed.trans kept.mem).trans reports.keepsMem)⟩
    · rw [State.answered_fly, reports.fly, kept.fly, State.fly_landed]
    · rw [State.get_answered _ _ _ (by decide) (by decide), State.get_evt _ _ _ _ (by decide), State.get_bump_same _ _ (by decide),
        State.get_congr kept.regs]
      rfl
    · rw [State.answered_yard, State.yard, reports.yards]
      exact kept.waiting
  case inTime =>
    intro e h s fly hor time maint
    have kept := s.landed.keepForecast_forecasting e
    refine ⟨_, exec_forecastComplete false s, ?_⟩
    rw [forecastCompleteEff_inTime fly hor time maint]
    refine ⟨?_, ?_, State.keepsRegs_answered fun a _ => ?_,
      State.keepsMem_answered ((s.keepsMem_landed.trans kept.mem).trans (State.keepsMem_setYard _ _ _))⟩
    · rw [State.answered_fly, State.addWaiting, State.fly_setYard, kept.fly, State.fly_landed]
    · rw [State.answered_yard, State.addWaiting, State.yard_setYard, if_pos rfl, kept.waiting]
      exact List.map_append
    · exact (State.KeepsOn.regs (P := fun _ => True) (.refl s) kept.regs) a trivial
  case error =>
    intro e s fly slot
    refine ⟨_, exec_forecastComplete true s, ?_⟩
    rw [forecastCompleteEff_error fly]
    refine ⟨?_, ?_, ?_, State.keepsPages_answered_of (fun a p _ => (State.within_frameError _ _ _ slot a p).trans (s.word_landed a)) (by decide) (by decide),
      State.keepsMem_answered (s.keepsMem_landed.trans (State.keepsMem_frameError _ _ _))⟩
    · rw [State.answered_fly]
      exact (State.reports_frameError _ _ _).fly
    · rw [State.get_answered _ _ _ (by simp only [DRE_SLOT_STAT.VALID, FLT_STATUS.reg]; omega)
        (by simp only [DRE_SLOT_STAT.VALID, PRT_MP.reg]; omega)]
      exact State.get_frameError_valid _ _ _ slot
    · rw [State.get_answered _ _ _ (by decide) (by decide)]
      exact State.get_frameError_act _ _ _

end Sys2Proof.Machine
end

section
/-!
SUPPORT. What an order of a yard changes (R73, R121, R249): a set-point, a frequency and an issue rate are sent or queued; registers
of the yards' pages, the domains' page and CAP_YRUNG follow. Used by ClockLossAndTakeover and CapLoopAndCurrentLayersAct.
-/

namespace Sys2Proof.Machine

/-- The registers that no order writes: outside the domains' page, the yards' pages and CAP_YRUNG. -/
abbrev OffOrders (a : Nat) : Prop := a / 0x1000 ≠ 9 ∧ ¬ (0x20000 ≤ a ∧ a < 0x26000) ∧ ¬ (0xA180 ≤ a ∧ a < 0xA1E0)

/-- What the current layers and the cap loop measure in a yard, and the issue rate in effect. -/
def Yard.meter (v : Yard) : Int × Nat × (Int × Nat) × Int × List (Int × Nat) × Bool × Nat × Nat :=
  (v.pSum, v.pCnt, v.iyPart, v.iyPeak, v.iyParts, v.tightened, v.curSteps, v.thr)

/-- What an order of the yards leaves as it is. -/
structure State.Ordered (s t : State) : Prop where
  words : s.KeepsOn OffOrders t
  bays : t.bays = s.bays
  rails : t.rails = s.rails
  ctxs : t.ctxs = s.ctxs
  flash : t.flash = s.flash
  store : t.store = s.store
  capram : t.capram = s.capram
  cap : t.cap = s.cap
  r26 : t.r26 = s.r26
  journal : t.journal = s.journal
  load : t.load = s.load
  doms : t.doms = s.doms
  meter : ∀ z, (t.yard z).meter = (s.yard z).meter

theorem State.Ordered.refl (s : State) : s.Ordered s := ⟨.refl s, rfl, rfl, rfl, rfl, rfl, rfl, rfl, rfl, rfl, rfl, rfl, fun _ => rfl⟩

theorem State.Ordered.trans {s t u : State} (h : s.Ordered t) (k : t.Ordered u) : s.Ordered u where
  words := h.words.trans k.words
  bays := k.bays.trans h.bays
  rails := k.rails.trans h.rails
  ctxs := k.ctxs.trans h.ctxs
  flash := k.flash.trans h.flash
  store := k.store.trans h.store
  capram := k.capram.trans h.capram
  cap := k.cap.trans h.cap
  r26 := k.r26.trans h.r26
  journal := k.journal.trans h.journal
  load := k.load.trans h.load
  doms := k.doms.trans h.doms
  meter z := (k.meter z).trans (h.meter z)

theorem State.Reports.ordered {s t : State} (h : s.Reports t) (k : s.KeepsOn OffOrders t) (j : t.journal = s.journal) : s.Ordered t where
  words := k
  bays := h.bays
  rails := h.rails
  ctxs := h.ctxs
  flash := h.flash
  store := h.store
  capram := h.capram
  cap := h.cap
  r26 := h.r26
  journal := j
  load := h.load
  doms := h.doms
  meter z := by simp only [State.yard, h.yards]

theorem State.ordered_put (s : State) (f : Fld) (v : Nat) (h : ¬ OffOrders f.addr) : s.Ordered (s.put f v) :=
  (s.reports_put f v).ordered ((State.KeepsOn.refl s).put f v h) (s.put_journal f v)

theorem State.ordered_setYard (s : State) (y : Nat) (v : Yard) (h : v.meter = (s.yard y).meter) : s.Ordered (s.setYard y v) where
  words := .refl s
  bays := rfl
  rails := rfl
  ctxs := rfl
  flash := rfl
  store := rfl
  capram := rfl
  cap := rfl
  r26 := rfl
  journal := rfl
  load := rfl
  doms := rfl
  meter z := by
    rw [State.yard_setYard]
    split
    next e => rw [e, h]
    · rfl

theorem State.Ordered.ite {s t u : State} {c : Prop} [Decidable c] (h : s.Ordered t) (k : s.Ordered u) :
    s.Ordered (if c then t else u) := by
  split
  · exact h
  · exact k

theorem State.Ordered.foldl {α : Type} {s : State} (f : State → α → State) (xs : List α)
    (h : ∀ x ∈ xs, ∀ t, State.Ordered t (f t x)) (t : State) (k : s.Ordered t) : s.Ordered (xs.foldl f t) := by
  induction xs generalizing t with
  | nil => exact k
  | cons x xs ih => exact ih (fun z m => h z (List.mem_cons_of_mem x m)) _ (k.trans (h x List.mem_cons_self t))

theorem offOrders_yard {y : Nat} (h : y < Config.yardCount) (a : Nat) (k : a < 0x100) : ¬ OffOrders (0x20000 + a + 0x100 * y) := by
  have : y < 96 := h
  simp only [OffOrders]
  omega

theorem offOrders_dom {d : Nat} (h : d < Config.yardCount) : ¬ OffOrders (0x9100 + 4 * d) := by
  have : d < 96 := h
  simp only [OffOrders]
  omega

theorem offOrders_capYrung {y : Nat} (h : y < Config.yardCount) : ¬ OffOrders (capYrung y).addr := by
  have : y < 96 := h
  simp only [OffOrders, capYrung, CAP_YRUNG.YARD]
  omega

/-! ### Set-points (R73, R228) -/

theorem State.journal_sendYard (s : State) (y : Nat) (w : Word) : (s.sendYard y w).journal = s.journal := by
  have fold (l : List Nat) (t : State) : (l.foldl (fun s g => s.send g w) t).journal = t.journal := by
    induction l generalizing t with
    | nil => rfl
    | cons g l ih => exact ih _
  exact fold (s.segsOf y) s

theorem State.ordered_sendYard (s : State) (y : Nat) (w : Word) : s.Ordered (s.sendYard y w) :=
  (s.reports_sendYard y w).ordered ((State.KeepsOn.refl s).regs (s.regs_sendYard y w)) (s.journal_sendYard y w)

theorem State.ordered_setBias (s : State) {d : Nat} (h : d < Config.yardCount) : s.Ordered (s.setBias d) :=
  (s.ordered_put _ _ (offOrders_dom h)).trans (State.ordered_put _ _ _ (offOrders_dom h))

theorem State.ordered_refreshBias (s : State) {d : Nat} (h : d < Config.yardCount) : s.Ordered (s.refreshBias d) :=
  .ite (s.ordered_setBias h) (.refl s)

theorem State.ordered_startWait (s : State) (y code : Nat) : s.Ordered (s.startWait y code) := by
  unfold State.startWait
  split
  · exact .ite (.refl s) (s.ordered_setYard _ _ rfl)
  · exact .refl s

theorem State.ordered_orderSet (s : State) (y code slew : Nat) : s.Ordered (s.orderSet y code slew) := by
  have known : s.Ordered (if (s.yard y).fUnknown = true then s.setYard y { s.yard y with vidHold := code } else s) :=
    .ite (s.ordered_setYard _ _ rfl) (.refl s)
  exact .ite (s.ordered_setYard _ _ rfl) ((known.trans (State.ordered_startWait _ _ _)).trans (State.ordered_sendYard _ _ _))

theorem State.ordered_sendSetpoint (s : State) (y : Nat) : s.Ordered (s.sendSetpoint y) :=
  .ite (.refl s) (s.ordered_orderSet _ _ _)

theorem State.ordered_deliver (s : State) {y : Nat} (h : y < Config.yardCount) : s.Ordered (s.deliver y) :=
  (s.ordered_refreshBias h).trans (State.ordered_sendSetpoint _ _)

theorem State.ordered_redeliver (s s0 : State) {y : Nat} (h : y < Config.yardCount) : s.Ordered (s.redeliver s0 y) :=
  .ite (.refl s) (s.ordered_deliver h)

theorem State.ordered_setTarget (s : State) {y : Nat} (code : Nat) (h : y < Config.yardCount) : s.Ordered (s.setTarget y code) :=
  (s.ordered_put (YRD_VID.TARGET y) code (offOrders_yard h 0x40 (by decide))).trans (State.ordered_redeliver _ _ h)

/-! ### Frequencies and issue rates (R121, R249) -/

theorem State.ordered_soQueue (s : State) (q : List SpeedReq) : s.Ordered { s with soQueue := q } :=
  ⟨.refl s, rfl, rfl, rfl, rfl, rfl, rfl, rfl, rfl, rfl, rfl, rfl, fun _ => rfl⟩

theorem State.ordered_dequeueSpeed (s : State) (y : Nat) : s.Ordered (s.dequeueSpeed y) := s.ordered_soQueue _
theorem State.ordered_enqueueSpeed (s : State) (r : SpeedReq) : s.Ordered (s.enqueueSpeed r) := s.ordered_soQueue _

theorem State.ordered_requestAt (s : State) (at_ : Nat) {y : Nat} (f thr : Nat) (vid : Option Nat) (h : y < Config.yardCount) :
    s.Ordered (s.requestAt at_ y f thr vid) := by
  have raised (code : Nat) :
      s.Ordered (if s.get (YRD_VID.TARGET y) < code then (s.setYard y { s.yard y with vfWait := none }).setTarget y code else s) :=
    .ite ((s.ordered_setYard y { s.yard y with vfWait := none } rfl).trans (State.ordered_setTarget _ _ h)) (.refl s)
  have lowered : s.Ordered (s.setYard y { s.yard y with vfWait := none }) := s.ordered_setYard _ _ rfl
  unfold State.requestAt
  dsimp only
  split
  · exact s.ordered_enqueueSpeed _
  next code =>
    refine .ite ?flying (.ite ?raise (.ite (lowered.trans (State.ordered_enqueueSpeed _ _)) (lowered.trans (State.ordered_dequeueSpeed _ _))))
    case flying =>
      refine .trans ?_ (State.ordered_dequeueSpeed _ _)
      exact s.ordered_setYard _ _ rfl
    case raise =>
      refine .ite (.trans (.trans (raised code) ?_) (State.ordered_dequeueSpeed _ _))
        (.trans (.trans (raised code) ?_) (State.ordered_enqueueSpeed _ _))
      all_goals exact State.ordered_setYard _ _ _ rfl

theorem State.ordered_orderLower (s : State) {y : Nat} (h : y < Config.yardCount) : s.Ordered (s.orderLower y) :=
  .ite (.refl s) (.ite (.refl s) (s.ordered_requestAt _ _ _ _ h))

theorem State.ordered_orderLogic (s : State) {y : Nat} (p r : Nat) (h : y < Config.yardCount) : s.Ordered (s.orderLogic y p r) := by
  have shown := s.ordered_put (capYrung y) (p * 16 + (r - 1)) (offOrders_capYrung h)
  refine .ite shown (.trans ?_ (State.ordered_setYard _ _ _ rfl))
  exact (shown.trans (.ite (State.ordered_setTarget _ _ h) (.refl _))).trans (State.ordered_requestAt _ _ _ _ _ h)

theorem State.ordered_orderOther (s : State) {y : Nat} (r : Nat) (h : y < Config.yardCount) : s.Ordered (s.orderOther y r) := by
  have shown := s.ordered_put (capYrung y) (r - 1) (offOrders_capYrung h)
  exact .ite shown (.ite (shown.trans (State.ordered_dequeueSpeed _ _)) (shown.trans (State.ordered_requestAt _ _ _ _ _ h)))

theorem State.ordered_orderYard (s : State) {y : Nat} (h : y < Config.yardCount) : s.Ordered (s.orderYard y) :=
  .ite (.refl s) (.ite (s.ordered_orderLogic _ _ h) (s.ordered_orderOther _ h))

theorem State.ordered_orderNow (s : State) {y : Nat} (h : y < Config.yardCount) : s.Ordered (s.orderNow y) :=
  .ite (s.ordered_orderLower h) (s.ordered_orderYard h)

/-! ### Presets (R114, R147, R148) -/

theorem State.ordered_sendPreset (s : State) (y : Nat) : s.Ordered (s.sendPreset y) :=
  .ite (s.ordered_setYard _ _ rfl) (s.ordered_sendYard _ _)

/-- Presets withdrawn add no phases: the floor rises to no preset of 0. -/
theorem State.ordered_setPresets_zero (s : State) {y : Nat} (h : y < Config.yardCount) : s.Ordered (s.setPresets y {}) := by
  have cleared : s.Ordered (s.setYard y { s.yard y with presets := {} }) := s.ordered_setYard _ _ rfl
  have offsets (t : State) (f : Fld) (v : Nat) (e : f.addr = 0x2004C + 0x100 * y) : t.Ordered (t.put f v) :=
    t.ordered_put f v (e ▸ offOrders_yard h 0x4C (by decide))
  unfold State.setPresets
  dsimp only
  rw [if_neg (Nat.not_lt_zero _)]
  refine .trans (.trans cleared (.ite (.refl _) ?prebias)) (.ite (.refl _) ?preraise)
  case prebias => exact (offsets _ (YRD_OFFSETS.PREBIAS y) _ rfl).trans (State.ordered_sendPreset _ _)
  case preraise => exact (offsets _ (YRD_OFFSETS.PRERAISE y) _ rfl).trans (State.ordered_redeliver _ _ h)

theorem State.ordered_withdrawPresets (s : State) {y : Nat} (h : y < Config.yardCount) : s.Ordered (s.withdrawPresets y) := by
  refine .trans ?_ (State.ordered_setPresets_zero _ h)
  exact s.ordered_setYard _ _ rfl

end Sys2Proof.Machine
end

section
/-!
SUPPORT. The clocks and the cores (R25, R26, R29, R30): lock, its loss and return, a core that leaves service.
Obligation ClockLossAndTakeover.
-/

namespace Sys2Proof.Machine

theorem exec_pllLock (s : State) : exec .pllLock s = .next (s.answered (pllLockEff s)) := rfl
theorem exec_pllUnlock (d : Nat) (s : State) : exec (.pllUnlock d) s = .next (s.answered (pllUnlockEff d s)) := rfl
theorem exec_pllRelock (s : State) : exec .pllRelock s = .next (s.answered (pllRelockEff s)) := rfl
theorem exec_helmPairFailure (c : CoreFault) (s : State) : exec (.helmPairFailure c) s = .next (s.answered (helmFailEff c s)) := rfl
theorem exec_serviceCoreFailure (k : Nat) (c : CoreFault) (s : State) :
    exec (.serviceCoreFailure k c) s = .next (s.answered (serviceFailEff k c s)) := rfl

theorem State.answered_takeover (s u : State) : (s.answered u).takeover = u.takeover := u.reports_wired.takeover
theorem State.answered_taking (s u : State) : (s.answered u).taking = u.taking := u.reports_wired.taking
theorem State.answered_cpReset (s u : State) : (s.answered u).cpReset = u.cpReset := u.reports_wired.cpReset
theorem State.answered_r26 (s u : State) : (s.answered u).r26 = u.r26 := u.reports_wired.r26

/-! ### Lock (R25) -/

theorem State.bit_of_on {s : State} {f : Fld} (w : f.w = 1) (h : s.on f = true) : s.get f = 1 := by
  have bound : s.get f < 2 := (Word.field_lt _ f.lo f.w).trans_eq (by rw [w]; rfl)
  have nonzero : s.get f ≠ 0 := by simpa [State.on] using h
  omega

/-- The lock is shown, and stands since now where it was not shown. -/
theorem pllLockEff_cases (s : State) :
    (pllLockEff s).get CLK_STATUS.LOCK = 1 ∧ s.KeepsOn (· ≠ CLK_STATUS.reg.addr) (pllLockEff s)
      ∧ (pllLockEff s).get CLK_STATUS.SOURCE = s.get CLK_STATUS.SOURCE ∧ s.SameTables (pllLockEff s) := by
  unfold pllLockEff
  split
  next on => exact ⟨State.bit_of_on rfl on, .refl s, rfl, .refl s⟩
  next off =>
    refine ⟨State.get_put_same _ _ _ (by decide), State.KeepsOn.put (t := { s with lockAt := s.mono }) (fun _ _ => rfl) _ _ (by decide),
      State.get_put_apart _ _ _ _ (by decide) (by simp [Fld.apart, CLK_STATUS.LOCK, CLK_STATUS.SOURCE]), ?_⟩
    constructor <;> rfl

/-- On the backup oscillator a loss takes the lock alone. -/
theorem pllUnlockEff_backup {s : State} (d : Nat) (h : s.get CLK_STATUS.SOURCE = 0) : pllUnlockEff d s = s.put CLK_STATUS.LOCK 0 := by
  simp [pllUnlockEff, State.onPll, State.on, h]

/-! ### A core leaves service (R29, R30) -/

theorem State.reports_coreFault (s : State) (u : Nat) (c : CoreFault) : s.Reports (s.coreFault u c) := by
  unfold State.coreFault
  split
  · exact s.reports_raise _ _
  · exact s.reports_raise _ _
  · exact (s.reports_memUe _ _).trans (State.reports_raiseWith _ _ _ _ _)

theorem State.within_coreFault (s : State) (u : Nat) (c : CoreFault) : s.Within (s.coreFault u c) faultPages := by
  unfold State.coreFault
  split
  · exact s.within_raise _ _ (by decide)
  · exact s.within_raise _ _ (by decide)
  · exact ((s.within_memUe _ _).mono (by decide)).trans (State.within_raiseWith _ _ _ _ _ (by decide))

theorem State.reports_loseStaged (s : State) (t : Nat) : s.Reports (s.loseStaged t) := by
  unfold State.loseStaged
  dsimp only
  split
  · exact .refl s
  · exact ((s.reports_setStream _ _).trans (State.reports_put _ _ _)).trans (State.reports_evt _ _ _)

theorem State.within_loseStaged (s : State) (t : Nat) (h : t < 3) : s.Within (s.loseStaged t) [0x10] := by
  have page : (TDM_STR_LOST.COUNT t).addr / 0x1000 ∈ [0x10] := by
    have : ∀ t < 3, (TDM_STR_LOST.COUNT t).addr / 0x1000 ∈ [0x10] := by decide
    exact this t h
  unfold State.loseStaged
  dsimp only
  split
  · exact .refl s _
  · refine State.Within.evt (State.Within.put ?_ _ _ page) _ _ (by decide)
    exact State.Within.regs (t := s) (.refl s _) rfl

theorem State.reports_foldLoseStaged (s : State) : s.Reports ((List.range 3).foldl State.loseStaged s) :=
  State.Reports.foldl _ (fun t n => t.reports_loseStaged n) _ s (.refl s)

theorem State.within_foldLoseStaged (s : State) : s.Within ((List.range 3).foldl State.loseStaged s) [0x10] :=
by
  have fold : (List.range 3).foldl State.loseStaged s = ((s.loseStaged 0).loseStaged 1).loseStaged 2 := by
    simp only [List.range_succ, List.range_zero, List.nil_append, List.cons_append, List.foldl_cons, List.foldl_nil]
  rw [fold]
  exact ((s.within_loseStaged 0 (by decide)).trans (State.within_loseStaged _ 1 (by decide))).trans
    (State.within_loseStaged _ 2 (by decide))

theorem State.keepsPlant_answered {s u : State} (h : s.KeepsPlant u) : s.KeepsPlant (s.answered u) :=
  ((State.SameTables.refl s).keepsPlant_iff (s.sameTables_answered u)).mp h

theorem helmFailEff_in {s : State} (c : CoreFault) (h : s.get HLM_STATUS.HELM_OUT = 0) :
    helmFailEff c s = ((s.coreFault 4 c).put HLM_STATUS.HELM_OUT 1).takeOver := by
  simp [helmFailEff, State.on, h]

/-- The work has passed to a core, and is counted. -/
def State.passed (s : State) : State :=
  ((s.put HLM_STATUS.EXEC (if s.on HLM_STATUS.SC0_OUT then 2 else 1)).bump HLM_CNT_TAKEOVER.COUNT).evt pgHLM 0

/-- A takeover runs from now on. -/
def State.taken (s : State) : State := { s with takeover := some s.mono, taking := true }

theorem State.takeOver_eq (s : State) : s.takeOver = s.passed.taken := by
  simp only [State.takeOver, State.passed, State.taken]

theorem State.regs_taken (s : State) : s.taken.regs = s.regs := rfl
theorem State.takeover_taken (s : State) : s.taken.takeover = some s.mono := rfl
theorem State.taking_taken (s : State) : s.taken.taking = true := rfl
theorem State.cpReset_taken (s : State) : s.taken.cpReset = s.cpReset := rfl
theorem State.sameTables_taken (s : State) : s.SameTables s.taken := by constructor <;> rfl

theorem State.reports_passed (s : State) : s.Reports s.passed :=
  ((s.reports_put _ _).trans (State.reports_bump _ _)).trans (State.reports_evt _ _ _)

theorem State.within_passed (s : State) : s.Within s.passed [6] :=
  (((State.Within.refl s _).put _ _ (by decide)).bump _ (by decide)).evt _ _ (by decide)

theorem State.keepsPlant_sameTables {s t : State} (h : s.SameTables t) : s.KeepsPlant t := fun k => by
  simp only [State.bay, State.yard, State.dom, State.cluster, State.rail, State.phase, State.ctx, h.bays, h.yards, h.doms,
    h.clusters, h.rails, h.phases, h.ctxs, and_self]

theorem State.KeepsPlant.trans {s t u : State} (h : s.KeepsPlant t) (k : t.KeepsPlant u) : s.KeepsPlant u := fun n => by
  obtain ⟨h1, h2, h3, h4, h5, h6, h7⟩ := h n
  obtain ⟨k1, k2, k3, k4, k5, k6, k7⟩ := k n
  exact ⟨k1.trans h1, k2.trans h2, k3.trans h3, k4.trans h4, k5.trans h5, k6.trans h6, k7.trans h7⟩

/-- A core is out of service, and what it staged is lost. -/
def State.coreGone (s : State) (core : Nat) (out : Fld) (c : CoreFault) : State :=
  if core = s.stagingCore then (List.range 3).foldl State.loseStaged ((s.coreFault (5 + core) c).put out 1)
  else (s.coreFault (5 + core) c).put out 1

theorem State.reports_coreGone (s : State) (core : Nat) (out : Fld) (c : CoreFault) : s.Reports (s.coreGone core out c) := by
  have marked : s.Reports ((s.coreFault (5 + core) c).put out 1) := (s.reports_coreFault _ _).trans (State.reports_put _ _ _)
  unfold State.coreGone
  split
  · exact marked.trans (State.reports_foldLoseStaged _)
  · exact marked

theorem State.within_coreGone (s : State) (core : Nat) {out : Fld} (c : CoreFault) (h : out.addr / 0x1000 = 6) :
    s.Within (s.coreGone core out c) (6 :: faultPages) := by
  have marked : s.Within ((s.coreFault (5 + core) c).put out 1) (6 :: faultPages) :=
    ((s.within_coreFault _ _).mono (by decide)).put _ _ (by rw [h]; decide)
  unfold State.coreGone
  split
  · exact marked.trans ((State.within_foldLoseStaged _).mono (by decide))
  · exact marked

/-- Of the helm's registers the bit of the core alone changes. -/
theorem State.get_coreGone (s : State) (core : Nat) (out : Fld) (c : CoreFault) {f : Fld} (h : f.addr / 0x1000 = 6) :
    (s.coreGone core out c).get f = ((s.coreFault (5 + core) c).put out 1).get f := by
  unfold State.coreGone
  split
  · exact (State.within_foldLoseStaged _).get f (by rw [h]; decide)
  · rfl

theorem State.get_coreFault (s : State) (u : Nat) (c : CoreFault) {f : Fld} (h : f.addr / 0x1000 = 6) :
    (s.coreFault u c).get f = s.get f := (s.within_coreFault u c).get f (by rw [h]; decide)

/-- The bit of HLM_STATUS of a service core. -/
def coreBit (core : Nat) : Fld := if core = 0 then HLM_STATUS.SC0_OUT else HLM_STATUS.SC1_OUT

theorem coreBit_page (core : Nat) : (coreBit core).addr / 0x1000 = 6 := by unfold coreBit; split <;> rfl

/-- A core leaves service while the other serves and it does not execute for the pair: its bit and its records are all that is lost
(R30). -/
theorem serviceFailEff_aside {s : State} {core : Nat} (c : CoreFault) (hc : core < 2) (h0 : s.get HLM_STATUS.SC0_OUT = 0)
    (h1 : s.get HLM_STATUS.SC1_OUT = 0) (exec : s.get HLM_STATUS.EXEC ≠ core + 1) :
    serviceFailEff core c s = s.coreGone core (coreBit core) c := by
  have kept (f : Fld) (page : f.addr / 0x1000 = 6) (apart : (coreBit core).apart f) :
      (s.coreGone core (coreBit core) c).get f = s.get f := by
    have width : (coreBit core).lo + (coreBit core).w ≤ 32 := by unfold coreBit; split <;> decide
    rw [State.get_coreGone _ _ _ _ page, State.get_put_apart _ _ _ _ width apart, State.get_coreFault _ _ _ page]
  have serves : ((s.coreGone core (coreBit core) c).on HLM_STATUS.SC0_OUT && (s.coreGone core (coreBit core) c).on HLM_STATUS.SC1_OUT) = false := by
    rcases (by omega : core = 0 ∨ core = 1) with rfl | rfl
    · rw [State.on, State.on, kept HLM_STATUS.SC1_OUT rfl (by simp [Fld.apart, coreBit, HLM_STATUS.SC0_OUT, HLM_STATUS.SC1_OUT]), h1]
      exact Bool.and_false _
    · rw [State.on, State.on, kept HLM_STATUS.SC0_OUT rfl (by simp [Fld.apart, coreBit, HLM_STATUS.SC0_OUT, HLM_STATUS.SC1_OUT]), h0]
      rfl
  have aside : (s.coreGone core (coreBit core) c).get HLM_STATUS.EXEC ≠ core + 1 := by
    rw [kept HLM_STATUS.EXEC rfl (by unfold coreBit; split <;> simp [Fld.apart, HLM_STATUS.EXEC, HLM_STATUS.SC0_OUT, HLM_STATUS.SC1_OUT])]
    exact exec
  have inService : s.get (coreBit core) = 0 := by unfold coreBit; split <;> assumption
  have eff : serviceFailEff core c s =
      if ((s.coreGone core (coreBit core) c).on HLM_STATUS.SC0_OUT && (s.coreGone core (coreBit core) c).on HLM_STATUS.SC1_OUT) = true
      then (s.coreGone core (coreBit core) c).cpResetGo
      else if (s.coreGone core (coreBit core) c).get HLM_STATUS.EXEC = core + 1 then (s.coreGone core (coreBit core) c).takeOver
      else s.coreGone core (coreBit core) c := by
    have takes : ¬ (2 ≤ core ∨ s.on (coreBit core) = true) := by simp [State.on, inService]; omega
    exact if_neg takes
  rw [eff, serves, if_neg (by decide), if_neg aside]

/-- What a service core's failure beside the other leaves as it is, and its bit. -/
theorem State.frame_serviceFail {s : State} {core : Nat} (c : CoreFault) (hc : core < 2) (h0 : s.get HLM_STATUS.SC0_OUT = 0)
    (h1 : s.get HLM_STATUS.SC1_OUT = 0) (exec : s.get HLM_STATUS.EXEC ≠ core + 1) :
    ∃ t, Sys2Proof.Machine.exec (.serviceCoreFailure core c) s = .next t ∧ t.get (coreBit core) = 1 ∧ t.cpReset = s.cpReset
      ∧ s.KeepsPages t (6 :: faultPages) [] ∧ s.KeepsPlant t ∧ s.KeepsMem t := by
  have page := coreBit_page core
  have width : (coreBit core).lo + (coreBit core).w ≤ 32 := by unfold coreBit; split <;> decide
  have bit : (1 : Nat) % 2 ^ (coreBit core).w = 1 := by unfold coreBit; split <;> rfl
  have reports := s.reports_coreGone core (coreBit core) c
  refine ⟨_, exec_serviceCoreFailure core c s, ?_⟩
  rw [serviceFailEff_aside c hc h0 h1 exec]
  refine ⟨?_, ?_, State.keepsPages_answered_of (fun a p _ => s.within_coreGone core c page a p) (by decide) (by decide),
    State.keepsPlant_answered reports.keepsPlant, State.keepsMem_answered reports.keepsMem⟩
  · rw [State.get_answered _ _ _ (fun e => by rw [e] at page; exact absurd page (by decide))
      (fun e => by rw [e] at page; exact absurd page (by decide)), State.get_coreGone _ _ _ _ page, State.get_put_same _ _ _ width, bit]
  · rw [State.answered_cpReset, reports.cpReset]

/-- What the failure of the helm pair changes (R29, R336). -/
theorem State.frame_helmFail {s : State} (c : CoreFault) (h : s.get HLM_STATUS.HELM_OUT = 0) :
    ∃ t, exec (.helmPairFailure c) s = .next t ∧ t.get HLM_STATUS.HELM_OUT = 1
      ∧ (t.get HLM_STATUS.EXEC = if s.get HLM_STATUS.SC0_OUT = 0 then 1 else 2)
      ∧ t.get HLM_CNT_TAKEOVER.COUNT = min (s.get HLM_CNT_TAKEOVER.COUNT + 1) 0xFFFFFFFF ∧ t.takeover = some s.mono ∧ t.taking = true
      ∧ s.KeepsPages t (6 :: faultPages) [] ∧ s.KeepsPlant t ∧ s.KeepsMem t := by
  have reports : s.Reports ((s.coreFault 4 c).put HLM_STATUS.HELM_OUT 1).passed :=
    ((s.reports_coreFault 4 c).trans (State.reports_put _ _ _)).trans (State.reports_passed _)
  have tables := State.sameTables_taken ((s.coreFault 4 c).put HLM_STATUS.HELM_OUT 1).passed
  have pages : s.Within ((s.coreFault 4 c).put HLM_STATUS.HELM_OUT 1).passed (6 :: faultPages) :=
    (((s.within_coreFault 4 c).mono (by decide)).put _ _ (by decide)).trans ((State.within_passed _).mono (by decide))
  have read (f : Fld) (page : f.addr / 0x1000 = 6) (event : f.addr ≠ 0x6014) :
      (s.answered ((s.coreFault 4 c).put HLM_STATUS.HELM_OUT 1).passed.taken).get f =
        ((((s.coreFault 4 c).put HLM_STATUS.HELM_OUT 1).put HLM_STATUS.EXEC
          (if ((s.coreFault 4 c).put HLM_STATUS.HELM_OUT 1).on HLM_STATUS.SC0_OUT then 2 else 1)).bump HLM_CNT_TAKEOVER.COUNT).get f := by
    rw [State.get_answered _ _ _ (fun e => by rw [e] at page; exact absurd page (by decide))
      (fun e => by rw [e] at page; exact absurd page (by decide)), State.get_congr (State.regs_taken _)]
    exact State.get_evt _ _ _ _ event
  refine ⟨_, exec_helmPairFailure c s, ?_⟩
  rw [helmFailEff_in c h, State.takeOver_eq]
  refine ⟨?_, ?_, ?_, ?_, ?_, State.keepsPages_answered_of (fun a p _ => (pages.regs (State.regs_taken _)) a p) (by decide) (by decide),
    State.keepsPlant_answered (reports.keepsPlant.trans (State.keepsPlant_sameTables tables)),
    State.keepsMem_answered (reports.keepsMem.trans tables.keepsMem)⟩
  · rw [read _ rfl (by decide), State.get_bump _ _ _ (by decide),
      State.get_put_apart _ _ _ _ (by decide) (by simp [Fld.apart, HLM_STATUS.EXEC, HLM_STATUS.HELM_OUT])]
    exact State.get_put_same _ _ _ (by decide)
  · rw [read _ rfl (by decide), State.get_bump _ _ _ (by decide), State.get_put_same _ _ _ (by decide), State.on,
      State.get_put_apart _ _ _ _ (by decide) (by simp [Fld.apart, HLM_STATUS.SC0_OUT, HLM_STATUS.HELM_OUT]), State.get_coreFault _ _ _ rfl]
    by_cases out : s.get HLM_STATUS.SC0_OUT = 0 <;> simp [out, HLM_STATUS.EXEC]
  · rw [read _ rfl (by decide), State.get_bump_same _ _ (by decide), State.get_put_addr _ _ _ _ (by decide),
      State.get_put_addr _ _ _ _ (by decide), State.get_coreFault _ _ _ rfl]
    rfl
  · rw [State.answered_takeover, State.takeover_taken, reports.mono]
  · rw [State.answered_taking, State.taking_taken]

end Sys2Proof.Machine
end

section
/-!
SUPPORT. The loss and the return of the PLL (R26, R361, R363): what stops, what is gathered, what is loaded again.
Obligation ClockLossAndTakeover.
-/

namespace Sys2Proof.Machine

/-! ### What an effect is confined to -/

/-- An effect writes a list of pages at most; it leaves the memories, the mark of a lost PLL, the
journal, a load in progress and the domains as they are. -/
structure State.Confined (l : List Nat) (s t : State) : Prop where
  words : s.Within t l
  flash : t.flash = s.flash
  store : t.store = s.store
  capram : t.capram = s.capram
  r26 : t.r26 = s.r26
  journal : t.journal = s.journal
  load : t.load = s.load
  doms : t.doms = s.doms

theorem State.Confined.refl {l : List Nat} (s : State) : State.Confined l s s := ⟨.refl s l, rfl, rfl, rfl, rfl, rfl, rfl, rfl⟩

theorem State.Confined.trans {l : List Nat} {s t u : State} (h : State.Confined l s t) (k : State.Confined l t u) : State.Confined l s u :=
  ⟨h.words.trans k.words, k.flash.trans h.flash, k.store.trans h.store, k.capram.trans h.capram, k.r26.trans h.r26,
    k.journal.trans h.journal, k.load.trans h.load, k.doms.trans h.doms⟩

theorem State.Confined.mono {l m : List Nat} {s t : State} (h : State.Confined l s t) (k : l ⊆ m) : State.Confined m s t :=
  { h with words := h.words.mono k }

theorem State.Confined.ite {l : List Nat} {s t u : State} {c : Prop} [Decidable c] (h : State.Confined l s t) (k : State.Confined l s u) :
    State.Confined l s (if c then t else u) := by
  split
  · exact h
  · exact k

theorem State.Confined.foldl {α : Type} {l : List Nat} (f : State → α → State) (xs : List α)
    (h : ∀ x ∈ xs, ∀ t, State.Confined l t (f t x)) (s : State) : State.Confined l s (xs.foldl f s) := by
  induction xs generalizing s with
  | nil => exact .refl s
  | cons x xs ih => exact (h x List.mem_cons_self s).trans (ih (fun z m => h z (List.mem_cons_of_mem x m)) _)

theorem State.Confined.keepsMem {l : List Nat} {s t : State} (h : State.Confined l s t) : s.KeepsMem t := fun a => by
  simp only [State.flashAt, State.storeAt, State.capAt, h.flash, h.store, h.capram, and_self]

theorem State.Reports.confined {l : List Nat} {s t : State} (h : s.Reports t) (k : s.Within t l) (j : t.journal = s.journal) :
    State.Confined l s t := ⟨k, h.flash, h.store, h.capram, h.r26, j, h.load, h.doms⟩

theorem State.Ordered.confined {s t : State} (h : s.Ordered t) : State.Confined ([9, 0xA] ++ yardPages) s t :=
  { h with words := fun a n => h.words a (by
      simp only [List.mem_append, List.mem_cons, List.not_mem_nil, or_false, yardPages, List.mem_map, List.mem_range, not_or,
        not_exists, not_and] at n
      obtain ⟨⟨dom, cap⟩, yard⟩ := n
      have := fun k : Fin 6 => yard k k.isLt
      simp only [OffOrders]
      refine ⟨dom, fun in_ => this ⟨(a - 0x20000) / 0x1000, by omega⟩ ?_, by omega⟩
      simp only
      omega) }

theorem State.confined_put {l : List Nat} (s : State) (f : Fld) (v : Nat) (h : f.addr / 0x1000 ∈ l) : State.Confined l s (s.put f v) :=
  (s.reports_put f v).confined ((State.Within.refl s l).put f v h) (s.put_journal f v)

theorem State.confined_evt {l : List Nat} (s : State) (pg k : Nat) (h : (pg + 0x14) / 0x1000 ∈ l) : State.Confined l s (s.evt pg k) :=
  (s.reports_evt pg k).confined ((State.Within.refl s l).evt pg k h) (s.evt_journal pg k)

theorem State.confined_setYard {l : List Nat} (s : State) (y : Nat) (v : Yard) : State.Confined l s (s.setYard y v) :=
  ⟨fun _ _ => rfl, rfl, rfl, rfl, rfl, rfl, rfl, rfl⟩

theorem State.confined_setBay {l : List Nat} (s : State) (b : Nat) (v : Bay) : State.Confined l s (s.setBay b v) :=
  ⟨fun _ _ => rfl, rfl, rfl, rfl, rfl, rfl, rfl, rfl⟩

theorem State.confined_setCluster {l : List Nat} (s : State) (n : Nat) (v : Cluster) : State.Confined l s (s.setCluster n v) :=
  ⟨fun _ _ => rfl, rfl, rfl, rfl, rfl, rfl, rfl, rfl⟩

theorem State.journal_disarm (s : State) : s.disarm.journal = s.journal := State.put_journal { s with inject := none } _ _
theorem State.journal_writeError (s : State) (m w : Nat) (e : Option Bool) : (s.writeError m w e).journal = s.journal := rfl

theorem State.journal_memWritten (s : State) (m w : Nat) : (s.memWritten m w).journal = s.journal := by
  unfold State.memWritten
  split
  · rw [State.journal_disarm, State.journal_writeError]
  · rw [State.journal_writeError]

theorem State.confined_memWritten (s : State) (m w : Nat) : State.Confined [0xC] s (s.memWritten m w) :=
  (s.reports_memWritten m w).confined (s.within_memWritten m w) (s.journal_memWritten m w)

/-! ### The streams (R174, R177) -/

theorem State.confined_arrive (s : State) {n m : Nat} (l : List (BitVec 16)) (hn : n < Config.clusterCount) (hm : m < 2) :
    State.Confined sextantPages s (s.arrive n m l) := by
  have page (a : Nat) (lo : 0x51000 + 0x1000 * n ≤ a) (hi : a < 0x52000 + 0x1000 * n) : a / 0x1000 ∈ sextantPages := by
    have : n < 26 := hn
    simp only [sextantPages, List.mem_map, List.mem_range]
    exact ⟨n + 1, by omega, by omega⟩
  unfold State.arrive
  refine .trans (State.confined_setCluster _ _ _) (.ite (.refl _) ?_)
  refine .trans (.trans (.ite (.refl _) (State.confined_put _ _ _ ?_)) (State.confined_put _ _ _ ?_)) (State.confined_evt _ _ _ ?_)
  · exact page _ (by simp only [SXT_STR_DROPAT.INDEX]; omega) (by simp only [SXT_STR_DROPAT.INDEX]; omega)
  · exact page _ (by simp only [SXT_STR_DROP.COUNT]; omega) (by simp only [SXT_STR_DROP.COUNT]; omega)
  · exact page _ (by simp only [pgX]; omega) (by simp only [pgX]; omega)

theorem State.confined_gather (s : State) {n m : Nat} (hn : n < Config.clusterCount) (hm : m < 2) :
    State.Confined sextantPages s (s.gather n m) :=
  .ite (.refl s) (.trans (State.confined_setCluster _ _ _) (State.confined_arrive _ _ hn hm))

theorem State.confined_gatherAll (s : State) : State.Confined sextantPages s s.gatherAll :=
  .foldl _ _ (fun n hn t => .trans (t.confined_setCluster _ _)
    (.foldl _ _ (fun m hm u => u.confined_gather (List.mem_range.mp hn) (by simp at hm; omega)) _)) s

/-! ### The DRE stands still (R26, R129) -/

theorem State.confined_setColl {l : List Nat} (s : State) (k : Nat) (c : Option Coll) : State.Confined l s (s.setColl k c) :=
  ⟨fun _ _ => rfl, rfl, rfl, rfl, rfl, rfl, rfl, rfl⟩

theorem State.confined_announced {l : List Nat} (s : State) : State.Confined l s { s with collPend := [] } :=
  ⟨fun _ _ => rfl, rfl, rfl, rfl, rfl, rfl, rfl, rfl⟩

theorem State.confined_closeColls {l : List Nat} (s : State) : State.Confined l s s.closeColls :=
  s.confined_announced.trans (.foldl (fun t k => t.setColl k none) s.openColls (fun _ _ _ => State.confined_setColl _ _ _) _)

/-- Nothing is due or in flight. -/
def State.engineIdle (s : State) : State := { s with due := [], fly := none }

theorem State.confined_engineIdle {l : List Nat} (s : State) : State.Confined l s s.engineIdle :=
  ⟨fun _ _ => rfl, rfl, rfl, rfl, rfl, rfl, rfl, rfl⟩

/-- A yard's coalescer is idle, and its presets are withdrawn. -/
def State.standStill (s : State) (y : Nat) : State :=
  (s.setYard y { s.yard y with coal := .idle, gathered := [], pendingSet := [], stage := none }).withdrawPresets y

theorem State.stopDre_eq (s : State) : s.stopDre = (List.range Config.yardCount).foldl State.standStill s.closeColls.engineIdle := by
  rfl

theorem State.confined_standStill (s : State) {y : Nat} (h : y < Config.yardCount) :
    State.Confined ([9, 0xA] ++ yardPages) s (s.standStill y) :=
  (s.confined_setYard _ _).trans (State.ordered_withdrawPresets _ h).confined

theorem State.confined_stopDre (s : State) : State.Confined ([9, 0xA] ++ yardPages) s s.stopDre := by
  rw [State.stopDre_eq]
  exact (s.confined_closeColls.trans (State.confined_engineIdle _)).trans
    (.foldl _ _ (fun _ hy t => t.confined_standStill (List.mem_range.mp hy)) _)

/-! ### The balance trims and STATION_OK (R265, R305) -/

theorem State.get_putI_zero (s : State) (p q : Nat) :
    (s.putI (STG_PH_TRIM.BAL q) 0).get (STG_PH_TRIM.BAL p) = if p = q then 0 else s.get (STG_PH_TRIM.BAL p) := by
  split
  next e =>
    subst e
    exact State.get_put_same s (STG_PH_TRIM.BAL p) (unsigned 8 0) (by simp [STG_PH_TRIM.BAL])
  next ne =>
    exact State.get_put_addr s _ _ _ (by simp only [STG_PH_TRIM.BAL]; omega)

theorem State.get_zeroBal (s : State) {p : Nat} (h : p < Config.stagePhases) : s.zeroBal.get (STG_PH_TRIM.BAL p) = 0 := by
  have fold (l : List Nat) (t : State) (k : p ∈ l ∨ t.get (STG_PH_TRIM.BAL p) = 0) :
      (l.foldl (fun s p => s.putI (STG_PH_TRIM.BAL p) 0) t).get (STG_PH_TRIM.BAL p) = 0 := by
    induction l generalizing t with
    | nil => exact k.resolve_left List.not_mem_nil
    | cons q l ih =>
      refine ih _ ?_
      rw [State.get_putI_zero]
      rcases k with k | k
      · rcases List.mem_cons.mp k with e | m
        · exact .inr (if_pos e)
        · exact .inl m
      · exact .inr (by rw [k]; exact ite_self 0)
  exact fold _ s (.inl (List.mem_range.mpr h))

theorem State.confined_zeroBal (s : State) : State.Confined [0x11] s s.zeroBal :=
  .foldl _ _ (fun p hp t => t.confined_put _ _ (by
    have : p < 30 := List.mem_range.mp hp
    simp only [STG_PH_TRIM.BAL, List.mem_singleton]
    omega)) s

/-- The open jobs take what changes every one of them. -/
theorem State.confined_jobs {l : List Nat} (s : State) (j : List JobState) : State.Confined l s { s with jobs := j } :=
  ⟨fun _ _ => rfl, rfl, rfl, rfl, rfl, rfl, rfl, rfl⟩

theorem State.confined_refreshStation (s : State) : State.Confined [0xA] s s.refreshStation :=
  .ite (s.confined_put _ _ (by decide)) ((s.confined_put _ _ (by decide)).trans (State.confined_jobs _ _))

/-! ### The loss of the PLL (R26) -/

/-- The loss is counted and raised. -/
def State.unlockFault (s : State) (d : Nat) : State := ((s.bump CLK_CNT_UNLOCK.COUNT).evt pgCLK 0).raise 0x01 [d]

/-- The loss is marked until way-on. -/
def State.markLoss (s : State) : State := { s with r26 := true }

/-- The clocks run from the backup oscillator, in dead-slow service. -/
def State.clocksOff (s : State) : State := ((s.put CLK_STATUS.LOCK 0).put CLK_STATUS.SOURCE 0).put GLB_SERVICE.STATE 2

/-- No open job is attributed. -/
def State.unattributed (s : State) : State := { s with jobs := s.jobs.map fun j => if j.isOpen then { j with noattr := true } else j }

/-- What follows the change of the clocks: trims, orders and STATION_OK. -/
def State.settleUnlock (s : State) : State := ((List.range Config.yardCount).foldl State.orderNow s.unattributed.zeroBal).refreshStation

theorem pllUnlockEff_pll {s : State} (d : Nat) (h : s.get CLK_STATUS.SOURCE = 1) :
    pllUnlockEff d s = (s.unlockFault d).markLoss.stopDre.gatherAll.clocksOff.settleUnlock := by
  have on : s.onPll = true := by simp [State.onPll, State.on, h]
  unfold pllUnlockEff
  rw [if_neg (by simp [on])]
  rfl

theorem State.r26_markLoss (s : State) : s.markLoss.r26 = true := rfl
theorem State.within_markLoss (s : State) (l : List Nat) : s.Within s.markLoss l := fun _ _ => rfl
theorem State.keepsMem_markLoss (s : State) : s.KeepsMem s.markLoss := fun _ => ⟨rfl, rfl, rfl⟩

theorem State.reports_unlockFault (s : State) (d : Nat) : s.Reports (s.unlockFault d) :=
  ((s.reports_bump _).trans (State.reports_evt _ _ _)).trans (State.reports_raise _ _ _)

theorem State.within_unlockFault (s : State) (d : Nat) : s.Within (s.unlockFault d) (1 :: faultPages) :=
  (((State.Within.refl s _).bump _ (by decide)).evt _ _ (by decide)).trans ((State.within_raise _ _ _ (by decide)).mono (by decide))

theorem State.get_unlockFault (s : State) (d : Nat) :
    (s.unlockFault d).get CLK_CNT_UNLOCK.COUNT = min (s.get CLK_CNT_UNLOCK.COUNT + 1) 0xFFFFFFFF := by
  unfold State.unlockFault
  rw [(State.within_raise _ _ _ (by decide)).get _ (by decide), State.get_evt _ _ _ _ (by decide)]
  exact State.get_bump_same s CLK_CNT_UNLOCK.COUNT (by decide)

theorem State.confined_stopAndGather (s : State) : State.Confined ([9, 0xA] ++ yardPages ++ sextantPages) s s.stopDre.gatherAll :=
  (s.confined_stopDre.mono (by decide)).trans ((State.confined_gatherAll _).mono (by decide))

theorem State.confined_clocksOff (s : State) : State.Confined [0, 1] s s.clocksOff :=
  ((s.confined_put _ _ (by decide)).trans (State.confined_put _ _ _ (by decide))).trans (State.confined_put _ _ _ (by decide))

theorem State.confined_orderAll (s : State) :
    State.Confined ([9, 0xA] ++ yardPages) s ((List.range Config.yardCount).foldl State.orderNow s) :=
  .foldl _ _ (fun _ hy t => (t.ordered_orderNow (List.mem_range.mp hy)).confined) s

theorem State.confined_afterTrims (s : State) :
    State.Confined ([9, 0xA] ++ yardPages) s ((List.range Config.yardCount).foldl State.orderNow s).refreshStation :=
  s.confined_orderAll.trans ((State.confined_refreshStation _).mono (by decide))

theorem State.confined_settleUnlock (s : State) : State.Confined ([9, 0xA, 0x11] ++ yardPages) s s.settleUnlock :=
  ((s.confined_jobs _).trans ((State.confined_zeroBal _).mono (by decide))).trans ((State.confined_afterTrims _).mono (by decide))

theorem State.getI_settleUnlock (s : State) {p : Nat} (h : p < Config.stagePhases) : s.settleUnlock.getI (STG_PH_TRIM.BAL p) = 0 := by
  have page : (STG_PH_TRIM.BAL p).addr / 0x1000 ∉ [9, 0xA] ++ yardPages := by
    have : p < 30 := h
    rw [show (STG_PH_TRIM.BAL p).addr / 0x1000 = 0x11 by simp only [STG_PH_TRIM.BAL]; omega]
    decide
  unfold State.getI State.settleUnlock
  rw [(State.confined_afterTrims _).words.get _ page, State.get_zeroBal _ h]
  rfl

theorem State.get_settleUnlock (s : State) {f : Fld} (h : f.addr / 0x1000 ≤ 1) : s.settleUnlock.get f = s.get f :=
  s.confined_settleUnlock.words.get f (by
    rcases (by omega : f.addr / 0x1000 = 0 ∨ f.addr / 0x1000 = 1) with e | e <;> rw [e] <;> decide)

/-- What the loss of the PLL changes. -/
theorem State.frame_pllUnlock {s : State} (d : Nat) (h : s.get CLK_STATUS.SOURCE = 1) :
    ∃ t, exec (.pllUnlock d) s = .next t ∧ t.r26 = true ∧ t.get CLK_STATUS.LOCK = 0 ∧ t.get CLK_STATUS.SOURCE = 0
      ∧ t.get GLB_SERVICE.STATE = 2 ∧ (∀ p < Config.stagePhases, t.getI (STG_PH_TRIM.BAL p) = 0)
      ∧ t.get CLK_CNT_UNLOCK.COUNT = min (s.get CLK_CNT_UNLOCK.COUNT + 1) 0xFFFFFFFF
      ∧ s.KeepsPages t ([0, 1, 9, 0xA, 0x11] ++ yardPages ++ sextantPages ++ faultPages) [] ∧ s.KeepsMem t := by
  have fault := s.reports_unlockFault d
  have stopped := (s.unlockFault d).markLoss.confined_stopAndGather
  have off := (s.unlockFault d).markLoss.stopDre.gatherAll.confined_clocksOff
  have settled := (s.unlockFault d).markLoss.stopDre.gatherAll.clocksOff.confined_settleUnlock
  refine ⟨_, exec_pllUnlock d s, ?_⟩
  rw [pllUnlockEff_pll d h]
  have read {f : Fld} (page : f.addr / 0x1000 ≤ 1) :
      (s.answered (s.unlockFault d).markLoss.stopDre.gatherAll.clocksOff.settleUnlock).get f =
        (s.unlockFault d).markLoss.stopDre.gatherAll.clocksOff.get f := by
    rw [State.get_answered _ _ _ (fun e => by rw [e] at page; exact absurd page (by decide))
      (fun e => by rw [e] at page; exact absurd page (by decide)), State.get_settleUnlock _ page]
  refine ⟨?_, ?_, ?_, ?_, ?_, ?_, State.keepsPages_answered_of (fun a p _ => ?_) (by decide) (by decide), State.keepsMem_answered ?_⟩
  · rw [State.answered_r26, settled.r26, off.r26, stopped.r26, State.r26_markLoss]
  · rw [read (by decide), State.clocksOff, State.get_put_addr _ _ _ _ (by decide),
      State.get_put_apart _ _ _ _ (by decide) (by simp [Fld.apart, CLK_STATUS.LOCK, CLK_STATUS.SOURCE])]
    exact State.get_put_same _ _ _ (by decide)
  · rw [read (by decide), State.clocksOff, State.get_put_addr _ _ _ _ (by decide)]
    exact State.get_put_same _ _ _ (by decide)
  · rw [read (by decide), State.clocksOff]
    exact State.get_put_same _ _ _ (by decide)
  · intro p hp
    have page : (STG_PH_TRIM.BAL p).addr / 0x1000 = 0x11 := by
      have : p < 30 := hp
      simp only [STG_PH_TRIM.BAL]
      omega
    rw [State.getI, State.get_answered _ _ _ (fun e => by rw [e] at page; exact absurd page (by decide))
      (fun e => by rw [e] at page; exact absurd page (by decide))]
    exact State.getI_settleUnlock _ hp
  · rw [read (by decide), State.clocksOff, State.get_put_addr _ _ _ _ (by decide), State.get_put_addr _ _ _ _ (by decide),
      State.get_put_addr _ _ _ _ (by decide), stopped.words.get _ (by decide), (State.within_markLoss _ [0]).get _ (by decide),
      State.get_unlockFault]
  · have all : s.Within (s.unlockFault d).markLoss.stopDre.gatherAll.clocksOff.settleUnlock
        ([0, 1, 9, 0xA, 0x11] ++ yardPages ++ sextantPages ++ faultPages) :=
      (((((s.within_unlockFault d).mono (by decide)).trans (State.within_markLoss _ _)).trans (stopped.mono (by decide)).words).trans
        (off.mono (by decide)).words).trans (settled.mono (by decide)).words
    exact all a p
  · exact (((fault.keepsMem.trans (State.keepsMem_markLoss _)).trans stopped.keepsMem).trans off.keepsMem).trans settled.keepsMem

end Sys2Proof.Machine
end

section
/-!
SUPPORT. The return of the PLL, and the statement (R363). Obligation ClockLossAndTakeover.
-/

namespace Sys2Proof.Machine

/-! ### Steps 2 and 3 (R24, R359, R360) -/

theorem State.confined_modBay {l : List Nat} (s : State) (b : Nat) (f : Bay → Bay) : State.Confined l s (s.modBay b f) :=
  s.confined_setBay _ _

theorem State.confined_rollAgain {l : List Nat} (s : State) : State.Confined l s { s with rollAgain := none } :=
  ⟨fun _ _ => rfl, rfl, rfl, rfl, rfl, rfl, rfl, rfl⟩

theorem State.confined_timeAgain {l : List Nat} (s : State) : State.Confined l s s.timeAgain := by
  unfold State.timeAgain
  split
  · exact .refl s
  · refine .trans s.confined_rollAgain (.foldl _ _ (fun b _ t => ?_) _)
    split
    · exact t.confined_modBay _ _
    · exact .refl t

theorem length_recordSet (l : List Byte) (k : Nat) : (recordSet l k).length = 8 := by simp [recordSet]

/-- One word of a set of coefficients (R359). -/
def State.loadCoef (s : State) (y k : Nat) (p : Nat × Nat) : State :=
  (s.setWord (0x40000 + 0x100 * y + 0x20 * k + 4 * p.2) (BitVec.ofNat 32 p.1)).memWritten 5 ((0x40000 + 0x100 * y + 0x20 * k + 4 * p.2) / 8)

theorem State.confined_loadCoef (s : State) {y k : Nat} {p : Nat × Nat} (hy : y < Config.yardCount) (hk : k < 7) (hp : p.2 < 8) :
    State.Confined (0xC :: coefPages) s (s.loadCoef y k p) := by
  have page : (0x40000 + 0x100 * y + 0x20 * k + 4 * p.2) / 0x1000 ∈ 0xC :: coefPages := by
    have : y < 96 := hy
    simp only [coefPages, List.mem_cons, List.mem_map, List.mem_range]
    exact .inr ⟨(0x100 * y + 0x20 * k + 4 * p.2) / 0x1000, by omega, by omega⟩
  refine .trans ?_ ((State.confined_memWritten _ _ _).mono (by decide))
  exact ⟨(State.Within.refl s _).setWord _ _ page, rfl, rfl, rfl, rfl, rfl, rfl, rfl⟩

theorem State.confined_loadCoefs (s : State) {y : Nat} (hy : y < Config.yardCount) :
    State.Confined (0xC :: coefPages ++ yardPages) s (s.loadCoefs y) := by
  have set (t : State) (v : Nat) : State.Confined (0xC :: coefPages ++ yardPages) t (t.put (YRD_LOOP.SET y) v) :=
    t.confined_put _ _ (by
      have : y < 96 := hy
      simp only [List.mem_append, yardPages, YRD_LOOP.SET, List.mem_map, List.mem_range]
      exact .inr ⟨y / 16, by omega, by omega⟩)
  unfold State.loadCoefs
  refine .ite (set _ _) (.trans (.foldl _ _ (fun k hk t => ?_) _) (set _ _))
  refine .foldl _ _ (fun p hp u => ?_) _
  have index : p.2 < 8 := by simpa [length_recordSet] using List.snd_lt_of_mem_zipIdx hp
  exact (u.confined_loadCoef hy (by simp at hk; omega) index).mono (by decide)

/-- The clocks have run from the PLL since now: no loss is marked any more. -/
def State.markReturn (s : State) : State := { s with r26 := false, sysHalf := false }

theorem State.r26_markReturn (s : State) : s.markReturn.r26 = false := rfl
theorem State.journal_markReturn (s : State) : s.markReturn.journal = s.journal := rfl
theorem State.within_markReturn (s : State) (l : List Nat) : s.Within s.markReturn l := fun _ _ => rfl
theorem State.keepsMem_markReturn (s : State) : s.KeepsMem s.markReturn := fun _ => ⟨rfl, rfl, rfl⟩

theorem State.toPll_eq (s : State) :
    s.toPll = (List.range Config.yardCount).foldl State.loadCoefs (s.gatherAll.markReturn.put CLK_STATUS.SOURCE 1).timeAgain := rfl

theorem State.confined_fromPll (s : State) :
    State.Confined (0xC :: coefPages ++ yardPages) s ((List.range Config.yardCount).foldl State.loadCoefs s.timeAgain) :=
  s.confined_timeAgain.trans (.foldl _ _ (fun _ hy t => t.confined_loadCoefs (List.mem_range.mp hy)) _)

/-- Steps 2 and 3: the clocks run from the PLL, and nothing but the streams, the coefficients and the bays' timing follows. -/
theorem State.frame_toPll (s : State) :
    s.Within s.toPll (1 :: 0xC :: coefPages ++ yardPages ++ sextantPages) ∧ s.KeepsMem s.toPll ∧ s.toPll.r26 = false
      ∧ s.toPll.journal = s.journal ∧ s.toPll.get CLK_STATUS.SOURCE = 1
      ∧ (∀ f : Fld, CLK_STATUS.SOURCE.apart f → f.addr / 0x1000 ≤ 1 → s.toPll.get f = s.get f) := by
  have gathered := s.confined_gatherAll
  have put := s.gatherAll.markReturn.confined_put (l := [1]) CLK_STATUS.SOURCE 1 (by decide)
  have loaded := (s.gatherAll.markReturn.put CLK_STATUS.SOURCE 1).confined_fromPll
  rw [State.toPll_eq]
  refine ⟨?_, ?_, ?_, ?_, ?_, ?_⟩
  · exact (((gathered.mono (by decide)).words.trans (State.within_markReturn _ _)).trans (put.mono (by decide)).words).trans
      (loaded.mono (by decide)).words
  · exact ((gathered.keepsMem.trans (State.keepsMem_markReturn _)).trans put.keepsMem).trans loaded.keepsMem
  · rw [loaded.r26, put.r26, State.r26_markReturn]
  · rw [loaded.journal, put.journal, State.journal_markReturn, gathered.journal]
  · rw [loaded.words.get _ (by decide)]
    exact State.get_put_same _ _ _ (by decide)
  · intro f apart page
    have low (l : List Nat) (h0 : 0 ∉ l) (h1 : 1 ∉ l) : f.addr / 0x1000 ∉ l := by
      rcases (by omega : f.addr / 0x1000 = 0 ∨ f.addr / 0x1000 = 1) with e | e <;> rwa [e]
    rw [loaded.words.get _ (low _ (by decide) (by decide)), State.get_put_apart _ _ _ _ (by decide) apart,
      (State.within_markReturn _ []).get _ (low _ (by decide) (by decide)), gathered.words.get _ (low _ (by decide) (by decide))]

/-! ### Steps 6 and 7 (R208, R335) -/

/-- The sums of every yard's period start anew. -/
def State.newPeriods (s : State) : State :=
  (List.range Config.yardCount).foldl (fun s y =>
    s.setYard y { s.yard y with pSum := 0, pCnt := 0, open_ := {}, openAt := s.mono }) s

/-- Way-on service has been reached. -/
def State.markWayOn (s : State) : State := { s with wayOnAt := some (s.wayOnAt.getD s.mono) }

theorem State.startAccepted_none {s : State} (h : ∀ e ∈ s.journal, e.state ≠ .accepted) : s.startAccepted = s := by
  have none : (s.journal.filter fun e => decide (e.state = .accepted)) = [] := by
    simpa [List.filter_eq_nil_iff] using h
  unfold State.startAccepted
  rw [none]
  split <;> rfl

theorem State.enterWayOn_eq (s : State) :
    s.enterWayOn =
      let t := ((s.newPeriods.markWayOn.put GLB_SERVICE.STATE 3).evt pgGLB 0).startAccepted.resumePlan
      if !t.farRecord ∧ t.far = .idle ∧ t.get FAR_STATUS.STATE = 0 then (t.startPlan none).1 else t := rfl

/-- The turns to come measure the second bandgaps. -/
def State.measureRefs (s : State) : State :=
  (List.range Config.clusterCount).foldl (fun s n => s.setCluster n { s.cluster n with refTurn := true }) s

def State.planning (s : State) : State := { s with far := .planning }

theorem State.beginPlan_eq (s : State) : s.beginPlan = s.measureRefs.planning.put FAR_STATUS.STATE 2 := rfl

theorem State.confined_measureRefs {l : List Nat} (s : State) : State.Confined l s s.measureRefs :=
  .foldl (fun s n => s.setCluster n { s.cluster n with refTurn := true }) _ (fun _ _ t => t.confined_setCluster _ _) s

theorem State.confined_planning {l : List Nat} (s : State) : State.Confined l s s.planning := ⟨fun _ _ => rfl, rfl, rfl, rfl, rfl, rfl, rfl, rfl⟩

theorem State.confined_beginPlan (s : State) : State.Confined [0xF] s s.beginPlan := by
  rw [State.beginPlan_eq]
  exact (s.confined_measureRefs.trans (State.confined_planning _)).trans (State.confined_put _ _ _ (by decide))

/-- Whose command a plan is changes nothing else. -/
theorem State.confined_planTags {l : List Nat} (s : State) (f p : Option CmdTag) : State.Confined l s { s with farTag := f, planTag := p } :=
  ⟨fun _ _ => rfl, rfl, rfl, rfl, rfl, rfl, rfl, rfl⟩

theorem State.confined_resumePlan (s : State) : State.Confined [0xF] s s.resumePlan :=
  .ite ((s.confined_planTags _ _).trans (State.confined_beginPlan _)) (.refl s)

theorem State.confined_startPlan (s : State) (tag : Option CmdTag) : State.Confined [0xF] s (s.startPlan tag).1 := by
  have postponed := s.confined_planTags (l := [0xF]) s.farTag tag
  have begun := s.confined_planTags (l := [0xF]) tag s.planTag
  unfold State.startPlan
  split
  · exact s.confined_put _ _ (by decide)
  · split
    · exact postponed.trans (State.confined_put _ _ _ (by decide))
    · exact begun.trans (State.confined_beginPlan _)

theorem State.confined_newPeriods {l : List Nat} (s : State) : State.Confined l s s.newPeriods :=
  .foldl (fun s y => s.setYard y { s.yard y with pSum := 0, pCnt := 0, open_ := {}, openAt := s.mono }) _
    (fun _ _ t => t.confined_setYard _ _) s

theorem State.confined_markWayOn {l : List Nat} (s : State) : State.Confined l s s.markWayOn := ⟨fun _ _ => rfl, rfl, rfl, rfl, rfl, rfl, rfl, rfl⟩

/-- STATE becomes 3, with its event. -/
def State.wayOn (s : State) : State := (s.newPeriods.markWayOn.put GLB_SERVICE.STATE 3).evt pgGLB 0

theorem State.confined_wayOn (s : State) : State.Confined [0] s s.wayOn :=
  ((s.confined_newPeriods.trans (State.confined_markWayOn _)).trans (State.confined_put _ _ _ (by decide))).trans
    (State.confined_evt _ _ _ (by decide))

theorem State.get_wayOn_state (s : State) : s.wayOn.get GLB_SERVICE.STATE = 3 := by
  unfold State.wayOn
  rw [State.get_evt _ _ _ _ (by decide)]
  exact State.get_put_same _ _ _ (by decide)

/-- With no command waiting to start, way-on service brings STATE 3 and at most a plan of the farrier. -/
theorem State.confined_enterWayOn {s : State} (h : ∀ e ∈ s.journal, e.state ≠ .accepted) : State.Confined [0xF] s.wayOn s.enterWayOn := by
  have idle : s.wayOn.startAccepted = s.wayOn := State.startAccepted_none (by rwa [s.confined_wayOn.journal])
  have resumed := s.wayOn.confined_resumePlan
  have eff : s.enterWayOn =
      if !s.wayOn.startAccepted.resumePlan.farRecord ∧ s.wayOn.startAccepted.resumePlan.far = .idle
          ∧ s.wayOn.startAccepted.resumePlan.get FAR_STATUS.STATE = 0
      then (s.wayOn.startAccepted.resumePlan.startPlan none).1 else s.wayOn.startAccepted.resumePlan := rfl
  rw [eff, idle]
  exact .ite (resumed.trans (State.confined_startPlan _ _)) resumed

/-! ### The journal through a record (R373) -/

theorem State.journal_stageLog (s : State) (r : LogRec) : (s.stageLog r).journal = s.journal := by
  have dropped (t : State) : t.countDropped.journal = t.journal := by unfold State.countDropped; split <;> rfl
  have staged (t : State) : t.countStaged.journal = t.journal := by unfold State.countStaged; split <;> rfl
  have added (t : State) (q : LogRec) : (t.addLog q).journal = t.journal := rfl
  have pushed : (s.pushLog r).journal = s.journal := by
    unfold State.pushLog
    split
    · rw [State.journal_disarm, added]
    · rw [added]
  unfold State.stageLog
  split
  · rw [dropped, State.evt_journal, State.bump_journal]
  · rw [staged, State.showStaged, State.put_journal, pushed]

theorem State.journal_record (s : State) (c v f : Nat) (p : List Nat) : (s.record c v f p).journal = s.journal := by
  have supp (t : State) (u : Supp) : (t.setSupp c u).journal = t.journal := rfl
  have tokens (t : State) (n : Nat) : (t.setTokens c n).journal = t.journal := rfl
  have flushed (t : State) : (t.flushSupp c).journal = t.journal := by
    unfold State.flushSupp
    split
    · rfl
    · rw [State.journal_stageLog, supp]
  unfold State.record
  split
  · rw [State.bump_journal, supp]
  · rw [State.journal_stageLog, flushed, tokens]

/-! ### The return (R363) -/

/-- The return is counted and logged. -/
def State.relockNoted (s : State) : State := ((s.bump CLK_CNT_RELOCK.COUNT).evt pgCLK 1).logEvent 0x0101 []

theorem State.confined_relockNoted (s : State) : State.Confined [1, 0xC, 0xD] s s.relockNoted := by
  have noted : s.Within s.relockNoted [1, 0xC, 0xD] :=
    (((State.Within.refl s _).bump _ (by decide)).evt _ _ (by decide)).trans ((State.within_logEvent _ _ _).mono (by decide))
  refine (((s.reports_bump _).trans (State.reports_evt _ _ _)).trans (State.reports_logEvent _ _ _)).confined noted ?_
  exact (State.journal_record _ _ _ _ _).trans ((State.evt_journal _ _ _).trans (State.bump_journal _ _))

theorem State.get_relockNoted (s : State) : s.relockNoted.get CLK_CNT_RELOCK.COUNT = min (s.get CLK_CNT_RELOCK.COUNT + 1) 0xFFFFFFFF := by
  unfold State.relockNoted
  rw [(State.within_logEvent _ _ _).get _ (by decide), State.get_evt _ _ _ _ (by decide)]
  exact State.get_bump_same s CLK_CNT_RELOCK.COUNT (by decide)

theorem State.get_relockNoted_lock (s : State) : s.relockNoted.get CLK_STATUS.LOCK = s.get CLK_STATUS.LOCK := by
  unfold State.relockNoted
  rw [(State.within_logEvent _ _ _).get _ (by decide), State.get_evt _ _ _ _ (by decide), State.get_bump _ _ _ (by decide)]

theorem State.outstandingF_pllLock (s : State) : (pllLockEff s).outstandingF = s.outstandingF := by
  obtain ⟨-, kept, -, -⟩ := pllLockEff_cases s
  have hold : (pllLockEff s).get FLT_STATUS.HOLD = s.get FLT_STATUS.HOLD := kept.get _ (by decide)
  have asserts : (pllLockEff s).get FLT_STATUS.F_ASSERT = s.get FLT_STATUS.F_ASSERT := kept.get _ (by decide)
  have trip : (pllLockEff s).get THM_STATUS.TRIP = s.get THM_STATUS.TRIP := kept.get _ (by decide)
  simp only [State.outstandingF, State.holding, State.on, hold, asserts, trip]

theorem pllRelockEff_returns {s : State} (h : s.r26 = true) (ok : s.outstandingF = false) :
    pllRelockEff s = (pllLockEff s).relockNoted.toPll.enterWayOn := by
  unfold pllRelockEff
  rw [if_neg (by simp [h])]
  dsimp only
  rw [if_neg (by rw [State.outstandingF_pllLock, ok]; decide)]
  rfl

theorem journal_pllLockEff (s : State) : (pllLockEff s).journal = s.journal := by
  unfold pllLockEff
  split
  · rfl
  · exact State.put_journal { s with lockAt := s.mono } _ _

/-- What the return of the PLL changes, with no command waiting to start. -/
theorem State.frame_pllRelock {s : State} (h : s.r26 = true) (ok : s.outstandingF = false)
    (quiet : ∀ e ∈ s.journal, e.state ≠ .accepted) :
    ∃ t, exec .pllRelock s = .next t ∧ t.r26 = false ∧ t.get CLK_STATUS.LOCK = 1 ∧ t.get CLK_STATUS.SOURCE = 1
      ∧ t.get GLB_SERVICE.STATE = 3 ∧ t.get CLK_CNT_RELOCK.COUNT = min (s.get CLK_CNT_RELOCK.COUNT + 1) 0xFFFFFFFF
      ∧ s.KeepsPages t ([0, 1, 0xF] ++ coefPages ++ yardPages ++ sextantPages ++ faultPages) [] ∧ s.KeepsMem t := by
  obtain ⟨lock, locked, -, tables⟩ := pllLockEff_cases s
  have noted := (pllLockEff s).confined_relockNoted
  obtain ⟨words, mem, r26, journal, source, kept⟩ := (pllLockEff s).relockNoted.frame_toPll
  have reached := (pllLockEff s).relockNoted.toPll.confined_wayOn
  have entered : State.Confined [0xF] (pllLockEff s).relockNoted.toPll.wayOn (pllLockEff s).relockNoted.toPll.enterWayOn :=
    State.confined_enterWayOn (by rw [journal, noted.journal, journal_pllLockEff]; exact quiet)
  refine ⟨_, exec_pllRelock s, ?_⟩
  rw [pllRelockEff_returns h ok]
  have read {f : Fld} (page : f.addr / 0x1000 ≤ 1) :
      (s.answered (pllLockEff s).relockNoted.toPll.enterWayOn).get f = (pllLockEff s).relockNoted.toPll.wayOn.get f := by
    rw [State.get_answered _ _ _ (fun e => by rw [e] at page; exact absurd page (by decide))
      (fun e => by rw [e] at page; exact absurd page (by decide))]
    exact entered.words.get f (by simp only [List.mem_singleton]; omega)
  refine ⟨?_, ?_, ?_, ?_, ?_, State.keepsPages_answered_of (fun a p _ => ?_) (by decide) (by decide), State.keepsMem_answered ?_⟩
  · rw [State.answered_r26, entered.r26, reached.r26, r26]
  · rw [read (by decide), reached.words.get _ (by decide), kept _ (by simp [Fld.apart, CLK_STATUS.SOURCE, CLK_STATUS.LOCK]) (by decide),
      State.get_relockNoted_lock, lock]
  · rw [read (by decide), reached.words.get _ (by decide), source]
  · rw [read (by decide), State.get_wayOn_state]
  · rw [read (by decide), reached.words.get _ (by decide), kept _ (by simp [Fld.apart, CLK_STATUS.SOURCE, CLK_CNT_RELOCK.COUNT]) (by decide),
      State.get_relockNoted, locked.get _ (by decide)]
  · have lockWords : s.Within (pllLockEff s) [1] := fun b n => locked b (fun e => n (e ▸ by decide))
    have all : s.Within (pllLockEff s).relockNoted.toPll.enterWayOn ([0, 1, 0xF] ++ coefPages ++ yardPages ++ sextantPages ++ faultPages) :=
      ((((lockWords.mono (by decide)).trans (noted.mono (by decide)).words).trans (words.mono (by decide))).trans
        (reached.mono (by decide)).words).trans (entered.mono (by decide)).words
    exact all a p
  · exact (((tables.keepsMem.trans noted.keepsMem).trans mem).trans reached.keepsMem).trans entered.keepsMem

/-! ### The obligation -/

/-- Settles O8: lock, loss and return of the PLL, and the cores that leave service, each by what its effect is confined to. -/
theorem clockLossAndTakeover : Obligations.ClockLossAndTakeover := by
  unfold Obligations.ClockLossAndTakeover
  refine ⟨?lock, ?backup, fun d s h => State.frame_pllUnlock d h, fun s h ok quiet => State.frame_pllRelock h ok quiet,
    fun c s h => State.frame_helmFail c h, fun c s h1 h0 e => State.frame_serviceFail (core := 1) c (by decide) h0 h1 e,
    fun c s h0 h1 e => State.frame_serviceFail (core := 0) c (by decide) h0 h1 e⟩
  case lock =>
    intro s
    obtain ⟨lock, words, source, tables⟩ := pllLockEff_cases s
    obtain ⟨regs, mem, units⟩ := State.frame_answered (l := [CLK_STATUS.reg.addr]) (fun a n => words a (by simpa using n)) tables
    refine ⟨_, exec_pllLock s, ?_, regs, ?_, mem, units⟩
    · rw [State.get_answered _ _ _ (by decide) (by decide), lock]
    · rw [State.get_answered _ _ _ (by decide) (by decide), source]
  case backup =>
    intro d s h
    obtain ⟨regs, mem, units⟩ := State.frame_answered (s := s) (u := s.put CLK_STATUS.LOCK 0) (l := [CLK_STATUS.reg.addr])
      (fun a n => State.word_put s _ _ a (by simpa [CLK_STATUS.LOCK, CLK_STATUS.reg] using n)) ((s.reports_put _ _).sameTables (State.put_tdm _ _ _))
    refine ⟨_, exec_pllUnlock d s, ?_⟩
    rw [pllUnlockEff_backup d h]
    refine ⟨?_, regs, ?_, mem, units⟩
    · rw [State.get_answered _ _ _ (by decide) (by decide)]
      exact State.get_put_same _ _ _ (by decide)
    · rw [State.answered_r26, State.put_r26]

end Sys2Proof.Machine
end

section
/-!
SUPPORT. What the layers leave as it is while the cap loop's own quantities stand (R242-R251): its history, its tuning, its rung.
Obligation CapLoopAndCurrentLayersAct.
-/

namespace Sys2Proof.Machine

theorem exec_capLoopBoundary (o : Bool) (s : State) : exec (.capLoopBoundary o) s = .next (s.answered (capBoundaryEff o s)) := rfl
theorem exec_currentLayerEval (s : State) : exec .currentLayerEval s = .next (s.answered (currentLayerEff s)) := rfl

/-! ### A steady cap loop -/

/-- The pages that a boundary writes. -/
def boundaryPages : List Nat := 9 :: 0xA :: 0xB :: faultPages ++ (List.range 6).map fun k => 0x20 + k

/-- The registers that hold the caps, the power shown, the mode asked for, the tuning and the operating points. -/
abbrev OfCaps (a : Nat) : Prop := 0xA044 ≤ a ∧ a < 0xA058 ∨ 0xA400 ≤ a ∧ a < 0xA500

/-- What every layer but the device layer leaves as it is. -/
structure State.Steady (s t : State) : Prop where
  pages : s.Within t boundaryPages
  caps : s.KeepsOn OfCaps t
  rung : t.get CAP_STATUS.RUNG = s.get CAP_STATUS.RUNG
  mode : t.get CAP_STATUS.MODE_NOW = s.get CAP_STATUS.MODE_NOW
  history : t.cap.history = s.cap.history
  since : t.cap.since = s.cap.since
  defer : t.cap.defer = s.cap.defer
  oppOld : t.cap.oppOld = s.cap.oppOld
  flash : t.flash = s.flash
  store : t.store = s.store
  capram : t.capram = s.capram
  sums : ∀ y, (t.yard y).pSum = (s.yard y).pSum ∧ (t.yard y).pCnt = (s.yard y).pCnt

theorem State.Steady.refl (s : State) : s.Steady s :=
  ⟨.refl s _, .refl s, rfl, rfl, rfl, rfl, rfl, rfl, rfl, rfl, rfl, fun _ => ⟨rfl, rfl⟩⟩

theorem State.Steady.trans {s t u : State} (h : s.Steady t) (k : t.Steady u) : s.Steady u where
  pages := h.pages.trans k.pages
  caps := h.caps.trans k.caps
  rung := k.rung.trans h.rung
  mode := k.mode.trans h.mode
  history := k.history.trans h.history
  since := k.since.trans h.since
  defer := k.defer.trans h.defer
  oppOld := k.oppOld.trans h.oppOld
  flash := k.flash.trans h.flash
  store := k.store.trans h.store
  capram := k.capram.trans h.capram
  sums y := ⟨(k.sums y).1.trans (h.sums y).1, (k.sums y).2.trans (h.sums y).2⟩

theorem State.Steady.ite {s t u : State} {c : Prop} [Decidable c] (h : s.Steady t) (k : s.Steady u) :
    s.Steady (if c then t else u) := by
  split
  · exact h
  · exact k

theorem State.Steady.foldl {α : Type} (f : State → α → State) (xs : List α) (h : ∀ x ∈ xs, ∀ t, State.Steady t (f t x)) (s : State) :
    s.Steady (xs.foldl f s) := by
  induction xs generalizing s with
  | nil => exact .refl s
  | cons x xs ih => exact (h x List.mem_cons_self s).trans (ih (fun z m => h z (List.mem_cons_of_mem x m)) _)

theorem State.Steady.keepsMem {s t : State} (h : s.Steady t) : s.KeepsMem t := fun a => by
  simp only [State.flashAt, State.storeAt, State.capAt, h.flash, h.store, h.capram, and_self]

/-- A report steadies the cap loop where its registers do. -/
theorem State.Reports.steadyOf {s t : State} (h : s.Reports t) (pages : s.Within t boundaryPages) (caps : s.KeepsOn OfCaps t)
    (rung : t.get CAP_STATUS.RUNG = s.get CAP_STATUS.RUNG) (mode : t.get CAP_STATUS.MODE_NOW = s.get CAP_STATUS.MODE_NOW) : s.Steady t where
  pages := pages
  caps := caps
  rung := rung
  mode := mode
  history := by rw [h.cap]
  since := by rw [h.cap]
  defer := by rw [h.cap]
  oppOld := by rw [h.cap]
  flash := h.flash
  store := h.store
  capram := h.capram
  sums y := by simp only [State.yard, h.yards, and_self]

theorem OfCaps.page {l : List Nat} (h : 0xA ∉ l) (a : Nat) (k : OfCaps a) : a / 0x1000 ∉ l := by
  have : a / 0x1000 = 0xA := by omega
  rwa [this]

/-- A report that writes no register of page CAP. -/
theorem State.Reports.steady {s t : State} {l : List Nat} (h : s.Reports t) (k : s.Within t l) (sub : l ⊆ boundaryPages) (cap : 0xA ∉ l) :
    s.Steady t :=
  h.steadyOf (k.mono sub) (k.keepsOn (OfCaps.page cap)) (k.get _ cap) (k.get _ cap)

theorem State.steady_put (s : State) (f : Fld) (v : Nat) (page : f.addr / 0x1000 ∈ boundaryPages) (caps : ¬ OfCaps f.addr)
    (width : f.lo + f.w ≤ 32) (rung : f.apart CAP_STATUS.RUNG) (mode : f.apart CAP_STATUS.MODE_NOW) : s.Steady (s.put f v) :=
  (s.reports_put f v).steadyOf ((State.Within.refl s _).put f v page) ((State.KeepsOn.refl s).put f v caps)
    (State.get_put_apart _ _ _ _ width rung) (State.get_put_apart _ _ _ _ width mode)

/-- A field of a register other than CAP_STATUS. -/
theorem State.steady_put_other (s : State) (f : Fld) (v : Nat) (page : f.addr / 0x1000 ∈ boundaryPages) (caps : ¬ OfCaps f.addr)
    (status : f.addr ≠ 0xA040) : s.Steady (s.put f v) :=
  (s.reports_put f v).steadyOf ((State.Within.refl s _).put f v page) ((State.KeepsOn.refl s).put f v caps)
    (State.get_put_addr _ _ _ _ (Ne.symm status)) (State.get_put_addr _ _ _ _ (Ne.symm status))

theorem State.steady_evt (s : State) (pg k : Nat) (page : (pg + 0x14) / 0x1000 ∈ boundaryPages) (caps : ¬ OfCaps (pg + 0x14))
    (status : pg + 0x14 ≠ 0xA040) : s.Steady (s.evt pg k) :=
  (s.reports_evt pg k).steadyOf ((State.Within.refl s _).evt pg k page) ((State.KeepsOn.refl s).evt pg k caps)
    (State.get_evt _ _ _ _ (Ne.symm status)) (State.get_evt _ _ _ _ (Ne.symm status))

theorem State.Ordered.steady {s t : State} (h : s.Ordered t) : s.Steady t where
  pages := h.confined.words.mono (by decide)
  caps a k := h.words a (by simp only [OffOrders]; omega)
  rung := h.words.get _ (by decide)
  mode := h.words.get _ (by decide)
  history := by rw [h.cap]
  since := by rw [h.cap]
  defer := by rw [h.cap]
  oppOld := by rw [h.cap]
  flash := h.flash
  store := h.store
  capram := h.capram
  sums y := by
    have m := h.meter y
    simp only [Yard.meter, Prod.mk.injEq] at m
    exact ⟨m.1, m.2.1⟩

/-- A yard is changed but for the sums of its period. -/
theorem State.steady_setYard (s : State) (y : Nat) (v : Yard) (sum : v.pSum = (s.yard y).pSum) (cnt : v.pCnt = (s.yard y).pCnt) :
    s.Steady (s.setYard y v) where
  pages _ _ := rfl
  caps _ _ := rfl
  rung := rfl
  mode := rfl
  history := rfl
  since := rfl
  defer := rfl
  oppOld := rfl
  flash := rfl
  store := rfl
  capram := rfl
  sums z := by
    rw [State.yard_setYard]
    split
    next e => rw [e, sum, cnt]; exact ⟨rfl, rfl⟩
    · exact ⟨rfl, rfl⟩

theorem State.steady_setRail (s : State) (r : Nat) (v : Rail) : s.Steady (s.setRail r v) :=
  ⟨fun _ _ => rfl, fun _ _ => rfl, rfl, rfl, rfl, rfl, rfl, rfl, rfl, rfl, rfl, fun _ => ⟨rfl, rfl⟩⟩

theorem State.steady_setCtx (s : State) (c : Nat) (v : Ctx) : s.Steady (s.setCtx c v) :=
  ⟨fun _ _ => rfl, fun _ _ => rfl, rfl, rfl, rfl, rfl, rfl, rfl, rfl, rfl, rfl, fun _ => ⟨rfl, rfl⟩⟩

theorem State.steady_setBay (s : State) (b : Nat) (v : Bay) : s.Steady (s.setBay b v) :=
  ⟨fun _ _ => rfl, fun _ _ => rfl, rfl, rfl, rfl, rfl, rfl, rfl, rfl, rfl, rfl, fun _ => ⟨rfl, rfl⟩⟩

theorem State.steady_jobs (s : State) (j : List JobState) : s.Steady { s with jobs := j } :=
  ⟨fun _ _ => rfl, fun _ _ => rfl, rfl, rfl, rfl, rfl, rfl, rfl, rfl, rfl, rfl, fun _ => ⟨rfl, rfl⟩⟩

theorem State.steady_episodes (s : State) (e : Tab Episode) : s.Steady { s with episodes := e } :=
  ⟨fun _ _ => rfl, fun _ _ => rfl, rfl, rfl, rfl, rfl, rfl, rfl, rfl, rfl, rfl, fun _ => ⟨rfl, rfl⟩⟩

/-! ### Releases and deferrals (R244, R254) -/

def State.clearYard (s : State) (y : Nat) : State := s.setYard y { s.yard y with over90 := false }
def State.clearRail (s : State) (r : Nat) : State := s.setRail r { s.rail r with over90 := false }

theorem State.clearOver_eq (s : State) :
    s.clearOver = [0, 1].foldl State.clearRail ((List.range Config.yardCount).foldl State.clearYard s) := rfl

theorem State.steady_clearYard (s : State) (y : Nat) : s.Steady (s.clearYard y) := s.steady_setYard y _ rfl rfl
theorem State.steady_clearRail (s : State) (r : Nat) : s.Steady (s.clearRail r) := s.steady_setRail r _

theorem State.steady_clearOver (s : State) : s.Steady s.clearOver := by
  rw [State.clearOver_eq]
  exact .trans (.foldl _ _ (fun _ _ t => t.steady_clearYard _) s) (.foldl _ _ (fun _ _ t => t.steady_clearRail _) _)

/-- A yard's steps of the current layers are released (R244). -/
def State.releaseYard (s : State) (y : Nat) : State :=
  let v := s.yard y
  let r := s.rail (Config.yardRail y)
  s.setYard y { v with
    curSteps := if v.over90 ∨ v.tightened then v.curSteps else v.curSteps - 1
    railSteps := if r.over90 ∨ r.tightened then v.railSteps else v.railSteps - 1 }

theorem State.releaseSteps_eq (s : State) : s.releaseSteps = ((List.range Config.yardCount).foldl State.releaseYard s).clearOver := rfl

theorem State.steady_releaseYard (s : State) (y : Nat) : s.Steady (s.releaseYard y) := s.steady_setYard y _ rfl rfl

theorem State.steady_releaseSteps (s : State) : s.Steady s.releaseSteps := by
  rw [State.releaseSteps_eq]
  exact .trans (.foldl _ _ (fun _ _ t => t.steady_releaseYard _) s) (State.steady_clearOver _)

theorem State.steady_notice (s : State) (k y c p : Nat) : s.Steady (s.notice k y c p) :=
  (s.reports_notice k y c p).steady (s.within_notice k y c p) (by decide) (by decide)

theorem State.steady_straggler (s : State) (d : Deferral) : s.Steady (s.straggler d) := by
  unfold State.straggler
  dsimp only
  split
  · exact .refl s
  · exact ((s.steady_notice _ _ _ _).trans (State.steady_put_other _ CAP_CNT_STRAGGLER.COUNT _ (by decide) (by decide) (by decide))).trans
      (State.steady_evt _ _ _ (by decide) (by decide) (by decide))

theorem State.steady_refreshDeferred (s : State) : s.Steady s.refreshDeferred :=
  s.steady_put _ _ (by decide) (by decide) (by decide) (by simp [Fld.apart, CAP_STATUS.DEFERRED, CAP_STATUS.RUNG])
    (by simp [Fld.apart, CAP_STATUS.DEFERRED, CAP_STATUS.MODE_NOW])

/-- A context's deferral ends where it is over. -/
def State.endCtxDeferral (s : State) (c : Nat) : State :=
  match (s.ctx c).defer with
  | some d =>
    if s.deferOver d then
      let s := if s.openColls = [] then s else s.straggler d
      s.setCtx c { s.ctx c with cap := d.value, defer := none }
    else s
  | none => s

theorem State.steady_endCtxDeferral (s : State) (c : Nat) : s.Steady (s.endCtxDeferral c) := by
  unfold State.endCtxDeferral
  split
  · exact .ite (.trans (.ite (.refl s) (s.steady_straggler _)) (State.steady_setCtx _ _ _)) (.refl s)
  · exact .refl s

theorem State.steady_endDeferrals {s : State} (h : s.cap.defer = none) : s.Steady s.endDeferrals := by
  have eff : s.endDeferrals = ((List.range Config.contexts).foldl State.endCtxDeferral s).refreshDeferred := by
    unfold State.endDeferrals
    rw [h]
    rfl
  rw [eff]
  exact .trans (.foldl _ _ (fun c _ t => t.steady_endCtxDeferral c) s) (State.steady_refreshDeferred _)

/-! ### The thermal and the context layer (R273, R275, R246) -/

theorem State.steady_setRung (s : State) {y : Nat} (r : Nat) (h : y < Config.yardCount) : s.Steady (s.setRung y r) := by
  have lies : (yRung y).addr / 0x1000 = 0xB := by
    have : y < 96 := h
    simp only [yRung, THM_YRUNG.YARD]
    omega
  have caps : ¬ OfCaps (yRung y).addr := fun k => OfCaps.page (l := [0xB]) (by decide) _ k (by rw [lies]; decide)
  have status : (yRung y).addr ≠ 0xA040 := fun e => by rw [e] at lies; exact absurd lies (by decide)
  have shown (v : Nat) : s.Steady (s.put (yRung y) v) := s.steady_put_other _ v (by rw [lies]; decide) caps status
  unfold State.setRung
  refine .trans (.trans (shown _) (.ite ?_ (.refl _))) (.ite ?_ (.refl _))
  · exact State.steady_put_other _ THM_CNT_THROT.COUNT _ (by decide) (by decide) (by decide)
  · exact State.steady_evt _ _ _ (by decide) (by decide) (by decide)

theorem State.steady_thermalRung (s : State) {y : Nat} (h : y < Config.yardCount) : s.Steady (s.thermalRung y) := by
  have counted (w : Nat) (r : Nat) : s.Steady ((s.setYard y { s.yard y with rungWait := w }).setRung y r) :=
    (s.steady_setYard y { s.yard y with rungWait := w } rfl rfl).trans (State.steady_setRung _ _ h)
  unfold State.thermalRung
  dsimp only
  split
  · exact counted _ _
  · exact .ite (counted _ _) (.ite (counted _ _) (counted _ _))

theorem State.steady_contextLayer (s : State) (c : Nat) : s.Steady (s.contextLayer c) :=
  .ite (s.steady_setCtx _ _) (s.steady_setCtx _ _)

end Sys2Proof.Machine
end

section
/-!
SUPPORT. The cap-loop boundary (R245, R247): the period, the device layer, and the statement of both boundaries.
Obligation CapLoopAndCurrentLayersAct.
-/

namespace Sys2Proof.Machine

/-! ### What follows the device layer (R111, R249, R250, R280) -/

theorem State.steady_send (s : State) (g : Nat) (w : Word) : s.Steady (s.send g w) :=
  (s.reports_send g w).steady (l := []) (fun a _ => by simp only [State.word, s.regs_send g w]) (by simp) (by simp)

/-- The words that end HEAT on a bay. -/
def State.coolBay (s : State) (b : Nat) : State :=
  (((s.sendBay b (bayStateWord · 2)).sendBay b (cfgWrWord · 4 0)).sendBay b (cfgWrWord · 5 0)).modBay b fun v => { v with heat := 0 }

theorem State.steady_coolBay (s : State) (b : Nat) : s.Steady (s.coolBay b) :=
  (((s.steady_send _ _).trans (State.steady_send _ _ _)).trans (State.steady_send _ _ _)).trans (State.steady_setBay _ _ _)

theorem State.steady_endHeat (s : State) (y : Nat) : s.Steady (s.endHeat y) := by
  refine .trans ?_ (.foldl State.coolBay _ (fun b _ t => t.steady_coolBay b) _)
  refine .ite (.refl s) ?_
  exact s.steady_setYard _ _ rfl rfl

theorem State.steady_endWarming (s : State) (y : Nat) : s.Steady (s.endWarming y) := by
  have rested (t : State) (e : Bool) : t.Steady (t.setYard y { t.yard y with warmLevel := 0, heatExit := e }) := t.steady_setYard _ _ rfl rfl
  have ended (t : State) : t.Steady (t.setYard y { t.yard y with warmUse := 0 }) := t.steady_setYard _ _ rfl rfl
  exact ((s.steady_endHeat y).trans (rested _ _)).trans (ended _)

theorem State.steady_endStation (s : State) : s.Steady s.endStation :=
  .ite (.refl s) (.foldl _ _ (fun y _ t => t.steady_endWarming y) s)

theorem State.steady_modePending (s : State) (d : Option Deferral) : s.Steady { s with cap := { s.cap with modePending := d } } :=
  ⟨fun _ _ => rfl, fun _ _ => rfl, rfl, rfl, rfl, rfl, rfl, rfl, rfl, rfl, rfl, fun _ => ⟨rfl, rfl⟩⟩

/-- With the mode in force the one asked for, the mode layer changes no more than what waits. -/
theorem State.steady_modeLayer {s : State} (h : s.get CAP_MODE.MODE = s.get CAP_STATUS.MODE_NOW) : s.Steady s.modeLayer := by
  have eff : s.modeLayer = ({ s with cap := { s.cap with modePending := none } } : State).refreshDeferred := by
    unfold State.modeLayer
    dsimp only
    rw [if_pos h]
  rw [eff]
  exact (s.steady_modePending _).trans (State.steady_refreshDeferred _)

theorem State.steady_unmet (s : State) (v : Nat) : s.Steady (s.put CAP_STATUS.UNMET v) :=
  s.steady_put _ _ (by decide) (by decide) (by decide) (by simp [Fld.apart, CAP_STATUS.UNMET, CAP_STATUS.RUNG])
    (by simp [Fld.apart, CAP_STATUS.UNMET, CAP_STATUS.MODE_NOW])

theorem State.steady_refreshStation (s : State) : s.Steady s.refreshStation := by
  have shown (v : Nat) : s.Steady (s.put CAP_STATUS.STATION_OK v) :=
    s.steady_put _ _ (by decide) (by decide) (by decide) (by simp [Fld.apart, CAP_STATUS.STATION_OK, CAP_STATUS.RUNG])
      (by simp [Fld.apart, CAP_STATUS.STATION_OK, CAP_STATUS.MODE_NOW])
  exact .ite (shown _) ((shown _).trans (State.steady_jobs _ _))

theorem State.steady_episode (s : State) (key : Nat) (low exceeds : Bool) (src excess y c : Nat) :
    s.Steady (s.episode key low exceeds src excess y c) := by
  have logged (t : State) (p : List Nat) : t.Steady (t.logEvent 0x0111 p) :=
    (t.reports_logEvent _ _).steady (t.within_logEvent _ _) (by decide) (by decide)
  have told (t : State) (p n : Nat) : t.Steady (((((t.put CAP_STATUS.UNMET 1).bump CAP_CNT_UNMET.COUNT).evt pgCAP 0).logEvent 0x0111 [p]).notice 3 y c n) :=
    ((((t.steady_unmet 1).trans (State.steady_put_other _ CAP_CNT_UNMET.COUNT _ (by decide) (by decide) (by decide))).trans
      (State.steady_evt _ _ _ (by decide) (by decide) (by decide))).trans (logged _ _)).trans (State.steady_notice _ _ _ _ _)
  have alert (t : State) (v : Nat) : t.Steady (t.put PRT_MP.IBI_PEND v) :=
    t.steady_put_other _ _ (by decide) (by decide) (by decide)
  unfold State.episode
  refine .ite ?_ (.ite (s.steady_episodes _) (s.steady_episodes _))
  refine .trans (.trans (.trans (s.steady_episodes _) (told _ _ _)) (State.steady_jobs _ _)) (.ite (alert _ _) (.refl _))

theorem State.steady_episodesStep (s : State) : s.Steady s.episodesStep := by
  have rail (t : State) (r : Nat) : t.Steady (t.setRail r { t.rail r with perOver := none }) := t.steady_setRail _ _
  have yard (t : State) (y : Nat) (v : Yard) (sum : v.pSum = (t.yard y).pSum) (cnt : v.pCnt = (t.yard y).pCnt) :
      t.Steady (t.setYard y { v with perOver := none }) := t.steady_setYard _ _ sum cnt
  unfold State.episodesStep
  refine .trans (.trans (.trans (s.steady_episode _ _ _ _ _ _ _) (.foldl _ _ (fun c _ t => t.steady_episode _ _ _ _ _ _ _) _))
    (.foldl _ _ (fun r _ t => .trans (rail t r) (State.steady_episode _ _ _ _ _ _ _ _)) _)) (.foldl _ _ (fun y _ t => ?_) _)
  exact .trans (.trans (t.steady_episode _ _ _ _ _ _ _) (yard _ y _ rfl rfl)) (State.steady_episode _ _ _ _ _ _ _ _)

/-- What follows the device layer. -/
def State.afterDevice (s : State) : State :=
  ((List.range Config.yardCount).foldl State.orderYard s.modeLayer.endStation).episodesStep.refreshUnmet.refreshStation

theorem State.steady_afterDevice {s : State} (h : s.get CAP_MODE.MODE = s.get CAP_STATUS.MODE_NOW) : s.Steady s.afterDevice :=
  (((((State.steady_modeLayer h).trans (State.steady_endStation _)).trans
    (.foldl _ _ (fun _ hy t => (t.ordered_orderYard (List.mem_range.mp hy)).steady) _)).trans (State.steady_episodesStep _)).trans
    (State.steady_unmet _ _)).trans (State.steady_refreshStation _)

/-- What comes between the period's end and the device layer. -/
def State.beforeDevice (s : State) : State :=
  (List.range Config.contexts).foldl State.contextLayer
    ((List.range Config.yardCount).foldl State.thermalRung s.releaseSteps.endDeferrals)

theorem State.steady_beforeDevice {s : State} (h : s.cap.defer = none) : s.Steady s.beforeDevice := by
  have released := s.steady_releaseSteps
  refine .trans (.trans (released.trans (State.steady_endDeferrals ?_)) (.foldl _ _ (fun _ hy t => t.steady_thermalRung (List.mem_range.mp hy)) _))
    (.foldl _ _ (fun _ _ t => t.steady_contextLayer _) _)
  rw [released.defer, h]

/-! ### The end of a period (R245) -/

/-- Changed operating points take effect (R241). -/
def State.oppInForce (s : State) : State := { s with cap := { s.cap with oppOld := [] } }

theorem State.inWayOn_oppInForce (s : State) : s.oppInForce.inWayOn = s.inWayOn := rfl
theorem State.courseHeld_oppInForce (s : State) : s.oppInForce.courseHeld = s.courseHeld := rfl
theorem State.yardMw_oppInForce (s : State) : s.oppInForce.yardMw = s.yardMw := rfl
theorem State.yardHeat_oppInForce (s : State) : s.oppInForce.yardHeat = s.yardHeat := rfl

/-- Device power of the period that ends (R245). -/
def State.devicePower (s : State) : Nat := ((List.range Config.yardCount).map s.yardMw).sum + ((List.range Config.yardCount).map s.yardHeat).sum

theorem State.devicePower_oppInForce (s : State) : s.oppInForce.devicePower = s.devicePower := by
  unfold State.devicePower
  rw [s.yardMw_oppInForce, s.yardHeat_oppInForce]

/-- The contexts' powers, and the peaks of their jobs. -/
def State.ctxPowers (s : State) : State :=
  let pw := (List.range Config.yardCount).map s.yardMw
  (List.range Config.contexts).foldl (fun t c =>
    let own := (((List.range Config.yardCount).zip pw).filter fun (y, _) => t.ownerOf y == some c).map Prod.snd |>.sum
    t.setCtx c { t.ctx c with power := own + (t.ctx c).shared }) s

def State.jobPeaks (s : State) : State :=
  { s with jobs := s.jobs.map fun (j : JobState) => if j.isOpen then { j with peak := max j.peak (s.ctx j.ctx).power } else j }

def State.zeroSum (s : State) (y : Nat) : State := s.setYard y { s.yard y with pSum := 0, pCnt := 0 }

def State.pushPower (s : State) (p : Nat) : State := { s with cap := { s.cap with history := (p :: s.cap.history).take 100 } }

theorem State.rollPeriod_eq (s : State) :
    s.rollPeriod = ((((List.range Config.yardCount).foldl State.zeroSum s.ctxPowers.jobPeaks).pushPower s.devicePower).put CAP_POWER.P
      (min 65535 (s.devicePower / 1000))).sample10 CAP_POWER.P.key (s.devicePower : Int) := rfl

/-- A yard's sums stand at zero. -/
def State.SumsZero (s : State) (y : Nat) : Prop := (s.yard y).pSum = 0 ∧ (s.yard y).pCnt = 0

theorem State.sumsZero_foldl {y : Nat} (l : List Nat) (s : State) (h : y ∈ l ∨ s.SumsZero y) : (l.foldl State.zeroSum s).SumsZero y := by
  induction l generalizing s with
  | nil => exact h.resolve_left List.not_mem_nil
  | cons x l ih =>
    refine ih _ ?_
    by_cases e : y = x
    · exact .inr (by simp [State.SumsZero, State.zeroSum, e])
    · refine (h.imp (fun m => (List.mem_cons.mp m).resolve_left e) fun z => ?_)
      simpa [State.SumsZero, State.zeroSum, e] using z

/-- The parts of the state that a change of the yards alone leaves. -/
structure State.OffYards (s t : State) : Prop where
  regs : t.regs = s.regs
  cap : t.cap = s.cap
  flash : t.flash = s.flash
  store : t.store = s.store
  capram : t.capram = s.capram

theorem State.offYards_zeroSums (l : List Nat) (s : State) : s.OffYards (l.foldl State.zeroSum s) := by
  induction l generalizing s with
  | nil => exact ⟨rfl, rfl, rfl, rfl, rfl⟩
  | cons x l ih =>
    obtain ⟨regs, cap, flash, store, capram⟩ := ih (s.zeroSum x)
    exact ⟨regs, cap, flash, store, capram⟩

theorem State.steady_roll10 (s : State) : s.Steady s.roll10 :=
  .ite (.refl s) ⟨fun _ _ => rfl, fun _ _ => rfl, rfl, rfl, rfl, rfl, rfl, rfl, rfl, rfl, rfl, fun _ => ⟨rfl, rfl⟩⟩

theorem State.steady_sample10 (s : State) (a : Nat) (v : Int) : s.Steady (s.sample10 a v) :=
  s.steady_roll10.trans ⟨fun _ _ => rfl, fun _ _ => rfl, rfl, rfl, rfl, rfl, rfl, rfl, rfl, rfl, rfl, fun _ => ⟨rfl, rfl⟩⟩

theorem State.steady_ctxPowers (s : State) : s.Steady s.ctxPowers.jobPeaks := by
  have powers : s.Steady s.ctxPowers := .foldl _ _ (fun _ _ t => t.steady_setCtx _ _) s
  exact powers.trans (State.steady_jobs _ _)

/-- What the end of a period leaves: a new first power in the history, its register, and sums of zero. -/
structure State.Rolled (s t : State) (p : Nat) : Prop where
  pages : s.Within t boundaryPages
  caps : s.KeepsOn (fun a => OfCaps a ∧ a ≠ CAP_POWER.P.addr) t
  power : t.get CAP_POWER.P = min 65535 (p / 1000)
  rung : t.get CAP_STATUS.RUNG = s.get CAP_STATUS.RUNG
  mode : t.get CAP_STATUS.MODE_NOW = s.get CAP_STATUS.MODE_NOW
  history : t.cap.history = (p :: s.cap.history).take 100
  since : t.cap.since = s.cap.since
  defer : t.cap.defer = s.cap.defer
  oppOld : t.cap.oppOld = s.cap.oppOld
  mem : s.KeepsMem t
  sums : ∀ y < Config.yardCount, t.SumsZero y

theorem State.word_pushPower (s : State) (p a : Nat) : (s.pushPower p).word a = s.word a := rfl
theorem State.get_pushPower (s : State) (p : Nat) (f : Fld) : (s.pushPower p).get f = s.get f := rfl
theorem State.cap_pushPower (s : State) (p : Nat) : (s.pushPower p).cap = { s.cap with history := (p :: s.cap.history).take 100 } := rfl
theorem State.offYards_pushPower_mem (s : State) (p : Nat) : s.KeepsMem (s.pushPower p) := fun _ => ⟨rfl, rfl, rfl⟩
theorem State.sumsZero_pushPower {s : State} {y : Nat} (p : Nat) (h : s.SumsZero y) : (s.pushPower p).SumsZero y := h

theorem State.OffYards.word {s t : State} (h : s.OffYards t) (a : Nat) : t.word a = s.word a := by simp only [State.word, h.regs]

theorem State.OffYards.keepsMem {s t : State} (h : s.OffYards t) : s.KeepsMem t := fun a => by
  simp only [State.flashAt, State.storeAt, State.capAt, h.flash, h.store, h.capram, and_self]

/-- The power of the period enters the history and its register. -/
def State.showPower (s : State) (p : Nat) : State :=
  ((s.pushPower p).put CAP_POWER.P (min 65535 (p / 1000))).sample10 CAP_POWER.P.key (p : Int)

theorem State.rolled_showPower {s t u : State} (p : Nat) (h : s.Steady t) (k : t.OffYards u)
    (zero : ∀ y < Config.yardCount, u.SumsZero y) : s.Rolled (u.showPower p) p := by
  have shown := (u.pushPower p).reports_put CAP_POWER.P (min 65535 (p / 1000))
  have sampled := ((u.pushPower p).put CAP_POWER.P (min 65535 (p / 1000))).steady_sample10 CAP_POWER.P.key (p : Int)
  have word {a : Nat} (n : a ≠ CAP_POWER.P.addr) : ((u.pushPower p).put CAP_POWER.P (min 65535 (p / 1000))).word a = t.word a := by
    rw [State.word_put _ _ _ _ n, State.word_pushPower, k.word]
  have read {f : Fld} (n : f.addr ≠ CAP_POWER.P.addr) : ((u.pushPower p).put CAP_POWER.P (min 65535 (p / 1000))).get f = t.get f := by
    simp only [State.get, word n]
  have cap : ((u.pushPower p).put CAP_POWER.P (min 65535 (p / 1000))).cap = { t.cap with history := (p :: t.cap.history).take 100 } := by
    rw [shown.cap, State.cap_pushPower, k.cap]
  constructor
  case pages =>
    refine h.pages.trans (State.Within.trans (fun a n => word fun e => ?_) sampled.pages)
    rw [e] at n
    exact absurd n (by decide)
  case caps => exact fun a n => (sampled.caps a n.1).trans ((word n.2).trans (h.caps a n.1))
  case power =>
    rw [State.showPower, sampled.caps.get _ (by decide), State.get_put_same _ _ _ (by decide)]
    exact Nat.mod_eq_of_lt (by simp only [CAP_POWER.P]; omega)
  case rung => exact sampled.rung.trans ((read (by decide)).trans h.rung)
  case mode => exact sampled.mode.trans ((read (by decide)).trans h.mode)
  case history => rw [State.showPower, sampled.history, cap, h.history]
  case since => rw [State.showPower, sampled.since, cap, h.since]
  case defer => rw [State.showPower, sampled.defer, cap, h.defer]
  case oppOld => rw [State.showPower, sampled.oppOld, cap, h.oppOld]
  case mem =>
    exact (((h.keepsMem.trans k.keepsMem).trans (u.offYards_pushPower_mem p)).trans shown.keepsMem).trans sampled.keepsMem
  case sums =>
    intro y hy
    have yards : ((u.pushPower p).put CAP_POWER.P (min 65535 (p / 1000))).yard y = (u.pushPower p).yard y := by
      simp only [State.yard, shown.yards]
    obtain ⟨sum, cnt⟩ := u.sumsZero_pushPower p (zero y hy)
    exact ⟨(sampled.sums y).1.trans (by rw [yards, sum]), (sampled.sums y).2.trans (by rw [yards, cnt])⟩

theorem State.rolled_rollPeriod (s : State) : s.Rolled s.rollPeriod s.devicePower := by
  rw [State.rollPeriod_eq]
  exact State.rolled_showPower _ s.steady_ctxPowers (State.offYards_zeroSums _ _)
    (fun y hy => State.sumsZero_foldl _ _ (.inl (List.mem_range.mpr hy)))

/-! ### The device layer (R247) -/

theorem State.validBelow_le (s : State) (n : Nat) : s.validBelow n ≤ n := by
  induction n with
  | zero => exact Nat.le_refl 0
  | succ n ih =>
    unfold State.validBelow
    split
    · exact Nat.le_refl _
    · exact ih.trans (Nat.le_succ n)

theorem ceilField_lies (m : Nat) : (ceilField m).addr = 0xA408 ∧ (ceilField m).w = 4 := by
  unfold ceilField
  split
  · exact ⟨rfl, rfl⟩
  · split
    · exact ⟨rfl, rfl⟩
    · split <;> exact ⟨rfl, rfl⟩

theorem State.get_ceilField_lt (s : State) (m : Nat) : s.get (ceilField m) < 16 := by
  have bound := Word.field_lt (s.word (ceilField m).addr) (ceilField m).lo (ceilField m).w
  exact bound.trans_eq (by rw [(ceilField_lies m).2]; rfl)

theorem State.lowestRung_lt (s : State) : s.lowestRung < 2 ^ 5 := by
  have ceiling : s.ceiling ≤ s.get (ceilField (s.get CAP_STATUS.MODE_NOW)) := s.validBelow_le _
  have bound := s.get_ceilField_lt (s.get CAP_STATUS.MODE_NOW)
  unfold State.lowestRung
  omega

/-- The lowest rung follows the mode, the ceilings and the operating points in force alone. -/
theorem State.lowestRung_congr {s t : State} (hs : s.cap.oppOld = []) (ht : t.cap.oppOld = [])
    (mode : t.get CAP_STATUS.MODE_NOW = s.get CAP_STATUS.MODE_NOW) (caps : s.KeepsOn (fun a => 0xA400 ≤ a ∧ a < 0xA500) t) :
    t.lowestRung = s.lowestRung := by
  have opp {u : State} (h : u.cap.oppOld = []) : u.opp = u := by rw [State.opp, h]; rfl
  have below (n : Nat) (h : n < 16) : t.validBelow n = s.validBelow n := by
    induction n with
    | zero => rfl
    | succ n ih =>
      have valid : t.get (CAP_OPP.VALID (n + 1)) = s.get (CAP_OPP.VALID (n + 1)) :=
        caps.get _ (by simp only [CAP_OPP.VALID]; omega)
      simp only [State.validBelow, opp hs, opp ht, State.on, valid, ih (by omega)]
  have ceiling (m : Nat) : t.get (ceilField m) = s.get (ceilField m) := caps.get _ (by rw [(ceilField_lies m).1]; decide)
  simp only [State.lowestRung, State.ceiling, State.ceilingOf, mode, ceiling, below _ (s.get_ceilField_lt _)]

theorem State.credit10_congr {s t : State} (hs : s.cap.defer = none) (ht : t.cap.defer = none)
    (history : t.cap.history = s.cap.history) (cap : t.get CAP_DEV_NOW.IN_FORCE = s.get CAP_DEV_NOW.IN_FORCE) : t.credit10 = s.credit10 := by
  simp only [State.credit10, hs, ht, history, cap]

theorem capRung_le (rung since p cap excMax step2 hyst wait top : Nat) (ok : Bool) :
    (capRung rung since p cap excMax step2 hyst wait top ok).1 ≤ top := by
  unfold capRung
  dsimp only
  split
  · exact Nat.min_le_left _ _
  · split
    · split <;> exact Nat.min_le_left _ _
    · split <;> exact Nat.min_le_left _ _

/-- An excursion is allowed now: not dead slow, with credit left, and not for too long (R247). -/
def State.excursionOk (s : State) : Bool :=
  s.get CAP_STATUS.MODE_NOW ≠ 3 && decide (0 < s.credit10)
    && decide ((s.cap.history.filter fun p => decide (1000 * s.get CAP_DEV_NOW.IN_FORCE < p)).length < s.get CAP_EXC.EXC_TIME)

/-- The device rung and the periods since it tightened, of the power that leads the history (R247). -/
def State.deviceRung (s : State) : Nat × Nat :=
  capRung (s.get CAP_STATUS.RUNG) s.cap.since (s.cap.history.headD 0) (1000 * s.get CAP_DEV_NOW.IN_FORCE) (1000 * s.get CAP_EXC.EXC_MAX)
    (s.get CAP_TUNE.STEP2) (s.get CAP_TUNE.HYST) (s.get CAP_TUNE.RELEASE_WAIT) s.lowestRung s.excursionOk

/-- The periods since the device rung tightened. -/
def State.setSince (s : State) (n : Nat) : State := { s with cap := { s.cap with since := n } }

theorem State.deviceLayer_eq (s : State) :
    s.deviceLayer = (((s.setSince s.deviceRung.2).put CAP_STATUS.RUNG s.deviceRung.1).putI CAP_CREDIT.CREDIT (s.credit10 / 10000)).put
      CAP_STATUS.EXCURSION
      (decide (1000 * s.get CAP_DEV_NOW.IN_FORCE < s.cap.history.headD 0) && decide (s.cap.history.headD 0 ≤ 1000 * s.get CAP_EXC.EXC_MAX)
        && s.excursionOk).toNat := rfl

theorem State.cap_setSince (s : State) (n : Nat) : (s.setSince n).cap = { s.cap with since := n } := rfl
theorem State.get_setSince (s : State) (n : Nat) (f : Fld) : (s.setSince n).get f = s.get f := rfl
theorem State.within_setSince (s : State) (n : Nat) (l : List Nat) : s.Within (s.setSince n) l := fun _ _ => rfl
theorem State.keepsOn_setSince {P : Nat → Prop} (s : State) (n : Nat) : State.KeepsOn P s (s.setSince n) := fun _ _ => rfl
theorem State.keepsMem_setSince (s : State) (n : Nat) : s.KeepsMem (s.setSince n) := fun _ => ⟨rfl, rfl, rfl⟩
theorem State.yard_setSince (s : State) (n y : Nat) : (s.setSince n).yard y = s.yard y := rfl

/-- What the device layer leaves. -/
structure State.Ranked (s t : State) : Prop where
  pages : s.Within t boundaryPages
  caps : s.KeepsOn OfCaps t
  rung : t.get CAP_STATUS.RUNG = s.deviceRung.1
  mode : t.get CAP_STATUS.MODE_NOW = s.get CAP_STATUS.MODE_NOW
  since : t.cap.since = s.deviceRung.2
  history : t.cap.history = s.cap.history
  defer : t.cap.defer = s.cap.defer
  oppOld : t.cap.oppOld = s.cap.oppOld
  mem : s.KeepsMem t
  yards : ∀ y, t.yard y = s.yard y

theorem State.ranked_deviceLayer (s : State) : s.Ranked s.deviceLayer := by
  have small : s.deviceRung.1 < 2 ^ 5 := (capRung_le _ _ _ _ _ _ _ _ _ _).trans_lt s.lowestRung_lt
  have reports : (s.setSince s.deviceRung.2).Reports s.deviceLayer := by
    rw [State.deviceLayer_eq]
    exact ((State.reports_put _ _ _).trans (State.reports_put _ _ _)).trans (State.reports_put _ _ _)
  constructor
  case pages =>
    rw [State.deviceLayer_eq]
    exact (((s.within_setSince _ _).put _ _ (by decide)).put _ _ (by decide)).put _ _ (by decide)
  case caps =>
    rw [State.deviceLayer_eq]
    exact (((s.keepsOn_setSince _).put _ _ (by decide)).put _ _ (by decide)).put _ _ (by decide)
  case rung =>
    rw [State.deviceLayer_eq, State.get_put_apart _ _ _ _ (by decide) (by simp [Fld.apart, CAP_STATUS.EXCURSION, CAP_STATUS.RUNG]),
      State.putI, State.get_put_addr _ _ _ _ (by decide), State.get_put_same _ _ _ (by decide)]
    exact Nat.mod_eq_of_lt small
  case mode =>
    rw [State.deviceLayer_eq, State.get_put_apart _ _ _ _ (by decide) (by simp [Fld.apart, CAP_STATUS.EXCURSION, CAP_STATUS.MODE_NOW]),
      State.putI, State.get_put_addr _ _ _ _ (by decide),
      State.get_put_apart _ _ _ _ (by decide) (by simp [Fld.apart, CAP_STATUS.RUNG, CAP_STATUS.MODE_NOW]), State.get_setSince]
  case since => rw [reports.cap, State.cap_setSince]
  case history => rw [reports.cap, State.cap_setSince]
  case defer => rw [reports.cap, State.cap_setSince]
  case oppOld => rw [reports.cap, State.cap_setSince]
  case mem => exact (s.keepsMem_setSince _).trans reports.keepsMem
  case yards => exact fun y => by rw [← s.yard_setSince s.deviceRung.2 y]; simp only [State.yard, reports.yards]

end Sys2Proof.Machine
end

section
/-!
SUPPORT. The boundaries of the cap loop and the current layers, and the statement (R244, R245, R247).
Obligation CapLoopAndCurrentLayersAct.
-/

namespace Sys2Proof.Machine

/-! ### Bookkeeping: the end of a period but for the power shown -/

/-- Bookkeeping changes no register, no memory, nothing sent and nothing queued, and resets nothing. -/
structure State.Books (s t : State) : Prop where
  regs : t.regs = s.regs
  cpReset : t.cpReset = s.cpReset
  sent : t.sent = s.sent
  soQueue : t.soQueue = s.soQueue
  flash : t.flash = s.flash
  store : t.store = s.store
  capram : t.capram = s.capram

theorem State.Books.refl (s : State) : s.Books s := ⟨rfl, rfl, rfl, rfl, rfl, rfl, rfl⟩

theorem State.Books.trans {s t u : State} (h : s.Books t) (k : t.Books u) : s.Books u :=
  ⟨k.regs.trans h.regs, k.cpReset.trans h.cpReset, k.sent.trans h.sent, k.soQueue.trans h.soQueue, k.flash.trans h.flash,
    k.store.trans h.store, k.capram.trans h.capram⟩

theorem State.Books.foldl {α : Type} (f : State → α → State) (h : ∀ (t : State) x, t.Books (f t x)) (xs : List α) (s : State) :
    s.Books (xs.foldl f s) := by
  induction xs generalizing s with
  | nil => exact .refl s
  | cons x xs ih => exact (h s x).trans (ih _)

theorem State.Books.keepsMem {s t : State} (h : s.Books t) : s.KeepsMem t := fun a => by
  simp only [State.flashAt, State.storeAt, State.capAt, h.flash, h.store, h.capram, and_self]

theorem State.Books.word {s t : State} (h : s.Books t) (a : Nat) : t.word a = s.word a := by simp only [State.word, h.regs]

theorem State.books_setYard (s : State) (y : Nat) (v : Yard) : s.Books (s.setYard y v) := ⟨rfl, rfl, rfl, rfl, rfl, rfl, rfl⟩
theorem State.books_setRail (s : State) (r : Nat) (v : Rail) : s.Books (s.setRail r v) := ⟨rfl, rfl, rfl, rfl, rfl, rfl, rfl⟩
theorem State.books_setCtx (s : State) (c : Nat) (v : Ctx) : s.Books (s.setCtx c v) := ⟨rfl, rfl, rfl, rfl, rfl, rfl, rfl⟩
theorem State.books_jobPeaks (s : State) : s.Books s.jobPeaks := ⟨rfl, rfl, rfl, rfl, rfl, rfl, rfl⟩
theorem State.books_pushPower (s : State) (p : Nat) : s.Books (s.pushPower p) := ⟨rfl, rfl, rfl, rfl, rfl, rfl, rfl⟩
theorem State.books_oppInForce (s : State) : s.Books s.oppInForce := ⟨rfl, rfl, rfl, rfl, rfl, rfl, rfl⟩

theorem State.books_ctxPowers (s : State) : s.Books s.ctxPowers := .foldl _ (fun t _ => t.books_setCtx _ _) _ s

theorem State.books_clearOver (s : State) : s.Books s.clearOver := by
  rw [State.clearOver_eq]
  exact .trans (.foldl _ (fun t _ => t.books_setYard _ _) _ s) (.foldl _ (fun t _ => t.books_setRail _ _) _ _)

theorem State.books_roll10 (s : State) : s.Books s.roll10 := by
  unfold State.roll10
  dsimp only
  split
  · exact .refl s
  · exact ⟨rfl, rfl, rfl, rfl, rfl, rfl, rfl⟩

theorem State.books_sample10 (s : State) (a : Nat) (v : Int) : s.Books (s.sample10 a v) :=
  s.books_roll10.trans ⟨rfl, rfl, rfl, rfl, rfl, rfl, rfl⟩

/-- The end of a period shows one register; the rest is bookkeeping. -/
theorem State.books_rollPeriod (s : State) :
    ∃ u v, s.Books u ∧ v = u.put CAP_POWER.P (min 65535 (s.devicePower / 1000)) ∧ v.Books s.rollPeriod := by
  rw [State.rollPeriod_eq]
  exact ⟨_, _, ((s.books_ctxPowers.trans (State.books_jobPeaks _)).trans (.foldl _ (fun t _ => t.books_setYard _ _) _ _)).trans
    (State.books_pushPower _ _), rfl, State.books_sample10 _ _ _⟩

/-- What the end of a period leaves outside the power shown. -/
structure State.OffPower (s t : State) : Prop where
  words : s.KeepsOn (· ≠ CAP_POWER.P.addr) t
  cpReset : t.cpReset = s.cpReset
  sent : t.sent = s.sent
  soQueue : t.soQueue = s.soQueue
  mem : s.KeepsMem t

theorem State.offPower_rollPeriod (s : State) : s.OffPower s.rollPeriod := by
  obtain ⟨u, v, before, shown, after⟩ := s.books_rollPeriod
  have reports : u.Reports v := shown ▸ u.reports_put _ _
  have sent : v.sent = u.sent := by rw [shown, State.put_sent]
  exact {
    words := fun a n => by rw [after.word, shown, State.word_put _ _ _ _ n, before.word]
    cpReset := after.cpReset.trans (reports.cpReset.trans before.cpReset)
    sent := after.sent.trans (sent.trans before.sent)
    soQueue := after.soQueue.trans (reports.soQueue.trans before.soQueue)
    mem := (before.keepsMem.trans reports.keepsMem).trans after.keepsMem }

theorem State.courseHeld_rollPeriod (s : State) : s.rollPeriod.courseHeld = s.courseHeld := by
  have off := s.offPower_rollPeriod
  have hold : s.rollPeriod.get FLT_STATUS.HOLD = s.get FLT_STATUS.HOLD := off.words.get _ (by decide)
  simp only [State.courseHeld, State.holding, State.on, hold, off.cpReset]

/-! ### A boundary in way-on service (R245, R247) -/

theorem capBoundaryEff_wayOn {s : State} (h : s.inWayOn = true) (k : s.courseHeld = false) :
    capBoundaryEff false s = s.oppInForce.rollPeriod.beforeDevice.deviceLayer.afterDevice := by
  have wayOn : ¬ (!s.oppInForce.inWayOn) = true := by rw [s.inWayOn_oppInForce, h]; decide
  have held : ¬ s.oppInForce.rollPeriod.courseHeld = true := by
    rw [State.courseHeld_rollPeriod, s.courseHeld_oppInForce, k]
    decide
  exact (if_neg wayOn).trans ((if_neg (by decide)).trans (if_neg held))

theorem capBoundaryEff_overrun {s : State} (h : s.inWayOn = true) :
    capBoundaryEff true s = (s.oppInForce.rollPeriod.clearOver.bump CAP_CNT_LOOPMISS.COUNT).evt pgCAP 6 := by
  have wayOn : ¬ (!s.oppInForce.inWayOn) = true := by rw [s.inWayOn_oppInForce, h]; decide
  exact (if_neg wayOn).trans (if_pos rfl)

theorem State.answered_cap (s u : State) : (s.answered u).cap = u.cap := u.reports_wired.cap
theorem State.answered_soQueue (s u : State) : (s.answered u).soQueue = u.soQueue := u.reports_wired.soQueue
theorem State.answered_sent (s u : State) : (s.answered u).sent = u.sent := by
  have assert (t : State) : t.refreshAssert.sent = t.sent := State.put_sent _ _ _
  have pair (t : State) : t.refreshPair.sent = t.sent := by
    unfold State.refreshPair
    dsimp only
    split
    · rfl
    · rw [State.put_sent, State.put_sent]
  exact (pair _).trans (assert u)

/-- A quantity of page CAP reads through the answer. -/
theorem State.get_cap_answered (s u : State) {f : Fld} (h : f.addr / 0x1000 = 0xA) : (s.answered u).get f = u.get f :=
  State.get_answered _ _ _ (fun e => by rw [e] at h; exact absurd h (by decide)) (fun e => by rw [e] at h; exact absurd h (by decide))

theorem State.frame_overrun {s : State} (h : s.inWayOn = true) :
    ∃ t, exec (.capLoopBoundary true) s = .next t ∧ t.get CAP_CNT_LOOPMISS.COUNT = min (s.get CAP_CNT_LOOPMISS.COUNT + 1) 0xFFFFFFFF
      ∧ t.get CAP_STATUS.RUNG = s.get CAP_STATUS.RUNG ∧ t.sent = s.sent ∧ t.soQueue = s.soQueue
      ∧ s.KeepsRegs t [CAP_CNT_LOOPMISS.COUNT.addr, CAP_POWER.P.addr, pgCAP + 0x14] ∧ s.KeepsMem t := by
  have off := s.oppInForce.offPower_rollPeriod
  have clear := s.oppInForce.rollPeriod.books_clearOver
  have reports := (s.oppInForce.rollPeriod.clearOver.reports_bump CAP_CNT_LOOPMISS.COUNT).trans (State.reports_evt _ pgCAP 6)
  have words : s.KeepsOn (· ≠ CAP_POWER.P.addr) s.oppInForce.rollPeriod.clearOver := fun a n =>
    (clear.word a).trans ((off.words a n).trans (s.books_oppInForce.word a))
  have counted : s.KeepsOn (· ∉ [CAP_CNT_LOOPMISS.COUNT.addr, CAP_POWER.P.addr, pgCAP + 0x14])
      ((s.oppInForce.rollPeriod.clearOver.bump CAP_CNT_LOOPMISS.COUNT).evt pgCAP 6) :=
    (State.KeepsOn.bump (fun a n => words a (fun e => n (by simp [e]))) _ (by simp)).evt _ _ (by simp)
  refine ⟨_, exec_capLoopBoundary true s, ?_⟩
  rw [capBoundaryEff_overrun h]
  refine ⟨?_, ?_, ?_, ?_, State.keepsRegs_answered counted, State.keepsMem_answered ?_⟩
  · rw [State.get_cap_answered _ _ (by decide), State.get_evt _ _ _ _ (by decide), State.get_bump_same _ _ (by decide),
      words.get _ (by decide)]
    rfl
  · rw [State.get_cap_answered _ _ (by decide), State.get_evt _ _ _ _ (by decide), State.get_bump _ _ _ (by decide),
      words.get _ (by decide)]
  · rw [State.answered_sent, State.evt_sent, State.bump_sent, clear.sent, off.sent, s.books_oppInForce.sent]
  · rw [State.answered_soQueue, reports.soQueue, clear.soQueue, off.soQueue, s.books_oppInForce.soQueue]
  · exact ((s.books_oppInForce.keepsMem.trans off.mem).trans clear.keepsMem).trans reports.keepsMem

/-- The rung of a boundary, of what the power it rolls in meets: the cap, the tuning and the lowest rung as they stand (R247). -/
theorem State.deviceRung_of {s d : State} {p : Nat} {ok : Bool} (caps : s.KeepsOn (fun a => OfCaps a ∧ a ≠ CAP_POWER.P.addr) d)
    (rung : d.get CAP_STATUS.RUNG = s.get CAP_STATUS.RUNG) (mode : d.get CAP_STATUS.MODE_NOW = s.get CAP_STATUS.MODE_NOW)
    (history : d.cap.history = (p :: s.cap.history).take 100) (since : d.cap.since = s.cap.since) (hs : s.cap.oppOld = [])
    (hd : d.cap.oppOld = []) (excursion : d.excursionOk = ok) :
    d.deviceRung = capRung (s.get CAP_STATUS.RUNG) s.cap.since p (1000 * s.get CAP_DEV_NOW.IN_FORCE) (1000 * s.get CAP_EXC.EXC_MAX)
      (s.get CAP_TUNE.STEP2) (s.get CAP_TUNE.HYST) (s.get CAP_TUNE.RELEASE_WAIT) s.lowestRung ok := by
  have lowest : d.lowestRung = s.lowestRung := State.lowestRung_congr hs hd mode fun a n => caps a ⟨.inr n, by simp only [CAP_POWER.P]; omega⟩
  have read {f : Fld} (h : OfCaps f.addr ∧ f.addr ≠ CAP_POWER.P.addr) : d.get f = s.get f := caps.get f h
  have first : d.cap.history.headD 0 = p := by rw [history]; rfl
  rw [State.deviceRung, rung, since, first, lowest, excursion, read (f := CAP_DEV_NOW.IN_FORCE) (by decide), read (f := CAP_EXC.EXC_MAX) (by decide),
    read (f := CAP_TUNE.STEP2) (by decide), read (f := CAP_TUNE.HYST) (by decide), read (f := CAP_TUNE.RELEASE_WAIT) (by decide)]

/-- What the four parts of a boundary come to: the period, the layers above the device's, the device layer, and what follows it. -/
theorem State.frame_parts {s r b d t : State} {p : Nat} (rolled : s.oppInForce.Rolled r p) (before : r.Steady b) (ranked : b.Ranked d)
    (after : d.Steady t) (defer : s.cap.defer = none) :
    t.cap.oppOld = [] ∧ t.cap.history = (p :: s.cap.history).take 100 ∧ t.get CAP_POWER.P = min 65535 (p / 1000)
      ∧ t.get CAP_DEV_NOW.IN_FORCE = s.get CAP_DEV_NOW.IN_FORCE
      ∧ ((t.get CAP_STATUS.RUNG, t.cap.since) = capRung (s.get CAP_STATUS.RUNG) s.cap.since p
          (1000 * s.get CAP_DEV_NOW.IN_FORCE) (1000 * s.get CAP_EXC.EXC_MAX) (s.get CAP_TUNE.STEP2) (s.get CAP_TUNE.HYST)
          (s.get CAP_TUNE.RELEASE_WAIT) s.oppInForce.lowestRung
          (s.get CAP_STATUS.MODE_NOW ≠ 3 && decide (0 < t.credit10) && decide ((t.cap.history.filter fun x =>
            decide (1000 * s.get CAP_DEV_NOW.IN_FORCE < x)).length < s.get CAP_EXC.EXC_TIME)))
      ∧ (∀ y < Config.yardCount, t.SumsZero y) ∧ s.Within t boundaryPages ∧ s.KeepsMem t := by
  have caps : s.KeepsOn (fun a => OfCaps a ∧ a ≠ CAP_POWER.P.addr) b := fun a n => (before.caps a n.1).trans (rolled.caps a n)
  have mode : b.get CAP_STATUS.MODE_NOW = s.get CAP_STATUS.MODE_NOW := before.mode.trans rolled.mode
  have history : b.cap.history = (p :: s.cap.history).take 100 := before.history.trans rolled.history
  have kept : t.cap.history = b.cap.history := after.history.trans ranked.history
  have inForce : b.get CAP_DEV_NOW.IN_FORCE = s.get CAP_DEV_NOW.IN_FORCE := caps.get _ (by decide)
  have inForce' : t.get CAP_DEV_NOW.IN_FORCE = b.get CAP_DEV_NOW.IN_FORCE := (after.caps.get _ (by decide)).trans (ranked.caps.get _ (by decide))
  have time : b.get CAP_EXC.EXC_TIME = s.get CAP_EXC.EXC_TIME := caps.get _ (by decide)
  have deferB : b.cap.defer = none := before.defer.trans (rolled.defer.trans defer)
  have credit : t.credit10 = b.credit10 := State.credit10_congr deferB (after.defer.trans (ranked.defer.trans deferB)) kept inForce'
  have rank := State.deviceRung_of (s := s.oppInForce) (d := b) caps (before.rung.trans rolled.rung) mode history
    (before.since.trans rolled.since) rfl (before.oppOld.trans rolled.oppOld) rfl
  refine ⟨?_, kept.trans history, ?_, inForce'.trans inForce, ?_, fun y hy => ?_, ?_, ?_⟩
  · exact after.oppOld.trans (ranked.oppOld.trans (before.oppOld.trans rolled.oppOld))
  · exact (after.caps.get _ (by decide)).trans ((ranked.caps.get _ (by decide)).trans ((before.caps.get _ (by decide)).trans rolled.power))
  · rw [after.rung, after.since, ranked.rung, ranked.since, rank, State.excursionOk, mode, inForce, time, credit, kept]
    rfl
  · obtain ⟨sum, cnt⟩ := rolled.sums y hy
    obtain ⟨sumB, cntB⟩ := before.sums y
    obtain ⟨sumT, cntT⟩ := after.sums y
    rw [ranked.yards] at sumT cntT
    exact ⟨sumT.trans (sumB.trans sum), cntT.trans (cntB.trans cnt)⟩
  · exact State.Within.trans (fun a n => s.books_oppInForce.word a) (((rolled.pages.trans before.pages).trans ranked.pages).trans after.pages)
  · exact (((s.books_oppInForce.keepsMem.trans rolled.mem).trans before.keepsMem).trans ranked.mem).trans after.keepsMem

/-- The mode asked for is the one in force still where the device layer has acted. -/
theorem State.mode_parts {s r b d : State} {p : Nat} (rolled : s.oppInForce.Rolled r p) (before : r.Steady b) (ranked : b.Ranked d)
    (mode : s.get CAP_MODE.MODE = s.get CAP_STATUS.MODE_NOW) : d.get CAP_MODE.MODE = d.get CAP_STATUS.MODE_NOW := by
  rw [ranked.mode, before.mode, rolled.mode, ranked.caps.get _ (by decide), before.caps.get _ (by decide), rolled.caps.get _ (by decide)]
  exact mode

theorem State.credit10_answered (s u : State) : (s.answered u).credit10 = u.credit10 := by
  simp only [State.credit10, State.answered_cap, State.get_cap_answered s u (f := CAP_DEV_NOW.IN_FORCE) (by decide)]

/-- What a boundary in way-on service changes, with no cap deferred and the mode in force the one asked for. -/
theorem State.frame_boundary {s : State} (wayOn : s.inWayOn = true) (course : s.courseHeld = false) (defer : s.cap.defer = none)
    (mode : s.get CAP_MODE.MODE = s.get CAP_STATUS.MODE_NOW) :
    ∃ t, exec (.capLoopBoundary false) s = .next t ∧ t.cap.oppOld = [] ∧ t.cap.history = (s.devicePower :: s.cap.history).take 100
      ∧ t.get CAP_POWER.P = min 65535 (s.devicePower / 1000) ∧ t.get CAP_DEV_NOW.IN_FORCE = s.get CAP_DEV_NOW.IN_FORCE
      ∧ ((t.get CAP_STATUS.RUNG, t.cap.since) = capRung (s.get CAP_STATUS.RUNG) s.cap.since s.devicePower
          (1000 * s.get CAP_DEV_NOW.IN_FORCE) (1000 * s.get CAP_EXC.EXC_MAX) (s.get CAP_TUNE.STEP2) (s.get CAP_TUNE.HYST)
          (s.get CAP_TUNE.RELEASE_WAIT) s.oppInForce.lowestRung
          (s.get CAP_STATUS.MODE_NOW ≠ 3 && decide (0 < t.credit10) && decide ((t.cap.history.filter fun x =>
            decide (1000 * s.get CAP_DEV_NOW.IN_FORCE < x)).length < s.get CAP_EXC.EXC_TIME)))
      ∧ (∀ y, t.SumsZero y ∨ Config.yardCount ≤ y) ∧ s.KeepsPages t boundaryPages [] ∧ s.KeepsMem t := by
  have rolled := s.oppInForce.rolled_rollPeriod
  rw [s.devicePower_oppInForce] at rolled
  have before := State.steady_beforeDevice (s := s.oppInForce.rollPeriod) (by rw [rolled.defer]; exact defer)
  have ranked := s.oppInForce.rollPeriod.beforeDevice.ranked_deviceLayer
  have after := State.steady_afterDevice (State.mode_parts rolled before ranked mode)
  obtain ⟨opp, history, power, inForce, rung, sums, pages, mem⟩ := State.frame_parts rolled before ranked after defer
  refine ⟨_, exec_capLoopBoundary false s, ?_⟩
  rw [capBoundaryEff_wayOn wayOn course]
  rw [State.answered_cap, State.credit10_answered, State.get_cap_answered _ _ (by decide), State.get_cap_answered _ _ (by decide),
    State.get_cap_answered _ _ (by decide)]
  refine ⟨opp, history, power, inForce, rung, fun y => ?_, State.keepsPages_answered_of (fun a n _ => pages a n) (by decide) (by decide),
    State.keepsMem_answered mem⟩
  rcases Nat.lt_or_ge y Config.yardCount with fits | beyond
  · left
    rw [State.SumsZero, State.answered_yard]
    exact sums y fits
  · exact .inr beyond

end Sys2Proof.Machine
end

section
/-!
SUPPORT. The current layers (R244), and the statement. Obligation CapLoopAndCurrentLayersAct.
-/

namespace Sys2Proof.Machine

/-! ### What a step of a layer leaves -/

/-- The registers that no step of a current layer writes: besides those of orders, the steps' counter and their event. -/
abbrev OffSteps (a : Nat) : Prop := OffOrders a ∧ a ≠ CAP_CNT_ILIM.COUNT.addr ∧ a ≠ pgCAP + 0x14

/-- What a step of a current layer leaves as it is. -/
structure State.Stepped (s t : State) : Prop where
  words : s.KeepsOn OffSteps t
  bays : t.bays = s.bays
  flash : t.flash = s.flash
  store : t.store = s.store
  capram : t.capram = s.capram

theorem State.Stepped.refl (s : State) : s.Stepped s := ⟨.refl s, rfl, rfl, rfl, rfl⟩

theorem State.Stepped.trans {s t u : State} (h : s.Stepped t) (k : t.Stepped u) : s.Stepped u :=
  ⟨h.words.trans k.words, k.bays.trans h.bays, k.flash.trans h.flash, k.store.trans h.store, k.capram.trans h.capram⟩

theorem State.Stepped.foldl {α : Type} (f : State → α → State) (xs : List α) (h : ∀ x ∈ xs, ∀ t, State.Stepped t (f t x)) (s : State) :
    s.Stepped (xs.foldl f s) := by
  induction xs generalizing s with
  | nil => exact .refl s
  | cons x xs ih => exact (h x List.mem_cons_self s).trans (ih (fun z m => h z (List.mem_cons_of_mem x m)) _)

theorem State.Stepped.keepsMem {s t : State} (h : s.Stepped t) : s.KeepsMem t := fun a => by
  simp only [State.flashAt, State.storeAt, State.capAt, h.flash, h.store, h.capram, and_self]

theorem State.Ordered.stepped {s t : State} (h : s.Ordered t) : s.Stepped t :=
  ⟨fun a n => h.words a n.1, h.bays, h.flash, h.store, h.capram⟩

theorem State.stepped_setYard (s : State) (y : Nat) (v : Yard) : s.Stepped (s.setYard y v) := ⟨fun _ _ => rfl, rfl, rfl, rfl, rfl⟩

theorem State.reports_countStep (s : State) : s.Reports s.countStep := (s.reports_bump _).trans (State.reports_evt _ _ _)

theorem State.stepped_countStep (s : State) : s.Stepped s.countStep :=
  ⟨((State.KeepsOn.refl s).bump _ (by decide)).evt _ _ (by decide), s.reports_countStep.bays, s.reports_countStep.flash,
    s.reports_countStep.store, s.reports_countStep.capram⟩

theorem State.Stepped.within {s t : State} (h : s.Stepped t) : s.Within t ([9, 0xA] ++ yardPages) := fun a n =>
  h.words a (by
    simp only [List.mem_append, List.mem_cons, List.not_mem_nil, or_false, yardPages, List.mem_map, List.mem_range, not_or,
      not_exists, not_and] at n
    obtain ⟨⟨dom, cap⟩, yard⟩ := n
    have := fun k : Fin 6 => yard k k.isLt
    simp only [OffSteps, OffOrders, CAP_CNT_ILIM.COUNT, pgCAP]
    refine ⟨⟨dom, fun in_ => this ⟨(a - 0x20000) / 0x1000, by omega⟩ ?_, by omega⟩, by omega, by omega⟩
    simp only
    omega)

/-- What bays say of a yard's limit, a step leaves as it is. -/
theorem State.Stepped.limit20 {s t : State} (h : s.Stepped t) {y : Nat} (hy : y < Config.yardCount) : t.limit20 y = s.limit20 y := by
  have bay (b : Nat) : t.bay b = s.bay b := by simp only [State.bay, h.bays]
  have shown (b : Nat) {f : Fld} (e : f.addr = 0x200004 + 0x40 * b) : t.get f = s.get f :=
    h.words.get f (by rw [e]; simp only [OffSteps, OffOrders, CAP_CNT_ILIM.COUNT, pgCAP]; omega)
  have own (b : Nat) : t.get (BAY_STATE.YARD b) = s.get (BAY_STATE.YARD b) := shown b rfl
  have state (b : Nat) : t.get (BAY_STATE.STATE b) = s.get (BAY_STATE.STATE b) := shown b rfl
  have ph0 (b : Nat) : t.get (BAY_STATE.PH0_STATE b) = s.get (BAY_STATE.PH0_STATE b) := shown b rfl
  have ph1 (b : Nat) : t.get (BAY_STATE.PH1_STATE b) = s.get (BAY_STATE.PH1_STATE b) := shown b rfl
  have derate : t.get (FAR_YSTAT.DERATE y) = s.get (FAR_YSTAT.DERATE y) := h.words.get _ (by
    have : y < 96 := hy
    simp only [OffSteps, OffOrders, CAP_CNT_ILIM.COUNT, pgCAP, FAR_YSTAT.DERATE]
    omega)
  have bays : t.baysOf y = s.baysOf y := by
    unfold State.baysOf
    simp only [own, State.settled, bay]
  have counts : t.counts = s.counts := by
    funext b
    simp only [State.counts, state, ph0, ph1]
  simp only [State.limit20, State.ilimit, bays, counts, derate, bay]

/-! ### A yard's layer (R244) -/

/-- What a yard's layer finds of the last 1 ms: the limit exceeded by the peak or by the average. -/
def Yard.exceeds (v : Yard) (limit peak : Nat) : Bool :=
  decide (((peak : Nat) : Int) * ((limit : Nat) : Int) < 100 * v.iyPeak)
    || decide (((limit : Nat) : Int) * (({ v with iyParts := (v.iyPart :: v.iyParts).take 100 } : Yard).avg.2 : Int)
        < ({ v with iyParts := (v.iyPart :: v.iyParts).take 100 } : Yard).avg.1)

/-- A yard's meter after its layer's evaluation: a new window, the verdict, and a step where it is exceeded. -/
def Yard.evaluated (v : Yard) (limit peak : Nat) : Int × Nat × (Int × Nat) × Int × List (Int × Nat) × Bool × Nat × Nat :=
  (v.pSum, v.pCnt, (0, 0), 0, (v.iyPart :: v.iyParts).take 100, v.exceeds limit peak,
    if v.exceeds limit peak = true ∧ v.curSteps < 7 then stepFrom v.curSteps v.thr else v.curSteps, v.thr)

theorem Yard.evaluated_congr {v w : Yard} (h : v.meter = w.meter) (limit peak : Nat) : v.evaluated limit peak = w.evaluated limit peak := by
  simp only [Yard.meter, Prod.mk.injEq] at h
  obtain ⟨h1, h2, h3, h4, h5, -, h7, h8⟩ := h
  have verdict : v.exceeds limit peak = w.exceeds limit peak := by
    unfold Yard.exceeds Yard.avg
    rw [h3, h4, h5]
  rw [Yard.evaluated, Yard.evaluated, verdict, h1, h2, h3, h5, h7, h8]

theorem State.yardLayer_cases (s : State) (y : Nat) :
    ∃ v : Yard, v.meter = ((s.yard y).pSum, (s.yard y).pCnt, (0, 0), 0, ((s.yard y).iyPart :: (s.yard y).iyParts).take 100,
        (s.yard y).exceeds (s.limit20 y) (s.get CAP_ILIM.PEAK), (s.yard y).curSteps, (s.yard y).thr)
      ∧ s.yardLayer y = if (s.yard y).exceeds (s.limit20 y) (s.get CAP_ILIM.PEAK) = true ∧ (s.yard y).curSteps < 7
        then (((s.setYard y v).setYard y { (s.setYard y v).yard y with curSteps := stepFrom (s.yard y).curSteps (s.yard y).thr }).countStep).orderNow y
        else s.setYard y v := by
  refine ⟨?v, ?meter, ?eq⟩
  case eq => rfl
  case meter => rfl

theorem State.stepped_yardLayer (s : State) {y : Nat} (hy : y < Config.yardCount) : s.Stepped (s.yardLayer y) := by
  obtain ⟨v, -, eq⟩ := s.yardLayer_cases y
  rw [eq]
  split
  · exact (((s.stepped_setYard _ _).trans (State.stepped_setYard _ _ _)).trans (State.stepped_countStep _)).trans
      (State.ordered_orderNow _ hy).stepped
  · exact s.stepped_setYard _ _

/-- A yard's layer leaves the meters of the other yards, and evaluates its own. -/
theorem State.meter_yardLayer (s : State) {y : Nat} (hy : y < Config.yardCount) (z : Nat) :
    ((s.yardLayer y).yard z).meter =
      if z = y then (s.yard y).evaluated (s.limit20 y) (s.get CAP_ILIM.PEAK) else (s.yard z).meter := by
  obtain ⟨v, meter, eq⟩ := s.yardLayer_cases y
  rw [eq]
  split
  next step =>
    have counted (t : State) : t.countStep.yard z = t.yard z := by simp only [State.yard, t.reports_countStep.yards]
    rw [(State.ordered_orderNow _ hy).meter, counted, State.yard_setYard]
    split
    · rw [State.yard_setYard, if_pos rfl, Yard.evaluated, if_pos step]
      simp only [Yard.meter, Prod.mk.injEq] at meter ⊢
      obtain ⟨sum, cnt, part, peak, parts, tight, -, thr⟩ := meter
      exact ⟨sum, cnt, part, peak, parts, tight, trivial, thr⟩
    next other => rw [State.yard_setYard, if_neg other]
  next stay =>
    rw [State.yard_setYard]
    split
    · rw [meter, Yard.evaluated, if_neg stay]
    · rfl

theorem State.stepped_yardLayers (l : List Nat) (hl : ∀ y ∈ l, y < Config.yardCount) (s : State) : s.Stepped (l.foldl State.yardLayer s) :=
  .foldl _ l (fun y hy t => t.stepped_yardLayer (hl y hy)) s

/-- Every yard of a list is evaluated once, as it stood before: the others' steps leave its meter and its limit. -/
theorem State.meter_yardLayers (l : List Nat) (hl : ∀ y ∈ l, y < Config.yardCount) (once : l.Nodup) (s : State) (z : Nat) :
    ((l.foldl State.yardLayer s).yard z).meter =
      if z ∈ l then (s.yard z).evaluated (s.limit20 z) (s.get CAP_ILIM.PEAK) else (s.yard z).meter := by
  induction l generalizing s with
  | nil => simp
  | cons y l ih =>
    have hy : y < Config.yardCount := hl y List.mem_cons_self
    have hl' : ∀ x ∈ l, x < Config.yardCount := fun x m => hl x (List.mem_cons_of_mem y m)
    obtain ⟨out, once'⟩ := List.nodup_cons.mp once
    rw [List.foldl_cons, ih hl' once']
    by_cases e : z = y
    · rw [if_neg (e ▸ out), State.meter_yardLayer s hy, if_pos e, if_pos (e ▸ List.mem_cons_self), e]
    · have meter := State.meter_yardLayer s hy z
      rw [if_neg e] at meter
      have stepped := s.stepped_yardLayer hy
      by_cases m : z ∈ l
      · rw [if_pos m, if_pos (List.mem_cons_of_mem y m), stepped.limit20 (hl' z m), stepped.words.get _ (by decide)]
        exact Yard.evaluated_congr meter _ _
      · rw [if_neg m, if_neg (by simp [e, m]), meter]

/-! ### A rail's layer (R244, R286, R300) -/

/-- A rail shows its current, and what its layer finds. -/
def State.showRail (s : State) (r : Nat) (v : Rail) : State :=
  ((s.put (railNow r) (min 65535 (max 0 (s.railIMon r) / 16).toNat)).sample10 (railNow r).key (max 0 (s.railIMon r))).setRail r v

/-- A yard of an exceeded rail makes a step. -/
def State.stepRail (s : State) (y : Nat) : State :=
  if (s.yard y).railSteps < 7 then
    ((s.setYard y { s.yard y with railSteps := stepFrom (s.yard y).railSteps (s.yard y).thr }).countStep).orderNow y
  else s

theorem State.railLayer_cases (s : State) (r : Nat) :
    ∃ (v : Rail) (b : Bool), s.railLayer r = if !b then s.showRail r v
      else ((List.range Config.yardCount).filter fun y => Config.yardRail y == r).foldl State.stepRail (s.showRail r v) := by
  refine ⟨?v, ?b, ?eq⟩
  case eq => rfl

theorem railNow_addr (r : Nat) : (railNow r).addr = CAP_RAIL_NOW.reg.addr := by unfold railNow; split <;> rfl

theorem State.steppedRail (s : State) {y : Nat} (hy : y < Config.yardCount) : s.Stepped (s.stepRail y) := by
  unfold State.stepRail
  split
  · exact ((s.stepped_setYard _ _).trans (State.stepped_countStep _)).trans (State.ordered_orderNow _ hy).stepped
  · exact .refl s

theorem State.meter_stepRail (s : State) {y : Nat} (hy : y < Config.yardCount) (z : Nat) : ((s.stepRail y).yard z).meter = (s.yard z).meter := by
  have counted (t : State) : t.countStep.yard z = t.yard z := by simp only [State.yard, t.reports_countStep.yards]
  unfold State.stepRail
  split
  · rw [(State.ordered_orderNow _ hy).meter, counted, State.yard_setYard]
    split
    next e => rw [e]; rfl
    · rfl
  · rfl

/-- What the layer of a rail leaves, and what it shows. -/
structure State.Railed (s t : State) (r : Nat) : Prop where
  words : s.KeepsOn (fun a => OffSteps a ∧ a ≠ CAP_RAIL_NOW.reg.addr) t
  shown : t.word CAP_RAIL_NOW.reg.addr = (s.put (railNow r) (min 65535 (max 0 (s.railIMon r) / 16).toNat)).word CAP_RAIL_NOW.reg.addr
  mem : s.KeepsMem t
  meter : ∀ z, (t.yard z).meter = (s.yard z).meter

theorem State.yards_sample10 (s : State) (a : Nat) (v : Int) : (s.sample10 a v).yards = s.yards := by
  have rolled : s.roll10.yards = s.yards := by
    unfold State.roll10
    dsimp only
    split <;> rfl
  exact Eq.trans rfl rolled

theorem State.railed_showRail (s : State) (r : Nat) (v : Rail) : s.Railed (s.showRail r v) r := by
  have books := ((s.put (railNow r) (min 65535 (max 0 (s.railIMon r) / 16).toNat)).books_sample10 (railNow r).key (max 0 (s.railIMon r))).trans
    (State.books_setRail _ r v)
  have put := s.reports_put (railNow r) (min 65535 (max 0 (s.railIMon r) / 16).toNat)
  exact {
    words := fun a n => (books.word a).trans (State.word_put _ _ _ _ (by rw [railNow_addr]; exact n.2))
    shown := books.word _
    mem := put.keepsMem.trans books.keepsMem
    meter := fun z => by
      have yards : (s.showRail r v).yards = s.yards :=
        (State.yards_sample10 (s.put (railNow r) (min 65535 (max 0 (s.railIMon r) / 16).toNat)) (railNow r).key (max 0 (s.railIMon r))).trans
          put.yards
      simp only [State.yard, yards] }

theorem State.meter_stepRails (l : List Nat) (hl : ∀ y ∈ l, y < Config.yardCount) (s : State) (z : Nat) :
    ((l.foldl State.stepRail s).yard z).meter = (s.yard z).meter := by
  induction l generalizing s with
  | nil => rfl
  | cons y l ih =>
    rw [List.foldl_cons, ih fun x m => hl x (List.mem_cons_of_mem y m)]
    exact s.meter_stepRail (hl y List.mem_cons_self) z

theorem State.Railed.step {s t u : State} {r : Nat} (h : s.Railed t r) (k : t.Stepped u) (m : ∀ z, (u.yard z).meter = (t.yard z).meter) :
    s.Railed u r where
  words := h.words.trans fun a n => k.words a n.1
  shown := (k.words _ (by decide)).trans h.shown
  mem := h.mem.trans k.keepsMem
  meter z := (m z).trans (h.meter z)

theorem State.railed_railLayer (s : State) (r : Nat) : s.Railed (s.railLayer r) r := by
  obtain ⟨v, b, eq⟩ := s.railLayer_cases r
  have shown := s.railed_showRail r v
  have fits : ∀ y ∈ (List.range Config.yardCount).filter fun y => Config.yardRail y == r, y < Config.yardCount := fun y m =>
    List.mem_range.mp (List.mem_filter.mp m).1
  rw [eq]
  split
  · exact shown
  · exact shown.step (.foldl _ _ (fun y m t => t.steppedRail (fits y m)) _) (State.meter_stepRails _ fits _)

/-- A rail's current does not move with the steps of the layers. -/
theorem State.railIMon_congr {s t : State} (h : s.KeepsOn (fun a => OffSteps a ∧ a ≠ CAP_RAIL_NOW.reg.addr) t) (r : Nat) :
    t.railIMon r = s.railIMon r := by
  have map : t.get STG_RAILMAP.PKGB = s.get STG_RAILMAP.PKGB := h.get _ (by decide)
  have present : t.get STG_PRESENT.PHASE = s.get STG_PRESENT.PHASE := h.get _ (by decide)
  have value (n c : Nat) (hn : n < 26) (hc : c < 15) : t.get (SXT_VAL.VALUE n c) = s.get (SXT_VAL.VALUE n c) := h.get _ (by
    simp only [SXT_VAL.VALUE, OffSteps, OffOrders, CAP_CNT_ILIM.COUNT, pgCAP, CAP_RAIL_NOW.reg]
    omega)
  have phases : t.railPhases r = s.railPhases r := by simp only [State.railPhases, State.phaseRail, State.present, map, present]
  have value' (p : Nat) : t.getI (SXT_VAL.VALUE (if p < 15 then 24 else 25) (p % 15)) = s.getI (SXT_VAL.VALUE (if p < 15 then 24 else 25) (p % 15)) := by
    have lies : (if p < 15 then 24 else 25) < 26 := by split <;> decide
    simp only [State.getI, value _ _ lies (Nat.mod_lt p (by decide))]
  simp only [State.railIMon, phases, value']

/-! ### An evaluation of the current layers -/

/-- The rails' currents that the register shows are those of the state before the evaluation. -/
theorem State.get_railNow {s u t : State} (h : s.Railed u 0) (k : u.Railed t 1) :
    t.get CAP_RAIL_NOW.PKGA = min 65535 (max 0 (s.railIMon 0) / 16).toNat ∧ t.get CAP_RAIL_NOW.PKGB = min 65535 (max 0 (s.railIMon 1) / 16).toNat := by
  have first : u.get CAP_RAIL_NOW.PKGA = min 65535 (max 0 (s.railIMon 0) / 16).toNat := by
    have word : u.get CAP_RAIL_NOW.PKGA = (s.put CAP_RAIL_NOW.PKGA (min 65535 (max 0 (s.railIMon 0) / 16).toNat)).get CAP_RAIL_NOW.PKGA :=
      congrArg (fun w => w.field CAP_RAIL_NOW.PKGA.lo CAP_RAIL_NOW.PKGA.w) h.shown
    rw [word, State.get_put_same _ _ _ (by decide)]
    exact Nat.mod_eq_of_lt (by simp only [CAP_RAIL_NOW.PKGA]; omega)
  have second {f : Fld} (e : f.addr = CAP_RAIL_NOW.reg.addr) :
      t.get f = (u.put CAP_RAIL_NOW.PKGB (min 65535 (max 0 (s.railIMon 1) / 16).toNat)).get f := by
    rw [← State.railIMon_congr h.words 1]
    simp only [State.get, e]
    exact congrArg (fun w => w.field f.lo f.w) k.shown
  constructor
  · rw [second (f := CAP_RAIL_NOW.PKGA) rfl, State.get_put_apart _ _ _ _ (by decide) (by simp [Fld.apart, CAP_RAIL_NOW.PKGA, CAP_RAIL_NOW.PKGB]), first]
  · rw [second (f := CAP_RAIL_NOW.PKGB) rfl, State.get_put_same _ _ _ (by decide)]
    exact Nat.mod_eq_of_lt (by simp only [CAP_RAIL_NOW.PKGB]; omega)

theorem currentLayerEff_eq (s : State) :
    currentLayerEff s = ((((List.range Config.yardCount).foldl State.yardLayer s).railLayer 0).railLayer 1).refreshStation := rfl

theorem State.get_stationOk_refreshStation (s : State) {f : Fld} (h : f.addr ≠ 0xA040) : s.refreshStation.get f = s.get f := by
  have shown (v : Nat) : (s.put CAP_STATUS.STATION_OK v).get f = s.get f := State.get_put_addr _ _ _ _ h
  unfold State.refreshStation
  dsimp only
  split
  · exact shown _
  · exact shown _

theorem State.yards_refreshStation (s : State) : s.refreshStation.yards = s.yards := by
  unfold State.refreshStation
  dsimp only
  split <;> rfl

theorem State.Railed.within {s t : State} {r : Nat} (h : s.Railed t r) : s.Within t ([9, 0xA] ++ yardPages) := fun a n =>
  h.words a (by
    simp only [List.mem_append, List.mem_cons, List.not_mem_nil, or_false, yardPages, List.mem_map, List.mem_range, not_or,
      not_exists, not_and] at n
    obtain ⟨⟨dom, cap⟩, yard⟩ := n
    have := fun k : Fin 6 => yard k k.isLt
    simp only [OffSteps, OffOrders, CAP_CNT_ILIM.COUNT, pgCAP, CAP_RAIL_NOW.reg]
    refine ⟨⟨⟨dom, fun in_ => this ⟨(a - 0x20000) / 0x1000, by omega⟩ ?_, by omega⟩, by omega, by omega⟩, by omega⟩
    simp only
    omega)

theorem State.frame_currentLayers (s : State) :
    ∃ t, exec .currentLayerEval s = .next t
      ∧ (∀ y < Config.yardCount, (t.yard y).meter = (s.yard y).evaluated (s.limit20 y) (s.get CAP_ILIM.PEAK))
      ∧ t.get CAP_RAIL_NOW.PKGA = min 65535 (max 0 (s.railIMon 0) / 16).toNat
      ∧ t.get CAP_RAIL_NOW.PKGB = min 65535 (max 0 (s.railIMon 1) / 16).toNat
      ∧ s.KeepsPages t (9 :: 0xA :: faultPages ++ (List.range 6).map fun k => 0x20 + k) [] ∧ s.KeepsMem t := by
  have every : ∀ y ∈ List.range Config.yardCount, y < Config.yardCount := fun _ => List.mem_range.mp
  have stepped := State.stepped_yardLayers _ every s
  have meter := State.meter_yardLayers _ every List.nodup_range s
  refine ⟨_, exec_currentLayerEval s, ?_⟩
  rw [currentLayerEff_eq]
  revert stepped meter
  generalize (List.range Config.yardCount).foldl State.yardLayer s = u
  intro stepped meter
  have zero := u.railed_railLayer 0
  have one := (u.railLayer 0).railed_railLayer 1
  have station := ((u.railLayer 0).railLayer 1).confined_refreshStation
  obtain ⟨pkga, pkgb⟩ := State.get_railNow zero one
  have imon (r : Nat) : u.railIMon r = s.railIMon r := State.railIMon_congr (fun a n => stepped.words a n.1) r
  refine ⟨fun y hy => ?_, ?_, ?_, State.keepsPages_answered_of (fun a n _ => ?_) (by decide) (by decide), State.keepsMem_answered ?_⟩
  · have yard : (((u.railLayer 0).railLayer 1).refreshStation).yard y = ((u.railLayer 0).railLayer 1).yard y := by
      simp only [State.yard, State.yards_refreshStation]
    rw [State.answered_yard, yard, one.meter, zero.meter, meter, if_pos (List.mem_range.mpr hy)]
  · rw [State.get_cap_answered _ _ (by decide), State.get_stationOk_refreshStation _ (by decide), pkga, imon]
  · rw [State.get_cap_answered _ _ (by decide), State.get_stationOk_refreshStation _ (by decide), pkgb, imon]
  · have all : s.Within ((u.railLayer 0).railLayer 1).refreshStation ([9, 0xA] ++ yardPages) :=
      ((stepped.within.trans zero.within).trans one.within).trans (station.mono (by decide)).words
    exact (all.mono (by decide)) a n
  · exact ((stepped.keepsMem.trans zero.mem).trans one.mem).trans station.keepsMem

/-! ### The obligation -/

/-- Settles O34: a boundary by its four parts, one that overran by what the period's end shows, an evaluation of the current layers by
what each yard's layer makes of its own meter. -/
theorem capLoopAndCurrentLayersAct : Obligations.CapLoopAndCurrentLayersAct := by
  unfold Obligations.CapLoopAndCurrentLayersAct
  refine ⟨?boundary, fun s h => State.frame_overrun h, ?layers⟩
  case boundary =>
    intro p s wayOn course defer mode power
    have same : s.devicePower = p := power.symm
    have frame := State.frame_boundary wayOn course defer mode
    rw [same] at frame
    exact frame
  case layers =>
    intro s
    obtain ⟨t, answer, meter, pkga, pkgb, pages, mem⟩ := s.frame_currentLayers
    refine ⟨t, answer, fun y hy => ?_, pkga, pkgb, pages, mem⟩
    have m := meter y hy
    simp only [Yard.meter, Yard.evaluated, Prod.mk.injEq] at m
    obtain ⟨-, -, part, peak, parts, tight, steps, -⟩ := m
    have avg : (t.yard y).avg = ({ s.yard y with iyParts := ((s.yard y).iyPart :: (s.yard y).iyParts).take 100 } : Yard).avg := by
      simp only [Yard.avg, parts]
    refine ⟨part, peak, parts, ?_, ?_⟩
    · rw [tight, avg]
      rfl
    · rw [steps, tight]

end Sys2Proof.Machine
end

section
/-!
SUPPORT. A load that stands in progress when way-on is reached (R142, R144, R363): the flash index asks for a load, finds the engine
busy, and the load in progress ends in whatever slot it names. Obligation StartUpReachesWayOn.
-/

namespace Sys2Proof.Machine

theorem exec_wayOnTransition (s : State) : exec .wayOnTransition s = .next (s.answered (wayOnEff s)) := rfl

/-! ### The state -/

/-- The bytes of a Tiller bundle of 512 bytes in frame 0 that are not 0, up to its digest: one layer of one input and four outputs, bound
to two device sets that differ in the identity's first bit. -/
def staleBundle : Tab Byte :=
  [(0x2000, 0x4F), (0x2001, 0x54), (0x2002, 0x44), (0x2003, 0x52), (0x2004, 0x01), (0x2007, 0x01), (0x2009, 0x02), (0x200C, 0x01),
    (0x200D, 0x01), (0x200E, 0x01), (0x2020, 0x01), (0x2034, 0x02), (0x2039, 0x01), (0x203C, 0x20), (0x203D, 0x01), (0x2040, 0x30),
    (0x2041, 0x01), (0x210C, 0x01), (0x211B, 0x80), (0x211C, 0x01), (0x2130, 0x01), (0x2131, 0x04), (0x2132, 0x08), (0x2134, 0x01),
    (0x2136, 0x01), (0x2138, 0x50), (0x2139, 0x01), (0x213C, 0x60), (0x213D, 0x01)]

/-- Its digest, which is both numbers of its signature too. -/
def staleDigest : List Byte :=
  [0x0D, 0x0C, 0x6E, 0xB8, 0xB7, 0xEE, 0xA9, 0x5F, 0xEB, 0x8F, 0xA3, 0x95, 0x1B, 0xA9, 0x45, 0x8F,
    0x08, 0x73, 0xD7, 0x7D, 0xAB, 0x78, 0x0C, 0x0C, 0xF9, 0xB9, 0xF7, 0x5A, 0xFA, 0xBA, 0x8D, 0xEF,
    0x6F, 0x5E, 0x07, 0xA5, 0x04, 0x1B, 0xEB, 0x83, 0x76, 0x4D, 0xFD, 0xD3, 0xCD, 0xC8, 0x96, 0x08]

/-- The words of the key under which that signature is right: the point which, added to the base point, has the digest as its first
coordinate. -/
def staleKey : List Word :=
  [0x1CE9BE76, 0x803A5349, 0x2AF42C5C, 0xABF28B6C, 0x7CF034BA, 0x95ED1616, 0x2EDDE6FF, 0x5CBE5239,
    0x6616980A, 0x69FB3CA0, 0x2DF042B5, 0xFB2458FA, 0xAB741A91, 0x40B044DC, 0xEB3C6004, 0x39ED0CB5,
    0xB7600967, 0xFCC9D46E, 0x3B4214E1, 0x47815423, 0x30F41AA5, 0x9E7F5405, 0xF544FD1C, 0x919FF589]

/-- A load of the bytes that frame 0 holds, into a slot numbered 0x2000. -/
def staleLoad : Load := ⟨0x2000, 0, 0, none⟩

/-- Dead-slow service with a verified image and the PLL in lock for 10 ms; LOAD_STATE shows a load in progress; the flash index flags an
entry for slot 0. -/
def stale : State :=
  { mono := 20000000, image := some 0, load := some staleLoad
    regs := [(0x40, 1), (0x1040, 1), (0x8044, 0x1000), (0x8780, 1), (0xE064, 1)] ++ staleKey.zipIdx.map fun p => (0x8600 + 4 * p.2, p.1)
    flash := [(0x310004, 1), (0x310005, 0), (0x310006, 0), (0x310007, 0)]
    store := staleBundle ++ (staleDigest ++ staleDigest ++ staleDigest).zipIdx.map fun p => (0x2170 + p.2, p.1) }

theorem mayWayOn_stale : stale.mayWayOn = true := by decide +kernel
theorem state_stale : stale.get GLB_SERVICE.STATE = 1 := by decide +kernel
theorem valid_stale : stale.get (DRE_SLOT_STAT.VALID 0x2000) = 0 := by decide +kernel
theorem rewake_dom_stale (d : Nat) : (stale.dom d).rewake = false := rfl

/-! ### The checks of the bundle (R142) -/

theorem bundleLen_stale : stale.bundleLen 0x2000 = 512 := by decide +kernel
theorem headerOk_stale : stale.headerOk 0x2000 = true := by decide +kernel
theorem formatOk_stale : stale.formatOk 0x2000 = true := by decide +kernel
theorem sha384_stale : sha384 (stale.storeBytes 0x2000 368) = staleDigest := by decide +kernel
theorem digests_stale : stale.storeBytes 0x2170 48 = staleDigest ∧ stale.storeBytes 0x21A0 48 = staleDigest
    ∧ stale.storeBytes 0x21D0 48 = staleDigest := by decide +kernel
theorem ecdsaOk_stale : ecdsaOk (stale.dreKey 0).1 (stale.dreKey 0).2 staleDigest (ofBe staleDigest) (ofBe staleDigest) = true := by
  decide +kernel
theorem keySlot_stale : stale.storeLe 0x200F 1 = 0 ∧ tb (stale.get DRE_KEYVALID.VALID) 0 = true ∧ tb (stale.get SEC_KEYMASK.KEY) 0 = true := by
  decide +kernel

/-- Of the two device sets one matches any identity. -/
theorem boundOk_stale : stale.boundOk 0x2000 = true := by
  have count : stale.storeLe 0x2034 2 = 2 ∧ stale.storeLe 0x2038 4 = 256 := by decide +kernel
  have sets : stale.storeLe 0x210C 1 = 1 ∧ stale.storeLe 0x2100 12 = 0 ∧ stale.storeLe 0x211C 1 = 1
      ∧ stale.storeLe 0x2110 12 = 2 ^ 95 := by decide +kernel
  obtain ⟨two, at_⟩ := count
  obtain ⟨n0, id0, n1, id1⟩ := sets
  have bits : Config.identity.toNat < 2 ^ 96 := Config.identity.isLt
  unfold State.boundOk
  simp [two, at_, n0, id0, n1, id1, List.range_succ]
  omega

/-! ### What the checks read -/

/-- The registers that a load reads: its own, the keys and the kernel's mask of them. -/
abbrev OfLoad (a : Nat) : Prop := a = 0x8044 ∨ a = 0x8780 ∨ a = 0xE064 ∨ (0x8600 ≤ a ∧ a < 0x8660)

/-- A state reads in its load as the stale one does. -/
structure State.Stale (s : State) : Prop where
  load : s.load = some staleLoad
  store : s.store = stale.store
  flash : s.flash = stale.flash
  words : stale.KeepsOn OfLoad s

theorem State.Stale.storeLe {s : State} (h : s.Stale) : s.storeLe = stale.storeLe := by
  funext a n
  simp only [State.storeLe, State.storeAt, h.store]

theorem State.Stale.storeBytes {s : State} (h : s.Stale) : s.storeBytes = stale.storeBytes := by
  funext a n
  simp only [State.storeBytes, State.storeAt, h.store]

theorem State.Stale.bundleLen {s : State} (h : s.Stale) : s.bundleLen = stale.bundleLen := by
  funext fb
  simp only [State.bundleLen, h.storeLe]

theorem State.Stale.dreKey {s : State} (h : s.Stale) : s.dreKey 0 = stale.dreKey 0 := by
  have words : (List.range 24).flatMap (fun i => le 4 (s.word ((DRE_KEY.KEY 0).addr + 0x60 * 0 + 4 * i)).toNat)
      = (List.range 24).flatMap fun i => le 4 (stale.word ((DRE_KEY.KEY 0).addr + 0x60 * 0 + 4 * i)).toNat := by
    refine List.flatMap_congr fun i hi => ?_
    have : i < 24 := List.mem_range.mp hi
    rw [h.words _ (by simp only [DRE_KEY.KEY, OfLoad]; omega)]
  simp only [State.dreKey, words]

/-- A state of which nothing but the model store stands. -/
def State.ofStore (t : Tab Byte) : State := { store := t }

/-- The checks of the header, the binding and the format read the model store alone. -/
theorem State.checks_ofStore (s : State) (fb : Nat) : s.headerOk fb = (State.ofStore s.store).headerOk fb
    ∧ s.boundOk fb = (State.ofStore s.store).boundOk fb ∧ s.formatOk fb = (State.ofStore s.store).formatOk fb := ⟨rfl, rfl, rfl⟩

theorem State.Stale.checks {s : State} (h : s.Stale) :
    s.headerOk 0x2000 = true ∧ s.boundOk 0x2000 = true ∧ s.formatOk 0x2000 = true := by
  obtain ⟨header, bound, format⟩ := s.checks_ofStore 0x2000
  obtain ⟨header', bound', format'⟩ := stale.checks_ofStore 0x2000
  rw [header, bound, format, h.store, ← header', ← bound', ← format']
  exact ⟨headerOk_stale, boundOk_stale, formatOk_stale⟩

theorem State.Stale.checkBundle {s : State} (h : s.Stale) : s.checkBundle 0x2000 = ldDone := by
  obtain ⟨d0, d1, d2⟩ := digests_stale
  obtain ⟨slot, valid, mask⟩ := keySlot_stale
  obtain ⟨-, bound, format⟩ := h.checks
  have valid' : tb (s.get DRE_KEYVALID.VALID) 0 = true := by rw [h.words.get _ (by decide), valid]
  have mask' : tb (s.get SEC_KEYMASK.KEY) 0 = true := by rw [h.words.get _ (by decide), mask]
  unfold State.checkBundle
  simp only [h.bundleLen, h.storeLe, h.storeBytes, h.dreKey, bound, format, bundleLen_stale, Nat.reduceAdd, Nat.reduceSub, slot,
    sha384_stale, d0, d1, d2, ecdsaOk_stale, valid', mask', Bool.not_true, ne_eq, not_true_eq_false, Bool.false_eq_true, if_false,
    Nat.reduceLeDiff, and_false, or_self]

/-- The load in progress ends as done. -/
theorem State.Stale.runLoad {s : State} (h : s.Stale) : s.runLoad [] false = s.loadEnd staleLoad ldDone := by
  have spare : s.get DRE_STATUS.SPARE = 0 := by
    rw [h.words.get _ (by decide)]
    decide +kernel
  unfold State.runLoad
  obtain ⟨header, -, -⟩ := h.checks
  simp [h.load, spare, staleLoad, frameBase, State.sourceBytes, header, h.checkBundle]

/-! ### How the load ends (R142, R387) -/

/-- What the end of a load keeps of what way-on service reads after it. -/
structure State.Beside (s t : State) : Prop where
  flash : t.flash = s.flash
  doms : t.doms = s.doms
  journal : t.journal = s.journal

theorem State.Beside.trans {s t u : State} (h : s.Beside t) (k : t.Beside u) : s.Beside u :=
  ⟨k.flash.trans h.flash, k.doms.trans h.doms, k.journal.trans h.journal⟩

theorem State.Confined.beside {l : List Nat} {s t : State} (h : State.Confined l s t) : s.Beside t := ⟨h.flash, h.doms, h.journal⟩

theorem State.beside_put (s : State) (f : Fld) (v : Nat) : s.Beside (s.put f v) := ⟨rfl, rfl, rfl⟩
theorem State.beside_evt (s : State) (pg k : Nat) : s.Beside (s.evt pg k) := ⟨rfl, rfl, rfl⟩
theorem State.beside_countCommit (s : State) (k : Nat) : s.Beside (s.countCommit k) := ⟨rfl, rfl, rfl⟩

theorem State.beside_swapSpare (s : State) : s.Beside s.swapSpare := by
  unfold State.swapSpare
  dsimp only
  split
  · exact ⟨rfl, rfl, rfl⟩
  · split
    · exact (s.beside_put _ _).trans (State.beside_put _ _ _)
    · exact s.beside_put _ _

/-- A retired spare's exchange leaves the state of every slot beyond the eight. -/
theorem State.get_swapSpare (s : State) {f : Fld} (h : 0x28000 ≤ f.addr) : s.swapSpare.get f = s.get f := by
  have spare (t : State) (v : Nat) : (t.put DRE_STATUS.SPARE v).get f = t.get f :=
    State.get_put_addr _ _ _ _ (by simp only [DRE_STATUS.SPARE]; omega)
  unfold State.swapSpare
  dsimp only
  split
  · rfl
  · split
    next k found =>
      have : k < 8 := List.mem_range.mp (List.mem_of_find?_eq_some found)
      rw [spare, State.get_put_addr _ _ _ _ (by simp only [DRE_SLOT_STAT.FRAME]; omega)]
    · exact spare _ _

/-- The load in progress has left the engine, with its result. -/
def State.loadShown (s : State) : State := ({ s with load := none }.put DRE_STATUS.LOAD_STATE 0).put DRE_LOAD_RES.RESULT ldDone

/-- The slot takes the spare frame. -/
def State.slotTakes (s : State) (l : Load) (id version kind : Nat) : State :=
  let old := s.get (DRE_SLOT_STAT.FRAME l.slot)
  let s := s.put (DRE_SLOT_STAT.FRAME l.slot) (s.get DRE_STATUS.SPARE)
  let s := s.put (DRE_SLOT_STAT.KIND l.slot) kind
  let s := (s.put (DRE_SLOT_STAT.VALID l.slot) 1).put DRE_STATUS.SPARE old
  let s := (s.put (DRE_SLOT_ID.MODEL_ID l.slot) id).put (DRE_SLOT_VER.VERSION l.slot) version
  s.put DRE_STATUS.VALID_SLOTS (setBit (s.get DRE_STATUS.VALID_SLOTS) l.slot)

theorem State.loadEnd_done (s : State) :
    ∃ id version kind, s.loadEnd staleLoad ldDone
      = (((s.loadShown.slotTakes staleLoad id version kind).countCommit staleLoad.slot).swapSpare).evt pgDRE 0 := by
  refine ⟨?id, ?version, ?kind, ?eq⟩
  case eq => rfl

theorem State.beside_slotTakes (s : State) (l : Load) (id version kind : Nat) : s.Beside (s.slotTakes l id version kind) :=
  ((((((s.beside_put _ _).trans (State.beside_put _ _ _)).trans (State.beside_put _ _ _)).trans (State.beside_put _ _ _)).trans
    (State.beside_put _ _ _)).trans (State.beside_put _ _ _)).trans (State.beside_put _ _ _)

theorem State.get_slotTakes_valid (s : State) (id version kind : Nat) :
    (s.slotTakes staleLoad id version kind).get (DRE_SLOT_STAT.VALID 0x2000) = 1 := by
  unfold State.slotTakes
  dsimp only
  rw [State.get_put_addr _ _ _ _ (by decide), State.get_put_addr _ _ _ _ (by decide), State.get_put_addr _ _ _ _ (by decide),
    State.get_put_addr _ _ _ _ (by decide)]
  exact State.get_put_same _ _ _ (by decide)

theorem State.beside_loadShown (s : State) : s.Beside s.loadShown := by
  have left : s.Beside { s with load := none } := ⟨rfl, rfl, rfl⟩
  exact (left.trans (State.beside_put _ DRE_STATUS.LOAD_STATE 0)).trans (State.beside_put _ DRE_LOAD_RES.RESULT ldDone)

theorem State.beside_loadEnd (s : State) : s.Beside (s.loadEnd staleLoad ldDone) := by
  obtain ⟨id, version, kind, eq⟩ := s.loadEnd_done
  rw [eq]
  exact (((s.beside_loadShown.trans (State.beside_slotTakes _ _ _ _ _)).trans (State.beside_countCommit _ _)).trans
    (State.beside_swapSpare _)).trans (State.beside_evt _ _ _)

theorem State.get_countCommit (s : State) (k : Nat) (f : Fld) : (s.countCommit k).get f = s.get f := rfl

theorem State.get_loadEnd_valid (s : State) : (s.loadEnd staleLoad ldDone).get (DRE_SLOT_STAT.VALID 0x2000) = 1 := by
  obtain ⟨id, version, kind, eq⟩ := s.loadEnd_done
  rw [eq, State.get_evt _ _ _ _ (by decide), State.get_swapSpare _ (by decide), State.get_countCommit]
  exact State.get_slotTakes_valid _ _ _ _

/-! ### The flash index (R144) -/

/-- One entry of the flash index. -/
def State.loadEntry (s : State) (k : Nat) : State :=
  let e := bundleStore + 16 * k
  let len := ofLe (s.flashBytes (e + 4) 4)
  if len = 0 ∨ len = 0xFFFFFFFF ∨ !tb (s.flashAt (e + 8)).toNat 0 then s
  else (s.loadGo k 2 (ofLe (s.flashBytes e 4)) none).1.runLoad [] false

theorem State.loadIndex_eq (s : State) : s.loadIndex = (List.range 8).foldl State.loadEntry s := rfl

theorem State.flashBytes_congr {s t : State} (h : t.flash = s.flash) : t.flashBytes = s.flashBytes := by
  funext a n
  simp only [State.flashBytes, State.flashAt, h]

/-- The entries after the first are not flagged. -/
theorem State.loadEntry_skips {s : State} (h : s.flash = stale.flash) {k : Nat} (lo : 1 ≤ k) (hi : k < 8) : s.loadEntry k = s := by
  have erased : ∀ k < 8, 1 ≤ k → ofLe (stale.flashBytes (bundleStore + 16 * k + 4) 4) = 0xFFFFFFFF := by decide +kernel
  exact if_pos (.inr (.inl (by rw [State.flashBytes_congr h, erased k hi lo])))

theorem State.loadEntries_skip {s : State} (h : s.flash = stale.flash) (l : List Nat) (hl : ∀ k ∈ l, 1 ≤ k ∧ k < 8) :
    l.foldl State.loadEntry s = s := by
  induction l with
  | nil => rfl
  | cons k l ih =>
    obtain ⟨lo, hi⟩ := hl k List.mem_cons_self
    rw [List.foldl_cons, State.loadEntry_skips h lo hi]
    exact ih fun x m => hl x (List.mem_cons_of_mem k m)

theorem State.Stale.put {s : State} (h : s.Stale) (f : Fld) (v : Nat) (k : ¬ OfLoad f.addr) : (s.put f v).Stale :=
  ⟨h.load, h.store, h.flash, h.words.trans ((State.KeepsOn.refl s).put f v k)⟩

/-- The flagged entry finds the engine busy, and the load in progress ends. -/
theorem State.Stale.loadIndex {s : State} (h : s.Stale) :
    s.loadIndex = (s.put DRE_LOAD_RES.RESULT ldBusy).loadEnd staleLoad ldDone := by
  have busy : s.get DRE_STATUS.LOAD_STATE ≠ 0 := by
    rw [h.words.get _ (by decide)]
    decide +kernel
  have flagged : ¬ (ofLe (stale.flashBytes (bundleStore + 16 * 0 + 4) 4) = 0
      ∨ ofLe (stale.flashBytes (bundleStore + 16 * 0 + 4) 4) = 0xFFFFFFFF
      ∨ (!tb (stale.flashAt (bundleStore + 16 * 0 + 8)).toNat 0) = true) := by decide +kernel
  have byte (a : Nat) : s.flashAt a = stale.flashAt a := by simp only [State.flashAt, h.flash]
  have first : s.loadEntry 0 = (s.put DRE_LOAD_RES.RESULT ldBusy).loadEnd staleLoad ldDone := by
    unfold State.loadEntry
    dsimp only
    rw [State.flashBytes_congr h.flash, byte, if_neg flagged, State.loadGo, if_pos (.inl busy)]
    exact (h.put _ _ (by decide)).runLoad
  have range : List.range 8 = 0 :: (List.range 7).map (· + 1) := by decide
  rw [State.loadIndex_eq, range, List.foldl_cons, first]
  refine State.loadEntries_skip ?_ _ (fun k m => ?_)
  · exact (State.beside_loadEnd _).flash.trans h.flash
  · simp only [List.mem_map, List.mem_range] at m
    omega

/-! ### Way-on (R363) -/

theorem State.rewakeAll_none {s : State} (h : ∀ d, (s.dom d).rewake = false) : s.rewakeAll = s := by
  have fold (l : List Nat) : l.foldl (fun s d =>
      if !(s.dom d).rewake then s
      else
        let s := s.modDom d fun m => { m with rewake := false }
        if s.on (YRD_STATUS.YARD_FENCED d) then s else (s.placeOrder d 0 .oteus false none).1) s = s := by
    induction l with
    | nil => rfl
    | cons d l ih => rw [List.foldl_cons, h d]; exact ih
  exact fold _

/-- The image's version is shown. -/
def State.versionShown (s : State) : State := s.put HLM_FW_VER.VERSION (s.image.getD 0)

/-- The clocks run from the PLL, and the image's version is shown. -/
def State.onPllClocks (s : State) : State := ((s.put GLB_SERVICE.STATE 2).toPll).versionShown

/-- The engine runs, and the time of the start is shown. -/
def State.engineRuns (s : State) : State := (s.put DRE_CTRL.RUN 1).put GLB_START_MS.MS (min 65535 ((s.mono - s.startAt) / 2000000))

theorem wayOnEff_deadSlow {s : State} (r26 : s.r26 = false) (state : s.get GLB_SERVICE.STATE = 1) (may : s.mayWayOn = true) :
    wayOnEff s = s.onPllClocks.loadIndex.engineRuns.enterWayOn.rewakeAll := by
  have held : ¬ (s.r26 = true ∧ s.mayWayOn = true) := by simp [r26]
  have go : ¬ (s.get GLB_SERVICE.STATE ≠ 1 ∨ (!s.mayWayOn) = true) := by simp [state, may]
  exact (if_neg held).trans (if_neg go)

theorem State.kept_markReturn (s : State) : s.markReturn.load = s.load ∧ s.markReturn.store = s.store ∧ s.Beside s.markReturn :=
  ⟨rfl, rfl, ⟨rfl, rfl, rfl⟩⟩

/-- What the change to the PLL keeps. -/
theorem State.kept_toPll (s : State) : s.toPll.load = s.load ∧ s.toPll.store = s.store ∧ s.Beside s.toPll := by
  have gathered := s.confined_gatherAll
  obtain ⟨load, store, beside⟩ := s.gatherAll.kept_markReturn
  have put := s.gatherAll.markReturn.confined_put (l := [1]) CLK_STATUS.SOURCE 1 (by decide)
  have loaded := (s.gatherAll.markReturn.put CLK_STATUS.SOURCE 1).confined_fromPll
  rw [State.toPll_eq]
  refine ⟨?_, ?_, ((gathered.beside.trans beside).trans put.beside).trans loaded.beside⟩
  · rw [loaded.load, put.load, load, gathered.load]
  · rw [loaded.store, put.store, store, gathered.store]

/-- Up to the flash index the load stays as it stands. -/
theorem State.stale_onPllClocks : stale.onPllClocks.Stale := by
  obtain ⟨load, store, beside⟩ := (stale.put GLB_SERVICE.STATE 2).kept_toPll
  obtain ⟨words, -⟩ := (stale.put GLB_SERVICE.STATE 2).frame_toPll
  have off : ∀ a, OfLoad a → a / 0x1000 ∉ 1 :: 0xC :: coefPages ++ yardPages ++ sextantPages := fun a p => by
    have page : a / 0x1000 = 8 ∨ a / 0x1000 = 0xE := by simp only [OfLoad] at p; omega
    rcases page with e | e <;> rw [e] <;> decide
  have start : stale.KeepsOn OfLoad (stale.put GLB_SERVICE.STATE 2) := (State.KeepsOn.refl _).put _ _ (by decide)
  have moved : (stale.put GLB_SERVICE.STATE 2).toPll.Stale := ⟨load, store, beside.flash, start.trans (words.keepsOn off)⟩
  exact moved.put _ _ (by decide)

/-- No domain waits for its wake, and no command for its start. -/
theorem State.beside_untilWayOn : stale.Beside stale.onPllClocks.loadIndex.engineRuns := by
  obtain ⟨-, -, moved⟩ := (stale.put GLB_SERVICE.STATE 2).kept_toPll
  rw [State.stale_onPllClocks.loadIndex]
  exact ((((((stale.beside_put _ _).trans moved).trans (State.beside_put _ _ _)).trans (State.beside_put _ _ _)).trans
    (State.beside_loadEnd _)).trans (State.beside_put _ _ _)).trans (State.beside_put _ _ _)

theorem get_wayOn_stale : (wayOnEff stale).get (DRE_SLOT_STAT.VALID 0x2000) = 1 := by
  have before := State.beside_untilWayOn
  have reached := stale.onPllClocks.loadIndex.engineRuns.confined_wayOn
  have entered : State.Confined [0xF] stale.onPllClocks.loadIndex.engineRuns.wayOn stale.onPllClocks.loadIndex.engineRuns.enterWayOn :=
    State.confined_enterWayOn (fun e m => by rw [before.journal] at m; exact absurd m List.not_mem_nil)
  have doms : stale.onPllClocks.loadIndex.engineRuns.enterWayOn.doms = stale.doms := by
    rw [entered.doms, reached.doms, before.doms]
  have none_ (d : Nat) : (stale.onPllClocks.loadIndex.engineRuns.enterWayOn.dom d).rewake = false := by
    rw [State.dom, doms]
    exact rewake_dom_stale d
  rw [wayOnEff_deadSlow rfl state_stale mayWayOn_stale, State.rewakeAll_none none_, entered.words.get _ (by decide),
    reached.words.get _ (by decide)]
  unfold State.engineRuns
  rw [State.get_put_addr _ _ _ _ (by decide), State.get_put_addr _ _ _ _ (by decide), State.stale_onPllClocks.loadIndex]
  exact State.get_loadEnd_valid _

/-- Refutes O7: where a load stands in progress, way-on ends it in the slot it names, whose state lies in no page of the list. -/
theorem not_startUpReachesWayOn : ¬ Obligations.StartUpReachesWayOn := by
  unfold Obligations.StartUpReachesWayOn
  rintro ⟨-, -, -, wayOn, -⟩
  obtain ⟨t, answer, -, -, -, -, pages⟩ := wayOn stale rfl state_stale mayWayOn_stale (fun e m => absurd m List.not_mem_nil)
    (fun d _ => rewake_dom_stale d)
  cases (exec_wayOnTransition stale).symm.trans answer
  have kept := pages (DRE_SLOT_STAT.VALID 0x2000).addr (by decide) List.not_mem_nil
  have valid : (stale.answered (wayOnEff stale)).get (DRE_SLOT_STAT.VALID 0x2000) = 1 := by
    rw [State.get_answered _ _ _ (by decide) (by decide), get_wayOn_stale]
  rw [State.get, kept] at valid
  exact absurd (valid_stale.symm.trans valid) (by decide)

end Sys2Proof.Machine
end

section
/-!
SUPPORT. The elapsed time and system time pass in the tick alone (R24, R38): what else a step does leaves both as they are. Here:
the state, the log, completions and faults. Obligation IdleStepPassesOneCycle.
-/

namespace Sys2Proof.Machine

theorem State.Reports.clock {s t : State} (h : s.Reports t) : t.mono = s.mono ∧ t.sysTime = s.sysTime := ⟨h.mono, h.sysTime⟩

theorem State.clock_ite {c : Prop} [Decidable c] (s t : State) :
    (if c then s else t).mono = (if c then s.mono else t.mono) ∧ (if c then s else t).sysTime = if c then s.sysTime else t.sysTime :=
  ⟨apply_ite _ _ _ _, apply_ite _ _ _ _⟩

theorem State.clock_foldl {α : Type} {f : State → α → State} (h : ∀ s x, (f s x).mono = s.mono ∧ (f s x).sysTime = s.sysTime)
    (l : List α) (s : State) : (l.foldl f s).mono = s.mono ∧ (l.foldl f s).sysTime = s.sysTime := by
  induction l generalizing s with
  | nil => exact ⟨rfl, rfl⟩
  | cons x l ih => exact ⟨(ih _).1.trans (h s x).1, (ih _).2.trans (h s x).2⟩

/-! ### The state, words sent, the log, completions -/

theorem State.clock_setWord (s : State) (a : Nat) (w : Word) :
    (s.setWord a w).mono = s.mono ∧ (s.setWord a w).sysTime = s.sysTime := (State.reports_setWord _ _ _).clock

theorem State.clock_put (s : State) (f : Fld) (v : Nat) :
    (s.put f v).mono = s.mono ∧ (s.put f v).sysTime = s.sysTime := (State.reports_put _ _ _).clock

theorem State.clock_putI (s : State) (f : Fld) (v : Int) : (s.putI f v).mono = s.mono ∧ (s.putI f v).sysTime = s.sysTime := by
  simp only [State.putI, State.clock_put, and_self]

theorem State.clock_bumpBy (s : State) (f : Fld) (n : Nat) :
    (s.bumpBy f n).mono = s.mono ∧ (s.bumpBy f n).sysTime = s.sysTime := by
  simp only [State.bumpBy, State.clock_put, and_self]

theorem State.clock_bump (s : State) (f : Fld) :
    (s.bump f).mono = s.mono ∧ (s.bump f).sysTime = s.sysTime := (State.reports_bump _ _).clock

theorem State.clock_put64 (s : State) (lo : Fld) (v : Nat) :
    (s.put64 lo v).mono = s.mono ∧ (s.put64 lo v).sysTime = s.sysTime := (State.reports_put64 _ _ _).clock

theorem State.clock_evt (s : State) (pg k : Nat) :
    (s.evt pg k).mono = s.mono ∧ (s.evt pg k).sysTime = s.sysTime := (State.reports_evt _ _ _).clock

theorem State.clock_setBay (s : State) (b : Nat) (v : Bay) :
    (s.setBay b v).mono = s.mono ∧ (s.setBay b v).sysTime = s.sysTime := by
  simp only [State.setBay, and_self]

theorem State.clock_setYard (s : State) (y : Nat) (v : Yard) :
    (s.setYard y v).mono = s.mono ∧ (s.setYard y v).sysTime = s.sysTime := by
  simp only [State.setYard, and_self]

theorem State.clock_setDom (s : State) (d : Nat) (v : Dom) :
    (s.setDom d v).mono = s.mono ∧ (s.setDom d v).sysTime = s.sysTime := by
  simp only [State.setDom, and_self]

theorem State.clock_setCluster (s : State) (n : Nat) (v : Cluster) :
    (s.setCluster n v).mono = s.mono ∧ (s.setCluster n v).sysTime = s.sysTime := by
  simp only [State.setCluster, and_self]

theorem State.clock_setRail (s : State) (r : Nat) (v : Rail) :
    (s.setRail r v).mono = s.mono ∧ (s.setRail r v).sysTime = s.sysTime := by
  simp only [State.setRail, and_self]

theorem State.clock_setPhase (s : State) (p : Nat) (v : BPhase) :
    (s.setPhase p v).mono = s.mono ∧ (s.setPhase p v).sysTime = s.sysTime := by
  simp only [State.setPhase, and_self]

theorem State.clock_setCtx (s : State) (c : Nat) (v : Ctx) :
    (s.setCtx c v).mono = s.mono ∧ (s.setCtx c v).sysTime = s.sysTime := by
  simp only [State.setCtx, and_self]

theorem State.clock_setStream (s : State) (t : Nat) (v : Tdm) :
    (s.setStream t v).mono = s.mono ∧ (s.setStream t v).sysTime = s.sysTime := (State.reports_setStream _ _ _).clock

theorem State.clock_setFlash (s : State) (a : Nat) (v : Byte) :
    (s.setFlash a v).mono = s.mono ∧ (s.setFlash a v).sysTime = s.sysTime := by
  simp only [State.setFlash, and_self]

theorem State.clock_setCap (s : State) (a : Nat) (v : Byte) :
    (s.setCap a v).mono = s.mono ∧ (s.setCap a v).sysTime = s.sysTime := by
  simp only [State.setCap, and_self]

theorem State.clock_program (s : State) (a : Nat) (bytes : List Byte) :
    (s.program a bytes).mono = s.mono ∧ (s.program a bytes).sysTime = s.sysTime := by
  simp only [State.program, State.clock_foldl, implies_true, State.clock_setFlash, and_self]

theorem State.clock_eraseFlash (s : State) (a n : Nat) :
    (s.eraseFlash a n).mono = s.mono ∧ (s.eraseFlash a n).sysTime = s.sysTime := by
  simp only [State.eraseFlash, and_self]

theorem State.clock_disarm (s : State) : s.disarm.mono = s.mono ∧ s.disarm.sysTime = s.sysTime := (State.reports_disarm _).clock

theorem State.clock_writeError (s : State) (mem word : Nat) (e : Option Bool) :
    (s.writeError mem word e).mono = s.mono ∧ (s.writeError mem word e).sysTime = s.sysTime :=
  (State.reports_writeError _ _ _ _).clock

theorem State.clock_memWritten (s : State) (mem word : Nat) :
    (s.memWritten mem word).mono = s.mono ∧ (s.memWritten mem word).sysTime = s.sysTime := (State.reports_memWritten _ _ _).clock

theorem State.clock_fresh (s : State) (site : Nat) : (s.fresh site).2.mono = s.mono ∧ (s.fresh site).2.sysTime = s.sysTime := by
  simp only [State.fresh, and_self]

theorem State.clock_zeroBal (s : State) : s.zeroBal.mono = s.mono ∧ s.zeroBal.sysTime = s.sysTime := by
  simp only [State.zeroBal, State.clock_foldl, implies_true, State.clock_putI, and_self]

theorem State.clock_send (s : State) (seg : Nat) (w : Word) :
    (s.send seg w).mono = s.mono ∧ (s.send seg w).sysTime = s.sysTime := (State.reports_send _ _ _).clock

theorem State.clock_sendYard (s : State) (y : Nat) (w : Word) :
    (s.sendYard y w).mono = s.mono ∧ (s.sendYard y w).sysTime = s.sysTime := (State.reports_sendYard _ _ _).clock

theorem State.clock_sendBay (s : State) (b : Nat) (mk : Nat → Word) :
    (s.sendBay b mk).mono = s.mono ∧ (s.sendBay b mk).sysTime = s.sysTime := by
  simp only [State.sendBay, State.clock_send, and_self]

theorem State.clock_opp (s : State) : s.opp.mono = s.mono ∧ s.opp.sysTime = s.sysTime := by
  simp only [State.opp, State.clock_foldl, implies_true, State.clock_setWord, and_self]

theorem State.clock_countDropped (s : State) :
    s.countDropped.mono = s.mono ∧ s.countDropped.sysTime = s.sysTime := (State.reports_countDropped _).clock

theorem State.clock_countStaged (s : State) :
    s.countStaged.mono = s.mono ∧ s.countStaged.sysTime = s.sysTime := (State.reports_countStaged _).clock

theorem State.clock_addLog (s : State) (r : LogRec) :
    (s.addLog r).mono = s.mono ∧ (s.addLog r).sysTime = s.sysTime := (State.reports_addLog _ _).clock

theorem State.clock_pushLog (s : State) (r : LogRec) :
    (s.pushLog r).mono = s.mono ∧ (s.pushLog r).sysTime = s.sysTime := (State.reports_pushLog _ _).clock

theorem State.clock_showStaged (s : State) : s.showStaged.mono = s.mono ∧ s.showStaged.sysTime = s.sysTime := by
  simp only [State.showStaged, State.clock_put, and_self]

theorem State.clock_stageLog (s : State) (r : LogRec) :
    (s.stageLog r).mono = s.mono ∧ (s.stageLog r).sysTime = s.sysTime := (State.reports_stageLog _ _).clock

theorem State.clock_setSupp (s : State) (code : Nat) (u : Supp) :
    (s.setSupp code u).mono = s.mono ∧ (s.setSupp code u).sysTime = s.sysTime := (State.reports_setSupp _ _ _).clock

theorem State.clock_setTokens (s : State) (code t : Nat) :
    (s.setTokens code t).mono = s.mono ∧ (s.setTokens code t).sysTime = s.sysTime := (State.reports_setTokens _ _ _).clock

theorem State.clock_flushSupp (s : State) (code : Nat) :
    (s.flushSupp code).mono = s.mono ∧ (s.flushSupp code).sysTime = s.sysTime := (State.reports_flushSupp _ _).clock

theorem State.clock_record (s : State) (code sev flags : Nat) (p : List Nat) :
    (s.record code sev flags p).mono = s.mono ∧ (s.record code sev flags p).sysTime = s.sysTime :=
  (State.reports_record _ _ _ _ _).clock

theorem State.clock_logEvent (s : State) (code : Nat) (p : List Nat) :
    (s.logEvent code p).mono = s.mono ∧ (s.logEvent code p).sysTime = s.sysTime := (State.reports_logEvent _ _ _).clock

theorem State.clock_notice (s : State) (kind yard ctx param : Nat) :
    (s.notice kind yard ctx param).mono = s.mono ∧ (s.notice kind yard ctx param).sysTime = s.sysTime :=
  (State.reports_notice _ _ _ _ _).clock

theorem State.clock_loseRecord (s : State) (t : Nat) :
    (s.loseRecord t).mono = s.mono ∧ (s.loseRecord t).sysTime = s.sysTime := (State.reports_loseRecord _ _).clock

theorem State.clock_stage (s : State) (t kind flags : Nat) (body : List Byte) (ctx : Option Nat) (entry : Option CmdTag) :
    (s.stage t kind flags body ctx entry).mono = s.mono ∧ (s.stage t kind flags body ctx entry).sysTime = s.sysTime :=
  (State.reports_stage _ _ _ _ _ _ _).clock

theorem State.clock_writeStatus (s : State) (w : Window) (slot status : Nat) (result : Word) :
    (s.writeStatus w slot status result).mono = s.mono ∧ (s.writeStatus w slot status result).sysTime = s.sysTime := by
  simp only [State.writeStatus, State.clock_setWord, and_self]

theorem State.clock_modEntry (s : State) (t : CmdTag) (f : Entry → Entry) :
    (s.modEntry t f).mono = s.mono ∧ (s.modEntry t f).sysTime = s.sysTime := (State.reports_modEntry _ _ _).clock

theorem State.clock_signalDone (s : State) (w : Window) :
    (s.signalDone w).mono = s.mono ∧ (s.signalDone w).sysTime = s.sysTime := (State.reports_signalDone _ _).clock

theorem State.clock_stageDone (s : State) (t : CmdTag) (e : Entry) (late : Bool) (status : Nat) (result : Word) :
    (s.stageDone t e late status result).mono = s.mono ∧ (s.stageDone t e late status result).sysTime = s.sysTime :=
  (State.reports_stageDone _ _ _ _ _ _).clock

theorem State.clock_endEntry (s : State) (t : CmdTag) (status : Nat) (result : Word) :
    (s.endEntry t status result).mono = s.mono ∧ (s.endEntry t status result).sysTime = s.sysTime :=
  (State.reports_endEntry _ _ _ _).clock

theorem State.clock_slotLeft (s : State) (w : Window) (slot : Nat) :
    (s.slotLeft w slot).mono = s.mono ∧ (s.slotLeft w slot).sysTime = s.sysTime := (State.reports_slotLeft _ _ _).clock

theorem State.clock_finishNow (s : State) (t : CmdTag) (code detail : Nat) (result : Word) (late : Bool) :
    (s.finishNow t code detail result late).mono = s.mono ∧ (s.finishNow t code detail result late).sysTime = s.sysTime :=
  (State.reports_finishNow _ _ _ _ _ _).clock

theorem State.clock_finish (s : State) (t : CmdTag) (code detail : Nat) (result : Word) (late : Bool) :
    (s.finish t code detail result late).mono = s.mono ∧ (s.finish t code detail result late).sysTime = s.sysTime :=
  (State.reports_finish _ _ _ _ _ _).clock

theorem State.clock_finishOpt (s : State) (t : Option CmdTag) (code detail : Nat) (result : Word) (late : Bool) :
    (s.finishOpt t code detail result late).mono = s.mono ∧ (s.finishOpt t code detail result late).sysTime = s.sysTime :=
  (State.reports_finishOpt _ _ _ _ _ _).clock

theorem State.clock_finishAll (s : State) (ts : List CmdTag) (code : Nat) :
    (s.finishAll ts code).mono = s.mono ∧ (s.finishAll ts code).sysTime = s.sysTime := by
  simp only [State.finishAll, State.clock_foldl, implies_true, State.clock_finish, and_self]

/-! ### The fault flags and wires (R379, R381) -/

theorem State.clock_refreshPair (s : State) :
    s.refreshPair.mono = s.mono ∧ s.refreshPair.sysTime = s.sysTime := (State.reports_refreshPair _).clock

theorem State.clock_refreshAssert (s : State) :
    s.refreshAssert.mono = s.mono ∧ s.refreshAssert.sysTime = s.sysTime := (State.reports_refreshAssert _).clock

theorem State.clock_assertSource (s : State) (code : Nat) :
    (s.assertSource code).mono = s.mono ∧ (s.assertSource code).sysTime = s.sysTime := (State.reports_assertSource _ _).clock

theorem State.clock_deassertSource (s : State) (code : Nat) :
    (s.deassertSource code).mono = s.mono ∧ (s.deassertSource code).sysTime = s.sysTime :=
  (State.reports_deassertSource _ _).clock

theorem State.clock_endUnstarted (s : State) :
    s.endUnstarted.mono = s.mono ∧ s.endUnstarted.sysTime = s.sysTime := (State.reports_endUnstarted _).clock

theorem State.clock_enterHold (s : State) (code : Nat) :
    (s.enterHold code).mono = s.mono ∧ (s.enterHold code).sysTime = s.sysTime := (State.reports_enterHold _ _).clock

theorem State.clock_capture (s : State) (code cls : Nat) (esc inj : Bool) (p0 : Nat) (a : FaultAccess) :
    (s.capture code cls esc inj p0 a).mono = s.mono ∧ (s.capture code cls esc inj p0 a).sysTime = s.sysTime :=
  (State.reports_capture _ _ _ _ _ _ _).clock

theorem State.clock_raiseRepeat (s : State) (code : Nat) (p : List Nat) (inj : Bool) :
    (s.raiseRepeat code p inj).mono = s.mono ∧ (s.raiseRepeat code p inj).sysTime = s.sysTime :=
  (State.reports_raiseRepeat _ _ _ _).clock

theorem State.clock_activate (s : State) (code c : Nat) :
    (s.activate code c).mono = s.mono ∧ (s.activate code c).sysTime = s.sysTime := (State.reports_activate _ _ _).clock

theorem State.clock_pendClass (s : State) (c : Nat) (esc : Bool) :
    (s.pendClass c esc).mono = s.mono ∧ (s.pendClass c esc).sysTime = s.sysTime := (State.reports_pendClass _ _ _).clock

theorem State.clock_classF (s : State) (code : Nat) :
    (s.classF code).mono = s.mono ∧ (s.classF code).sysTime = s.sysTime := (State.reports_classF _ _).clock

theorem State.clock_raiseNew (s : State) (code : Nat) (p : List Nat) (a : FaultAccess) (inj : Bool) :
    (s.raiseNew code p a inj).mono = s.mono ∧ (s.raiseNew code p a inj).sysTime = s.sysTime :=
  (State.reports_raiseNew _ _ _ _ _).clock

theorem State.clock_restartQuiet (s : State) (c : Nat) :
    (s.restartQuiet c).mono = s.mono ∧ (s.restartQuiet c).sysTime = s.sysTime := by
  simp only [State.restartQuiet, and_self]

theorem State.clock_raiseWith (s : State) (code : Nat) (p : List Nat) (a : FaultAccess) (inj : Bool) :
    (s.raiseWith code p a inj).mono = s.mono ∧ (s.raiseWith code p a inj).sysTime = s.sysTime :=
  (State.reports_raiseWith _ _ _ _ _).clock

theorem State.clock_raise (s : State) (code : Nat) (p : List Nat) :
    (s.raise code p).mono = s.mono ∧ (s.raise code p).sysTime = s.sysTime := (State.reports_raise _ _ _).clock

theorem State.clock_memCe (s : State) (mem addr : Nat) (a : FaultAccess) :
    (s.memCe mem addr a).mono = s.mono ∧ (s.memCe mem addr a).sysTime = s.sysTime := by
  simp only [State.memCe, State.clock_bump, State.clock_raiseWith, and_self]

theorem State.clock_memUe (s : State) (mem addr : Nat) :
    (s.memUe mem addr).mono = s.mono ∧ (s.memUe mem addr).sysTime = s.sysTime := by
  simp only [State.memUe, State.clock_put, State.clock_evt, and_self]

/-! ### The board -/

theorem State.clock_refreshService (s : State) (p : Nat) :
    (s.refreshService p).mono = s.mono ∧ (s.refreshService p).sysTime = s.sysTime := by
  simp only [State.refreshService, State.clock_ite, ite_self, State.clock_put, and_self]

end Sys2Proof.Machine
end

section
/-!
SUPPORT. The elapsed time and system time pass in the tick alone (R24, R38): what else a step does leaves both as they are. Here:
bays, yards, streams and forecasts. Obligation IdleStepPassesOneCycle.
-/

namespace Sys2Proof.Machine

/-! ### Bays and yards: bias and setpoints -/

theorem State.clock_modBay (s : State) (b : Nat) (f : Bay → Bay) :
    (s.modBay b f).mono = s.mono ∧ (s.modBay b f).sysTime = s.sysTime := by
  simp only [State.modBay, State.clock_setBay, and_self]

theorem State.clock_setBias (s : State) (d : Nat) : (s.setBias d).mono = s.mono ∧ (s.setBias d).sysTime = s.sysTime := by
  simp only [State.setBias, State.clock_put, and_self]

theorem State.clock_refreshBias (s : State) (d : Nat) :
    (s.refreshBias d).mono = s.mono ∧ (s.refreshBias d).sysTime = s.sysTime := by
  simp only [State.refreshBias, State.clock_ite, ite_self, State.clock_setBias, and_self]

theorem State.clock_startWait (s : State) (y code : Nat) :
    (s.startWait y code).mono = s.mono ∧ (s.startWait y code).sysTime = s.sysTime := by
  unfold State.startWait
  split <;> simp only [State.clock_ite, ite_self, State.clock_setYard, and_self]

theorem State.clock_orderSet (s : State) (y code slew : Nat) :
    (s.orderSet y code slew).mono = s.mono ∧ (s.orderSet y code slew).sysTime = s.sysTime := by
  simp only [State.orderSet, State.clock_ite, ite_self, State.clock_setYard, State.clock_startWait, State.clock_sendYard,
    and_self]

theorem State.clock_sendSetpoint (s : State) (y : Nat) :
    (s.sendSetpoint y).mono = s.mono ∧ (s.sendSetpoint y).sysTime = s.sysTime := by
  simp only [State.sendSetpoint, State.clock_ite, ite_self, State.clock_orderSet, and_self]

theorem State.clock_deliver (s : State) (y : Nat) : (s.deliver y).mono = s.mono ∧ (s.deliver y).sysTime = s.sysTime := by
  simp only [State.deliver, State.clock_refreshBias, State.clock_sendSetpoint, and_self]

theorem State.clock_sendPreset (s : State) (y : Nat) : (s.sendPreset y).mono = s.mono ∧ (s.sendPreset y).sysTime = s.sysTime := by
  simp only [State.sendPreset, State.clock_ite, ite_self, State.clock_setYard, State.clock_sendYard, and_self]

/-! ### Delivered setpoints -/

theorem State.clock_redeliver (s s0 : State) (y : Nat) :
    (s.redeliver s0 y).mono = s.mono ∧ (s.redeliver s0 y).sysTime = s.sysTime := by
  simp only [State.redeliver, State.clock_ite, ite_self, State.clock_deliver, and_self]

theorem State.clock_takeFloor (s : State) (y : Nat) : (s.takeFloor y).mono = s.mono ∧ (s.takeFloor y).sysTime = s.sysTime := by
  simp only [State.takeFloor, State.clock_setYard, State.clock_put, State.clock_redeliver, and_self]

theorem State.clock_freeFloor (s s0 : State) (y : Nat) :
    (s.freeFloor s0 y).mono = s.mono ∧ (s.freeFloor s0 y).sysTime = s.sysTime := by
  simp only [State.freeFloor, State.clock_ite, ite_self, State.clock_takeFloor, State.clock_redeliver, and_self]

/-! ### Phases and sharing -/

theorem State.clock_sendPhases (s : State) (order : Nat) (ps : List PhRef) :
    (s.sendPhases order ps).mono = s.mono ∧ (s.sendPhases order ps).sysTime = s.sysTime := by
  simp only [State.sendPhases, State.clock_foldl, implies_true, State.clock_sendBay, and_self]

theorem State.clock_withdrawSheds (s : State) (y : Nat) :
    (s.withdrawSheds y).mono = s.mono ∧ (s.withdrawSheds y).sysTime = s.sysTime := by
  simp only [State.withdrawSheds, State.clock_ite, ite_self, State.clock_setYard, and_self]

theorem State.clock_addPhases (s : State) (y n cause : Nat) :
    (s.addPhases y n cause).mono = s.mono ∧ (s.addPhases y n cause).sysTime = s.sysTime := by
  simp only [State.addPhases, State.clock_ite, ite_self, State.clock_withdrawSheds, State.clock_sendPhases, State.clock_bumpBy,
    State.clock_put, and_self]

theorem State.clock_endHeat (s : State) (y : Nat) : (s.endHeat y).mono = s.mono ∧ (s.endHeat y).sysTime = s.sysTime := by
  simp only [State.endHeat, State.clock_ite, ite_self, State.clock_foldl, implies_true, State.clock_setYard, State.clock_sendBay,
    State.clock_modBay, and_self]

theorem State.clock_floorRaise (s : State) (y : Nat) : (s.floorRaise y).mono = s.mono ∧ (s.floorRaise y).sysTime = s.sysTime := by
  simp only [State.floorRaise, State.clock_ite, ite_self, State.clock_addPhases, and_self]

theorem State.clock_sendDroop (s : State) (y th : Nat) :
    (s.sendDroop y th).mono = s.mono ∧ (s.sendDroop y th).sysTime = s.sysTime := by
  simp only [State.sendDroop, State.clock_foldl, implies_true, State.clock_put, State.clock_sendBay, and_self]

/-! ### Admission -/

theorem State.clock_admitRefused (s : State) : s.admitRefused.mono = s.mono ∧ s.admitRefused.sysTime = s.sysTime := by
  simp only [State.admitRefused, State.clock_evt, State.clock_bump, and_self]

/-! ### Streams, captures and calibrations -/

theorem State.clock_windowWritten (s : State) (n ch : Nat) :
    (s.windowWritten n ch).mono = s.mono ∧ (s.windowWritten n ch).sysTime = s.sysTime := by
  simp only [State.windowWritten, State.clock_setCluster, State.clock_put, and_self]

theorem State.clock_weightWritten (s : State) (n : Nat) :
    (s.weightWritten n).mono = s.mono ∧ (s.weightWritten n).sysTime = s.sysTime := by
  simp only [State.weightWritten, State.clock_setCluster, and_self]

theorem State.clock_arrive (s : State) (n m : Nat) (l : List (BitVec 16)) :
    (s.arrive n m l).mono = s.mono ∧ (s.arrive n m l).sysTime = s.sysTime := by
  simp only [State.arrive, State.clock_ite, ite_self, State.clock_setCluster, State.clock_put, State.clock_bumpBy,
    State.clock_evt, and_self]

theorem State.clock_gather (s : State) (n m : Nat) : (s.gather n m).mono = s.mono ∧ (s.gather n m).sysTime = s.sysTime := by
  simp only [State.gather, State.clock_ite, ite_self, State.clock_setCluster, State.clock_arrive, and_self]

theorem State.clock_openTurn (s : State) (n : Nat) : (s.openTurn n).mono = s.mono ∧ (s.openTurn n).sysTime = s.sysTime := by
  simp only [State.openTurn, State.clock_setCluster, and_self]

theorem State.clock_urgEnd (s : State) (n result : Nat) :
    (s.urgEnd n result).mono = s.mono ∧ (s.urgEnd n result).sysTime = s.sysTime := by
  simp only [State.urgEnd, State.clock_put, State.clock_evt, and_self]

theorem State.clock_urgGo (s : State) (n : Nat) : (s.urgGo n).mono = s.mono ∧ (s.urgGo n).sysTime = s.sysTime := by
  unfold State.urgGo
  split <;> simp only [State.clock_ite, ite_self, State.clock_urgEnd, State.clock_setCluster, and_self]

theorem State.clock_showCapture (s : State) (n : Nat) (b : Bool) :
    (s.showCapture n b).mono = s.mono ∧ (s.showCapture n b).sysTime = s.sysTime := by
  simp only [State.showCapture, State.clock_setCluster, State.clock_openTurn, State.clock_put, and_self]

theorem State.clock_strEnd (s : State) (n m st : Nat) :
    (s.strEnd n m st).mono = s.mono ∧ (s.strEnd n m st).sysTime = s.sysTime := by
  simp only [State.strEnd, State.clock_ite, ite_self, State.clock_put, State.clock_evt, State.clock_showCapture,
    State.clock_setCluster, State.clock_finishOpt, and_self]

theorem State.clock_tdmErr (s : State) (user addr unit access : Nat) (outside : Bool) :
    (s.tdmErr user addr unit access outside).mono = s.mono ∧ (s.tdmErr user addr unit access outside).sysTime = s.sysTime := by
  simp only [State.tdmErr, State.clock_ite, ite_self, State.clock_bump, State.clock_evt, State.clock_raiseWith, and_self]

theorem State.clock_strGo (s : State) (n m : Nat) (tag : Option CmdTag) :
    (s.strGo n m tag).1.mono = s.mono ∧ (s.strGo n m tag).1.sysTime = s.sysTime := by
  simp only [State.strGo, State.clock_ite, ite_self, State.clock_tdmErr, State.clock_put, State.clock_setCluster,
    State.clock_showCapture, and_self, apply_ite Prod.fst]

theorem State.clock_gatherFrom (s : State) (n m : Nat) (codes : List (BitVec 10)) :
    (s.gatherFrom n m codes).mono = s.mono ∧ (s.gatherFrom n m codes).sysTime = s.sysTime := by
  simp only [State.gatherFrom, State.clock_ite, ite_self, State.clock_arrive, State.clock_gather, and_self]

theorem State.clock_writeOut (s : State) (n m k : Nat) :
    (s.writeOut n m k).mono = s.mono ∧ (s.writeOut n m k).sysTime = s.sysTime := by
  simp only [State.writeOut, State.clock_ite, ite_self, State.clock_foldl, implies_true, State.clock_setCap,
    State.clock_memWritten, State.clock_setCluster, State.clock_put, and_self]

theorem State.clock_drainOut (s : State) (n m : Nat) : (s.drainOut n m).mono = s.mono ∧ (s.drainOut n m).sysTime = s.sysTime := by
  simp only [State.drainOut, State.clock_ite, ite_self, State.clock_bumpBy, State.clock_writeOut, and_self]

theorem State.clock_strAbort (s : State) (n m : Nat) : (s.strAbort n m).mono = s.mono ∧ (s.strAbort n m).sysTime = s.sysTime := by
  simp only [State.strAbort, State.clock_drainOut, State.clock_strEnd, and_self]

theorem State.clock_strStop (s : State) (n m : Nat) (codes : List (BitVec 10)) :
    (s.strStop n m codes).mono = s.mono ∧ (s.strStop n m codes).sysTime = s.sysTime := by
  simp only [State.strStop, State.clock_ite, ite_self, State.clock_gatherFrom, State.clock_drainOut, State.clock_put,
    State.clock_strEnd, State.clock_strAbort, and_self]

theorem State.clock_confStreams (s : State) : s.confStreams.mono = s.mono ∧ s.confStreams.sysTime = s.sysTime := by
  simp only [State.confStreams, State.clock_ite, ite_self, State.clock_foldl, implies_true, State.clock_strEnd, and_self]

theorem State.clock_confUrgent (s : State) : s.confUrgent.mono = s.mono ∧ s.confUrgent.sysTime = s.sysTime := by
  refine State.clock_foldl (fun s n => ?_) _ s
  split <;> simp only [State.clock_ite, ite_self, State.clock_setCluster, State.clock_urgEnd, and_self]

theorem State.clock_calZero (s : State) (n : Nat) (tag : Option CmdTag) :
    (s.calZero n tag).1.mono = s.mono ∧ (s.calZero n tag).1.sysTime = s.sysTime := by
  simp only [State.calZero, State.clock_ite, ite_self, State.clock_put, State.clock_setCluster, and_self, apply_ite Prod.fst]

theorem State.clock_calFull (s : State) (n : Nat) (tag : Option CmdTag) :
    (s.calFull n tag).mono = s.mono ∧ (s.calFull n tag).sysTime = s.sysTime := by
  simp only [State.calFull, State.clock_ite, ite_self, State.clock_put, State.clock_setCluster, and_self]

theorem State.clock_calEnd (s : State) (n result : Nat) :
    (s.calEnd n result).mono = s.mono ∧ (s.calEnd n result).sysTime = s.sysTime := by
  simp only [State.calEnd, State.clock_ite, ite_self, State.clock_put, State.clock_setCluster, State.clock_evt, State.clock_bump,
    State.clock_finishOpt, and_self]

theorem State.clock_calAbort (s : State) (n : Nat) : (s.calAbort n).mono = s.mono ∧ (s.calAbort n).sysTime = s.sysTime := by
  simp only [State.calAbort, State.clock_ite, ite_self, State.clock_calEnd, and_self]

theorem State.clock_loadSxt (s : State) (n : Nat) : (s.loadSxt n).mono = s.mono ∧ (s.loadSxt n).sysTime = s.sysTime := by
  unfold State.loadSxt
  split <;> simp only [State.clock_ite, ite_self, State.clock_foldl, implies_true, State.clock_raise, State.clock_put, and_self]

/-! ### Forecasts, presets and loads -/

theorem State.clock_setColl (s : State) (k : Nat) (c : Option Coll) :
    (s.setColl k c).mono = s.mono ∧ (s.setColl k c).sysTime = s.sysTime := by
  simp only [State.setColl, and_self]

theorem State.clock_closeColls (s : State) : s.closeColls.mono = s.mono ∧ s.closeColls.sysTime = s.sysTime := by
  simp only [State.closeColls, State.clock_foldl, implies_true, State.clock_setColl, and_self]

theorem State.clock_setPresets (s : State) (y : Nat) (p : Presets) :
    (s.setPresets y p).mono = s.mono ∧ (s.setPresets y p).sysTime = s.sysTime := by
  simp only [State.setPresets, State.clock_ite, ite_self, State.clock_setYard, State.clock_floorRaise, State.clock_put,
    State.clock_sendPreset, State.clock_redeliver, and_self]

theorem State.clock_errorSample (s : State) (y : Nat) (f2 i : Int) (limit : Nat) :
    (s.errorSample y f2 i limit).mono = s.mono ∧ (s.errorSample y f2 i limit).sysTime = s.sysTime := by
  simp only [State.errorSample, State.clock_ite, ite_self, State.clock_put, and_self]

theorem State.clock_sampleError (s : State) (y : Nat) (c : Forecast) :
    (s.sampleError y c).mono = s.mono ∧ (s.sampleError y c).sysTime = s.sysTime := by
  unfold State.sampleError
  split <;> simp only [State.clock_errorSample, State.clock_setYard, and_self]

theorem State.clock_applyForecast (s : State) (y : Nat) (c : Forecast) :
    (s.applyForecast y c).mono = s.mono ∧ (s.applyForecast y c).sysTime = s.sysTime := by
  simp only [State.applyForecast, State.clock_ite, ite_self, State.clock_endHeat, State.clock_setYard, State.clock_sampleError,
    State.clock_setPresets, and_self]

theorem State.clock_applyHeld (s : State) (y : Nat) : (s.applyHeld y).mono = s.mono ∧ (s.applyHeld y).sysTime = s.sysTime := by
  simp only [State.applyHeld, State.clock_ite, ite_self, State.clock_foldl, implies_true, State.clock_applyForecast,
    State.clock_setYard, and_self]

theorem State.clock_withdrawPresets (s : State) (y : Nat) :
    (s.withdrawPresets y).mono = s.mono ∧ (s.withdrawPresets y).sysTime = s.sysTime := by
  simp only [State.withdrawPresets, State.clock_setYard, State.clock_setPresets, and_self]

theorem State.clock_emptySlot (s : State) (k : Nat) : (s.emptySlot k).mono = s.mono ∧ (s.emptySlot k).sysTime = s.sysTime := by
  simp only [State.emptySlot, State.clock_put, State.clock_evt, and_self]

theorem State.clock_swapSpare (s : State) : s.swapSpare.mono = s.mono ∧ s.swapSpare.sysTime = s.sysTime := by
  unfold State.swapSpare
  split <;> simp only [State.clock_ite, ite_self, State.clock_put, and_self]

theorem State.clock_loadGo (s : State) (slot src addr : Nat) (tag : Option CmdTag) :
    (s.loadGo slot src addr tag).1.mono = s.mono ∧ (s.loadGo slot src addr tag).1.sysTime = s.sysTime := by
  simp only [State.loadGo, State.clock_ite, ite_self, State.clock_put, and_self, apply_ite Prod.fst]

theorem State.clock_retireFrames (s : State) : s.retireFrames.mono = s.mono ∧ s.retireFrames.sysTime = s.sysTime := by
  simp only [State.retireFrames, State.clock_ite, ite_self, State.clock_foldl, implies_true, State.clock_emptySlot,
    State.clock_swapSpare, and_self]

theorem State.clock_dropStaged (s : State) : s.dropStaged.mono = s.mono ∧ s.dropStaged.sysTime = s.sysTime := by
  simp only [State.dropStaged, State.clock_foldl, implies_true, State.clock_setYard, and_self]

theorem State.clock_runWritten (s : State) : s.runWritten.mono = s.mono ∧ s.runWritten.sysTime = s.sysTime := by
  simp only [State.runWritten, State.clock_ite, ite_self, State.clock_closeColls, State.clock_dropStaged, and_self]

end Sys2Proof.Machine
end

section
/-!
SUPPORT. The elapsed time and system time pass in the tick alone (R24, R38): what else a step does leaves both as they are. Here:
heat, energy, caps, domains and stages. Obligation IdleStepPassesOneCycle.
-/

namespace Sys2Proof.Machine

/-! ### Heating -/

theorem State.clock_sendHeat (s : State) (b l : Nat) : (s.sendHeat b l).mono = s.mono ∧ (s.sendHeat b l).sysTime = s.sysTime := by
  simp only [State.sendHeat, State.clock_ite, ite_self, State.clock_sendBay, State.clock_modBay, State.clock_bump, and_self]

theorem State.clock_sendLevel (s : State) (b l : Nat) :
    (s.sendLevel b l).mono = s.mono ∧ (s.sendLevel b l).sysTime = s.sysTime := by
  simp only [State.sendLevel, State.clock_ite, ite_self, State.clock_sendBay, State.clock_modBay, and_self]

theorem State.clock_restHeat (s : State) (y : Nat) : (s.restHeat y).mono = s.mono ∧ (s.restHeat y).sysTime = s.sysTime := by
  simp only [State.restHeat, State.clock_endHeat, State.clock_setYard, and_self]

theorem State.clock_heatYard (s : State) (y l : Nat) (n : Nat) :
    (s.heatYard y l n).mono = s.mono ∧ (s.heatYard y l n).sysTime = s.sysTime := by
  simp only [State.heatYard, State.clock_ite, ite_self, State.clock_foldl, implies_true, State.clock_restHeat,
    State.clock_sendLevel, State.clock_sendHeat, State.clock_setYard, and_self]

theorem State.clock_endWarming (s : State) (y : Nat) : (s.endWarming y).mono = s.mono ∧ (s.endWarming y).sysTime = s.sysTime := by
  simp only [State.endWarming, State.clock_restHeat, State.clock_setYard, and_self]

theorem State.clock_endPrecond (s : State) : s.endPrecond.mono = s.mono ∧ s.endPrecond.sysTime = s.sysTime := by
  unfold State.endPrecond
  split <;> simp only [State.clock_ite, ite_self, State.clock_endWarming, State.clock_put, and_self]

/-! ### Owners, jobs and intervals -/

theorem State.clock_confEdge (s : State) : s.confEdge.mono = s.mono ∧ s.confEdge.sysTime = s.sysTime := by
  simp only [State.confEdge, State.clock_ite, ite_self, State.clock_foldl, implies_true, State.clock_confStreams,
    State.clock_confUrgent, State.clock_evt, State.clock_setStream, and_self]

theorem State.clock_scrubInputs (s : State) (y c : Nat) :
    (s.scrubInputs y c).mono = s.mono ∧ (s.scrubInputs y c).sysTime = s.sysTime := by
  simp only [State.scrubInputs, State.clock_setYard, and_self]

theorem State.clock_askScrub (s : State) (y c : Nat) (clear : Bool) :
    (s.askScrub y c clear).mono = s.mono ∧ (s.askScrub y c clear).sysTime = s.sysTime := by
  simp only [State.askScrub, State.clock_ite, ite_self, State.clock_scrubInputs, and_self]

theorem State.clock_tempNow (s : State) (y : Nat) : (s.tempNow y).2.mono = s.mono ∧ (s.tempNow y).2.sysTime = s.sysTime := by
  unfold State.tempNow
  split <;> simp only [State.clock_fresh, and_self]

theorem State.clock_modJob (s : State) (id : Nat) (f : JobState → JobState) :
    (s.modJob id f).mono = s.mono ∧ (s.modJob id f).sysTime = s.sysTime := by
  simp only [State.modJob, and_self]

theorem State.clock_closeInterval (s : State) (y : Nat) :
    (s.closeInterval y).mono = s.mono ∧ (s.closeInterval y).sysTime = s.sysTime := by
  simp only [State.closeInterval, State.clock_ite, ite_self, State.clock_tempNow, State.clock_setYard, State.clock_bump, and_self]

theorem State.clock_setOwner (s : State) (y o' : Nat) :
    (s.setOwner y o').mono = s.mono ∧ (s.setOwner y o').sysTime = s.sysTime := by
  simp only [State.setOwner, State.clock_ite, ite_self, State.clock_closeInterval, State.clock_put, State.clock_askScrub,
    State.clock_confEdge, and_self]

theorem State.clock_disown (s : State) (y : Nat) : (s.disown y).mono = s.mono ∧ (s.disown y).sysTime = s.sysTime := by
  simp only [State.disown, State.clock_setOwner, and_self]

theorem State.clock_closeOwned (s : State) (c : Nat) : (s.closeOwned c).mono = s.mono ∧ (s.closeOwned c).sysTime = s.sysTime := by
  simp only [State.closeOwned, State.clock_ite, ite_self, State.clock_foldl, implies_true, State.clock_closeInterval, and_self]

theorem State.clock_refreshStation (s : State) : s.refreshStation.mono = s.mono ∧ s.refreshStation.sysTime = s.sysTime := by
  simp only [State.refreshStation, State.clock_ite, ite_self, State.clock_put, and_self]

theorem State.clock_jobResult (s : State) (c st : Nat) :
    (s.jobResult c st).mono = s.mono ∧ (s.jobResult c st).sysTime = s.sysTime := by
  simp only [State.jobResult, State.clock_put, and_self]

theorem State.clock_jobBegin (s : State) (c tag : Nat) :
    (s.jobBegin c tag).1.mono = s.mono ∧ (s.jobBegin c tag).1.sysTime = s.sysTime := by
  unfold State.jobBegin
  split <;> simp only [State.clock_jobResult, State.clock_closeOwned, State.clock_confEdge, and_self]

theorem State.clock_jobEnd (s : State) (c tag : Nat) :
    (s.jobEnd c tag).1.mono = s.mono ∧ (s.jobEnd c tag).1.sysTime = s.sysTime := by
  unfold State.jobEnd
  split <;> simp only [State.clock_ite, ite_self, State.clock_jobResult, State.clock_refreshStation, State.clock_closeOwned,
    State.clock_modJob, State.clock_askScrub, State.clock_confEdge, and_self]

theorem State.clock_confSet (s : State) (c : Nat) : (s.confSet c).mono = s.mono ∧ (s.confSet c).sysTime = s.sysTime := by
  simp only [State.confSet, State.clock_put, State.clock_confEdge, and_self]

theorem State.clock_confClear (s : State) (c : Nat) : (s.confClear c).mono = s.mono ∧ (s.confClear c).sysTime = s.sysTime := by
  simp only [State.confClear, State.clock_ite, ite_self, State.clock_foldl, implies_true, State.clock_put, State.clock_setCtx,
    State.clock_askScrub, State.clock_confEdge, and_self]

/-! ### Caps -/

theorem State.clock_capInForce (s : State) (t : Nat) : (s.capInForce t).mono = s.mono ∧ (s.capInForce t).sysTime = s.sysTime := by
  simp only [State.capInForce, State.clock_put, and_self]

theorem State.clock_refreshDeferred (s : State) : s.refreshDeferred.mono = s.mono ∧ s.refreshDeferred.sysTime = s.sysTime := by
  simp only [State.refreshDeferred, State.clock_put, and_self]

theorem State.clock_countDefer (s : State) : s.countDefer.mono = s.mono ∧ s.countDefer.sysTime = s.sysTime := by
  simp only [State.countDefer, State.clock_bump, State.clock_evt, and_self]

theorem State.clock_capChanged (s : State) : s.capChanged.mono = s.mono ∧ s.capChanged.sysTime = s.sysTime := by
  unfold State.capChanged
  split <;> simp only [State.clock_ite, ite_self, State.clock_capInForce, State.clock_put, State.clock_countDefer,
    State.clock_refreshDeferred, and_self]

theorem State.clock_ctxCapChanged (s : State) (c : Nat) :
    (s.ctxCapChanged c).mono = s.mono ∧ (s.ctxCapChanged c).sysTime = s.sysTime := by
  unfold State.ctxCapChanged
  dsimp only
  (repeat' split) <;> simp only [State.clock_setCtx, State.clock_countDefer, State.clock_refreshDeferred, and_self]

/-! ### Domain sequences (R221-R233) -/

theorem State.clock_modDom (s : State) (d : Nat) (f : Dom → Dom) :
    (s.modDom d f).mono = s.mono ∧ (s.modDom d f).sysTime = s.sysTime := by
  simp only [State.modDom, State.clock_setDom, and_self]

theorem State.clock_setIso (s : State) (d : Nat) (on : Bool) :
    (s.setIso d on).mono = s.mono ∧ (s.setIso d on).sysTime = s.sysTime := by
  simp only [State.setIso, State.clock_put, and_self]

theorem State.clock_atStep (s : State) (d : Nat) (st : DomStep) :
    (s.atStep d st).mono = s.mono ∧ (s.atStep d st).sysTime = s.sysTime := by
  simp only [State.atStep, State.clock_modDom, State.clock_put, and_self]

theorem State.clock_orderYardBays (s : State) (y order : Nat) :
    (s.orderYardBays y order).mono = s.mono ∧ (s.orderYardBays y order).sysTime = s.sysTime := by
  simp only [State.orderYardBays, State.clock_foldl, implies_true, State.clock_sendBay, and_self]

theorem State.clock_stopYard (s : State) (y : Nat) : (s.stopYard y).mono = s.mono ∧ (s.stopYard y).sysTime = s.sysTime := by
  simp only [State.stopYard, State.clock_setYard, and_self]

theorem State.clock_beginStep (s : State) (d : Nat) (st : DomStep) :
    (s.beginStep d st).mono = s.mono ∧ (s.beginStep d st).sysTime = s.sysTime := by
  unfold State.beginStep
  dsimp only
  split <;> simp only [State.clock_ite, ite_self, State.clock_atStep, State.clock_setIso, State.clock_modDom, State.clock_setYard,
    State.clock_heatYard, State.clock_refreshBias, State.clock_put, State.clock_setBias, State.clock_orderSet,
    State.clock_deliver, and_self]

theorem State.clock_reqRes (s : State) (d code : Nat) (late : Bool) :
    (s.reqRes d code late).mono = s.mono ∧ (s.reqRes d code late).sysTime = s.sysTime := by
  simp only [State.reqRes, State.clock_ite, ite_self, State.clock_put, and_self]

theorem State.clock_endOrder (s : State) (d : Nat) (o : DomOrder) (code : Nat) (late : Bool) (result : Nat) :
    (s.endOrder d o code late result).mono = s.mono ∧ (s.endOrder d o code late result).sysTime = s.sysTime := by
  simp only [State.endOrder, State.clock_ite, ite_self, State.clock_foldl, implies_true, State.clock_evt, State.clock_bump,
    State.clock_reqRes, State.clock_finish, State.clock_finishOpt, and_self]

theorem State.clock_recordWake (s : State) (d : Nat) (o : DomOrder) (failed : Bool) :
    (s.recordWake d o failed).1.mono = s.mono ∧ (s.recordWake d o failed).1.sysTime = s.sysTime := by
  unfold State.recordWake
  dsimp only
  (repeat' split) <;> simp only [State.clock_put, State.clock_logEvent, State.clock_bump, State.clock_evt, and_self]

theorem State.clock_fenceYard (s : State) (y : Nat) : (s.fenceYard y).mono = s.mono ∧ (s.fenceYard y).sysTime = s.sysTime := by
  simp only [State.fenceYard, State.clock_ite, ite_self, State.clock_setYard, State.clock_put, State.clock_logEvent,
    State.clock_evt, State.clock_disown, State.clock_notice, and_self]

theorem State.clock_railState (s : State) (r st : Nat) :
    (s.railState r st).mono = s.mono ∧ (s.railState r st).sysTime = s.sysTime := by
  simp only [State.railState, State.clock_setRail, State.clock_put, and_self]

theorem State.clock_railOffOne (s : State) (r : Nat) : (s.railOffOne r).mono = s.mono ∧ (s.railOffOne r).sysTime = s.sysTime := by
  simp only [State.railOffOne, State.clock_ite, ite_self, State.clock_foldl, implies_true, State.clock_put, State.clock_railState,
    and_self]

theorem State.clock_railOffCheck (s : State) : s.railOffCheck.mono = s.mono ∧ s.railOffCheck.sysTime = s.sysTime := by
  simp only [State.railOffCheck, State.clock_railOffOne, and_self]

theorem State.clock_enterLow (s : State) (d t : Nat) : (s.enterLow d t).mono = s.mono ∧ (s.enterLow d t).sysTime = s.sysTime := by
  simp only [State.enterLow, State.clock_ite, ite_self, State.clock_put, State.clock_orderYardBays, State.clock_modDom,
    State.clock_stopYard, and_self]

theorem State.clock_biasWritten (s : State) (d : Nat) :
    (s.biasWritten d).mono = s.mono ∧ (s.biasWritten d).sysTime = s.sysTime := by
  simp only [State.biasWritten, State.clock_ite, ite_self, State.clock_put, State.clock_refreshBias, and_self]

theorem State.clock_releaseNeighbours (s : State) (y : Nat) :
    (s.releaseNeighbours y).mono = s.mono ∧ (s.releaseNeighbours y).sysTime = s.sysTime := by
  simp only [State.releaseNeighbours, State.clock_foldl, implies_true, State.clock_setYard, and_self]

theorem State.clock_reachState (s : State) (d t : Nat) :
    (s.reachState d t).mono = s.mono ∧ (s.reachState d t).sysTime = s.sysTime := by
  unfold State.reachState
  dsimp only
  (repeat' split) <;> simp only [State.clock_enterLow, State.clock_put, State.clock_atStep, State.clock_releaseNeighbours,
    State.clock_recordWake, State.clock_modDom, State.clock_endOrder, State.clock_disown, State.clock_railOffCheck,
    State.clock_fenceYard, State.clock_applyHeld, and_self]

theorem State.clock_haltDom (s : State) (d : Nat) : (s.haltDom d).mono = s.mono ∧ (s.haltDom d).sysTime = s.sysTime := by
  unfold State.haltDom
  dsimp only
  split <;> simp only [State.clock_modDom, State.clock_atStep, State.clock_put, State.clock_releaseNeighbours,
    State.clock_endOrder, State.clock_railOffCheck, and_self]

theorem State.clock_advance (k d : Nat) (s : State) :
    (State.advance k d s).mono = s.mono ∧ (State.advance k d s).sysTime = s.sysTime := by
  induction k generalizing s with
  | zero => exact ⟨rfl, rfl⟩
  | succ k ih =>
    unfold State.advance
    split
    · exact s.clock_reachState _ _
    · simp only [State.clock_ite, ite_self, State.clock_haltDom, State.clock_beginStep, ih, and_self]

theorem State.clock_goOn (s : State) (d : Nat) : (s.goOn d).mono = s.mono ∧ (s.goOn d).sysTime = s.sysTime := by
  simp only [State.goOn, State.clock_advance, and_self]

theorem State.clock_placeOrder (s : State) (d t : Nat) (src : OrderSrc) (byReg : Bool) (tag : Option CmdTag) :
    (s.placeOrder d t src byReg tag).1.mono = s.mono ∧ (s.placeOrder d t src byReg tag).1.sysTime = s.sysTime := by
  unfold State.placeOrder
  dsimp only
  (repeat' split) <;> simp only [State.clock_bump, State.clock_evt, State.clock_endOrder, State.clock_modDom, State.clock_put,
    State.clock_endHeat, State.clock_goOn, and_self]

theorem State.clock_pinCheck (s : State) (d : Nat) : (s.pinCheck d).mono = s.mono ∧ (s.pinCheck d).sysTime = s.sysTime := by
  simp only [State.pinCheck, State.clock_ite, ite_self, State.clock_placeOrder, State.clock_bump, State.clock_evt, and_self]

theorem State.clock_orderByReg (s : State) (d t : Nat) (src : OrderSrc) :
    (s.orderByReg d t src).mono = s.mono ∧ (s.orderByReg d t src).sysTime = s.sysTime := by
  simp only [State.orderByReg, State.clock_put, State.clock_placeOrder, State.clock_reqRes, State.clock_pinCheck, and_self]

theorem State.clock_wakeReady (s : State) (d : Nat) : (s.wakeReady d).mono = s.mono ∧ (s.wakeReady d).sysTime = s.sysTime := by
  simp only [State.wakeReady, State.clock_ite, ite_self, State.clock_put, State.clock_modDom, State.clock_setBias,
    State.clock_orderYardBays, State.clock_atStep, and_self]

theorem State.clock_deferCheck (s : State) (d : Nat) : (s.deferCheck d).mono = s.mono ∧ (s.deferCheck d).sysTime = s.sysTime := by
  unfold State.deferCheck
  dsimp only
  split <;> simp only [State.clock_ite, ite_self, State.clock_wakeReady, and_self]

theorem State.clock_domCycle (s : State) (d : Nat) : (s.domCycle d).mono = s.mono ∧ (s.domCycle d).sysTime = s.sysTime := by
  simp only [State.domCycle, State.clock_deferCheck, State.clock_pinCheck, State.clock_refreshBias, and_self]

theorem State.clock_abortDom (s : State) (d : Nat) (tag by_ : CmdTag) :
    (s.abortDom d tag by_).1.mono = s.mono ∧ (s.abortDom d tag by_).1.sysTime = s.sysTime := by
  unfold State.abortDom
  split <;> simp only [State.clock_ite, ite_self, State.clock_modDom, and_self, apply_ite Prod.fst]

/-! ### Remounting -/

theorem State.clock_assignRemount (s : State) (y b : Nat) (tag : Option CmdTag) :
    (s.assignRemount y b tag).mono = s.mono ∧ (s.assignRemount y b tag).sysTime = s.sysTime := by
  simp only [State.assignRemount, State.clock_ite, ite_self, State.clock_modBay, State.clock_sendBay, and_self]

/-! ### Maintenance -/

theorem State.clock_endMaintCmds (s : State) (y code : Nat) :
    (s.endMaintCmds y code).mono = s.mono ∧ (s.endMaintCmds y code).sysTime = s.sysTime := by
  simp only [State.endMaintCmds, State.clock_setYard, State.clock_finishAll, and_self]

theorem State.clock_showMaint (s : State) (y : Nat) (b : Bool) :
    (s.showMaint y b).mono = s.mono ∧ (s.showMaint y b).sysTime = s.sysTime := by
  simp only [State.showMaint, State.clock_put, State.clock_evt, State.clock_endMaintCmds, and_self]

theorem State.clock_enterMaint (s : State) (y : Nat) : (s.enterMaint y).mono = s.mono ∧ (s.enterMaint y).sysTime = s.sysTime := by
  simp only [State.enterMaint, State.clock_ite, ite_self, State.clock_setYard, State.clock_put, State.clock_withdrawPresets,
    and_self]

theorem State.clock_leaveMaint (s : State) (y : Nat) : (s.leaveMaint y).mono = s.mono ∧ (s.leaveMaint y).sysTime = s.sysTime := by
  simp only [State.leaveMaint, State.clock_ite, ite_self, State.clock_put, State.clock_setYard, State.clock_showMaint,
    State.clock_endPrecond, State.clock_freeFloor, and_self]

theorem State.clock_maintWritten (s : State) (y : Nat) :
    (s.maintWritten y).mono = s.mono ∧ (s.maintWritten y).sysTime = s.sysTime := by
  simp only [State.maintWritten, State.clock_ite, ite_self, State.clock_endMaintCmds, State.clock_enterMaint,
    State.clock_showMaint, State.clock_leaveMaint, and_self]

theorem State.clock_endPause (s : State) (y : Nat) : (s.endPause y).mono = s.mono ∧ (s.endPause y).sysTime = s.sysTime := by
  simp only [State.endPause, State.clock_put, State.clock_setYard, and_self]

theorem State.clock_clearSuspect (s : State) (y p : Nat) :
    (s.clearSuspect y p).1.mono = s.mono ∧ (s.clearSuspect y p).1.sysTime = s.sysTime := by
  unfold State.clearSuspect
  dsimp only
  split <;> simp only [State.clock_put, and_self]

/-! ### Plans and records -/

theorem State.clock_refreshWear (s : State) (b : Nat) :
    (s.refreshWear b).mono = s.mono ∧ (s.refreshWear b).sysTime = s.sysTime := by
  simp only [State.refreshWear, State.clock_ite, ite_self, State.clock_put, State.clock_evt, and_self]

theorem State.clock_beginPlan (s : State) : s.beginPlan.mono = s.mono ∧ s.beginPlan.sysTime = s.sysTime := by
  simp only [State.beginPlan, State.clock_foldl, implies_true, State.clock_setCluster, State.clock_put, and_self]

theorem State.clock_startPlan (s : State) (tag : Option CmdTag) :
    (s.startPlan tag).1.mono = s.mono ∧ (s.startPlan tag).1.sysTime = s.sysTime := by
  simp only [State.startPlan, State.clock_ite, ite_self, State.clock_put, State.clock_beginPlan, and_self, apply_ite Prod.fst]

theorem State.clock_resumePlan (s : State) : s.resumePlan.mono = s.mono ∧ s.resumePlan.sysTime = s.sysTime := by
  simp only [State.resumePlan, State.clock_ite, ite_self, State.clock_beginPlan, and_self]

theorem State.clock_startRecord (s : State) (y : Nat) (clear : Bool) (base : Option (Nat × Nat)) (tag : Option CmdTag) :
    (s.startRecord y clear base tag).1.mono = s.mono ∧ (s.startRecord y clear base tag).1.sysTime = s.sysTime := by
  simp only [State.startRecord, State.clock_ite, ite_self, and_self, apply_ite Prod.fst]

/-! ### Stages and rails -/

theorem State.clock_phaseClear (s : State) (bits : Nat) :
    (s.phaseClear bits).mono = s.mono ∧ (s.phaseClear bits).sysTime = s.sysTime := by
  simp only [State.phaseClear, State.clock_foldl, implies_true, State.clock_put, State.clock_refreshService, State.clock_setPhase,
    and_self]

theorem State.clock_clearLatches (s : State) (r : Nat) :
    (s.clearLatches r).mono = s.mono ∧ (s.clearLatches r).sysTime = s.sysTime := by
  simp only [State.clearLatches, State.clock_foldl, implies_true, State.clock_put, State.clock_refreshService,
    State.clock_setPhase, and_self]

theorem State.clock_startRamp (s : State) (r : Nat) (alone : Bool) :
    (s.startRamp r alone).mono = s.mono ∧ (s.startRamp r alone).sysTime = s.sysTime := by
  simp only [State.startRamp, State.clock_clearLatches, State.clock_setRail, State.clock_put, and_self]

theorem State.clock_startRail (s : State) (r : Nat) : (s.startRail r).mono = s.mono ∧ (s.startRail r).sysTime = s.sysTime := by
  simp only [State.startRail, State.clock_ite, ite_self, State.clock_put, State.clock_clearLatches, State.clock_railState,
    State.clock_deassertSource, State.clock_startRamp, and_self]

theorem State.clock_railOn (s : State) (r : Nat) : (s.railOn r).mono = s.mono ∧ (s.railOn r).sysTime = s.sysTime := by
  simp only [State.railOn, State.clock_foldl, implies_true, State.clock_startRail, and_self]

theorem State.clock_railOff (s : State) (r : Nat) : (s.railOff r).mono = s.mono ∧ (s.railOff r).sysTime = s.sysTime := by
  simp only [State.railOff, State.clock_ite, ite_self, State.clock_foldl, implies_true, State.clock_put, State.clock_railOffCheck,
    and_self]

theorem State.clock_voutSet (s : State) (r code : Nat) :
    (s.voutSet r code).mono = s.mono ∧ (s.voutSet r code).sysTime = s.sysTime := by
  simp only [State.voutSet, State.clock_setRail, State.clock_put, and_self]

theorem State.clock_rateWritten (s s0 : State) (r : Nat) :
    (s.rateWritten s0 r).mono = s.mono ∧ (s.rateWritten s0 r).sysTime = s.sysTime := by
  simp only [State.rateWritten, State.clock_setRail, and_self]

/-! ### Proof and preconditioning -/

theorem State.clock_startProof (s : State) (y : Nat) :
    (s.startProof y).1.mono = s.mono ∧ (s.startProof y).1.sysTime = s.sysTime := by
  simp only [State.startProof, State.clock_ite, ite_self, State.clock_setYard, State.clock_heatYard, and_self, apply_ite Prod.fst]

theorem State.clock_proofGo (s : State) (y : Nat) : (s.proofGo y).mono = s.mono ∧ (s.proofGo y).sysTime = s.sysTime := by
  simp only [State.proofGo, State.clock_startProof, State.clock_put, and_self]

theorem State.clock_precondGo (s : State) (y : Nat) : (s.precondGo y).mono = s.mono ∧ (s.precondGo y).sysTime = s.sysTime := by
  simp only [State.precondGo, State.clock_ite, ite_self, State.clock_endPrecond, State.clock_put, State.clock_evt,
    State.clock_setYard, and_self]

end Sys2Proof.Machine
end

section
/-!
SUPPORT. The elapsed time and system time pass in the tick alone (R24, R38): what else a step does leaves both as they are. Here:
the logbook, the ports and the resets. Obligation IdleStepPassesOneCycle.
-/

namespace Sys2Proof.Machine

/-! ### The logbook -/

theorem State.clock_saveTime (s : State) : s.saveTime.mono = s.mono ∧ s.saveTime.sysTime = s.sysTime := by
  simp only [State.saveTime, State.clock_ite, ite_self, State.clock_eraseFlash, State.clock_program, and_self]

theorem State.clock_freezeNow (s : State) : s.freezeNow.mono = s.mono ∧ s.freezeNow.sysTime = s.sysTime := by
  simp only [State.freezeNow, State.clock_ite, ite_self, State.clock_put, State.clock_evt, State.clock_finishOpt, and_self]

theorem State.clock_freezeLog (s : State) (tag : Option CmdTag) :
    (s.freezeLog tag).mono = s.mono ∧ (s.freezeLog tag).sysTime = s.sysTime := by
  simp only [State.freezeLog, State.clock_ite, ite_self, State.clock_finishOpt, State.clock_put, State.clock_freezeNow, and_self]

theorem State.clock_releaseLog (s : State) : s.releaseLog.mono = s.mono ∧ s.releaseLog.sysTime = s.sysTime := by
  simp only [State.releaseLog, State.clock_ite, ite_self, State.clock_put, State.clock_finishOpt, State.clock_logEvent, and_self]

theorem State.clock_logRead (s : State) (i : Nat) : (s.logRead i).mono = s.mono ∧ (s.logRead i).sysTime = s.sysTime := by
  simp only [State.logRead, State.clock_ite, ite_self, State.clock_foldl, implies_true, State.clock_put, State.clock_evt,
    and_self]

theorem State.clock_startErase (s : State) (region : Nat) :
    (s.startErase region).mono = s.mono ∧ (s.startErase region).sysTime = s.sysTime := by
  simp only [State.startErase, State.clock_ite, ite_self, State.clock_put, and_self]

/-! ### The flash port -/

theorem State.clock_flsGo (s : State) (op : Nat) (q : Requester) :
    (s.flsGo op q).mono = s.mono ∧ (s.flsGo op q).sysTime = s.sysTime := by
  unfold State.flsGo
  split <;> simp only [State.clock_put, State.clock_evt, and_self]

/-! ### Faults -/

theorem State.clock_wireBreak (s : State) (unit kind : Nat) :
    (s.wireBreak unit kind).mono = s.mono ∧ (s.wireBreak unit kind).sysTime = s.sysTime := by
  simp only [State.wireBreak, State.clock_put, State.clock_bump, State.clock_evt, State.clock_raise, and_self]

theorem State.clock_ackClass (s : State) (c : Nat) : (s.ackClass c).mono = s.mono ∧ (s.ackClass c).sysTime = s.sysTime := by
  simp only [State.ackClass, State.clock_foldl, implies_true, State.clock_put, and_self]

theorem State.clock_fltAck (s : State) (bits : Nat) : (s.fltAck bits).mono = s.mono ∧ (s.fltAck bits).sysTime = s.sysTime := by
  simp only [State.fltAck, State.clock_foldl, implies_true, State.clock_ackClass, State.clock_refreshPair, and_self]

theorem State.clock_recover (s : State) (how : Nat) : (s.recover how).mono = s.mono ∧ (s.recover how).sysTime = s.sysTime := by
  simp only [State.recover, State.clock_foldl, implies_true, State.clock_put, State.clock_logEvent, State.clock_evt,
    State.clock_freeFloor, State.clock_refreshPair, State.clock_resumePlan, and_self]

theorem State.clock_injectGo (s : State) (mode target code : Nat) :
    (s.injectGo mode target code).mono = s.mono ∧ (s.injectGo mode target code).sysTime = s.sysTime := by
  simp only [State.injectGo, State.clock_ite, ite_self, State.clock_bump, State.clock_put, State.clock_evt, State.clock_raiseWith,
    State.clock_wireBreak, and_self]

/-! ### Telemetry streams -/

theorem State.clock_modStream (s : State) (t : Nat) (f : Tdm → Tdm) :
    (s.modStream t f).mono = s.mono ∧ (s.modStream t f).sysTime = s.sysTime := by
  simp only [State.modStream, State.clock_setStream, and_self]

theorem State.clock_tdmFail (s : State) (t : Nat) (outside : Bool) :
    (s.tdmFail t outside).mono = s.mono ∧ (s.tdmFail t outside).sysTime = s.sysTime := by
  unfold State.tdmFail
  split
  · exact ⟨rfl, rfl⟩
  · split <;> simp only [State.clock_modStream, State.clock_put, State.clock_tdmErr, and_self]

theorem State.clock_tdmKick (s : State) (t : Nat) : (s.tdmKick t).mono = s.mono ∧ (s.tdmKick t).sysTime = s.sysTime := by
  simp only [State.tdmKick, State.clock_ite, ite_self, State.clock_tdmFail, and_self]

theorem State.clock_tdmGo (s : State) (t : Nat) : (s.tdmGo t).mono = s.mono ∧ (s.tdmGo t).sysTime = s.sysTime := by
  simp only [State.tdmGo, State.clock_ite, ite_self, State.clock_modStream, State.clock_put64, State.clock_put,
    State.clock_tdmKick, and_self]

theorem State.clock_tdmStop (s : State) (t : Nat) : (s.tdmStop t).mono = s.mono ∧ (s.tdmStop t).sysTime = s.sysTime := by
  simp only [State.tdmStop, State.clock_ite, ite_self, State.clock_modStream, State.clock_tdmKick, State.clock_put, and_self]

/-! ### PMBus -/

theorem State.clock_scanGo (s : State) : s.scanGo.mono = s.mono ∧ s.scanGo.sysTime = s.sysTime := by
  simp only [State.scanGo, and_self]

theorem State.clock_rawGo (s : State) : s.rawGo.mono = s.mono ∧ s.rawGo.sysTime = s.sysTime := by
  unfold State.rawGo
  split <;> simp only [State.clock_put, State.clock_evt, and_self]

/-! ### Resets and the start -/

theorem State.clock_clearUnlocks (s : State) : s.clearUnlocks.mono = s.mono ∧ s.clearUnlocks.sysTime = s.sysTime := by
  simp only [State.clearUnlocks, State.clock_foldl, implies_true, State.clock_setWord, State.clock_put, and_self]

theorem State.clock_stopStreams (s : State) : s.stopStreams.mono = s.mono ∧ s.stopStreams.sysTime = s.sysTime := by
  simp only [State.stopStreams, State.clock_foldl, implies_true, State.clock_modStream, State.clock_put, and_self]

theorem State.clock_anyReset (s : State) : s.anyReset.mono = s.mono ∧ s.anyReset.sysTime = s.sysTime := by
  simp only [State.anyReset, State.clock_clearUnlocks, State.clock_stopStreams, State.clock_put, and_self]

theorem State.clock_dropErrors (s : State) (mems : List Nat) :
    (s.dropErrors mems).mono = s.mono ∧ (s.dropErrors mems).sysTime = s.sysTime := by
  simp only [State.dropErrors, and_self]

theorem State.clock_retireStorePage (s : State) (p : Nat) :
    (s.retireStorePage p).mono = s.mono ∧ (s.retireStorePage p).sysTime = s.sysTime := by
  simp only [State.retireStorePage, State.clock_put, State.clock_retireFrames, and_self]

theorem State.clock_memTestFail (s : State) (f : MemFail) :
    (s.memTestFail f).mono = s.mono ∧ (s.memTestFail f).sysTime = s.sysTime := by
  simp only [State.memTestFail, State.clock_ite, ite_self, State.clock_put, State.clock_raiseWith, State.clock_retireStorePage,
    State.clock_assertSource, and_self]

theorem State.clock_memTest (s : State) (l : List Nat) : (s.memTest l).mono = s.mono ∧ (s.memTest l).sysTime = s.sysTime := by
  simp only [State.memTest, State.clock_foldl, implies_true, State.clock_memTestFail, and_self]

theorem State.clock_cpResetGo (s : State) : s.cpResetGo.mono = s.mono ∧ s.cpResetGo.sysTime = s.sysTime := by
  simp only [State.cpResetGo, State.clock_ite, ite_self, State.clock_logEvent, State.clock_anyReset, State.clock_dropErrors,
    State.clock_put, State.clock_memTest, and_self]

theorem State.clock_memInit (s : State) (por : Bool) : (s.memInit por).mono = s.mono ∧ (s.memInit por).sysTime = s.sysTime := by
  simp only [State.memInit, State.clock_dropErrors, State.clock_memTest, and_self]

theorem State.clock_readSfdp (s : State) : s.readSfdp.mono = s.mono ∧ s.readSfdp.sysTime = s.sysTime := by
  unfold State.readSfdp
  dsimp only
  split <;> simp only [State.clock_put, State.clock_raise, and_self]

theorem State.clock_loadBoard (s : State) (por : Bool) :
    (s.loadBoard por).mono = s.mono ∧ (s.loadBoard por).sysTime = s.sysTime := by
  unfold State.loadBoard
  dsimp only
  split <;> simp only [State.clock_ite, ite_self, State.clock_raise, State.clock_assertSource, State.clock_put,
    State.clock_setWord, and_self]

theorem State.clock_loadFarYard (l : List Byte) (s : State) (y : Nat) :
    (State.loadFarYard l s y).mono = s.mono ∧ (State.loadFarYard l s y).sysTime = s.sysTime := by
  simp only [State.loadFarYard, State.clock_foldl, implies_true, State.clock_put, State.clock_setYard, and_self]

theorem State.clock_loadFarBay (l : List Byte) (s : State) (b : Nat) :
    (State.loadFarBay l s b).mono = s.mono ∧ (State.loadFarBay l s b).sysTime = s.sysTime := by
  simp only [State.loadFarBay, State.clock_modBay, and_self]

theorem State.clock_remakeSubst (s : State) (b : Nat) :
    (s.remakeSubst b).mono = s.mono ∧ (s.remakeSubst b).sysTime = s.sysTime := by
  unfold State.remakeSubst
  dsimp only
  (repeat' split) <;> simp only [State.clock_assignRemount, and_self]

theorem State.clock_loadFarrier (s : State) : s.loadFarrier.mono = s.mono ∧ s.loadFarrier.sysTime = s.sysTime := by
  unfold State.loadFarrier
  dsimp only
  split <;> simp only [State.clock_foldl, implies_true, State.clock_loadFarYard, State.clock_remakeSubst, State.clock_loadFarBay,
    and_self]

theorem State.clock_loadTimeKeeping (s : State) : s.loadTimeKeeping.mono = s.mono ∧ s.loadTimeKeeping.sysTime = s.sysTime := by
  unfold State.loadTimeKeeping
  dsimp only
  split <;> simp only [State.clock_eraseFlash, State.clock_put, State.clock_saveTime, and_self]

theorem State.clock_discover (s : State) (p : Nat) : (s.discover p).mono = s.mono ∧ (s.discover p).sysTime = s.sysTime := by
  simp only [State.discover, State.clock_ite, ite_self, State.clock_put, State.clock_evt, State.clock_raise, and_self]

theorem State.clock_discoverAll (s : State) : s.discoverAll.mono = s.mono ∧ s.discoverAll.sysTime = s.sysTime := by
  simp only [State.discoverAll, State.clock_ite, ite_self, State.clock_foldl, implies_true, State.clock_discover,
    State.clock_refreshService, State.clock_evt, State.clock_assertSource, State.clock_raise, and_self]

theorem State.clock_reraiseTrip (s : State) : s.reraiseTrip.mono = s.mono ∧ s.reraiseTrip.sysTime = s.sysTime := by
  simp only [State.reraiseTrip, State.clock_ite, ite_self, State.clock_assertSource, State.clock_raise, and_self]

theorem State.clock_startUp (s : State) (por : Bool) : (s.startUp por).mono = s.mono ∧ (s.startUp por).sysTime = s.sysTime := by
  simp only [State.startUp, State.clock_ite, ite_self, State.clock_foldl, implies_true, State.clock_loadTimeKeeping,
    State.clock_reraiseTrip, State.clock_memInit, State.clock_readSfdp, State.clock_logEvent, State.clock_loadBoard,
    State.clock_loadSxt, State.clock_loadFarrier, State.clock_discoverAll, and_self]

theorem State.clock_endRunning (s : State) : s.endRunning.mono = s.mono ∧ s.endRunning.sysTime = s.sysTime := by
  simp only [State.endRunning, State.clock_foldl, implies_true, State.clock_finish, and_self]

theorem State.clock_blockRest (s : State) : s.blockRest.mono = s.mono ∧ s.blockRest.sysTime = s.sysTime := by
  simp only [State.blockRest, State.clock_foldl, implies_true, State.clock_setDom, State.clock_setYard, State.clock_put,
    State.clock_zeroBal, State.clock_refreshAssert, State.clock_capChanged, State.clock_startUp, State.clock_refreshPair,
    and_self]

theorem State.clock_blockResetGo (s : State) (i : StartInputs) :
    (s.blockResetGo i).mono = s.mono ∧ (s.blockResetGo i).sysTime = s.sysTime := by
  simp only [State.blockResetGo, State.clock_ite, ite_self, State.clock_foldl, implies_true, State.clock_logEvent,
    State.clock_anyReset, State.clock_put, State.clock_endRunning, State.clock_endHeat, State.clock_modDom,
    State.clock_placeOrder, State.clock_refreshPair, State.clock_blockRest, and_self]

end Sys2Proof.Machine
end

section
/-!
SUPPORT. The elapsed time and system time pass in the tick alone (R24, R38): what else a step does leaves both as they are. Here:
register writes, commands and the cores. Obligation IdleStepPassesOneCycle.
-/

namespace Sys2Proof.Machine

/-! ### Register writes -/

theorem State.clock_pageAccess (s : State) (page op : Nat) (c : Cls) :
    (s.pageAccess page op c).mono = s.mono ∧ (s.pageAccess page op c).sysTime = s.sysTime := by
  simp only [State.pageAccess, State.clock_ite, ite_self, State.clock_put, and_self]

theorem State.clock_recordAccess (s : State) (region page op : Nat) :
    (s.recordAccess region page op).mono = s.mono ∧ (s.recordAccess region page op).sysTime = s.sysTime := by
  simp only [State.recordAccess, State.clock_ite, ite_self, State.clock_put, and_self]

theorem State.clock_uslotWritten (s : State) (slot : Nat) (old : Nat) :
    (s.uslotWritten slot old).mono = s.mono ∧ (s.uslotWritten slot old).sysTime = s.sysTime := by
  simp only [State.uslotWritten, State.clock_ite, ite_self, State.clock_foldl, implies_true, State.clock_setWord,
    State.clock_confEdge, and_self]

theorem State.clock_railsReady (s : State) : s.railsReady.mono = s.mono ∧ s.railsReady.sysTime = s.sysTime := by
  simp only [State.railsReady, State.clock_ite, ite_self, State.clock_deassertSource, and_self]

theorem State.clock_railMapped (s : State) : s.railMapped.mono = s.mono ∧ s.railMapped.sysTime = s.sysTime := by
  simp only [State.railMapped, State.clock_ite, ite_self, State.clock_foldl, implies_true, State.clock_refreshService,
    State.clock_deassertSource, and_self]

theorem State.clock_bayOrder (s : State) (b order : Nat) :
    (s.bayOrder b order).mono = s.mono ∧ (s.bayOrder b order).sysTime = s.sysTime := by
  simp only [State.bayOrder, State.clock_ite, ite_self, State.clock_sendBay, and_self]

theorem State.clock_remountGo (s : State) (b : Nat) (connect side : Bool) (tag : Option CmdTag) :
    (s.remountGo b connect side tag).mono = s.mono ∧ (s.remountGo b connect side tag).sysTime = s.sysTime := by
  unfold State.remountGo
  split <;> simp only [State.clock_ite, ite_self, State.clock_assignRemount, State.clock_modBay, State.clock_sendBay,
    State.clock_finishAll, and_self]

theorem State.clock_endHold (s : State) (how : Nat) : (s.endHold how).mono = s.mono ∧ (s.endHold how).sysTime = s.sysTime := by
  simp only [State.endHold, State.clock_recover, State.clock_put, and_self]

theorem State.clock_afterPage (s s0 : State) (q : Requester) (a : Nat) (w : Word) (got : Nat → Bool) :
    (s.afterPage s0 q a w got).mono = s.mono ∧ (s.afterPage s0 q a w got).sysTime = s.sysTime := by
  simp only [State.afterPage, State.clock_ite, ite_self, State.clock_foldl, implies_true, State.clock_pageAccess,
    State.clock_cpResetGo, State.clock_blockResetGo, State.clock_recordAccess, State.clock_put, State.clock_evt,
    State.clock_uslotWritten, State.clock_runWritten, State.clock_loadGo, State.clock_orderByReg, State.clock_redeliver,
    State.clock_biasWritten, State.clock_pinCheck, State.clock_capChanged, State.clock_ctxCapChanged, State.clock_jobEnd,
    State.clock_jobBegin, State.clock_setOwner, State.clock_proofGo, State.clock_endPrecond, State.clock_precondGo,
    State.clock_fltAck, State.clock_endHold, State.clock_retireFrames, State.clock_injectGo, State.clock_refreshPair,
    State.clock_freezeLog, State.clock_releaseLog, State.clock_startErase, State.clock_logRead, State.clock_confSet,
    State.clock_confClear, State.clock_startPlan, State.clock_clearSuspect, State.clock_refreshWear, State.clock_endPause,
    State.clock_tdmStop, State.clock_tdmGo, State.clock_railMapped, State.clock_phaseClear, State.clock_railOn,
    State.clock_railsReady, State.clock_railOff, State.clock_voutSet, State.clock_rateWritten, State.clock_scanGo,
    State.clock_rawGo, State.clock_flsGo, State.clock_maintWritten, and_self]

theorem State.clock_afterSxt (s : State) (a : Nat) (w : Word) (got : Nat → Bool) :
    (s.afterSxt a w got).mono = s.mono ∧ (s.afterSxt a w got).sysTime = s.sysTime := by
  unfold State.afterSxt
  dsimp only
  (repeat' split) <;> simp only [State.clock_urgGo, State.clock_strStop, State.clock_strGo, State.clock_windowWritten,
    State.clock_weightWritten, State.clock_calZero, State.clock_calFull, State.clock_calAbort, and_self]

theorem State.clock_afterYrd (s s0 : State) (a : Nat) (w : Word) (got : Nat → Bool) :
    (s.afterYrd s0 a w got).mono = s.mono ∧ (s.afterYrd s0 a w got).sysTime = s.sysTime := by
  simp only [State.afterYrd, State.clock_ite, ite_self, State.clock_redeliver, State.clock_deliver, State.clock_sendDroop,
    and_self]

theorem State.clock_afterBay (s : State) (a : Nat) (w : Word) (got : Nat → Bool) :
    (s.afterBay a w got).mono = s.mono ∧ (s.afterBay a w got).sysTime = s.sysTime := by
  simp only [State.afterBay, State.clock_ite, ite_self, State.clock_bayOrder, State.clock_sendBay, State.clock_remountGo,
    and_self]

theorem State.clock_afterWord (s s0 : State) (q : Requester) (a : Nat) (w : Word) (got : Nat → Bool) :
    (s.afterWord s0 q a w got).mono = s.mono ∧ (s.afterWord s0 q a w got).sysTime = s.sysTime := by
  simp only [State.afterWord, State.clock_ite, ite_self, State.clock_memWritten, State.clock_afterBay, State.clock_afterYrd,
    State.clock_afterSxt, State.clock_afterPage, and_self]

theorem State.clock_fieldWrite (s : State) (q : Requester) (l : List (Fld × Nat)) :
    (s.fieldWrite q l).1.mono = s.mono ∧ (s.fieldWrite q l).1.sysTime = s.sysTime := by
  unfold State.fieldWrite
  dsimp only
  split
  · exact ⟨rfl, rfl⟩
  · split <;> simp only [State.clock_foldl, implies_true, State.clock_setWord, State.clock_admitRefused, State.clock_afterWord, and_self]

/-! ### Commands -/

theorem State.clock_stopRunning (s : State) (e : Entry) :
    (s.stopRunning e).1.mono = s.mono ∧ (s.stopRunning e).1.sysTime = s.sysTime := by
  simp only [State.stopRunning, State.clock_ite, ite_self, State.clock_strStop, State.clock_calAbort, and_self, apply_ite
    Prod.fst]

theorem State.clock_abortStarted (s : State) (t : CmdTag) (e : Entry) :
    (s.abortStarted t e).mono = s.mono ∧ (s.abortStarted t e).sysTime = s.sysTime := by
  simp only [State.abortStarted, State.clock_ite, ite_self, State.clock_abortDom, State.clock_stopRunning, State.clock_finish,
    State.clock_modEntry, and_self, apply_ite Prod.fst]

theorem State.clock_abortCmd (s : State) (t : CmdTag) (a : Entry) :
    (s.abortCmd t a).mono = s.mono ∧ (s.abortCmd t a).sysTime = s.sysTime := by
  unfold State.abortCmd
  (repeat' split) <;> simp only [State.clock_finish, State.clock_abortStarted, and_self]

theorem State.clock_ended (s : State) (t : CmdTag) (code : Nat) (result : Word) :
    (s.ended t code result).mono = s.mono ∧ (s.ended t code result).sysTime = s.sysTime := by
  simp only [State.ended, State.clock_finish, and_self]

theorem State.clock_remountCmd (s : State) (t : CmdTag) (e : Entry) :
    (s.remountCmd t e).mono = s.mono ∧ (s.remountCmd t e).sysTime = s.sysTime := by
  simp only [State.remountCmd, State.clock_ite, ite_self, State.clock_fieldWrite, State.clock_ended, State.clock_remountGo,
    State.clock_finishAll, State.clock_modBay, and_self]

theorem State.clock_domainCmd (s : State) (t : CmdTag) (e : Entry) :
    (s.domainCmd t e).mono = s.mono ∧ (s.domainCmd t e).sysTime = s.sysTime := by
  simp only [State.domainCmd, State.clock_ite, ite_self, State.clock_placeOrder, State.clock_ended, State.clock_pinCheck,
    and_self]

theorem State.clock_maintCmd (s : State) (t : CmdTag) (e : Entry) :
    (s.maintCmd t e).mono = s.mono ∧ (s.maintCmd t e).sysTime = s.sysTime := by
  simp only [State.maintCmd, State.clock_ite, ite_self, State.clock_fieldWrite, State.clock_ended, State.clock_setYard, and_self]

theorem State.clock_jobCmd (s : State) (t : CmdTag) (e : Entry) :
    (s.jobCmd t e).mono = s.mono ∧ (s.jobCmd t e).sysTime = s.sysTime := by
  simp only [State.jobCmd, State.clock_ite, ite_self, State.clock_put, State.clock_jobEnd, State.clock_jobBegin,
    State.clock_ended, and_self, apply_ite Prod.fst]

theorem State.clock_bundleCmd (s : State) (t : CmdTag) (e : Entry) :
    (s.bundleCmd t e).mono = s.mono ∧ (s.bundleCmd t e).sysTime = s.sysTime := by
  simp only [State.bundleCmd, State.clock_ite, ite_self, State.clock_put, State.clock_put64, State.clock_loadGo,
    State.clock_ended, and_self]

theorem State.clock_captureCmd (s : State) (t : CmdTag) (e : Entry) :
    (s.captureCmd t e).mono = s.mono ∧ (s.captureCmd t e).sysTime = s.sysTime := by
  simp only [State.captureCmd, State.clock_ite, ite_self, State.clock_ended, State.clock_put, State.clock_put64,
    State.clock_strGo, and_self]

theorem State.clock_syscalCmd (s : State) (t : CmdTag) (e : Entry) :
    (s.syscalCmd t e).mono = s.mono ∧ (s.syscalCmd t e).sysTime = s.sysTime := by
  simp only [State.syscalCmd, State.clock_ite, ite_self, State.clock_calZero, State.clock_ended, State.clock_calFull, and_self]

theorem State.clock_freezeCmd (s : State) (t : CmdTag) (e : Entry) :
    (s.freezeCmd t e).mono = s.mono ∧ (s.freezeCmd t e).sysTime = s.sysTime := by
  simp only [State.freezeCmd, State.clock_ite, ite_self, State.clock_releaseLog, State.clock_ended, State.clock_freezeLog,
    and_self]

theorem State.clock_recordCmd (s : State) (t : CmdTag) (e : Entry) :
    (s.recordCmd t e).mono = s.mono ∧ (s.recordCmd t e).sysTime = s.sysTime := by
  simp only [State.recordCmd, State.clock_ite, ite_self, State.clock_startRecord, State.clock_ended, and_self]

theorem State.clock_startCmd (s : State) (t : CmdTag) : (s.startCmd t).mono = s.mono ∧ (s.startCmd t).sysTime = s.sysTime := by
  unfold State.startCmd
  dsimp only
  (repeat' split) <;> simp only [State.clock_modEntry, State.clock_fieldWrite, State.clock_ended, State.clock_abortCmd,
    State.clock_remountCmd, State.clock_domainCmd, State.clock_maintCmd, State.clock_jobCmd, State.clock_bundleCmd,
    State.clock_captureCmd, State.clock_syscalCmd, State.clock_startPlan, State.clock_recordCmd, State.clock_freezeCmd, and_self]

theorem State.clock_startAccepted (s : State) : s.startAccepted.mono = s.mono ∧ s.startAccepted.sysTime = s.sysTime := by
  simp only [State.startAccepted, State.clock_ite, ite_self, State.clock_foldl, implies_true, State.clock_startCmd, and_self]

theorem State.clock_countRefusal (s : State) (w : Window) (seqErr : Bool) :
    (s.countRefusal w seqErr).mono = s.mono ∧ (s.countRefusal w seqErr).sysTime = s.sysTime := by
  unfold State.countRefusal
  split <;> simp only [State.clock_ite, ite_self, State.clock_bump, State.clock_evt, and_self]

theorem State.clock_takeCommit (s : State) (w : Window) (slot : Nat) (seq : Word) :
    (s.takeCommit w slot seq).mono = s.mono ∧ (s.takeCommit w slot seq).sysTime = s.sysTime := by
  simp only [State.takeCommit, State.clock_ite, ite_self, State.clock_setWord, State.clock_countRefusal, State.clock_memWritten,
    State.clock_bump, State.clock_startCmd, and_self]

theorem State.clock_reissue (s : State) (e : Entry) : (s.reissue e).mono = s.mono ∧ (s.reissue e).sysTime = s.sysTime := by
  unfold State.reissue
  (repeat' split) <;> simp only [State.clock_finish, State.clock_modEntry, State.clock_startCmd, and_self]

theorem State.clock_serve (s : State) : s.serve.mono = s.mono ∧ s.serve.sysTime = s.sysTime := by
  simp only [State.serve, State.clock_foldl, implies_true, State.clock_reissue, State.clock_startAccepted, State.clock_takeCommit,
    and_self]

theorem State.clock_errorGone (s : State) (mem word : Nat) :
    (s.errorGone mem word).mono = s.mono ∧ (s.errorGone mem word).sysTime = s.sysTime := by
  simp only [State.errorGone, and_self]

/-! ### Takeover and the cores -/

theorem State.clock_readEntry (core : Nat) (s : State) (e : Entry) :
    (State.readEntry core s e).mono = s.mono ∧ (State.readEntry core s e).sysTime = s.sysTime := by
  unfold State.readEntry
  dsimp only
  split <;> simp only [State.clock_errorGone, State.clock_bump, State.clock_memCe, State.clock_memUe, State.clock_raiseWith,
    State.clock_finish, and_self]

theorem State.clock_readJournal (s : State) (core : Nat) :
    (s.readJournal core).mono = s.mono ∧ (s.readJournal core).sysTime = s.sysTime := by
  simp only [State.readJournal, State.clock_foldl, implies_true, State.clock_readEntry, and_self]

theorem State.clock_coreFault (s : State) (unit : Nat) (cause : CoreFault) :
    (s.coreFault unit cause).mono = s.mono ∧ (s.coreFault unit cause).sysTime = s.sysTime := by
  unfold State.coreFault
  split <;> simp only [State.clock_raise, State.clock_memUe, State.clock_raiseWith, and_self]

theorem State.clock_takeOver (s : State) : s.takeOver.mono = s.mono ∧ s.takeOver.sysTime = s.sysTime := by
  simp only [State.takeOver, State.clock_put, State.clock_bump, State.clock_evt, and_self]

theorem State.clock_takeoverEnd (s : State) : s.takeoverEnd.mono = s.mono ∧ s.takeoverEnd.sysTime = s.sysTime := by
  simp only [State.takeoverEnd, State.clock_ite, ite_self, State.clock_readJournal, State.clock_serve, and_self]

theorem State.clock_helmFailEff (cause : CoreFault) (s : State) :
    (helmFailEff cause s).mono = s.mono ∧ (helmFailEff cause s).sysTime = s.sysTime := by
  simp only [helmFailEff, State.clock_ite, ite_self, State.clock_coreFault, State.clock_put, State.clock_takeOver, and_self]

theorem State.clock_loseStaged (s : State) (t : Nat) : (s.loseStaged t).mono = s.mono ∧ (s.loseStaged t).sysTime = s.sysTime := by
  simp only [State.loseStaged, State.clock_ite, ite_self, State.clock_modStream, State.clock_bumpBy, State.clock_evt, and_self]

theorem State.clock_serviceFailEff (core : Nat) (cause : CoreFault) (s : State) :
    (serviceFailEff core cause s).mono = s.mono ∧ (serviceFailEff core cause s).sysTime = s.sysTime := by
  simp only [serviceFailEff, State.clock_ite, ite_self, State.clock_foldl, implies_true, State.clock_coreFault, State.clock_put,
    State.clock_loseStaged, State.clock_cpResetGo, State.clock_takeOver, and_self]

theorem State.clock_coreWork (s : State) (m : Nat) : (s.coreWork m).mono = s.mono ∧ (s.coreWork m).sysTime = s.sysTime := by
  unfold State.coreWork
  (repeat' split) <;> simp only [State.clock_memWritten, State.clock_errorGone, State.clock_memCe, State.clock_helmFailEff,
    State.clock_serviceFailEff, and_self]

/-! ### The idle step -/

/-- What follows the tick in an idle step takes no time. -/
theorem State.clock_idle (s : State) : s.idle.mono = s.tick.mono ∧ s.idle.sysTime = s.tick.sysTime := by
  simp only [State.idle, State.clock_foldl, implies_true, State.clock_coreWork, State.clock_domCycle, State.clock_tdmKick,
    State.clock_takeoverEnd, and_self]

/-- One CLK_B cycle of the PLL, of which two end on a whole nanosecond (R38). -/
theorem State.tick_onPll {s : State} (h : s.onPll = true) :
    s.tick.mono = s.mono + 5 ∧ s.tick.sysTime = if s.sysHalf then (s.sysTime + 5) % 2 ^ 64 else s.sysTime := by
  rw [State.tick, if_pos h]
  exact ⟨rfl, rfl⟩

/-- One cycle of the backup oscillator. -/
theorem State.tick_onBackup {s : State} (h : s.onPll = false) : s.tick.mono = s.mono + 80 ∧ s.tick.sysTime = (s.sysTime + 40) % 2 ^ 64 := by
  rw [State.tick, if_neg (by simp [h])]
  exact ⟨rfl, rfl⟩

theorem step_idle {s : State} (h : s.pending = []) : step s = .next { s.idle.wired with pending := s.pending } := by
  unfold step
  split
  · rfl
  next front => exact absurd (h.symm.trans front) (List.cons_ne_nil _ _).symm

/-- Settles O2: time passes in the tick, and nothing that follows it in the step touches the two clocks. -/
theorem idleStepPassesOneCycle : Obligations.IdleStepPassesOneCycle := by
  unfold Obligations.IdleStepPassesOneCycle
  intro s empty
  obtain ⟨idleMono, idleTime⟩ := s.clock_idle
  obtain ⟨wiredMono, wiredTime⟩ := s.idle.reports_wired.clock
  have mono := wiredMono.trans idleMono
  have time := wiredTime.trans idleTime
  refine ⟨_, step_idle empty, empty, mono.trans ?_, fun backup => time.trans ?_, fun pll => time.trans ?_⟩
  · cases source : s.onPll with
    | true => exact (State.tick_onPll source).1
    | false => exact (State.tick_onBackup source).1
  · exact (State.tick_onBackup backup).2
  · exact (State.tick_onPll pll).2


end Sys2Proof.Machine
end

section
/-!
SUPPORT. The fourth timed step of a switch-in (R76): the share offsets of the bay are cleared before the SETPOINT is formed. The yard
number a switch-in holds is not bounded, and the FAR_YSTAT word of a number that is no yard's can lie at the address of BAY_SHARE.
Obligation RemountsSwitchInAndOut.
-/

namespace Sys2Proof.Machine

theorem exec_remountConnectStep (b : Nat) (ok : Bool) (s : State) :
    exec (.remountConnectStep b ok) s = .next (s.answered (connectStepAll b ok s)) := rfl

/-- The number whose FAR_YSTAT word lies at the address of BAY_SHARE of bay 0, 0x200034. It is the number of no yard. -/
def sharedYard : Nat := 508813

/-- Bay 0 stands before the fourth step of a switch-in towards that number. -/
def joiningBay : Bay := { st := .connect, connStep := 3, connTo := sharedYard }

/-- A retention code that waits for its floor (R221, R210) is formed from FAR_YSTAT, which reads 63 here; the SETPOINT goes out on
segment 0. -/
def joining : State :=
  { State.reset with
    regs := [((BAY_SHARE.reg 0).addr, 0x1F800), ((YRD_SEGMENTS.reg sharedYard).addr, 1)]
    bays := [(0, joiningBay)]
    yards := [(sharedYard, { retained := true, floorWait := true })] }

/-- The words that the statement says are sent: the set-point as it stood before the step, and the preset. -/
def joiningWords : List Sent :=
  joining.sent
    ++ (joining.segsOf sharedYard).map (Sent.mk · (setpointWord sharedYard (joining.videff sharedYard) (joining.slewCode sharedYard)) false)
    ++ (joining.segsOf sharedYard).map (Sent.mk · (presetWord sharedYard (joining.get (YRD_OFFSETS.PREBIAS sharedYard))) false)

theorem bay_joining : joining.bay 0 = joiningBay := by decide +kernel

/-- The SETPOINT that leaves was formed after BAY_SHARE, and with it the floor, was cleared. -/
theorem sent_connectStep_joining (ok : Bool) :
    (joining.answered (connectStepAll 0 ok joining)).sent ≠ joiningWords := by
  cases ok <;> decide +kernel

/-- Refutes O23: the SETPOINT of the switch-in's fourth step is formed after the bay's share offsets are cleared, so towards a number
of no yard, which the statement does not exclude, its code need not be the one that stood before the step. -/
theorem not_remountsSwitchInAndOut : ¬ Obligations.RemountsSwitchInAndOut := by
  unfold Obligations.RemountsSwitchInAndOut
  rintro ⟨-, -, -, -, -, -, fourth, -⟩
  obtain ⟨t, answer, -, -, -, -, -, -, -, sent, -⟩ := fourth 0 sharedYard true joining (by rw [bay_joining]; rfl) (by rw [bay_joining]; rfl)
    (by rw [bay_joining]; rfl) (by rw [bay_joining]; rfl) (by rw [bay_joining]; rfl) (by rw [bay_joining]; rfl) (by decide +kernel)
    (by decide +kernel) (by decide +kernel) (by decide +kernel) rfl (by decide)
  cases (exec_remountConnectStep 0 true joining).symm.trans answer
  exact sent_connectStep_joining true sent

end Sys2Proof.Machine
end

section
/-!
SUPPORT. The time base and the host notice return (R38, R40): an event record changes no unit, a loaded time and a notice taken no
register. Obligation TimeBaseAndHostNotices.
-/

namespace Sys2Proof.Machine

theorem exec_tbStrobe (time : BitVec 64) (valid : Bool) (s : State) :
    exec (.tbStrobe time valid) s = .next (s.answered (tbStrobeEff time valid s)) := rfl
theorem exec_tbValidLoss (s : State) : exec .tbValidLoss s = .next (s.answered (tbValidLossEff s)) := rfl
theorem exec_tbValidReturn (s : State) : exec .tbValidReturn s = .next (s.answered (tbValidReturnEff s)) := rfl
theorem exec_hostNoticeTaken (s : State) : exec .hostNoticeTaken s = .next (s.answered (hostNoticeTakenEff s)) := rfl

@[simp] theorem State.answered_sysTime (s u : State) : (s.answered u).sysTime = u.sysTime := u.reports_wired.sysTime
@[simp] theorem State.answered_tbValid (s u : State) : (s.answered u).tbValid = u.tbValid := u.reports_wired.tbValid
@[simp] theorem State.answered_tbLoaded (s u : State) : (s.answered u).tbLoaded = u.tbLoaded := u.reports_wired.tbLoaded

theorem State.hn_refreshPair (s : State) : s.refreshPair.hn = s.hn := by
  unfold State.refreshPair
  dsimp only
  split
  · rfl
  · exact (State.put_hn _ _ _).trans (State.put_hn _ _ _)

@[simp] theorem State.answered_hn (s u : State) : (s.answered u).hn = u.hn := (State.hn_refreshPair _).trans (State.put_hn _ _ _)

/-! ### A record in the logbook stands in no stream (R394) -/

theorem State.tdm_stageLog (s : State) (r : LogRec) : (s.stageLog r).tdm = s.tdm := by
  have dropped (t : State) : t.countDropped.tdm = t.tdm := by unfold State.countDropped; split <;> rfl
  have staged (t : State) : t.countStaged.tdm = t.tdm := by unfold State.countStaged; split <;> rfl
  have pushed : (s.pushLog r).tdm = s.tdm := by
    unfold State.pushLog
    split
    · rw [State.disarm, State.put_tdm]
      rfl
    · rfl
  unfold State.stageLog
  split
  · rw [dropped, State.evt_tdm, State.bump_tdm]
  · rw [staged, State.showStaged, State.put_tdm, pushed]

theorem State.tdm_record (s : State) (c v f : Nat) (p : List Nat) : (s.record c v f p).tdm = s.tdm := by
  have supp (t : State) (u : Supp) : (t.setSupp c u).tdm = t.tdm := rfl
  have tokens (t : State) (n : Nat) : (t.setTokens c n).tdm = t.tdm := rfl
  have flushed (t : State) : (t.flushSupp c).tdm = t.tdm := by
    unfold State.flushSupp
    split
    · rfl
    · rw [State.tdm_stageLog, supp]
  unfold State.record
  split
  · rw [State.bump_tdm, supp]
  · rw [State.tdm_stageLog, flushed, tokens]

theorem State.tdm_logEvent (s : State) (c : Nat) (p : List Nat) : (s.logEvent c p).tdm = s.tdm := State.tdm_record _ _ _ _ _

theorem State.sameTables_logEvent (s : State) (c : Nat) (p : List Nat) : s.SameTables (s.logEvent c p) :=
  (s.reports_logEvent c p).sameTables (s.tdm_logEvent c p)

/-- An answer keeps the memories and the units that its effect keeps. -/
theorem State.tables_answered {s u : State} (h : s.SameTables u) : s.KeepsMem (s.answered u) ∧ s.KeepsUnits (s.answered u) :=
  have all := h.trans (s.sameTables_answered u)
  ⟨all.keepsMem, all.keepsUnits⟩

/-! ### The commands -/

/-- The state in which a time is loaded, before the record of a large step (R38). -/
def State.timeSet (s : State) (time : Nat) : State := { s with sysTime := (time + 20) % 2 ^ 64, sysHalf := false, tbLoaded := true }

/-- A step of more than 100 ns leaves its record besides. -/
theorem State.loadTime_reports (s : State) (time : Nat) : (s.timeSet time).Reports (s.loadTime time) := by
  unfold State.loadTime
  dsimp only
  split
  · exact State.reports_logEvent _ _ _
  · exact .refl _

theorem State.sameTables_loadTime (s : State) (time : Nat) : s.SameTables (s.loadTime time) := by
  have set : s.SameTables (s.timeSet time) := ⟨rfl, rfl, rfl, rfl, rfl, rfl, rfl, rfl, rfl, rfl, rfl⟩
  unfold State.loadTime
  dsimp only
  split
  · exact set.trans (State.sameTables_logEvent _ _ _)
  · exact set

/-- The first load, and one that is off by 100 ns at most, are not recorded. -/
theorem State.loadTime_quiet {s : State} {time : Nat}
    (h : s.tbLoaded = false ∨ (time + 20) % 2 ^ 64 - s.sysTime + (s.sysTime - (time + 20) % 2 ^ 64) ≤ 100) :
    s.loadTime time = s.timeSet time := by
  have off : (s.tbLoaded && decide (100 < (time + 20) % 2 ^ 64 - s.sysTime + (s.sysTime - (time + 20) % 2 ^ 64))) = false := by
    rcases h with first | near
    · rw [first, Bool.false_and]
    · rw [decide_eq_false (by omega), Bool.and_false]
  unfold State.loadTime
  dsimp only
  rw [off]
  rfl

/-- The state in which OT_TB_VALID is high. -/
def State.tbHigh (s : State) : State := { s with tbValid := true, tbSeen := true }

theorem State.sameTables_tbHigh (s : State) : s.SameTables s.tbHigh := ⟨rfl, rfl, rfl, rfl, rfl, rfl, rfl, rfl, rfl, rfl, rfl⟩

/-- With no epoch pending nothing comes due. -/
theorem tbValidReturnEff_idle {s : State} (h : s.epochs = []) : tbValidReturnEff s = s.tbHigh := by
  show State.applyDue s.epochs.length s.tbHigh = _
  rw [h]
  rfl

theorem tbStrobeEff_idle {s : State} (h : s.epochs = []) (time : BitVec 64) : tbStrobeEff time true s = s.tbHigh.loadTime time.toNat := by
  have none_ : (s.tbHigh.loadTime time.toNat).epochs = [] := (s.tbHigh.loadTime_reports time.toNat).epochs.trans h
  show State.applyDue (s.tbHigh.loadTime time.toNat).epochs.length _ = _
  rw [none_]
  rfl

theorem tbStrobeEff_low (s : State) (time : BitVec 64) : tbStrobeEff time false s = tbValidLossEff s := rfl

/-- The loss of OT_TB_VALID, recorded once, leaves system time. -/
theorem tbValidLossEff_spec (s : State) :
    (tbValidLossEff s).tbValid = false ∧ (tbValidLossEff s).sysTime = s.sysTime ∧ s.SameTables (tbValidLossEff s) := by
  unfold tbValidLossEff
  split
  · have low : s.SameTables { s with tbValid := false } := ⟨rfl, rfl, rfl, rfl, rfl, rfl, rfl, rfl, rfl, rfl, rfl⟩
    have record := State.reports_logEvent { s with tbValid := false } 0x0103 []
    exact ⟨record.tbValid, record.sysTime, low.trans (State.sameTables_logEvent _ _ _)⟩
  next low => exact ⟨Bool.not_eq_true _ ▸ low, rfl, .refl s⟩

theorem State.frame_tbLoss (s : State) :
    (s.answered (tbValidLossEff s)).tbValid = false ∧ (s.answered (tbValidLossEff s)).sysTime = s.sysTime ∧
      s.KeepsMem (s.answered (tbValidLossEff s)) ∧ s.KeepsUnits (s.answered (tbValidLossEff s)) := by
  obtain ⟨invalid, time, tables⟩ := tbValidLossEff_spec s
  exact ⟨(State.answered_tbValid _ _).trans invalid, (State.answered_sysTime _ _).trans time, State.tables_answered tables⟩

/-- Settles O17: a loaded time writes no register but for the record of a large step, and nothing comes due where no epoch waits. -/
theorem timeBaseAndHostNotices : Obligations.TimeBaseAndHostNotices := by
  unfold Obligations.TimeBaseAndHostNotices
  refine ⟨fun time s idle => ?_, fun time s => ?_, fun s => ?_, fun s idle => ?_, fun s => ?_⟩
  · have load := s.tbHigh.loadTime_reports time.toNat
    have kept := State.tables_answered (s := s) (s.sameTables_tbHigh.trans (s.tbHigh.sameTables_loadTime time.toNat))
    refine ⟨_, exec_tbStrobe time true s, ?_⟩
    rw [tbStrobeEff_idle idle]
    refine ⟨(State.answered_sysTime _ _).trans load.sysTime, (State.answered_tbValid _ _).trans load.tbValid,
      (State.answered_tbLoaded _ _).trans load.tbLoaded, fun near => ?_, kept⟩
    rw [State.loadTime_quiet (s := s.tbHigh) near]
    exact State.keepsRegs_answered fun _ _ => rfl
  · exact ⟨_, exec_tbStrobe time false s, s.frame_tbLoss⟩
  · exact ⟨_, exec_tbValidLoss s, s.frame_tbLoss⟩
  · refine ⟨_, exec_tbValidReturn s, ?_⟩
    rw [tbValidReturnEff_idle idle]
    exact ⟨State.answered_tbValid _ _, State.answered_sysTime _ _, State.frame_answered (fun _ _ => rfl) s.sameTables_tbHigh⟩
  · have taken : s.SameTables (hostNoticeTakenEff s) := ⟨rfl, rfl, rfl, rfl, rfl, rfl, rfl, rfl, rfl, rfl, rfl⟩
    exact ⟨_, exec_hostNoticeTaken s, State.answered_hn _ _, State.frame_answered (fun _ _ => rfl) taken⟩

end Sys2Proof.Machine
end

section
/-!
SUPPORT. The pilot port (R33, R125-R130, R154): what accepting a notice writes, which notices stand, and what a notice that stands does
to its yard's coalescer and to the collectives. Obligations PilotNoticesAndCollectives and PilotPortTakesEveryNotice.
-/

namespace Sys2Proof.Machine

theorem exec_pilotNotice (n : Notice) (s : State) : exec (.pilotNotice n) s = .next (s.answered (pilotNoticeEff n s)) := rfl
theorem exec_collBegin (n : Notice) (s : State) : exec (.collBegin n) s = .next (s.answered (collBeginEff n s)) := rfl
theorem exec_collEnd (n : Notice) (s : State) : exec (.collEnd n) s = .next (s.answered (collEndEff n s)) := rfl
theorem exec_collectiveOpen (k : Nat) (s : State) : exec (.collectiveOpen k) s = .next (s.answered (collOpenEff k s)) := rfl
theorem exec_collectiveClose (k : Nat) (s : State) : exec (.collectiveClose k) s = .next (s.answered (collCloseEff k s)) := rfl
theorem exec_holdAck (n : Notice) (s : State) : exec (.holdAck n) s = .next (s.answered (holdAckEff n s)) := rfl

@[simp] theorem State.answered_colls (s u : State) : (s.answered u).colls = u.colls := u.reports_wired.colls
@[simp] theorem State.answered_collPend (s u : State) : (s.answered u).collPend = u.collPend := u.reports_wired.collPend
@[simp] theorem State.answered_coll (s u : State) (k : Nat) : (s.answered u).coll k = u.coll k := by
  simp only [State.coll, State.answered_colls]

/-! ### Accepting a notice (R33, R154) -/

theorem noticeBits_lt (n : Notice) : noticeBits n < 2 ^ 64 := by
  have yard := n.yard.isLt
  have kind := n.kind.isLt
  have lead := n.lead.isLt
  have context := n.context.isLt
  have opClass := n.opClass.isLt
  have estimate := n.estimate.isLt
  have tag := n.tag.isLt
  unfold noticeBits
  omega

/-- A register pair reads the value it took. -/
theorem State.get64_put64 (s : State) (f : Fld) {v : Nat} (h : v < 2 ^ 64) : (s.put64 f v).get64 f = v := by
  have hi : (s.put64 f v).word (f.addr + 4) = BitVec.ofNat 32 (v / 2 ^ 32) := (State.word_setWord _ _ _ _).trans (if_pos rfl)
  have lo : (s.put64 f v).word f.addr = BitVec.ofNat 32 v := by
    unfold State.put64
    rw [State.word_setWord, if_neg (by omega), State.word_setWord, if_pos rfl]
  rw [State.get64, lo, hi, BitVec.toNat_ofNat, BitVec.toNat_ofNat]
  omega

/-- The registers a notice writes where it is accepted. -/
def noticeRegs : List Nat := [PIL_CNT_ACCEPT.COUNT.addr, PIL_LAST_LO.NOTICE.addr, PIL_LAST_LO.NOTICE.addr + 4]

/-- The notice is counted and kept as the last; no register but these and the listed ones is written. -/
structure State.Noticed (s u : State) (n : Notice) (l : List Nat) : Prop where
  accept : u.get PIL_CNT_ACCEPT.COUNT = min (s.get PIL_CNT_ACCEPT.COUNT + 1) 0xFFFFFFFF
  last : u.get64 PIL_LAST_LO.NOTICE = noticeBits n
  words : ∀ a ∉ noticeRegs ++ l, u.word a = s.word a

section
variable {s u : State} {n : Notice} {l : List Nat}

theorem State.noticed_acceptNotice (s : State) (n : Notice) : s.Noticed (s.acceptNotice n) n [] where
  accept := by
    have pair (t : State) (f : Fld) (w : Nat) {g : Fld} (h : g.addr ≠ f.addr) (k : g.addr ≠ f.addr + 4) :
        (t.put64 f w).get g = t.get g := by rw [State.put64, State.get_setWord _ _ _ _ k, State.get_setWord _ _ _ _ h]
    rw [State.acceptNotice, pair _ _ _ (by decide) (by decide)]
    exact State.get_bump_same s PIL_CNT_ACCEPT.COUNT (by decide)
  last := State.get64_put64 _ _ (noticeBits_lt n)
  words a h := by
    simp only [noticeRegs, List.append_nil, List.mem_cons, List.not_mem_nil, or_false, not_or] at h
    obtain ⟨accept, lo, hi⟩ := h
    rw [State.acceptNotice, State.put64, State.word_setWord, if_neg hi, State.word_setWord, if_neg lo]
    exact State.word_put s _ _ a accept

/-- What then leaves the registers but a list of others keeps the count and the notice. -/
theorem State.noticed_of_words (k : ∀ a ∉ l, u.word a = (s.acceptNotice n).word a) (apart : ∀ a ∈ noticeRegs, a ∉ l) : s.Noticed u n l := by
  obtain ⟨accept, last, words⟩ := s.noticed_acceptNotice n
  refine ⟨?_, ?_, fun a p => ?_⟩
  · rw [← accept, State.get, k _ (apart _ (by decide)), ← State.get]
  · rw [← last, State.get64, State.get64, k _ (apart _ (by decide)), k _ (apart _ (by decide))]
  · rw [k a fun q => p (List.mem_append_right _ q), words a fun q => p (List.mem_append_left _ (by rwa [List.append_nil] at q))]

/-- An answer shows the count and the notice. -/
theorem State.Noticed.answered (h : s.Noticed u n l) :
    (s.answered u).get PIL_CNT_ACCEPT.COUNT = min (s.get PIL_CNT_ACCEPT.COUNT + 1) 0xFFFFFFFF ∧
      (s.answered u).get64 PIL_LAST_LO.NOTICE = noticeBits n ∧ s.KeepsRegs (s.answered u) (noticeRegs ++ l) := by
  refine ⟨?_, ?_, State.keepsRegs_answered h.words⟩
  · rw [State.get_answered _ _ _ (by decide) (by decide), h.accept]
  · rw [State.get64, State.word_answered _ _ _ (by decide) (by decide), State.word_answered _ _ _ (by decide) (by decide), ← State.get64,
      h.last]

end

theorem State.sameTables_acceptNotice (s : State) (n : Notice) : s.SameTables (s.acceptNotice n) :=
  ((State.sameTables_setWord _ _ _).trans (State.sameTables_setWord _ _ _)).trans (State.sameTables_setWord _ _ _)

theorem State.reports_acceptNotice (s : State) (n : Notice) : s.Reports (s.acceptNotice n) :=
  (State.reports_bump _ _).trans (State.reports_put64 _ _ _)

/-- Accepting a notice changes no yard. -/
@[simp] theorem State.yard_acceptNotice (s : State) (n : Notice) (y : Nat) : (s.acceptNotice n).yard y = s.yard y := by
  rw [State.yard, (s.reports_acceptNotice n).yards, State.yard]

/-- Accepting a notice keeps the words of every other register. -/
theorem State.get_acceptNotice (s : State) (n : Notice) {f : Fld} (h : f.addr ∉ noticeRegs) : (s.acceptNotice n).get f = s.get f := by
  simp only [State.get, (s.noticed_acceptNotice n).words f.addr (by rwa [List.append_nil])]

theorem State.dreOn_acceptNotice (s : State) (n : Notice) : (s.acceptNotice n).dreOn = s.dreOn := by
  simp only [State.dreOn, State.inWayOn, State.onPll, State.on, s.get_acceptNotice n (f := GLB_SERVICE.STATE) (by decide),
    s.get_acceptNotice n (f := CLK_STATUS.SOURCE) (by decide), s.get_acceptNotice n (f := DRE_CTRL.RUN) (by decide)]

/-! ### Which notices stand (R126, R127) -/

/-- A notice that stands: the DRE runs, kind and yard are well formed, and the yard, where it is one, is not fenced. -/
structure State.Stands (s : State) (n : Notice) : Prop where
  on : s.dreOn = true
  good : noticeBad n = false
  open_ : n.yard = 127 ∨ s.get (YRD_STATUS.YARD_FENCED n.yard.toNat) = 0

theorem State.Stands.screen {s : State} {n : Notice} (h : s.Stands n) : s.screen n = (s, true) := by
  have unfenced : ¬ (n.yard ≠ 127 ∧ s.on (YRD_STATUS.YARD_FENCED n.yard.toNat) = true) := by
    rintro ⟨yard, fenced⟩
    exact absurd (h.open_.resolve_left yard) (by simpa [State.on] using fenced)
  unfold State.screen
  rw [if_neg (by simp [h.on]), if_neg (by simp [h.good]), if_neg unfenced]

theorem yardFenced_notMem_noticeRegs (y : Nat) : (YRD_STATUS.YARD_FENCED y).addr ∉ noticeRegs := by
  have high : 0x20000 ≤ (YRD_STATUS.YARD_FENCED y).addr := by simp only [YRD_STATUS.YARD_FENCED]; omega
  intro mem
  have low : ∀ a ∈ noticeRegs, a < 0x20000 := by decide
  exact absurd (low _ mem) (by omega)

theorem State.Stands.accepted {s : State} {n : Notice} (h : s.Stands n) : (s.acceptNotice n).Stands n where
  on := (s.dreOn_acceptNotice n).trans h.on
  good := h.good
  open_ := h.open_.imp_right fun z => (s.get_acceptNotice n (yardFenced_notMem_noticeRegs _)).trans z

/-- A notice of the whole device, of a kind that may name it. -/
theorem noticeBad_device {n : Notice} (h : n.yard = 127) {k : BitVec 4} (hk : k = 5 ∨ k = 6 ∨ k = 7) : noticeBad { n with kind := k } = false := by
  rcases hk with e | e | e <;> simp [noticeBad, h, e]

/-- A notice of the whole device stands while the DRE runs. -/
theorem State.stands_device {s : State} {n : Notice} (on : s.dreOn = true) (h : n.yard = 127) {k : BitVec 4} (hk : k = 5 ∨ k = 6 ∨ k = 7) :
    s.Stands { n with kind := k } := ⟨on, noticeBad_device h hk, .inl h⟩

/-! ### The coalescer (R130) -/

/-- A notice writes one count of registers and one yard. -/
structure State.Enters (s t : State) (y : Nat) : Prop where
  words : ∀ a ∉ [PIL_CNT_COALESCED.COUNT.addr], t.word a = s.word a
  others : ∀ z, z ≠ y → t.yard z = s.yard z
  mem : s.KeepsMem t

theorem State.enters_setYard (s : State) (y : Nat) (v : Yard) : s.Enters (s.setYard y v) y :=
  ⟨fun _ _ => rfl, fun z h => by rw [State.yard_setYard, if_neg h], s.keepsMem_setYard y v⟩

theorem State.Enters.trans {s t u : State} {y : Nat} (h : s.Enters t y) (k : t.Enters u y) : s.Enters u y where
  words a p := (k.words a p).trans (h.words a p)
  others z p := (k.others z p).trans (h.others z p)
  mem := h.mem.trans k.mem

theorem State.enters_bump (s : State) (y : Nat) : s.Enters (s.bump PIL_CNT_COALESCED.COUNT) y where
  words _ p := State.word_put _ _ _ _ fun e => p (List.mem_singleton.mpr e)
  others _ _ := State.yard_put _ _ _ _
  mem := (State.reports_bump _ _).keepsMem

/-- The next notice takes the next number. -/
def State.nextOrder (s : State) : State := { s with order := s.order + 1 }

theorem State.enters_nextOrder (s : State) (y : Nat) : s.Enters s.nextOrder y := ⟨fun _ _ => rfl, fun _ _ => rfl, fun _ => ⟨rfl, rfl, rfl⟩⟩

/-- The yard with a notice more in its pending set. -/
def State.pendCool (s : State) (y : Nat) (e : SetNotice) : State :=
  s.nextOrder.setYard y { s.yard y with pendingSet := (s.yard y).pendingSet ++ [e] }

/-- What a notice does to its yard, by the coalescer's state. -/
theorem State.coalesce_eq (s : State) (y : Nat) (n : Notice) (eff : Nat) (i : Bool) :
    s.coalesce y n eff i =
      match (s.yard y).coal with
      | .idle => s.nextOrder.setYard y { s.yard y with coal := .gather, gathered := [⟨n, eff, s.order, i⟩] }
      | .gather =>
        (s.nextOrder.setYard y { s.yard y with gathered := (s.yard y).gathered ++ [⟨n, eff, s.order, i⟩] }).bump PIL_CNT_COALESCED.COUNT
      | .cool =>
        if (s.yard y).pendingSet = [] then s.pendCool y ⟨n, eff, s.order, i⟩
        else (s.pendCool y ⟨n, eff, s.order, i⟩).bump PIL_CNT_COALESCED.COUNT := rfl

theorem State.coalesce_idle {s : State} {y : Nat} (n : Notice) (eff : Nat) (i : Bool) (h : (s.yard y).coal = .idle) :
    s.coalesce y n eff i = s.nextOrder.setYard y { s.yard y with coal := .gather, gathered := [⟨n, eff, s.order, i⟩] } := by
  rw [State.coalesce_eq]
  split
  · rfl
  all_goals next e => exact absurd (h.symm.trans e) (by decide)

theorem State.coalesce_gather {s : State} {y : Nat} (n : Notice) (eff : Nat) (i : Bool) (h : (s.yard y).coal = .gather) :
    s.coalesce y n eff i = (s.nextOrder.setYard y { s.yard y with gathered := (s.yard y).gathered ++ [⟨n, eff, s.order, i⟩] }).bump
      PIL_CNT_COALESCED.COUNT := by
  rw [State.coalesce_eq]
  split
  case h_2 => rfl
  all_goals next e => exact absurd (h.symm.trans e) (by decide)

theorem State.coalesce_cool {s : State} {y : Nat} (n : Notice) (eff : Nat) (i : Bool) (h : (s.yard y).coal = .cool) :
    s.coalesce y n eff i =
      if (s.yard y).pendingSet = [] then s.pendCool y ⟨n, eff, s.order, i⟩
      else (s.pendCool y ⟨n, eff, s.order, i⟩).bump PIL_CNT_COALESCED.COUNT := by
  rw [State.coalesce_eq]
  split
  case h_3 => rfl
  all_goals next e => exact absurd (h.symm.trans e) (by decide)

theorem State.enters_coalesce (s : State) (y : Nat) (n : Notice) (eff : Nat) (i : Bool) : s.Enters (s.coalesce y n eff i) y := by
  have set (v : Yard) : s.Enters (s.nextOrder.setYard y v) y := (s.enters_nextOrder y).trans (State.enters_setYard _ _ _)
  cases h : (s.yard y).coal with
  | idle => rw [State.coalesce_idle _ _ _ h]; exact set _
  | gather => rw [State.coalesce_gather _ _ _ h]; exact (set _).trans (State.enters_bump _ _)
  | cool =>
    rw [State.coalesce_cool _ _ _ h]
    split
    · exact set _
    · exact (set _).trans (State.enters_bump _ _)

/-- The yard of a notice that entered the coalescer, in each of its states. -/
theorem State.yard_coalesce (s : State) (y : Nat) (n : Notice) (eff : Nat) (i : Bool) :
    (s.coalesce y n eff i).yard y =
      match (s.yard y).coal with
      | .idle => { s.yard y with coal := .gather, gathered := [⟨n, eff, s.order, i⟩] }
      | .gather => { s.yard y with gathered := (s.yard y).gathered ++ [⟨n, eff, s.order, i⟩] }
      | .cool => { s.yard y with pendingSet := (s.yard y).pendingSet ++ [⟨n, eff, s.order, i⟩] } := by
  have set (t : State) (v : Yard) : (t.setYard y v).yard y = v := (State.yard_setYard _ _ _ _).trans (if_pos rfl)
  have bumped (t : State) : (t.bump PIL_CNT_COALESCED.COUNT).yard y = t.yard y := State.yard_put _ _ _ _
  cases h : (s.yard y).coal with
  | idle => rw [State.coalesce_idle _ _ _ h, set]
  | gather => rw [State.coalesce_gather _ _ _ h, bumped, set]
  | cool =>
    have pended : (s.pendCool y ⟨n, eff, s.order, i⟩).yard y
        = { s.yard y with pendingSet := (s.yard y).pendingSet ++ [⟨n, eff, s.order, i⟩] } := set _ _
    rw [State.coalesce_cool _ _ _ h]
    split
    · exact pended
    · exact (bumped _).trans pended

/-- A notice appended to a gather is counted. -/
theorem State.get_coalesce_gather {s : State} {y : Nat} (n : Notice) (eff : Nat) (i : Bool) (h : (s.yard y).coal = .gather) :
    (s.coalesce y n eff i).get PIL_CNT_COALESCED.COUNT = min (s.get PIL_CNT_COALESCED.COUNT + 1) 0xFFFFFFFF := by
  rw [State.coalesce_gather _ _ _ h, State.get_bump_same _ _ (by decide)]
  rfl

/-- A private yard's change of owner waits for the notice's effective time (R257). -/
def State.ownerNoted (s : State) (n : Notice) : State :=
  if Config.isPrivate n.yard.toNat ∧ n.kind.toNat ≤ 4 then
    s.setYard n.yard.toNat { s.yard n.yard.toNat with
      ownPend := (s.yard n.yard.toNat).ownPend ++ [(s.effective n, n.kind.toNat, n.context.toNat)] }
  else s

/-- What the owner's change leaves of the yard and of the state. -/
theorem State.ownerNoted_spec (s : State) (n : Notice) :
    ((s.ownerNoted n).yard n.yard.toNat).coal = (s.yard n.yard.toNat).coal ∧
      ((s.ownerNoted n).yard n.yard.toNat).gathered = (s.yard n.yard.toNat).gathered ∧
      ((s.ownerNoted n).yard n.yard.toNat).pendingSet = (s.yard n.yard.toNat).pendingSet ∧
      (s.ownerNoted n).effective n = s.effective n ∧ (s.ownerNoted n).order = s.order ∧ (s.ownerNoted n).regs = s.regs := by
  unfold State.ownerNoted
  split
  · rw [State.yard_setYard, if_pos rfl]
    exact ⟨rfl, rfl, rfl, rfl, rfl, rfl⟩
  · exact ⟨rfl, rfl, rfl, rfl, rfl, rfl⟩

theorem State.enters_ownerNoted (s : State) (n : Notice) : s.Enters (s.ownerNoted n) n.yard.toNat := by
  unfold State.ownerNoted
  split
  · exact State.enters_setYard _ _ _
  · exact ⟨fun _ _ => rfl, fun _ _ => rfl, fun _ => ⟨rfl, rfl, rfl⟩⟩

theorem State.enterNotice_eq (s : State) (n : Notice) :
    s.enterNotice n = (s.ownerNoted n).coalesce n.yard.toNat n (s.effective n) false := by
  have eff : s.enterNotice n = (s.ownerNoted n).coalesce n.yard.toNat n ((s.ownerNoted n).effective n) false := rfl
  obtain ⟨-, -, -, effective, -, -⟩ := s.ownerNoted_spec n
  rw [eff, effective]

theorem State.enters_enterNotice (s : State) (n : Notice) : s.Enters (s.enterNotice n) n.yard.toNat := by
  rw [State.enterNotice_eq]
  exact (s.enters_ownerNoted n).trans (State.enters_coalesce _ _ _ _ _)

/-- The notice as it stands in a set. -/
def State.asEntered (s : State) (n : Notice) : SetNotice := ⟨n, s.effective n, s.order, false⟩

theorem State.asEntered_acceptNotice (s : State) (n m : Notice) : (s.acceptNotice m).asEntered n = s.asEntered n := by
  have accepted := s.reports_acceptNotice m
  rw [State.asEntered, State.effective, accepted.sysTime, accepted.order, State.asEntered, State.effective]

/-- A notice to an idle yard starts a gather with it. -/
theorem State.enterNotice_idle {s : State} {n : Notice} (h : (s.yard n.yard.toNat).coal = .idle) :
    ((s.enterNotice n).yard n.yard.toNat).coal = .gather ∧ ((s.enterNotice n).yard n.yard.toNat).gathered = [s.asEntered n] := by
  obtain ⟨coal, -, -, -, order, -⟩ := s.ownerNoted_spec n
  rw [State.enterNotice_eq, State.yard_coalesce, coal, h, order]
  exact ⟨rfl, rfl⟩

/-- A notice to a gathering yard is appended and counted. -/
theorem State.enterNotice_gather {s : State} {n : Notice} (h : (s.yard n.yard.toNat).coal = .gather) :
    ((s.enterNotice n).yard n.yard.toNat).coal = .gather ∧
      ((s.enterNotice n).yard n.yard.toNat).gathered = (s.yard n.yard.toNat).gathered ++ [s.asEntered n] ∧
      (s.enterNotice n).get PIL_CNT_COALESCED.COUNT = min (s.get PIL_CNT_COALESCED.COUNT + 1) 0xFFFFFFFF := by
  obtain ⟨coal, gathered, -, -, order, regs⟩ := s.ownerNoted_spec n
  rw [State.enterNotice_eq, State.get_coalesce_gather _ _ _ (coal.trans h), State.get_congr regs, State.yard_coalesce, coal, h, order]
  exact ⟨coal.trans h, congrArg (· ++ _) gathered, rfl⟩

/-- A notice to a cooling yard waits in the pending set. -/
theorem State.enterNotice_cool {s : State} {n : Notice} (h : (s.yard n.yard.toNat).coal = .cool) :
    ((s.enterNotice n).yard n.yard.toNat).coal = .cool ∧
      ((s.enterNotice n).yard n.yard.toNat).pendingSet = (s.yard n.yard.toNat).pendingSet ++ [s.asEntered n] := by
  obtain ⟨coal, -, pending, -, order, -⟩ := s.ownerNoted_spec n
  rw [State.enterNotice_eq, State.yard_coalesce, coal, h, order]
  exact ⟨coal.trans h, congrArg (· ++ _) pending⟩

/-! ### PILOT_NOTICE of kinds 1 to 4 -/

theorem pilotNoticeEff_kept {s : State} {n : Notice} (h : s.Stands n) (le : n.kind.toNat ≤ 4) :
    pilotNoticeEff n s = (s.acceptNotice n).enterNotice n := by
  have kind {k : BitVec 4} (hk : 4 < k.toNat) : n.kind ≠ k := fun e => absurd le (by rw [e]; omega)
  unfold pilotNoticeEff
  rw [if_neg (kind (by decide)), if_neg (kind (by decide)), if_neg (kind (by decide)), h.accepted.screen]
  rfl

/-- What every such notice counts, and the registers it keeps. -/
theorem State.counted_entered (s : State) (n : Notice) :
    (s.answered ((s.acceptNotice n).enterNotice n)).get PIL_CNT_ACCEPT.COUNT = min (s.get PIL_CNT_ACCEPT.COUNT + 1) 0xFFFFFFFF ∧
      (s.answered ((s.acceptNotice n).enterNotice n)).get64 PIL_LAST_LO.NOTICE = noticeBits n ∧
      s.KeepsRegs (s.answered ((s.acceptNotice n).enterNotice n)) (noticeRegs ++ [PIL_CNT_COALESCED.COUNT.addr]) :=
  (State.noticed_of_words ((s.acceptNotice n).enters_enterNotice n).words (by decide)).answered

/-- It keeps the other yards and the memories. -/
theorem State.frame_entered (s : State) (n : Notice) :
    (∀ y, y ≠ n.yard.toNat → (s.answered ((s.acceptNotice n).enterNotice n)).yard y = s.yard y) ∧
      s.KeepsMem (s.answered ((s.acceptNotice n).enterNotice n)) := by
  obtain ⟨-, others, mem⟩ := (s.acceptNotice n).enters_enterNotice n
  have accepted := (s.sameTables_acceptNotice n).keepsMem
  exact ⟨fun y h => (State.answered_yard _ _ _).trans ((others y h).trans (s.yard_acceptNotice n y)),
    State.keepsMem_answered (accepted.trans mem)⟩

/-! ### Collectives (R129) -/

@[simp] theorem State.coll_setColl (s : State) (k j : Nat) (c : Option Coll) : (s.setColl k c).coll j = if j = k then c else s.coll j :=
  Tab.get_set _ _ _ _ _

theorem State.sameTables_setColl (s : State) (k : Nat) (c : Option Coll) : s.SameTables (s.setColl k c) := by constructor <;> rfl

/-- A free entry that the table has is found. -/
theorem State.freeColl_isSome {s : State} {k : Nat} (hk : k < 16) (h : s.coll k = none) : s.freeColl.isSome = true := by
  unfold State.freeColl
  rw [List.find?_isSome]
  exact ⟨k, List.mem_range.mpr hk, by rw [h]; rfl⟩

theorem State.effective_acceptNotice (s : State) (n m : Notice) : (s.acceptNotice m).effective n = s.effective n := by
  rw [State.effective, (s.reports_acceptNotice m).sysTime, State.effective]

theorem State.coll_acceptNotice (s : State) (n : Notice) (k : Nat) : (s.acceptNotice n).coll k = s.coll k := by
  rw [State.coll, (s.reports_acceptNotice n).colls, State.coll]

theorem State.findColl_acceptNotice (s : State) (n : Notice) (ctx tag : Nat) : (s.acceptNotice n).findColl ctx tag = s.findColl ctx tag := by
  simp only [State.findColl, State.coll_acceptNotice]

theorem State.freeColl_acceptNotice (s : State) (n : Notice) : (s.acceptNotice n).freeColl = s.freeColl := by
  simp only [State.freeColl, State.coll_acceptNotice]

/-- A notice of the whole device that changes no register and no unit past its acceptance. -/
theorem State.frame_deviceNotice {s u : State} {n : Notice} (regs : u.regs = (s.acceptNotice n).regs)
    (tables : (s.acceptNotice n).SameTables u) :
    (s.answered u).get PIL_CNT_ACCEPT.COUNT = min (s.get PIL_CNT_ACCEPT.COUNT + 1) 0xFFFFFFFF ∧ s.KeepsRegs (s.answered u) noticeRegs ∧
      s.KeepsMem (s.answered u) ∧ s.KeepsUnits (s.answered u) := by
  obtain ⟨accept, -, kept⟩ := (State.noticed_of_words (l := []) (fun a _ => congrArg (Tab.get resetWord · a) regs) (by decide)).answered
  exact ⟨accept, kept, State.tables_answered ((s.sameTables_acceptNotice n).trans tables)⟩

/-- The collectives that wait to open. -/
def State.setPend (s : State) (l : List Coll) : State := { s with collPend := l }

theorem State.collPend_setPend (s : State) (l : List Coll) : (s.setPend l).collPend = l := rfl
theorem State.colls_setPend (s : State) (l : List Coll) : (s.setPend l).colls = s.colls := rfl
theorem State.regs_setPend (s : State) (l : List Coll) : (s.setPend l).regs = s.regs := rfl
theorem State.sameTables_setPend (s : State) (l : List Coll) : s.SameTables (s.setPend l) := by constructor <;> rfl

/-- COLL_BEGIN once its notice stands. -/
def State.announce (s : State) (n : Notice) : State :=
  match s.findColl n.context.toNat n.tag.toNat, s.freeColl with
  | none, some _ =>
    let t := s.setPend (s.collPend ++ [⟨n.context.toNat, n.tag.toNat, s.effective n, none, 0⟩])
    if n.yard = 127 then t else t.enterNotice n
  | _, _ => s.collErr

/- A screened notice is a match on a pair. The kernel unfolds such a match before the function around it, and so evaluates the screening
of the accepted state; the proofs below unfold the function by itself and set the screening's result in before anything is compared. -/

theorem collBeginEff_stands {s : State} {n : Notice} (h : s.Stands { n with kind := 5 }) :
    collBeginEff n s = (s.acceptNotice { n with kind := 5 }).announce { n with kind := 5 } := by
  have body : @collBeginEff = @collBeginEff := rfl
  conv at body => rhs; delta collBeginEff
  rw [body]
  beta_reduce
  extract_lets +onlyGivenNames m
  have screened : (s.acceptNotice m).screen m = (s.acceptNotice m, true) := h.accepted.screen
  rw [screened]
  change _ = (s.acceptNotice m).announce m
  generalize s.acceptNotice m = t
  rfl

theorem State.announce_device {s : State} {n : Notice} {k : Nat} (device : n.yard = 127)
    (fresh : s.findColl n.context.toNat n.tag.toNat = none) (free : s.freeColl = some k) :
    s.announce n = s.setPend (s.collPend ++ [⟨n.context.toNat, n.tag.toNat, s.effective n, none, 0⟩]) := by
  unfold State.announce
  rw [fresh, free]
  exact if_pos device

/-- COLL_END once its notice stands. -/
def State.endColl (s : State) (n : Notice) : State :=
  let enter (s : State) : State := if n.yard = 127 then s else s.enterNotice n
  let t := s.effective n
  match s.findColl n.context.toNat n.tag.toNat, s.announced n.context.toNat n.tag.toNat t with
  | some k, _ => enter (s.setColl k ((s.coll k).map (·.closing t)))
  | none, some c => enter (s.setPend (s.collPend.map fun d => if d = c then d.closing t else d))
  | none, none => s.collErr

theorem collEndEff_stands {s : State} {n : Notice} (h : s.Stands { n with kind := 6 }) :
    collEndEff n s = (s.acceptNotice { n with kind := 6 }).endColl { n with kind := 6 } := by
  have body : @collEndEff = @collEndEff := rfl
  conv at body => rhs; delta collEndEff
  rw [body]
  beta_reduce
  extract_lets +onlyGivenNames m
  have screened : (s.acceptNotice m).screen m = (s.acceptNotice m, true) := h.accepted.screen
  rw [screened]
  change _ = (s.acceptNotice m).endColl m
  generalize s.acceptNotice m = t
  rfl

theorem State.endColl_open {s : State} {n : Notice} {k : Nat} {c : Coll} (device : n.yard = 127)
    (found : s.findColl n.context.toNat n.tag.toNat = some k) (entry : s.coll k = some c) (unclosed : c.closes = none) :
    s.endColl n = s.setColl k (some { c with closes := some (s.effective n) }) := by
  have closed : c.closing (s.effective n) = { c with closes := some (s.effective n) } := by rw [Coll.closing, unclosed]
  unfold State.endColl
  dsimp only
  rw [found]
  dsimp only
  rw [if_pos device, entry, Option.map_some, closed]

theorem State.endColl_announced {s : State} {n : Notice} {c : Coll} (device : n.yard = 127)
    (fresh : s.findColl n.context.toNat n.tag.toNat = none) (ann : s.announced n.context.toNat n.tag.toNat (s.effective n) = some c) :
    s.endColl n = s.setPend (s.collPend.map fun d => if d = c then d.closing (s.effective n) else d) := by
  unfold State.endColl
  dsimp only
  rw [fresh, ann]
  exact if_pos device

theorem collOpenEff_free {s : State} {k : Nat} {c : Coll} (next : s.nextColl = some c) (fresh : s.findColl c.ctx c.tag = none) (hk : k < 16)
    (free : s.coll k = none) :
    collOpenEff k s = (s.setPend (s.collPend.erase c)).setColl k (some { c with openedAt := s.mono }) := by
  have ok : ¬ ((s.findColl c.ctx c.tag).isSome = true ∨ s.freeColl.isNone = true) := by
    have some_ := State.freeColl_isSome hk free
    rw [fresh]
    simp only [Option.isSome_none, Bool.false_eq_true, false_or, Option.isNone_iff_eq_none]
    exact Option.ne_none_iff_isSome.mpr some_
  unfold collOpenEff
  rw [next]
  dsimp only
  rw [if_neg ok, if_pos ⟨hk, by rw [free]; rfl⟩]
  rfl

theorem collCloseEff_ended {s : State} {k : Nat} {c : Coll} (entry : s.coll k = some c) (ended : c.closes.isSome = true) :
    collCloseEff k s = s.setColl k none := by
  unfold collCloseEff
  rw [entry]
  exact if_pos ended

/-- HOLD_ACK once its notice stands (R256). -/
def State.ackHold (s : State) (n : Notice) : State :=
  if n.yard ≠ 127 ∧ (s.yard n.yard.toNat).belowMin = .waiting then s.endBelowWait n.yard.toNat else s.bump CAP_CNT_HOLDACK.COUNT

theorem holdAckEff_stands {s : State} {n : Notice} (h : s.Stands { n with kind := 7 }) :
    holdAckEff n s = (s.acceptNotice { n with kind := 7 }).ackHold { n with kind := 7 } := by
  have body : @holdAckEff = @holdAckEff := rfl
  conv at body => rhs; delta holdAckEff
  rw [body]
  beta_reduce
  extract_lets +onlyGivenNames m
  have screened : (s.acceptNotice m).screen m = (s.acceptNotice m, true) := h.accepted.screen
  rw [screened]
  change _ = (s.acceptNotice m).ackHold m
  generalize s.acceptNotice m = t
  rfl

theorem State.ackHold_device (s : State) {n : Notice} (h : n.yard = 127) : s.ackHold n = s.bump CAP_CNT_HOLDACK.COUNT :=
  if_neg fun k => k.1 h

/-- Settles O12: a notice that stands writes its counts and its yard; one of the whole device writes the collectives. -/
theorem pilotNoticesAndCollectives : Obligations.PilotNoticesAndCollectives := by
  unfold Obligations.PilotNoticesAndCollectives
  refine ⟨fun n s on good _ le open_ coal => ?_, fun n s on good _ le open_ coal => ?_, fun n s on good _ le open_ coal => ?_,
    fun n k s on device fresh free => ?_, fun n k c s on device found entry unclosed => ?_, fun n c s on device fresh ann => ?_,
    fun k c s next fresh hk free => ?_, fun k c s entry ended => ?_, fun n s on device => ?_⟩
  · obtain ⟨accept, last, regs⟩ := s.counted_entered n
    obtain ⟨others, mem⟩ := s.frame_entered n
    obtain ⟨gather, set⟩ := State.enterNotice_idle ((congrArg Yard.coal (s.yard_acceptNotice n _)).trans coal)
    rw [State.asEntered_acceptNotice] at set
    refine ⟨_, exec_pilotNotice n s, ?_⟩
    rw [pilotNoticeEff_kept ⟨on, good, .inr open_⟩ le, State.answered_yard]
    exact ⟨accept, last, gather, set, others, regs, mem⟩
  · obtain ⟨accept, last, regs⟩ := s.counted_entered n
    obtain ⟨others, mem⟩ := s.frame_entered n
    obtain ⟨gather, set, count⟩ := State.enterNotice_gather ((congrArg Yard.coal (s.yard_acceptNotice n _)).trans coal)
    rw [State.asEntered_acceptNotice, State.yard_acceptNotice] at set
    refine ⟨_, exec_pilotNotice n s, ?_⟩
    rw [pilotNoticeEff_kept ⟨on, good, .inr open_⟩ le, State.answered_yard,
      State.get_answered _ _ PIL_CNT_COALESCED.COUNT (by decide) (by decide), count, s.get_acceptNotice n (by decide)]
    exact ⟨accept, last, gather, set, rfl, others, regs, mem⟩
  · obtain ⟨accept, last, regs⟩ := s.counted_entered n
    obtain ⟨others, mem⟩ := s.frame_entered n
    obtain ⟨cool, set⟩ := State.enterNotice_cool ((congrArg Yard.coal (s.yard_acceptNotice n _)).trans coal)
    rw [State.asEntered_acceptNotice, State.yard_acceptNotice] at set
    refine ⟨_, exec_pilotNotice n s, ?_⟩
    rw [pilotNoticeEff_kept ⟨on, good, .inr open_⟩ le, State.answered_yard]
    exact ⟨accept, last, cool, set, others, regs, mem⟩
  · have accepted := s.reports_acceptNotice { n with kind := 5 }
    refine ⟨_, exec_collBegin n s, ?_⟩
    rw [collBeginEff_stands (State.stands_device on device (.inl rfl)),
      State.announce_device (n := { n with kind := 5 }) device ((s.findColl_acceptNotice _ _ _).trans fresh) ((s.freeColl_acceptNotice _).trans free),
      State.effective_acceptNotice]
    refine ⟨?_, (State.answered_colls _ _).trans ((State.colls_setPend _ _).trans accepted.colls),
      State.frame_deviceNotice (State.regs_setPend _ _) (State.sameTables_setPend _ _)⟩
    rw [State.answered_collPend, State.collPend_setPend, accepted.collPend]
    rfl
  · refine ⟨_, exec_collEnd n s, ?_⟩
    rw [collEndEff_stands (State.stands_device on device (.inr (.inl rfl))),
      State.endColl_open (n := { n with kind := 6 }) device ((s.findColl_acceptNotice _ _ _).trans found)
        ((s.coll_acceptNotice _ _).trans entry) unclosed]
    refine ⟨?_, fun j h => ?_, State.frame_deviceNotice rfl (State.sameTables_setColl _ _ _)⟩
    · rw [State.answered_coll, State.coll_setColl, if_pos rfl, State.effective_acceptNotice]
      rfl
    · rw [State.answered_coll, State.coll_setColl, if_neg h, State.coll_acceptNotice]
  · have accepted := s.reports_acceptNotice { n with kind := 6 }
    have matching : (s.acceptNotice { n with kind := 6 }).announced n.context.toNat n.tag.toNat
        ((s.acceptNotice { n with kind := 6 }).effective { n with kind := 6 }) = some c := by
      rw [State.effective_acceptNotice, State.announced, accepted.collPend]
      exact ann
    refine ⟨_, exec_collEnd n s, ?_⟩
    rw [collEndEff_stands (State.stands_device on device (.inr (.inl rfl))),
      State.endColl_announced (n := { n with kind := 6 }) device ((s.findColl_acceptNotice _ _ _).trans fresh) matching,
      State.effective_acceptNotice]
    refine ⟨?_, (State.answered_colls _ _).trans ((State.colls_setPend _ _).trans accepted.colls),
      State.frame_deviceNotice (State.regs_setPend _ _) (State.sameTables_setPend _ _)⟩
    rw [State.answered_collPend, State.collPend_setPend, accepted.collPend]
    rfl
  · refine ⟨_, exec_collectiveOpen k s, ?_⟩
    rw [collOpenEff_free next fresh hk free]
    refine ⟨?_, State.answered_collPend _ _, fun j h => ?_,
      State.frame_answered (fun _ _ => rfl) ((State.sameTables_setPend _ _).trans (State.sameTables_setColl _ _ _))⟩
    · rw [State.answered_coll, State.coll_setColl, if_pos rfl]
    · rw [State.answered_coll, State.coll_setColl, if_neg h]
      rfl
  · refine ⟨_, exec_collectiveClose k s, ?_⟩
    rw [collCloseEff_ended entry ended]
    refine ⟨?_, fun j h => ?_, State.frame_answered (fun _ _ => rfl) (State.sameTables_setColl _ _ _)⟩
    · rw [State.answered_coll, State.coll_setColl, if_pos rfl]
    · rw [State.answered_coll, State.coll_setColl, if_neg h]
  · have words : ∀ a ∉ [CAP_CNT_HOLDACK.COUNT.addr], ((s.acceptNotice { n with kind := 7 }).bump CAP_CNT_HOLDACK.COUNT).word a
        = (s.acceptNotice { n with kind := 7 }).word a := fun a h => State.word_put _ _ _ _ fun e => h (List.mem_singleton.mpr e)
    obtain ⟨-, -, regs⟩ := (State.noticed_of_words words (by decide)).answered
    refine ⟨_, exec_holdAck n s, ?_⟩
    rw [holdAckEff_stands (State.stands_device on device (.inr (.inr rfl))), State.ackHold_device _ (n := { n with kind := 7 }) device,
      State.get_answered _ _ _ (by decide) (by decide), State.get_bump_same _ _ (by decide), s.get_acceptNotice _ (by decide)]
    exact ⟨rfl, regs, State.tables_answered ((s.sameTables_acceptNotice _).trans (State.sameTables_setWord _ _ _))⟩

end Sys2Proof.Machine
end

section
/-!
SUPPORT. Speed orders (R39, R120, R121): what the delivery of a set-point and a request leave of the frequency in effect, and the
handshake of an order. Obligation SpeedOrdersHandshake.
-/

namespace Sys2Proof.Machine

theorem exec_speedOrderPlace (s : State) : exec .speedOrderPlace s = .next (s.answered (speedOrderPlaceEff s)) := rfl
theorem exec_soAck (s : State) : exec .soAck s = .next (s.answered (soAckEff s)) := rfl
theorem exec_soDone (y : Nat) (s : State) : exec (.soDone y) s = .next (s.answered (soDoneEff y s)) := rfl
theorem exec_soTimeout (s : State) : exec .soTimeout s = .next (s.answered (soTimeoutEff s)) := rfl
theorem exec_vfWaitExpiry (y : Nat) (s : State) : exec (.vfWaitExpiry y) s = .next (s.answered (vfWaitExpiryEff y s)) := rfl

@[simp] theorem State.answered_soFly (s u : State) : (s.answered u).soFly = u.soFly := u.reports_wired.soFly
@[simp] theorem State.answered_soReq (s u : State) : (s.answered u).soReq = u.soReq := u.reports_wired.soReq
@[simp] theorem State.answered_soAck (s u : State) : (s.answered u).soAck = u.soAck := u.reports_wired.soAck

/-! ### What the orders of a yard leave of its speed -/

/-- The frequency and issue rate in effect, whether the frequency is unknown, and the request that waits for the order in flight. -/
def Yard.speed (v : Yard) : Nat × Nat × Bool × Option SpeedReq := (v.fratio, v.thr, v.fUnknown, v.speedNext)

/-- The registers a set-point of a yard may write: its VID word and, for bias and assist, its domain's. -/
def setRegs (y : Nat) : List Nat := [(YRD_VID.reg y).addr, (PWS_DOM.reg y).addr]

/-- No register but the listed ones changes, and the yard's speed, the order in flight and the memories stay. -/
structure State.Paces (s t : State) (y : Nat) (l : List Nat) : Prop where
  words : ∀ a ∉ l, t.word a = s.word a
  fly : t.soFly = s.soFly
  speed : (t.yard y).speed = (s.yard y).speed
  mem : s.KeepsMem t

section
variable {s t u : State} {y : Nat} {l : List Nat}

theorem State.Paces.refl (s : State) : s.Paces s y l := ⟨fun _ _ => rfl, rfl, rfl, fun _ => ⟨rfl, rfl, rfl⟩⟩

theorem State.Paces.trans (h : s.Paces t y l) (k : t.Paces u y l) : s.Paces u y l where
  words a p := (k.words a p).trans (h.words a p)
  fly := k.fly.trans h.fly
  speed := k.speed.trans h.speed
  mem := h.mem.trans k.mem

theorem State.Paces.ite {c : Prop} [Decidable c] (h : s.Paces t y l) (k : s.Paces u y l) : s.Paces (if c then t else u) y l := by
  split
  · exact h
  · exact k

theorem State.Reports.paces (h : s.Reports t) (words : ∀ a ∉ l, t.word a = s.word a) : s.Paces t y l where
  words := words
  fly := h.soFly
  speed := by rw [State.yard, h.yards, State.yard]
  mem := h.keepsMem

theorem State.paces_put (s : State) (f : Fld) (v : Nat) (h : f.addr ∈ l) : s.Paces (s.put f v) y l :=
  (s.reports_put f v).paces fun a p => State.word_put s f v a fun e => p (e ▸ h)

theorem State.paces_setYard (s : State) (v : Yard) (h : v.speed = (s.yard y).speed) : s.Paces (s.setYard y v) y l where
  words _ _ := rfl
  fly := rfl
  speed := by rw [State.yard_setYard, if_pos rfl, h]
  mem := s.keepsMem_setYard y v

theorem State.paces_sendYard (s : State) (z : Nat) (w : Word) : s.Paces (s.sendYard z w) y l :=
  (s.reports_sendYard z w).paces fun a _ => congrArg (Tab.get resetWord · a) (s.regs_sendYard z w)

theorem State.paces_startWait (s : State) (y code : Nat) : s.Paces (s.startWait y code) y l := by
  unfold State.startWait
  split
  · exact .ite (.refl s) (s.paces_setYard _ rfl)
  · exact .refl s

theorem State.paces_orderSet (s : State) (y code slew : Nat) : s.Paces (s.orderSet y code slew) y l := by
  have known : s.Paces (if (s.yard y).fUnknown = true then s.setYard y { s.yard y with vidHold := code } else s) y l :=
    .ite (s.paces_setYard _ rfl) (.refl s)
  exact .ite (s.paces_setYard _ rfl) ((known.trans (State.paces_startWait _ _ _)).trans (State.paces_sendYard _ _ _))

theorem State.paces_deliver (s : State) (h : (PWS_DOM.reg y).addr ∈ l) : s.Paces (s.deliver y) y l := by
  have set : s.Paces (s.setBias y) y l := (s.paces_put (PWS_DOM.BIAS y) _ h).trans (State.paces_put _ (PWS_DOM.ASSIST y) _ h)
  have bias : s.Paces (s.refreshBias y) y l := .ite set (.refl s)
  exact bias.trans (.ite (.refl _) (State.paces_orderSet _ _ _ _))

theorem State.paces_redeliver (s s0 : State) (h : (PWS_DOM.reg y).addr ∈ l) : s.Paces (s.redeliver s0 y) y l :=
  .ite (.refl s) (s.paces_deliver h)

theorem State.paces_sendPreset (s : State) (y : Nat) : s.Paces (s.sendPreset y) y l :=
  .ite (s.paces_setYard _ rfl) (s.paces_sendYard _ _)

/-- What was withheld is no longer marked. -/
def State.holdCleared (s : State) (y : Nat) : State :=
  if (s.yard y).setHeld ∨ (s.yard y).preHeld then s.setYard y { s.yard y with setHeld := false, preHeld := false } else s

/-- A SETPOINT that was withheld goes out. -/
def State.setGoesOut (s : State) (held : Bool) (y : Nat) : State :=
  if !held then s else if s.setLow y then s.orderSet y 40 (s.get (YRD_SLEW.SLEW y)) else s.deliver y

theorem State.releaseSet_eq (s : State) (y : Nat) :
    s.releaseSet y = if (s.yard y).preHeld then ((s.holdCleared y).setGoesOut (s.yard y).setHeld y).sendPreset y
      else (s.holdCleared y).setGoesOut (s.yard y).setHeld y := rfl

theorem State.paces_releaseSet (s : State) (h : (PWS_DOM.reg y).addr ∈ l) : s.Paces (s.releaseSet y) y l := by
  have cleared : s.Paces (s.holdCleared y) y l := .ite (s.paces_setYard _ rfl) (.refl s)
  have out : s.Paces ((s.holdCleared y).setGoesOut (s.yard y).setHeld y) y l :=
    cleared.trans (.ite (.refl _) (.ite (State.paces_orderSet _ _ _ _) (State.paces_deliver _ h)))
  rw [State.releaseSet_eq]
  exact .ite (out.trans (State.paces_sendPreset _ _)) out

theorem State.paces_setTarget (s : State) (code : Nat) : s.Paces (s.setTarget y code) y (setRegs y) :=
  (s.paces_put (YRD_VID.TARGET y) code (List.mem_cons_self ..)).trans
    (State.paces_redeliver _ _ (List.mem_cons_of_mem _ (List.mem_cons_self ..)))

theorem State.paces_enqueueSpeed (s : State) (r : SpeedReq) : s.Paces (s.enqueueSpeed r) y l :=
  ⟨fun _ _ => rfl, rfl, rfl, fun _ => ⟨rfl, rfl, rfl⟩⟩
theorem State.paces_dequeueSpeed (s : State) (z : Nat) : s.Paces (s.dequeueSpeed z) y l := ⟨fun _ _ => rfl, rfl, rfl, fun _ => ⟨rfl, rfl, rfl⟩⟩

/-- With no order in flight a request waits for none. -/
theorem State.paces_requestAt (at_ y f thr : Nat) (vid : Option Nat) (h : s.soFly = none) :
    s.Paces (s.requestAt at_ y f thr vid) y (setRegs y) := by
  have grounded : ¬ s.speedFlying y = true := by simp [State.speedFlying, h]
  have lowered : s.Paces (s.setYard y { s.yard y with vfWait := none }) y (setRegs y) := s.paces_setYard _ rfl
  have raised (code : Nat) :
      s.Paces (if s.get (YRD_VID.TARGET y) < code then (s.setYard y { s.yard y with vfWait := none }).setTarget y code else s) y (setRegs y) :=
    .ite (lowered.trans (State.paces_setTarget _ _)) (.refl s)
  unfold State.requestAt
  dsimp only
  split
  · exact s.paces_enqueueSpeed _
  next code =>
    rw [if_neg grounded]
    refine .ite ?raise (.ite (lowered.trans (State.paces_enqueueSpeed _ _)) (lowered.trans (State.paces_dequeueSpeed _ _)))
    refine .ite (.trans (.trans (raised code) ?_) (State.paces_dequeueSpeed _ _))
      (.trans (.trans (raised code) ?_) (State.paces_enqueueSpeed _ _))
    all_goals exact State.paces_setYard _ _ rfl

end

/-! ### An order in effect (R39, R120) -/

/-- No order is in flight. -/
def State.grounded (s : State) : State := { s with soFly := none }

/-- The frequency and issue rate of an order are the yard's. -/
def State.speedTaken (s : State) (r : SpeedReq) : State :=
  s.setYard r.yard { s.yard r.yard with fratio := r.fratio, thr := r.thr, fUnknown := false }

/-- A lower voltage follows, unless Oteus holds course (R380) or the yard is in the maintenance state (R184). -/
def State.voltageFollows (s : State) (r : SpeedReq) : State :=
  match r.vid with
  | none => s
  | some code => if s.get (YRD_VID.TARGET r.yard) ≠ code ∧ !s.courseHeld ∧ !s.inMaint r.yard then s.setTarget r.yard code else s

/-- A decrease held back while the frequency was unknown proceeds. -/
def State.heldProceeds (s : State) (unknown : Bool) (r : SpeedReq) : State :=
  if unknown ∧ !s.on (YRD_STATUS.ALL_HANDS r.yard) then s.releaseSet r.yard else s

theorem State.speedInEffect_eq (s : State) (r : SpeedReq) :
    s.speedInEffect r = (((s.speedTaken r).voltageFollows r).heldProceeds (s.yard r.yard).fUnknown r).speedAgain r.yard := rfl

/-- The order in flight that is done is in effect. -/
theorem soDoneEff_flying {s : State} {f : InFlight} (h : s.soFly = some f) :
    soDoneEff f.req.yard s = (s.grounded).speedInEffect f.req := by
  unfold soDoneEff
  rw [h]
  exact if_pos rfl

section
variable {s : State} {r : SpeedReq} {l : List Nat}

theorem State.yard_speedTaken (s : State) (r : SpeedReq) :
    (s.speedTaken r).yard r.yard = { s.yard r.yard with fratio := r.fratio, thr := r.thr, fUnknown := false } :=
  (State.yard_setYard _ _ _ _).trans (if_pos rfl)

theorem State.paces_heldProceeds (s : State) (b : Bool) (h : (PWS_DOM.reg r.yard).addr ∈ l) : s.Paces (s.heldProceeds b r) r.yard l :=
  .ite (s.paces_releaseSet h) (.refl s)

theorem State.paces_voltageFollows (s : State) (r : SpeedReq) : s.Paces (s.voltageFollows r) r.yard (setRegs r.yard) := by
  unfold State.voltageFollows
  split
  · exact .refl s
  · exact .ite (s.paces_setTarget _) (.refl s)

theorem State.voltageFollows_none (s : State) (h : r.vid = none) : s.voltageFollows r = s := by
  unfold State.voltageFollows
  rw [h]

/-- With no request waiting for the order none is judged. -/
theorem State.speedAgain_none {y : Nat} (h : (s.yard y).speedNext = none) : s.speedAgain y = s := by
  unfold State.speedAgain
  rw [h]

/-- The request that waited no longer waits, and the registers and memories follow its judgement. -/
theorem State.speedAgain_some {y : Nat} {q : SpeedReq} (h : (s.yard y).speedNext = some q) (fly : s.soFly = none) :
    ((s.speedAgain y).yard y).speedNext = none ∧ (s.speedAgain y).soFly = none ∧ s.KeepsMem (s.speedAgain y) := by
  have taken : ((s.setYard y { s.yard y with speedNext := none }).yard y).speed = ((s.yard y).fratio, (s.yard y).thr, (s.yard y).fUnknown, none) := by
    rw [State.yard_setYard, if_pos rfl]
    rfl
  have judged : (s.setYard y { s.yard y with speedNext := none }).Paces (s.speedAgain y) y (setRegs y) := by
    unfold State.speedAgain
    rw [h]
    exact .ite (.refl _) (State.paces_requestAt _ _ _ _ _ fly)
  exact ⟨congrArg (·.2.2.2) (judged.speed.trans taken), judged.fly.trans fly, (s.keepsMem_setYard _ _).trans judged.mem⟩

/-- The yard's speed is that of the order while what follows paces. -/
theorem State.Paces.speedTaken {t : State} (h : (s.speedTaken r).Paces t r.yard l) :
    (t.yard r.yard).fratio = r.fratio ∧ (t.yard r.yard).thr = r.thr ∧ (t.yard r.yard).fUnknown = false ∧
      (t.yard r.yard).speedNext = (s.yard r.yard).speedNext := by
  have speed := h.speed
  rw [State.yard_speedTaken] at speed
  exact ⟨congrArg (·.1) speed, congrArg (·.2.1) speed, congrArg (·.2.2.1) speed, congrArg (·.2.2.2) speed⟩

/-- Up to the judgement of a waiting request an order in effect paces. -/
theorem State.paces_inEffect (s : State) (r : SpeedReq) (b : Bool) :
    (s.speedTaken r).Paces (((s.speedTaken r).voltageFollows r).heldProceeds b r) r.yard (setRegs r.yard) :=
  (State.paces_voltageFollows _ r).trans (State.paces_heldProceeds _ b (List.mem_cons_of_mem _ (List.mem_cons_self ..)))

/-- An order in effect for which no request waited. -/
theorem State.speedInEffect_idle (h : (s.yard r.yard).speedNext = none) :
    s.speedInEffect r = ((s.speedTaken r).voltageFollows r).heldProceeds (s.yard r.yard).fUnknown r := by
  obtain ⟨-, -, -, next⟩ := (s.paces_inEffect r (s.yard r.yard).fUnknown).speedTaken
  rw [State.speedInEffect_eq, State.speedAgain_none (next.trans h)]

theorem State.keepsMem_speedTaken (s : State) (r : SpeedReq) : s.KeepsMem (s.speedTaken r) := s.keepsMem_setYard _ _

end

theorem yrdVid_ne_pwsDom {y : Nat} (h : y < Config.yardCount) : (YRD_VID.TARGET y).addr ≠ (PWS_DOM.reg y).addr := by
  have : y < 96 := h
  simp only [YRD_VID.TARGET, PWS_DOM.reg]
  omega

/-- The target after the voltage followed an order that names a code, course not held. -/
theorem State.get_target_voltageFollows {s : State} {r : SpeedReq} {code : Nat} (vid : r.vid = some code) (yard : r.yard < Config.yardCount)
    (small : code < 1024) (course : s.courseHeld = false) :
    (s.voltageFollows r).get (YRD_VID.TARGET r.yard) = if s.inMaint r.yard then s.get (YRD_VID.TARGET r.yard) else code := by
  have apart := yrdVid_ne_pwsDom yard
  have moved : (s.setTarget r.yard code).get (YRD_VID.TARGET r.yard) = code := by
    have kept := State.paces_redeliver (l := [(PWS_DOM.reg r.yard).addr]) (s.put (YRD_VID.TARGET r.yard) code) s (List.mem_cons_self ..)
    have put : (s.put (YRD_VID.TARGET r.yard) code).get (YRD_VID.TARGET r.yard) = code % 1024 := State.get_put_same _ _ _ (by simp only [YRD_VID.TARGET]; decide)
    rw [State.setTarget, State.get, kept.words _ (by simpa using apart), ← State.get, put, Nat.mod_eq_of_lt small]
  unfold State.voltageFollows
  rw [vid]
  dsimp only
  rw [course]
  by_cases maint : s.inMaint r.yard = true
  · rw [if_neg (by simp [maint]), if_pos maint]
  · rw [if_neg maint]
    by_cases same : s.get (YRD_VID.TARGET r.yard) = code
    · rw [if_neg (by simp [same]), same]
    · rw [if_pos ⟨same, rfl, by simpa using maint⟩, moved]

/-! ### The port (R39) -/

/-- The request placed is the yard's last order. -/
def State.ordersLast (s : State) (r : SpeedReq) : State := s.setYard r.yard { s.yard r.yard with lastOrder := some r }

/-- The request stands on the port. -/
def State.placed (s : State) (r : SpeedReq) : State :=
  { s with soQueue := s.soQueue.filter fun (q : SpeedReq) => q.yard != r.yard, soFly := some ⟨r, false⟩, soReq := !s.soReq }

theorem speedOrderPlaceEff_next {s : State} {r : SpeedReq} (free : s.soFly = none) (level : s.soReq = s.soAck) (next : s.nextSpeed = some r) :
    speedOrderPlaceEff s = (s.ordersLast r).placed r := by
  unfold speedOrderPlaceEff
  rw [free, next]
  exact if_neg (not_not_intro level)

theorem State.placed_spec (s : State) (r : SpeedReq) :
    (s.placed r).soFly = some ⟨r, false⟩ ∧ (s.placed r).soReq = (!s.soReq) ∧ (∀ y, (s.placed r).yard y = s.yard y) ∧
      ((s.placed r).soQueue = s.soQueue.filter fun q => q.yard != r.yard) ∧ (∀ a, (s.placed r).word a = s.word a) ∧ s.KeepsMem (s.placed r) :=
  ⟨rfl, rfl, fun _ => rfl, rfl, fun _ => rfl, fun _ => ⟨rfl, rfl, rfl⟩⟩

theorem State.ordersLast_spec (s : State) (r : SpeedReq) :
    ((s.ordersLast r).yard r.yard).lastOrder = some r ∧ (s.ordersLast r).soReq = s.soReq ∧ (s.ordersLast r).soQueue = s.soQueue ∧
      (∀ a, (s.ordersLast r).word a = s.word a) ∧ s.KeepsMem (s.ordersLast r) := by
  refine ⟨?_, rfl, rfl, fun _ => rfl, s.keepsMem_setYard _ _⟩
  rw [State.ordersLast, State.yard_setYard, if_pos rfl]

/-- An order repeated: it flies again, with a new level of OT_SO_REQ. -/
def State.repeated (s : State) (f : InFlight) : State := { s with soFly := some ⟨f.req, true⟩, soReq := !s.soReq }

theorem soTimeoutEff_first {s : State} {f : InFlight} (h : s.soFly = some f) (first : f.again = false) :
    soTimeoutEff s = (s.raise 0x03 [f.req.yard, f.req.fratio]).repeated f := by
  unfold soTimeoutEff
  rw [h]
  exact if_neg (by simp [first])

theorem State.repeated_spec (s : State) (f : InFlight) :
    (s.repeated f).soFly = some ⟨f.req, true⟩ ∧ (s.repeated f).soReq = (!s.soReq) ∧ (s.repeated f).regs = s.regs ∧ s.KeepsPlant (s.repeated f) ∧
      s.KeepsMem (s.repeated f) :=
  ⟨rfl, rfl, rfl, fun _ => ⟨rfl, rfl, rfl, rfl, rfl, rfl, rfl⟩, fun _ => ⟨rfl, rfl, rfl⟩⟩

/-- The yard's frequency is unknown, and the code of its set-point is held. -/
def State.lost (s : State) (y : Nat) : State := s.grounded.setYard y { s.yard y with fUnknown := true, vidHold := s.videff y }

theorem soTimeoutEff_again {s : State} {f : InFlight} (h : s.soFly = some f) (again : f.again = true) :
    soTimeoutEff s = ((s.raise 0x03 [f.req.yard, f.req.fratio]).lost f.req.yard).speedAgain f.req.yard := by
  unfold soTimeoutEff
  rw [h]
  exact if_pos again

theorem State.lost_spec (s : State) (y : Nat) :
    (s.lost y).soFly = none ∧ ((s.lost y).yard y).fUnknown = true ∧ ((s.lost y).yard y).speedNext = (s.yard y).speedNext ∧
      (s.lost y).regs = s.regs ∧ s.KeepsMem (s.lost y) := by
  refine ⟨rfl, ?_, ?_, rfl, fun _ => ⟨rfl, rfl, rfl⟩⟩
  all_goals rw [State.lost, State.yard_setYard, if_pos rfl]

/-- What the raising of the fault shows of an answer that changes no register after it. -/
theorem State.raised_answered {s u : State} {c : Nat} {p : List Nat} (hc : c < 0x80) (regs : u.regs = (s.raise c p).regs) :
    (s.answered u).get (Fld.bit FLT_ACT.CODE c) = 1 ∧ s.KeepsPages (s.answered u) faultPages [] := by
  have act := act_ofAct c hc
  refine ⟨?_, State.keepsPages_answered ((s.within_raise c p hc).regs regs)⟩
  rw [State.get_answered _ _ _ (by simp only [FLT_STATUS.reg]; omega) (by simp only [PRT_MP.reg]; omega), State.get_congr regs,
    State.get_act_raise s c p hc]

theorem State.shedEvt_bit (s : State) (y : Nat) :
    tb ((s.put (YRD_SHED_EVT.EVT y) (setBit (s.get (YRD_SHED_EVT.EVT y)) 4)).get (YRD_SHED_EVT.EVT y)) 4 = true := by
  have bound : s.get (YRD_SHED_EVT.EVT y) < 2 ^ 5 := Word.field_lt _ _ _
  have put (v : Nat) : (s.put (YRD_SHED_EVT.EVT y) v).get (YRD_SHED_EVT.EVT y) = v % 2 ^ 5 :=
    State.get_put_same _ _ _ (by simp only [YRD_SHED_EVT.EVT]; decide)
  rw [put]
  simp only [setBit, tb, beq_iff_eq]
  split <;> omega

theorem vfWaitExpiryEff_waiting {s : State} {y : Nat} {w : VfWait} (h : (s.yard y).vfWait = some w) :
    vfWaitExpiryEff y s = s.put (YRD_SHED_EVT.EVT y) (setBit (s.get (YRD_SHED_EVT.EVT y)) 4) := by
  unfold vfWaitExpiryEff
  rw [h]

/-- Settles O18: an order keeps the registers but the yard's set-point, and its timeout those outside the fault's pages. -/
theorem speedOrdersHandshake : Obligations.SpeedOrdersHandshake := by
  unfold Obligations.SpeedOrdersHandshake
  refine ⟨fun r s free level next => ?_, fun s => ?_, fun f s fly vid next => ?_, fun f code s fly vid yard small course next => ?_,
    fun f s fly first => ?_, fun f s fly again next => ?_, fun f q s fly next => ?_, fun y w s waiting => ?_⟩
  · obtain ⟨flying, toggled, yards, queue, words, mem⟩ := (s.ordersLast r).placed_spec r
    obtain ⟨last, req, queue', words', mem'⟩ := s.ordersLast_spec r
    refine ⟨_, exec_speedOrderPlace s, ?_⟩
    rw [speedOrderPlaceEff_next free level next]
    refine ⟨(State.answered_soFly _ _).trans flying, ?_, ?_, ?_, State.keepsRegs_answered fun a _ => (words a).trans (words' a),
      State.keepsMem_answered (mem'.trans mem)⟩
    · rw [State.answered_soReq, toggled, req]
    · rw [State.answered_yard, yards, last]
    · rw [State.answered_soQueue, queue, queue']
  · exact ⟨_, exec_soAck s, State.answered_soAck _ _, State.frame_answered (fun _ _ => rfl) (by constructor <;> rfl)⟩
  · have pace : (s.grounded.speedTaken f.req).Paces ((s.grounded.speedTaken f.req).heldProceeds (s.grounded.yard f.req.yard).fUnknown f.req)
        f.req.yard [(PWS_DOM.reg f.req.yard).addr] := State.paces_heldProceeds _ _ (List.mem_cons_self ..)
    obtain ⟨fratio, thr, known, -⟩ := pace.speedTaken
    refine ⟨_, exec_soDone _ s, ?_⟩
    rw [soDoneEff_flying fly, State.speedInEffect_idle (s := s.grounded) next, State.voltageFollows_none _ vid, State.answered_yard]
    exact ⟨(State.answered_soFly _ _).trans pace.fly, fratio, thr, known, State.keepsRegs_answered pace.words,
      State.keepsMem_answered pace.mem⟩
  · have pace := s.grounded.paces_inEffect f.req (s.grounded.yard f.req.yard).fUnknown
    have held := State.paces_heldProceeds (r := f.req) (l := [(PWS_DOM.reg f.req.yard).addr])
      ((s.grounded.speedTaken f.req).voltageFollows f.req) (s.grounded.yard f.req.yard).fUnknown (List.mem_cons_self ..)
    obtain ⟨fratio, -, -, -⟩ := pace.speedTaken
    have target := State.get_target_voltageFollows (s := s.grounded.speedTaken f.req) vid yard small course
    have vidAddr : (YRD_VID.TARGET f.req.yard).addr ∉ [(PWS_DOM.reg f.req.yard).addr] := by simpa using yrdVid_ne_pwsDom yard
    refine ⟨_, exec_soDone _ s, ?_⟩
    rw [soDoneEff_flying fly, State.speedInEffect_idle (s := s.grounded) next, State.answered_yard]
    refine ⟨(State.answered_soFly _ _).trans pace.fly, fratio, ?_, State.keepsRegs_answered pace.words, State.keepsMem_answered pace.mem⟩
    rw [State.get_answered _ _ _ (by simp only [YRD_VID.TARGET, FLT_STATUS.reg]; omega) (by simp only [YRD_VID.TARGET, PRT_MP.reg]; omega),
      State.get, held.words _ vidAddr, ← State.get, target]
    rfl
  · have reports := s.reports_raise 0x03 [f.req.yard, f.req.fratio]
    obtain ⟨flying, toggled, regs, plant, mem⟩ := (s.raise 0x03 [f.req.yard, f.req.fratio]).repeated_spec f
    refine ⟨_, exec_soTimeout s, ?_⟩
    rw [soTimeoutEff_first fly first]
    obtain ⟨act, pages⟩ := State.raised_answered (by decide) regs
    refine ⟨(State.answered_soFly _ _).trans flying, ?_, act, pages, State.keepsPlant_answered (reports.keepsPlant.trans plant),
      State.keepsMem_answered (reports.keepsMem.trans mem)⟩
    rw [State.answered_soReq, toggled, reports.soReq]
  · have reports := s.reports_raise 0x03 [f.req.yard, f.req.fratio]
    obtain ⟨flying, unknown, waits, regs, mem⟩ := (s.raise 0x03 [f.req.yard, f.req.fratio]).lost_spec f.req.yard
    have none_ : ((s.raise 0x03 [f.req.yard, f.req.fratio]).yard f.req.yard).speedNext = none := by
      rw [State.yard, reports.yards]
      exact next
    refine ⟨_, exec_soTimeout s, ?_⟩
    rw [soTimeoutEff_again fly again, State.speedAgain_none (waits.trans none_)]
    obtain ⟨act, pages⟩ := State.raised_answered (by decide) regs
    exact ⟨(State.answered_soFly _ _).trans flying, (congrArg Yard.fUnknown (State.answered_yard _ _ _)).trans unknown, act, pages,
      State.keepsMem_answered (reports.keepsMem.trans mem)⟩
  · have pace := s.grounded.paces_inEffect f.req (s.grounded.yard f.req.yard).fUnknown
    obtain ⟨-, -, -, waits⟩ := pace.speedTaken
    obtain ⟨judged, landed, mem⟩ := State.speedAgain_some (waits.trans next) pace.fly
    refine ⟨_, exec_soDone _ s, ?_⟩
    rw [soDoneEff_flying fly, State.speedInEffect_eq]
    exact ⟨(State.answered_soFly _ _).trans landed, (congrArg Yard.speedNext (State.answered_yard _ _ _)).trans judged,
      State.keepsMem_answered (pace.mem.trans mem)⟩
  · refine ⟨_, exec_vfWaitExpiry y s, ?_⟩
    rw [vfWaitExpiryEff_waiting waiting, State.answered_yard, State.yard_put,
      State.get_answered _ _ _ (by simp only [YRD_SHED_EVT.EVT, FLT_STATUS.reg]; omega) (by simp only [YRD_SHED_EVT.EVT, PRT_MP.reg]; omega)]
    exact ⟨s.shedEvt_bit y, waiting, State.frame_answered (fun a h => State.word_put _ _ _ _ fun e => h (List.mem_singleton.mpr e))
      (State.sameTables_setWord _ _ _)⟩

end Sys2Proof.Machine
end

section
/-!
SUPPORT. A write of one register over a port (R8): what becomes of a field that nothing refuses, and the state that a word leaves whose
fields are all taken. Obligations ManagementAndDebugPorts, BundlesLoadAndActivityIsTaken and ResetsDoWhatTheyStopAndKeep.
-/

namespace Sys2Proof.Machine

/-! ### The judgement of a field -/

/-- Nothing refuses a field: it is writable, the class may write it, it needs no unlocking, no rule speaks against it, and Oteus holds no
course or the requester is MGMT over its own port. -/
structure State.Admits (s : State) (q : Requester) (ws : Words) (a : Nat) (f : FSpec) : Prop where
  writable : isRo a f = false
  shared : f.acc ≠ .h2m
  may : mayWriteField (clsOf q) a f = true
  open_ : f.acc ≠ .rwx
  rule : s.ruleOf (s.newVal ws) (clsOf q) a f.lo ((s.newWord ws a).field f.lo f.w) = none
  course : s.holding = false ∨ q.port = .mp

section
variable {s : State} {q : Requester} {ws : Words} {a : Nat} {f : FSpec}

theorem State.Admits.free (h : s.Admits q ws a f) : ¬ (s.holding = true ∧ q.port ≠ .mp ∧ (slotAt a).isNone = true) := by
  rintro ⟨holds, port, -⟩
  rcases h.course with idle | mp
  · exact absurd (holds.symm.trans idle) (by decide)
  · exact port mp

theorem State.judge_eq (h : s.Admits q ws a f) :
    s.judge q ws a f =
      if byAction a f then .act
      else if f.acc = .w1c then .set (andNot f.w ((s.word a).field f.lo f.w) ((s.newWord ws a).field f.lo f.w))
      else .set (stored a ((s.newWord ws a).field f.lo f.w)) := by
  have readable : ¬ (isRo a f = true ∨ f.acc = .h2m ∧ clsOf q = .mgmt) := by
    rintro (ro | ⟨shared, -⟩)
    · exact absurd (ro.symm.trans h.writable) (by decide)
    · exact h.shared shared
  have expert : ¬ ((f.acc == .rwx && !s.unlocked a) = true) := by simp [h.open_]
  unfold State.judge
  dsimp only
  rw [if_neg readable, if_neg (by simp [h.may]), if_neg expert, h.rule]
  exact if_neg h.free

/-- A field that is stored. -/
theorem State.judge_set (h : s.Admits q ws a f) (stays : byAction a f = false) (plain : f.acc ≠ .w1c) :
    s.judge q ws a f = .set (stored a ((s.newWord ws a).field f.lo f.w)) := by
  rw [State.judge_eq h, if_neg (by simp [stays]), if_neg plain]

/-- A field whose action keeps it. -/
theorem State.judge_act (h : s.Admits q ws a f) (acts : byAction a f = true) : s.judge q ws a f = .act := by
  rw [State.judge_eq h, if_pos acts]

/-- A read-only field takes nothing. -/
theorem State.judge_ro (h : isRo a f = true) : s.judge q ws a f = .ro := by
  unfold State.judge
  dsimp only
  rw [if_pos (.inl h)]

end

theorem State.newWord_one (s : State) (a : Nat) (w : Word) : s.newWord [(a, w)] a = w := by
  simp only [State.newWord, List.find?_cons, BEq.rfl]

/-! ### The write of a word -/

/-- A verdict that takes the field. -/
def Verdict.takes : Verdict → Bool
  | .set _ => true
  | .act => true
  | _ => false

/-- The field at a bit is taken. -/
def tookAt (l : List (FSpec × Verdict)) (lo : Nat) : Bool := l.any fun p => p.1.lo == lo && p.2.takes

theorem State.busStore_taken {s : State} {q : Requester} {a : Nat} {w : Word} {l : List (FSpec × Verdict)} (slot : slotAt a = none)
    (low : apertureAddr a < 0x80000) (judged : s.judgeWord q [(a, w)] a = (l, false)) (rec : recordReason (clsOf q) a l = none)
    (took : ((fieldsAt a).any fun f => tookAt l f.lo) = true) :
    s.busStore q (apertureAddr a) [(a, w)] = (s.setWord a (applied (s.word a) l)).afterWord s q a w (tookAt l) :=
  (s.busStore_one q a w l slot low judged rec).trans (if_pos took)

/-- Where admission watches no field, the word's verdicts are its fields'. -/
theorem State.judgeWord_unwatched (s : State) (q : Requester) (ws : Words) {a : Nat} (h : (fieldsAt a).any (watched a) = false) :
    s.judgeWord q ws a = ((fieldsAt a).map fun f => (f, s.judge q ws a f), false) := by
  have none_ : (((fieldsAt a).map fun f => (f, s.judge q ws a f)).any fun p => watched a p.1) = false := by
    rw [List.any_map]
    exact h
  unfold State.judgeWord
  dsimp only
  rw [none_]
  rfl

/-- What of a register makes a write of it one of a word of its own: no command slot, below the model store, of no protected memory, and
watched by no admission. -/
structure PlainReg (a : Nat) : Prop where
  home : homeAddr (apertureAddr a) = a
  slot : slotAt a = none
  low : apertureAddr a < 0x80000
  memory : memoryOf a = none
  unwatched : (fieldsAt a).any (watched a) = false

/-- A write of a word that reaches its register and whose fields are all taken. -/
theorem State.wordWrite_taken {s : State} {q : Requester} {a : Nat} {w : Word} {l : List (FSpec × Verdict)} (plain : PlainReg a)
    (running : s.cpReset = false) (shut : q.port = .dbg → s.active = false)
    (judged : ((fieldsAt a).map fun f => (f, s.judge q [(a, w)] a f)) = l) (rec : recordReason (clsOf q) a l = none)
    (took : ((fieldsAt a).any fun f => tookAt l f.lo) = true) :
    s.wordWrite q a w = (s.setWord a (applied (s.word a) l)).afterWord s q a w (tookAt l) := by
  have unprotected (m n : Nat) (e : memoryOf a = some (m, n)) : s.memError m n = none := absurd (plain.memory.symm.trans e) nofun
  rw [s.wordWrite_eq q a w running shut plain.home unprotected]
  exact State.busStore_taken plain.slot plain.low ((s.judgeWord_unwatched q _ plain.unwatched).trans (by rw [judged])) rec took

end Sys2Proof.Machine
end

section
/-!
SUPPORT. The management and the debug port (R51, R316, R319-R321): transfers and accesses that are performed, held or turned away, and
the wires behind an in-band interrupt. Obligation ManagementAndDebugPorts.
-/

namespace Sys2Proof.Machine

theorem exec_mpPrivateRead (s : State) : exec .mpPrivateRead s = .next (s.answered { s with mpRead := s.mp.bytes }) := rfl
theorem exec_i3cDynamicAddress (how : DynAddrKind) (addr : BitVec 7) (s : State) :
    exec (.i3cDynamicAddress how addr) s = .next (s.answered (if s.takesAddr how then s.put PRT_MP.DYN_ADDR addr.toNat else s)) := rfl
theorem exec_i3cDisecEnec (enable : Bool) (s : State) :
    exec (.i3cDisecEnec enable) s = .next (s.answered { s with mpDisec := !enable }) := rfl
theorem exec_ibiRaise (ack : Bool) (s : State) :
    exec (.ibiRaise ack) s = .next (s.answered (if s.mayInterrupt && ack then s.put PRT_MP.IBI_PEND 0 else s)) := rfl

@[simp] theorem State.answered_mpRead (s u : State) : (s.answered u).mpRead = u.mpRead := u.reports_wired.mpRead
@[simp] theorem State.answered_mpDisec (s u : State) : (s.answered u).mpDisec = u.mpDisec := u.reports_wired.mpDisec
@[simp] theorem State.answered_dbgHeld (s u : State) : (s.answered u).dbgHeld = u.dbgHeld := u.reports_wired.dbgHeld

/-! ### What follows by wire -/

/-- An answer keeps what its effect keeps but for the wires. -/
theorem State.KeepsRegs.answered {s u : State} {l : List Nat} (h : s.KeepsRegs u l) : s.KeepsRegs (s.answered u) l := by
  intro a ha
  have eff := h a ha
  split
  next e =>
    rw [if_pos e] at eff
    subst e
    exact u.fltStatus_wired.trans eff
  next hf =>
    rw [if_neg hf] at eff
    split
    next e =>
      rw [if_pos e] at eff
      subst e
      exact u.prtMp_wired.trans eff
    next hp =>
      rw [if_neg hp] at eff
      exact (State.word_answered s u a hf hp).trans eff

/-- What a list's registers alone may have lost is kept but for the wires. -/
theorem State.KeepsRegs.of_words {s u : State} {l : List Nat} (h : ∀ a ∉ l, u.word a = s.word a) : s.KeepsRegs u l := by
  intro a ha
  rw [h a ha]
  split
  · rfl
  · split
    · rfl
    · rfl

/-- A change of the pair shows in PIN and IBI_PEND alone. -/
theorem State.keepsRegs_refreshPair {s u : State} {l : List Nat} (h : s.KeepsRegs u l) : s.KeepsRegs u.refreshPair l := by
  have pend (t : State) : (t.put PRT_MP.IBI_PEND (setBit (t.get PRT_MP.IBI_PEND) 0)).word PRT_MP.reg.addr &&& 0xFFFEFFFF
      = t.word PRT_MP.reg.addr &&& 0xFFFEFFFF := by
    have put : (t.put PRT_MP.IBI_PEND (setBit (t.get PRT_MP.IBI_PEND) 0)).word PRT_MP.reg.addr
        = (t.word PRT_MP.reg.addr).withField 16 8 (setBit ((t.word PRT_MP.reg.addr).field 16 8) 0) := (State.word_setWord _ _ _ _).trans (if_pos rfl)
    rw [put, Word.withField_setBit_zero]
    exact Word.withField_and_mask _ _ _ _ _ (by decide) (by decide)
  have shown : s.KeepsRegs (u.put FLT_STATUS.PIN u.fltPair) l := by
    intro a ha
    have eff := h a ha
    by_cases flt : a = FLT_STATUS.reg.addr
    · rw [if_pos flt] at eff ⊢
      subst flt
      exact (State.word_put_and_mask _ FLT_STATUS.PIN _ 0xFFFFFFCD (by decide) (by decide)).trans eff
    · rw [if_neg flt] at eff ⊢
      rwa [State.word_put _ FLT_STATUS.PIN _ _ flt]
  by_cases pin : u.get FLT_STATUS.PIN = u.fltPair
  · have same : u.refreshPair = u := if_pos pin
    rw [same]
    exact h
  · have eff : u.refreshPair = (u.put FLT_STATUS.PIN u.fltPair).put PRT_MP.IBI_PEND (setBit ((u.put FLT_STATUS.PIN u.fltPair).get PRT_MP.IBI_PEND) 0) := by
      rw [State.get_put_addr _ FLT_STATUS.PIN PRT_MP.IBI_PEND _ (by decide)]
      exact if_neg pin
    intro a ha
    have kept := shown a ha
    rw [eff]
    by_cases mp : a = PRT_MP.reg.addr
    · subst mp
      rw [if_neg (by decide), if_pos rfl] at kept ⊢
      rw [pend, kept]
    · rwa [State.word_put _ PRT_MP.IBI_PEND _ _ mp]

/-- A change of the pair keeps every memory and unit. -/
theorem State.sameTables_refreshPair (s : State) : s.SameTables s.refreshPair := s.reports_refreshPair.sameTables s.tdm_refreshPair

/-- Registers that do not drive the pair. -/
theorem State.fltPair_congr {s t : State} (inj : t.get FLT_INJ_PIN.PIN = s.get FLT_INJ_PIN.PIN)
    (state : t.get GLB_SERVICE.STATE = s.get GLB_SERVICE.STATE) (reset : t.blkReset = s.blkReset)
    (hold : t.get FLT_STATUS.HOLD = s.get FLT_STATUS.HOLD) (k : t.get FLT_PEND.K = s.get FLT_PEND.K)
    (f : t.get FLT_PEND.F = s.get FLT_PEND.F) : t.fltPair = s.fltPair := by
  unfold State.fltPair
  simp only [State.inBoot, State.holding, State.on, inj, state, reset, hold, k, f]
  rfl

theorem State.fltPair_refreshAssert (s : State) : s.refreshAssert.fltPair = s.fltPair := by
  have kept {g : Fld} (h : FLT_STATUS.F_ASSERT.apart g) : s.refreshAssert.get g = s.get g := State.get_put_apart _ _ _ _ (by decide) h
  exact State.fltPair_congr (kept (.inl (by decide))) (kept (.inl (by decide))) s.reports_refreshAssert.blkReset
    (kept (.inr (.inr (by decide)))) (kept (.inl (by decide))) (kept (.inl (by decide)))

/-- Where PIN shows the pair's levels already, the wires write F_ASSERT alone. -/
theorem State.wired_of_pin {s : State} (h : s.get FLT_STATUS.PIN = s.fltPair) : s.wired = s.refreshAssert := by
  have pin : s.refreshAssert.get FLT_STATUS.PIN = s.get FLT_STATUS.PIN := State.get_put_apart _ _ _ _ (by decide) (.inr (.inl (by decide)))
  have shown : s.refreshAssert.get FLT_STATUS.PIN = s.refreshAssert.fltPair := by rw [pin, h, s.fltPair_refreshAssert]
  exact if_pos shown

/-- PRT_MP reads what the effect left where PIN shows the pair's levels. -/
theorem State.get_prtMp_answered {s u : State} {f : Fld} (h : f.addr = PRT_MP.reg.addr) (pin : u.get FLT_STATUS.PIN = u.fltPair) :
    (s.answered u).get f = u.get f := by
  have wired : (s.answered u).regs = u.wired.regs := rfl
  have same : (s.answered u).regs = u.refreshAssert.regs := wired.trans (congrArg State.regs (State.wired_of_pin pin))
  rw [State.get_congr same]
  exact State.get_put_addr _ _ _ _ (by rw [h]; decide)

/-- The wires reach IBI_PEND alone in PRT_MP. -/
theorem State.get_prtMp_wired (s : State) {f : Fld} (h : f.addr = PRT_MP.reg.addr) (apart : PRT_MP.IBI_PEND.apart f) :
    s.wired.get f = s.get f := by
  have assert_ : s.refreshAssert.get f = s.get f := State.get_put_addr _ _ _ _ (by rw [h]; decide)
  rw [← assert_]
  unfold State.wired State.refreshPair
  generalize s.refreshAssert = t
  dsimp only
  split
  · rfl
  · rw [State.get_put_apart _ _ _ _ (by decide) apart, State.get_put_addr _ _ _ _ (by rw [h]; decide)]

/-- The dynamic address as an answer shows it, and IBI_EN beside it. -/
theorem State.get_dynAddr_answered (s : State) (addr : BitVec 7) :
    (s.answered (s.put PRT_MP.DYN_ADDR addr.toNat)).get PRT_MP.DYN_ADDR = addr.toNat ∧
      (s.answered (s.put PRT_MP.DYN_ADDR addr.toNat)).get PRT_MP.IBI_EN = s.get PRT_MP.IBI_EN := by
  have shown {f : Fld} (h : f.addr = PRT_MP.reg.addr) (apart : PRT_MP.IBI_PEND.apart f) :
      (s.answered (s.put PRT_MP.DYN_ADDR addr.toNat)).get f = (s.put PRT_MP.DYN_ADDR addr.toNat).get f := State.get_prtMp_wired _ h apart
  constructor
  · rw [shown (f := PRT_MP.DYN_ADDR) rfl (.inr (.inr (by decide))), State.get_put_same _ _ _ (by decide)]
    exact Nat.mod_eq_of_lt addr.isLt
  · rw [shown (f := PRT_MP.IBI_EN) rfl (.inr (.inr (by decide))), State.get_put_apart _ _ _ _ (by decide) (.inr (.inl (by decide)))]

/-! ### The management port (R320, R321) -/

theorem mpWriteEff_malformed {l : List Byte} {s : State} (free : s.requestHeld = false) (bad : mpFormOk l = false) :
    mpWriteEff l s = { s with mp := .malformed } := by
  unfold State.requestHeld at free
  unfold mpWriteEff
  split
  next e => simp [e] at free
  next => simp [bad]

theorem mpWriteEff_held {l : List Byte} {s : State} (free : s.requestHeld = false) (good : mpFormOk l = true) (reset : s.cpReset = true) :
    mpWriteEff l s = { s with mp := .pending l } := by
  unfold State.requestHeld at free
  unfold mpWriteEff
  split
  next e => simp [e] at free
  next => simp [good, reset]

theorem mpWriteEff_pending {l held : List Byte} {s : State} (h : s.mp = .pending held) : mpWriteEff l s = s := by
  unfold mpWriteEff
  rw [h]

/-- The result of a management-port transfer stands by itself. -/
theorem State.sameTables_setMp (s : State) (r : MpResult) : s.SameTables { s with mp := r } := by constructor <;> rfl

theorem State.mpPerform_read32 {l : List Byte} {s u : State} {lo hi : Word} {bad : Bool} (op : l.headD 0 = 0x10)
    (read : s.portRead ⟨.mp, 0⟩ (ofLe (l.tail.take 3) % 2 ^ 21) false = (u, lo, hi, bad)) :
    (s.mpPerform l).mp = .done (if bad then 2 else 0) (le 4 lo.toNat) := by
  have code : (l.headD 0).toNat = 0x10 := by rw [op]; rfl
  unfold State.mpPerform
  dsimp only
  rw [code]
  rw [if_pos (by decide)]
  simp only [Nat.reduceMod, zero_ne_one, decide_false, read, if_false, List.append_nil]

theorem State.mpPerform_read64 {l : List Byte} {s u : State} {lo hi : Word} {bad : Bool} (op : l.headD 0 = 0x11)
    (read : s.portRead ⟨.mp, 0⟩ (ofLe (l.tail.take 3) % 2 ^ 21) true = (u, lo, hi, bad)) :
    (s.mpPerform l).mp = .done (if bad then 2 else 0) (le 4 lo.toNat ++ le 4 hi.toNat) := by
  have code : (l.headD 0).toNat = 0x11 := by rw [op]; rfl
  unfold State.mpPerform
  dsimp only
  rw [code]
  rw [if_pos (by decide)]
  simp only [Nat.reduceMod, decide_true, read, if_true]

/-! ### A MGMT write of PG_EVTEN of the PIL page (R9, R417) -/

/-- Four bytes, least significant first, are the word that has them most significant first. -/
theorem ofLe_four (b0 b1 b2 b3 : Byte) : BitVec.ofNat 32 (ofLe [b0, b1, b2, b3]) = b3 ++ b2 ++ b1 ++ b0 := by
  have joined (a : Nat) {b : Nat} (h : b < 256) : a <<< 8 ||| b = a * 256 + b := by
    rw [← Nat.shiftLeft_add_eq_or_of_lt (i := 8) (by omega), Nat.shiftLeft_eq]
  have h0 : b0.toNat < 256 := b0.isLt
  have h1 : b1.toNat < 256 := b1.isLt
  have h2 : b2.toNat < 256 := b2.isLt
  have h3 : b3.toNat < 256 := b3.isLt
  apply BitVec.eq_of_toNat_eq
  simp only [ofLe, BitVec.toNat_ofNat, BitVec.toNat_append, joined _ h0, joined _ h1, joined _ h2]
  omega

theorem plainReg_pilEvten : PlainReg 0x7018 := ⟨by decide, by decide, by decide, by decide, by decide⟩

theorem State.admits_pilEvten (s : State) (w : Word) : s.Admits ⟨.mp, 0⟩ [(0x7018, w)] 0x7018 ⟨0, 32, .rw, 0⟩ where
  writable := by decide
  shared := by decide
  may := by decide
  open_ := by decide
  rule := State.ruleOf_pilEvten _ _ _ _
  course := .inr rfl

theorem State.wordWrite_pilEvten (s : State) (w : Word) (running : s.cpReset = false) :
    s.wordWrite ⟨.mp, 0⟩ 0x7018 w = s.setWord 0x7018 (w &&& 0x7) := by
  have value : (s.newWord [(0x7018, w)] 0x7018).field 0 32 = w.toNat := by
    have : w.toNat < 2 ^ 32 := w.isLt
    rw [State.newWord_one, Word.field, pow_zero, Nat.div_one, Nat.mod_eq_of_lt this]
  have judged : ((fieldsAt 0x7018).map fun f => (f, s.judge ⟨.mp, 0⟩ [(0x7018, w)] 0x7018 f)) = [(⟨0, 32, .rw, 0⟩, .set (w &&& 0x7).toNat)] := by
    rw [fieldsAt_pilEvten, List.map_singleton, State.judge_set (s.admits_pilEvten w) (by decide) (by decide), value, stored_pilEvten]
    rfl
  rw [State.wordWrite_taken plainReg_pilEvten running (fun x => absurd x (by decide)) judged rfl (by rw [fieldsAt_pilEvten]; rfl), State.afterWord_pilEvten, applied,
    List.foldl_cons, List.foldl_nil]
  exact congrArg _ (Word.withField_all _ _)

/-- The result of a management-port write that was taken. -/
def State.wroteMp (s : State) : State := { s with mp := .done 0 [] }

/-- The private write of the register. -/
theorem State.mpPerform_pilEvten (s : State) (b0 b1 b2 b3 : Byte) (running : s.cpReset = false) :
    s.mpPerform [0x20, 0x18, 0x70, 0, b0, b1, b2, b3] = s.wroteMp.setWord 0x7018 (b3 ++ b2 ++ b1 ++ b0 &&& 0x7) := by
  have write : s.mpPerform [0x20, 0x18, 0x70, 0, b0, b1, b2, b3]
      = s.wroteMp.wordWrite ⟨.mp, 0⟩ 0x7018 (BitVec.ofNat 32 (ofLe [b0, b1, b2, b3])) := by
    have addr : ofLe (([0x20, 0x18, 0x70, 0, b0, b1, b2, b3] : List Byte).tail.take 3) % 2 ^ 21 = 0x7018 := rfl
    have op : (([0x20, 0x18, 0x70, 0, b0, b1, b2, b3] : List Byte).headD 0).toNat = 0x20 := rfl
    unfold State.mpPerform
    simp only [addr, op]
    simp only [Nat.lt_irrefl, if_false, Nat.reduceMod, Nat.reduceEqDiff, ne_eq, not_true_eq_false]
    rfl
  rw [write, State.wordWrite_pilEvten s.wroteMp _ running, ofLe_four]

/-! ### The debug port (R316) -/

theorem captured_busy (b : Bool) (n : Nat) (d : BitVec 64) (dr : BitVec 90) : (captured b n d dr).getLsbD 89 = b := by
  unfold captured
  rw [BitVec.getLsbD_append, BitVec.getLsbD_append, BitVec.getLsbD_append]
  cases b <;> rfl

theorem captured_request (b : Bool) (n : Nat) (d : BitVec 64) (dr : BitVec 90) :
    (captured b n d dr).extractLsb' 0 23 = dr.extractLsb' 0 23 := BitVec.extractLsb'_append_eq_right

theorem otAccessEff_held {dr : BitVec 90} {s : State} (reset : s.cpReset = true) (free : s.dbgHeld = none) :
    otAccessEff dr s = { s with dbgHeld := some dr, dbg := captured true 0 0 dr } := by
  unfold otAccessEff
  rw [if_neg (by simp [free]), if_pos reset]

theorem otAccessEff_busy {dr held : BitVec 90} {s : State} (busy : s.dbgHeld = some held) : otAccessEff dr s = s := by
  unfold otAccessEff
  rw [if_pos (by simp [busy])]

/-- The result of a debug read of either width. -/
theorem State.dbg_otAccess_read {s u : State} {dr : BitVec 90} {lo hi : Word} {bad : Bool} (read_ : dr.getLsbD 21 = false)
    (read : s.portRead ⟨.dbg, 0⟩ (dr.extractLsb' 0 21).toNat (dr.getLsbD 22) = (u, lo, hi, bad)) :
    (s.otAccess dr).dbg = captured false (if bad then 2 else 0) (hi ++ lo) dr := by
  unfold State.otAccess
  simp only [read_, read, Bool.false_eq_true, if_false]

/-! ### A debug write of FLT_INJ_PIN (R383) -/

/-- The request of such a write: its address, a write of 32 bits. -/
theorem dbgRequest_injPin {dr : BitVec 90} (h : dr.extractLsb' 0 23 = 0x20C0A4) :
    dbgAddr dr = 0xC0A4 ∧ dr.getLsbD 21 = true ∧ dr.getLsbD 22 = false := by
  have low : dr.toNat % 2 ^ 23 = 0x20C0A4 := by
    have e := congrArg BitVec.toNat h
    simpa [BitVec.extractLsb'_toNat] using e
  refine ⟨?_, ?_, ?_⟩
  · simp only [dbgAddr, BitVec.extractLsb'_toNat, Nat.shiftRight_zero]
    omega
  · rw [BitVec.getLsbD, Nat.testBit_eq_decide_div_mod_eq]
    exact decide_eq_true (by omega)
  · rw [BitVec.getLsbD, Nat.testBit_eq_decide_div_mod_eq]
    exact decide_eq_false (by omega)

theorem plainReg_injPin : PlainReg 0xC0A4 := ⟨by decide, by decide, by decide, by decide, by decide⟩

theorem fieldsAt_injPin : fieldsAt 0xC0A4 = [⟨0, 2, .rw, 0⟩] := by decide

theorem State.ruleOf_injPin (s : State) (nv : Fld → Nat) (c : Cls) (v : Nat) : s.ruleOf nv c 0xC0A4 0 v = none := by
  have row : rowKey 0xC0A4 = (0xC, 0xA4) := by decide
  have range : inRange (0xC, 0xA4) 0 v = true := by rfl
  have slot : slotAt 0xC0A4 = none := by decide
  unfold State.ruleOf
  simp only [row, range, slot]
  rfl

theorem State.admits_injPin {s : State} (w : Word) (course : s.holding = false) :
    s.Admits ⟨.dbg, 0⟩ [(0xC0A4, w)] 0xC0A4 ⟨0, 2, .rw, 0⟩ where
  writable := by decide
  shared := by decide
  may := by decide
  open_ := by decide
  rule := State.ruleOf_injPin _ _ _ _
  course := .inl course

/-- The word with the field stored, of which the pair follows. -/
def State.pinForced (s : State) (v : Nat) : State := s.put FLT_INJ_PIN.PIN v

theorem State.wordWrite_injPin {s : State} (w : Word) (running : s.cpReset = false) (shown : s.active = false) (course : s.holding = false) :
    s.wordWrite ⟨.dbg, 0⟩ 0xC0A4 w = (s.pinForced (w.field 0 2)).refreshPair := by
  have plainValue (v : Nat) : stored 0xC0A4 v = v := by
    have header : ¬ (0xC0A4 < bayHome ∧ hasHeader (0xC0A4 / 0x1000) = true ∧ 0xC0A4 % 0x1000 = 0x18) := by decide
    have slot : ¬ ((slotAt 0xC0A4).isSome = true ∧ 0xC0A4 % 0x40 = 0) := by decide
    have weight : ¬ rowKey 0xC0A4 = (0x51, 0x40C) := by decide
    unfold stored
    rw [if_neg header, if_neg slot, if_neg weight]
  have judged : ((fieldsAt 0xC0A4).map fun f => (f, s.judge ⟨.dbg, 0⟩ [(0xC0A4, w)] 0xC0A4 f)) = [(⟨0, 2, .rw, 0⟩, .set (w.field 0 2))] := by
    rw [fieldsAt_injPin, List.map_singleton, State.judge_set (State.admits_injPin w course) (by decide) (by decide), State.newWord_one, plainValue]
  have after (t : State) (got : Nat → Bool) : t.afterWord s ⟨.dbg, 0⟩ 0xC0A4 w got = t.refreshPair := by
    have row : rowKey 0xC0A4 = (0xC, 0xA4) := by decide
    unfold State.afterWord State.afterPage
    simp only [row]
    rfl
  rw [State.wordWrite_taken plainReg_injPin running (fun _ => shown) judged rfl (by rw [fieldsAt_injPin]; rfl), after]
  rfl

/-- What the access leaves: the register and what the pair shows of it. -/
theorem otAccessEff_injPin {dr : BitVec 90} {s : State} (request : dr.extractLsb' 0 23 = 0x20C0A4) (running : s.cpReset = false)
    (free : s.dbgHeld = none) (shown : s.active = false) (course : s.holding = false) :
    ∃ u d, otAccessEff dr s = { u with dbg := captured false 0 d dr } ∧
      ((s.pinForced (Word.field (dr.extractLsb' 23 32) 0 2)).refreshPair).SameTables u ∧
      ∀ a, u.word a = ((s.pinForced (Word.field (dr.extractLsb' 23 32) 0 2)).refreshPair).word a := by
  obtain ⟨addr, write, narrow⟩ := dbgRequest_injPin request
  have home : homeAddr (dbgAddr dr) = 0xC0A4 := by rw [addr]; decide
  have aperture : dbgAddr dr = apertureAddr 0xC0A4 := by rw [addr]; decide
  obtain ⟨u, d, eff, tables, words⟩ := s.otAccess_write write narrow (by rw [addr])
  have written : s.portWrite ⟨.dbg, 0⟩ (dbgAddr dr) [(homeAddr (dbgAddr dr), dr.extractLsb' 23 32)]
      = (s.pinForced (Word.field (dr.extractLsb' 23 32) 0 2)).refreshPair := by
    rw [home, aperture]
    exact State.wordWrite_injPin _ running shown course
  rw [written] at tables words
  exact ⟨u, d, (otAccessEff_free running free).trans eff, tables, words⟩

/-- The field's two bits are the lowest two of the data. -/
theorem injPin_value (dr : BitVec 90) : Word.field (dr.extractLsb' 23 32) 0 2 % 2 ^ 2 = (dr.extractLsb' 23 2).toNat := by
  simp only [Word.field, BitVec.extractLsb'_toNat, Nat.shiftRight_eq_div_pow]
  omega

/-- The pair's change leaves what forces it. -/
theorem State.injPin_refreshPair (s : State) : s.refreshPair.get FLT_INJ_PIN.PIN = s.get FLT_INJ_PIN.PIN := by
  unfold State.refreshPair
  dsimp only
  split
  · rfl
  · rw [State.get_put_addr _ PRT_MP.IBI_PEND _ _ (by decide), State.get_put_addr _ FLT_STATUS.PIN _ _ (by decide)]

/-- What the answer of such a write shows. -/
theorem State.frame_injPin {dr : BitVec 90} (s : State) (request : dr.extractLsb' 0 23 = 0x20C0A4) (running : s.cpReset = false)
    (free : s.dbgHeld = none) (shown : s.active = false) (course : s.holding = false) :
    (s.answered (otAccessEff dr s)).dbg.extractLsb' 87 2 = 0 ∧ (s.answered (otAccessEff dr s)).dbg.extractLsb' 0 23 = 0x20C0A4 ∧
      (s.answered (otAccessEff dr s)).get FLT_INJ_PIN.PIN = (dr.extractLsb' 23 2).toNat ∧
      s.KeepsRegs (s.answered (otAccessEff dr s)) [FLT_INJ_PIN.PIN.addr] ∧ s.KeepsMem (s.answered (otAccessEff dr s)) ∧
      s.KeepsUnits (s.answered (otAccessEff dr s)) := by
  obtain ⟨u, d, eff, tables, words⟩ := otAccessEff_injPin request running free shown course
  have forced : s.KeepsRegs (s.pinForced (Word.field (dr.extractLsb' 23 32) 0 2)) [FLT_INJ_PIN.PIN.addr] :=
    .of_words fun a h => State.word_put _ _ _ _ fun e => h (List.mem_singleton.mpr e)
  have regs : s.KeepsRegs { u with dbg := captured false 0 d dr } [FLT_INJ_PIN.PIN.addr] := fun a h => by
    have kept := State.keepsRegs_refreshPair forced a h
    rw [← words a] at kept
    exact kept
  have stored : (s.pinForced (Word.field (dr.extractLsb' 23 32) 0 2)).refreshPair.get FLT_INJ_PIN.PIN = (dr.extractLsb' 23 2).toNat := by
    rw [State.injPin_refreshPair, State.pinForced, State.get_put_same _ _ _ (by decide)]
    exact injPin_value dr
  have force : s.SameTables (s.pinForced (Word.field (dr.extractLsb' 23 32) 0 2)) := State.sameTables_setWord _ _ _
  have capture : u.SameTables { u with dbg := captured false 0 d dr } := by constructor <;> rfl
  have kept := State.tables_answered (((force.trans (State.sameTables_refreshPair _)).trans tables).trans capture)
  rw [eff]
  refine ⟨?_, ?_, ?_, regs.answered, kept⟩
  · rw [State.answered_dbg, captured_rsp]
    rfl
  · rw [State.answered_dbg, captured_request, request]
  · rw [State.get_answered _ _ _ (by decide) (by decide), ← stored, State.get, State.get]
    exact congrArg (Word.field · _ _) (words _)

/-- Settles O10: a transfer or an access that is held or turned away writes no register; one that is performed writes its own. -/
theorem managementAndDebugPorts : Obligations.ManagementAndDebugPorts := by
  unfold Obligations.ManagementAndDebugPorts
  refine ⟨fun l s free bad => ?_, fun l s free good reset => ?_, fun l u lo hi bad s free good reset op read => ?_,
    fun l u lo hi bad s free good reset op read => ?_, fun b0 b1 b2 b3 s free reset => ?_, fun l held s pending => ?_, fun s => ?_,
    fun how addr s takes => ?_, fun how addr s leaves_ => ?_, fun enable s => ?_, fun s wired may => ?_, fun s => ?_,
    fun dr s reset free => ?_, fun dr held s busy => ?_, fun dr u lo hi bad s reset free dir read => ?_,
    fun dr s request reset free shown course => ?_⟩
  · refine ⟨_, exec_mpPrivateWrite l s, ?_⟩
    rw [mpWriteEff_malformed free bad]
    exact ⟨State.answered_mp _ _, State.frame_answered (fun _ _ => rfl) (s.sameTables_setMp _)⟩
  · refine ⟨_, exec_mpPrivateWrite l s, ?_⟩
    rw [mpWriteEff_held free good reset]
    exact ⟨State.answered_mp _ _, State.frame_answered (fun _ _ => rfl) (s.sameTables_setMp _)⟩
  · refine ⟨_, exec_mpPrivateWrite l s, (State.answered_mp _ _).trans ?_⟩
    rw [mpWriteEff_taken free good reset]
    exact State.mpPerform_read32 op read
  · refine ⟨_, exec_mpPrivateWrite l s, (State.answered_mp _ _).trans ?_⟩
    rw [mpWriteEff_taken free good reset]
    exact State.mpPerform_read64 op read
  · refine ⟨_, exec_mpPrivateWrite _ s, ?_⟩
    rw [mpWriteEff_taken free rfl reset, State.mpPerform_pilEvten s b0 b1 b2 b3 reset]
    refine ⟨State.answered_mp _ _, ?_, State.frame_answered (fun a h => ?_) ((s.sameTables_setMp _).trans (State.sameTables_setWord _ _ _))⟩
    · rw [State.word_answered _ _ _ (by decide) (by decide), State.word_setWord, if_pos rfl]
    · rw [State.word_setWord, if_neg fun e => h (List.mem_singleton.mpr e)]
      rfl
  · refine ⟨_, exec_mpPrivateWrite l s, ?_⟩
    rw [mpWriteEff_pending pending]
    exact ⟨(State.answered_mp _ _).trans pending, State.frame_answered (fun _ _ => rfl) (.refl s)⟩
  · have same : s.SameTables { s with mpRead := s.mp.bytes } := by constructor <;> rfl
    obtain ⟨regs, mem, units⟩ := State.frame_answered (s := s) (u := { s with mpRead := s.mp.bytes }) (l := []) (fun _ _ => rfl) same
    refine ⟨_, exec_mpPrivateRead s, State.answered_mp _ _, regs, mem, units, fun st data e => ?_, fun b e => ?_, fun e => ?_, fun e => ?_⟩
    all_goals
      rw [State.answered_mpRead, e]
      rfl
  · refine ⟨_, exec_i3cDynamicAddress how addr s, ?_⟩
    rw [if_pos takes]
    obtain ⟨dyn, en⟩ := State.get_dynAddr_answered s addr
    exact ⟨dyn, en, State.frame_answered (fun a h => State.word_put _ _ _ _ fun e => h (List.mem_singleton.mpr e)) (State.sameTables_setWord _ _ _)⟩
  · refine ⟨_, exec_i3cDynamicAddress how addr s, ?_⟩
    rw [if_neg (by simp [leaves_])]
    exact State.frame_answered (fun _ _ => rfl) (.refl s)
  · have same : s.SameTables { s with mpDisec := !enable } := by constructor <;> rfl
    exact ⟨_, exec_i3cDisecEnec enable s, State.answered_mpDisec _ _, State.frame_answered (fun _ _ => rfl) same⟩
  · obtain ⟨-, pin⟩ := wired
    have kept {g : Fld} (h : g.addr ≠ PRT_MP.reg.addr) : (s.put PRT_MP.IBI_PEND 0).get g = s.get g := State.get_put_addr _ _ _ _ h
    have pair : (s.put PRT_MP.IBI_PEND 0).fltPair = s.fltPair := State.fltPair_congr (kept (by decide)) (kept (by decide)) (s.put_blkReset _ _)
      (kept (by decide)) (kept (by decide)) (kept (by decide))
    have shown : (s.put PRT_MP.IBI_PEND 0).get FLT_STATUS.PIN = (s.put PRT_MP.IBI_PEND 0).fltPair := by rw [kept (by decide), pair, pin]
    refine ⟨_, exec_ibiRaise true s, ?_⟩
    rw [Bool.and_true, if_pos may, State.get_prtMp_answered (f := PRT_MP.IBI_PEND) rfl shown]
    exact ⟨State.get_put_same _ _ _ (by decide), State.frame_answered (fun a h => State.word_put _ _ _ _ fun e => h (List.mem_singleton.mpr e))
      (State.sameTables_setWord _ _ _)⟩
  · refine ⟨_, exec_ibiRaise false s, ?_⟩
    rw [Bool.and_false, if_neg Bool.false_ne_true]
    exact ⟨State.answered_mp _ _, State.frame_answered (fun _ _ => rfl) (.refl s)⟩
  · have same : s.SameTables { s with dbgHeld := some dr, dbg := captured true 0 0 dr } := by constructor <;> rfl
    refine ⟨_, exec_otAccessUpdate dr s, ?_⟩
    rw [otAccessEff_held reset free, State.answered_dbg]
    exact ⟨captured_busy _ _ _ _, captured_request _ _ _ _, State.answered_dbgHeld _ _, State.frame_answered (fun _ _ => rfl) same⟩
  · refine ⟨_, exec_otAccessUpdate dr s, ?_⟩
    rw [otAccessEff_busy busy]
    exact ⟨State.answered_dbg _ _, State.answered_dbgHeld _ _, State.frame_answered (fun _ _ => rfl) (.refl s)⟩
  · refine ⟨_, exec_otAccessUpdate dr s, ?_⟩
    rw [State.answered_dbg, otAccessEff_free reset free, State.dbg_otAccess_read dir read]
    refine ⟨captured_busy _ _ _ _, captured_request _ _ _ _, captured_data _ _ _ _, ?_⟩
    rw [captured_rsp]
    cases bad <;> rfl
  · obtain ⟨rsp, req, value, frame⟩ := s.frame_injPin request reset free shown course
    exact ⟨_, exec_otAccessUpdate dr s, req, rsp, value, frame⟩

end Sys2Proof.Machine
end

section
/-!
SUPPORT. Writes of the DRE's control registers, the end of a load that finds no source, and what a tick does to each yard (R37, R129,
R142, R155). Obligation BundlesLoadAndActivityIsTaken.
-/

namespace Sys2Proof.Machine

theorem exec_dreLoadGo (q : Requester) (slot src : Nat) (s : State) :
    exec (.dreLoadGo q slot src) s = .next (s.answered (s.wordWrite q 0x8048 (pack [(1, 8), (src % 4, 4), (slot % 8, 0)]))) := rfl
theorem exec_bundleFetchDone (host : List Byte) (readErr : Bool) (s : State) :
    exec (.bundleFetchDone host readErr) s = .next (s.answered (s.runLoad host readErr)) := rfl
theorem exec_dreCtrlRunWrite (q : Requester) (run : Bool) (s : State) :
    exec (.dreCtrlRunWrite q run) s = .next (s.answered (s.wordWrite q 0x8040 (pack [(run.toNat, 0)]))) := rfl
theorem exec_activityRecord (y : Nat) (beats : List (BitVec 2 × BitVec 128)) (s : State) :
    exec (.activityRecord y beats) s = .next (s.answered (activityRecordEff y beats s)) := rfl
theorem exec_activityTick (s : State) : exec .activityTick s = .next (s.answered (activityTickEff s)) := rfl

@[simp] theorem State.answered_load (s u : State) : (s.answered u).load = u.load := u.reports_wired.load
theorem State.answered_openColls (s u : State) : (s.answered u).openColls = u.openColls := by
  simp only [State.openColls, State.answered_coll]

/-! ### One field's write by a requester it reaches -/

/-- No course held stands against a write that reaches the registers. -/
theorem State.course_of_takes {s : State} {q : Requester} {a : Nat} (h : s.Takes q a) : s.holding = false ∨ q.port = .mp := by
  obtain ⟨-, -, course, -⟩ := h
  by_cases mp : q.port = .mp
  · exact .inr mp
  · exact .inl (course mp)

/-! ### DRE_CTRL.RUN (R155) -/

theorem plainReg_dreCtrl : PlainReg 0x8040 := ⟨by decide, by decide, by decide, by decide, by decide⟩

theorem fieldsAt_dreCtrl : fieldsAt 0x8040 = [⟨0, 1, .rw, 1⟩] := by decide

/-- No rule speaks against a value of a register of the DRE's page but those of its keys. -/
theorem State.ruleOf_dre {s : State} {nv : Fld → Nat} {c : Cls} {a lo v k : Nat} (row : rowKey a = (8, k)) (key : k ≠ 0x600)
    (access : k ≠ 0xC) (range : inRange (8, k) lo v = true) (reset : a ≠ GLB_RESET.KEY.addr) (xrec : a ≠ GLB_XREC.KEY.addr)
    (slot : slotAt a = none) : s.ruleOf nv c a lo v = none := by
  unfold State.ruleOf
  simp only [row, range, slot]
  simp [key, access, reset, xrec]

theorem State.admits_dreCtrl {s : State} {q : Requester} (w : Word) (takes : s.Takes q 0x8040) :
    s.Admits q [(0x8040, w)] 0x8040 ⟨0, 1, .rw, 1⟩ where
  writable := by decide
  shared := by decide
  may := by
    obtain ⟨-, -, -, may⟩ := takes
    have classes (c : Cls) : mayWriteAt c 0x8040 = true → mayWriteField c 0x8040 ⟨0, 1, .rw, 1⟩ = true := by cases c <;> decide
    exact classes _ may
  open_ := by decide
  rule := State.ruleOf_dre (k := 0x40) (by decide) (by decide) (by decide) rfl (by decide) (by decide) (by decide)
  course := State.course_of_takes takes

theorem State.afterWord_dreCtrl (s s0 : State) (q : Requester) (w : Word) (got : Nat → Bool) :
    s.afterWord s0 q 0x8040 w got = s.runWritten := by
  have row : rowKey 0x8040 = (8, 0x40) := by decide
  unfold State.afterWord State.afterPage
  simp only [row]
  rfl

theorem State.wordWrite_run {s : State} {q : Requester} (run : Bool) (takes : s.Takes q DRE_CTRL.RUN.addr) :
    s.wordWrite q 0x8040 (pack [(run.toNat, 0)]) = (s.put DRE_CTRL.RUN run.toNat).runWritten := by
  obtain ⟨running, shut, -, -⟩ := id takes
  have value : (pack [(run.toNat, 0)]).field 0 1 = run.toNat := by cases run <;> decide
  have plain : stored 0x8040 run.toNat = run.toNat := by
    have header : ¬ (0x8040 < bayHome ∧ hasHeader (0x8040 / 0x1000) = true ∧ 0x8040 % 0x1000 = 0x18) := by decide
    have slot : ¬ ((slotAt 0x8040).isSome = true ∧ 0x8040 % 0x40 = 0) := by decide
    have weight : ¬ rowKey 0x8040 = (0x51, 0x40C) := by decide
    unfold stored
    rw [if_neg header, if_neg slot, if_neg weight]
  have judged : ((fieldsAt 0x8040).map fun f => (f, s.judge q [(0x8040, pack [(run.toNat, 0)])] 0x8040 f)) = [(⟨0, 1, .rw, 1⟩, .set run.toNat)] := by
    rw [fieldsAt_dreCtrl, List.map_singleton, State.judge_set (State.admits_dreCtrl _ takes) (by decide) (by decide), State.newWord_one, value, plain]
  rw [State.wordWrite_taken plainReg_dreCtrl running shut judged rfl (by rw [fieldsAt_dreCtrl]; rfl), State.afterWord_dreCtrl]
  rfl

/-! ### DRE_LOAD.GO (R142) -/

theorem plainReg_dreLoad : PlainReg 0x8048 := ⟨by decide, by decide, by decide, by decide, by decide⟩

theorem fieldsAt_dreLoad : fieldsAt 0x8048 = [⟨8, 1, .wo, 0⟩, ⟨4, 2, .rw, 0⟩, ⟨0, 3, .rw, 0⟩] := by decide

theorem State.admits_dreLoad {s : State} {q : Requester} {w : Word} (takes : s.Takes q 0x8048) (f : FSpec) (hf : f ∈ fieldsAt 0x8048)
    (range : inRange (8, 0x48) f.lo (w.field f.lo f.w) = true) : s.Admits q [(0x8048, w)] 0x8048 f where
  writable := (by decide : ∀ f ∈ fieldsAt 0x8048, isRo 0x8048 f = false) f hf
  shared := (by decide : ∀ f ∈ fieldsAt 0x8048, f.acc ≠ .h2m) f hf
  may := by
    obtain ⟨-, -, -, may⟩ := takes
    have classes (c : Cls) : mayWriteAt c 0x8048 = true → ∀ f ∈ fieldsAt 0x8048, mayWriteField c 0x8048 f = true := by cases c <;> decide
    exact classes _ may f hf
  open_ := (by decide : ∀ f ∈ fieldsAt 0x8048, f.acc ≠ .rwx) f hf
  rule := State.ruleOf_dre (k := 0x48) (by decide) (by decide) (by decide) (by rwa [State.newWord_one]) (by decide) (by decide) (by decide)
  course := State.course_of_takes takes

/-- SRC and SLOT as a write of the register leaves them. -/
def State.loadNamed (s : State) (slot src : Nat) : State :=
  s.setWord 0x8048 (((s.word 0x8048).withField 4 2 src).withField 0 3 slot)

theorem State.get_loadNamed (s : State) (slot src : Nat) (f : Fld) (h : f.addr ≠ 0x8048) : (s.loadNamed slot src).get f = s.get f := by
  simp [State.loadNamed, State.get, h]

theorem State.slot_loadNamed (s : State) {slot : Nat} (src : Nat) (h : slot < 8) : (s.loadNamed slot src).get DRE_LOAD.SLOT = slot := by
  have word : (s.loadNamed slot src).word DRE_LOAD.SLOT.addr = ((s.word 0x8048).withField 4 2 src).withField 0 3 slot :=
    (State.word_setWord _ _ _ _).trans (if_pos rfl)
  rw [State.get, word]
  exact (Word.field_withField_same _ _ _ _ (by decide)).trans (Nat.mod_eq_of_lt h)

theorem State.src_loadNamed (s : State) (slot : Nat) {src : Nat} (h : src ≤ 2) : (s.loadNamed slot src).get DRE_LOAD.SRC = src := by
  have word : (s.loadNamed slot src).word DRE_LOAD.SRC.addr = ((s.word 0x8048).withField 4 2 src).withField 0 3 slot :=
    (State.word_setWord _ _ _ _).trans (if_pos rfl)
  rw [State.get, word]
  refine (Word.field_withField_disjoint _ _ _ _ _ _ (by decide) (.inr (by decide))).trans ?_
  exact (Word.field_withField_same _ _ _ _ (by decide)).trans (Nat.mod_eq_of_lt (by omega))

theorem State.inWayOn_loadNamed (s : State) (slot src : Nat) : (s.loadNamed slot src).inWayOn = s.inWayOn := by
  simp only [State.inWayOn, State.onPll, State.on, State.get_loadNamed s slot src GLB_SERVICE.STATE (by decide),
    State.get_loadNamed s slot src CLK_STATUS.SOURCE (by decide)]

theorem State.addr_loadNamed (s : State) (slot src : Nat) : (s.loadNamed slot src).get64 DRE_LOAD_ADDR_LO.ADDR = s.get64 DRE_LOAD_ADDR_LO.ADDR := by
  simp [State.get64, State.loadNamed, DRE_LOAD_ADDR_LO.ADDR]

/-- A load that starts. -/
def State.loadStarted (s : State) (l : Load) : State := ({ s with load := some l }.put DRE_STATUS.LOAD_STATE 1).put DRE_LOAD_RES.RESULT 0

theorem State.load_loadStarted (s : State) (l : Load) : (s.loadStarted l).load = some l := rfl
theorem State.sameTables_loadStarted (s : State) (l : Load) : s.SameTables (s.loadStarted l) := by constructor <;> rfl
theorem State.result_loadStarted (s : State) (l : Load) : (s.loadStarted l).get DRE_LOAD_RES.RESULT = 0 := State.get_put_same _ _ _ (by decide)
theorem State.loadState_loadStarted (s : State) (l : Load) : (s.loadStarted l).get DRE_STATUS.LOAD_STATE = 1 :=
  (State.get_put_addr _ _ _ _ (by decide)).trans (State.get_put_same _ _ _ (by decide))
theorem State.word_loadStarted (s : State) (l : Load) (a : Nat) (h : a ≠ DRE_STATUS.LOAD_STATE.addr) (k : a ≠ DRE_LOAD_RES.RESULT.addr) :
    (s.loadStarted l).word a = s.word a := (State.word_put _ _ _ _ k).trans (State.word_put _ _ _ _ h)

theorem State.loadGo_started {s : State} {slot src addr : Nat} (idle : s.get DRE_STATUS.LOAD_STATE = 0) (sound : s.get DRE_STATUS.SPARE < 9) :
    (s.loadGo slot src addr none).1 = s.loadStarted ⟨slot, src, addr, none⟩ := by
  unfold State.loadGo
  rw [if_neg (by omega)]
  rfl

theorem State.afterWord_dreLoad {s : State} (s0 : State) (q : Requester) {w : Word} {got : Nat → Bool} (go : got 8 = true) (one : w.field 8 1 = 1)
    (wayOn : s.inWayOn = true) :
    s.afterWord s0 q 0x8048 w got = (s.loadGo (s.get DRE_LOAD.SLOT) (s.get DRE_LOAD.SRC) (s.get64 DRE_LOAD_ADDR_LO.ADDR) none).1 := by
  have row : rowKey 0x8048 = (8, 0x48) := by decide
  have load : s.afterWord s0 q 0x8048 w got =
      if !(got 8 && w.field 8 1 == 1) then s
      else if !s.inWayOn then s.put DRE_LOAD_RES.RESULT ldBusy
      else (s.loadGo (s.get DRE_LOAD.SLOT) (s.get DRE_LOAD.SRC) (s.get64 DRE_LOAD_ADDR_LO.ADDR) none).1 := by
    unfold State.afterWord State.afterPage
    simp only [row]
    rfl
  simp [load, go, one, wayOn]

/-- GO of a load that nothing keeps from starting. -/
theorem State.wordWrite_go {s : State} {q : Requester} {slot src : Nat} (takes : s.Takes q DRE_LOAD.GO.addr) (hsrc : src ≤ 2) (hslot : slot < 8)
    (wayOn : s.inWayOn = true) (idle : s.get DRE_STATUS.LOAD_STATE = 0) (sound : s.get DRE_STATUS.SPARE < 9) :
    s.wordWrite q 0x8048 (pack [(1, 8), (src % 4, 4), (slot % 8, 0)])
      = (s.loadNamed slot src).loadStarted ⟨slot, src, s.get64 DRE_LOAD_ADDR_LO.ADDR, none⟩ := by
  obtain ⟨running, shut, -, -⟩ := id takes
  have parts : ∀ src < 3, ∀ slot < 8, (pack [(1, 8), (src % 4, 4), (slot % 8, 0)]).field 8 1 = 1 ∧
      (pack [(1, 8), (src % 4, 4), (slot % 8, 0)]).field 4 2 = src ∧ (pack [(1, 8), (src % 4, 4), (slot % 8, 0)]).field 0 3 = slot := by decide
  obtain ⟨go, source, place⟩ := parts src (by omega) slot hslot
  generalize pack [(1, 8), (src % 4, 4), (slot % 8, 0)] = w at go source place ⊢
  have plain (v : Nat) : stored 0x8048 v = v := by
    have header : ¬ (0x8048 < bayHome ∧ hasHeader (0x8048 / 0x1000) = true ∧ 0x8048 % 0x1000 = 0x18) := by decide
    have noSlot : ¬ ((slotAt 0x8048).isSome = true ∧ 0x8048 % 0x40 = 0) := by decide
    have weight : ¬ rowKey 0x8048 = (0x51, 0x40C) := by decide
    unfold stored
    rw [if_neg header, if_neg noSlot, if_neg weight]
  have inFields (f : FSpec) : f ∈ [⟨8, 1, .wo, 0⟩, ⟨4, 2, .rw, 0⟩, ⟨0, 3, .rw, 0⟩] → f ∈ fieldsAt 0x8048 := by rw [fieldsAt_dreLoad]; exact id
  have srcRange : ∀ v < 3, inRange (8, 0x48) 4 v = true := by decide
  have goes := State.admits_dreLoad (w := w) takes ⟨8, 1, .wo, 0⟩ (inFields _ (by simp)) rfl
  have src_ := State.admits_dreLoad (w := w) takes ⟨4, 2, .rw, 0⟩ (inFields _ (by simp)) (by rw [source]; exact srcRange src (by omega))
  have slot_ := State.admits_dreLoad (w := w) takes ⟨0, 3, .rw, 0⟩ (inFields _ (by simp)) rfl
  have judged : ((fieldsAt 0x8048).map fun f => (f, s.judge q [(0x8048, w)] 0x8048 f))
      = [(⟨8, 1, .wo, 0⟩, .act), (⟨4, 2, .rw, 0⟩, .set src), (⟨0, 3, .rw, 0⟩, .set slot)] := by
    rw [fieldsAt_dreLoad, List.map_cons, List.map_cons, List.map_singleton, State.judge_act goes (by decide),
      State.judge_set src_ (by decide) (by decide), State.judge_set slot_ (by decide) (by decide), State.newWord_one, source, place, plain, plain]
  rw [State.wordWrite_taken plainReg_dreLoad running shut judged rfl (by rw [fieldsAt_dreLoad]; rfl)]
  change (s.loadNamed slot src).afterWord s q 0x8048 w _ = _
  rw [State.afterWord_dreLoad s q rfl go ((s.inWayOn_loadNamed slot src).trans wayOn), State.slot_loadNamed s src hslot,
    State.src_loadNamed s slot hsrc, State.addr_loadNamed]
  exact State.loadGo_started ((State.get_loadNamed _ _ _ _ (by decide)).trans idle)
    (lt_of_eq_of_lt (State.get_loadNamed _ _ _ _ (by decide)) sound)

/-! ### A step for each of like units -/

/-- What a step per unit leaves of one that only its own step changes. -/
theorem State.foldl_range_at {α : Type} (obs : State → α) (step : State → Nat → State) (g : α → α) {y : Nat}
    (own : ∀ t, obs (step t y) = g (obs t)) (others : ∀ t z, z ≠ y → obs (step t z) = obs t) (n : Nat) (s : State) :
    obs ((List.range n).foldl step s) = if y < n then g (obs s) else obs s := by
  induction n with
  | zero => rfl
  | succ n ih =>
    rw [List.range_succ, List.foldl_append, List.foldl_cons, List.foldl_nil]
    by_cases e : n = y
    · subst e
      rw [own, ih, if_neg (Nat.lt_irrefl n), if_pos (Nat.lt_succ_self n)]
    · rw [others _ _ e, ih]
      have : (y < n) = (y < n + 1) := by simp only [eq_iff_iff]; omega
      simp only [this]

/-- What every unit's step keeps. -/
theorem State.foldl_keeps {α β : Type} (obs : State → β) (step : State → α → State) (l : List α) (keeps : ∀ x ∈ l, ∀ t, obs (step t x) = obs t)
    (s : State) : obs (l.foldl step s) = obs s := by
  induction l generalizing s with
  | nil => rfl
  | cons x l ih => exact (ih (fun z m => keeps z (List.mem_cons_of_mem x m)) _).trans (keeps x List.mem_cons_self s)

/-! ### The DRE stops (R129, R155) -/

/-- The announced collectives are gone. -/
def State.unannounced (s : State) : State := { s with collPend := [] }

theorem State.closeColls_eq (s : State) : s.closeColls = s.openColls.foldl (fun t k => t.setColl k none) s.unannounced := rfl

theorem State.coll_closeColls (s : State) {k : Nat} (hk : k < 16) : s.closeColls.coll k = none := by
  have gone (l : List Nat) (t : State) (h : t.coll k = none) : (l.foldl (fun t k => t.setColl k none) t).coll k = none := by
    induction l generalizing t with
    | nil => exact h
    | cons x l ih => exact ih _ (by rw [State.coll_setColl]; split <;> [rfl; exact h])
  have closed (l : List Nat) (t : State) (h : k ∈ l) : (l.foldl (fun t k => t.setColl k none) t).coll k = none := by
    induction l generalizing t with
    | nil => exact absurd h List.not_mem_nil
    | cons x l ih =>
      rcases List.mem_cons.mp h with rfl | h
      · exact gone l _ (by rw [State.coll_setColl, if_pos rfl])
      · exact ih _ h
  rw [State.closeColls_eq]
  cases held : s.coll k with
  | none => exact gone _ _ held
  | some c => exact closed _ _ (List.mem_filter.mpr ⟨List.mem_range.mpr hk, by rw [held]; rfl⟩)

theorem State.openColls_eq_nil {s : State} (h : ∀ k < 16, s.coll k = none) : s.openColls = [] := by
  refine List.filter_eq_nil_iff.mpr fun k hk => ?_
  rw [h k (List.mem_range.mp hk)]
  decide

theorem State.regs_closeColls (s : State) : s.closeColls.regs = s.regs :=
  State.foldl_keeps State.regs (fun t k => t.setColl k none) _ (fun _ _ _ => rfl) s.unannounced

theorem State.yards_closeColls (s : State) : s.closeColls.yards = s.yards :=
  State.foldl_keeps State.yards (fun t k => t.setColl k none) _ (fun _ _ _ => rfl) s.unannounced

/-- A yard without a staged record. -/
def Yard.unstaged (v : Yard) : Yard := { v with stage := none, stageOld := false }

theorem State.dropStaged_eq (s : State) : s.dropStaged = (List.range Config.yardCount).foldl (fun t y => t.setYard y (t.yard y).unstaged) s := rfl

theorem State.yard_dropStaged (s : State) {y : Nat} (hy : y < Config.yardCount) : s.dropStaged.yard y = (s.yard y).unstaged := by
  rw [State.dropStaged_eq]
  refine (State.foldl_range_at (fun t => t.yard y) _ Yard.unstaged (fun t => ?_) (fun t z hz => ?_) _ _).trans (if_pos hy)
  · exact (State.yard_setYard _ _ _ _).trans (if_pos rfl)
  · exact (State.yard_setYard _ _ _ _).trans (if_neg (Ne.symm hz))

theorem State.coll_dropStaged (s : State) (k : Nat) : s.dropStaged.coll k = s.coll k := by
  rw [State.dropStaged_eq]
  exact State.foldl_keeps (fun t => t.coll k) (fun t y => t.setYard y (t.yard y).unstaged) (List.range Config.yardCount) (fun _ _ _ => rfl) s

theorem State.regs_dropStaged (s : State) : s.dropStaged.regs = s.regs := by
  rw [State.dropStaged_eq]
  exact State.foldl_keeps State.regs (fun t y => t.setYard y (t.yard y).unstaged) (List.range Config.yardCount) (fun _ _ _ => rfl) s

theorem State.confined_dropStaged {l : List Nat} (s : State) : State.Confined l s s.dropStaged :=
  .foldl _ _ (fun _ _ t => t.confined_setYard _ _) s

theorem State.runWritten_run {s : State} (h : s.get DRE_CTRL.RUN = 1) : s.runWritten = s := if_pos (by rw [State.on, h]; rfl)
theorem State.runWritten_stop {s : State} (h : s.get DRE_CTRL.RUN = 0) : s.runWritten = s.closeColls.dropStaged :=
  if_neg (by rw [State.on, h]; decide)

/-! ### A load without its source (R142) -/

/-- The load is over with RESULT 7, counted and told. -/
def State.loadLost (s : State) : State :=
  ((({ s with load := none }.put DRE_STATUS.LOAD_STATE 0).put DRE_LOAD_RES.RESULT 7).bump DRE_CNT_LOADFAIL.COUNT).evt pgDRE 1

/-- What stays of a state but for registers, the load, the journal's messages and the telemetry. -/
structure State.Stays (s t : State) : Prop where
  flash : t.flash = s.flash
  store : t.store = s.store
  capram : t.capram = s.capram
  bays : t.bays = s.bays
  yards : t.yards = s.yards
  doms : t.doms = s.doms
  clusters : t.clusters = s.clusters
  rails : t.rails = s.rails
  phases : t.phases = s.phases
  ctxs : t.ctxs = s.ctxs

theorem State.Stays.trans {s t u : State} (h : s.Stays t) (k : t.Stays u) : s.Stays u where
  flash := k.flash.trans h.flash
  store := k.store.trans h.store
  capram := k.capram.trans h.capram
  bays := k.bays.trans h.bays
  yards := k.yards.trans h.yards
  doms := k.doms.trans h.doms
  clusters := k.clusters.trans h.clusters
  rails := k.rails.trans h.rails
  phases := k.phases.trans h.phases
  ctxs := k.ctxs.trans h.ctxs

theorem State.Reports.stays {s t : State} (h : s.Reports t) : s.Stays t :=
  ⟨h.flash, h.store, h.capram, h.bays, h.yards, h.doms, h.clusters, h.rails, h.phases, h.ctxs⟩

theorem State.Stays.keepsMem {s t : State} (h : s.Stays t) : s.KeepsMem t := fun a => by
  simp only [State.flashAt, State.storeAt, State.capAt, h.flash, h.store, h.capram, and_self]

theorem State.Stays.keepsPlant {s t : State} (h : s.Stays t) : s.KeepsPlant t := fun k => by
  simp only [State.bay, State.yard, State.dom, State.cluster, State.rail, State.phase, State.ctx, h.bays, h.yards, h.doms, h.clusters, h.rails,
    h.phases, h.ctxs, and_self]

theorem State.stays_loadLost (s : State) : s.Stays s.loadLost := by
  have off : s.Stays { s with load := none } := by constructor <;> rfl
  exact off.trans ((((State.reports_put _ _ _).trans (State.reports_put _ _ _)).trans (State.reports_bump _ _)).trans (State.reports_evt _ _ _)).stays
theorem State.load_loadLost (s : State) : s.loadLost.load = none := rfl
theorem State.within_loadLost (s : State) : s.Within s.loadLost [8] :=
  ((((State.Within.regs (t := s) (.refl s _) rfl).put _ _ (by decide)).put _ _ (by decide)).bump _ (by decide)).evt _ _ (by decide)

theorem State.counts_loadLost (s : State) :
    s.loadLost.get DRE_STATUS.LOAD_STATE = 0 ∧ s.loadLost.get DRE_LOAD_RES.RESULT = 7 ∧
      s.loadLost.get DRE_CNT_LOADFAIL.COUNT = min (s.get DRE_CNT_LOADFAIL.COUNT + 1) 0xFFFFFFFF := by
  have events {f : Fld} (h : f.addr ≠ pgDRE + 0x14) :
      s.loadLost.get f = ((({ s with load := none }.put DRE_STATUS.LOAD_STATE 0).put DRE_LOAD_RES.RESULT 7).bump DRE_CNT_LOADFAIL.COUNT).get f :=
    State.get_evt _ _ _ _ h
  refine ⟨?_, ?_, ?_⟩
  · rw [events (by decide), State.get_bump _ _ _ (by decide), State.get_put_addr _ _ _ _ (by decide), State.get_put_same _ _ _ (by decide)]
    rfl
  · rw [events (by decide), State.get_bump _ _ _ (by decide), State.get_put_same _ _ _ (by decide)]
    rfl
  · have before : (({ s with load := none }.put DRE_STATUS.LOAD_STATE 0).put DRE_LOAD_RES.RESULT 7).get DRE_CNT_LOADFAIL.COUNT
        = s.get DRE_CNT_LOADFAIL.COUNT := (State.get_put_addr _ _ _ _ (by decide)).trans (State.get_put_addr _ _ _ _ (by decide))
    rw [events (by decide), State.bump, State.bumpBy, State.get_put_same _ _ _ (by decide), before]
    exact Nat.mod_eq_of_lt (lt_of_le_of_lt (min_le_right _ _) (by decide))

/-- The answer of the command whose load it was. -/
theorem State.loadEnd_source (s : State) (l : Load) :
    ∃ p r, s.loadEnd l ldSource = (s.loadLost.logEvent (loadCode ldSource) p).finishOpt l.tag stFailed ldSource r := ⟨_, _, rfl⟩

theorem State.runLoad_readErr {s : State} {l : Load} (host : List Byte) (load : s.load = some l) (src : l.src = 1) :
    s.runLoad host true = (s.tdmErr 3 l.addr 8 4 (!s.inWindow l.addr 16)).loadEnd l ldSource := by
  have unread (t : State) (fb n : Nat) : t.sourceBytes l host true fb n = none := rfl
  unfold State.runLoad
  simp only [load, src, unread]
  cases inside : s.inWindow l.addr 16 <;> simp

theorem State.reports_tdmErr (s : State) (user addr unit access : Nat) (outside : Bool) : s.Reports (s.tdmErr user addr unit access outside) := by
  unfold State.tdmErr
  refine ((?_ : s.Reports (if outside then s.bump TDM_CNT_WINERR.COUNT else s)).trans (State.reports_evt _ _ _)).trans (State.reports_raiseWith _ _ _ _ _)
  split
  · exact s.reports_bump _
  · exact .refl s

theorem State.within_tdmErr (s : State) (user addr unit access : Nat) (outside : Bool) : s.Within (s.tdmErr user addr unit access outside) faultPages := by
  unfold State.tdmErr
  refine ((?_ : s.Within (if outside then s.bump TDM_CNT_WINERR.COUNT else s) faultPages).evt _ _ (by decide)).trans (State.within_raiseWith _ _ _ _ _ (by decide))
  split
  · exact (State.Within.refl s _).bump _ (by decide)
  · exact .refl s _

/-- What a load that finds no source leaves. -/
theorem State.runLoad_lost {s : State} {l : Load} (host : List Byte) (load : s.load = some l) (src : l.src = 1) :
    (s.runLoad host true).load = none ∧ (s.runLoad host true).get DRE_STATUS.LOAD_STATE = 0 ∧ (s.runLoad host true).get DRE_LOAD_RES.RESULT = 7 ∧
      (s.runLoad host true).get DRE_CNT_LOADFAIL.COUNT = min (s.get DRE_CNT_LOADFAIL.COUNT + 1) 0xFFFFFFFF ∧
      s.Within (s.runLoad host true) (8 :: faultPages) ∧ s.Stays (s.runLoad host true) := by
  have told := s.reports_tdmErr 3 l.addr 8 4 (!s.inWindow l.addr 16)
  have pages := s.within_tdmErr 3 l.addr 8 4 (!s.inWindow l.addr 16)
  have counted : (s.tdmErr 3 l.addr 8 4 (!s.inWindow l.addr 16)).get DRE_CNT_LOADFAIL.COUNT = s.get DRE_CNT_LOADFAIL.COUNT := pages.get _ (by decide)
  rw [State.runLoad_readErr host load src]
  generalize s.tdmErr 3 l.addr 8 4 (!s.inWindow l.addr 16) = t at told pages counted
  obtain ⟨p, r, eff⟩ := t.loadEnd_source l
  obtain ⟨state, result, count⟩ := t.counts_loadLost
  have noted := t.loadLost.reports_logEvent (loadCode ldSource) p
  have notedPages := t.loadLost.within_logEvent (loadCode ldSource) p
  have ended := (t.loadLost.logEvent (loadCode ldSource) p).reports_finishOpt l.tag stFailed ldSource r false
  have endedPages := (t.loadLost.logEvent (loadCode ldSource) p).within_finishOpt l.tag stFailed ldSource r false
  have shown {f : Fld} (h : f.addr / 0x1000 = 8) :
      ((t.loadLost.logEvent (loadCode ldSource) p).finishOpt l.tag stFailed ldSource r).get f = t.loadLost.get f := by
    rw [endedPages.get f (by rw [h]; decide), notedPages.get f (by rw [h]; decide)]
  rw [eff]
  refine ⟨?_, ?_, ?_, ?_, ?_, ?_⟩
  · rw [ended.load, noted.load, State.load_loadLost]
  · rw [shown (by decide), state]
  · rw [shown (by decide), result]
  · rw [shown (by decide), count, counted]
  · exact (((pages.mono (by decide)).trans (t.within_loadLost.mono (by decide))).trans (notedPages.mono (by decide))).trans (endedPages.mono (by decide))
  · exact ((told.stays.trans t.stays_loadLost).trans noted.stays).trans ended.stays

/-! ### The tick (R37) -/

/-- What a tick looks at and leaves of a yard: its counts, its staged record, whether that is an old one, and its stale count. -/
def State.tickShown (s : State) (y : Nat) : List Nat × Option (List Nat) × Bool × Nat :=
  ((s.yard y).counts, (s.yard y).stage, (s.yard y).stageOld, s.get (DRE_YSTAT.STALE y))

/-- A stale count that counts. -/
def staler (n : Nat) : Nat := min (n + 1) (2 ^ 8 - 1)

/-- What its tick makes of it. -/
def ticked : List Nat × Option (List Nat) × Bool × Nat → List Nat × Option (List Nat) × Bool × Nat
  | (_, some c, false, n) => (c, none, false, n)
  | (counts, _, _, n) => (counts, none, false, staler n)

theorem State.tickShown_setYard (s : State) (y : Nat) (v : Yard) :
    (s.setYard y v).tickShown y = (v.counts, v.stage, v.stageOld, s.get (DRE_YSTAT.STALE y)) := by
  rw [State.tickShown, State.yard_setYard, if_pos rfl, State.get_setYard]

theorem State.tickShown_setYard_other (s : State) {y z : Nat} (h : z ≠ y) (v : Yard) : (s.setYard z v).tickShown y = s.tickShown y := by
  rw [State.tickShown, State.yard_setYard, if_neg (Ne.symm h), State.get_setYard]
  rfl

theorem State.tickShown_farrierCounts (s : State) (y : Nat) : (s.farrierCounts y).tickShown y = s.tickShown y := by
  unfold State.farrierCounts
  dsimp only
  split
  · rfl
  · exact s.tickShown_setYard y _

theorem State.tickShown_tickInterval (s : State) (y : Nat) : (s.tickInterval y).tickShown y = s.tickShown y := s.tickShown_setYard y _

theorem State.tickShown_bump (s : State) (y : Nat) :
    (s.bump (DRE_YSTAT.STALE y)).tickShown y = ((s.yard y).counts, (s.yard y).stage, (s.yard y).stageOld, staler (s.get (DRE_YSTAT.STALE y))) := by
  have counted : (s.bump (DRE_YSTAT.STALE y)).get (DRE_YSTAT.STALE y) = staler (s.get (DRE_YSTAT.STALE y)) :=
    (State.get_put_same _ _ _ (show 8 + 8 ≤ 32 by decide)).trans
      (Nat.mod_eq_of_lt (lt_of_le_of_lt (min_le_right _ _) (show 2 ^ 8 - 1 < 2 ^ 8 by decide)))
  rw [State.tickShown, counted]
  rfl

theorem State.tickShown_tickYard (s : State) (y : Nat) : (s.tickYard y).tickShown y = ticked (s.tickShown y) := by
  have private_ (t : State) : (if Config.isPrivate y then t.tickInterval y else t).tickShown y = t.tickShown y := by
    split
    · exact t.tickShown_tickInterval y
    · rfl
  unfold State.tickYard
  dsimp only
  rw [private_]
  cases stage : (s.yard y).stage with
  | none =>
    rw [State.tickShown_bump]
    simp [State.tickShown, stage, ticked]
  | some c =>
    cases old : (s.yard y).stageOld with
    | true =>
      dsimp only
      rw [if_pos rfl, State.tickShown_bump]
      simp [State.tickShown, stage, old, ticked]
    | false =>
      dsimp only
      rw [if_neg Bool.false_ne_true, State.tickShown_farrierCounts, State.tickShown_setYard]
      simp [State.tickShown, stage, old, ticked]

/-- What a tick of a yard does to others' records, and to what is not its stale count. -/
structure State.TickOf (y : Nat) (s t : State) : Prop where
  others : ∀ z, z ≠ y → t.tickShown z = s.tickShown z
  words : ∀ a, a ≠ (DRE_YSTAT.STALE y).addr → t.word a = s.word a
  flash : t.flash = s.flash
  store : t.store = s.store
  capram : t.capram = s.capram

theorem State.TickOf.refl (y : Nat) (s : State) : State.TickOf y s s := ⟨fun _ _ => rfl, fun _ _ => rfl, rfl, rfl, rfl⟩

theorem State.TickOf.trans {y : Nat} {s t u : State} (h : State.TickOf y s t) (k : State.TickOf y t u) : State.TickOf y s u where
  others := fun z hz => (k.others z hz).trans (h.others z hz)
  words := fun a ha => (k.words a ha).trans (h.words a ha)
  flash := k.flash.trans h.flash
  store := k.store.trans h.store
  capram := k.capram.trans h.capram

theorem State.tickOf_setYard (s : State) (y : Nat) (v : Yard) : State.TickOf y s (s.setYard y v) :=
  ⟨fun _ h => s.tickShown_setYard_other (Ne.symm h) v, fun _ _ => rfl, rfl, rfl, rfl⟩

theorem State.tickOf_bump (s : State) (y : Nat) : State.TickOf y s (s.bump (DRE_YSTAT.STALE y)) where
  others := fun z h => by
    have apart : (DRE_YSTAT.STALE z).addr ≠ (DRE_YSTAT.STALE y).addr := by
      simp only [DRE_YSTAT.STALE]
      omega
    have kept : (s.bump (DRE_YSTAT.STALE y)).get (DRE_YSTAT.STALE z) = s.get (DRE_YSTAT.STALE z) := State.get_bump _ _ _ apart
    rw [State.tickShown, kept]
    rfl
  words := fun a h => State.word_put _ _ _ _ h
  flash := rfl
  store := rfl
  capram := rfl

theorem State.tickOf_tickYard (s : State) (y : Nat) : State.TickOf y s (s.tickYard y) := by
  have counts (t : State) : State.TickOf y t (t.farrierCounts y) := by
    unfold State.farrierCounts
    dsimp only
    split
    · exact .refl y t
    · exact t.tickOf_setYard y _
  have interval (t : State) : State.TickOf y t (if Config.isPrivate y then t.tickInterval y else t) := by
    split
    · exact t.tickOf_setYard y _
    · exact .refl y t
  unfold State.tickYard
  dsimp only
  refine State.TickOf.trans ?_ (interval _)
  split
  · split
    · exact (s.tickOf_setYard y _).trans (State.tickOf_bump _ y)
    · exact (s.tickOf_setYard y _).trans (counts _)
  · exact (s.tickOf_setYard y _).trans (State.tickOf_bump _ y)

/-- The ticks of all yards. -/
def State.tickAll (s : State) : State := (List.range Config.yardCount).foldl State.tickYard s

theorem State.tickShown_tickAll (s : State) {y : Nat} (hy : y < Config.yardCount) : s.tickAll.tickShown y = ticked (s.tickShown y) :=
  (State.foldl_range_at (fun t => t.tickShown y) State.tickYard ticked (fun t => t.tickShown_tickYard y)
    (fun t z h => (t.tickOf_tickYard z).others y (Ne.symm h)) Config.yardCount s).trans (if_pos hy)

theorem State.word_tickAll (s : State) {a : Nat} (h : a ∉ (List.range Config.yardCount).map fun y => (DRE_YSTAT.STALE y).addr) :
    s.tickAll.word a = s.word a :=
  State.foldl_keeps (fun t => t.word a) State.tickYard (List.range Config.yardCount)
    (fun y hy t => (t.tickOf_tickYard y).words a fun e => h (List.mem_map.mpr ⟨y, hy, e.symm⟩)) s

theorem State.keepsMem_tickAll (s : State) : s.KeepsMem s.tickAll := by
  have flash : s.tickAll.flash = s.flash :=
    State.foldl_keeps State.flash State.tickYard (List.range Config.yardCount) (fun y _ t => (t.tickOf_tickYard y).flash) s
  have store : s.tickAll.store = s.store :=
    State.foldl_keeps State.store State.tickYard (List.range Config.yardCount) (fun y _ t => (t.tickOf_tickYard y).store) s
  have capram : s.tickAll.capram = s.capram :=
    State.foldl_keeps State.capram State.tickYard (List.range Config.yardCount) (fun y _ t => (t.tickOf_tickYard y).capram) s
  intro a
  simp only [State.flashAt, State.storeAt, State.capAt, flash, store, capram, and_self]

theorem activityTickEff_on {s : State} (h : s.dreOn = true) : activityTickEff s = s.tickAll := if_pos h

theorem State.tickShown_answered (s u : State) {y : Nat} (hy : y < Config.yardCount) : (s.answered u).tickShown y = u.tickShown y := by
  have yards : Config.yardCount = 96 := rfl
  have stale : (s.answered u).get (DRE_YSTAT.STALE y) = u.get (DRE_YSTAT.STALE y) :=
    State.get_answered _ _ _ (by simp only [DRE_YSTAT.STALE, FLT_STATUS.reg]; omega) (by simp only [DRE_YSTAT.STALE, PRT_MP.reg]; omega)
  rw [State.tickShown, State.answered_yard, stale]
  rfl

/-! ### An activity record (R37) -/

theorem activityRecordEff_staged {y : Nat} {beats : List (BitVec 2 × BitVec 128)} {s : State} (hy : y < Config.yardCount) (on_ : s.dreOn = true)
    (order : beats.map (fun b => b.1.toNat) = [0, 1, 2, 3]) :
    activityRecordEff y beats s = s.setYard y { s.yard y with stage := some (activityCounts (beats.map Prod.snd)) } := by
  have taken : ¬ (Config.yardCount ≤ y ∨ (!s.dreOn) = true) := by simp [on_, hy]
  unfold activityRecordEff
  rw [if_neg taken, if_pos order]

/-! ### What the writes of RUN leave -/

theorem State.run_put (s : State) (run : Bool) : (s.put DRE_CTRL.RUN run.toNat).get DRE_CTRL.RUN = run.toNat := by
  rw [State.get_put_same _ _ _ (by decide)]
  cases run <;> rfl

/-- RUN 0. -/
theorem State.stopped_run (s : State) :
    (s.put DRE_CTRL.RUN 0).closeColls.dropStaged.openColls = [] ∧
      (∀ y < Config.yardCount, (s.put DRE_CTRL.RUN 0).closeColls.dropStaged.yard y = (s.yard y).unstaged) ∧
      (∀ a, (s.put DRE_CTRL.RUN 0).closeColls.dropStaged.word a = (s.put DRE_CTRL.RUN 0).word a) ∧
      s.KeepsMem (s.put DRE_CTRL.RUN 0).closeColls.dropStaged := by
  have mem : s.KeepsMem (s.put DRE_CTRL.RUN 0) := fun _ => ⟨rfl, rfl, rfl⟩
  have yards (y : Nat) : (s.put DRE_CTRL.RUN 0).yard y = s.yard y := s.yard_put _ _ _
  generalize s.put DRE_CTRL.RUN 0 = t at mem yards
  refine ⟨State.openColls_eq_nil fun k hk => ?_, fun y hy => ?_, fun a => ?_, ?_⟩
  · rw [State.coll_dropStaged, State.coll_closeColls _ hk]
  · have closed : t.closeColls.yard y = t.yard y := by simp only [State.yard, t.yards_closeColls]
    rw [State.yard_dropStaged _ hy, closed, yards]
  · have same : t.closeColls.dropStaged.regs = t.regs := (State.regs_dropStaged _).trans t.regs_closeColls
    simp only [State.word, same]
  · exact mem.trans ((t.confined_closeColls (l := [])).trans (State.confined_dropStaged _)).keepsMem

/-- Settles O16: a write of a control register is its value and what that sets going; a load that finds no source ends at once; the tick
is one step for each yard, which touches that yard's record and stale count alone. -/
theorem bundlesLoadAndActivityIsTaken : Obligations.BundlesLoadAndActivityIsTaken := by
  unfold Obligations.BundlesLoadAndActivityIsTaken
  refine ⟨fun q slot src s takes hsrc hslot wayOn idle sound => ?_, fun l host s load src => ?_, fun q s takes => ?_, fun q s takes => ?_,
    fun y beats s hy on_ order => ?_, fun s on_ => ?_⟩
  · refine ⟨_, exec_dreLoadGo q slot src s, ?_⟩
    rw [State.wordWrite_go takes hsrc hslot wayOn idle sound]
    have named : s.SameTables (s.loadNamed slot src) := State.sameTables_setWord _ _ _
    refine ⟨(State.answered_load _ _).trans (State.load_loadStarted _ _), ?_, ?_,
      State.frame_answered (fun a h => ?_) (named.trans (State.sameTables_loadStarted _ _))⟩
    · rw [State.get_answered _ _ _ (by decide) (by decide), State.loadState_loadStarted]
    · rw [State.get_answered _ _ _ (by decide) (by decide), State.result_loadStarted]
    · simp only [List.mem_cons, List.not_mem_nil, or_false, not_or] at h
      obtain ⟨go, state, result⟩ := h
      rw [State.word_loadStarted _ _ _ state result]
      exact (State.word_setWord _ _ _ _).trans (if_neg go)
  · obtain ⟨none_, state, result, count, pages, stays⟩ := State.runLoad_lost host load src
    have wired : (s.runLoad host true).Stays (s.answered (s.runLoad host true)) := by
      have := (s.runLoad host true).reports_wired.stays
      exact ⟨this.flash, this.store, this.capram, this.bays, this.yards, this.doms, this.clusters, this.rails, this.phases, this.ctxs⟩
    refine ⟨_, exec_bundleFetchDone host true s, (State.answered_load _ _).trans none_, ?_, ?_, ?_,
      State.keepsPages_answered_of (fun a h _ => pages a h) (by decide) (by decide), (stays.trans wired).keepsPlant, State.keepsMem_answered stays.keepsMem⟩
    · rw [State.get_answered _ _ _ (by decide) (by decide), state]
    · rw [State.get_answered _ _ _ (by decide) (by decide), result]
    · rw [State.get_answered _ _ _ (by decide) (by decide), count]
  · obtain ⟨colls, yards, words, mem⟩ := s.stopped_run
    have stop : (s.put DRE_CTRL.RUN false.toNat).runWritten = (s.put DRE_CTRL.RUN 0).closeColls.dropStaged := State.runWritten_stop (s.run_put false)
    refine ⟨_, exec_dreCtrlRunWrite q false s, ?_⟩
    rw [State.wordWrite_run false takes, stop]
    refine ⟨?_, (State.answered_openColls _ _).trans colls, fun y hy => (State.answered_yard _ _ _).trans (yards y hy),
      State.keepsRegs_answered fun a h => ?_, State.keepsMem_answered mem⟩
    · rw [State.get_answered _ _ _ (by decide) (by decide), State.get, words]
      exact s.run_put false
    · rw [words]
      exact State.word_put _ _ _ _ fun e => h (List.mem_singleton.mpr e)
  · refine ⟨_, exec_dreCtrlRunWrite q true s, ?_⟩
    rw [State.wordWrite_run true takes, State.runWritten_run (s.run_put true)]
    refine ⟨?_, State.answered_colls _ _, State.frame_answered (fun a h => State.word_put _ _ _ _ fun e => h (List.mem_singleton.mpr e))
      (State.sameTables_setWord _ _ _)⟩
    rw [State.get_answered _ _ _ (by decide) (by decide)]
    exact s.run_put true
  · refine ⟨_, exec_activityRecord y beats s, ?_⟩
    rw [activityRecordEff_staged hy on_ order]
    refine ⟨?_, fun z hz => ?_, State.keepsRegs_answered fun _ _ => rfl, State.keepsMem_answered (s.keepsMem_setYard _ _)⟩
    · rw [State.answered_yard, State.yard_setYard, if_pos rfl]
    · rw [State.answered_yard, State.yard_setYard, if_neg hz]
  · refine ⟨_, exec_activityTick s, ?_⟩
    rw [activityTickEff_on on_]
    have shown (y : Nat) (hy : y < Config.yardCount) : (s.answered s.tickAll).tickShown y = ticked (s.tickShown y) :=
      (State.tickShown_answered _ _ hy).trans (s.tickShown_tickAll hy)
    refine ⟨fun y hy staged new_ => ?_, fun y hy none_ => ?_, State.keepsRegs_answered fun a h => s.word_tickAll h, State.keepsMem_answered s.keepsMem_tickAll⟩
    · obtain ⟨c, stage⟩ := Option.isSome_iff_exists.mp staged
      have after := shown y hy
      simp only [State.tickShown, stage, new_, ticked, Prod.mk.injEq] at after
      obtain ⟨counts, rest, -, -⟩ := after
      exact ⟨by rw [counts, stage], rest⟩
    · have after := shown y hy
      simp only [State.tickShown, none_, ticked, Prod.mk.injEq] at after
      obtain ⟨-, -, -, stale⟩ := after
      exact stale

end Sys2Proof.Machine
end

section
/-!
SUPPORT. What acknowledging a HOLD_REQ sets going writes no register of the pilot port's count (R33, R214, R223-R231). Obligation
PilotPortTakesEveryNotice.
-/

namespace Sys2Proof.Machine

/-! ### PIL_CNT_ACCEPT over the state's operations -/

/-- The word of PIL_CNT_ACCEPT. -/
def State.accepts (s : State) : Word := s.word 0x7e00

theorem State.accepts_of_regs {s t : State} (h : t.regs = s.regs) : t.accepts = s.accepts := by simp only [State.accepts, State.word, h]

theorem State.accepts_ite {c : Prop} [Decidable c] (s t : State) : (if c then s else t).accepts = if c then s.accepts else t.accepts := by
  split <;> rfl

theorem State.accepts_foldl {α : Type} {f : State → α → State} (h : ∀ s x, (f s x).accepts = s.accepts) (l : List α) (s : State) :
    (l.foldl f s).accepts = s.accepts := State.foldl_keeps State.accepts f l (fun x _ t => h t x) s

theorem State.accepts_setWord (s : State) (a : Nat) (w : Word) (h : a ≠ 0x7e00) : (s.setWord a w).accepts = s.accepts :=
  (State.word_setWord _ _ _ _).trans (if_neg (Ne.symm h))

theorem State.accepts_put (s : State) (f : Fld) (v : Nat) (h : f.addr ≠ 0x7e00) : (s.put f v).accepts = s.accepts := s.accepts_setWord _ _ h
theorem State.accepts_bumpBy (s : State) (f : Fld) (n : Nat) (h : f.addr ≠ 0x7e00) : (s.bumpBy f n).accepts = s.accepts := s.accepts_setWord _ _ h
theorem State.accepts_bump (s : State) (f : Fld) (h : f.addr ≠ 0x7e00) : (s.bump f).accepts = s.accepts := s.accepts_setWord _ _ h
theorem State.accepts_evt (s : State) (pg k : Nat) (h : pg + 0x14 ≠ 0x7e00) : (s.evt pg k).accepts = s.accepts := s.accepts_setWord _ _ h

theorem State.Within.accepts {s t : State} {l : List Nat} (h : s.Within t l) (k : 7 ∉ l) : t.accepts = s.accepts := h _ k

theorem State.accepts_setYard (s : State) (y : Nat) (v : Yard) : (s.setYard y v).accepts = s.accepts := rfl
theorem State.accepts_setBay (s : State) (b : Nat) (v : Bay) : (s.setBay b v).accepts = s.accepts := rfl
theorem State.accepts_setDom (s : State) (d : Nat) (v : Dom) : (s.setDom d v).accepts = s.accepts := rfl
theorem State.accepts_setCluster (s : State) (n : Nat) (v : Cluster) : (s.setCluster n v).accepts = s.accepts := rfl
theorem State.accepts_setRail (s : State) (r : Nat) (v : Rail) : (s.setRail r v).accepts = s.accepts := rfl
theorem State.accepts_setStream (s : State) (t : Nat) (v : Tdm) : (s.setStream t v).accepts = s.accepts := rfl
theorem State.accepts_send (s : State) (g : Nat) (w : Word) : (s.send g w).accepts = s.accepts := rfl

theorem State.accepts_logEvent (s : State) (c : Nat) (p : List Nat) : (s.logEvent c p).accepts = s.accepts :=
  (s.within_logEvent c p).accepts (by decide)

theorem State.accepts_finish (s : State) (t : CmdTag) (c d : Nat) (r : Word) (late : Bool) : (s.finish t c d r late).accepts = s.accepts :=
  (s.within_finish t c d r late).accepts (by decide)

theorem State.accepts_finishOpt (s : State) (t : Option CmdTag) (c d : Nat) (r : Word) (late : Bool) :
    (s.finishOpt t c d r late).accepts = s.accepts := (s.within_finishOpt t c d r late).accepts (by decide)

/-! ### Heat, ownership, presets and the steps of a domain's sequence -/

theorem State.accepts_reqRes (s : State) (d code : Nat) (late : Bool) :
    (s.reqRes d code late).accepts = s.accepts := by
  simp (disch := (dsimp only [PWS_REQ_RES.ABORT_LATE, PWS_REQ_RES.STATUS]; omega)) only [State.reqRes, State.accepts_ite, ite_self,
    State.accepts_put]

theorem State.accepts_endOrder (s : State) (d : Nat) (o : DomOrder) (code : Nat) (late : Bool) (result : Nat) :
    (s.endOrder d o code late result).accepts = s.accepts := by
  have aborted (l : List CmdTag) (t : State) (c : Nat) : (l.foldl (fun t g => t.finish g stDone c 0) t).accepts = t.accepts :=
    State.accepts_foldl (fun t _ => t.accepts_finish _ _ _ _ _) l t
  unfold State.endOrder
  simp (disch := (dsimp only [PWS_CNT_FAIL.COUNT, pgPWS]; omega)) only [aborted, State.accepts_ite, ite_self, State.accepts_evt,
    State.accepts_bump, State.accepts_reqRes, State.accepts_finishOpt]

theorem State.accepts_modDom (s : State) (d : Nat) (f : Dom → Dom) :
    (s.modDom d f).accepts = s.accepts := by
  simp only [State.modDom, State.accepts_setDom]

theorem State.accepts_sendBay (s : State) (b : Nat) (mk : Nat → Word) :
    (s.sendBay b mk).accepts = s.accepts := by
  simp only [State.sendBay, State.accepts_send]

theorem State.accepts_modBay (s : State) (b : Nat) (f : Bay → Bay) :
    (s.modBay b f).accepts = s.accepts := by
  simp only [State.modBay, State.accepts_setBay]

theorem State.accepts_endHeat (s : State) (y : Nat) :
    (s.endHeat y).accepts = s.accepts := by
  simp only [State.endHeat, State.accepts_ite, ite_self, State.accepts_foldl, implies_true, eq_self, State.accepts_setYard,
    State.accepts_sendBay, State.accepts_modBay]

theorem State.accepts_orderYardBays (s : State) (y order : Nat) :
    (s.orderYardBays y order).accepts = s.accepts := by
  simp only [State.orderYardBays, State.accepts_foldl, implies_true, eq_self, State.accepts_sendBay]

theorem State.accepts_stopYard (s : State) (y : Nat) :
    (s.stopYard y).accepts = s.accepts := by
  simp only [State.stopYard, State.accepts_setYard]

theorem State.accepts_enterLow (s : State) (d t : Nat) :
    (s.enterLow d t).accepts = s.accepts := by
  simp (disch := (dsimp only [PWS_DOM.BIAS]; omega)) only [State.enterLow, State.accepts_ite, ite_self, State.accepts_put,
    State.accepts_orderYardBays, State.accepts_modDom, State.accepts_stopYard]

theorem State.accepts_atStep (s : State) (d : Nat) (st : DomStep) :
    (s.atStep d st).accepts = s.accepts := by
  simp (disch := (dsimp only [PWS_DOM.STEP]; omega)) only [State.atStep, State.accepts_modDom, State.accepts_put]

theorem State.accepts_releaseNeighbours (s : State) (y : Nat) :
    (s.releaseNeighbours y).accepts = s.accepts := by
  unfold State.releaseNeighbours
  exact State.accepts_foldl (fun t z => t.accepts_setYard z _) _ s

theorem State.accepts_recordWake (s : State) (d : Nat) (o : DomOrder) (failed : Bool) :
    (s.recordWake d o failed).1.accepts = s.accepts := by
  unfold State.recordWake
  dsimp only
  (repeat' split) <;> simp (disch := (dsimp only [PWS_CNT_WAKE.COUNT, PWS_DOM.DEFERRED, PWS_DOM.FAILED, PWS_DOM.WAKE_SRC,
    PWS_DOM.WAKE_US, PWS_DOM.WARMED, pgPWS]; omega)) only [State.accepts_put, State.accepts_logEvent, State.accepts_bump,
    State.accepts_evt]

theorem State.accepts_fresh (s : State) (site : Nat) :
    (s.fresh site).2.accepts = s.accepts := by
  exact State.accepts_of_regs rfl

theorem State.accepts_tempNow (s : State) (y : Nat) :
    (s.tempNow y).2.accepts = s.accepts := by
  unfold State.tempNow
  split <;> simp only [State.accepts_fresh]

theorem State.accepts_closeInterval (s : State) (y : Nat) :
    (s.closeInterval y).accepts = s.accepts := by
  simp (disch := (dsimp only [CAP_CNT_ATTRMERGE.COUNT]; omega)) only [State.closeInterval, State.accepts_ite, ite_self,
    State.accepts_setYard, State.accepts_bump]
  split
  · rfl
  · exact (State.accepts_of_regs rfl).trans (s.accepts_tempNow y)

theorem State.accepts_scrubInputs (s : State) (y c : Nat) :
    (s.scrubInputs y c).accepts = s.accepts := by
  simp only [State.scrubInputs, State.accepts_setYard]

theorem State.accepts_askScrub (s : State) (y c : Nat) (clear : Bool) :
    (s.askScrub y c clear).accepts = s.accepts := by
  unfold State.askScrub
  dsimp only
  split
  · exact (State.accepts_scrubInputs _ _ _).trans (State.accepts_of_regs rfl)
  · exact State.accepts_of_regs rfl

theorem State.accepts_openTurn (s : State) (n : Nat) :
    (s.openTurn n).accepts = s.accepts := by
  simp only [State.openTurn, State.accepts_setCluster]

theorem State.accepts_showCapture (s : State) (n : Nat) (b : Bool) :
    (s.showCapture n b).accepts = s.accepts := by
  simp (disch := (dsimp only [SXT_PAIR.CAPTURING, SXT_STATUS.CAPTURE]; omega)) only [State.showCapture, State.accepts_setCluster,
    State.accepts_openTurn, State.accepts_put]

theorem State.accepts_strEnd (s : State) (n m st : Nat) :
    (s.strEnd n m st).accepts = s.accepts := by
  simp (disch := (dsimp only [SXT_STR_STAT.STATE, pgX]; omega)) only [State.strEnd, State.accepts_ite, ite_self, State.accepts_put,
    State.accepts_evt, State.accepts_showCapture, State.accepts_setCluster, State.accepts_finishOpt]

theorem State.accepts_confStreams (s : State) :
    s.confStreams.accepts = s.accepts := by
  simp only [State.confStreams, State.accepts_ite, ite_self, State.accepts_foldl, implies_true, eq_self, State.accepts_strEnd]

theorem State.accepts_urgEnd (s : State) (n result : Nat) :
    (s.urgEnd n result).accepts = s.accepts := by
  simp (disch := (dsimp only [SXT_URG_RES.RESULT, pgX]; omega)) only [State.urgEnd, State.accepts_put, State.accepts_evt]

theorem State.accepts_confUrgent (s : State) :
    s.confUrgent.accepts = s.accepts := by
  refine State.accepts_foldl (fun s n => ?_) _ s
  split <;> simp only [State.accepts_ite, ite_self, State.accepts_setCluster, State.accepts_urgEnd]

theorem State.accepts_confEdge (s : State) :
    s.confEdge.accepts = s.accepts := by
  have ended (t : State) (k : Nat) : (t.evt pgSEC k).accepts = t.accepts := t.accepts_evt _ _ (by decide)
  unfold State.confEdge
  dsimp only
  split
  · refine (State.accepts_foldl (fun t k => t.accepts_setStream k _) _ _).trans ((ended _ _).trans ?_)
    exact (State.accepts_confUrgent _).trans ((State.accepts_confStreams _).trans (State.accepts_of_regs rfl))
  · split
    · exact (ended _ _).trans (State.accepts_of_regs rfl)
    · rfl

theorem State.accepts_setOwner (s : State) (y o' : Nat) :
    (s.setOwner y o').accepts = s.accepts := by
  simp (disch := (dsimp only [Fld.byte, CAP_YOWN.OWNER]; omega)) only [State.setOwner, State.accepts_ite, ite_self,
    State.accepts_closeInterval, State.accepts_put, State.accepts_askScrub, State.accepts_confEdge]

theorem State.accepts_disown (s : State) (y : Nat) :
    (s.disown y).accepts = s.accepts := by
  simp only [State.disown, State.accepts_setOwner]

theorem State.accepts_railState (s : State) (r st : Nat) :
    (s.railState r st).accepts = s.accepts := by
  simp (disch := (dsimp only [STG_RAIL.STATE]; omega)) only [State.railState, State.accepts_setRail, State.accepts_put]

theorem State.accepts_railOffOne (s : State) (r : Nat) :
    (s.railOffOne r).accepts = s.accepts := by
  unfold State.railOffOne
  dsimp only
  split
  · refine State.accepts_foldl (fun t r => ?_) _ s
    simp (disch := (dsimp only [STG_RAIL.OFF_PENDING]; omega)) only [State.accepts_ite, ite_self, State.accepts_railState, State.accepts_put]
  · rfl

theorem State.accepts_railOffCheck (s : State) :
    s.railOffCheck.accepts = s.accepts := by
  simp only [State.railOffCheck, State.accepts_railOffOne]

theorem State.accepts_notice (s : State) (kind yard ctx param : Nat) :
    (s.notice kind yard ctx param).accepts = s.accepts := by
  unfold State.notice
  split
  · exact s.accepts_logEvent _ _
  · rfl

theorem State.accepts_fenceYard (s : State) (y : Nat) :
    (s.fenceYard y).accepts = s.accepts := by
  simp (disch := (dsimp only [FAR_YSTAT.FENCED, YRD_STATUS.YARD_FENCED, pgFAR]; omega)) only [State.fenceYard, State.accepts_ite,
    ite_self, State.accepts_setYard, State.accepts_put, State.accepts_logEvent, State.accepts_evt, State.accepts_disown,
    State.accepts_notice]

theorem State.accepts_errorSample (s : State) (y : Nat) (f2 i : Int) (limit : Nat) :
    (s.errorSample y f2 i limit).accepts = s.accepts := by
  simp (disch := (dsimp only [DRE_YSTAT.ERR]; omega)) only [State.errorSample, State.accepts_ite, ite_self, State.accepts_put]

theorem State.accepts_sampleError (s : State) (y : Nat) (c : Forecast) :
    (s.sampleError y c).accepts = s.accepts := by
  unfold State.sampleError
  split <;> simp only [State.accepts_errorSample, State.accepts_setYard]

theorem State.accepts_withdrawSheds (s : State) (y : Nat) :
    (s.withdrawSheds y).accepts = s.accepts := by
  unfold State.withdrawSheds
  split
  · exact (State.accepts_setYard _ _ _).trans (State.accepts_of_regs rfl)
  · rfl

theorem State.accepts_sendPhases (s : State) (order : Nat) (ps : List PhRef) :
    (s.sendPhases order ps).accepts = s.accepts := by
  simp only [State.sendPhases, State.accepts_foldl, implies_true, eq_self, State.accepts_sendBay]

theorem State.accepts_addPhases (s : State) (y n cause : Nat) :
    (s.addPhases y n cause).accepts = s.accepts := by
  simp (disch := (dsimp only [YRD_SHARE_STAT.LAST_CAUSE, YRD_SHED_EVT.CANCELS, YRD_SHED_EVT.EVT]; omega)) only [State.addPhases,
    State.accepts_ite, ite_self, State.accepts_withdrawSheds, State.accepts_sendPhases, State.accepts_bumpBy, State.accepts_put]

theorem State.accepts_floorRaise (s : State) (y : Nat) :
    (s.floorRaise y).accepts = s.accepts := by
  simp only [State.floorRaise, State.accepts_ite, ite_self, State.accepts_addPhases]

theorem State.accepts_sendYard (s : State) (y : Nat) (w : Word) :
    (s.sendYard y w).accepts = s.accepts := State.accepts_of_regs (s.regs_sendYard y w)

theorem State.accepts_sendPreset (s : State) (y : Nat) :
    (s.sendPreset y).accepts = s.accepts := by
  simp only [State.sendPreset, State.accepts_ite, ite_self, State.accepts_setYard, State.accepts_sendYard]

theorem State.accepts_setBias (s : State) (d : Nat) :
    (s.setBias d).accepts = s.accepts := by
  simp (disch := (dsimp only [PWS_DOM.ASSIST, PWS_DOM.BIAS]; omega)) only [State.setBias, State.accepts_put]

theorem State.accepts_refreshBias (s : State) (d : Nat) :
    (s.refreshBias d).accepts = s.accepts := by
  simp only [State.refreshBias, State.accepts_ite, ite_self, State.accepts_setBias]

theorem State.accepts_startWait (s : State) (y code : Nat) :
    (s.startWait y code).accepts = s.accepts := by
  unfold State.startWait
  split <;> simp only [State.accepts_ite, ite_self, State.accepts_setYard]

theorem State.accepts_orderSet (s : State) (y code slew : Nat) :
    (s.orderSet y code slew).accepts = s.accepts := by
  simp only [State.orderSet, State.accepts_ite, ite_self, State.accepts_setYard, State.accepts_startWait, State.accepts_sendYard]

theorem State.accepts_sendSetpoint (s : State) (y : Nat) :
    (s.sendSetpoint y).accepts = s.accepts := by
  simp only [State.sendSetpoint, State.accepts_ite, ite_self, State.accepts_orderSet]

theorem State.accepts_deliver (s : State) (y : Nat) :
    (s.deliver y).accepts = s.accepts := by
  simp only [State.deliver, State.accepts_refreshBias, State.accepts_sendSetpoint]

theorem State.accepts_redeliver (s s0 : State) (y : Nat) :
    (s.redeliver s0 y).accepts = s.accepts := by
  simp only [State.redeliver, State.accepts_ite, ite_self, State.accepts_deliver]

theorem State.accepts_setPresets (s : State) (y : Nat) (p : Presets) :
    (s.setPresets y p).accepts = s.accepts := by
  simp (disch := (dsimp only [YRD_OFFSETS.PREBIAS, YRD_OFFSETS.PRERAISE]; omega)) only [State.setPresets, State.accepts_ite, ite_self,
    State.accepts_setYard, State.accepts_floorRaise, State.accepts_put, State.accepts_sendPreset, State.accepts_redeliver]

theorem State.accepts_applyForecast (s : State) (y : Nat) (c : Forecast) :
    (s.applyForecast y c).accepts = s.accepts := by
  simp only [State.applyForecast, State.accepts_ite, ite_self, State.accepts_endHeat, State.accepts_setYard, State.accepts_sampleError,
    State.accepts_setPresets]

theorem State.accepts_applyHeld (s : State) (y : Nat) :
    (s.applyHeld y).accepts = s.accepts := by
  simp only [State.applyHeld, State.accepts_ite, ite_self, State.accepts_foldl, implies_true, eq_self, State.accepts_applyForecast,
    State.accepts_setYard]

theorem State.accepts_reachState (s : State) (d t : Nat) :
    (s.reachState d t).accepts = s.accepts := by
  unfold State.reachState
  dsimp only
  (repeat' split) <;> simp (disch := (dsimp only [PWS_DOM.STATE]; omega)) only [State.accepts_enterLow, State.accepts_put,
    State.accepts_atStep, State.accepts_releaseNeighbours,
    State.accepts_recordWake, State.accepts_modDom, State.accepts_endOrder, State.accepts_disown, State.accepts_railOffCheck,
    State.accepts_fenceYard, State.accepts_applyHeld]

theorem State.accepts_haltDom (s : State) (d : Nat) :
    (s.haltDom d).accepts = s.accepts := by
  unfold State.haltDom
  dsimp only
  split <;> simp (disch := (dsimp only [PWS_DOM.TARGET]; omega)) only [State.accepts_modDom, State.accepts_atStep, State.accepts_put,
    State.accepts_releaseNeighbours,
    State.accepts_endOrder, State.accepts_railOffCheck]

theorem State.accepts_setIso (s : State) (d : Nat) (on : Bool) :
    (s.setIso d on).accepts = s.accepts := by
  simp (disch := (dsimp only [PWS_DOM.ISO]; omega)) only [State.setIso, State.accepts_put]

theorem State.accepts_restHeat (s : State) (y : Nat) :
    (s.restHeat y).accepts = s.accepts := by
  simp only [State.restHeat, State.accepts_endHeat, State.accepts_setYard]

theorem State.accepts_sendLevel (s : State) (b l : Nat) :
    (s.sendLevel b l).accepts = s.accepts := by
  simp only [State.sendLevel, State.accepts_ite, ite_self, State.accepts_sendBay, State.accepts_modBay]

theorem State.accepts_sendHeat (s : State) (b l : Nat) :
    (s.sendHeat b l).accepts = s.accepts := by
  simp (disch := (dsimp only [THM_CNT_HEAT.COUNT]; omega)) only [State.sendHeat, State.accepts_ite, ite_self, State.accepts_sendBay,
    State.accepts_modBay, State.accepts_bump]

theorem State.accepts_heatYard (s : State) (y l : Nat) (n : Nat) :
    (s.heatYard y l n).accepts = s.accepts := by
  simp only [State.heatYard, State.accepts_ite, ite_self, State.accepts_foldl, implies_true, eq_self, State.accepts_restHeat,
    State.accepts_sendLevel, State.accepts_sendHeat, State.accepts_setYard]

theorem State.accepts_beginStep (s : State) (d : Nat) (st : DomStep) :
    (s.beginStep d st).accepts = s.accepts := by
  unfold State.beginStep
  dsimp only
  split <;> simp (disch := (dsimp only [PWS_DOM.ASSIST]; omega)) only [State.accepts_ite, ite_self, State.accepts_atStep,
    State.accepts_setIso, State.accepts_modDom, State.accepts_setYard,
    State.accepts_heatYard, State.accepts_refreshBias, State.accepts_put, State.accepts_setBias, State.accepts_orderSet,
    State.accepts_deliver]

theorem State.accepts_advance (k d : Nat) (s : State) : (State.advance k d s).accepts = s.accepts := by
  induction k generalizing s with
  | zero => rfl
  | succ k ih =>
    unfold State.advance
    split
    · exact s.accepts_reachState _ _
    · simp only [State.accepts_ite, ite_self, State.accepts_haltDom, State.accepts_beginStep, ih]

theorem State.accepts_goOn (s : State) (d : Nat) :
    (s.goOn d).accepts = s.accepts := by
  simp only [State.goOn, State.accepts_advance]

theorem State.accepts_placeOrder (s : State) (d t : Nat) (src : OrderSrc) (byReg : Bool) (tag : Option CmdTag) :
    (s.placeOrder d t src byReg tag).1.accepts = s.accepts := by
  unfold State.placeOrder
  dsimp only
  (repeat' split) <;> simp (disch := (dsimp only [PWS_CNT_REFUSED.COUNT, PWS_DOM.TARGET, pgPWS]; omega)) only [State.accepts_bump,
    State.accepts_evt, State.accepts_endOrder, State.accepts_modDom, State.accepts_put,
    State.accepts_endHeat, State.accepts_goOn]

/-! ### What a notice does once it is accepted -/

theorem State.accepts_endBelowWait (s : State) (y : Nat) : (s.endBelowWait y).accepts = s.accepts := by
  unfold State.endBelowWait
  split
  · rfl
  · exact (State.accepts_placeOrder _ _ _ _ _ _).trans (State.accepts_setYard _ _ _)

theorem State.accepts_ackHold (s : State) (m : Notice) : (s.ackHold m).accepts = s.accepts := by
  unfold State.ackHold
  split
  · exact s.accepts_endBelowWait _
  · exact s.accepts_bump _ (by decide)

theorem State.accepts_coalesce (s : State) (y : Nat) (n : Notice) (eff : Nat) (internal : Bool) :
    (s.coalesce y n eff internal).accepts = s.accepts := by
  unfold State.coalesce
  dsimp only
  split
  · exact (State.accepts_setYard _ _ _).trans (State.accepts_of_regs rfl)
  · exact (State.accepts_bump _ _ (by decide)).trans ((State.accepts_setYard _ _ _).trans (State.accepts_of_regs rfl))
  · split
    · exact (State.accepts_setYard _ _ _).trans (State.accepts_of_regs rfl)
    · exact (State.accepts_bump _ _ (by decide)).trans ((State.accepts_setYard _ _ _).trans (State.accepts_of_regs rfl))

theorem State.accepts_enterNotice (s : State) (n : Notice) : (s.enterNotice n).accepts = s.accepts := by
  unfold State.enterNotice
  refine (State.accepts_coalesce _ _ _ _ _).trans ?_
  split
  · exact s.accepts_setYard _ _
  · rfl

theorem State.accepts_collErr (s : State) : s.collErr.accepts = s.accepts :=
  (State.accepts_evt _ _ _ (by decide)).trans (s.accepts_bump _ (by decide))

theorem State.accepts_announce (s : State) (m : Notice) : (s.announce m).accepts = s.accepts := by
  unfold State.announce
  split
  · split
    · exact State.accepts_of_regs rfl
    · exact (State.accepts_enterNotice _ _).trans (State.accepts_of_regs rfl)
  · exact s.accepts_collErr

theorem State.accepts_endColl (s : State) (m : Notice) : (s.endColl m).accepts = s.accepts := by
  have entered (t : State) : (if m.yard = 127 then t else t.enterNotice m).accepts = t.accepts := by
    split
    · rfl
    · exact t.accepts_enterNotice m
  unfold State.endColl
  dsimp only
  split
  · exact (entered _).trans (State.accepts_of_regs rfl)
  · exact (entered _).trans (State.accepts_of_regs rfl)
  · exact s.accepts_collErr

/-! ### A notice that does not stand (R33, R126, R127) -/

theorem State.screen_turned {s : State} {n : Notice} (h : ¬ s.Stands n) : ∃ u, s.screen n = (u, false) ∧ u.accepts = s.accepts := by
  unfold State.screen
  split
  · exact ⟨_, rfl, s.accepts_bump _ (by decide)⟩
  next on =>
    split
    · exact ⟨_, rfl, (State.accepts_evt _ _ _ (by decide)).trans (s.accepts_bump _ (by decide))⟩
    next good =>
      split
      · exact ⟨_, rfl, s.accepts_bump _ (by decide)⟩
      next open_ =>
        refine absurd ⟨by simpa using on, by simpa using good, ?_⟩ h
        by_cases device : n.yard = 127
        · exact .inl device
        · exact .inr (by simpa [State.on] using fun fenced => open_ ⟨device, fenced⟩)

theorem State.screen_stopped {s : State} (n : Notice) (h : s.dreOn = false) : s.screen n = (s.bump PIL_CNT_DISCARD.COUNT, false) := by
  unfold State.screen
  rw [if_pos (by simp [h])]

theorem collBeginEff_turned {n : Notice} {s u : State} (h : (s.acceptNotice { n with kind := 5 }).screen { n with kind := 5 } = (u, false)) :
    collBeginEff n s = u := by
  have body : @collBeginEff = @collBeginEff := rfl
  conv at body => rhs; delta collBeginEff
  rw [body]
  beta_reduce
  extract_lets +onlyGivenNames m
  have screened : (s.acceptNotice m).screen m = (u, false) := h
  rw [screened]
  rfl

theorem collEndEff_turned {n : Notice} {s u : State} (h : (s.acceptNotice { n with kind := 6 }).screen { n with kind := 6 } = (u, false)) :
    collEndEff n s = u := by
  have body : @collEndEff = @collEndEff := rfl
  conv at body => rhs; delta collEndEff
  rw [body]
  beta_reduce
  extract_lets +onlyGivenNames m
  have screened : (s.acceptNotice m).screen m = (u, false) := h
  rw [screened]
  rfl

theorem holdAckEff_turned {n : Notice} {s u : State} (h : (s.acceptNotice { n with kind := 7 }).screen { n with kind := 7 } = (u, false)) :
    holdAckEff n s = u := by
  have body : @holdAckEff = @holdAckEff := rfl
  conv at body => rhs; delta holdAckEff
  rw [body]
  beta_reduce
  extract_lets +onlyGivenNames m
  have screened : (s.acceptNotice m).screen m = (u, false) := h
  rw [screened]
  rfl

theorem pilotNoticeEff_turned {n : Notice} {s u : State} (collBegin : n.kind ≠ 5) (collEnd : n.kind ≠ 6) (hold : n.kind ≠ 7)
    (h : (s.acceptNotice n).screen n = (u, false)) : pilotNoticeEff n s = u := by
  unfold pilotNoticeEff
  rw [if_neg collBegin, if_neg collEnd, if_neg hold, h]
  rfl

/-- A notice of whatever kind that is turned away leaves what its screening left. -/
theorem pilotNoticeEff_of_turned (n : Notice) (s : State) :
    ∃ m, (s.Stands m ∧ (pilotNoticeEff n s).accepts = (s.acceptNotice m).accepts) ∨
      ¬ s.Stands m ∧ ∀ u, (s.acceptNotice m).screen m = (u, false) → pilotNoticeEff n s = u := by
  by_cases collBegin : n.kind = 5
  · refine ⟨{ n with kind := 5 }, ?_⟩
    have eff : pilotNoticeEff n s = collBeginEff n s := if_pos collBegin
    rw [eff]
    by_cases stands : s.Stands { n with kind := 5 }
    · exact .inl ⟨stands, by rw [collBeginEff_stands stands, State.accepts_announce]⟩
    · exact .inr ⟨stands, fun _ => collBeginEff_turned⟩
  by_cases collEnd : n.kind = 6
  · refine ⟨{ n with kind := 6 }, ?_⟩
    have eff : pilotNoticeEff n s = collEndEff n s := (if_neg collBegin).trans (if_pos collEnd)
    rw [eff]
    by_cases stands : s.Stands { n with kind := 6 }
    · exact .inl ⟨stands, by rw [collEndEff_stands stands, State.accepts_endColl]⟩
    · exact .inr ⟨stands, fun _ => collEndEff_turned⟩
  by_cases hold : n.kind = 7
  · refine ⟨{ n with kind := 7 }, ?_⟩
    have eff : pilotNoticeEff n s = holdAckEff n s := (if_neg collBegin).trans ((if_neg collEnd).trans (if_pos hold))
    rw [eff]
    by_cases stands : s.Stands { n with kind := 7 }
    · exact .inl ⟨stands, by rw [holdAckEff_stands stands, State.accepts_ackHold]⟩
    · exact .inr ⟨stands, fun _ => holdAckEff_turned⟩
  refine ⟨n, ?_⟩
  by_cases stands : s.Stands n
  · have kind : n.kind.toNat ≤ 4 := by
      have good := stands.good
      simp only [noticeBad, Bool.or_eq_false_iff, decide_eq_false_iff_not] at good
      obtain ⟨⟨-, few⟩, -⟩ := good
      have apart {k : BitVec 4} (h : n.kind ≠ k) : n.kind.toNat ≠ k.toNat := fun e => h (BitVec.eq_of_toNat_eq e)
      have five : n.kind.toNat ≠ 5 := apart collBegin
      have six : n.kind.toNat ≠ 6 := apart collEnd
      have seven : n.kind.toNat ≠ 7 := apart hold
      omega
    exact .inl ⟨stands, by rw [pilotNoticeEff_kept stands kind, State.accepts_enterNotice]⟩
  · exact .inr ⟨stands, fun _ => pilotNoticeEff_turned collBegin collEnd hold⟩

theorem State.stands_of_accepted {s : State} {n : Notice} (h : (s.acceptNotice n).Stands n) : s.Stands n where
  on := (s.dreOn_acceptNotice n).symm.trans h.on
  good := h.good
  open_ := h.open_.imp_right fun z => (s.get_acceptNotice n (yardFenced_notMem_noticeRegs _)).symm.trans z

/-- PIL_CNT_ACCEPT reads, after any notice, what accepting it left. -/
theorem accepts_pilotNoticeEff (n : Notice) (s : State) : ∃ m, (pilotNoticeEff n s).accepts = (s.acceptNotice m).accepts := by
  obtain ⟨m, ⟨-, kept⟩ | ⟨falls, turned⟩⟩ := pilotNoticeEff_of_turned n s
  · exact ⟨m, kept⟩
  · obtain ⟨u, screened, same⟩ := State.screen_turned fun h => falls (State.stands_of_accepted h)
    exact ⟨m, (congrArg State.accepts (turned u screened)).trans same⟩

/-- While the DRE does not run a notice is counted twice and kept as the last. -/
theorem pilotNoticeEff_stopped (n : Notice) {s : State} (h : s.dreOn = false) :
    ∃ m, pilotNoticeEff n s = (s.acceptNotice m).bump PIL_CNT_DISCARD.COUNT := by
  obtain ⟨m, ⟨stands, -⟩ | ⟨-, turned⟩⟩ := pilotNoticeEff_of_turned n s
  · exact absurd (stands.on.symm.trans h) (by decide)
  · exact ⟨m, turned _ (State.screen_stopped m ((s.dreOn_acceptNotice m).trans h))⟩

theorem State.get_of_accepts {s t : State} (h : t.accepts = s.accepts) : t.get PIL_CNT_ACCEPT.COUNT = s.get PIL_CNT_ACCEPT.COUNT :=
  congrArg (Word.field · 0 32) h

theorem State.dreOn_false {s : State} (h : s.inWayOn = false ∨ s.get DRE_CTRL.RUN = 0) : s.dreOn = false := by
  rcases h with slow | stopped
  · simp [State.dreOn, slow]
  · simp [State.dreOn, State.on, stopped]

theorem activityRecordEff_stopped (y : Nat) (beats : List (BitVec 2 × BitVec 128)) {s : State} (h : s.dreOn = false) :
    activityRecordEff y beats s = s := if_pos (.inr (by simp [h]))

/-- Settles O49: whatever a notice does once it is screened writes PIL_CNT_ACCEPT no more; where the DRE does not run the screening
itself turns it away. -/
theorem pilotPortTakesEveryNotice : Obligations.PilotPortTakesEveryNotice := by
  unfold Obligations.PilotPortTakesEveryNotice
  refine ⟨fun n s => ?_, fun n s stopped => ?_, fun y beats s stopped => ?_⟩
  · obtain ⟨m, kept⟩ := accepts_pilotNoticeEff n s
    refine ⟨_, exec_pilotNotice n s, ?_⟩
    rw [State.get_answered _ _ _ (by decide) (by decide), State.get_of_accepts kept]
    exact (s.noticed_acceptNotice m).accept
  · obtain ⟨m, eff⟩ := pilotNoticeEff_stopped n (State.dreOn_false stopped)
    have words (a : Nat) (h : a ∉ [PIL_CNT_DISCARD.COUNT.addr]) :
        ((s.acceptNotice m).bump PIL_CNT_DISCARD.COUNT).word a = (s.acceptNotice m).word a :=
      State.word_put _ _ _ _ fun e => h (List.mem_singleton.mpr e)
    have tables : s.SameTables ((s.acceptNotice m).bump PIL_CNT_DISCARD.COUNT) := (s.sameTables_acceptNotice m).trans (State.sameTables_setWord _ _ _)
    obtain ⟨accept, -, regs⟩ := (State.noticed_of_words words (by decide)).answered
    refine ⟨_, exec_pilotNotice n s, ?_⟩
    rw [eff]
    refine ⟨accept, ?_, regs, State.tables_answered tables⟩
    rw [State.get_answered _ _ _ (by decide) (by decide), State.get_bump_same _ _ (by decide), s.get_acceptNotice m (by decide)]
    rfl
  · refine ⟨_, exec_activityRecord y beats s, ?_⟩
    rw [activityRecordEff_stopped y beats (State.dreOn_false stopped)]
    exact State.frame_answered (fun _ _ => rfl) (.refl s)

end Sys2Proof.Machine
end

section
/-!
SUPPORT. Resets (R48, R49, R364, R365): what a start leaves of the service state, the clock's source and the trip latch, what a
control-plane reset stops, and how the command windows are restored from the journal. Obligation ResetsDoWhatTheyStopAndKeep.
-/

namespace Sys2Proof.Machine

/-! ### The words that a start does not write -/

/-- The words of GLB_SERVICE, CLK_STATUS, THM_STATUS and THM_TRIP_SRC. -/
def State.startWords (s : State) : Word × Word × Word × Word := (s.word 0x40, s.word 0x1040, s.word 0xb040, s.word 0xb044)

theorem State.startWords_of_regs {s t : State} (h : t.regs = s.regs) : t.startWords = s.startWords := by
  simp only [State.startWords, State.word, h]

theorem State.startWords_ite {c : Prop} [Decidable c] (s t : State) :
    (if c then s else t).startWords = if c then s.startWords else t.startWords := by
  split <;> rfl

theorem State.startWords_foldl {α : Type} {f : State → α → State} (h : ∀ s x, (f s x).startWords = s.startWords) (l : List α) (s : State) :
    (l.foldl f s).startWords = s.startWords := State.foldl_keeps State.startWords f l (fun x _ t => h t x) s

theorem State.startWords_setWord (s : State) (a : Nat) (w : Word) (h : a ≠ 0x40 ∧ a ≠ 0x1040 ∧ a ≠ 0xb040 ∧ a ≠ 0xb044) :
    (s.setWord a w).startWords = s.startWords := by
  obtain ⟨service, clock, trip, source⟩ := h
  simp only [State.startWords, State.word_setWord, if_neg (Ne.symm service), if_neg (Ne.symm clock), if_neg (Ne.symm trip),
    if_neg (Ne.symm source)]

section
variable (s : State) (f : Fld) (h : f.addr ≠ 0x40 ∧ f.addr ≠ 0x1040 ∧ f.addr ≠ 0xb040 ∧ f.addr ≠ 0xb044)
include h

theorem State.startWords_put (v : Nat) : (s.put f v).startWords = s.startWords := s.startWords_setWord _ _ h
theorem State.startWords_bump : (s.bump f).startWords = s.startWords := s.startWords_setWord _ _ h

end

theorem State.startWords_evt (s : State) (pg k : Nat)
    (h : pg + 0x14 ≠ 0x40 ∧ pg + 0x14 ≠ 0x1040 ∧ pg + 0x14 ≠ 0xb040 ∧ pg + 0x14 ≠ 0xb044) : (s.evt pg k).startWords = s.startWords :=
  s.startWords_setWord _ _ h

theorem State.Within.startWords {s t : State} {l : List Nat} (h : s.Within t l) (glb : 0 ∉ l) (clk : 1 ∉ l) (thm : 0xB ∉ l) :
    t.startWords = s.startWords := by
  simp only [State.startWords, h 0x40 glb, h 0x1040 clk, h 0xb040 thm, h 0xb044 thm]

theorem State.startWords_setYard (s : State) (y : Nat) (v : Yard) : (s.setYard y v).startWords = s.startWords := rfl
theorem State.startWords_setBay (s : State) (b : Nat) (v : Bay) : (s.setBay b v).startWords = s.startWords := rfl
theorem State.startWords_setDom (s : State) (d : Nat) (v : Dom) : (s.setDom d v).startWords = s.startWords := rfl
theorem State.startWords_send (s : State) (g : Nat) (w : Word) : (s.send g w).startWords = s.startWords := rfl
theorem State.startWords_dropErrors (s : State) (l : List Nat) : (s.dropErrors l).startWords = s.startWords := rfl

theorem State.startWords_logEvent (s : State) (c : Nat) (p : List Nat) : (s.logEvent c p).startWords = s.startWords :=
  (s.within_logEvent c p).startWords (by decide) (by decide) (by decide)

theorem State.startWords_assertSource (s : State) (c : Nat) : (s.assertSource c).startWords = s.startWords :=
  (s.within_assertSource c).startWords (by decide) (by decide) (by decide)

theorem State.startWords_refreshAssert (s : State) : s.refreshAssert.startWords = s.startWords :=
  s.within_refreshAssert.startWords (by decide) (by decide) (by decide)

theorem State.startWords_refreshPair (s : State) : s.refreshPair.startWords = s.startWords :=
  s.within_refreshPair.startWords (by decide) (by decide) (by decide)

theorem State.startWords_raiseWith (s : State) (c : Nat) (p : List Nat) (a : FaultAccess) (i : Bool) (h : c < 0x80) :
    (s.raiseWith c p a i).startWords = s.startWords := (s.within_raiseWith c p a i h).startWords (by decide) (by decide) (by decide)

theorem State.startWords_raise (s : State) (c : Nat) (p : List Nat) (h : c < 0x80) : (s.raise c p).startWords = s.startWords :=
  s.startWords_raiseWith c p _ _ h

/-! ### The parts of a start -/

theorem State.regs_program (s : State) (a : Nat) (bytes : List Byte) : (s.program a bytes).regs = s.regs := by
  unfold State.program
  exact State.foldl_keeps State.regs (fun t (p : Byte × Nat) => t.setFlash (a + p.2) (t.flashAt (a + p.2) &&& p.1)) bytes.zipIdx (fun _ _ _ => rfl) s

/-- The room for the next time-keeping record (R391). -/
def State.saveRoom (s : State) : State :=
  if s.tkSlot < 8192 then s else { s.eraseFlash (tkAt (1 - s.tkSector) 0) 0x10000 with tkSector := 1 - s.tkSector, tkSlot := 0 }

/-- The next slot is the one to write. -/
def State.nextSlot (s : State) : State := { s with tkSlot := s.tkSlot + 1 }

theorem State.saveTime_eq (s : State) :
    s.saveTime = (s.saveRoom.program (tkAt s.saveRoom.tkSector s.saveRoom.tkSlot)
      (le 4 s.saveRoom.opSecs ++ le 3 (s.saveRoom.get LOG_CYCLE.COUNT) ++ [0x5A])).nextSlot := rfl

theorem State.regs_nextSlot (s : State) : s.nextSlot.regs = s.regs := rfl

theorem State.regs_saveRoom (s : State) : s.saveRoom.regs = s.regs := by
  unfold State.saveRoom
  split
  · rfl
  · rfl

theorem State.regs_saveTime (s : State) : s.saveTime.regs = s.regs := by
  rw [State.saveTime_eq, State.regs_nextSlot, State.regs_program, State.regs_saveRoom]

theorem State.startWords_saveTime (s : State) : s.saveTime.startWords = s.startWords := State.startWords_of_regs s.regs_saveTime

theorem State.startWords_loadTimeKeeping (s : State) :
    s.loadTimeKeeping.startWords = s.startWords := by
  have cycle (t : State) (v : Nat) : (t.put LOG_CYCLE.COUNT v).saveTime.startWords = t.startWords :=
    (State.startWords_saveTime _).trans (t.startWords_put _ (by decide) v)
  unfold State.loadTimeKeeping
  dsimp only
  split
  · exact (cycle _ _).trans (State.startWords_of_regs rfl)
  · exact (cycle _ _).trans (State.startWords_of_regs rfl)

theorem State.startWords_reraiseTrip (s : State) :
    s.reraiseTrip.startWords = s.startWords := by
  unfold State.reraiseTrip
  split
  · exact (State.startWords_raise _ _ _ (by decide)).trans (s.startWords_assertSource _)
  · rfl

theorem State.startWords_emptySlot (s : State) (k : Nat) :
    (s.emptySlot k).startWords = s.startWords := by
  simp (disch := (dsimp only [DRE_SLOT_STAT.VALID, DRE_STATUS.VALID_SLOTS, pgDRE]; omega)) only [State.emptySlot, State.startWords_put,
    State.startWords_evt]

theorem State.startWords_swapSpare (s : State) :
    s.swapSpare.startWords = s.startWords := by
  unfold State.swapSpare
  split <;> simp (disch := (dsimp only [DRE_SLOT_STAT.FRAME, DRE_STATUS.SPARE]; omega)) only [State.startWords_ite, ite_self,
    State.startWords_put]

theorem State.startWords_retireFrames (s : State) :
    s.retireFrames.startWords = s.startWords := by
  simp only [State.retireFrames, State.startWords_ite, ite_self, State.startWords_foldl, implies_true, eq_self,
    State.startWords_emptySlot, State.startWords_swapSpare]

theorem State.startWords_retireStorePage (s : State) (p : Nat) :
    (s.retireStorePage p).startWords = s.startWords := by
  simp (disch := (dsimp only [Fld.bit, FLT_MS_RETIRE.PAGE]; omega)) only [State.retireStorePage, State.startWords_put,
    State.startWords_retireFrames]

theorem State.startWords_memTestFail (s : State) (f : MemFail) :
    (s.memTestFail f).startWords = s.startWords := by
  have retired (t : State) (k : Nat) :
      (t.put (Fld.bit (fun j => if j = 0 then SXT_CAPRAM_RETIRE_LO.PAGE else SXT_CAPRAM_RETIRE_HI.PAGE) k) 1).startWords = t.startWords := by
    by_cases low : k / 32 = 0
    · refine t.startWords_put _ ?_ 1
      simp only [Fld.bit, low, if_true]
      decide
    · refine t.startWords_put _ ?_ 1
      simp only [Fld.bit, low, if_false]
      decide
  unfold State.memTestFail
  dsimp only
  split
  · exact (State.startWords_raiseWith _ _ _ _ _ (by decide)).trans (retired _ _)
  · split
    · exact (State.startWords_raiseWith _ _ _ _ _ (by decide)).trans (s.startWords_retireStorePage _)
    · exact (State.startWords_raiseWith _ _ _ _ _ (by decide)).trans (s.startWords_assertSource _)

theorem State.startWords_memTest (s : State) (l : List Nat) :
    (s.memTest l).startWords = s.startWords := by
  simp only [State.memTest, State.startWords_foldl, implies_true, eq_self, State.startWords_memTestFail]

theorem State.startWords_memInit (s : State) (por : Bool) :
    (s.memInit por).startWords = s.startWords := by
  unfold State.memInit
  exact (State.startWords_memTest _ _).trans ((State.startWords_dropErrors _ _).trans (State.startWords_of_regs rfl))

theorem State.startWords_readSfdp (s : State) :
    s.readSfdp.startWords = s.startWords := by
  have named (t : State) (v : Nat) : (t.put FLS_JEDEC.ID v).startWords = t.startWords := t.startWords_put _ (by decide) v
  unfold State.readSfdp
  dsimp only
  split
  · exact (State.startWords_put _ _ (by decide) _).trans (named s _)
  · exact (State.startWords_raise _ _ _ (by decide)).trans (named s _)

theorem State.startWords_loadBoard (s : State) (por : Bool) :
    (s.loadBoard por).startWords = s.startWords := by
  unfold State.loadBoard
  dsimp only
  split
  next why _ =>
    have told : ({ s with noRecord := true }.raise 0x2E [why]).startWords = s.startWords :=
      (State.startWords_raise _ _ _ (by decide)).trans (State.startWords_of_regs rfl)
    split
    · exact told
    · exact (State.startWords_assertSource _ _).trans told
  next =>
    simp (disch := (dsimp only [PMB_CFG.BUSCONV, PMB_CFG.SPEED, STG_OVL.TH, STG_RAILMAP.PKGB, STG_SEQ_OFF.RAMP, STG_SEQ_ON.RAMP,
      STG_TRACK.MODE, STG_VOUT.CODE]; omega)) only [State.startWords_ite, ite_self, State.startWords_put, State.startWords_setWord]

theorem State.startWords_loadSxt (s : State) (n : Nat) :
    (s.loadSxt n).startWords = s.startWords := by
  unfold State.loadSxt
  split
  · exact State.startWords_raise _ _ _ (by decide)
  · refine (State.startWords_foldl (fun t j => ?_) _ _).trans ((State.startWords_foldl (fun t ch => ?_) _ _).trans ?_)
    · simp (disch := (dsimp only [SXT_COMP.C_EVEN, SXT_COMP.C_ODD]; omega)) only [State.startWords_put]
    · simp (disch := (dsimp only [SXT_CH_CAL.A, SXT_CH_CAL.B]; omega)) only [State.startWords_ite, ite_self, State.startWords_put]
    · simp (disch := (dsimp only [SXT_COMP_CFG.TCAL]; omega)) only [State.startWords_put]

/-- The registers that a yard's part of the farrier record fills, but for its zone points. -/
def State.loadFarWords (s : State) (l : List Byte) (y : Nat) : State :=
  (((((s.put (FAR_YSTAT.FLOOR y) (recField l (64 + 16 * y) 1)).put (FAR_YSTAT.FMAX y) (recField l (64 + 16 * y + 1) 1)).put
    (FAR_YSTAT.DERATE y) (recField l (64 + 16 * y + 2) 1)).put (YRD_OFFSETS.FLOOR_OFS y) (recField l (64 + 16 * y) 1)).put
    (FAR_YSTAT.BOND y) (recField l (64 + 16 * y + 3) 1 / 2 % 2)).put (Fld.bit FAR_BOND.YARD y) (recField l (64 + 16 * y + 3) 1 / 2 % 2)

/-- What else the farrier keeps of a yard. -/
def State.loadFarStart (s : State) (l : List Byte) (y : Nat) : State :=
  s.setYard y { s.yard y with
    f0 := recField l (64 + 16 * y + 4) 2, rpl := if recField l (64 + 16 * y + 6) 1 = 255 then none else some (recField l (64 + 16 * y + 6) 1) }

/-- The zone points of a yard's part of the farrier record. -/
def State.loadFarPoints (s : State) (l : List Byte) (y : Nat) : State :=
  (List.range 4).foldl (fun s p => s.put (FAR_ZP.ZREF y p) (recField l (64 + 16 * y + 8 + 2 * p) 2)) s

theorem State.loadFarYard_eq (l : List Byte) (s : State) (y : Nat) :
    State.loadFarYard l s y = ((s.loadFarWords l y).loadFarStart l y).loadFarPoints l y := rfl

theorem State.startWords_loadFarWords (s : State) (l : List Byte) (y : Nat) : (s.loadFarWords l y).startWords = s.startWords := by
  simp (disch := (dsimp only [FAR_YSTAT.BOND, FAR_YSTAT.DERATE, FAR_YSTAT.FLOOR, FAR_YSTAT.FMAX, Fld.bit, FAR_BOND.YARD,
    YRD_OFFSETS.FLOOR_OFS]; omega)) only [State.loadFarWords, State.startWords_put]

theorem State.startWords_loadFarStart (s : State) (l : List Byte) (y : Nat) : (s.loadFarStart l y).startWords = s.startWords :=
  s.startWords_setYard _ _

theorem State.startWords_loadFarPoints (s : State) (l : List Byte) (y : Nat) : (s.loadFarPoints l y).startWords = s.startWords := by
  refine State.startWords_foldl (fun t p => ?_) _ _
  simp (disch := (dsimp only [FAR_ZP.ZREF]; omega)) only [State.startWords_put]

theorem State.startWords_loadFarYard (l : List Byte) (s : State) (y : Nat) :
    (State.loadFarYard l s y).startWords = s.startWords := by
  rw [State.loadFarYard_eq, State.startWords_loadFarPoints, State.startWords_loadFarStart, State.startWords_loadFarWords]

theorem State.startWords_modBay (s : State) (b : Nat) (f : Bay → Bay) :
    (s.modBay b f).startWords = s.startWords := by
  simp only [State.modBay, State.startWords_setBay]

theorem State.startWords_sendBay (s : State) (b : Nat) (mk : Nat → Word) :
    (s.sendBay b mk).startWords = s.startWords := by
  simp only [State.sendBay, State.startWords_send]

theorem State.startWords_assignRemount (s : State) (y b : Nat) (tag : Option CmdTag) :
    (s.assignRemount y b tag).startWords = s.startWords := by
  simp only [State.assignRemount, State.startWords_ite, ite_self, State.startWords_modBay, State.startWords_sendBay]

theorem State.startWords_remakeSubst (s : State) (b : Nat) :
    (s.remakeSubst b).startWords = s.startWords := by
  unfold State.remakeSubst
  split
  · rfl
  · split
    · rfl
    · split
      · rfl
      · exact (State.startWords_of_regs rfl).trans (State.startWords_assignRemount _ _ _ _)

theorem State.startWords_loadFarBay (l : List Byte) (s : State) (b : Nat) :
    (State.loadFarBay l s b).startWords = s.startWords := by
  simp only [State.loadFarBay, State.startWords_modBay]

theorem State.startWords_loadFarrier (s : State) :
    s.loadFarrier.startWords = s.startWords := by
  unfold State.loadFarrier
  dsimp only
  split
  · exact State.startWords_of_regs rfl
  · refine (State.startWords_foldl State.startWords_remakeSubst _ _).trans ?_
    refine (State.startWords_foldl (fun t b => State.startWords_loadFarBay _ t b) _ _).trans ?_
    exact (State.startWords_foldl (fun t y => State.startWords_loadFarYard _ t y) _ _).trans (State.startWords_of_regs rfl)

theorem State.startWords_discover (s : State) (p : Nat) :
    (s.discover p).startWords = s.startWords := by
  have told {b : Prop} (h : Decidable b) (t : State) (l : List Nat) (kept : t.startWords = s.startWords) :
      (@ite _ b h ((t.evt pgSTG 8).raise 0x2D l) t).startWords = s.startWords := by
    split
    · exact (State.startWords_raise _ _ _ (by decide)).trans ((t.startWords_evt _ _ (by decide)).trans kept)
    · exact kept
  unfold State.discover
  refine told _ _ _ ?_
  split
  · exact s.startWords_put _ (by decide) _
  · rfl

theorem State.startWords_refreshService (s : State) (p : Nat) :
    (s.refreshService p).startWords = s.startWords := by
  simp (disch := (dsimp only [STG_PH.IN_SERVICE, STG_PH_TRIM.BAL]; omega)) only [State.refreshService, State.startWords_ite, ite_self,
    State.startWords_put]

theorem State.startWords_discoverAll (s : State) :
    s.discoverAll.startWords = s.startWords := by
  unfold State.discoverAll
  refine (State.startWords_foldl (fun t r => ?_) _ _).trans ?_
  · split
    · exact (State.startWords_raise _ _ _ (by decide)).trans ((State.startWords_assertSource _ _).trans (t.startWords_evt _ _ (by decide)))
    · rfl
  · exact (State.startWords_foldl State.startWords_refreshService _ _).trans (State.startWords_foldl State.startWords_discover _ _)

theorem State.startWords_startUp (s : State) (por : Bool) :
    (s.startUp por).startWords = s.startWords := by
  simp only [State.startUp, State.startWords_ite, ite_self, State.startWords_foldl, implies_true, eq_self,
    State.startWords_loadTimeKeeping, State.startWords_reraiseTrip, State.startWords_memInit, State.startWords_readSfdp,
    State.startWords_logEvent, State.startWords_loadBoard, State.startWords_loadSxt, State.startWords_loadFarrier,
    State.startWords_discoverAll]
  exact State.startWords_of_regs rfl

theorem State.startWords_capInForce (s : State) (t : Nat) :
    (s.capInForce t).startWords = s.startWords := by
  exact (State.startWords_put _ _ (by decide) _).trans (State.startWords_of_regs rfl)

theorem State.startWords_countDefer (s : State) :
    s.countDefer.startWords = s.startWords := by
  simp (disch := (dsimp only [CAP_CNT_DEFER.COUNT, pgCAP]; omega)) only [State.countDefer, State.startWords_bump, State.startWords_evt]

theorem State.startWords_refreshDeferred (s : State) :
    s.refreshDeferred.startWords = s.startWords := by
  simp (disch := (dsimp only [CAP_STATUS.DEFERRED]; omega)) only [State.refreshDeferred, State.startWords_put]

theorem State.startWords_capChanged (s : State) :
    s.capChanged.startWords = s.startWords := by
  have pending (t : State) (v : Nat) : (t.put CAP_DEV_NOW.PENDING v).startWords = t.startWords := t.startWords_put _ (by decide) v
  unfold State.capChanged
  dsimp only
  rw [State.startWords_refreshDeferred]
  split
  · exact (pending _ _).trans ((State.startWords_capInForce _ _).trans (State.startWords_of_regs rfl))
  · split
    · exact (pending _ _).trans (State.startWords_of_regs rfl)
    · split
      · exact (State.startWords_countDefer _).trans ((pending _ _).trans (State.startWords_of_regs rfl))
      · exact s.startWords_capInForce _

/-- A field of one of those words reads what it did. -/
theorem State.get_of_startWords {s t : State} (h : t.startWords = s.startWords) {f : Fld}
    (hf : f.addr = 0x40 ∨ f.addr = 0x1040 ∨ f.addr = 0xb040 ∨ f.addr = 0xb044) : t.get f = s.get f := by
  simp only [State.startWords, Prod.mk.injEq] at h
  obtain ⟨service, clock, trip, source⟩ := h
  rcases hf with e | e | e | e
  · rw [State.get, State.get, e, service]
  · rw [State.get, State.get, e, clock]
  · rw [State.get, State.get, e, trip]
  · rw [State.get, State.get, e, source]

/-! ### Power-on reset (R48, R365) -/

theorem exec_powerOnReset (src : PorSource) (lowNs : Nat) (i : StartInputs) (s : State) :
    exec (.powerOnReset src lowNs i) s = .next (s.answered (powerOnResetEff src lowNs i s)) := rfl

/-- The reset state, with what a power-on reset keeps. -/
def State.unpowered (s : State) (i : StartInputs) : State :=
  { State.reset with
    pending := s.pending, flash := s.flash, mono := s.mono, tbValid := s.tbValid, soAck := s.soAck, soReq := s.soAck
    free := s.free, startIn := i, fltAt := s.fltAt, alertAt := s.alertAt }

/-- The levels on the inputs of a domain. -/
def Dom.pins (m : Dom) : Dom := { isoAck := m.isoAck, oscRdy := m.oscRdy, memRdy := m.memRdy, logicRdy := m.logicRdy, wakePin := m.wakePin }

/-- The levels on the domains' inputs stand. -/
def State.withPins (r s : State) : State := (List.range Config.yardCount).foldl (fun r d => r.setDom d (s.dom d).pins) r

/-- The trip latch as a power-on reset leaves it. -/
def State.tripKept (r s : State) (aon : Bool) : State :=
  if aon ∨ !s.on THM_STATUS.TRIP then r else (r.put THM_STATUS.TRIP 1).put THM_TRIP_SRC.reg (s.get THM_TRIP_SRC.reg)

theorem State.powerOn_eq (s : State) (i : StartInputs) (aon : Bool) :
    s.powerOn i aon = (((s.unpowered i).withPins s).tripKept s aon).startUp true := rfl

theorem State.regs_unpowered (s : State) (i : StartInputs) : (s.unpowered i).regs = State.reset.regs := rfl

theorem State.regs_withPins (r s : State) : (r.withPins s).regs = r.regs := by
  unfold State.withPins
  exact State.foldl_keeps State.regs (fun r d => r.setDom d (s.dom d).pins) (List.range Config.yardCount) (fun _ _ _ => rfl) r

theorem State.get_reset_start : State.reset.get GLB_SERVICE.STATE = 0 ∧ State.reset.get CLK_STATUS.SOURCE = 0 ∧
    State.reset.get THM_STATUS.TRIP = 0 := by decide

/-- The trip latch reads what it did but after VDD_AON; STATE and SOURCE are as the state before had them. -/
theorem State.get_tripKept {r : State} (s : State) (aon : Bool) (clear : r.get THM_STATUS.TRIP = 0) :
    (r.tripKept s aon).get GLB_SERVICE.STATE = r.get GLB_SERVICE.STATE ∧ (r.tripKept s aon).get CLK_STATUS.SOURCE = r.get CLK_STATUS.SOURCE ∧
      (r.tripKept s aon).get THM_STATUS.TRIP = (if aon then 0 else s.get THM_STATUS.TRIP) ∧
      (aon = false → s.get THM_STATUS.TRIP = 1 → (r.tripKept s aon).get THM_TRIP_SRC.reg = s.get THM_TRIP_SRC.reg) := by
  have bit : s.get THM_STATUS.TRIP < 2 := Nat.mod_lt _ (by decide)
  unfold State.tripKept
  by_cases kept : aon = false ∧ s.get THM_STATUS.TRIP = 1
  · obtain ⟨off, one⟩ := kept
    rw [if_neg (by simp [off, State.on, one])]
    refine ⟨?_, ?_, ?_, fun _ _ => ?_⟩
    · rw [State.get_put_addr _ _ _ _ (by decide), State.get_put_addr _ _ _ _ (by decide)]
    · rw [State.get_put_addr _ _ _ _ (by decide), State.get_put_addr _ _ _ _ (by decide)]
    · rw [State.get_put_addr _ _ _ _ (by decide), State.get_put_same _ _ _ (by decide), off, one]
      rfl
    · rw [State.get_put_same _ _ _ (by decide)]
      exact Nat.mod_eq_of_lt (Nat.mod_lt _ (by decide))
  · have none_ : aon = true ∨ (!s.on THM_STATUS.TRIP) = true := by
      cases aon
      · have zero : s.get THM_STATUS.TRIP = 0 := by
          have : s.get THM_STATUS.TRIP ≠ 1 := fun one => kept ⟨rfl, one⟩
          omega
        exact .inr (by simp [State.on, zero])
      · exact .inl rfl
    rw [if_pos none_]
    refine ⟨rfl, rfl, ?_, fun off one => absurd ⟨off, one⟩ kept⟩
    cases aon
    · have : s.get THM_STATUS.TRIP ≠ 1 := fun one => kept ⟨rfl, one⟩
      rw [clear]
      simp only [Bool.false_eq_true, if_false]
      omega
    · exact clear

/-- What a power-on reset leaves of the service state, the clock's source and the trip latch. -/
theorem State.get_powerOn (s : State) (i : StartInputs) (aon : Bool) :
    (s.powerOn i aon).get GLB_SERVICE.STATE = 0 ∧ (s.powerOn i aon).get CLK_STATUS.SOURCE = 0 ∧
      (s.powerOn i aon).get THM_STATUS.TRIP = (if aon then 0 else s.get THM_STATUS.TRIP) ∧
      (aon = false → s.get THM_STATUS.TRIP = 1 → (s.powerOn i aon).get THM_TRIP_SRC.reg = s.get THM_TRIP_SRC.reg) := by
  have regs : ((s.unpowered i).withPins s).regs = State.reset.regs := (State.regs_withPins _ _).trans (s.regs_unpowered i)
  obtain ⟨state, source, trip⟩ := State.get_reset_start
  rw [← State.get_congr regs] at state source trip
  rw [State.powerOn_eq]
  generalize (s.unpowered i).withPins s = r at state source trip
  obtain ⟨state', source', trip', src'⟩ := State.get_tripKept s aon trip
  have started := (r.tripKept s aon).startWords_startUp true
  rw [State.get_of_startWords started (.inl rfl), State.get_of_startWords started (.inr (.inl rfl)),
    State.get_of_startWords started (.inr (.inr (.inl rfl))), State.get_of_startWords started (.inr (.inr (.inr rfl)))]
  exact ⟨state'.trans state, source'.trans source, trip', src'⟩

theorem powerOnResetEff_taken {src : PorSource} {lowNs : Nat} (i : StartInputs) (s : State) (h : src ≠ .porstN ∨ 2000 ≤ lowNs) :
    powerOnResetEff src lowNs i s = s.powerOn i (decide (src = .vddAon)) := by
  cases src
  case porstN =>
    have long : 2000 ≤ lowNs := h.resolve_left fun apart => apart rfl
    unfold powerOnResetEff
    dsimp only
    rw [if_neg (by omega), if_pos long]
    rfl
  all_goals rfl

theorem powerOnResetEff_short {lowNs : Nat} (i : StartInputs) (s : State) (h : lowNs < 1000) : powerOnResetEff .porstN lowNs i s = s :=
  if_pos h

/-! ### The detector of the always-on domain (R49) -/

theorem exec_aonDetectorTrip (s : State) : exec .aonDetectorTrip s = .next (s.answered (aonTripEff s)) := rfl

/-- The latch and its source, cleared. -/
def State.tripCleared (s : State) : State := (s.put THM_STATUS.TRIP 0).put THM_TRIP_SRC.reg 0

theorem State.get_tripCleared (s : State) : s.tripCleared.get THM_STATUS.TRIP = 0 ∧ s.tripCleared.get THM_TRIP_SRC.reg = 0 := by
  unfold State.tripCleared
  constructor
  · rw [State.get_put_addr _ _ _ _ (by decide), State.get_put_same _ _ _ (by decide)]
    rfl
  · rw [State.get_put_same _ _ _ (by decide)]
    rfl

theorem State.word_tripCleared (s : State) {a : Nat} (h : a ∉ [THM_STATUS.reg.addr, THM_TRIP_SRC.reg.addr]) : s.tripCleared.word a = s.word a := by
  simp only [List.mem_cons, List.not_mem_nil, or_false, not_or] at h
  obtain ⟨trip, source⟩ := h
  exact (State.word_put _ _ _ _ source).trans (State.word_put _ _ _ _ trip)

theorem State.sameTables_tripCleared (s : State) : s.SameTables s.tripCleared := (State.sameTables_setWord _ _ _).trans (State.sameTables_setWord _ _ _)

/-- A source that no longer asserts. -/
def State.unasserted (s : State) (c : Nat) : State := { s with assertF := s.assertF.filter (· != c) }

theorem State.deassertSource_eq (s : State) (c : Nat) : s.deassertSource c = (s.unasserted c).refreshAssert := rfl

theorem State.assertF_refreshAssert (s : State) : s.refreshAssert.assertF = s.assertF := State.put_assertF _ _ _

theorem State.assertF_refreshPair (s : State) : s.refreshPair.assertF = s.assertF := by
  unfold State.refreshPair
  dsimp only
  split
  · rfl
  · rw [State.put_assertF, State.put_assertF]

theorem State.assertF_answered (s u : State) : (s.answered u).assertF = u.assertF :=
  u.refreshAssert.assertF_refreshPair.trans u.assertF_refreshAssert

theorem State.notMem_deassertSource (s : State) (c : Nat) : c ∉ (s.deassertSource c).assertF := by
  rw [State.deassertSource_eq, State.assertF_refreshAssert]
  exact fun h => absurd (List.mem_filter.mp h).2 (by simp)

/-- A source that ends shows in F_ASSERT alone. -/
theorem State.keepsRegs_refreshAssert (s : State) : s.KeepsRegs s.refreshAssert [] := by
  intro a _
  split
  next e =>
    subst e
    exact State.word_put_and_mask _ FLT_STATUS.F_ASSERT _ 0xFFFFFFCD (by decide) (by decide)
  next flt =>
    have same : s.refreshAssert.word a = s.word a := State.word_put _ _ _ _ flt
    rw [same]
    split
    · rfl
    · rfl

theorem State.KeepsRegs.trans {s t u : State} {l m : List Nat} (h : s.KeepsRegs t l) (k : t.KeepsRegs u m) : s.KeepsRegs u (l ++ m) := by
  intro a ha
  have first := h a fun x => ha (List.mem_append_left _ x)
  have second := k a fun x => ha (List.mem_append_right _ x)
  split
  next e =>
    rw [if_pos e] at first second
    rw [second, first]
  next flt =>
    rw [if_neg flt] at first second
    split
    next e =>
      rw [if_pos e] at first second
      rw [second, first]
    next prt =>
      rw [if_neg prt] at first second
      rw [second, first]

theorem State.tdm_deassertSource (s : State) (c : Nat) : (s.deassertSource c).tdm = s.tdm := (State.tdm_refreshAssert _).trans rfl

theorem aonTripEff_eq (s : State) : aonTripEff s = s.tripCleared.deassertSource 0x2C := rfl

theorem State.keepsRegs_deassertSource (s : State) (c : Nat) : s.KeepsRegs (s.deassertSource c) [] := by
  have silent : s.KeepsRegs (s.unasserted c) [] := .of_words fun _ _ => rfl
  rw [State.deassertSource_eq]
  exact silent.trans (State.keepsRegs_refreshAssert _)

/-- What a trip of the always-on detector leaves. -/
theorem State.kept_aonTrip (s : State) :
    (aonTripEff s).get THM_STATUS.TRIP = 0 ∧ (aonTripEff s).get THM_TRIP_SRC.reg = 0 ∧ 0x2C ∉ (aonTripEff s).assertF ∧
      s.KeepsRegs (aonTripEff s) [THM_STATUS.reg.addr, THM_TRIP_SRC.reg.addr] ∧ s.SameTables (aonTripEff s) := by
  obtain ⟨trip, source⟩ := s.get_tripCleared
  have cleared : s.KeepsRegs s.tripCleared [THM_STATUS.reg.addr, THM_TRIP_SRC.reg.addr] := .of_words fun _ => s.word_tripCleared
  have tables := s.sameTables_tripCleared
  rw [aonTripEff_eq]
  generalize s.tripCleared = u at trip source cleared tables
  have within := u.within_deassertSource 0x2C
  refine ⟨(within.get _ (by decide)).trans trip, (within.get _ (by decide)).trans source, u.notMem_deassertSource _,
    cleared.trans (u.keepsRegs_deassertSource _), ?_⟩
  exact tables.trans ((u.reports_deassertSource _).sameTables (u.tdm_deassertSource _))

/-! ### A write of GLB_RESET (R364) -/

theorem exec_glbResetControlPlane (q : Requester) (s : State) :
    exec (.glbResetControlPlane q) s = .next (s.answered (s.wordWrite q 0x44 0xB0070001)) := rfl
theorem exec_glbResetBlock (q : Requester) (i : StartInputs) (s : State) :
    exec (.glbResetBlock q i) s = .next (s.answered ({ s with startIn := i }.wordWrite q 0x44 0xB0070002)) := rfl

theorem plainReg_glbReset : PlainReg 0x44 := ⟨by decide, by decide, by decide, by decide, by decide⟩

theorem fieldsAt_glbReset : fieldsAt 0x44 = [⟨16, 16, .wo, 0⟩, ⟨0, 2, .wo, 0⟩] := by decide

/-- Nothing speaks against the key with a kind that the class may order. -/
theorem State.ruleOf_glbReset (s : State) (nv : Fld → Nat) (c : Cls) (lo v : Nat) (kind : nv GLB_RESET.KIND = 2 → c = .mgmt)
    (key : nv GLB_RESET.KEY = 0xB007) : s.ruleOf nv c 0x44 lo v = none := by
  have row : rowKey 0x44 = (0, 0x44) := by decide
  have range : inRange (0, 0x44) lo v = true := by simp [inRange, ranges]
  have slot : slotAt 0x44 = none := by decide
  have keys : ruleKeys nv c 0x44 = none := by
    unfold ruleKeys
    rw [if_pos (by decide), if_neg (fun h => h.2 (kind h.1)), if_neg (by simp [key])]
  unfold State.ruleOf
  simp only [row, range, slot, keys]
  rfl

theorem State.admits_glbReset {s : State} {q : Requester} {w : Word} (takes : s.Takes q 0x44) (kind : w.field 0 2 = 2 → clsOf q = .mgmt)
    (key : w.field 16 16 = 0xB007) (f : FSpec) (hf : f ∈ fieldsAt 0x44) : s.Admits q [(0x44, w)] 0x44 f where
  writable := (by decide : ∀ f ∈ fieldsAt 0x44, isRo 0x44 f = false) f hf
  shared := (by decide : ∀ f ∈ fieldsAt 0x44, f.acc ≠ .h2m) f hf
  may := by
    obtain ⟨-, -, -, may⟩ := takes
    have classes (c : Cls) : mayWriteAt c 0x44 = true → ∀ f ∈ fieldsAt 0x44, mayWriteField c 0x44 f = true := by cases c <;> decide
    exact classes _ may f hf
  open_ := (by decide : ∀ f ∈ fieldsAt 0x44, f.acc ≠ .rwx) f hf
  rule := by
    have offered (g : Fld) (h : g.addr = 0x44) : s.newVal [(0x44, w)] g = w.field g.lo g.w := by
      rw [State.newVal, h, State.newWord_one]
    exact State.ruleOf_glbReset _ _ _ _ _ (by rw [offered _ rfl]; exact kind) (by rw [offered _ rfl]; exact key)
  course := State.course_of_takes takes

theorem State.afterWord_glbReset (s s0 : State) (q : Requester) (w : Word) (got : Nat → Bool) :
    s.afterWord s0 q 0x44 w got =
      if !got 0 then s else if w.field 0 2 = 1 then s.cpResetGo else if w.field 0 2 = 2 then s.blockResetGo s.startIn else s := by
  have row : rowKey 0x44 = (0, 0x44) := by decide
  unfold State.afterWord State.afterPage
  simp only [row]
  rfl

/-- The register, written with what it holds. -/
def State.rewritten (s : State) : State := s.setWord 0x44 (s.word 0x44)

theorem State.word_rewritten (s : State) (a : Nat) : s.rewritten.word a = s.word a := by
  rw [State.rewritten, State.word_setWord]
  split
  next e => rw [e]
  · rfl

theorem State.get_rewritten (s : State) (f : Fld) : s.rewritten.get f = s.get f := by simp only [State.get, State.word_rewritten]

theorem State.reports_rewritten (s : State) : s.Reports s.rewritten := s.reports_setWord _ _

/-- A write of the register with its key starts the reset of its kind. -/
theorem State.wordWrite_glbReset {s : State} {q : Requester} {w : Word} (takes : s.Takes q 0x44) (kind : w.field 0 2 = 2 → clsOf q = .mgmt)
    (key : w.field 16 16 = 0xB007) :
    s.wordWrite q 0x44 w =
      if w.field 0 2 = 1 then s.rewritten.cpResetGo else if w.field 0 2 = 2 then s.rewritten.blockResetGo s.startIn else s.rewritten := by
  obtain ⟨running, shut, -, -⟩ := id takes
  have judged : ((fieldsAt 0x44).map fun f => (f, s.judge q [(0x44, w)] 0x44 f))
      = [(⟨16, 16, .wo, 0⟩, .act), (⟨0, 2, .wo, 0⟩, .act)] := by
    have first := State.admits_glbReset takes kind key ⟨16, 16, .wo, 0⟩ (by rw [fieldsAt_glbReset]; simp)
    have second := State.admits_glbReset takes kind key ⟨0, 2, .wo, 0⟩ (by rw [fieldsAt_glbReset]; simp)
    rw [fieldsAt_glbReset, List.map_cons, List.map_singleton, State.judge_act first (by decide), State.judge_act second (by decide)]
  rw [State.wordWrite_taken plainReg_glbReset running shut judged rfl (by rw [fieldsAt_glbReset]; rfl), State.afterWord_glbReset]
  have start : s.rewritten.startIn = s.startIn := State.setWord_startIn _ _ _
  rw [← start]
  rfl

/-! ### What every reset stops (R321, R365, R421) -/

/-- The unlocks in the headers of the pages are withdrawn. -/
def State.clearHeaders (s : State) : State := headerPages.foldl (fun s p => s.setWord (p * 0x1000 + 0xC) 0) s

theorem State.clearUnlocks_eq (s : State) :
    s.clearUnlocks = ((s.clearHeaders.put GLB_XREC_YRD.PAGE 0).put GLB_XREC_BAY.PAGE 0).put GLB_XREC_COEF.PAGE 0 := rfl

/-- Latches and held results of the ports are dropped. -/
def State.portsCleared (s : State) : State := { s with latches := [], mp := .none, dbg := 0, dbgHeld := none }

theorem State.anyReset_eq (s : State) : s.anyReset = s.clearUnlocks.stopStreams.portsCleared.put PRT_MP.IBI_PEND 0 := rfl

theorem State.reports_clearUnlocks (s : State) : s.Reports s.clearUnlocks := by
  rw [State.clearUnlocks_eq]
  have headers : s.Reports s.clearHeaders := State.Reports.foldl _ (fun t _ => t.reports_setWord _ _) _ _ (.refl s)
  exact ((headers.trans (State.reports_put _ _ _)).trans (State.reports_put _ _ _)).trans (State.reports_put _ _ _)

theorem State.reports_stopStreams (s : State) : s.Reports s.stopStreams :=
  State.Reports.foldl _ (fun t _ => (t.reports_setStream _ _).trans (State.reports_put _ _ _)) _ _ (.refl s)

theorem State.within_stopStreams (s : State) : s.Within s.stopStreams [0x10] := by
  unfold State.stopStreams
  exact State.Within.foldl _ (fun t k h => (h.regs (u := t.modStream k fun d => { d with stopping := false, polling := false }) rfl).put _ _ (by
    have : (tdmF k).addr / 0x1000 = 0x10 := by rw [show (tdmF k).addr = TDM_STATUS.STATE.addr from rfl]; decide
    rw [this]
    decide)) _ s (.refl s _)

theorem State.stays_portsCleared (s : State) : s.Stays s.portsCleared := by constructor <;> rfl

theorem State.stays_anyReset (s : State) : s.Stays s.anyReset := by
  rw [State.anyReset_eq]
  exact ((s.reports_clearUnlocks.stays.trans (State.reports_stopStreams _).stays).trans (State.stays_portsCleared _)).trans
    (State.reports_put _ _ _).stays

/-- The words that a reset's start clears. -/
def unlockWords : List Nat := headerPages.map (fun p => p * 0x1000 + 0xC) ++ [GLB_XREC_YRD.PAGE.addr, GLB_XREC_BAY.PAGE.addr, GLB_XREC_COEF.PAGE.addr]

theorem State.word_clearHeaders (s : State) {a : Nat} (h : a ∉ headerPages.map (fun p => p * 0x1000 + 0xC)) : s.clearHeaders.word a = s.word a :=
  State.foldl_keeps (fun t => t.word a) (fun t p => t.setWord (p * 0x1000 + 0xC) 0) headerPages
    (fun p hp _ => (State.word_setWord _ _ _ _).trans (if_neg fun e => h (List.mem_map.mpr ⟨p, hp, e.symm⟩))) s

theorem State.word_clearUnlocks (s : State) {a : Nat} (h : a ∉ unlockWords) : s.clearUnlocks.word a = s.word a := by
  simp only [unlockWords, List.mem_append, List.mem_cons, List.not_mem_nil, or_false, not_or] at h
  obtain ⟨headers, yrd, bay, coef⟩ := h
  rw [State.clearUnlocks_eq, State.word_put _ _ _ _ coef, State.word_put _ _ _ _ bay, State.word_put _ _ _ _ yrd, State.word_clearHeaders _ headers]

theorem State.word_anyReset (s : State) {a : Nat} (h : a ∉ unlockWords) (tdm : a / 0x1000 ≠ 0x10) (prt : a ≠ PRT_MP.reg.addr) :
    s.anyReset.word a = s.word a := by
  have ports (t : State) : t.portsCleared.word a = t.word a := rfl
  rw [State.anyReset_eq, State.word_put _ PRT_MP.IBI_PEND _ _ prt, ports,
    (State.within_stopStreams _) a (by simpa using tdm), State.word_clearUnlocks _ h]

/-- Unlocks of the records are withdrawn. -/
theorem State.xrec_anyReset (s : State) :
    s.anyReset.get GLB_XREC_YRD.PAGE = 0 ∧ s.anyReset.get GLB_XREC_BAY.PAGE = 0 ∧ s.anyReset.get GLB_XREC_COEF.PAGE = 0 := by
  have kept (t : State) {f : Fld} (tdm : f.addr / 0x1000 ∉ [0x10]) (prt : f.addr ≠ PRT_MP.reg.addr) :
      (t.stopStreams.portsCleared.put PRT_MP.IBI_PEND 0).get f = t.get f := by
    have ports (u : State) : u.portsCleared.get f = u.get f := rfl
    rw [State.get_put_addr _ PRT_MP.IBI_PEND _ _ prt, ports, t.within_stopStreams.get f tdm]
  rw [State.anyReset_eq, kept _ (by decide) (by decide), kept _ (by decide) (by decide), kept _ (by decide) (by decide), State.clearUnlocks_eq]
  generalize s.clearHeaders = t
  refine ⟨?_, ?_, ?_⟩
  · rw [State.get_put_addr _ _ _ _ (by decide), State.get_put_addr _ _ _ _ (by decide), State.get_put_same _ _ _ (by decide), Nat.zero_mod]
  · rw [State.get_put_addr _ _ _ _ (by decide), State.get_put_same _ _ _ (by decide), Nat.zero_mod]
  · rw [State.get_put_same _ _ _ (by decide), Nat.zero_mod]

/-! ### A control-plane reset starts (R364, R365) -/

/-- The cores leave service, and the errors injected into their memories are gone. -/
def State.outOfService (s : State) : State := { s with cpReset := true, taking := false, latched := [] }.dropErrors [0, 1, 2]

/-- The registers that name the reset and show the cores. -/
def State.cpMarked (s : State) : State := (s.put GLB_SERVICE.LAST_RESET 0).put HLM_STATUS.reg 0

theorem State.cpResetGo_eq {s : State} (h : s.resetRuns = 0) :
    s.cpResetGo = (s.anyReset.outOfService.cpMarked.logEvent 0x0202 [0]).memTest [0, 1, 2] := if_neg (by simp [h])

theorem State.stays_outOfService (s : State) : s.Stays s.outOfService := by constructor <;> rfl
theorem State.word_outOfService (s : State) (a : Nat) : s.outOfService.word a = s.word a := rfl
theorem State.get_outOfService (s : State) (f : Fld) : s.outOfService.get f = s.get f := congrArg (Word.field · _ _) (s.word_outOfService _)
theorem State.cpReset_outOfService (s : State) : s.outOfService.cpReset = true := rfl

theorem State.reports_cpMarked (s : State) : s.Reports s.cpMarked := (State.reports_put _ _ _).trans (State.reports_put _ _ _)

/-- A test of the cores' memories is the collector's alone. -/
theorem State.memTest_cores (s : State) : s.Reports (s.memTest [0, 1, 2]) ∧ s.Within (s.memTest [0, 1, 2]) faultPages := by
  have fails {f : MemFail} (core : [0, 1, 2].contains f.memory = true) (t : State) :
      t.Reports (t.memTestFail f) ∧ t.Within (t.memTestFail f) faultPages := by
    have low : f.memory < 3 := (by decide : ∀ m ∈ [0, 1, 2], m < 3) _ (List.contains_iff_mem.mp core)
    have eff : t.memTestFail f = (t.assertSource 0x0D).raiseWith 0x0D [f.memory, f.page] { addr := f.page * 4096, unit := 16, access := 6 } false := by
      unfold State.memTestFail
      dsimp only
      rw [if_neg (by rintro ⟨-, e, -⟩; omega), if_neg (by rintro ⟨-, e, -⟩; omega)]
    rw [eff]
    exact ⟨(t.reports_assertSource _).trans (State.reports_raiseWith _ _ _ _ _),
      ((t.within_assertSource _).mono (by decide)).trans (State.within_raiseWith _ _ _ _ _ (by decide))⟩
  have all (l : List MemFail) (h : ∀ f ∈ l, [0, 1, 2].contains f.memory = true) (t : State) :
      t.Reports (l.foldl State.memTestFail t) ∧ t.Within (l.foldl State.memTestFail t) faultPages := by
    induction l generalizing t with
    | nil => exact ⟨.refl t, .refl t _⟩
    | cons f l ih =>
      obtain ⟨reports, within⟩ := fails (h f List.mem_cons_self) t
      obtain ⟨reports', within'⟩ := ih (fun g m => h g (List.mem_cons_of_mem f m)) (t.memTestFail f)
      exact ⟨reports.trans reports', within.trans within'⟩
  exact all _ (fun f hf => (List.mem_filter.mp hf).2) s

theorem State.resetRuns_rewritten (s : State) : s.rewritten.resetRuns = s.resetRuns := by
  have block : s.rewritten.blkReset = s.blkReset := State.setWord_blkReset _ _ _
  have plane : s.rewritten.cpReset = s.cpReset := State.setWord_cpReset _ _ _
  simp only [State.resetRuns, State.inBoot, State.on, State.get_rewritten, block, plane]
  rfl

/-- What a control-plane reset that starts leaves. -/
theorem State.kept_cpResetGo {s : State} (h : s.resetRuns = 0) :
    s.cpResetGo.cpReset = true ∧ s.cpResetGo.get GLB_SERVICE.LAST_RESET = 0 ∧ s.cpResetGo.get HLM_STATUS.reg = 0 ∧
      (s.cpResetGo.get GLB_XREC_YRD.PAGE = 0 ∧ s.cpResetGo.get GLB_XREC_BAY.PAGE = 0 ∧ s.cpResetGo.get GLB_XREC_COEF.PAGE = 0) ∧
      s.Stays s.cpResetGo ∧
      ∀ a, a / 0x1000 ∉ faultPages → a ∉ unlockWords → a ≠ GLB_SERVICE.reg.addr → a ≠ HLM_STATUS.reg.addr → s.cpResetGo.word a = s.word a := by
  rw [State.cpResetGo_eq h]
  obtain ⟨yrd, bay, coef⟩ := s.xrec_anyReset
  have stays := s.stays_anyReset
  have words (a : Nat) (fault : a / 0x1000 ∉ faultPages) (unlock : a ∉ unlockWords) : s.anyReset.word a = s.word a :=
    s.word_anyReset unlock (fun e => fault (e ▸ by decide)) (fun e => fault (e ▸ by decide))
  generalize s.anyReset = t at yrd bay coef stays words
  have logged := t.outOfService.cpMarked.reports_logEvent 0x0202 [0]
  have logPages := (t.outOfService.cpMarked.within_logEvent 0x0202 [0]).mono (m := faultPages) (by decide)
  obtain ⟨tested, testPages⟩ := (t.outOfService.cpMarked.logEvent 0x0202 [0]).memTest_cores
  have pages := logPages.trans testPages
  have reports := t.outOfService.reports_cpMarked.trans (logged.trans tested)
  have marked {f : Fld} (last : f.addr ≠ GLB_SERVICE.LAST_RESET.addr) (hlm : f.addr ≠ HLM_STATUS.reg.addr) : t.outOfService.cpMarked.get f = t.get f := by
    rw [State.cpMarked, State.get_put_addr _ HLM_STATUS.reg _ _ hlm, State.get_put_addr _ GLB_SERVICE.LAST_RESET _ _ last, State.get_outOfService]
  refine ⟨reports.cpReset.trans t.cpReset_outOfService, ?_, ?_, ⟨?_, ?_, ?_⟩, (stays.trans t.stays_outOfService).trans reports.stays,
    fun a fault unlock last hlm => ?_⟩
  · rw [pages.get _ (by decide), State.cpMarked, State.get_put_addr _ _ _ _ (by decide), State.get_put_same _ _ _ (by decide), Nat.zero_mod]
  · rw [pages.get _ (by decide), State.cpMarked, State.get_put_same _ _ _ (by decide), Nat.zero_mod]
  · rw [pages.get _ (by decide), marked (by decide) (by decide), yrd]
  · rw [pages.get _ (by decide), marked (by decide) (by decide), bay]
  · rw [pages.get _ (by decide), marked (by decide) (by decide), coef]
  · rw [pages a fault, State.cpMarked, State.word_put _ HLM_STATUS.reg _ _ hlm, State.word_put _ GLB_SERVICE.LAST_RESET _ _ last,
      State.word_outOfService, words a fault unlock]

/-! ### The windows are restored from the journal (R319, R335) -/

theorem exec_controlPlaneResetEnd (s : State) : exec .controlPlaneResetEnd s = .next (s.answered (cpResetEndEff s)) := rfl

/-- What restoring the windows leaves: everything but registers. -/
structure State.Restores (s t : State) : Prop where
  reports : s.Reports t
  journal : t.journal = s.journal
  kept : t.kept = s.kept

theorem State.Restores.refl (s : State) : s.Restores s := ⟨.refl s, rfl, rfl⟩
theorem State.Restores.trans {s t u : State} (h : s.Restores t) (k : t.Restores u) : s.Restores u :=
  ⟨h.reports.trans k.reports, k.journal.trans h.journal, k.kept.trans h.kept⟩

theorem State.restores_setWord (s : State) (a : Nat) (w : Word) : s.Restores (s.setWord a w) :=
  ⟨s.reports_setWord a w, State.setWord_journal _ _ _, State.setWord_kept _ _ _⟩

theorem State.restores_foldl {α : Type} (f : State → α → State) (l : List α) (h : ∀ x ∈ l, ∀ t, State.Restores t (f t x)) (s : State) :
    s.Restores (l.foldl f s) := by
  induction l generalizing s with
  | nil => exact .refl s
  | cons x l ih => exact (h x List.mem_cons_self s).trans (ih (fun z m => h z (List.mem_cons_of_mem x m)) _)

/-- The sixteen words of a slot, cleared. -/
def State.slotCleared (w : Window) (s : State) (slot : Nat) : State :=
  (List.range 16).foldl (fun s k => if w = .cmu ∧ k = 15 then s else s.setWord (slotBase w slot + 4 * k) 0) s

/-- The operands of a command, as its slot holds them. -/
def State.slotOperands (s : State) (b : Nat) (ops : List (BitVec 64)) : State :=
  ops.zipIdx.foldl (fun s p => s.put64 ⟨b + 8 + 8 * p.2, 0, 32⟩ p.1.toNat) s

/-- A slot, filled from its journal entry. -/
def State.slotFilled (w : Window) (s : State) (slot : Nat) (e : Entry) : State :=
  ((((s.setWord (slotBase w slot) (BitVec.ofNat 32 (e.opcode + e.flags.toNat * 2 ^ 16))).setWord (slotBase w slot + 4) e.tag).slotOperands
    (slotBase w slot) e.ops).writeStatus w slot e.status e.result).setWord (slotBase w slot + 0x3C) e.seq

/-- The journal's entry of a slot. -/
def State.journalOf (s : State) (w : Window) (slot : Nat) : Option Entry := s.journal.find? fun e => decide (e.win = w ∧ e.slot = slot)

theorem State.restoreSlot_none {w : Window} {s : State} {slot : Nat} (h : (State.slotCleared w s slot).journalOf w slot = none) :
    State.restoreSlot w s slot = State.slotCleared w s slot := by
  have body : State.restoreSlot w s slot = (match (State.slotCleared w s slot).journalOf w slot with
    | none => State.slotCleared w s slot
    | some e => State.slotFilled w (State.slotCleared w s slot) slot e) := rfl
  rw [body, h]

theorem State.restoreSlot_some {w : Window} {s : State} {slot : Nat} {e : Entry} (h : (State.slotCleared w s slot).journalOf w slot = some e) :
    State.restoreSlot w s slot = State.slotFilled w (State.slotCleared w s slot) slot e := by
  have body : State.restoreSlot w s slot = (match (State.slotCleared w s slot).journalOf w slot with
    | none => State.slotCleared w s slot
    | some e => State.slotFilled w (State.slotCleared w s slot) slot e) := rfl
  rw [body, h]

theorem State.restores_slotCleared (w : Window) (s : State) (slot : Nat) : s.Restores (State.slotCleared w s slot) := by
  refine State.restores_foldl _ _ (fun k _ t => ?_) s
  split
  · exact .refl t
  · exact t.restores_setWord _ _

theorem State.restores_slotOperands (s : State) (b : Nat) (ops : List (BitVec 64)) : s.Restores (s.slotOperands b ops) :=
  State.restores_foldl _ _ (fun _ _ t => (t.restores_setWord _ _).trans (State.restores_setWord _ _ _)) s

theorem State.restores_slotFilled (w : Window) (s : State) (slot : Nat) (e : Entry) : s.Restores (State.slotFilled w s slot e) :=
  (((((s.restores_setWord _ _).trans (State.restores_setWord _ _ _)).trans (State.restores_slotOperands _ _ _)).trans
    (State.restores_setWord _ _ _)).trans (State.restores_setWord _ _ _)).trans (State.restores_setWord _ _ _)

theorem State.journalOf_cleared (w : Window) (s : State) (slot : Nat) : (State.slotCleared w s slot).journalOf w slot = s.journalOf w slot := by
  simp only [State.journalOf, (State.restores_slotCleared w s slot).journal]

theorem State.restores_restoreSlot (w : Window) (s : State) (slot : Nat) : s.Restores (State.restoreSlot w s slot) := by
  have cleared := State.restores_slotCleared w s slot
  cases entry : (State.slotCleared w s slot).journalOf w slot with
  | none =>
    rw [State.restoreSlot_none entry]
    exact cleared
  | some e =>
    rw [State.restoreSlot_some entry]
    exact cleared.trans (State.restores_slotFilled w _ slot e)

/-- Restoring a slot writes no register below it. -/
theorem State.word_restoreSlot_below (w : Window) (s : State) (slot : Nat) {a : Nat} (h : a < slotBase w slot) :
    (State.restoreSlot w s slot).word a = s.word a := by
  have cleared : (State.slotCleared w s slot).word a = s.word a := by
    refine State.foldl_keeps (fun t => t.word a) _ _ (fun k _ t => ?_) s
    split
    · rfl
    · exact (State.word_setWord _ _ _ _).trans (if_neg (by omega))
  have operands (t : State) (ops : List (BitVec 64)) : (t.slotOperands (slotBase w slot) ops).word a = t.word a := by
    refine State.foldl_keeps (fun t => t.word a) _ _ (fun p _ t => ?_) t
    rw [State.put64, State.word_setWord, if_neg (by simp only; omega), State.word_setWord, if_neg (by simp only; omega)]
  have filled (t : State) (e : Entry) : (State.slotFilled w t slot e).word a = t.word a := by
    rw [State.slotFilled, State.writeStatus, State.word_setWord, if_neg (by omega), State.word_setWord, if_neg (by omega), State.word_setWord,
      if_neg (by omega), operands, State.word_setWord, if_neg (by omega), State.word_setWord, if_neg (by omega)]
  cases entry : (State.slotCleared w s slot).journalOf w slot with
  | none => rw [State.restoreSlot_none entry, cleared]
  | some e => rw [State.restoreSlot_some entry, filled, cleared]

/-- STATUS of a CMD slot, as the journal has it. -/
def State.statusOf (s : State) (slot : Nat) : Word :=
  match s.journalOf .cmd slot with
  | some e => BitVec.ofNat 32 e.status
  | none => 0

theorem State.status_restoreSlot (s : State) (slot : Nat) :
    (State.restoreSlot .cmd s slot).word (slotBase .cmd slot + 0x30) = s.statusOf slot := by
  have same := State.journalOf_cleared .cmd s slot
  cases entry : s.journalOf .cmd slot with
  | none =>
    rw [entry] at same
    rw [State.restoreSlot_none same, State.statusOf, entry]
    refine (State.foldl_range_at (fun t => t.word (slotBase .cmd slot + 0x30)) _ (fun _ => 0) (y := 12) (fun t => ?_) (fun t k h => ?_) 16 s).trans
      (if_pos (by decide))
    · rw [if_neg (by decide), State.word_setWord, if_pos rfl]
    · rw [if_neg (by simp), State.word_setWord, if_neg (by omega)]
  | some e =>
    rw [entry] at same
    rw [State.restoreSlot_some same, State.statusOf, entry, State.slotFilled, State.writeStatus, State.word_setWord, if_neg (by omega),
      State.word_setWord, if_neg (by omega), State.word_setWord, if_pos rfl]

theorem State.statusOf_congr {s t : State} (h : t.journal = s.journal) (slot : Nat) : t.statusOf slot = s.statusOf slot := by
  simp only [State.statusOf, State.journalOf, h]

/-- The CMD slots up to one, restored in order. -/
theorem State.status_restoreSlots (s : State) {k n : Nat} (hk : k < n) (hn : n ≤ 16) :
    ((List.range n).foldl (State.restoreSlot .cmd) s).word (slotBase .cmd k + 0x30) = s.statusOf k := by
  induction n with
  | zero => exact absurd hk (Nat.not_lt_zero k)
  | succ n ih =>
    rw [List.range_succ, List.foldl_append, List.foldl_cons, List.foldl_nil]
    by_cases last : k = n
    · subst last
      rw [State.status_restoreSlot]
      exact State.statusOf_congr (State.restores_foldl _ _ (fun j _ t => State.restores_restoreSlot .cmd t j) s).journal k
    · have below : slotBase .cmd k + 0x30 < slotBase .cmd n := by
        simp only [slotBase]
        omega
      rw [State.word_restoreSlot_below .cmd _ n below, ih (by omega) (by omega)]

/-- The windows, restored one after the other. -/
def State.restoreAll (s : State) : State :=
  [Window.cmd, .cmk, .cmu].foldl (fun s w => (List.range (slotCount w)).foldl (State.restoreSlot w) s) s

theorem State.restores_restoreAll (s : State) : s.Restores s.restoreAll :=
  State.restores_foldl _ _ (fun w _ t => State.restores_foldl _ _ (fun j _ t => State.restores_restoreSlot w t j) t) s

theorem State.status_restoreAll (s : State) {k : Nat} (hk : k < 16) : s.restoreAll.word (slotBase .cmd k + 0x30) = s.statusOf k := by
  have low : slotBase .cmd k + 0x30 < 0x4400 := by
    simp only [slotBase]
    omega
  have others {w : Window} (hw : ∀ j, 0x4400 ≤ slotBase w j) (t : State) :
      ((List.range (slotCount w)).foldl (State.restoreSlot w) t).word (slotBase .cmd k + 0x30) = t.word (slotBase .cmd k + 0x30) :=
    State.foldl_keeps (fun t => t.word (slotBase .cmd k + 0x30)) (State.restoreSlot w) (List.range (slotCount w))
      (fun j _ t => State.word_restoreSlot_below w t j (lt_of_lt_of_le low (hw j))) t
  unfold State.restoreAll
  rw [List.foldl_cons, List.foldl_cons, List.foldl_cons, List.foldl_nil, others (fun j => by simp only [slotBase]; omega),
    others (fun j => by simp only [slotBase]; omega)]
  exact s.status_restoreSlots hk (le_refl 16)

/-! ### The end of a control-plane reset (R333, R335) -/

/-- The helm pair is back in service. -/
def State.planeBack (s : State) : State := { s with cpReset := false }

/-- No commit is latched. -/
def State.unlatched (s : State) : State := { s with latched := [] }

theorem cpResetEndEff_eq {s : State} (h : s.cpReset = true) :
    cpResetEndEff s = (s.planeBack.reraiseTrip.readJournal 4).restoreAll.serve.mpHeld.dbgGo.resumePlan := by
  unfold cpResetEndEff
  rw [if_neg (by simp [h])]
  rfl

theorem State.reraiseTrip_clear {s : State} (h : s.get THM_STATUS.TRIP = 0) : s.reraiseTrip = s := if_neg (by simp [State.on, h])

theorem foldl_fixed {α : Type} (f : State → α → State) {s : State} (l : List α) (h : ∀ x ∈ l, f s x = s) : l.foldl f s = s := by
  induction l with
  | nil => rfl
  | cons x l ih =>
    rw [List.foldl_cons, h x List.mem_cons_self]
    exact ih fun z m => h z (List.mem_cons_of_mem x m)

theorem State.readJournal_sound {s : State} (core : Nat) (h : ∀ e ∈ s.armedErr, e.1 ≠ 4) : s.readJournal core = s := by
  have sound (w : Nat) : s.memError 4 w = none := by
    have absent : (s.armedErr.find? fun e => e.1 == 4 && e.2.1 == w) = none := by
      refine List.find?_eq_none.mpr fun e m => ?_
      simp [h e m]
    unfold State.memError
    rw [absent]
    rfl
  refine foldl_fixed _ _ fun e _ => ?_
  unfold State.readEntry
  dsimp only
  rw [sound]

/-- A command at its final status, or one whose engine holds its tag, is not ordered again. -/
theorem State.reissue_held {s : State} {e : Entry} (kept : s.kept = []) (h : e.isFinal = true ∨ e.state ≠ .accepted ∧ e.cmdTag ∈ s.engineTags) :
    s.reissue e = s := by
  unfold State.reissue
  rw [kept, List.find?_nil]
  dsimp only
  cases state : e.state with
  | started k =>
    rcases h with done | ⟨-, held⟩
    · simp [Entry.isFinal, state] at done
    · exact if_pos held
  | refused => rfl
  | accepted => rfl
  | final => rfl

theorem State.serve_held {s : State} (kept : s.kept = []) (latched : s.latched = [])
    (h : ∀ e ∈ s.journal, e.isFinal = true ∨ e.state ≠ .accepted ∧ e.cmdTag ∈ s.engineTags) : s.serve = s.unlatched := by
  have issued : s.journal.foldl State.reissue s = s := foldl_fixed _ _ fun e m => State.reissue_held kept (h e m)
  have none_ : s.startAccepted = s := State.startAccepted_none fun e m accepted => by
    rcases h e m with done | ⟨other, -⟩
    · simp [Entry.isFinal, accepted] at done
    · exact other accepted
  unfold State.serve
  rw [issued, none_]
  dsimp only
  rw [latched]
  rfl

theorem State.mpHeld_free {s : State} (h : s.requestHeld = false) : s.mpHeld = s := by
  unfold State.requestHeld at h
  unfold State.mpHeld
  split
  next e => simp [e] at h
  · rfl

theorem State.dbgGo_free {s : State} (h : s.dbgHeld = none) : s.dbgGo = s := by
  unfold State.dbgGo
  rw [h]

theorem State.cpReset_resumePlan (s : State) : s.resumePlan.cpReset = s.cpReset := by
  have measured (t : State) : t.measureRefs.cpReset = t.cpReset :=
    State.foldl_keeps State.cpReset (fun t n => t.setCluster n { t.cluster n with refTurn := true }) (List.range Config.clusterCount)
      (fun _ _ _ => rfl) t
  have begun (t : State) : t.beginPlan.cpReset = t.cpReset := by
    have planned (u : State) : u.planning.cpReset = u.cpReset := rfl
    rw [State.beginPlan_eq, State.put_cpReset, planned, measured]
  unfold State.resumePlan
  split
  · exact (begun _).trans rfl
  · rfl

section
variable {s t : State} (h : s.Restores t)
include h

theorem State.Restores.engineTags : t.engineTags = s.engineTags := by
  simp only [State.engineTags, h.reports.doms, h.reports.clusters, h.reports.load, h.reports.farTag, h.reports.planTag, h.reports.logTag,
    h.reports.bays, h.reports.yards]

theorem State.Restores.requestHeld : t.requestHeld = s.requestHeld := by simp only [State.requestHeld, h.reports.mp]

end

/-- The end of a control-plane reset that finds nothing to repeat restores the windows and takes up a postponed plan. -/
theorem cpResetEndEff_quiet {s : State} (running : s.cpReset = true) (trip : s.get THM_STATUS.TRIP = 0)
    (held : ∀ e ∈ s.journal, e.isFinal = true ∨ e.state ≠ .accepted ∧ e.cmdTag ∈ s.engineTags) (kept : s.kept = []) (latched : s.latched = [])
    (mp : s.requestHeld = false) (dbg : s.dbgHeld = none) (sound : ∀ e ∈ s.armedErr, e.1 ≠ 4) :
    cpResetEndEff s = s.planeBack.restoreAll.unlatched.resumePlan := by
  have back : s.planeBack.reraiseTrip = s.planeBack := State.reraiseTrip_clear trip
  have journal : s.planeBack.readJournal 4 = s.planeBack := State.readJournal_sound 4 sound
  have tags : s.planeBack.engineTags = s.engineTags := rfl
  have restored := s.planeBack.restores_restoreAll
  have served : s.planeBack.restoreAll.serve = s.planeBack.restoreAll.unlatched :=
    State.serve_held (restored.kept.trans kept) (restored.reports.latched.trans latched) fun e m => by
      rw [restored.engineTags, tags]
      exact held e (restored.journal ▸ m)
  have mpFree (u : State) : u.unlatched.requestHeld = u.requestHeld := rfl
  have dbgFree (u : State) : u.unlatched.dbgHeld = u.dbgHeld := rfl
  rw [cpResetEndEff_eq running, back, journal, served, State.mpHeld_free ((mpFree _).trans (restored.requestHeld.trans mp)),
    State.dbgGo_free ((dbgFree _).trans (restored.reports.dbgHeld.trans dbg))]

/-- What it leaves. -/
theorem State.kept_restored (s : State) :
    s.planeBack.restoreAll.unlatched.resumePlan.cpReset = false ∧ s.planeBack.restoreAll.unlatched.resumePlan.journal = s.journal ∧
      ∀ k < 16, s.planeBack.restoreAll.unlatched.resumePlan.word (slotBase .cmd k + 0x30) = s.statusOf k := by
  have plane (u : State) : u.unlatched.cpReset = u.cpReset := rfl
  have journal (u : State) : u.unlatched.journal = u.journal := rfl
  have words (u : State) (a : Nat) : u.unlatched.word a = u.word a := rfl
  have back : s.planeBack.cpReset = false := rfl
  have same : s.planeBack.journal = s.journal := rfl
  have restored := s.planeBack.restores_restoreAll
  have resumed := State.confined_resumePlan s.planeBack.restoreAll.unlatched
  refine ⟨?_, ?_, fun k hk => ?_⟩
  · rw [State.cpReset_resumePlan, plane, restored.reports.cpReset, back]
  · rw [resumed.journal, journal, restored.journal, same]
  · have page : (slotBase .cmd k + 0x30) / 0x1000 ∉ [0xF] := by
      simp only [slotBase, List.mem_singleton]
      omega
    rw [resumed.words _ page, words, State.status_restoreAll _ hk]
    exact State.statusOf_congr same k

/-! ### A block reset at rest (R235, R364, R365) -/

/-- What the start after a reset finds outside. -/
def State.starting (s : State) (i : StartInputs) : State := { s with startIn := i }

/-- Work stops. -/
def State.blockTaken (s : State) (i : StartInputs) (ack : Bool) : State :=
  { s with cpReset := false, blkReset := true, startIn := i, hn := [], soQueue := [], soFly := none, soReq := ack }

/-- Nothing is taken, and no outcome is kept. -/
def State.emptied (s : State) : State := { s with taking := false, latched := [], kept := [] }

/-- The registers that name the reset, and the backup oscillator. -/
def State.blockMarked (s : State) : State := ((s.put GLB_SERVICE.STATE 0).put GLB_SERVICE.LAST_RESET 1).put CLK_STATUS.SOURCE 0

/-- The mark of a lost PLL goes. -/
def State.unlost (s : State) : State := { s with r26 := false }

/-- Every yard's heating ends. -/
def State.endHeats (s : State) : State := (List.range Config.yardCount).foldl State.endHeat s

/-- A domain goes to D4, or rests there and is not woken again. -/
def State.blockOrder (s : State) (d : Nat) : State :=
  if s.domState d = 4 ∧ s.atRest d then s.modDom d fun m => { m with rewake := false }
  else
    let s := s.modDom d fun m => { m with rewake := decide (s.domState d ≠ 4) && !s.on (YRD_STATUS.YARD_FENCED d) }
    (s.placeOrder d 4 .oteus false none).1

/-- What stops at a block reset, but for the domains. -/
def State.blockStopped (s : State) (i : StartInputs) : State :=
  (((s.anyReset.blockTaken i s.soAck).emptied.blockMarked.logEvent 0x0202 [1]).endRunning.unlost).endHeats

/-- The domains have their orders. -/
def State.blockOrdered (s : State) (i : StartInputs) : State := ((List.range Config.yardCount).foldl State.blockOrder (s.blockStopped i)).refreshPair

theorem State.blockResetGo_eq {s : State} (i : StartInputs) (h : s.resetRuns ≠ 2) :
    s.blockResetGo i = if (s.blockOrdered i).allOff then (s.blockOrdered i).blockRest else s.blockOrdered i := by
  unfold State.blockResetGo
  rw [if_neg h]
  rfl

/-- The domains below a number rest in D4. -/
def State.OffBelow (s : State) (n : Nat) : Prop := ∀ d < n, s.atRest d = true ∧ s.domState d = 4

theorem State.allOff_iff (s : State) : s.allOff = true ↔ s.OffBelow Config.yardCount := by
  simp only [State.allOff, State.OffBelow, List.all_eq_true, List.mem_range, Bool.and_eq_true, beq_iff_eq]

/-- Where the sequencers and their states stand, the same domains rest in D4. -/
theorem State.OffBelow.of_same {s t : State} {n : Nat} (h : s.OffBelow n) (doms : t.doms = s.doms)
    (states : ∀ d < n, t.domState d = s.domState d) : t.OffBelow n := fun d hd => by
  have same : t.atRest d = s.atRest d := by simp only [State.atRest, State.dom, doms]; rfl
  rw [same, states d hd]
  exact h d hd

theorem State.domState_of_regs {s t : State} (h : t.regs = s.regs) (d : Nat) : t.domState d = s.domState d := State.get_congr h

/-- A domain's state is in no page that the reset's bookkeeping writes. -/
theorem domState_page {d : Nat} (h : d < Config.yardCount) : (PWS_DOM.STATE d).addr / 0x1000 = 9 ∧ (PWS_DOM.STATE d).addr ∉ unlockWords :=
  (by decide : ∀ d < Config.yardCount, (PWS_DOM.STATE d).addr / 0x1000 = 9 ∧ (PWS_DOM.STATE d).addr ∉ unlockWords) d h

theorem State.Within.domState {s t : State} {l : List Nat} (h : s.Within t l) (k : 9 ∉ l) {d : Nat} (hd : d < Config.yardCount) :
    t.domState d = s.domState d := h.get _ (by rwa [(domState_page hd).1])

theorem State.endHeat_eq (s : State) (y : Nat) : ∃ (l : List Nat) (v : Yard),
    s.endHeat y = l.foldl State.coolBay (if l = [] then s else s.setYard y v) := ⟨_, _, rfl⟩

theorem State.kept_sendBay (s : State) (b : Nat) (mk : Nat → Word) : (s.sendBay b mk).regs = s.regs ∧ (s.sendBay b mk).doms = s.doms :=
  ⟨s.regs_send _ _, (s.reports_send _ _).doms⟩

theorem State.kept_coolBay (s : State) (b : Nat) : (s.coolBay b).regs = s.regs ∧ (s.coolBay b).doms = s.doms := by
  have set (t : State) (v : Bay) : (t.setBay b v).regs = t.regs ∧ (t.setBay b v).doms = t.doms := ⟨rfl, rfl⟩
  unfold State.coolBay State.modBay
  obtain ⟨regs, doms⟩ := s.kept_sendBay b (bayStateWord · 2)
  generalize s.sendBay b (bayStateWord · 2) = t at regs doms
  obtain ⟨regs', doms'⟩ := t.kept_sendBay b (cfgWrWord · 4 0)
  generalize t.sendBay b (cfgWrWord · 4 0) = u at regs' doms'
  obtain ⟨regs'', doms''⟩ := u.kept_sendBay b (cfgWrWord · 5 0)
  generalize u.sendBay b (cfgWrWord · 5 0) = v at regs'' doms''
  exact ⟨(set v _).1.trans (regs''.trans (regs'.trans regs)), (set v _).2.trans (doms''.trans (doms'.trans doms))⟩

theorem State.kept_endHeat (s : State) (y : Nat) : (s.endHeat y).regs = s.regs ∧ (s.endHeat y).doms = s.doms := by
  obtain ⟨l, v, e⟩ := s.endHeat_eq y
  have marked : (if l = [] then s else s.setYard y v).regs = s.regs ∧ (if l = [] then s else s.setYard y v).doms = s.doms := by
    split
    · exact ⟨rfl, rfl⟩
    · exact ⟨rfl, rfl⟩
  rw [e]
  exact ⟨(State.foldl_keeps State.regs State.coolBay l (fun b _ t => (t.kept_coolBay b).1) _).trans marked.1,
    (State.foldl_keeps State.doms State.coolBay l (fun b _ t => (t.kept_coolBay b).2) _).trans marked.2⟩

theorem State.kept_endHeats (s : State) : s.endHeats.regs = s.regs ∧ s.endHeats.doms = s.doms :=
  ⟨State.foldl_keeps State.regs State.endHeat (List.range Config.yardCount) (fun y _ t => (t.kept_endHeat y).1) s,
    State.foldl_keeps State.doms State.endHeat (List.range Config.yardCount) (fun y _ t => (t.kept_endHeat y).2) s⟩

theorem State.kept_endRunning (s : State) : s.Reports s.endRunning ∧ s.Within s.endRunning [2, 3, 4, 5, 0xE, 0x10] := by
  have ends (l : List Entry) (c : Entry → Nat) (t : State) :
      t.Reports (l.foldl (fun t e => t.finish ⟨e.win, e.slot, e.seq⟩ (c e) 0 0) t) ∧
        t.Within (l.foldl (fun t e => t.finish ⟨e.win, e.slot, e.seq⟩ (c e) 0 0) t) [2, 3, 4, 5, 0xE, 0x10] :=
    ⟨State.Reports.foldl _ (fun t _ => t.reports_finish _ _ _ _ _) _ _ (.refl t),
      State.Within.foldl _ (fun t _ h => h.trans (t.within_finish _ _ _ _ _)) _ _ (.refl t _)⟩
  exact ends _ (fun e => if _ = some (⟨e.win, e.slot, e.seq⟩ : CmdTag) then stDone else stAborted) s

/-- Where every domain rests in D4 no order is placed. -/
theorem State.kept_blockOrders {s : State} (h : s.OffBelow Config.yardCount) (l : List Nat) (low : ∀ d ∈ l, d < Config.yardCount) :
    (l.foldl State.blockOrder s).regs = s.regs ∧ (l.foldl State.blockOrder s).OffBelow Config.yardCount := by
  induction l generalizing s with
  | nil => exact ⟨rfl, h⟩
  | cons d l ih =>
    obtain ⟨rest, state⟩ := h d (low d List.mem_cons_self)
    have step : s.blockOrder d = s.modDom d fun m => { m with rewake := false } := if_pos ⟨state, rest⟩
    have off : (s.modDom d fun m => { m with rewake := false }).OffBelow Config.yardCount := fun z hz => by
      have same : (s.modDom d fun m => { m with rewake := false }).atRest z = s.atRest z := by
        simp only [State.atRest, State.modDom, State.dom_setDom]
        split
        next e => rw [e]
        · rfl
      rw [same]
      exact h z hz
    obtain ⟨regs, all⟩ := ih off fun z m => low z (List.mem_cons_of_mem d m)
    rw [List.foldl_cons, step]
    exact ⟨regs.trans rfl, all⟩

/-- What has stopped leaves the domains where they are, and shows the reset. -/
theorem State.kept_blockStopped {s : State} (i : StartInputs) (h : s.OffBelow Config.yardCount) :
    (s.blockStopped i).OffBelow Config.yardCount ∧ (s.blockStopped i).get GLB_SERVICE.LAST_RESET = 1 := by
  have doms := s.stays_anyReset.doms
  have states (d : Nat) (hd : d < Config.yardCount) : s.anyReset.domState d = s.domState d := by
    obtain ⟨page, unlock⟩ := domState_page hd
    have kept := s.word_anyReset unlock (by rw [page]; decide) (fun e => absurd (page.symm.trans (congrArg (· / 0x1000) e)) (by decide))
    exact congrArg (Word.field · _ _) kept
  have off := h.of_same doms states
  unfold State.blockStopped
  generalize s.anyReset = t at off
  have taken : (t.blockTaken i s.soAck).OffBelow Config.yardCount := off.of_same rfl fun _ _ => rfl
  generalize t.blockTaken i s.soAck = r at taken
  have emptied : r.emptied.OffBelow Config.yardCount := taken.of_same rfl fun _ _ => rfl
  generalize r.emptied = u at emptied
  have marks : u.Reports u.blockMarked := ((State.reports_put _ _ _).trans (State.reports_put _ _ _)).trans (State.reports_put _ _ _)
  have markPages : u.Within u.blockMarked [0, 1] := (((State.Within.refl u _).put _ _ (by decide)).put _ _ (by decide)).put _ _ (by decide)
  have last : u.blockMarked.get GLB_SERVICE.LAST_RESET = 1 := by
    rw [State.blockMarked, State.get_put_addr _ _ _ _ (by decide), State.get_put_same _ _ _ (by decide)]
    rfl
  have marked : u.blockMarked.OffBelow Config.yardCount := emptied.of_same marks.doms fun _ hd => markPages.domState (by decide) hd
  generalize u.blockMarked = v at last marked
  have log := v.reports_logEvent 0x0202 [1]
  have logPages := v.within_logEvent 0x0202 [1]
  have logged : (v.logEvent 0x0202 [1]).OffBelow Config.yardCount := marked.of_same log.doms fun _ hd => logPages.domState (by decide) hd
  have lastLogged : (v.logEvent 0x0202 [1]).get GLB_SERVICE.LAST_RESET = 1 := (logPages.get _ (by decide)).trans last
  generalize v.logEvent 0x0202 [1] = x at logged lastLogged
  obtain ⟨ends, endPages⟩ := x.kept_endRunning
  have ended : x.endRunning.OffBelow Config.yardCount := logged.of_same ends.doms fun _ hd => endPages.domState (by decide) hd
  have lastEnded : x.endRunning.get GLB_SERVICE.LAST_RESET = 1 := (endPages.get _ (by decide)).trans lastLogged
  generalize x.endRunning = z at ended lastEnded
  have found : z.unlost.OffBelow Config.yardCount := ended.of_same rfl fun _ _ => rfl
  have lastFound : z.unlost.get GLB_SERVICE.LAST_RESET = 1 := lastEnded
  generalize z.unlost = c at found lastFound
  obtain ⟨regs, cold⟩ := c.kept_endHeats
  exact ⟨found.of_same cold fun d _ => State.domState_of_regs regs d, (State.get_congr regs).trans lastFound⟩

/-- What a block reset that finds every domain in D4 finds before the registers return to reset. -/
theorem State.kept_blockOrdered {s : State} (i : StartInputs) (h : s.OffBelow Config.yardCount) :
    (s.blockOrdered i).allOff = true ∧ (s.blockOrdered i).get GLB_SERVICE.LAST_RESET = 1 := by
  obtain ⟨off, last⟩ := State.kept_blockStopped i h
  unfold State.blockOrdered
  generalize s.blockStopped i = t at off last
  obtain ⟨regs, orders⟩ := State.kept_blockOrders off (List.range Config.yardCount) fun _ => List.mem_range.mp
  generalize (List.range Config.yardCount).foldl State.blockOrder t = u at regs orders
  have pages := u.within_refreshPair
  exact ⟨(State.allOff_iff _).mpr (orders.of_same u.reports_refreshPair.doms fun _ hd => pages.domState (by decide) hd),
    (pages.get _ (by decide)).trans ((State.get_congr regs).trans last)⟩

/-- What a table keeps under a test of its keys is unchanged at a key that passes. -/
theorem Tab.get_filter {α : Type} (dflt : Nat → α) (p : Nat → Bool) (t : Tab α) {k : Nat} (h : p k = true) :
    Tab.get dflt (t.filter fun e => p e.1) k = Tab.get dflt t k := by
  induction t with
  | nil => rfl
  | cons e t ih =>
    obtain ⟨j, v⟩ := e
    by_cases passes : p j = true
    · rw [List.filter_cons_of_pos (p := fun e : Nat × α => p e.1) passes, Tab.get, Tab.get, ih]
    · have other : k ≠ j := fun e => passes (e ▸ h)
      rw [List.filter_cons_of_neg (p := fun e : Nat × α => p e.1) passes, Tab.get, if_neg other, ih]

/-- The registers and the engines return to reset, but for what a block reset keeps. -/
def State.blockBase (s : State) : State :=
  { State.reset with
    pending := s.pending, flash := s.flash, mono := s.mono, sysTime := s.sysTime, sysHalf := s.sysHalf
    tbValid := s.tbValid, tbSeen := s.tbSeen, tbLoaded := s.tbLoaded, soAck := s.soAck, soReq := s.soAck, free := s.free
    lockAt := s.lockAt, opBase := s.opBase, opFrom := s.opFrom, tkSector := s.tkSector, tkSlot := s.tkSlot, startIn := s.startIn
    regs := s.regs.filter fun e => keptAtBlock e.1
    rails := s.rails, phases := s.phases, journal := s.journal, tdm := s.tdm, recSeq := s.recSeq
    epochs := s.epochs, lastEpoch := s.lastEpoch, ibus := s.ibus, ibusLow := s.ibusLow
    fltAt := s.fltAt, fltDeclared := s.fltDeclared, alertAt := s.alertAt
    log := s.log, tokens := s.tokens, supp := s.supp, logSeq := s.logSeq, logErase := s.logErase
    lastTemps := s.lastTemps, wayOnAt := s.wayOnAt, proved := s.proved, armedErr := s.armedErr, takeover := s.takeover
    assertF := s.assertF.filter fun c => c == 0x2F || c == 0x34 }

/-- A yard keeps its pins and the marks of its sense points. -/
def State.blockYard (s r : State) (d : Nat) : State :=
  let m := s.dom d
  let r := r.setDom d
    { isoAck := m.isoAck, oscRdy := m.oscRdy, memRdy := m.memRdy, logicRdy := m.logicRdy, wakePin := m.wakePin, rewake := m.rewake }
  let pts := (s.yard d).pts.map Point.kept
  let r := r.setYard d { pts := pts }
  r.put (YRD_FB.SUSPECT d) ((List.range 4).foldl (fun x p => if 3 ≤ (pts.getD p {}).marks then setBit x p else x) 0)

/-- The service state and the clocks of a start. -/
def State.blockZeroed (s : State) : State := ((s.put CLK_STATUS.SOURCE 0).put GLB_SERVICE.STATE 0).put GLB_SERVICE.FW_RESULT 0

/-- The log's status, as its entries have it. -/
def State.logShown (s : State) : State := (s.put LOG_STATUS.STAGED s.log.length).put LOG_STATUS.ERASING s.logErase.isSome.toNat

theorem State.blockRest_eq (s : State) :
    s.blockRest =
      ((((List.range Config.yardCount).foldl (State.blockYard s) s.blockBase).blockZeroed.zeroBal.logShown.refreshAssert.capChanged).startUp
        false).refreshPair := by
  unfold State.blockRest
  extract_lets initial base yards zeroed balanced shown
  have showing : shown = balanced.logShown := rfl
  clear_value shown
  have balances : balanced = zeroed.zeroBal := rfl
  clear_value balanced
  have zeroes : zeroed = yards.blockZeroed := rfl
  clear_value zeroed
  have yards_ : yards = (List.range Config.yardCount).foldl (State.blockYard s) base := rfl
  clear_value yards
  have bases : base = s.blockBase := rfl
  rw [showing, balances, zeroes, yards_, bases]

theorem State.word_blockBase (s : State) {a : Nat} (h : keptAtBlock a = true) : s.blockBase.word a = s.word a :=
  Tab.get_filter _ keptAtBlock s.regs h

theorem State.startWords_blockYard (s r : State) (d : Nat) : (State.blockYard s r d).startWords = r.startWords := by
  unfold State.blockYard
  dsimp only
  rw [State.startWords_put _ (YRD_FB.SUSPECT d) (by dsimp only [YRD_FB.SUSPECT]; omega), State.startWords_setYard, State.startWords_setDom]

theorem State.startWords_zeroBal (s : State) : s.zeroBal.startWords = s.startWords :=
  State.startWords_foldl (fun t p => t.startWords_put (STG_PH_TRIM.BAL p) (by dsimp only [STG_PH_TRIM.BAL]; omega) _) _ s

theorem State.startWords_logShown (s : State) : s.logShown.startWords = s.startWords :=
  (State.startWords_put _ LOG_STATUS.ERASING (by decide) _).trans (State.startWords_put _ LOG_STATUS.STAGED (by decide) _)

/-- What the start after a block reset shows. -/
theorem State.get_blockRest (s : State) :
    s.blockRest.get GLB_SERVICE.STATE = 0 ∧ s.blockRest.get GLB_SERVICE.LAST_RESET = s.get GLB_SERVICE.LAST_RESET ∧
      s.blockRest.get CLK_STATUS.SOURCE = 0 := by
  have yards : ((List.range Config.yardCount).foldl (State.blockYard s) s.blockBase).startWords = s.blockBase.startWords :=
    State.startWords_foldl (fun r d => State.startWords_blockYard s r d) _ _
  have last : s.blockBase.get GLB_SERVICE.LAST_RESET = s.get GLB_SERVICE.LAST_RESET :=
    congrArg (Word.field · _ _) (s.word_blockBase (by decide))
  rw [← State.get_of_startWords yards (.inl rfl)] at last
  rw [State.blockRest_eq]
  generalize (List.range Config.yardCount).foldl (State.blockYard s) s.blockBase = r at last
  have started : ((r.blockZeroed.zeroBal.logShown.refreshAssert.capChanged).startUp false).refreshPair.startWords = r.blockZeroed.startWords := by
    rw [State.startWords_refreshPair, State.startWords_startUp, State.startWords_capChanged, State.startWords_refreshAssert,
      State.startWords_logShown, State.startWords_zeroBal]
  rw [State.get_of_startWords started (.inl rfl), State.get_of_startWords started (.inl rfl),
    State.get_of_startWords started (.inr (.inl rfl)), ← last]
  unfold State.blockZeroed
  have result : GLB_SERVICE.FW_RESULT.apart GLB_SERVICE.STATE := .inr (by decide)
  have result' : GLB_SERVICE.FW_RESULT.apart GLB_SERVICE.LAST_RESET := .inr (by decide)
  have state : GLB_SERVICE.STATE.apart GLB_SERVICE.LAST_RESET := .inr (by decide)
  refine ⟨?_, ?_, ?_⟩
  · rw [State.get_put_apart _ _ _ _ (by decide) result, State.get_put_same _ _ _ (by decide), Nat.zero_mod]
  · rw [State.get_put_apart _ _ _ _ (by decide) result', State.get_put_apart _ _ _ _ (by decide) state, State.get_put_addr _ _ _ _ (by decide)]
  · rw [State.get_put_addr _ _ _ _ (by decide), State.get_put_addr _ _ _ _ (by decide), State.get_put_same _ _ _ (by decide), Nat.zero_mod]

/-- A block reset with every domain in D4 returns the registers to reset at once. -/
theorem State.get_blockResetGo {s : State} (i : StartInputs) (h : s.resetRuns ≠ 2) (off : s.OffBelow Config.yardCount) :
    (s.blockResetGo i).get GLB_SERVICE.STATE = 0 ∧ (s.blockResetGo i).get GLB_SERVICE.LAST_RESET = 1 ∧
      (s.blockResetGo i).get CLK_STATUS.SOURCE = 0 := by
  obtain ⟨all, last⟩ := State.kept_blockOrdered i off
  obtain ⟨state, kept, source⟩ := (s.blockOrdered i).get_blockRest
  rw [State.blockResetGo_eq i h, if_pos all]
  exact ⟨state, kept.trans last, source⟩

/-! ### The commands -/

theorem powerOnReset_taken {src : PorSource} {lowNs : Nat} (i : StartInputs) (s : State) (h : src ≠ .porstN ∨ 2000 ≤ lowNs) :
    ∃ t, exec (.powerOnReset src lowNs i) s = .next t ∧ t.pending = s.pending ∧ t.get GLB_SERVICE.STATE = 0 ∧ t.get CLK_STATUS.SOURCE = 0 ∧
      (t.get THM_STATUS.TRIP = (if src = .vddAon then 0 else s.get THM_STATUS.TRIP)) ∧
      (src ≠ .vddAon → s.get THM_STATUS.TRIP = 1 → t.get THM_TRIP_SRC.reg = s.get THM_TRIP_SRC.reg) := by
  have eff := powerOnResetEff_taken i s h
  obtain ⟨state, source, trip, from_⟩ := s.get_powerOn i (decide (src = .vddAon))
  rw [← eff] at state source trip from_
  refine ⟨_, exec_powerOnReset src lowNs i s, rfl, ?_, ?_, ?_, fun aon latched => ?_⟩
  · rw [State.get_answered _ _ _ (by decide) (by decide), state]
  · rw [State.get_answered _ _ _ (by decide) (by decide), source]
  · rw [State.get_answered _ _ _ (by decide) (by decide), trip]
    simp only [decide_eq_true_eq]
  · rw [State.get_answered _ _ _ (by decide) (by decide), from_ (by simpa using aon) latched]

theorem powerOnReset_short {lowNs : Nat} (i : StartInputs) (s : State) (h : lowNs < 1000) :
    ∃ t, exec (.powerOnReset .porstN lowNs i) s = .next t ∧ s.KeepsRegs t [] ∧ s.KeepsMem t ∧ s.KeepsUnits t := by
  have regs : s.KeepsRegs s [] := .of_words fun _ _ => rfl
  refine ⟨_, exec_powerOnReset .porstN lowNs i s, ?_⟩
  rw [powerOnResetEff_short i s h]
  exact ⟨regs.answered, State.tables_answered (.refl s)⟩

theorem aonDetectorTrip_clears (s : State) :
    ∃ t, exec (.aonDetectorTrip) s = .next t ∧ t.get THM_STATUS.TRIP = 0 ∧ t.get THM_TRIP_SRC.reg = 0 ∧ 0x2C ∉ t.assertF ∧
      s.KeepsRegs t [THM_STATUS.reg.addr, THM_TRIP_SRC.reg.addr] ∧ s.KeepsMem t ∧ s.KeepsUnits t := by
  obtain ⟨trip, source, silent, regs, tables⟩ := s.kept_aonTrip
  refine ⟨_, exec_aonDetectorTrip s, ?_, ?_, ?_, regs.answered, State.tables_answered tables⟩
  · rw [State.get_answered _ _ _ (by decide) (by decide), trip]
  · rw [State.get_answered _ _ _ (by decide) (by decide), source]
  · rwa [State.assertF_answered]

theorem glbResetControlPlane_starts {q : Requester} {s : State} (takes : s.Takes q GLB_RESET.KEY.addr) (runs : s.resetRuns = 0) :
    ∃ t, exec (.glbResetControlPlane q) s = .next t ∧ t.cpReset = true ∧ t.get GLB_SERVICE.LAST_RESET = 0 ∧ t.get HLM_STATUS.reg = 0 ∧
      t.get GLB_XREC_YRD.PAGE = 0 ∧ t.get GLB_XREC_BAY.PAGE = 0 ∧ t.get GLB_XREC_COEF.PAGE = 0 ∧ t.bays = s.bays ∧ t.yards = s.yards ∧
      t.doms = s.doms ∧ t.clusters = s.clusters ∧ t.rails = s.rails ∧ t.phases = s.phases ∧ t.ctxs = s.ctxs ∧
      s.KeepsPages t faultPages (headerPages.map (fun p => p * 0x1000 + 0xC) ++
        [GLB_SERVICE.reg.addr, HLM_STATUS.reg.addr, GLB_XREC_YRD.PAGE.addr, GLB_XREC_BAY.PAGE.addr, GLB_XREC_COEF.PAGE.addr]) ∧
      s.KeepsMem t := by
  have eff : s.wordWrite q 0x44 0xB0070001 = s.rewritten.cpResetGo := by
    rw [State.wordWrite_glbReset takes (fun other => absurd other (by decide)) (by decide), if_pos (by decide)]
  obtain ⟨plane, last, hlm, ⟨yrd, bay, coef⟩, stays, words⟩ := State.kept_cpResetGo (s.resetRuns_rewritten.trans runs)
  have kept := s.reports_rewritten.stays.trans stays
  have exec_ := exec_glbResetControlPlane q s
  rw [eff] at exec_
  generalize s.rewritten.cpResetGo = u at exec_ plane last hlm yrd bay coef kept words
  have wired := kept.trans u.reports_wired.stays
  refine ⟨_, exec_, (State.answered_cpReset _ _).trans plane, ?_, ?_, ?_, ?_, ?_, wired.bays, wired.yards, wired.doms, wired.clusters,
    wired.rails, wired.phases, wired.ctxs, State.keepsPages_answered_of (fun a page apart => ?_) (by decide) (by decide),
    State.keepsMem_answered kept.keepsMem⟩
  · rw [State.get_answered _ _ _ (by decide) (by decide), last]
  · rw [State.get_answered _ _ _ (by decide) (by decide), hlm]
  · rw [State.get_answered _ _ _ (by decide) (by decide), yrd]
  · rw [State.get_answered _ _ _ (by decide) (by decide), bay]
  · rw [State.get_answered _ _ _ (by decide) (by decide), coef]
  · simp only [List.mem_append, List.mem_cons, List.not_mem_nil, or_false, not_or] at apart
    obtain ⟨header, service, status, yrdPage, bayPage, coefPage⟩ := apart
    have unlock : a ∉ unlockWords := by
      simp only [unlockWords, List.mem_append, List.mem_cons, List.not_mem_nil, or_false, not_or]
      exact ⟨header, yrdPage, bayPage, coefPage⟩
    exact (words a page unlock service status).trans (s.word_rewritten a)

theorem State.journal_wired (s : State) : s.wired.journal = s.journal := by
  have pair (t : State) : t.refreshPair.journal = t.journal := by
    unfold State.refreshPair
    dsimp only
    split
    · rfl
    · rw [State.put_journal, State.put_journal]
  exact (pair _).trans (State.put_journal _ _ _)

theorem State.journal_answered (s u : State) : (s.answered u).journal = u.journal := u.journal_wired

theorem controlPlaneResetEnd_restores {s : State} (running : s.cpReset = true) (trip : s.get THM_STATUS.TRIP = 0)
    (held : ∀ e ∈ s.journal, e.isFinal = true ∨ e.state ≠ .accepted ∧ e.cmdTag ∈ s.engineTags) (kept : s.kept = []) (latched : s.latched = [])
    (mp : s.requestHeld = false) (dbg : s.dbgHeld = none) (sound : ∀ e ∈ s.armedErr, e.1 ≠ 4) :
    ∃ t, exec (.controlPlaneResetEnd) s = .next t ∧ t.cpReset = false ∧ t.journal = s.journal ∧
      (∀ k < 16, ∀ e, (s.journal.find? fun e => decide (e.win = .cmd ∧ e.slot = k)) = some e →
        t.word (0x3400 + 0x40 * k + 0x30) = BitVec.ofNat 32 e.status) ∧
      (∀ k < 16, (s.journal.find? fun e => decide (e.win = .cmd ∧ e.slot = k)).isNone = true → t.word (0x3400 + 0x40 * k + 0x30) = 0) := by
  have exec_ := exec_controlPlaneResetEnd s
  rw [cpResetEndEff_quiet running trip held kept latched mp dbg sound] at exec_
  obtain ⟨plane, journal, words⟩ := s.kept_restored
  generalize s.planeBack.restoreAll.unlatched.resumePlan = u at exec_ plane journal words
  have status {k : Nat} (hk : k < 16) : (s.answered u).word (0x3400 + 0x40 * k + 0x30) = s.statusOf k := by
    have slot : slotBase .cmd k + 0x30 = 0x3400 + 0x40 * k + 0x30 := by simp only [slotBase, Nat.mod_eq_of_lt hk]
    have flt : 0x3400 + 0x40 * k + 0x30 ≠ 0xC040 := by omega
    have prt : 0x3400 + 0x40 * k + 0x30 ≠ 0x2040 := by omega
    rw [State.word_answered s u _ flt prt, ← slot, words k hk]
  refine ⟨_, exec_, (State.answered_cpReset _ _).trans plane, (State.journal_answered _ _).trans journal, fun k hk e found => ?_,
    fun k hk none_ => ?_⟩
  · have entry : s.journalOf .cmd k = some e := found
    rw [status hk, State.statusOf, entry]
  · have entry : s.journalOf .cmd k = none := Option.isNone_iff_eq_none.mp none_
    rw [status hk, State.statusOf, entry]

theorem glbResetBlock_rests {q : Requester} (i : StartInputs) {s : State} (takes : s.Takes q GLB_RESET.KEY.addr) (mgmt : clsOf q = .mgmt)
    (runs : s.resetRuns ≠ 2) (off : s.allOff = true) :
    ∃ t, exec (.glbResetBlock q i) s = .next t ∧ t.get GLB_SERVICE.STATE = 0 ∧ t.get GLB_SERVICE.LAST_RESET = 1 ∧
      t.get CLK_STATUS.SOURCE = 0 := by
  have takes' : (s.starting i).Takes q 0x44 := takes
  have eff : (s.starting i).wordWrite q 0x44 0xB0070002 = (s.starting i).rewritten.blockResetGo (s.starting i).startIn := by
    rw [State.wordWrite_glbReset takes' (fun _ => mgmt) (by decide), if_neg (by decide), if_pos (by decide)]
  have runs' : (s.starting i).rewritten.resetRuns ≠ 2 := by
    rw [State.resetRuns_rewritten]
    exact runs
  have rest : s.OffBelow Config.yardCount := s.allOff_iff.mp off
  have same : (s.starting i).OffBelow Config.yardCount := rest.of_same rfl fun _ _ => rfl
  have off' : (s.starting i).rewritten.OffBelow Config.yardCount :=
    same.of_same (State.reports_rewritten _).doms fun d _ => State.get_rewritten _ _
  obtain ⟨state, last, source⟩ := State.get_blockResetGo (s.starting i).startIn runs' off'
  rw [← eff] at state last source
  refine ⟨_, exec_glbResetBlock q i s, ?_, ?_, ?_⟩
  · rw [State.get_answered _ _ _ (by decide) (by decide)]
    exact state
  · rw [State.get_answered _ _ _ (by decide) (by decide)]
    exact last
  · rw [State.get_answered _ _ _ (by decide) (by decide)]
    exact source

/-- Settles O6: a start leaves the service state, the clock's source and the trip latch as its first writes set them; a
control-plane reset stops what every reset stops and writes no table; its end finds nothing to order again, and the windows are
restored from the journal; a block reset that finds every domain in D4 returns the registers to reset at once. -/
theorem resetsDoWhatTheyStopAndKeep : Obligations.ResetsDoWhatTheyStopAndKeep :=
  ⟨fun _ _ i s h => powerOnReset_taken i s h, fun _ i s h => powerOnReset_short i s h, aonDetectorTrip_clears,
    fun _ _ takes runs => glbResetControlPlane_starts takes runs,
    fun _ running trip held kept latched mp dbg sound => controlPlaneResetEnd_restores running trip held kept latched mp dbg sound,
    fun _ i _ takes mgmt runs off => glbResetBlock_rests i takes mgmt runs off⟩

end Sys2Proof.Machine
end

section
/-!
SUPPORT. The fourth missed SYNC ends the slew of a bay (R66, R73): where the reference has moved past the limit of R57 the bay
reports REF_CLAMP beside SYNC. Obligation YardWordsReachTheirBays.
-/

namespace Sys2Proof.Machine

theorem exec_syncLost (b : Nat) (bad : Bool) (s : State) : exec (.syncLost b bad) s = .next (s.answered (syncLostEff b bad s)) := rfl

/-- The bay of `overdriven`, its last three SYNCs missed. -/
def deafenedBay : Bay := { overdrivenBay with missed := 3 }

/-- Bay 0 has had the half millisecond in which its slew reaches code 600, which lies above the clamp of R57. -/
def deafened : State := { State.reset with mono := 1000000, bays := [(0, deafenedBay)] }

/-- Ending the slew finds the reference clamped: REF_CLAMP (bit 2) stands beside SYNC (bit 0). -/
theorem events_syncLost_deafened : ((deafened.answered (syncLostEff 0 false deafened)).bay 0).events = 5 := by decide +kernel

/-- Refutes O20: the fourth SYNC missed by a bay whose slew has left the limits of its reference sets REF_CLAMP too, not its own
event alone. -/
theorem not_yardWordsReachTheirBays : ¬ Obligations.YardWordsReachTheirBays := by
  unfold Obligations.YardWordsReachTheirBays
  rintro ⟨-, -, syncLost, -⟩
  have hears : (deafened.bay 0).silent = false := by decide +kernel
  have before : (deafened.bay 0).events = 0 := by decide +kernel
  obtain ⟨t, answer, -, -, -, events, -⟩ := syncLost 0 deafened (by decide +kernel) hears
  cases (exec_syncLost 0 false deafened).symm.trans answer
  rw [events_syncLost_deafened, before] at events
  exact absurd events (by decide)

end Sys2Proof.Machine
end

section
/-!
SUPPORT. The EVENT word with TRIP puts every phase of its yard in service (R61, R118): where all of them were about to be shed the
yard's last cause is the withdrawal of the sheds, not the trip. Obligation BayRegistersReportsAndAnswers.
-/

namespace Sys2Proof.Machine

theorem exec_event (seg slot : Nat) (w : Word) (s : State) : exec (.event seg slot w) s = .next (s.answered (eventEff seg slot w s)) := rfl

/-- A running bay with one phase in service, one prepared to be shed, and TRIP to report. -/
def sheddingBay : Bay := { State.reset.bay 0 with st := .run, unsent := 0x80, p0 := { st := .active }, p1 := { st := .shedPrep } }

/-- Bay 0 is that bay and Oteus's record of it says the same. -/
def shedding : State :=
  (((State.reset.setBay 0 sheddingBay).put (BAY_STATE.STATE 0) 3).put (PhF 0 false) 2).put (PhF 0 true) 3

/-- Withdrawing the shed is cause 6. -/
theorem lastCause_event_shedding :
    (shedding.answered (eventEff 0 0 (shedding.eventWord 0) shedding)).get (YRD_SHARE_STAT.LAST_CAUSE 0) = 6 := by decide +kernel

/-- Refutes O24: the trip hold of a yard whose one phase out of service was in SHED_PREP leaves cause 6, not the trip's 3. -/
theorem not_bayRegistersReportsAndAnswers : ¬ Obligations.BayRegistersReportsAndAnswers := by
  unfold Obligations.BayRegistersReportsAndAnswers
  rintro ⟨-, -, -, -, -, -, -, tripped, -⟩
  have drives : shedding.drives 0 = true := by decide +kernel
  have right : fbbOk (shedding.eventWord 0) = true := by decide +kernel
  have bay : shedding.bay 0 = sheddingBay := by decide +kernel
  have yard : shedding.get (BAY_STATE.YARD 0) = 0 := by decide +kernel
  obtain ⟨t, answer, -, -, -, -, -, cause, -⟩ := tripped 0 0 (shedding.eventWord 0) 0 0 shedding rfl (by decide) drives
    (by rw [bay]; decide) (by rw [bay]; decide) right rfl (by decide) (by rw [bay]; decide) (by rw [bay]; decide) (by rw [bay]; decide)
    (by rw [bay]; decide) yard (by decide)
  cases (exec_event 0 0 (shedding.eventWord 0) shedding).symm.trans answer
  rw [lastCause_event_shedding] at cause
  exact absurd cause (by decide)

end Sys2Proof.Machine
end

section
/-!
SUPPORT. The sampling instant counts the supervision periods missed since the yard's last supervision job (R214) in
TIL_CNT_SUPMISS. Obligation TillerRunsTheLoop.
-/

namespace Sys2Proof.Machine

theorem exec_samplingInstant (y : Nat) (s : State) :
    exec (.samplingInstant y) s = .next (s.answered (samplingInstantEff y s)) := rfl

/-- Yard 5 runs, its last supervision job lies at the start of time, and two periods of 240 ns have passed. -/
def unsupervised : State :=
  { ((State.reset.put (BAY_STATE.STATE 60) 3).put (PWS_DOM.STATE 5) 0).setYard 5 { State.reset.yard 5 with supAt := some 0 } with mono := 960 }

theorem supMiss_samplingInstant_unsupervised :
    (unsupervised.answered (samplingInstantEff 5 unsupervised)).get TIL_CNT_SUPMISS.COUNT = 1 := by decide +kernel

/-- Refutes O27: the sampling instant of a yard with a missed supervision period writes TIL_CNT_SUPMISS, which the clause keeps. -/
theorem not_tillerRunsTheLoop : ¬ Obligations.TillerRunsTheLoop := by
  unfold Obligations.TillerRunsTheLoop
  rintro ⟨sampling, -⟩
  have yard : unsupervised.yard 5 = { State.reset.yard 5 with supAt := some 0 } := by decide +kernel
  obtain ⟨t, answer, -, -, -, -, -, -, -, -, kept, -⟩ := sampling 5 unsupervised (by decide +kernel) (by decide +kernel) (by decide +kernel)
    (by decide +kernel) (by decide +kernel) (by rw [yard]; decide) (by rw [yard]; decide) (by rw [yard]; decide) (by decide +kernel)
    (by rw [yard]; decide) (by decide +kernel) (by rw [yard]; decide) (by rw [yard]; decide) (by decide +kernel) (by decide +kernel)
    (by decide +kernel)
  cases (exec_samplingInstant 5 unsupervised).symm.trans answer
  have same := kept TIL_CNT_SUPMISS.COUNT.addr (by decide)
  have before : unsupervised.get TIL_CNT_SUPMISS.COUNT = 0 := by decide +kernel
  have after := supMiss_samplingInstant_unsupervised
  rw [State.get, same] at after
  exact absurd (after.symm.trans before) (by decide)

end Sys2Proof.Machine
end

section
/-!
SUPPORT. SET_VID starts the wait for its voltage of a yard whose move of frequency waits for it (R121), which the yard records.
Obligation CommandsDoWhatTheyName.
-/

namespace Sys2Proof.Machine

theorem exec_setVid (c : Cmd) (s : State) : exec (.setVid c) s = .next (s.answered (s.cmdWrite 0x0100 c)) := rfl

/-- SET_VID of yard 65: code 100 at slew 3, by Cmark in slot 1. -/
def raiseVid : Cmd := ⟨.cmk, 1, ⟨.rp, 1⟩, 0, 7, 0x300640041, 0, 0, 0, 0, 1⟩

/-- Yard 65 waits for its voltage before its clock may move. -/
def awaitingVid : State := (State.reset.put GLB_SERVICE.STATE 3).setYard 65 { vfWait := some ⟨10, 7, none, none, 0⟩ }

theorem vfWait_setVid_awaitingVid :
    ((awaitingVid.answered (awaitingVid.cmdWrite 0x0100 raiseVid)).yard 65).vfWait ≠ (awaitingVid.yard 65).vfWait := by decide +kernel

/-- Refutes O42: SET_VID of a yard that waits for its voltage sets the time of that wait in the yard, which the clause keeps. -/
theorem not_commandsDoWhatTheyName : ¬ Obligations.CommandsDoWhatTheyName := by
  unfold Obligations.CommandsDoWhatTheyName
  rintro ⟨-, -, -, setVid, -⟩
  obtain ⟨t, answer, -, -, -, -, -, plant, -⟩ := setVid raiseVid 65 100 3 awaitingVid (by decide +kernel) (by decide +kernel) (by decide)
    (by decide) (by decide) (by decide +kernel) (by decide +kernel) (by decide +kernel) (by decide +kernel)
  cases (exec_setVid raiseVid awaitingVid).symm.trans answer
  obtain ⟨-, yard, -⟩ := plant 65
  exact vfWait_setVid_awaitingVid (congrArg Yard.vfWait yard)

end Sys2Proof.Machine
end

section
/-!
SUPPORT. The orders that the bay of a slot takes from a word (R59, R60, R63, R64, R67): which bay a decoded word reaches, what Oteus's
record of a bay takes from it, and what both leave as it is. Obligations PhaseOrdersActOnNamedPhases and BayStateOrdersMoveTheBay.
-/

namespace Sys2Proof.Machine

/-! ### The bay a word addressed by slot reaches (R67) -/

/-- The state in which a word heard on a segment acts: its transmission is over. -/
def State.decoded (s : State) (seg : Nat) (w : Word) : State := { s with sent := takeSent seg w s.sent }

theorem nodup_segBays (seg : Nat) : (segBays seg).Nodup :=
  (List.nodup_range.map fun _ _ h => Nat.add_left_cancel h).filter _

theorem State.listeners_bySlot {s : State} {seg slot b : Nat} (slotted : b = 80 * seg + slot) (listens : b ∈ s.listeners seg) (u : State) :
    (s.listeners seg).filter (bySlot seg slot u) = [b] := by
  have nodup : (s.listeners seg).Nodup := (nodup_segBays seg).filter _
  have single : bySlot seg slot u = (· == b) := by
    funext c
    simp [bySlot, slotted]
  rw [single, List.filter_beq, List.count_eq_one_of_mem nodup listens]
  rfl

theorem State.decodeWord_bySlot {s : State} {seg slot b : Nat} {w : Word} (right : fbbOk w = true) (slotted : b = 80 * seg + slot)
    (listens : b ∈ s.listeners seg) (act : State → Nat → State) :
    s.decodeWord seg w (bySlot seg slot) act = act (s.decoded seg w) b := by
  have reached := State.listeners_bySlot (s := s.decoded seg w) slotted listens (s.decoded seg w)
  rw [State.decodeWord, if_pos right]
  exact congrArg (List.foldl act (s.decoded seg w)) reached

/-! ### Phases of a bay -/

@[simp] theorem Bay.ph_setPh (v : Bay) (ph q : Bool) (p : Phase) : (v.setPh ph p).ph q = if q = ph then p else v.ph q := by
  cases ph <;> cases q <;> rfl

theorem mem_named {ph1 ph0 ph : Bool} : ph ∈ named ph1 ph0 ↔ (if ph then ph1 else ph0) = true := by
  cases ph <;> simp [named]

theorem nodup_named (ph1 ph0 : Bool) : (named ph1 ph0).Nodup := by
  cases ph1 <;> cases ph0 <;> decide

/-- A phase changed in a bay leaves all else the bay holds. -/
theorem Bay.setPh_rest (v : Bay) (ph : Bool) (p : Phase) :
    (v.setPh ph p).st = v.st ∧ (v.setPh ph p).allHands = v.allHands ∧ (v.setPh ph p).yard = v.yard := by
  cases ph <;> exact ⟨rfl, rfl, rfl⟩

/-- The named phases changed alike. -/
def Bay.mapNamed (v : Bay) (l : List Bool) (f : Phase → Phase) : Bay := l.foldl (fun v ph => v.setPh ph (f (v.ph ph))) v

theorem Bay.mapNamed_rest (l : List Bool) (f : Phase → Phase) (v : Bay) :
    (v.mapNamed l f).st = v.st ∧ (v.mapNamed l f).allHands = v.allHands ∧ (v.mapNamed l f).yard = v.yard := by
  induction l generalizing v with
  | nil => exact ⟨rfl, rfl, rfl⟩
  | cons ph l ih =>
    obtain ⟨st, hands, yard⟩ := ih (v.setPh ph (f (v.ph ph)))
    obtain ⟨st', hands', yard'⟩ := v.setPh_rest ph (f (v.ph ph))
    exact ⟨st.trans st', hands.trans hands', yard.trans yard'⟩

theorem Bay.ph_mapNamed {l : List Bool} (nodup : l.Nodup) (f : Phase → Phase) (v : Bay) (q : Bool) :
    (v.mapNamed l f).ph q = if q ∈ l then f (v.ph q) else v.ph q := by
  induction l generalizing v with
  | nil => rfl
  | cons ph l ih =>
    obtain ⟨fresh, nodup⟩ := List.nodup_cons.mp nodup
    have step := ih nodup (v.setPh ph (f (v.ph ph)))
    rw [Bay.ph_setPh] at step
    refine step.trans ?_
    by_cases e : q = ph
    · subst e
      simp [fresh]
    · simp [e]

/-! ### What an order of a bay leaves as it is -/

/-- An order of bay b keeps the registers that P holds of, every other bay and every memory. -/
structure State.Moves (P : Nat → Prop) (b : Nat) (s t : State) : Prop where
  words : s.KeepsOn P t
  others : ∀ c, c ≠ b → t.bay c = s.bay c
  mem : s.KeepsMem t

section
variable {P : Nat → Prop} {b : Nat} {s t u : State}

theorem State.Moves.refl (s : State) : State.Moves P b s s := ⟨.refl s, fun _ _ => rfl, fun _ => ⟨rfl, rfl, rfl⟩⟩

theorem State.Moves.trans (h : State.Moves P b s t) (k : State.Moves P b t u) : State.Moves P b s u :=
  ⟨h.words.trans k.words, fun c n => (k.others c n).trans (h.others c n), h.mem.trans k.mem⟩

theorem State.Reports.moves (h : s.Reports t) (k : s.KeepsOn P t) : State.Moves P b s t :=
  ⟨k, fun _ _ => by simp only [State.bay, h.bays], h.keepsMem⟩

theorem State.moves_modBay (s : State) (b : Nat) (f : Bay → Bay) : State.Moves P b s (s.modBay b f) :=
  ⟨.refl s, fun c n => by simp [State.modBay, n], fun _ => ⟨rfl, rfl, rfl⟩⟩

theorem State.moves_put (s : State) (b : Nat) (f : Fld) (v : Nat) (off : ∀ a, P a → a ≠ f.addr) : State.Moves P b s (s.put f v) :=
  (s.reports_put f v).moves fun a p => State.word_put s f v a (off a p)

theorem State.moves_decoded (s : State) (b seg : Nat) (w : Word) : State.Moves P b s (s.decoded seg w) :=
  ⟨.refl s, fun _ _ => rfl, fun _ => ⟨rfl, rfl, rfl⟩⟩

end

@[simp] theorem State.bay_modBay (s : State) (b : Nat) (f : Bay → Bay) : (s.modBay b f).bay b = f (s.bay b) := by simp [State.modBay]
@[simp] theorem State.get_modBay (s : State) (b : Nat) (f : Bay → Bay) (g : Fld) : (s.modBay b f).get g = s.get g := rfl

/-! ### Oteus's record of a phase (R64) -/

/-- What Oteus records of a phase whose own state is st, where it reads r: a state that is out, or FAILED as it reads, stays. -/
def recorded (st : PhSt) (r : Nat) : Nat := if st.out ∨ r = 5 then r else st.code

theorem PhF_addr (b : Nat) (ph : Bool) : (PhF b ph).addr = (BAY_STATE.reg b).addr := by cases ph <;> rfl
theorem PhF_width (b : Nat) (ph : Bool) : (PhF b ph).lo + (PhF b ph).w ≤ 32 := by
  cases ph <;> simp [PhF, BAY_STATE.PH0_STATE, BAY_STATE.PH1_STATE]
theorem PhF_apart (b : Nat) {ph q : Bool} (h : q ≠ ph) : (PhF b ph).apart (PhF b q) := by
  cases ph <;> cases q <;> simp [Fld.apart, PhF, BAY_STATE.PH0_STATE, BAY_STATE.PH1_STATE] at h ⊢

theorem State.bay_recPhase (s : State) (b : Nat) (ph : Bool) : (s.recPhase b ph).bay = s.bay := by
  unfold State.recPhase
  dsimp only
  split <;> rfl

theorem State.get_recPhase_same (s : State) (b : Nat) (ph : Bool) :
    (s.recPhase b ph).get (PhF b ph) = recorded ((s.bay b).ownSt ((s.bay b).ph ph)) (s.get (PhF b ph)) := by
  unfold State.recPhase recorded
  dsimp only
  split
  · rfl
  · rw [State.get_put_same _ _ _ (PhF_width b ph)]
    generalize (s.bay b).ownSt ((s.bay b).ph ph) = st
    cases ph <;> cases st <;> rfl

theorem State.get_recPhase_apart (s : State) (b : Nat) (ph : Bool) (f : Fld) (d : (PhF b ph).apart f) :
    (s.recPhase b ph).get f = s.get f := by
  unfold State.recPhase
  dsimp only
  split
  · rfl
  · exact State.get_put_apart _ _ _ _ (PhF_width b ph) d

theorem State.moves_recPhase {P : Nat → Prop} (s : State) (b : Nat) (ph : Bool) (off : ∀ a, P a → a ≠ (BAY_STATE.reg b).addr) :
    State.Moves P b s (s.recPhase b ph) := by
  unfold State.recPhase
  dsimp only
  split
  · exact .refl s
  · exact s.moves_put b _ _ fun a p => (PhF_addr b ph).symm ▸ off a p

/-- Oteus's record takes several phases. -/
def State.recNamed (s : State) (b : Nat) (l : List Bool) : State := l.foldl (fun s ph => s.recPhase b ph) s

theorem State.bay_recNamed (l : List Bool) (s : State) (b : Nat) : (s.recNamed b l).bay = s.bay := by
  induction l generalizing s with
  | nil => rfl
  | cons ph l ih => exact (ih _).trans (s.bay_recPhase b ph)

theorem State.get_recNamed_apart (l : List Bool) (s : State) (b : Nat) (f : Fld) (d : ∀ ph ∈ l, (PhF b ph).apart f) :
    (s.recNamed b l).get f = s.get f := by
  induction l generalizing s with
  | nil => rfl
  | cons ph l ih =>
    exact (ih _ fun q h => d q (List.mem_cons_of_mem _ h)).trans (s.get_recPhase_apart b ph f (d ph List.mem_cons_self))

theorem State.get_recNamed {l : List Bool} (nodup : l.Nodup) (s : State) (b : Nat) {q : Bool} (h : q ∈ l) :
    (s.recNamed b l).get (PhF b q) = recorded ((s.bay b).ownSt ((s.bay b).ph q)) (s.get (PhF b q)) := by
  induction l generalizing s with
  | nil => cases h
  | cons ph l ih =>
    obtain ⟨fresh, nodup⟩ := List.nodup_cons.mp nodup
    rcases List.mem_cons.mp h with rfl | h
    · exact (State.get_recNamed_apart l _ b _ fun r m => PhF_apart b (ne_of_mem_of_not_mem m fresh).symm).trans (s.get_recPhase_same b q)
    · refine (ih nodup (s.recPhase b ph) h).trans ?_
      rw [State.bay_recPhase, State.get_recPhase_apart _ _ _ _ (PhF_apart b (ne_of_mem_of_not_mem h fresh))]

theorem State.moves_recNamed {P : Nat → Prop} (l : List Bool) (s : State) (b : Nat) (off : ∀ a, P a → a ≠ (BAY_STATE.reg b).addr) :
    State.Moves P b s (s.recNamed b l) := by
  induction l generalizing s with
  | nil => exact .refl s
  | cons ph l ih => exact (s.moves_recPhase b ph off).trans (ih _)

/-! ### Oteus's record of a bay's state (R59, R214) -/

/-- The registers outside the yards' records and the fault collector's pages. -/
abbrev OffYards (a : Nat) : Prop := a / 0x1000 ∉ yardPages ++ faultPages

theorem offYards_bay (b k : Nat) : OffYards (0x200000 + 0x40 * b + k) := by
  have far : ∀ p ∈ yardPages ++ faultPages, p < 0x200 := by decide
  intro h
  have := far _ h
  omega

/-- A check of a yard's minimum changes the yard's record and reports at most. -/
structure State.Checks (s t : State) : Prop where
  words : s.Within t (yardPages ++ faultPages)
  bays : t.bays = s.bays
  mem : s.KeepsMem t

theorem State.Checks.refl (s : State) : s.Checks s := ⟨.refl s _, rfl, fun _ => ⟨rfl, rfl, rfl⟩⟩

theorem State.Checks.trans {s t u : State} (h : s.Checks t) (k : t.Checks u) : s.Checks u :=
  ⟨h.words.trans k.words, k.bays.trans h.bays, h.mem.trans k.mem⟩

theorem State.checks_put (s : State) (f : Fld) (v : Nat) (page : f.addr / 0x1000 ∈ yardPages ++ faultPages) : s.Checks (s.put f v) :=
  ⟨(State.Within.refl s _).put f v page, rfl, (s.reports_put f v).keepsMem⟩

theorem State.checks_setYard (s : State) (y : Nat) (v : Yard) : s.Checks (s.setYard y v) :=
  ⟨(State.Within.refl s _).regs rfl, rfl, s.keepsMem_setYard y v⟩

theorem State.checks_drew (s : State) : s.Checks s.drew := ⟨s.within_drew _, rfl, fun _ => ⟨rfl, rfl, rfl⟩⟩

theorem State.checks_notice (s : State) (k y c p : Nat) : s.Checks (s.notice k y c p) :=
  ⟨(s.within_notice k y c p).mono (by decide), (s.reports_notice k y c p).bays, (s.reports_notice k y c p).keepsMem⟩

theorem belowMin_page {y : Nat} (h : y < Config.yardCount) : (YRD_STATUS.BELOW_MIN y).addr / 0x1000 ∈ yardPages ++ faultPages := by
  refine List.mem_append_left _ ?_
  simp only [Config.yardCount] at h
  simp only [yardPages, YRD_STATUS.BELOW_MIN, List.mem_map, List.mem_range]
  exact ⟨y / 16, by omega, by omega⟩

/-- The branches of R214 step 1: no check, BELOW_MIN as it stands, or HOLD_REQ with it. -/
theorem State.checks_belowMinCheck (s : State) (y : Nat) : s.Checks (s.belowMinCheck y) := by
  unfold State.belowMinCheck
  split
  · exact .refl s
  next known =>
    have shows (v : Nat) := s.checks_put (YRD_STATUS.BELOW_MIN y) v (belowMin_page (by omega))
    split
    · exact shows 0
    split
    · exact shows 1
    split
    · exact .refl s
    · exact (((shows 1).trans (State.checks_setYard _ y _)).trans (State.checks_drew _)).trans (State.checks_notice _ 4 y 0 _)

/-- The registers that an order of bay b keeps: outside the yards' records and the fault collector's pages all but the bay's record. -/
abbrev OffBay (b a : Nat) : Prop := OffYards a ∧ a ∉ [(BAY_STATE.reg b).addr, (BAY_REF.reg b).addr]

theorem OffBay.ne_state {b a : Nat} (h : OffBay b a) : a ≠ (BAY_STATE.reg b).addr := fun e => h.2 (e ▸ List.mem_cons_self)
theorem OffBay.ne_ref {b a : Nat} (h : OffBay b a) : a ≠ (BAY_REF.reg b).addr :=
  fun e => h.2 (e ▸ List.mem_cons_of_mem _ List.mem_cons_self)

theorem State.Checks.get_bay {s t : State} (h : s.Checks t) (b : Nat) {f : Fld} (k : Nat) (e : f.addr = 0x200000 + 0x40 * b + k) :
    t.get f = s.get f := h.words.get f (e ▸ offYards_bay b k)

theorem State.Checks.moves {s t : State} (h : s.Checks t) (b : Nat) : State.Moves (OffBay b) b s t :=
  ⟨fun a p => h.words a p.1, fun _ _ => by simp only [State.bay, h.bays], h.mem⟩

/-- Oteus's record takes the bay's state and yard, before the yard's minimum is checked. -/
def State.showBay (s : State) (b : Nat) : State :=
  (if (s.bay b).st = .protect then s else s.put (BAY_STATE.STATE b) (s.bay b).st.code).put (BAY_STATE.YARD b) (s.bay b).yard

theorem State.recState_eq (s : State) (b : Nat) : s.recState b = (s.showBay b).belowMinCheck (s.bay b).yard := rfl

theorem State.bay_showBay (s : State) (b : Nat) : (s.showBay b).bay = s.bay := by
  unfold State.showBay
  split <;> rfl

theorem State.get_showBay_state (s : State) (b : Nat) (shown : (s.bay b).st ≠ .protect) :
    (s.showBay b).get (BAY_STATE.STATE b) = (s.bay b).st.code := by
  unfold State.showBay
  rw [if_neg shown, State.get_put_apart _ _ _ _ (by simp [BAY_STATE.YARD]) (by simp [Fld.apart, BAY_STATE.YARD, BAY_STATE.STATE]),
    State.get_put_same _ _ _ (by simp [BAY_STATE.STATE])]
  cases (s.bay b).st <;> rfl

theorem State.get_showBay_phase (s : State) (b : Nat) (ph : Bool) : (s.showBay b).get (PhF b ph) = s.get (PhF b ph) := by
  have yard : (BAY_STATE.YARD b).apart (PhF b ph) := by
    cases ph <;> simp [Fld.apart, PhF, BAY_STATE.YARD, BAY_STATE.PH0_STATE, BAY_STATE.PH1_STATE]
  have state : (BAY_STATE.STATE b).apart (PhF b ph) := by
    cases ph <;> simp [Fld.apart, PhF, BAY_STATE.STATE, BAY_STATE.PH0_STATE, BAY_STATE.PH1_STATE]
  unfold State.showBay
  rw [State.get_put_apart _ _ _ _ (by simp [BAY_STATE.YARD]) yard]
  split
  · rfl
  · exact State.get_put_apart _ _ _ _ (by simp [BAY_STATE.STATE]) state

theorem State.moves_showBay (s : State) (b : Nat) : State.Moves (OffBay b) b s (s.showBay b) := by
  unfold State.showBay
  refine .trans ?_ (State.moves_put _ b _ _ fun a p => p.ne_state)
  split
  · exact .refl s
  · exact s.moves_put b _ _ fun a p => p.ne_state

theorem State.bay_recState (s : State) (b : Nat) : (s.recState b).bay = s.bay := by
  rw [State.recState_eq]
  funext c
  simp only [State.bay, (State.checks_belowMinCheck _ _).bays]
  exact congrFun (s.bay_showBay b) c

theorem State.get_recState_state (s : State) (b : Nat) (shown : (s.bay b).st ≠ .protect) :
    (s.recState b).get (BAY_STATE.STATE b) = (s.bay b).st.code := by
  rw [State.recState_eq, (State.checks_belowMinCheck _ _).get_bay b 4 (by simp only [BAY_STATE.STATE]; omega)]
  exact s.get_showBay_state b shown

theorem State.get_recState_phase (s : State) (b : Nat) (ph : Bool) : (s.recState b).get (PhF b ph) = s.get (PhF b ph) := by
  rw [State.recState_eq, (State.checks_belowMinCheck _ _).get_bay b 4 (by rw [PhF_addr]; simp only [BAY_STATE.reg]; omega)]
  exact s.get_showBay_phase b ph

theorem State.moves_recState (s : State) (b : Nat) : State.Moves (OffBay b) b s (s.recState b) :=
  (s.moves_showBay b).trans ((State.checks_belowMinCheck _ _).moves b)

/-! ### The answer to a word that reaches one bay -/

theorem State.Moves.keepsPages {b : Nat} {s u : State} (h : State.Moves (OffBay b) b s u) :
    s.KeepsPages (s.answered u) (yardPages ++ faultPages) [(BAY_STATE.reg b).addr, (BAY_REF.reg b).addr] :=
  State.keepsPages_answered_of (fun a p n => h.words a ⟨p, n⟩) (by decide) (by decide)

theorem State.Moves.keepsRegs {b : Nat} {s u : State} (h : State.Moves (· ∉ [(BAY_STATE.reg b).addr]) b s u) :
    s.KeepsRegs (s.answered u) [(BAY_STATE.reg b).addr] := State.keepsRegs_answered h.words

@[simp] theorem State.answered_bay (s u : State) (b : Nat) : (s.answered u).bay b = u.bay b :=
  congrArg (Tab.get bayInit · b) u.reports_wired.bays

theorem State.Moves.others_answered {P : Nat → Prop} {b : Nat} {s u : State} (h : State.Moves P b s u) (c : Nat) (n : c ≠ b) :
    (s.answered u).bay c = s.bay c := (State.answered_bay s u c).trans (h.others c n)

theorem State.Moves.keepsMem_answered {P : Nat → Prop} {b : Nat} {s u : State} (h : State.Moves P b s u) : s.KeepsMem (s.answered u) :=
  State.keepsMem_answered h.mem

theorem State.get_answered_bay (s u : State) (b : Nat) {f : Fld} (k : Nat) (e : f.addr = 0x200000 + 0x40 * b + k) :
    (s.answered u).get f = u.get f :=
  State.get_answered s u f (by simp only [FLT_STATUS.reg]; omega) (by simp only [PRT_MP.reg]; omega)

theorem State.get_answered_phase (s u : State) (b : Nat) (ph : Bool) : (s.answered u).get (PhF b ph) = u.get (PhF b ph) :=
  State.get_answered_bay s u b 4 (by rw [PhF_addr]; simp only [BAY_STATE.reg]; omega)

/-! ### PHASE words (R60, R61, R63) -/

theorem Bay.ownSt_congr {v w : Bay} (h : w.allHands = v.allHands) (p : Phase) : w.ownSt p = v.ownSt p := by
  simp only [Bay.ownSt, h]

/-- A PHASE word carried out on the named phases, each recorded in turn. -/
def State.orderNamed (s : State) (b : Nat) (l : List Bool) (f : Bay → Phase → Phase) : State :=
  l.foldl (fun s ph => (s.modBay b fun v => v.setPh ph (f v (v.ph ph))).recPhase b ph) s

/-- A PHASE word that takes a phase p to g p, for a bay in all hands as `hands` says. -/
theorem State.orderNamed_spec {f : Bay → Phase → Phase} {g : Phase → Phase} {hands : Bool} (b : Nat)
    (uses : ∀ v p, v.allHands = hands → f v p = g p) (l : List Bool) (nodup : l.Nodup) (s : State) (held : (s.bay b).allHands = hands) :
    (s.orderNamed b l f).bay b = (s.bay b).mapNamed l g ∧
      (∀ q ∈ l, (s.orderNamed b l f).get (PhF b q) = recorded ((s.bay b).ownSt (g ((s.bay b).ph q))) (s.get (PhF b q))) ∧
      ∀ q ∉ l, (s.orderNamed b l f).get (PhF b q) = s.get (PhF b q) := by
  induction l generalizing s with
  | nil => exact ⟨rfl, fun _ h => absurd h List.not_mem_nil, fun _ _ => rfl⟩
  | cons ph l ih =>
    obtain ⟨new, nodup⟩ := List.nodup_cons.mp nodup
    obtain ⟨-, hands_eq, -⟩ := (s.bay b).setPh_rest ph (g ((s.bay b).ph ph))
    let u : State := (s.modBay b fun v => v.setPh ph (f v (v.ph ph))).recPhase b ph
    have bay : u.bay b = (s.bay b).setPh ph (g ((s.bay b).ph ph)) := by
      simp [u, State.bay_recPhase, uses _ _ held]
    have other (q : Bool) (n : q ≠ ph) : u.get (PhF b q) = s.get (PhF b q) :=
      (State.get_recPhase_apart _ b ph _ (PhF_apart b n)).trans rfl
    have same : u.get (PhF b ph) = recorded ((s.bay b).ownSt (g ((s.bay b).ph ph))) (s.get (PhF b ph)) := by
      refine (State.get_recPhase_same _ b ph).trans ?_
      rw [State.bay_modBay, State.get_modBay, uses _ _ held, Bay.ph_setPh, if_pos rfl, Bay.ownSt_congr hands_eq]
    obtain ⟨bays, inside, outside⟩ := ih nodup u (by rw [bay, hands_eq, held])
    refine ⟨bays.trans (by rw [bay]; rfl), fun q h => ?_, fun q h => ?_⟩
    · rcases List.mem_cons.mp h with rfl | h
      · exact (outside q new).trans same
      · have n : q ≠ ph := ne_of_mem_of_not_mem h new
        refine (inside q h).trans ?_
        rw [bay, other q n, Bay.ownSt_congr hands_eq, Bay.ph_setPh, if_neg n]
    · obtain ⟨n, h⟩ := not_or.mp fun e => h (List.mem_cons.mpr e)
      exact (outside q h).trans (other q n)

theorem State.moves_orderNamed {P : Nat → Prop} (b : Nat) (off : ∀ a, P a → a ≠ (BAY_STATE.reg b).addr) (f : Bay → Phase → Phase)
    (l : List Bool) (s : State) : State.Moves P b s (s.orderNamed b l f) := by
  induction l generalizing s with
  | nil => exact .refl s
  | cons ph l ih => exact ((s.moves_modBay b _).trans (State.moves_recPhase _ b ph off)).trans (ih _)

theorem State.decodePhase_reaches {s : State} {seg slot b order : Nat} {ph1 ph0 : Bool} {crc : BitVec 4} {f : Bay → Phase → Phase}
    (right : fbbOk (withCrc (phaseWord slot ph1 ph0 order) crc) = true) (slotted : b = 80 * seg + slot) (listens : b ∈ s.listeners seg)
    (open_ : (s.bay b).st ≠ .fenced) (own : (s.bay b).st ≠ .connect) (there : (s.bay b).st ≠ .absent) :
    s.decodePhase seg slot ph1 ph0 order crc f =
      (s.decoded seg (withCrc (phaseWord slot ph1 ph0 order) crc)).orderNamed b (named ph1 ph0) f := by
  have takes : ¬ ((s.bay b).st = .fenced ∨ (s.bay b).st = .connect ∨ (s.bay b).st = .absent) := by simp [open_, own, there]
  exact (State.decodeWord_bySlot right slotted listens _).trans (if_neg takes)

/-- What SHED_PREP, CANCEL and CLEAR_TRIP, each as its g, leave of the bay they reach. -/
theorem State.decodePhase_spec {s : State} {seg slot b order : Nat} {ph1 ph0 : Bool} {crc : BitVec 4} {f : Bay → Phase → Phase}
    {g : Phase → Phase} (right : fbbOk (withCrc (phaseWord slot ph1 ph0 order) crc) = true) (slotted : b = 80 * seg + slot)
    (listens : b ∈ s.listeners seg) (open_ : (s.bay b).st ≠ .fenced) (own : (s.bay b).st ≠ .connect) (there : (s.bay b).st ≠ .absent)
    (uses : ∀ v p, v.allHands = (s.bay b).allHands → f v p = g p) :
    (∀ ph, (if ph then ph1 else ph0) = true →
      (((s.answered (s.decodePhase seg slot ph1 ph0 order crc f)).bay b).ph ph) = g ((s.bay b).ph ph) ∧
      (s.answered (s.decodePhase seg slot ph1 ph0 order crc f)).get (PhF b ph) =
        recorded ((s.bay b).ownSt (g ((s.bay b).ph ph))) (s.get (PhF b ph))) ∧
    State.Moves (· ∉ [(BAY_STATE.reg b).addr]) b s (s.decodePhase seg slot ph1 ph0 order crc f) := by
  rw [State.decodePhase_reaches right slotted listens open_ own there]
  obtain ⟨bay, inside, -⟩ := State.orderNamed_spec b uses (named ph1 ph0) (nodup_named ph1 ph0)
    (s.decoded seg (withCrc (phaseWord slot ph1 ph0 order) crc)) rfl
  refine ⟨fun ph h => ?_, (s.moves_decoded b seg _).trans (State.moves_orderNamed b (fun a n => by simpa using n) f _ _)⟩
  have mem := mem_named.mpr h
  refine ⟨?_, (State.get_answered_phase s _ b ph).trans (inside ph mem)⟩
  rw [State.answered_bay, bay, Bay.ph_mapNamed (nodup_named ph1 ph0), if_pos mem]
  rfl

end Sys2Proof.Machine
end

section
/-!
SUPPORT. ADD, SHED_PREP, CANCEL and CLEAR_TRIP (R60-R63, R112): what each makes of a phase. Obligation PhaseOrdersActOnNamedPhases.
-/

namespace Sys2Proof.Machine

theorem recorded_of {st : PhSt} {r : Nat} (on : st.out = false) (kept : r ≠ 5) : recorded st r = st.code := by
  simp [recorded, on, kept]

/-- What SHED_PREP, CANCEL and CLEAR_TRIP make of a phase, by whether its bay is in all hands (R60-R63). -/
def Phase.prepare (hands : Bool) (p : Phase) : Phase := if hands then p else if p.st = .active then { p with st := .shedPrep } else p
def Phase.keep (p : Phase) : Phase := if p.st = .shedPrep then { p with st := .active } else p
def Phase.clear (p : Phase) : Phase := if p.st = .tripped then { p with st := .cold, saved := .cold, addStored := false } else p

theorem exec_shedPrep (seg slot : Nat) (ph1 ph0 : Bool) (crc : BitVec 4) (s : State) :
    exec (.shedPrep seg slot ph1 ph0 crc) s = .next (s.answered (s.decodePhase seg slot ph1 ph0 1 crc fun v p => p.prepare v.allHands)) := rfl
theorem exec_cancel (seg slot : Nat) (ph1 ph0 : Bool) (crc : BitVec 4) (s : State) :
    exec (.cancel seg slot ph1 ph0 crc) s = .next (s.answered (s.decodePhase seg slot ph1 ph0 2 crc fun _ p => p.keep)) := rfl
theorem exec_clearTrip (seg slot : Nat) (ph1 ph0 : Bool) (crc : BitVec 4) (s : State) :
    exec (.clearTrip seg slot ph1 ph0 crc) s = .next (s.answered (s.decodePhase seg slot ph1 ph0 3 crc fun _ p => p.clear)) := rfl

/-! ### ADD (R59-R61, R112) -/

/-- What ADD makes of a phase of a bay v (R61 rule 4). -/
def Bay.add (v : Bay) (horizon : Option Nat) (p : Phase) : Phase :=
  if p.st.out then p
  else if v.allHands then p.storeAdd horizon
  else if p.st = .shedPrep then { p with st := .active }
  else p.activate

/-- A bay after an ADD. -/
def Bay.afterAdd (v : Bay) (l : List Bool) (horizon : Option Nat) : Bay :=
  if v.allHands then v.mapNamed l (v.add horizon) else (v.mapNamed l (v.add horizon)).readyRuns

theorem exec_add (seg slot : Nat) (ph1 ph0 : Bool) (crc : BitVec 4) (s : State) :
    exec (.add seg slot ph1 ph0 crc) s = .next (s.answered (decodeAdd seg slot ph1 ph0 crc s)) := rfl

/-- A bay in RUN carries an ADD out: its phases first, Oteus's record after them. -/
theorem decodeAdd_reaches {s : State} {seg slot b : Nat} {ph1 ph0 : Bool} {crc : BitVec 4}
    (right : fbbOk (withCrc (phaseWord slot ph1 ph0 0) crc) = true) (slotted : b = 80 * seg + slot) (listens : b ∈ s.listeners seg)
    (runs : (s.bay b).st = .run) :
    decodeAdd seg slot ph1 ph0 crc s =
      ((((s.decoded seg (withCrc (phaseWord slot ph1 ph0 0) crc)).setBay b
        ((s.bay b).afterAdd (named ph1 ph0) (s.addHorizon (s.bay b).yard))).recState b).recNamed b (named ph1 ph0)) := by
  have takes : ¬ ((s.bay b).st ≠ .run ∧ (s.bay b).st ≠ .ready ∧ !(s.bay b).allHands ∨ (s.bay b).st = .fenced ∨ (s.bay b).st = .connect ∨
      (s.bay b).st = .absent) := by simp [runs]
  exact (State.decodeWord_bySlot right slotted listens _).trans (if_neg takes)

theorem Bay.afterAdd_run {v : Bay} (runs : v.st = .run) (l : List Bool) (horizon : Option Nat) :
    v.afterAdd l horizon = v.mapNamed l (v.add horizon) := by
  obtain ⟨st, -⟩ := Bay.mapNamed_rest l (v.add horizon) v
  have stays : (v.mapNamed l (v.add horizon)).readyRuns = v.mapNamed l (v.add horizon) := by
    simp [Bay.readyRuns, st, runs]
  rw [Bay.afterAdd, stays, ite_self]

/-- What an ADD leaves of the bay in RUN that it reaches. -/
theorem decodeAdd_spec {s : State} {seg slot b : Nat} {ph1 ph0 : Bool} {crc : BitVec 4}
    (right : fbbOk (withCrc (phaseWord slot ph1 ph0 0) crc) = true) (slotted : b = 80 * seg + slot) (listens : b ∈ s.listeners seg)
    (runs : (s.bay b).st = .run) :
    (decodeAdd seg slot ph1 ph0 crc s).bay b = (s.bay b).mapNamed (named ph1 ph0) ((s.bay b).add (s.addHorizon (s.bay b).yard)) ∧
    (∀ ph ∈ named ph1 ph0, (decodeAdd seg slot ph1 ph0 crc s).get (PhF b ph) =
      recorded ((s.bay b).ownSt ((s.bay b).add (s.addHorizon (s.bay b).yard) ((s.bay b).ph ph))) (s.get (PhF b ph))) ∧
    State.Moves (OffBay b) b s (decodeAdd seg slot ph1 ph0 crc s) := by
  rw [decodeAdd_reaches right slotted listens runs, Bay.afterAdd_run runs]
  generalize s.addHorizon (s.bay b).yard = horizon
  obtain ⟨-, hands, -⟩ := Bay.mapNamed_rest (named ph1 ph0) ((s.bay b).add horizon) (s.bay b)
  have set := State.moves_modBay (P := OffBay b) (s.decoded seg (withCrc (phaseWord slot ph1 ph0 0) crc)) b fun _ =>
    (s.bay b).mapNamed (named ph1 ph0) ((s.bay b).add horizon)
  refine ⟨?_, fun ph h => ?_, (((s.moves_decoded b seg _).trans set).trans (State.moves_recState _ b)).trans
    (State.moves_recNamed _ _ b fun a p => p.ne_state)⟩
  · rw [State.bay_recNamed, State.bay_recState, State.bay_setBay, if_pos rfl]
  · rw [State.get_recNamed (nodup_named ph1 ph0) _ _ h, State.bay_recState, State.bay_setBay, if_pos rfl, Bay.ownSt_congr hands,
      Bay.ph_mapNamed (nodup_named ph1 ph0), if_pos h, State.get_recState_phase]
    rfl

theorem Bay.st_add_active {v : Bay} (free : v.allHands = false) (horizon : Option Nat) {p : Phase} (on : p.st.out = false) :
    (v.add horizon p).st = .active := by
  simp only [Bay.add, on, free, Bool.false_eq_true, if_false, Phase.activate]
  split
  · rfl
  · split <;> simp_all

theorem Bay.add_stored {v : Bay} (held : v.allHands = true) (horizon : Option Nat) {p : Phase} (on : p.st.out = false) :
    v.add horizon p = p.storeAdd horizon := by simp [Bay.add, on, held]

/-- Settles O21: ADD by the bay it leaves and the record taken from it, the three other orders each by its change of a phase. -/
theorem phaseOrdersActOnNamedPhases : Obligations.PhaseOrdersActOnNamedPhases := by
  unfold Obligations.PhaseOrdersActOnNamedPhases
  refine ⟨?add, ?stored, ?shedPrep, ?cancel, ?clearTrip⟩
  case add =>
    intro seg slot ph1 ph0 crc b s right slotted listens runs free
    obtain ⟨bay, shown, moves⟩ := decodeAdd_spec right slotted listens runs
    refine ⟨_, exec_add .., fun ph on h => ?_, fun ph h => ?_, moves.others_answered, moves.keepsPages, moves.keepsMem_answered⟩
    · have mem := mem_named.mpr h
      have active := Bay.st_add_active free (s.addHorizon (s.bay b).yard) on
      rw [State.answered_bay, bay, Bay.ph_mapNamed (nodup_named ph1 ph0), if_pos mem]
      refine ⟨active, fun kept => ?_⟩
      rw [State.get_answered_phase, shown ph mem, Bay.ownSt, if_neg (by simp [free]), active, recorded_of rfl kept]
      rfl
    · rw [State.answered_bay, bay, Bay.ph_mapNamed (nodup_named ph1 ph0), if_neg (by simp [mem_named, h])]
  case stored =>
    intro seg slot ph1 ph0 crc b s right slotted listens runs held
    obtain ⟨bay, -, moves⟩ := decodeAdd_spec right slotted listens runs
    refine ⟨_, exec_add .., fun ph on h => ?_, fun ph h => ?_, moves.others_answered, moves.keepsPages, moves.keepsMem_answered⟩
    · rw [State.answered_bay, bay, Bay.ph_mapNamed (nodup_named ph1 ph0), if_pos (mem_named.mpr h), Bay.add_stored held _ on]
      exact ⟨rfl, rfl⟩
    · rw [State.answered_bay, bay, Bay.ph_mapNamed (nodup_named ph1 ph0), if_neg (by simp [mem_named, h])]
  case shedPrep =>
    intro seg slot ph1 ph0 crc b s right slotted listens open_ own there
    obtain ⟨phases, moves⟩ := State.decodePhase_spec (f := fun v p => p.prepare v.allHands) (g := Phase.prepare (s.bay b).allHands) right
      slotted listens open_ own there (fun v p h => by rw [h])
    refine ⟨_, exec_shedPrep .., fun ph h active => ?_, moves.others_answered, moves.keepsRegs, moves.keepsMem_answered⟩
    obtain ⟨phase, shown⟩ := phases ph h
    rw [phase, shown]
    refine ⟨?_, fun free kept => ?_⟩
    · cases (s.bay b).allHands <;> simp [Phase.prepare, active]
    · simp only [Phase.prepare, free, active, Bay.ownSt, Bool.false_eq_true, if_false, if_true, false_and]
      exact recorded_of rfl kept
  case cancel =>
    intro seg slot ph1 ph0 crc b s right slotted listens open_ own there
    obtain ⟨phases, moves⟩ := State.decodePhase_spec (f := fun _ p => p.keep) (g := Phase.keep) right slotted listens open_ own there
      (fun _ _ _ => rfl)
    refine ⟨_, exec_cancel .., fun ph h shed => ?_, moves.others_answered, moves.keepsRegs, moves.keepsMem_answered⟩
    obtain ⟨phase, shown⟩ := phases ph h
    rw [phase, shown]
    refine ⟨by simp [Phase.keep, shed], fun free kept => ?_⟩
    simp only [Phase.keep, shed, Bay.ownSt, free, Bool.false_eq_true, if_false, if_true, false_and]
    exact recorded_of rfl kept
  case clearTrip =>
    intro seg slot ph1 ph0 crc b s right slotted listens open_ own there
    obtain ⟨phases, moves⟩ := State.decodePhase_spec (f := fun _ p => p.clear) (g := Phase.clear) right slotted listens open_ own there
      (fun _ _ _ => rfl)
    refine ⟨_, exec_clearTrip .., fun ph h tripped => ?_, moves.others_answered, moves.keepsRegs, moves.keepsMem_answered⟩
    obtain ⟨phase, shown⟩ := phases ph h
    rw [phase, shown]
    refine ⟨by simp [Phase.clear, tripped], fun kept => ?_⟩
    simp only [Phase.clear, tripped, Bay.ownSt, if_true, ite_self]
    exact recorded_of rfl kept

end Sys2Proof.Machine
end

section
/-!
SUPPORT. The BAY_STATE words (R59, R76, R278, R430, R431): what each makes of the bay it reaches, and that Oteus's record shows it.
Obligation BayStateOrdersMoveTheBay.
-/

namespace Sys2Proof.Machine

theorem exec_bayStateOff (seg slot : Nat) (crc : BitVec 4) (s : State) :
    exec (.bayStateOff seg slot crc) s = .next (s.answered (decodeOff seg slot crc s)) := rfl
theorem exec_bayStateReady (seg slot : Nat) (crc : BitVec 4) (s : State) :
    exec (.bayStateReady seg slot crc) s = .next (s.answered (decodeReady seg slot crc s)) := rfl
theorem exec_bayStateRun (seg slot : Nat) (crc : BitVec 4) (s : State) :
    exec (.bayStateRun seg slot crc) s = .next (s.answered (decodeRun seg slot crc s)) := rfl
theorem exec_bayStateHeat (seg slot : Nat) (crc : BitVec 4) (s : State) :
    exec (.bayStateHeat seg slot crc) s = .next (s.answered (decodeHeat seg slot crc s)) := rfl
theorem exec_bayStateFence (seg slot : Nat) (crc : BitVec 4) (s : State) :
    exec (.bayStateFence seg slot crc) s = .next (s.answered (decodeFence seg slot crc s)) := rfl
theorem exec_bayStateRelease (seg slot : Nat) (crc : BitVec 4) (s : State) :
    exec (.bayStateRelease seg slot crc) s = .next (s.answered (decodeRelease seg slot crc s)) := rfl

/-! ### The slew of a bay marked where it stands (R57, R73) -/

/-- What a mark of the slew leaves of a bay: its state, its phases, whether it is in all hands. -/
structure Bay.Stays (v w : Bay) : Prop where
  st : w.st = v.st
  p0 : w.p0 = v.p0
  p1 : w.p1 = v.p1
  allHands : w.allHands = v.allHands

theorem Bay.Stays.ph {v w : Bay} (h : v.Stays w) (q : Bool) : w.ph q = v.ph q := by
  cases q
  · exact h.p0
  · exact h.p1

theorem State.checkClamp_cases (s : State) (b : Nat) : s.checkClamp b = s ∨ s.checkClamp b = s.modBay b (·.event evCLAMP) := by
  unfold State.checkClamp
  split
  · exact .inr rfl
  · exact .inl rfl

theorem State.checkMoved_cases (s : State) (b : Nat) : s.checkMoved b = s ∨ s.checkMoved b = s.modBay b (·.event evCLAMP) := by
  unfold State.checkMoved
  split
  · exact .inl rfl
  · exact s.checkClamp_cases b

theorem State.moves_checkMoved {P : Nat → Prop} (s : State) (b : Nat) : State.Moves P b s (s.checkMoved b) := by
  rcases s.checkMoved_cases b with h | h <;> rw [h]
  · exact .refl s
  · exact s.moves_modBay b _

theorem State.stays_checkMoved (s : State) (b : Nat) : (s.bay b).Stays ((s.checkMoved b).bay b) := by
  rcases s.checkMoved_cases b with h | h <;> rw [h]
  · exact ⟨rfl, rfl, rfl, rfl⟩
  · rw [State.bay_modBay]
    exact ⟨rfl, rfl, rfl, rfl⟩

theorem State.moves_markVid (s : State) (b : Nat) : State.Moves (OffBay b) b s (s.markVid b) :=
  ((s.moves_checkMoved b).trans (State.moves_put _ b _ _ fun _ p => p.ne_ref)).trans (State.moves_modBay _ b _)

theorem State.stays_markVid (s : State) (b : Nat) : (s.bay b).Stays ((s.markVid b).bay b) := by
  obtain ⟨st, p0, p1, hands⟩ := s.stays_checkMoved b
  rw [State.markVid, State.bay_modBay, State.bay_put]
  exact ⟨st, p0, p1, hands⟩

/-! ### What an order shows (R59) -/

theorem State.bay_recBay (s : State) (b : Nat) : (s.recBay b).bay = s.bay :=
  ((State.bay_recPhase _ _ _).trans (State.bay_recPhase _ _ _)).trans (s.bay_recState b)

theorem State.moves_recBay (s : State) (b : Nat) : State.Moves (OffBay b) b s (s.recBay b) :=
  ((s.moves_recState b).trans (State.moves_recPhase _ b false fun _ p => p.ne_state)).trans
    (State.moves_recPhase _ b true fun _ p => p.ne_state)

theorem State.get_recBay_state (s : State) (b : Nat) (shown : (s.bay b).st ≠ .protect) :
    (s.recBay b).get (BAY_STATE.STATE b) = (s.bay b).st.code := by
  have apart (ph : Bool) : (PhF b ph).apart (BAY_STATE.STATE b) := by
    cases ph <;> simp [Fld.apart, PhF, BAY_STATE.STATE, BAY_STATE.PH0_STATE, BAY_STATE.PH1_STATE]
  exact ((State.get_recPhase_apart _ b true _ (apart true)).trans (State.get_recPhase_apart _ b false _ (apart false))).trans
    (s.get_recState_state b shown)

/-- Oteus's record of a bay leaves the bay's reference. -/
theorem State.get_recBay_ref (s : State) (b : Nat) {f : Fld} (ref : f.addr = (BAY_REF.reg b).addr) : (s.recBay b).get f = s.get f := by
  have off (g : Fld) (state : g.addr = (BAY_STATE.reg b).addr) : f.addr ≠ g.addr := by
    rw [ref, state]
    simp [BAY_REF.reg, BAY_STATE.reg]
  have phase (u : State) (ph : Bool) : (u.recPhase b ph).get f = u.get f :=
    State.get_recPhase_apart u b ph f (.inl (off _ (PhF_addr b ph)).symm)
  refine ((phase _ true).trans (phase _ false)).trans ?_
  rw [State.recState_eq, (State.checks_belowMinCheck _ _).get_bay b 0x18 (by rw [ref]; simp only [BAY_REF.reg]; omega), State.showBay,
    State.get_put_addr _ _ _ _ (off (BAY_STATE.YARD b) rfl)]
  split
  · rfl
  · exact State.get_put_addr _ _ _ _ (off (BAY_STATE.STATE b) rfl)

/-- An order that leaves bay b in state st, as its effect shows it, and what its answer keeps. -/
theorem State.Moves.shows {s u : State} {b : Nat} {st : BaySt} (moves : State.Moves (OffBay b) b s u) (is : (u.bay b).st = st)
    (shown : u.get (BAY_STATE.STATE b) = st.code) :
    ((s.answered u).bay b).st = st ∧ (s.answered u).get (BAY_STATE.STATE b) = st.code ∧
      (∀ c, c ≠ b → (s.answered u).bay c = s.bay c) ∧
      s.KeepsPages (s.answered u) (yardPages ++ faultPages) [(BAY_STATE.reg b).addr, (BAY_REF.reg b).addr] ∧ s.KeepsMem (s.answered u) :=
  ⟨by rw [State.answered_bay, is], (State.get_answered_bay s u b 4 (by simp only [BAY_STATE.STATE]; omega)).trans shown,
    moves.others_answered, moves.keepsPages, moves.keepsMem_answered⟩

/-- An order whose effect ends with Oteus's record of the bay. -/
theorem State.Moves.recorded {s u : State} {b : Nat} {st : BaySt} (moves : State.Moves (OffBay b) b s u) (is : (u.bay b).st = st)
    (shown : st ≠ .protect) :
    ((s.answered (u.recBay b)).bay b).st = st ∧ (s.answered (u.recBay b)).get (BAY_STATE.STATE b) = st.code ∧
      (∀ c, c ≠ b → (s.answered (u.recBay b)).bay c = s.bay c) ∧
      s.KeepsPages (s.answered (u.recBay b)) (yardPages ++ faultPages) [(BAY_STATE.reg b).addr, (BAY_REF.reg b).addr] ∧
      s.KeepsMem (s.answered (u.recBay b)) :=
  State.Moves.shows (moves.trans (u.moves_recBay b)) (by rw [State.bay_recBay, is])
    ((u.get_recBay_state b (by rw [is]; exact shown)).trans (by rw [is]))

theorem State.bay_recorded (s u : State) (b : Nat) : (s.answered (u.recBay b)).bay b = u.bay b := by
  rw [State.answered_bay, State.bay_recBay]

/-! ### BAY_STATE words -/

section
variable {s : State} {seg slot order b : Nat} {crc : BitVec 4}

theorem State.decodeState_reaches (f : State → Nat → State) (right : fbbOk (withCrc (bayStateWord slot order) crc) = true)
    (slotted : b = 80 * seg + slot) (listens : b ∈ s.listeners seg) :
    s.decodeState seg slot order crc f = f (s.decoded seg (withCrc (bayStateWord slot order) crc)) b :=
  State.decodeWord_bySlot right slotted listens f

end

/-- A bay sent OFF (R59). -/
def State.switchOff (s : State) (b : Nat) : State :=
  ((s.modBay b fun v => { (v.phases Phase.off) with st := .off, heat := 0, allHands := false, target := 0, lead := 0 }).put
    (BAY_REF.TRIM b) 0).put (BAY_REF.VID_NOW b) 0

/-- A bay sent READY (R59). -/
def State.makeReady (s : State) (b : Nat) : State :=
  (s.markVid b).modBay b fun v => { (v.phases fun p => p.own v.allHands .cold) with st := .ready, heat := 0 }

/-- A bay sent to RUN (R430). -/
def State.startRun (s : State) (b : Nat) : State := (s.markVid b).modBay b (·.toRun)

/-- A bay in HEAT, the n-th to be sent there (R278). -/
def Bay.toHeat (v : Bay) (n : Nat) : Bay := { (v.phases fun p => p.own v.allHands .warm) with st := .heat, heatAt := n }

/-- Orders to HEAT are numbered. -/
def State.countHeat (s : State) (n : Nat) : State := { s with heatSeq := n }

/-- A bay sent to HEAT (R278). -/
def State.warmUp (s : State) (b : Nat) : State :=
  ((s.markVid b).countHeat (s.heatSeq + 1)).modBay b (·.toHeat (s.heatSeq + 1))

/-- A bay FENCED (R59). -/
def Bay.toFenced (v : Bay) : Bay :=
  { ((v.phases Phase.off).phases fun p => { p with frozen := none }) with
    st := .fenced, heat := 0, allHands := false, nospare := false, failRead := none, discTo := if v.discStep = 0 then v.discTo else .fenced }

/-- A bay fenced by an order (R59). -/
def State.shutIn (s : State) (b : Nat) : State := (s.markVid b).modBay b (·.toFenced)

/-- A fenced bay released to its service yard (R431). -/
def State.unfence (s : State) (b : Nat) : State :=
  s.modBay b fun v => { v with st := .off, yard := (Config.serviceYard b).getD 127, failFenced := false, failKind := 0 }

/-- What follows a release: the segments of the yard it leaves, the wait of a bay whose service yard is on (R76, R431). -/
def State.afterRelease (s : State) (b y : Nat) : State :=
  let s := if y < Config.yardCount then s.refreshSegments y else s
  match Config.serviceYard b with
  | some z => if s.domState z ≤ 3 ∧ s.runBays z ≠ [] then s.modBay b fun v => { v with releasing := true } else s
  | none => s

section
variable {s : State} {seg slot b : Nat} {crc : BitVec 4}

theorem decodeOff_reaches (right : fbbOk (withCrc (bayStateWord slot 0) crc) = true) (slotted : b = 80 * seg + slot)
    (listens : b ∈ s.listeners seg) (open_ : (s.bay b).st ≠ .fenced) (own : (s.bay b).st ≠ .connect) (there : (s.bay b).st ≠ .absent) :
    decodeOff seg slot crc s = ((s.decoded seg (withCrc (bayStateWord slot 0) crc)).switchOff b).recBay b := by
  unfold decodeOff
  rw [State.decodeState_reaches _ right slotted listens]
  dsimp only
  split
  · exact absurd ‹_› there
  · exact absurd ‹_› open_
  · exact absurd ‹_› own
  · rfl

theorem decodeReady_reaches (right : fbbOk (withCrc (bayStateWord slot 1) crc) = true) (slotted : b = 80 * seg + slot)
    (listens : b ∈ s.listeners seg) (from_ : (s.bay b).st = .off ∨ (s.bay b).st = .ready ∨ (s.bay b).st = .run ∨ (s.bay b).st = .heat) :
    decodeReady seg slot crc s = ((s.decoded seg (withCrc (bayStateWord slot 1) crc)).makeReady b).recBay b := by
  unfold decodeReady
  rw [State.decodeState_reaches _ right slotted listens]
  have same : (s.decoded seg (withCrc (bayStateWord slot 1) crc)).bay b = s.bay b := rfl
  rcases from_ with h | h | h | h <;> simp only [same, h] <;> rfl

theorem decodeRun_reaches (right : fbbOk (withCrc (bayStateWord slot 2) crc) = true) (slotted : b = 80 * seg + slot)
    (listens : b ∈ s.listeners seg) (from_ : (s.bay b).st = .off ∨ (s.bay b).st = .ready ∨ (s.bay b).st = .heat) :
    decodeRun seg slot crc s = ((s.decoded seg (withCrc (bayStateWord slot 2) crc)).startRun b).recBay b := by
  unfold decodeRun
  rw [State.decodeState_reaches _ right slotted listens]
  have same : (s.decoded seg (withCrc (bayStateWord slot 2) crc)).bay b = s.bay b := rfl
  rcases from_ with h | h | h <;> simp only [same, h] <;> rfl

theorem decodeHeat_reaches (right : fbbOk (withCrc (bayStateWord slot 3) crc) = true) (slotted : b = 80 * seg + slot)
    (listens : b ∈ s.listeners seg) (from_ : (s.bay b).st = .ready ∨ (s.bay b).st = .run) :
    decodeHeat seg slot crc s = ((s.decoded seg (withCrc (bayStateWord slot 3) crc)).warmUp b).recBay b := by
  unfold decodeHeat
  rw [State.decodeState_reaches _ right slotted listens]
  have same : (s.decoded seg (withCrc (bayStateWord slot 3) crc)).bay b = s.bay b := rfl
  rcases from_ with h | h <;> simp only [same, h] <;> rfl

theorem decodeFence_reaches (right : fbbOk (withCrc (bayStateWord slot 4) crc) = true) (slotted : b = 80 * seg + slot)
    (listens : b ∈ s.listeners seg) (open_ : (s.bay b).st ≠ .fenced) (own : (s.bay b).st ≠ .connect) (there : (s.bay b).st ≠ .absent) :
    decodeFence seg slot crc s = ((s.decoded seg (withCrc (bayStateWord slot 4) crc)).shutIn b).recBay b := by
  unfold decodeFence
  rw [State.decodeState_reaches _ right slotted listens]
  dsimp only
  split
  · exact absurd ‹_› there
  · exact absurd ‹_› open_
  · exact absurd ‹_› own
  · rfl

theorem decodeRelease_reaches (right : fbbOk (withCrc (bayStateWord slot 5) crc) = true) (slotted : b = 80 * seg + slot)
    (listens : b ∈ s.listeners seg) (fenced : (s.bay b).st = .fenced) (p0 : (s.bay b).p0.st ≠ .failed) (p1 : (s.bay b).p1.st ≠ .failed)
    (ph0 : s.get (PhF b false) ≠ 5) (ph1 : s.get (PhF b true) ≠ 5) (rests : (s.bay b).discStep = 0) :
    decodeRelease seg slot crc s =
      (((s.decoded seg (withCrc (bayStateWord slot 5) crc)).unfence b).recBay b).afterRelease b (s.bay b).yard := by
  unfold decodeRelease
  rw [State.decodeState_reaches _ right slotted listens]
  have same : (s.decoded seg (withCrc (bayStateWord slot 5) crc)).bay b = s.bay b := rfl
  have get (f : Fld) : (s.decoded seg (withCrc (bayStateWord slot 5) crc)).get f = s.get f := rfl
  dsimp only
  rw [if_neg (by simp [same, rests]), if_pos (by simp [same, get, fenced, p0, p1, ph0, ph1])]
  rfl

end

theorem Phase.st_off {p : Phase} (on : p.st.out = false) : p.off.st = .cold := by simp [Phase.off, on]

theorem Phase.st_own {p : Phase} (on : p.st.out = false) (st : PhSt) : (p.own false st).st = st := by simp [Phase.own, on]

theorem Phase.st_run {p : Phase} (on : p.st.out = false) (fresh : Bool) : (p.run fresh).st = .active := by
  simp only [Phase.run, Phase.activate, on, Bool.false_eq_true, if_false]
  split
  · assumption
  · rfl

/-! ### Each order's effect -/

section
variable {s : State} {b : Nat}

theorem State.moves_switchOff (s : State) (b : Nat) : State.Moves (OffBay b) b s (s.switchOff b) :=
  ((s.moves_modBay b _).trans (State.moves_put _ b _ _ fun _ p => p.ne_ref)).trans (State.moves_put _ b _ _ fun _ p => p.ne_ref)

theorem State.st_switchOff (s : State) (b : Nat) : ((s.switchOff b).bay b).st = .off := by
  rw [State.switchOff, State.bay_put, State.bay_put, State.bay_modBay]

theorem State.get_switchOff_trim (s : State) (b : Nat) : (s.switchOff b).get (BAY_REF.TRIM b) = 0 := by
  rw [State.switchOff, State.get_put_apart _ _ _ _ (by simp [BAY_REF.VID_NOW]) (by simp [Fld.apart, BAY_REF.VID_NOW, BAY_REF.TRIM]),
    State.get_put_same _ _ _ (by simp [BAY_REF.TRIM]), Nat.zero_mod]

theorem State.get_switchOff_vidNow (s : State) (b : Nat) : (s.switchOff b).get (BAY_REF.VID_NOW b) = 0 := by
  rw [State.switchOff, State.get_put_same _ _ _ (by simp [BAY_REF.VID_NOW]), Nat.zero_mod]

theorem State.moves_makeReady (s : State) (b : Nat) : State.Moves (OffBay b) b s (s.makeReady b) :=
  (s.moves_markVid b).trans (State.moves_modBay _ b _)

theorem State.st_makeReady (s : State) (b : Nat) : ((s.makeReady b).bay b).st = .ready := by
  rw [State.makeReady, State.bay_modBay]

theorem State.moves_countHeat {P : Nat → Prop} (s : State) (b n : Nat) : State.Moves P b s (s.countHeat n) :=
  ⟨fun _ _ => rfl, fun _ _ => rfl, fun _ => ⟨rfl, rfl, rfl⟩⟩

theorem State.bay_countHeat (s : State) (n c : Nat) : (s.countHeat n).bay c = s.bay c := rfl

theorem State.moves_warmUp (s : State) (b : Nat) : State.Moves (OffBay b) b s (s.warmUp b) :=
  ((s.moves_markVid b).trans (State.moves_countHeat _ b _)).trans (State.moves_modBay _ b _)

theorem State.bay_warmUp (s : State) (b : Nat) : (s.warmUp b).bay b = ((s.markVid b).bay b).toHeat (s.heatSeq + 1) := by
  rw [State.warmUp, State.bay_modBay, State.bay_countHeat]

theorem Bay.ph_toHeat (v : Bay) (n : Nat) (q : Bool) : (v.toHeat n).ph q = (v.ph q).own v.allHands .warm := by cases q <;> rfl

theorem State.ph_warmUp (free : (s.bay b).allHands = false) {q : Bool} (on : ((s.bay b).ph q).st.out = false) :
    (((s.warmUp b).bay b).ph q).st = .warm := by
  have stays := s.stays_markVid b
  rw [State.bay_warmUp, Bay.ph_toHeat, stays.ph, stays.allHands, free, Phase.st_own on]

theorem State.moves_shutIn (s : State) (b : Nat) : State.Moves (OffBay b) b s (s.shutIn b) :=
  (s.moves_markVid b).trans (State.moves_modBay _ b _)

theorem State.bay_shutIn (s : State) (b : Nat) : (s.shutIn b).bay b = ((s.markVid b).bay b).toFenced := by
  rw [State.shutIn, State.bay_modBay]

theorem Bay.st_ph_toFenced (v : Bay) (q : Bool) : (v.toFenced.ph q).st = (v.ph q).off.st := by cases q <;> rfl

theorem State.ph_shutIn {q : Bool} (on : ((s.bay b).ph q).st.out = false) : (((s.shutIn b).bay b).ph q).st = .cold := by
  have stays := s.stays_markVid b
  rw [State.bay_shutIn, Bay.st_ph_toFenced, stays.ph, Phase.st_off on]

/-- RUN starts phase 0, and where that is out phase 1 (R430). -/
theorem Bay.toRun_first {v : Bay} (on : v.p0.st.out = false) : v.toRun.st = .run ∧ v.toRun.p0.st = .active ∧ v.toRun.p1 = v.p1 := by
  rw [Bay.toRun, on]
  exact ⟨rfl, Phase.st_run on false, rfl⟩

theorem Bay.toRun_second {v : Bay} (out : v.p0.st.out = true) (on : v.p1.st.out = false) :
    v.toRun.st = .run ∧ v.toRun.p1.st = .active ∧ v.toRun.p0 = v.p0 := by
  rw [Bay.toRun, out, on]
  exact ⟨rfl, Phase.st_run on false, rfl⟩

theorem State.moves_startRun (s : State) (b : Nat) : State.Moves (OffBay b) b s (s.startRun b) :=
  (s.moves_markVid b).trans (State.moves_modBay _ b _)

theorem State.startRun_first (on : (s.bay b).p0.st.out = false) :
    ((s.startRun b).bay b).st = .run ∧ ((s.startRun b).bay b).p0.st = .active ∧ ((s.startRun b).bay b).p1 = (s.bay b).p1 := by
  have stays := s.stays_markVid b
  rw [State.startRun, State.bay_modBay, ← stays.p1]
  exact Bay.toRun_first (by rw [stays.p0, on])

theorem State.startRun_second (out : (s.bay b).p0.st.out = true) (on : (s.bay b).p1.st.out = false) :
    ((s.startRun b).bay b).st = .run ∧ ((s.startRun b).bay b).p1.st = .active ∧ ((s.startRun b).bay b).p0 = (s.bay b).p0 := by
  have stays := s.stays_markVid b
  rw [State.startRun, State.bay_modBay, ← stays.p0]
  exact Bay.toRun_second (by rw [stays.p0, out]) (by rw [stays.p1, on])

theorem State.moves_unfence (s : State) (b : Nat) : State.Moves (OffBay b) b s (s.unfence b) := s.moves_modBay b _

theorem State.bay_unfence (s : State) (b : Nat) :
    ((s.unfence b).bay b).st = .off ∧ ((s.unfence b).bay b).yard = (Config.serviceYard b).getD 127 := by
  rw [State.unfence, State.bay_modBay]
  exact ⟨rfl, rfl⟩

theorem segments_page {y : Nat} (h : y < Config.yardCount) : (YRD_SEGMENTS.SEG y).addr / 0x1000 ∈ yardPages ++ faultPages := by
  refine List.mem_append_left _ ?_
  simp only [Config.yardCount] at h
  simp only [yardPages, YRD_SEGMENTS.SEG, List.mem_map, List.mem_range]
  exact ⟨y / 16, by omega, by omega⟩

/-- The segments of the yard that a released bay leaves. -/
theorem State.checks_leaves (s : State) (y : Nat) : s.Checks (if y < Config.yardCount then s.refreshSegments y else s) := by
  split
  next known => exact s.checks_put _ _ (segments_page known)
  next => exact .refl s

/-- What follows a release leaves the bay's state and yard. -/
theorem State.afterRelease_spec (s : State) (b y : Nat) :
    State.Moves (OffBay b) b s (s.afterRelease b y) ∧
      ((s.afterRelease b y).bay b).st = (s.bay b).st ∧ ((s.afterRelease b y).bay b).yard = (s.bay b).yard ∧
      (s.afterRelease b y).get (BAY_STATE.STATE b) = s.get (BAY_STATE.STATE b) := by
  have leaves := s.checks_leaves y
  unfold State.afterRelease
  revert leaves
  generalize (if y < Config.yardCount then s.refreshSegments y else s) = u
  intro leaves
  have bay : u.bay b = s.bay b := by simp only [State.bay, leaves.bays]
  have state : u.get (BAY_STATE.STATE b) = s.get (BAY_STATE.STATE b) :=
    leaves.get_bay b 4 (by simp only [BAY_STATE.STATE]; omega)
  have left : State.Moves (OffBay b) b s u := leaves.moves b
  have rests : State.Moves (OffBay b) b s u ∧ (u.bay b).st = (s.bay b).st ∧ (u.bay b).yard = (s.bay b).yard ∧
      u.get (BAY_STATE.STATE b) = s.get (BAY_STATE.STATE b) := ⟨left, by rw [bay], by rw [bay], state⟩
  dsimp only
  split
  · split
    · refine ⟨left.trans (u.moves_modBay b _), ?_, ?_, state⟩ <;> rw [State.bay_modBay, bay]
    · exact rests
  · exact rests

end

/-- Settles O22: each order by the state its effect leaves the bay in; Oteus's record is taken from it. -/
theorem bayStateOrdersMoveTheBay : Obligations.BayStateOrdersMoveTheBay := by
  unfold Obligations.BayStateOrdersMoveTheBay
  refine ⟨?off, ?ready, ?run, ?runSecond, ?heat, ?fence, ?release⟩
  case off =>
    intro seg slot crc b s right slotted listens open_ own there
    refine ⟨_, exec_bayStateOff .., ?_⟩
    rw [decodeOff_reaches right slotted listens open_ own there]
    have moves := (s.moves_decoded b seg (withCrc (bayStateWord slot 0) crc)).trans (State.moves_switchOff _ b)
    obtain ⟨st, state, others, pages, mem⟩ := moves.recorded (State.st_switchOff _ b) (st := .off) (by decide)
    have ref (f : Fld) (addr : f.addr = (BAY_REF.reg b).addr) (u : State) : (s.answered (u.recBay b)).get f = u.get f :=
      (State.get_answered_bay s _ b 0x18 (by rw [addr]; simp only [BAY_REF.reg]; omega)).trans (u.get_recBay_ref b addr)
    exact ⟨st, state, others, pages, mem, (ref (BAY_REF.TRIM b) rfl _).trans (State.get_switchOff_trim _ b),
      (ref (BAY_REF.VID_NOW b) rfl _).trans (State.get_switchOff_vidNow _ b)⟩
  case ready =>
    intro seg slot crc b s right slotted listens from_
    refine ⟨_, exec_bayStateReady .., ?_⟩
    rw [decodeReady_reaches right slotted listens from_]
    have moves := (s.moves_decoded b seg (withCrc (bayStateWord slot 1) crc)).trans (State.moves_makeReady _ b)
    exact moves.recorded (State.st_makeReady _ b) (st := .ready) (by decide)
  case run =>
    intro seg slot crc b s right slotted listens from_ on
    refine ⟨_, exec_bayStateRun .., ?_⟩
    rw [decodeRun_reaches right slotted listens from_]
    have moves := (s.moves_decoded b seg (withCrc (bayStateWord slot 2) crc)).trans (State.moves_startRun _ b)
    obtain ⟨runs, active, other⟩ := State.startRun_first (s := s.decoded seg (withCrc (bayStateWord slot 2) crc)) (b := b) on
    obtain ⟨st, state, others, pages, mem⟩ := moves.recorded runs (st := .run) (by decide)
    have bay := State.bay_recorded s ((s.decoded seg (withCrc (bayStateWord slot 2) crc)).startRun b) b
    exact ⟨st, state, others, pages, mem, (congrArg (·.p0.st) bay).trans active, (congrArg Bay.p1 bay).trans other⟩
  case runSecond =>
    intro seg slot crc b s right slotted listens from_ out on
    refine ⟨_, exec_bayStateRun .., ?_⟩
    rw [decodeRun_reaches right slotted listens from_]
    have moves := (s.moves_decoded b seg (withCrc (bayStateWord slot 2) crc)).trans (State.moves_startRun _ b)
    obtain ⟨runs, active, other⟩ := State.startRun_second (s := s.decoded seg (withCrc (bayStateWord slot 2) crc)) (b := b) out on
    obtain ⟨st, state, others, pages, mem⟩ := moves.recorded runs (st := .run) (by decide)
    have bay := State.bay_recorded s ((s.decoded seg (withCrc (bayStateWord slot 2) crc)).startRun b) b
    exact ⟨st, state, others, pages, mem, (congrArg (·.p1.st) bay).trans active, (congrArg Bay.p0 bay).trans other⟩
  case heat =>
    intro seg slot crc b s right slotted listens from_
    refine ⟨_, exec_bayStateHeat .., ?_⟩
    rw [decodeHeat_reaches right slotted listens from_]
    have moves := (s.moves_decoded b seg (withCrc (bayStateWord slot 3) crc)).trans (State.moves_warmUp _ b)
    obtain ⟨st, state, others, pages, mem⟩ := moves.recorded (congrArg Bay.st (State.bay_warmUp _ b)) (st := .heat) (by decide)
    have bay := State.bay_recorded s ((s.decoded seg (withCrc (bayStateWord slot 3) crc)).warmUp b) b
    exact ⟨st, state, others, pages, mem, fun free ph on => (congrArg (fun v => (v.ph ph).st) bay).trans (State.ph_warmUp (s := s.decoded seg _) free on)⟩
  case fence =>
    intro seg slot crc b s right slotted listens open_ own there
    refine ⟨_, exec_bayStateFence .., ?_⟩
    rw [decodeFence_reaches right slotted listens open_ own there]
    have moves := (s.moves_decoded b seg (withCrc (bayStateWord slot 4) crc)).trans (State.moves_shutIn _ b)
    obtain ⟨st, state, others, pages, mem⟩ := moves.recorded (congrArg Bay.st (State.bay_shutIn _ b)) (st := .fenced) (by decide)
    have bay := State.bay_recorded s ((s.decoded seg (withCrc (bayStateWord slot 4) crc)).shutIn b) b
    exact ⟨st, state, others, pages, mem, fun ph on => (congrArg (fun v => (v.ph ph).st) bay).trans (State.ph_shutIn (s := s.decoded seg _) on)⟩
  case release =>
    intro seg slot crc b s right slotted listens fenced p0 p1 ph0 ph1 rests
    refine ⟨_, exec_bayStateRelease .., ?_⟩
    rw [decodeRelease_reaches right slotted listens fenced p0 p1 ph0 ph1 rests]
    obtain ⟨off, yard⟩ := State.bay_unfence (s.decoded seg (withCrc (bayStateWord slot 5) crc)) b
    have shown := State.get_recBay_state ((s.decoded seg (withCrc (bayStateWord slot 5) crc)).unfence b) b (by rw [off]; decide)
    have before := ((s.moves_decoded b seg (withCrc (bayStateWord slot 5) crc)).trans (State.moves_unfence _ b)).trans (State.moves_recBay _ b)
    obtain ⟨moves, st, lent, state⟩ := State.afterRelease_spec
      (((s.decoded seg (withCrc (bayStateWord slot 5) crc)).unfence b).recBay b) b (s.bay b).yard
    rw [State.bay_recBay] at st lent
    rw [off] at shown
    obtain ⟨is, reads, others, pages, mem⟩ := (before.trans moves).shows (st.trans off) (state.trans shown)
    exact ⟨is, reads, others, pages, mem, by rw [State.answered_bay, lent, yard]⟩

end Sys2Proof.Machine
end

section
/-!
SUPPORT. What a supervision job leaves of a yard's points (R92, R192), read in a state whose yard holds more points than FAR_ZP has
registers for. Obligation SharingAndSupervisionJobsRun.
-/

namespace Sys2Proof.Machine

theorem exec_supervisionJob (y lane : Nat) (ok : Bool) (s : State) :
    exec (.supervisionJob y lane ok) s = .next (s.answered (supervisionEff y lane ok s)) := rfl

theorem State.d_superPoint (s : State) (y p : Nat) (pt : Point) : (s.superPoint y p pt).d = s.dropOf y p (s.yard y).iy := by
  unfold State.superPoint
  dsimp only
  split <;> rfl

theorem State.pts_missedSup (s : State) (y : Nat) : ((s.missedSup y).yard y).pts = (s.yard y).pts := by
  unfold State.missedSup
  split
  · split
    · rw [State.bumpBy, State.yard_put, State.yard_setYard, if_pos rfl]
    · rfl
  · rfl

theorem State.pts_markSup (s : State) (y : Nat) : ((s.markSup y).yard y).pts = (s.yard y).pts := by
  rw [State.markSup, State.yard_setYard, if_pos rfl]
  exact s.pts_missedSup y

theorem State.pts_meterYard (s : State) (y : Nat) (prod : Int) : ((s.meterYard y prod).yard y).pts = (s.yard y).pts := by
  rw [State.meterYard, State.yard_setYard, if_pos rfl, State.yard_setRail]

/-- A job with a right residue computes every point from the state in which its misses have been counted. -/
theorem pts_supervisionEff {s : State} {y : Nat} (ready : s.supReady y = true) (turn : s.supTurn y = true) (lane : Nat) :
    ((supervisionEff y lane true s).yard y).pts = (s.yard y).pts.zipIdx.map fun x => (s.markSup y).superPoint y x.2 x.1 := by
  rw [supervisionEff, if_neg (by simp [ready, turn]), if_neg (by simp), State.pts_meterYard, State.yard_setYard, if_pos rfl]
  exact congrArg (fun l => l.zipIdx.map fun x => (s.markSup y).superPoint y x.2 x.1) (s.pts_markSup y)

/-- A yard with 5767 points and current, where the model builds four; its last job lies at the start of time. -/
def crowdedYard : Yard := { pts := List.replicate 5767 {}, iy := 65536, supAt := some 0 }

theorem last_crowdedYard : crowdedYard.pts.zipIdx[5766]? = some (({ v := 0 } : Point), 5766) := by
  rw [crowdedYard, List.getElem?_zipIdx, List.getElem?_replicate_of_lt (by decide)]
  rfl

/-- Yard 0 is that yard, in D0 with bay 0 in RUN, two periods of 240 ns later: it has missed one job. -/
def crowded : State :=
  { ((State.reset.put (BAY_STATE.STATE 0) 3).put (PWS_DOM.STATE 0) 0).setYard 0 crowdedYard with mono := 960 }

theorem yard_crowded : crowded.yard 0 = crowdedYard := by
  exact (State.yard_setYard _ 0 0 crowdedYard).trans (if_pos rfl)

/-- FAR_ZP.ZP of point 5766 lies at the address of TIL_CNT_SUPMISS, which the missed job moves from 0 to 1. -/
theorem dropOf_crowded : crowded.dropOf 0 5766 (crowded.yard 0).iy = 0 := by decide +kernel
theorem dropOf_markSup_crowded : (crowded.markSup 0).dropOf 0 5766 ((crowded.markSup 0).yard 0).iy = 1 := by decide +kernel

/-- Refutes O28: a yard may hold any number of points, and the expected drop of the 5767th is read from TIL_CNT_SUPMISS after the
job has counted what was missed there, not before. -/
theorem not_sharingAndSupervisionJobsRun : ¬ Obligations.SharingAndSupervisionJobsRun := by
  unfold Obligations.SharingAndSupervisionJobsRun
  rintro ⟨-, -, -, -, -, -, -, -, supervision, -⟩
  have ready : crowded.supReady 0 = true := by decide +kernel
  have turn : crowded.supTurn 0 = true := by decide +kernel
  obtain ⟨t, answer, points, -⟩ := supervision 0 0 crowded ready turn
  cases (exec_supervisionJob 0 0 true crowded).symm.trans answer
  rw [State.answered_yard, pts_supervisionEff ready turn, yard_crowded] at points
  have drop := congrArg (fun l : List Point => l[5766]?.map Point.d) points
  simp only [List.getElem?_map, last_crowdedYard, Option.map_some, State.d_superPoint, Option.some.injEq] at drop
  rw [dropOf_markSup_crowded, dropOf_crowded] at drop
  exact absurd drop (by decide)

end Sys2Proof.Machine
end
